-- ==== Sys2Proof/Word.lean ====
section
/-! DEFINITION. The word types of the register space, and the two small descriptors by which the model names a register
field and a row of the manual's register tables. -/

namespace Sys2Proof

/-- A register or memory word of 32 bits (R417, R424). -/
abbrev Word := BitVec 32

/-- One byte (R6: every multi-byte field is little-endian). -/
abbrev Byte := BitVec 8

/-- Sparse data by key, in one canonical form: keys strictly rising, no entry equal to its default. -/
abbrev Sparse (α : Type) := List (Nat × α)

/-- One field of a register: the register's absolute address, the field's lowest bit and its width. -/
structure FReg where
  addr : Nat
  lo : Nat
  w : Nat
  deriving DecidableEq, Repr

/-- One row of the manual's register tables: `count` registers from `base` at a distance of `stride`, their reset value,
and for each access type of R4 the mask of the bits that carry it. A bit in no mask is reserved or RO. -/
structure RegRow where
  base : Nat
  stride : Nat
  count : Nat
  reset : Nat
  rw : Nat
  w1c : Nat
  w1s : Nat
  wo : Nat
  rc : Nat
  rwh : Nat
  ro : Nat
  deriving DecidableEq, Repr

/-- One sample pair of a bank converter (R195): the current conversion's stamp in ticks since the shot's start, current and coil voltage in
LSB, and whether the low-side switch has stayed on since the sample before it. -/
structure Sample where
  t : Nat
  i : Int
  v : Int
  on : Bool
  deriving DecidableEq, Repr

/-- The stamp of the pair's voltage conversion, which follows the current conversion by 25 ns (R195). -/
def Sample.tv (x : Sample) : Nat := x.t + 10

/-- The sample pairs that a channel's record closes with. -/
structure ChannelSamples where
  channel : Fin 48
  samples : List Sample
  deriving DecidableEq, Repr

/-- Whether a write to MRAM read back right, and whether its one retry did (R215). -/
structure WriteTries where
  readBack : Bool
  retry : Bool
  deriving DecidableEq, Repr

/-- Either of the two reads back right. -/
def WriteTries.held (w : WriteTries) : Bool := w.readBack || w.retry

/-- The ARB line as filtered, and the channels that stood above VBOOST in the tick before it changed (R237, R252). -/
structure ArbReading where
  level : Bool
  above : BitVec 48
  deriving DecidableEq, Repr

/-- The moment T_H − 0.1 µs, `dt` ticks on, and the channels that stand above VBOOST then (R250). -/
structure HoldMoment where
  dt : Nat
  above : BitVec 48
  deriving DecidableEq, Repr

/-- A Floe cell (R221). -/
structure Cell where
  dst : Nat
  src : Nat
  typ : Nat
  hops : Nat
  prio : Nat
  seq : Nat
  mc : Bool
  bc : Bool
  /-- LEN payload bytes. -/
  payload : List Byte
  deriving DecidableEq, Repr

/-- What the wake detectors see up to the tick of a WAKE_SOURCE (R220, R323, R324, R364). Times are in ticks of 2.5 ns. -/
structure WakeLines where
  /-- How long KEY, START and WAKE have stood high. -/
  key : Nat := 0
  start : Nat := 0
  wake : Nat := 0
  /-- The phases on CAN0_RX and CAN1_RX, a dominant one first, then alternately. -/
  can0 : List Nat := []
  can1 : List Nat := []
  /-- How long there has been activity on 10BASE-T1S. -/
  t1s : Nat := 0
  /-- For how long training has been received, by port. -/
  flo : List Nat := []
  /-- VAON has been lost; the seal has changed; edges on GP0–GP3. -/
  vaonLost : Bool := false
  sealMoved : Bool := false
  rise : BitVec 4 := 0
  fall : BitVec 4 := 0
  deriving DecidableEq, Repr

end Sys2Proof
end

