-- ==== Sys2Proof/Syntax.lean ====
section
/-! DEFINITION. The commands of the device: one constructor for each row of the table of operations and events. A row of the kind
event carries `dt`, the time in TCLK ticks (2.5 ns) since the command before it; measured quantities stand as operands. -/

namespace Sys2Proof

/-- The commands (spec/opcode_table.json, in its order). -/
inductive Instr where
  /-- PING (R282): Opcode 0x0100 returns SYS_STATE, SYS_STAT and SYS_FAULT. -/
  | ping (port : Fin 5)
  /-- INFO (R282): Opcode 0x0101 returns the identifier, revision, firmware version and serial number. -/
  | info (port : Fin 5)
  /-- SLEEP (R319): Opcode 0x0102 requests Frost entry; it is accepted only in IDLE with the tracker STOPPED and no level wake source asserted. -/
  | sleep (port : Fin 5)
  /-- STOP (R447): Opcode 0x0103 enters SHUTDOWN from RUNNING or returns ARMED to IDLE with REARM_WAIT set. -/
  | stop (port : Fin 5)
  /-- SAFE (R282): Opcode 0x0104 sets SYS_FAULT.CMD, which enters SAFE by default. -/
  | safe (port : Fin 5)
  /-- CLEAR_FAULT (R15): Opcode 0x0105 clears the named SYS_FAULT bits and leaves SAFE when the conditions of R15 hold. -/
  | clearFault (port : Fin 5)
  /-- JOB_STATUS (R270): Opcode 0x0106 reports the state and final status of a job. -/
  | jobStatus (port : Fin 5)
  /-- BENCH_ENTER (R15): Sealed opcode 0x0107 enters BENCH from IDLE with the tracker STOPPED. -/
  | benchEnter (port : Fin 5)
  /-- BENCH_EXIT (R396): Opcode 0x0108 stops tests, saves the always-on settings, reloads the calibration and enters IDLE. -/
  | benchExit (port : Fin 5)
  /-- HOST_TIMEOUT (R286): Opcode 0x0109 writes PKT_HOSTTIMEOUT within 10–65,535 ms. -/
  | hostTimeout (port : Fin 5)
  /-- SYS_SET (R282): Opcode 0x010A writes SYS_FAULTCFG and SYS_HOSTLOSS. -/
  | sysSet (port : Fin 5)
  /-- WHL_SET (R51): Sealed opcode 0x0200 writes an input's front end, filters, window and pulse-width settings. -/
  | whlSet (port : Fin 5)
  /-- WD_SET (R50): Sealed opcode 0x0201 writes a wheel description after the checks of R44–R50. -/
  | wdSet (port : Fin 5)
  /-- TRK_SET (R282): Sealed opcode 0x0202 writes a tracker's control, synchronisation, prediction, learning and stop parameters. -/
  | trkSet (port : Fin 5)
  /-- LOAD_BUCKET (R79): Opcode 0x0203 writes TRK_x_LOAD.BUCKET for the next cycle wrap. -/
  | loadBucket (port : Fin 5)
  /-- TBL_READ (R83): Opcode 0x0204 returns profile or speed-model table entries. -/
  | tblRead (port : Fin 5)
  /-- TBL_WRITE (R83): Sealed opcode 0x0205 writes table entries; the write is dropped while that table learns. -/
  | tblWrite (port : Fin 5)
  /-- RESYNC (R61): Opcode 0x0206 sends the named trackers that are not STOPPED to SEEK. -/
  | resync (port : Fin 5)
  /-- VOTE_SET (R282): Sealed opcode 0x0207 writes TRK_VOTE and TRK_VSEL. -/
  | voteSet (port : Fin 5)
  /-- CYL_SET (R99): Sealed opcode 0x0300 writes a cylinder entry, with the slot-range rules. -/
  | cylSet (port : Fin 5)
  /-- SCH_SET (R282): Opcode 0x0301 writes SCH_CTRL and SCH_PREP. -/
  | schSet (port : Fin 5)
  /-- SLOT_READ (R282): Opcode 0x0302 returns shadow or active slot descriptors. -/
  | slotRead (port : Fin 5)
  /-- SET_WRITE (R125): Fast-path opcode 0x03F0 writes the shadow slots of one cylinder in a transaction, and closes the transaction when CLOSE is set. -/
  | setWrite
  /-- SET_CLOSE (R126): Fast-path opcode 0x03F1 closes the transactions of the named cylinders that pass R104. -/
  | setClose
  /-- SET_ABORT (R126): Fast-path opcode 0x03F2 restores the shadow from the active range and closes any transaction on the named cylinders. -/
  | setAbort
  /-- SHOT_CANCEL (R127): Fast-path opcode 0x03F3 cancels armed slots of a cylinder that have not started. -/
  | shotCancel
  /-- DEMAND (R128): Fast-path opcode 0x03F4 writes the demand into SCH_DEM0–SCH_DEM3. -/
  | demand
  /-- PRF_SET (R193): Sealed opcode 0x0400 writes a profile and applies it after checking. -/
  | prfSet (port : Fin 5)
  /-- DRV_CTRL (R282): Opcode 0x0401 writes DRV_CTRL. -/
  | drvCtrl (port : Fin 5)
  /-- DRV_SET (R162): Sealed opcode 0x0402 writes the converter, diagnostic, standby, die and bank settings. -/
  | drvSet (port : Fin 5)
  /-- CH_SET (R282): Sealed opcode 0x0403 writes DRV_CHn_CFG and WIT_CHn_CFG. -/
  | chSet (port : Fin 5)
  /-- THERM_SET (R282): Sealed opcode 0x0404 writes a coil thermal parameter set. -/
  | thermSet (port : Fin 5)
  /-- DRV_CLEAR (R154): Opcode 0x0405 clears latched channel, bank and DRV_STAT fault flags. -/
  | drvClear (port : Fin 5)
  /-- AMB (R168): Opcode 0x0406 writes DRV_AMB.AMB and restarts its 10 s staleness timer. -/
  | amb (port : Fin 5)
  /-- OUTPUT_TEST (R401): Sealed opcode 0x0407 starts the output self-test of one channel in BENCH. -/
  | outputTest (port : Fin 5)
  /-- STREAM (R209): Opcode 0x0500 enables or disables record streaming and sets OMASK. -/
  | stream (port : Fin 5)
  /-- REC_READ (R209): Opcode 0x0501 returns records from the ring by sequence number. -/
  | recRead (port : Fin 5)
  /-- WAVE_ARM (R211): Opcode 0x0503 arms a waveform capture of the next shot on a channel. -/
  | waveArm (port : Fin 5)
  /-- WAVE_READ (R282): Opcode 0x0504 returns captured sample pairs. -/
  | waveRead (port : Fin 5)
  /-- DIGEST_READ (R282): Opcode 0x0505 returns stored digests by INDEX. -/
  | digestRead (port : Fin 5)
  /-- CHAIN_HEAD (R216): Opcode 0x0506 returns the chain index, the epoch and the head. -/
  | chainHead (port : Fin 5)
  /-- ATTEST (R308): Opcode 0x0507 starts a job that forms and signs an attestation report over a nonce. -/
  | attest (port : Fin 5)
  /-- WIT_SET (R282): Sealed opcode 0x0508 writes WIT_CTRL, WIT_CORR and WIT_OBS. -/
  | witSet (port : Fin 5)
  /-- DET_SET (R282): Sealed opcode 0x0509 writes a detection set. -/
  | detSet (port : Fin 5)
  /-- FLO_SET (R282): Sealed opcode 0x0600 writes the Floe, pair, system and port settings. -/
  | floSet (port : Fin 5)
  /-- HANDOVER (R248): Opcode 0x0601 asks the cope for a planned handover with reason 6. -/
  | handover (port : Fin 5)
  /-- ROUTE_SET (R261): Opcode 0x0602 writes routing-table words when the node has authority. -/
  | routeSet (port : Fin 5)
  /-- MC_SET (R261): Opcode 0x0603 writes multicast masks when the node has authority. -/
  | mcSet (port : Fin 5)
  /-- LTRIM (R262): Opcode 0x0604 sets a domain's load-share trim when the node has authority. -/
  | ltrim (port : Fin 5)
  /-- FORWARD (R281): Opcode 0x0605 sends a wrapped packet to another node over Floe as a job. -/
  | forward (port : Fin 5)
  /-- VLIST_SET (R282): Sealed opcode 0x0606 writes the voter list. -/
  | vlistSet (port : Fin 5)
  /-- SEAL_STATUS (R301): Opcode 0x0700 returns the seal levels and SEC_STAT. -/
  | sealStatus (port : Fin 5)
  /-- CERT_READ (R299): Opcode 0x0701 returns part of a certificate, key record or report object. -/
  | certRead (port : Fin 5)
  /-- IMAGE_LOAD (R295): Fragmented opcode 0x0702 writes an image into the inactive slot and verifies it after the last fragment. -/
  | imageLoad (port : Fin 5)
  /-- IMAGE_ACTIVATE (R296): Opcode 0x0703 starts a presence job that makes the inactive slot active as a trial and resets the device. -/
  | imageActivate (port : Fin 5)
  /-- CAL_LOAD (R303): Fragmented opcode 0x0704 loads a calibration package as a job. -/
  | calLoad (port : Fin 5)
  /-- KEY_ENROL (R306): Opcode 0x0705 enrols, replaces or removes a customer key after presence. -/
  | keyEnrol (port : Fin 5)
  /-- DECOMMISSION (R307): Opcode 0x0706 erases the customer keys and the calibration and advances the epoch after presence. -/
  | decommission (port : Fin 5)
  /-- REG_READ (R283): Opcode 0x0800 reads consecutive register or host-area words. -/
  | regRead (port : Fin 5)
  /-- REG_WRITE (R283): Opcode 0x0801 writes consecutive words under the ownership rules. -/
  | regWrite (port : Fin 5)
  /-- LOOPBACK (R399): Opcode 0x0900 starts a loop-back job on one interface at a given depth. -/
  | loopback (port : Fin 5)
  /-- SIM (R53): Opcode 0x0901 writes the seven simulator registers in BENCH. -/
  | sim (port : Fin 5)
  /-- SELFTEST (R404): Opcode 0x0902 starts the depth-0 self-test job of all interfaces and converters. -/
  | selftest (port : Fin 5)
  /-- SPI_PACKET_WRITE (R273): An SPI transfer with command 0xC7 delivers a packet, which is dropped if CS cuts it short. -/
  | spiPacketWrite (dt : Nat) (bytes : List Byte) (clocked : Nat) (mode3 : Bool)
  /-- SPI_PACKET_READ (R273): An SPI transfer with command 0x3C shifts out the head of the outbound queue. -/
  | spiPacketRead (dt : Nat) (clocks : Nat) (mode3 : Bool)
  /-- SPI_REG_READ (R274): An SPI register-mode read, command 0xA1, returns a word with status and CRC. -/
  | spiRegRead (dt : Nat) (bytes : List Byte) (mode3 : Bool)
  /-- SPI_REG_WRITE (R274): An SPI register-mode write, command 0xA2, writes a word and records its status. -/
  | spiRegWrite (dt : Nat) (bytes : List Byte) (mode3 : Bool)
  /-- SPI_UNKNOWN_COMMAND (R272): An unrecognised SPI command byte is ignored up to the CS rise and counted. -/
  | spiUnknownCommand (dt : Nat) (command : Byte) (mode3 : Bool)
  /-- CAN_FRAME_RX (R277): A CAN frame with this controller's identifier is taken into packet reassembly. -/
  | canFrameRx (dt : Nat) (ctl : Fin 2) (extended : Bool) (ident : BitVec 29) (data : List Byte)
  /-- CAN_REASM_TIMEOUT (R277): 100 ms without a frame discards a partial CAN packet. -/
  | canReasmTimeout (dt : Nat) (ctl : Fin 2)
  /-- T1S_FRAME_RX (R279): A 10BASE-T1S frame to this MAC address with EtherType 0x88B5 delivers one packet. -/
  | t1sFrameRx (dt : Nat) (dest : List Byte) (source : List Byte) (etherType : Nat) (fcsOk : Bool) (payload : List Byte)
  /-- FRAGMENT_TIMEOUT (R269): 1 s without a fragment discards an open transfer. -/
  | fragmentTimeout (dt : Nat) (port : Fin 5)
  /-- PRESENCE_TIMEOUT (R285): 30 s without the seal being closed and reopened ends a presence job with SEAL_TIMEOUT. -/
  | presenceTimeout (dt : Nat)
  /-- FORWARD_TIMEOUT (R281): 100 ms without a remote reply ends a FORWARD job with BUSY. -/
  | forwardTimeout (dt : Nat) (job : Fin 256)
  /-- STREAM_NOTICE (R209): The device sends closed records in sequence as REC_NOTICE packets when the port has room. -/
  | streamNotice (dt : Nat)
  /-- ATTEST_DONE (R308): Signing completes, and the report is stored as object 16 and sent in the final reply. -/
  | attestDone (dt : Nat)
  /-- IMAGE_LOAD_DONE (R295): Verification of the loaded slot completes and gives the final reply. -/
  | imageLoadDone (dt : Nat)
  /-- ACTIVATE_DONE (R296): After presence, re-verification completes and the boot record is written with TRIAL set. -/
  | activateDone (dt : Nat)
  /-- UPDATE_RESET (R296): 10 ms after the activation reply, the device resets with cause UPDATE. -/
  | updateReset (dt : Nat)
  /-- CAL_LOAD_DONE (R303): The checks of a calibration package complete, and the package replaces the store and is loaded, or is refused. -/
  | calLoadDone (dt : Nat)
  /-- KEY_ENROL_DONE (R306): After presence, the key record is checked and a key slot is enrolled, replaced or removed. -/
  | keyEnrolDone (dt : Nat)
  /-- DECOMMISSION_DONE (R307): After presence, the keys and the calibration are erased and the epoch advances. -/
  | decommissionDone (dt : Nat)
  /-- LOOPBACK_UNIT_RETURN (R399): A loop-back unit returns, is compared with its pattern, and the next unit is sent. -/
  | loopbackUnitReturn (dt : Nat) (good : Bool) (reading : Nat)
  /-- LOOPBACK_UNIT_TIMEOUT (R399): 10 ms without a unit's return counts it as lost and sends the next unit. -/
  | loopbackUnitTimeout (dt : Nat)
  /-- LOOPBACK_DONE (R399): The last loop-back unit ends and the final reply reports the counts. -/
  | loopbackDone (dt : Nat)
  /-- SELFTEST_DONE (R404): The self-test items complete and the failure mask is reported. -/
  | selftestDone (dt : Nat) (failed : BitVec 20)
  /-- OUTPUT_TEST_RAMP_END (R402): The test current reaches ITEST and the hold begins, or TRAMP expires and the test ends with NO_RISE. -/
  | outputTestRampEnd (dt : Nat) (reached : Bool) (vdt : Nat) (idt : Nat) (current : Nat)
  /-- OUTPUT_TEST_HOLD_END (R403): HOLD_T expires, the coil decays, and R, L and RESULT are computed and replied. -/
  | outputTestHoldEnd (dt : Nat) (meanV : Nat) (meanI : Nat)
  /-- REGISTER_WRITE (R4): A write to a register field with no row of its own acts by its access type, with the reserved-bit and ownership rules. -/
  | registerWrite (host : Bool) (address : BitVec 32) (value : Word)
  /-- SYS_FAULT_CLEAR (R444): A W1C write to SYS_FAULT clears each bit whose cause has ended. -/
  | sysFaultClear (mask : Word)
  /-- TXN_OPEN (R109): Writing 1 to a bit of SCH_TXN opens a transaction on that cylinder. -/
  | txnOpen (cyl : Fin 24)
  /-- TXN_CLOSE (R110): A write to SCH_TXN_CLOSE closes transactions that pass R103 and R104, and leaves the others open. -/
  | txnClose (cyl : Fin 24)
  /-- TXN_ABORT (R109): A write to SCH_TXN_ABORT copies the active range back to the shadow and closes any transaction. -/
  | txnAbort (cyl : Fin 24)
  /-- REFRESH (R135): A write to SCH_REFRESH clears AUTO_CNT and restores normal commits. -/
  | refresh
  /-- SHADOW_SLOT_WRITE (R103): A direct write to a shadow slot word in BENCH is stored unchecked until close or commit. -/
  | shadowSlotWrite (slot : Fin 2048) (word : Fin 4) (value : Word)
  /-- TBL_DATA_ACCESS (R83): An access to TRK_x_TBLD reads or writes a table entry, is dropped while learning, and may increment the index. -/
  | tblDataAccess (trk : Fin 2) (write : Bool) (value : Word)
  /-- BUCKET_UNTRAIN (R81): Writing 1 to a TRAINED bit untrains that bucket and restarts its count. -/
  | bucketUntrain (trk : Fin 2) (buckets : BitVec 8)
  /-- TRK_CTRL_RESYNC (R61): Writing 1 to TRK_x_CTRL.RESYNC sends a tracker that is not STOPPED to SEEK. -/
  | trkCtrlResync (trk : Fin 2)
  /-- PRF_APPLY (R193): Writing 1 to a bit of PRF_APPLY checks a shadow profile and copies it to the active copy. -/
  | prfApply (profile : Fin 16)
  /-- QUENCH (R173): Writing 1 to DRV_CTRL.QUENCH sends every running channel to END. -/
  | quench
  /-- STANDBY_CHANGE (R158): A change of DRV_CTRL.STBY or DRV_CHn_CFG.STBY puts channels into standby or takes them out. -/
  | standbyChange (channel : Option (Fin 48)) (standby : Bool)
  /-- WIT_CORR_WRITE (R204): A write to WIT_CHn_CORR sets D and wins over an update in the same tick. -/
  | witCorrWrite (channel : Fin 48) (value : BitVec 16)
  /-- WIT_WAVE_ARM (R211): Writing 1 to WIT_WAVE.ARM arms a capture, and the write is dropped during a capture. -/
  | witWaveArm (channel : Fin 48)
  /-- SIM_CTRL_WRITE (R53): A write to WHL_SIM_CTRL in BENCH enables, runs or stops the wheel simulator. -/
  | simCtrlWrite (value : Word)
  /-- SIM_DROP (R56): Writing DROP asks the simulator to omit the next DROP_N crank teeth. -/
  | simDrop (count : BitVec 8)
  /-- SIM_EXTRA (R56): Writing EXTRA asks the simulator to insert one spurious crank edge. -/
  | simExtra
  /-- SIM_FLIP (R56): Writing FLIP asks the simulator to invert the direction at the next crank tooth. -/
  | simFlip
  /-- SLEEP_COMMIT (R320): Writing PWR_SLEEP.COMMIT samples the wake sources and enters Frost or aborts. -/
  | sleepCommit (dt : Nat)
  /-- OP_REQUEST (R349): A write to CLK_OPREQ sets the target operating point, limited by the calving cap. -/
  | opRequest (point : Fin 4)
  /-- GATE_WRITE (R353): A write to CLK_GATE0 or CLK_GATE1 opens or closes block clocks under the ownership and state rules. -/
  | gateWrite (register : Fin 2) (value : Word) (host : Bool)
  /-- FMC_START (R354): Writing START opens a window of the frequency-measuring counter. -/
  | fmcStart (value : Word)
  /-- ACKNOWLEDGE (R359): A read of IRQ_ACKt returns the latched vector, clears its pending bit and sets its group active. -/
  | acknowledge (target : Fin 2)
  /-- EOI (R360): A write to IRQ_EOIt clears the most urgent active group. -/
  | eoi (target : Fin 2)
  /-- HOST_ACKNOWLEDGE (R361): A read of IRQ_HACKh acknowledges a host line's latched winner. -/
  | hostAcknowledge (line : Fin 2)
  /-- GROUP_WRITE (R363): A write to IRQ_GRPg delivers held events and applies new thresholds. -/
  | groupWrite (group : Fin 16) (value : Word)
  /-- DMA_EN_RISE (R365): Setting DMA_CHn_CTRL.EN checks the active set and starts the channel. -/
  | dmaEnRise (channel : Fin 16)
  /-- DMA_EN_CLEAR (R374): Clearing EN drops the channel at once and loses the data in flight. -/
  | dmaEnClear (channel : Fin 16)
  /-- SHADOW_VALID (R369): Writing 1 to SH_VALID makes a channel's shadow set ready for hand-over. -/
  | shadowValid (channel : Fin 16)
  /-- SHADOW_WRITE (R369): A write to a DMA shadow field is taken while SH_VALID = 0, and is dropped with SHADOW_DROP otherwise. -/
  | shadowWrite (channel : Fin 16) (word : Fin 4) (value : Word)
  /-- TIM_GSTART (R383): A write to TIM_GSTART starts the masked channels together at PHASE or at staggered phases. -/
  | timGstart (value : Word)
  /-- TIM_GSTOP (R383): A write to TIM_GSTOP clears EN on the masked channels in one tick. -/
  | timGstop (value : Word)
  /-- TIM_EN_WRITE (R375): A write of EN starts or stops one timer channel and restarts its prescaler. -/
  | timEnWrite (channel : Fin 16) (value : Bool)
  /-- TIM_PER_WRITE (R379): A PER write is held to the reload point or applied at once, with clipping. -/
  | timPerWrite (channel : Fin 16) (value : Word)
  /-- TIM_CMP_WRITE (R378): A CMP write takes effect from the next tick. -/
  | timCmpWrite (channel : Fin 16) (value : Word)
  /-- TIM_CNT_READ (R382): A read of an even channel's CNT of a linked pair latches the high half into HOLD. -/
  | timCntRead (channel : Fin 16)
  /-- TIM_CAP_READ (R380): A CAP read removes the oldest capture and latches the high half for a pair. -/
  | timCapRead (channel : Fin 16)
  /-- CONTEXT_EN (R392): A write of PAT_CTXc_CTRL.EN runs or halts a pattern-engine context. -/
  | contextEn (engine : Fin 2) (context : Fin 16) (value : Bool)
  /-- CONTEXT_RESTART (R393): Writing RESTART sets PC to START and clears the shift state, the flags and TRIG. -/
  | contextRestart (engine : Fin 2) (context : Fin 16)
  /-- FIFO_FLUSH (R393): Writing FLUSH empties both FIFOs of a context. -/
  | fifoFlush (engine : Fin 2) (context : Fin 16)
  /-- PAT_TRIG (R390): Writing a bit of PAT_TRIG sets a context's TRIG flag, or counts it lost. -/
  | patTrig (engine : Fin 2) (mask : BitVec 16)
  /-- PAT_TX_WRITE (R389): A write to PAT_CTXc_TX appends a word, or is dropped with TX_OVF. -/
  | patTxWrite (engine : Fin 2) (context : Fin 16) (value : Word)
  /-- PAT_RX_READ (R389): A read of PAT_CTXc_RX removes a word, or returns 0 with RX_UNF. -/
  | patRxRead (engine : Fin 2) (context : Fin 16)
  /-- IMEM_WRITE (R393): A write to PAT_IMEMi changes an instruction, seen from the next fetch. -/
  | imemWrite (engine : Fin 2) (index : Fin 512) (value : BitVec 16)
  /-- ADC_FIFO_READ (R138): A read of ADC_xFIFO removes the oldest result. -/
  | adcFifoRead (conv : Fin 4)
  /-- WHL_TS_READ (R34): A read of WHL_TSLn latches the matching upper half into WHL_TSHn. -/
  | whlTsRead (input : Fin 4)
  /-- TRK_ANGLE_READ (R58): A read of TRK_x_ANGLE latches the fraction, rate and cycle count from the same tick. -/
  | trkAngleRead (trk : Fin 2)
  /-- WIT_MORL_READ (R216): A read of WIT_MORL latches the chain index and head of the last stored digest. -/
  | witMorlRead
  /-- FLO_DT_READ (R229): A read of FLO_DTL latches the upper half of domain time. -/
  | floDtRead
  /-- CALV_PEAK_READ (R4): A read of PWR_CALVCNT returns PEAK and clears it. -/
  | calvPeakRead
  /-- KEY_CHANGE (R15): A filtered change of KEY arms, disarms, shuts down or counts toward clearing REARM_WAIT. -/
  | keyChange (dt : Nat) (level : Bool)
  /-- STOPREQ_CHANGE (R15): A filtered change of STOPREQ blocks arming or shuts down a running engine. -/
  | stopreqChange (dt : Nat) (level : Bool)
  /-- DISCRETE_INPUT_CHANGE (R288): A filtered change of START or WAKE is reported and raises source 249. -/
  | discreteInputChange (dt : Nat) (wake : Bool) (level : Bool)
  /-- REARM_WAIT_CLEAR (R17): KEY read released without a break for 10 ms clears REARM_WAIT. -/
  | rearmWaitClear (dt : Nat)
  /-- GPIO_EDGE (R357): An enabled edge on a GP pin sets its flag and holds level source 248. -/
  | gpioEdge (dt : Nat) (pin : Fin 32) (level : Bool)
  /-- SEAL_CHANGE (R300): The filtered seal changes between open and closed. -/
  | sealChange (dt : Nat) (sealA : Bool) (sealB : Bool)
  /-- SEAL_INVALID (R300): SEAL_A and SEAL_B read equal for 1 s, which sets SEAL_INVALID. -/
  | sealInvalid (dt : Nat)
  /-- HOST_LOST (R22): No valid host packet within PKT_HOSTTIMEOUT sets HOST_LOST and holds the last demand. -/
  | hostLost (dt : Nat)
  /-- HOST_RAMP (R23): Loss of host lasting HOLD starts the ramp or withdrawal, unless the governor keeps the speed. -/
  | hostRamp (dt : Nat)
  /-- SUP_LOCKSTEP_FAIL (R13): A SUP lockstep mismatch restarts SUP, or enters SAFE at a second mismatch within 1 s. -/
  | supLockstepFail (dt : Nat)
  /-- SUP_RESTART_DONE (R13): SUP resumes from its retained state about 3 ms after a mismatch. -/
  | supRestartDone (dt : Nat)
  /-- COM_LOCKSTEP_FAIL (R14): A COM lockstep mismatch restarts COM and discards the unanswered packets. -/
  | comLockstepFail (dt : Nat)
  /-- COM_RESTART_DONE (R14): COM resumes about 3 ms after a mismatch. -/
  | comRestartDone (dt : Nat)
  /-- INPUT_EDGE (R33): An active edge at a wheel input's front end is stamped and passed through the glitch and ratio filters. -/
  | inputEdge (dt : Nat) (input : Fin 4) (subtick : Fin 16) (level : Bool) (held : Nat) (peak : Nat)
  /-- PULSE_WIDTH_TIMEOUT (R42): A trailing edge not arriving within PW_MAX sets PW_INVALID. -/
  | pulseWidthTimeout (dt : Nat) (input : Fin 4)
  /-- VR_PEAK_RESET (R31): 200 ms without arming clears a VR input's peak memory. -/
  | vrPeakReset (dt : Nat) (input : Fin 4)
  /-- VR_SHORT_DETECT (R52): A VR common mode outside 0.5–3.0 V for 1 ms sets SHORT_GND or SHORT_BAT. -/
  | vrShortDetect (dt : Nat) (input : Fin 4) (commonMode : Nat) (lasted : Nat)
  /-- VR_OPEN_TEST (R52): The periodic 10 µA test after 200 ms of silence reports VR_OPEN. -/
  | vrOpenTest (dt : Nat) (input : Fin 4) (millivolts : Nat)
  /-- SIM_EDGE (R54): The simulated angle crosses a tooth, extra tooth or cam entry and produces an edge. -/
  | simEdge (dt : Nat)
  /-- SIM_RATE_STEP (R54): Every 2^16 ticks the simulated rate moves by ACC toward TGT. -/
  | simRateStep (dt : Nat)
  /-- CRANK_EDGE_ACCEPTED (R71): At the application tick a tracker processes an accepted crank edge: phase error, prediction and new rate. -/
  | crankEdgeAccepted (dt : Nat) (trk : Fin 2)
  /-- CAM_EDGE (R69): A tracker judges a cam edge against the cam entries for revolution and consistency. -/
  | camEdge (dt : Nat) (trk : Fin 2)
  /-- CRANK_EDGE_MISSING (R74): The angle passes an expected tooth plus the window, which enters COAST or LOST. -/
  | crankEdgeMissing (dt : Nat) (trk : Fin 2)
  /-- CAM_MISSING (R69): Two cycles of net forward rotation without a cam edge set CAM_MISSING. -/
  | camMissing (dt : Nat) (trk : Fin 2)
  /-- TRACKER_STOP (R61): STOP_MS without an accepted crank edge sends the tracker to STOPPED. -/
  | trackerStop (dt : Nat) (trk : Fin 2)
  /-- STOP_ANGLE_COPY (R86): SUP copies TRK_STOPA to MRAM within 10 ms. -/
  | stopAngleCopy (dt : Nat)
  /-- TABLE_STORE (R81): Every 10 minutes in RUNNING SUP stores the tracker tables and corrections to MRAM. -/
  | tableStore (dt : Nat)
  /-- FROST_TOOTH (R87): The frost tracker counts a tooth in Frost, signed by direction. -/
  | frostTooth (dt : Nat) (partner : Bool) (width : Nat)
  /-- PREPARE_EVENT (R129): TRK_OUT reaches a cylinder's latch angle less SCH_PREP, and SUP builds its set. -/
  | prepareEvent (dt : Nat) (cyl : Fin 24)
  /-- COMMIT (R108): TRK_OUT reaches a cylinder's latch angle, and the shadow set becomes active and armed. -/
  | commit (dt : Nat) (cyl : Fin 24)
  /-- SLOT_FIRE (R114): TRK_OUT reaches an armed slot's start while firing is permitted. -/
  | slotFire (dt : Nat) (slot : Fin 2048) (vboost : Nat)
  /-- BOOST_GRANT (R122): The bank's boost phase becomes free and is granted to the first-ranked waiting shot, which starts BOOST. -/
  | boostGrant (dt : Nat) (bank : Fin 8)
  /-- BANK_WAIT_TIMEOUT (R122): A waiting shot not granted within DRV_BANK.TOL ends REFUSED_BANK. -/
  | bankWaitTimeout (dt : Nat) (channel : Fin 48)
  /-- SHOT_ANGLE_END (R118): TRK_OUT reaches an ANGLE end, which ends the shot or refuses it if it is still waiting. -/
  | shotAngleEnd (dt : Nat) (channel : Fin 48)
  /-- SHOT_TIME_END (R118): A TIME end expires and sends the channel to END. -/
  | shotTimeEnd (dt : Nat) (channel : Fin 48)
  /-- CYCLE_WRAP (R116): A forward cycle wrap of TRK_OUT clears the fired bits and arms the held slots. -/
  | cycleWrap (dt : Nat)
  /-- ADC_BURST_CONVERSION (R136): A burst conversion falls due and its result enters the FIFO, and the burst ends at WEND or BURST_MAX. -/
  | adcBurstConversion (dt : Nat) (conv : Fin 4) (code : BitVec 12)
  /-- ADC_SCAN (R137): A background scan conversion runs in idle time and writes ADC_xLASTi. -/
  | adcScan (dt : Nat) (conv : Fin 4) (code : BitVec 12)
  /-- PHASE_TIME_LIMIT (R175): A profile phase's time limit expires and the channel moves to the next phase. -/
  | phaseTimeLimit (dt : Nat) (channel : Fin 48)
  /-- BOOST_SETPOINT_REACHED (R188): The current reaches the BOOST setpoint, the channel enters PEAK and the boost phase frees. -/
  | boostSetpointReached (dt : Nat) (channel : Fin 48) (current : Nat)
  /-- END_COMPLETE (R187): The current falls below END_I and the channel goes idle. -/
  | endComplete (dt : Nat) (channel : Fin 48) (current : Nat)
  /-- END_OVER (R187): END lasting longer than END_T sets END_OVER. -/
  | endOver (dt : Nat) (channel : Fin 48) (current : Nat)
  /-- OVERCURRENT_TRIP (R152): Low-side current above 45 A for 300 ns turns the channel off and sets OC. -/
  | overcurrentTrip (dt : Nat) (channel : Fin 48) (current : Nat)
  /-- HS_OVERCURRENT_TRIP (R152): A high-side overcurrent turns off both high-sides and ends every running channel of the bank. -/
  | hsOvercurrentTrip (dt : Nat) (bank : Fin 8) (boost : Bool) (current : Nat)
  /-- CURRENT_MISMATCH_TRIP (R152): A node or channel current mismatch for 2 µs sets SHORT_GND, SHORT_BAT or FOREIGN. -/
  | currentMismatchTrip (dt : Nat) (channel : Fin 48) (node : Bool) (excess : Int)
  /-- OPEN_LOAD_CHECK (R152): At OPEN_T after the start, current below OPEN_I sets OPEN and ends the shot. -/
  | openLoadCheck (dt : Nat) (channel : Fin 48) (current : Nat)
  /-- FOREIGN_MASK_END (R160): The FOREIGN mask after a standby entry or exit expires after OVL. -/
  | foreignMaskEnd (dt : Nat) (bank : Fin 8)
  /-- OFF_STATE_TEST (R155): The periodic off-state test of an idle bank begins. -/
  | offStateTest (dt : Nat) (bank : Fin 8)
  /-- OFF_STATE_STEP_END (R155): A 200 µs test step ends and its readings are taken or classified. -/
  | offStateStepEnd (dt : Nat) (bank : Fin 8) (readings : List Nat)
  /-- BOOST_CHARGE_START (R161): VBOOST below VSET − BAND starts the converter charging. -/
  | boostChargeStart (dt : Nat) (vboost : Nat)
  /-- BOOST_CHARGE_STOP (R161): VBOOST reaching VSET stops charging. -/
  | boostChargeStop (dt : Nat) (vboost : Nat)
  /-- VBOOST_LOW (R163): VBOOST falling below DRV_VBOOSTMIN sets BOOST_LOW and raises source 136. -/
  | vboostLow (dt : Nat) (vboost : Nat)
  /-- BOOST_OV (R164): VBOOST reaching the clamp threshold conducts the clamp and stops the converter. -/
  | boostOv (dt : Nat) (vboost : Nat)
  /-- CLAMP_SLOW (R164): The clamp's 100 ms average above 15 W or below 10 W sets or clears CLAMP_SLOW. -/
  | clampSlow (dt : Nat) (milliwatts : Nat)
  /-- BOOST_PHASE_FAIL (R165): A phase not reaching 1 A in 16 periods is switched off. -/
  | boostPhaseFail (dt : Nat) (phase : Fin 2)
  /-- BOOST_FAIL (R165): VBOOST below minimum through 50 ms of charging sets BOOST_FAIL. -/
  | boostFail (dt : Nat)
  /-- COIL_MODEL_UPDATE (R167): Every 1 ms the coil winding and body temperatures are stepped. -/
  | coilModelUpdate (dt : Nat) (energies : List Nat)
  /-- AMB_STALE (R168): 10 s without an AMB write sets STALE and uses FAIL_T. -/
  | ambStale (dt : Nat)
  /-- DIE_THERMAL_CHANGE (R172): A die's PAVG or temperature crosses a limit and sets or clears PWR_OVER, HOT or STOP. -/
  | dieThermalChange (dt : Nat) (die : Fin 2) (temperature : Int) (pavg : Nat)
  /-- RECORD_CLOSE (R199): A shot's witness record closes, is written to the ring and counted. -/
  | recordClose (dt : Nat) (channel : Fin 48) (samples : List Sample)
  /-- CLOSE_WINDOW_END (R202): The close window expires after END entry and the record may close. -/
  | closeWindowEnd (dt : Nat) (channel : Fin 48) (samples : List Sample)
  /-- OBS_DRIVE_RISE (R203): OBS_DRIVE rises on a standby channel and its stamp is kept. -/
  | obsDriveRise (dt : Nat) (channel : Fin 48)
  /-- OBS_DRIVE_FALL (R203): OBS_DRIVE falls, giving END_TIME for a standby record. -/
  | obsDriveFall (dt : Nat) (channel : Fin 48)
  /-- OBS_WINDOW_EXPIRY (R203): No rise within WIN of the fire tick closes a standby record with ABSENT. -/
  | obsWindowExpiry (dt : Nat) (shot : ChannelSamples)
  /-- DIGEST_STORE (R215): COM stores a snapshot to the moraine chain with read-back and one retry. -/
  | digestStore (dt : Nat) (digest : WriteTries) (checkpoint : WriteTries)
  /-- PORT_ALIGN (R219): The receiver finds comma alignment and the port enters ALIGN. -/
  | portAlign (dt : Nat) (link : Fin 4)
  /-- PORT_TRAIN (R219): 64 valid code groups take the port to TRAIN. -/
  | portTrain (dt : Nat) (link : Fin 4)
  /-- PORT_UP (R219): Both ends finish TRAIN and the port enters UP. -/
  | portUp (dt : Nat) (link : Fin 4) (peer : Fin 4096)
  /-- PORT_DOWN (R219): Signal loss, code errors or a peer change take the port DOWN. -/
  | portDown (dt : Nat) (link : Fin 4)
  /-- DELAY_EXCHANGE (R230): The periodic link delay measurement runs its four exchanges. -/
  | delayExchange (dt : Nat) (link : Fin 4) (r1 : Nat) (r2 : Nat) (r3 : Nat) (r4 : Nat)
  /-- CELL_FORWARD (R224): A queued cell leaves its output port when the port is free. -/
  | cellForward (dt : Nat) (link : Fin 4)
  /-- SYNC_SEND (R230): The master sends an ANGLE SYNC cell every SYNC_P. -/
  | syncSend (dt : Nat)
  /-- SYNC_CELL_RX (R231): A SYNC cell updates domain time offset and ratio and may set DOM_LOCK. -/
  | syncCellRx (dt : Nat)
  /-- DOM_LOCK_LOSS (R231): 10 × SYNC_P without a SYNC cell clears DOM_LOCK. -/
  | domLockLoss (dt : Nat)
  /-- MASTER_CLAIM (R232): A candidate hearing no lower-ID SYNC for 3 × SYNC_P becomes master. -/
  | masterClaim (dt : Nat)
  /-- EDGE_CELL_RX (R234): An EDGE cell updates a follower tracker and the domain angle difference. -/
  | edgeCellRx (dt : Nat)
  /-- EDGE_CELL_MISSING (R234): Domain time passing T_A + 1.25 × T_NEXT counts a missing edge. -/
  | edgeCellMissing (dt : Nat)
  /-- HEART_SEND (R241): Each member sends a HEART cell every HB_P. -/
  | heartSend (dt : Nat)
  /-- HEART_RX (R241): A HEART cell updates the partner status, CFG_MATCH and HB_LOST. -/
  | heartRx (dt : Nat)
  /-- HB_LOST (R241): HB_MISS × HB_P without HEART sets HB_LOST. -/
  | hbLost (dt : Nat)
  /-- ARB_LINE_CHANGE (R237): A filtered change on the ARB line is read. -/
  | arbLineChange (dt : Nat) (line : ArbReading)
  /-- ARB_WATCHDOG_EXPIRY (R238): The timing island not refreshing ARB for 1 µs releases ARB. -/
  | arbWatchdogExpiry (dt : Nat)
  /-- COPE_CLAIM (R240): ARB free for 2 or 4 ms after IDLE makes the member cope. -/
  | copeClaim (dt : Nat)
  /-- MIRROR_SLOT (R243): A MIRROR SLOT cell writes the drag's shadow slots. -/
  | mirrorSlot (dt : Nat)
  /-- MIRROR_TXN (R243): A MIRROR TXN cell opens, closes or aborts the drag's transactions. -/
  | mirrorTxn (dt : Nat)
  /-- MIRROR_COMMIT (R244): A MIRROR COMMIT cell commits the cylinder on the drag and checks the CRC. -/
  | mirrorCommit (dt : Nat)
  /-- MIRROR_SHOT (R246): A MIRROR SHOT cell records the cope's channel state and occupies the drag's bank. -/
  | mirrorShot (dt : Nat)
  /-- MIRROR_CORR (R243): A MIRROR CORR cell copies D into WIT_CHn_CORR. -/
  | mirrorCorr (dt : Nat)
  /-- MIRROR_THERM (R243): A MIRROR THERM cell sets the drag's coil temperatures. -/
  | mirrorTherm (dt : Nat)
  /-- MIRROR_DEM (R243): A MIRROR DEM cell loads the demand and governor integrator. -/
  | mirrorDem (dt : Nat)
  /-- THERM_MIRROR_SEND (R243): Every 100 ms the cope sends its coil temperatures in 8 THERM cells. -/
  | thermMirrorSend (dt : Nat)
  /-- CMT_WAIT_EXPIRY (R244): No COMMIT cell by CMT_WAIT after the drag's latch makes it commit locally. -/
  | cmtWaitExpiry (dt : Nat) (cyl : Fin 24)
  /-- HO_REQ (R249): A drag receiving HO_REQ replies HO_ACC or HO_REF. -/
  | hoReq (dt : Nat)
  /-- HO_ACC (R249): The cope receiving HO_ACC before T_H commits to the handover. -/
  | hoAcc (dt : Nat)
  /-- HO_REF (R249): The cope receiving HO_REF keeps the drive and counts the refusal. -/
  | hoRef (dt : Nat)
  /-- HANDOVER_NOT_ACCEPTED (R249): T_H arriving without HO_ACC leaves the cope driving and raises source 233. -/
  | handoverNotAccepted (dt : Nat)
  /-- HANDOVER_HOLD (R250): At T_H − 0.1 µs both members hold their switch states and the drag leaves standby. -/
  | handoverHold (moment : HoldMoment)
  /-- HANDOVER_ASSERT (R250): At T_H the drag asserts ARB. -/
  | handoverAssert (dt : Nat)
  /-- HANDOVER_RELEASE (R250): At T_H + HO_OVL the cope enters standby and releases ARB. -/
  | handoverRelease (dt : Nat)
  /-- HANDOVER_REGULATE (R250): From T_H + HO_OVL + 0.2 µs the new cope regulates. -/
  | handoverRegulate (dt : Nat)
  /-- HOLDOFF_EXPIRY (R254): The holdoff after giving up the drive expires. -/
  | holdoffExpiry (dt : Nat)
  /-- SYNC_REQ (R245): A SYNC_REQ cell makes the cope send a full copy. -/
  | syncReq (dt : Nat)
  /-- MIRROR_ACTIVE (R245): An ACTIVE cell of a full copy loads the drag's active slots. -/
  | mirrorActive (dt : Nat)
  /-- SYNC_END (R245): SYNC_END with the right cell count sets MIRROR_SYNC. -/
  | syncEnd (dt : Nat)
  /-- VOTE_SEND (R259): Each voter broadcasts a VOTE cell every VOTE_P. -/
  | voteSend (dt : Nat)
  /-- VOTE_CELL_RX (R260): A VOTE cell updates the voters reached and authority. -/
  | voteCellRx (dt : Nat)
  /-- VOTER_REACH_TIMEOUT (R260): A voter not heard for 3 × VOTE_P is no longer reached. -/
  | voterReachTimeout (dt : Nat) (slot : Fin 16)
  /-- BC_ENTRY_AGE (R226): A broadcast source entry ages out after 100 ms. -/
  | bcEntryAge (dt : Nat) (node : Fin 4096)
  /-- ROUTE_CELL_RX (R261): A ROUTE cell changes settings when authority and epoch allow. -/
  | routeCellRx (dt : Nat)
  /-- CMD_CELL_RX (R280): A CMD cell segment is reassembled into a packet, handled on port 4 or returned as a reply. -/
  | cmdCellRx (dt : Nat)
  /-- LOG_CELL_RX (R280): A LOG cell segment carries stream notices or digest transfers. -/
  | logCellRx (dt : Nat)
  /-- FLOE_REASM_TIMEOUT (R280): 10 ms without a segment discards a partial packet. -/
  | floeReasmTimeout (dt : Nat)
  /-- BROWN_OUT (R314): VBAT below 5.5 V for 5 µs resets the device with BOR. -/
  | brownOut (dt : Nat) (below : Nat)
  /-- POWER_ON (R314): Loss and return of the always-on supply is a POR that clears the always-on state. -/
  | powerOn (dt : Nat)
  /-- NRST_ASSERT (R312): NRST low for 10 µs holds the device in reset. -/
  | nrstAssert (dt : Nat) (low : Nat)
  /-- RAIL_FAULT (R315): A rail leaving its window for its filter time resets the device with RAIL. -/
  | railFault (dt : Nat) (rail : Fin 5) (millivolts : Nat) (outside : Nat)
  /-- OVER_TEMPERATURE (R312): The control die at 175 °C holds reset with TSD. -/
  | overTemperature (dt : Nat) (temperature : Int)
  /-- VBAT_OV (R315): VBAT above VBAT_OV for 1 ms sets VBAT_OV and SYS_FAULT.PWR. -/
  | vbatOv (dt : Nat) (vbat : Nat) (above : Nat)
  /-- VAON_LOST (R315): VAON below 2.40 V for 10 ms sets VAON_LOST. -/
  | vaonLost (dt : Nat) (vaon : Nat) (below : Nat)
  /-- AON_SOURCE_CHANGE (R311): The always-on domain changes over between VAON and VBAT. -/
  | aonSourceChange (dt : Nat) (vaon : Nat)
  /-- RESET_RELEASE (R313): Reset releases, the rails are sequenced and THAW begins. -/
  | resetRelease (dt : Nat) (vbat : Nat) (above : Nat) (nrstHigh : Nat) (temperature : Int)
  /-- THAW_COMPLETE (R15): Rails settled, the clock judged and the PLLs locked take THAW to BOOT. -/
  | thawComplete (dt : Nat)
  /-- BOOT_COMPLETE (R15): A verified image and a loaded calibration take BOOT to IDLE. -/
  | bootComplete (dt : Nat)
  /-- WAKE_SOURCE (R323): An enabled wake source fires in Frost and starts a Thaw. -/
  | wakeSource (dt : Nat) (lines : WakeLines) (vbatOk : Bool)
  /-- WAKE_HELD_RELEASE (R326): VBAT holding above C6 + HYST for 1 ms releases a held wake. -/
  | wakeHeldRelease (dt : Nat)
  /-- AON_TIMER_EXPIRY (R325): The always-on timer reaching zero fires as a wake source. -/
  | aonTimerExpiry (dt : Nat) (vbatOk : Bool)
  /-- CALVING_ENTRY (R330): The VBAT mean below a higher stage's threshold for ENTRY_T enters that stage and sheds functions. -/
  | calvingEntry (dt : Nat) (vbat : Nat) (lasted : Nat)
  /-- C6_FINISH (R333): All channels in END completed, or 2 ms, enters Frost or resets with CALV6. -/
  | c6Finish (dt : Nat)
  /-- CALVING_EXIT (R331): The mean above threshold + HYST for 1 ms leaves the stage one step. -/
  | calvingExit (dt : Nat) (vbat : Nat) (lasted : Nat)
  /-- JUDGE_WINDOW_END (R339): A crystal judge window ends and the crystal is judged after 8 passes. -/
  | judgeWindowEnd (dt : Nat) (count : Nat)
  /-- XTAL_FAIL (R340): The crystal not judged by 20 ms leaves the device on the IRC. -/
  | xtalFail (dt : Nat)
  /-- XTAL_FIXED_DELAY (R341): With JUDGE = 0 the reference switches to XTAL after DLY. -/
  | xtalFixedDelay (dt : Nat)
  /-- MUX_SWITCH_DONE (R343): A clock mux switch completes after the cycles of both clocks. -/
  | muxSwitchDone (dt : Nat) (mux : Fin 4)
  /-- FORCED_SWITCH (R344): A switch waiting on a stopped clock completes by force after 64 IRC cycles. -/
  | forcedSwitch (dt : Nat)
  /-- CLOCK_MISSING (R344): A watched clock making no edge for 4 IRC cycles is reported. -/
  | clockMissing (dt : Nat) (clock : Fin 8)
  /-- TPLL_UNLOCK (R345): TPLL losing lock quenches and sets SYS_FAULT.CLK. -/
  | tpllUnlock (dt : Nat)
  /-- TPLL_RELOCK (R345): TPLL holding lock for 100 µs resynchronises both trackers. -/
  | tpllRelock (dt : Nat)
  /-- SPLL_UNLOCK (R346): SPLL losing lock switches SCLK to the IRC. -/
  | spllUnlock (dt : Nat)
  /-- SPLL_RELOCK (R346): SPLL holding lock for 100 µs switches SCLK back. -/
  | spllRelock (dt : Nat)
  /-- FPLL_UNLOCK (R346): FPLL losing lock takes every Floe port DOWN. -/
  | fpllUnlock (dt : Nat)
  /-- LF_FAIL (R347): XLF silent for 2 ms changes over to the LFRC. -/
  | lfFail (dt : Nat)
  /-- DVFS_STEP (R349): A DVFS step completes and the next step or the end of the sequence follows. -/
  | dvfsStep (dt : Nat)
  /-- SPREAD_APPLY (R348): A new spread setting takes effect at the triangle minimum. -/
  | spreadApply (dt : Nat)
  /-- FMC_WINDOW_END (R354): A counter window ends, the count is stored and DONE sets. -/
  | fmcWindowEnd (dt : Nat) (count : Nat)
  /-- GATE_FORCED (R352): A gate closure waiting 16 cycles on an access forces a bus error. -/
  | gateForced (dt : Nat)
  /-- IRQ_GROUP_DELIVERY (R362): A coalescing group's count or time threshold is met and its held sources are delivered. -/
  | irqGroupDelivery (dt : Nat) (group : Fin 16)
  /-- DMA_TRIGGER (R365): A trigger moves a burst of elements on a channel. -/
  | dmaTrigger (dt : Nat) (channel : Fin 16)
  /-- DMA_BLOCK_COMPLETE (R370): The active block completes and the shadow is handed over or the channel stops. -/
  | dmaBlockComplete (dt : Nat) (channel : Fin 16)
  /-- DMA_DESCRIPTOR_FETCH (R371): A descriptor is fetched into the shadow set, within the hop limit. -/
  | dmaDescriptorFetch (dt : Nat) (channel : Fin 16)
  /-- TIM_COMPARE_MATCH (R378): The counter reaches CMP counting up. -/
  | timCompareMatch (dt : Nat) (channel : Fin 16)
  /-- TIM_RELOAD (R377): The counter wraps or turns up at 0, which is the reload point. -/
  | timReload (dt : Nat) (channel : Fin 16)
  /-- TIM_TOP (R377): An up/down counter turns down at PER. -/
  | timTop (dt : Nat) (channel : Fin 16)
  /-- TIM_CAPTURE (R380): A capture pin edge stores the count in the queue. -/
  | timCapture (dt : Nat) (channel : Fin 16)
  /-- NOP (R387): CTL OP 0 does nothing for one turn. -/
  | nop (dt : Nat) (engine : Fin 2) (context : Fin 16)
  /-- HALT (R387): CTL OP 1 halts the context. -/
  | halt (dt : Nat) (engine : Fin 2) (context : Fin 16)
  /-- SIG (R387): CTL OP 2 raises signal line L. -/
  | sig (dt : Nat) (engine : Fin 2) (context : Fin 16)
  /-- CLRSH (R387): CTL OP 3 clears SHR and SHC. -/
  | clrsh (dt : Nat) (engine : Fin 2) (context : Fin 16)
  /-- BR (R387): BR branches when its condition holds. -/
  | br (dt : Nat) (engine : Fin 2) (context : Fin 16)
  /-- DBNZ (R387): DBNZ decrements W and branches when non-zero. -/
  | dbnz (dt : Nat) (engine : Fin 2) (context : Fin 16)
  /-- WAIT_PIN (R388): WAIT KIND 0 stalls until a pin reads P and stamps EDGET. -/
  | waitPin (dt : Nat) (engine : Fin 2) (context : Fin 16)
  /-- WAIT_TIME (R388): WAIT KIND 1 stalls for a number of turns. -/
  | waitTime (dt : Nat) (engine : Fin 2) (context : Fin 16)
  /-- WAIT_ANGLE (R388): WAIT KIND 2 stalls until TRK_OUT reaches a W angle. -/
  | waitAngle (dt : Nat) (engine : Fin 2) (context : Fin 16)
  /-- WAIT_TRIG (R388): WAIT KIND 3 stalls until TRIG is set and clears it. -/
  | waitTrig (dt : Nat) (engine : Fin 2) (context : Fin 16)
  /-- LDI (R387): LDI loads a 10-bit immediate. -/
  | ldi (dt : Nat) (engine : Fin 2) (context : Fin 16)
  /-- LDS (R387): LDS shifts W and adds an immediate. -/
  | lds (dt : Nat) (engine : Fin 2) (context : Fin 16)
  /-- ALU (R387): ALU performs an operation and sets Z and N. -/
  | alu (dt : Nat) (engine : Fin 2) (context : Fin 16)
  /-- GET (R387): GET loads pins, time, angle, EDGET, SHR or SHC into a W. -/
  | get (dt : Nat) (engine : Fin 2) (context : Fin 16)
  /-- PUT (R387): PUT writes a W to pins, SHR or PC. -/
  | put (dt : Nat) (engine : Fin 2) (context : Fin 16)
  /-- SHIN (R387): SHIN shifts bits into SHR, with AUTOSEND. -/
  | shin (dt : Nat) (engine : Fin 2) (context : Fin 16)
  /-- SHOUT (R387): SHOUT shifts bits out of SHR, with AUTORECV. -/
  | shout (dt : Nat) (engine : Fin 2) (context : Fin 16)
  /-- SEND (R389): SEND pushes a word into RX, blocking or dropping. -/
  | send (dt : Nat) (engine : Fin 2) (context : Fin 16)
  /-- RECV (R389): RECV pulls a word from TX, blocking or reusing. -/
  | recv (dt : Nat) (engine : Fin 2) (context : Fin 16)
  /-- SETP (R387): SETP sets masked pins from SET_BASE. -/
  | setp (dt : Nat) (engine : Fin 2) (context : Fin 16)
  /-- ILLEGAL (R387): A reserved encoding halts the context with ILLEGAL. -/
  | illegal (dt : Nat) (engine : Fin 2) (context : Fin 16)
  /-- THRESHOLD_CROSSING (R181): At a regulation decision the coil current at or above the upper threshold, or at or below the lower threshold, switches the low-side switch off or on, subject to the minimum times, and moves the phase from entry decay to chop decay. -/
  | thresholdCrossing (dt : Nat) (channel : Fin 48) (current : Nat)
  /-- PULSE_TRAILING_EDGE (R43): The trailing edge of a pulse-width coded tooth ends the width measurement and, when the width shows a new direction, sends the trackers a direction change carrying the leading edge's stamp. -/
  | pulseTrailingEdge (dt : Nat) (input : Fin 4) (subtick : Fin 16)
  /-- CELL_ARRIVAL (R223): A cell arriving on a Floe port is checked, then dropped and counted, forwarded cut-through or queued by priority with displacement, or delivered locally. -/
  | cellArrival (dt : Nat) (link : Fin 4) (body : List Byte) (crc : BitVec 32)
  /-- PACKET_TRANSMIT_DONE (R271): A reply or notice finishes leaving a CAN, 10BASE-T1S or Floe port, which frees outbound queue space so that COM resumes taking inbound packets and held stream notices may go. -/
  | packetTransmitDone (dt : Nat) (port : Fin 5)
  /-- CAN_ERROR_STATE (R278): Bus errors move a CAN controller between error active, error passive and bus-off, and bus-off recovery under ISO 11898-1 resumes it without firmware. -/
  | canErrorState (dt : Nat) (ctl : Fin 2) (state : Fin 3) (tec : Byte) (rec : Byte)
  /-- PLCA_STATUS (R289): PLCA beacons starting or ceasing on 10BASE-T1S change PLCA_ACTIVE and raise source 244. -/
  | plcaStatus (dt : Nat) (active : Bool)
  /-- FPLL_RELOCK (R346): FPLL regains lock after a loss, which lets the Floe ports train again. -/
  | fpllRelock (dt : Nat)
  /-- VBOOST_RECOVERED (R163): VBOOST rising back to or above DRV_VBOOSTMIN clears BOOST_LOW. -/
  | vboostRecovered (dt : Nat) (vboost : Nat)
  /-- VBAT_OV_ENDED (R444): VBAT having stayed at or below VBAT_OV for 1 ms ends the cause of SYS_FAULT.PWR, so that a clear of it takes effect. -/
  | vbatOvEnded (dt : Nat) (vbat : Nat) (below : Nat)
  /-- CFG_MATCH_TIMEOUT (R258): CFG_MATCH at 0 for more than 1 s sets SYS_FAULT.FLO. -/
  | cfgMatchTimeout (dt : Nat)
  deriving DecidableEq, Repr

end Sys2Proof
end

