-- ==== Sys2Proof/WellFormed.lean ====
section
/-! DEFINITION. Which commands are well formed: the measured quantities a command carries have the shapes that the manual gives them. -/

namespace Sys2Proof

/-- The first byte of a transfer. -/
def byteOf (l : List Byte) : Byte := l.headD 0

/-- The data lengths a CAN FD frame may have (R277). -/
def dlcLengths : List Nat := [0, 1, 2, 3, 4, 5, 6, 7, 8, 12, 16, 20, 24, 32, 48, 64]

/-- A sample pair within the codes of a witness converter (R195, R435): an unsigned 12-bit current, of a pair the sum of two (R196), and a
signed 12-bit voltage. -/
def sampleOk (x : Sample) : Bool := decide (0 ≤ x.i) && decide (x.i ≤ 8190) && decide (-2048 ≤ x.v) && decide (x.v ≤ 2047)

/-- The pairs of a channel (R195): between two of them lie 50 ns for each of the bank's channels that the round serves, 1 to 6. -/
def samplesOk : List Sample → Bool
  | [] => true
  | [x] => sampleOk x
  | x :: y :: r => sampleOk x && (List.range 6).any (fun k => y.t == x.t + 20 * (k + 1)) && samplesOk (y :: r)

/-- Whether a command is well formed. -/
def Instr.wellFormed : Instr → Bool
  | .ping .. => true
  | .info .. => true
  | .sleep .. => true
  | .stop .. => true
  | .safe .. => true
  | .clearFault .. => true
  | .jobStatus .. => true
  | .benchEnter .. => true
  | .benchExit .. => true
  | .hostTimeout .. => true
  | .sysSet .. => true
  | .whlSet .. => true
  | .wdSet .. => true
  | .trkSet .. => true
  | .loadBucket .. => true
  | .tblRead .. => true
  | .tblWrite .. => true
  | .resync .. => true
  | .voteSet .. => true
  | .cylSet .. => true
  | .schSet .. => true
  | .slotRead .. => true
  | .setWrite => true
  | .setClose => true
  | .setAbort => true
  | .shotCancel => true
  | .demand => true
  | .prfSet .. => true
  | .drvCtrl .. => true
  | .drvSet .. => true
  | .chSet .. => true
  | .thermSet .. => true
  | .drvClear .. => true
  | .amb .. => true
  | .outputTest .. => true
  | .stream .. => true
  | .recRead .. => true
  | .waveArm .. => true
  | .waveRead .. => true
  | .digestRead .. => true
  | .chainHead .. => true
  | .attest .. => true
  | .witSet .. => true
  | .detSet .. => true
  | .floSet .. => true
  | .handover .. => true
  | .routeSet .. => true
  | .mcSet .. => true
  | .ltrim .. => true
  | .forward .. => true
  | .vlistSet .. => true
  | .sealStatus .. => true
  | .certRead .. => true
  | .imageLoad .. => true
  | .imageActivate .. => true
  | .calLoad .. => true
  | .keyEnrol .. => true
  | .decommission .. => true
  | .regRead .. => true
  | .regWrite .. => true
  | .loopback .. => true
  | .sim .. => true
  | .selftest .. => true
  | .spiPacketWrite _ bytes clocked _ => byteOf bytes == 0xC7 && decide (clocked ≤ bytes.length)
  | .spiPacketRead .. => true
  | .spiRegRead _ bytes _ => byteOf bytes == 0xA1 && decide (bytes.length ≤ 9)
  | .spiRegWrite _ bytes _ => byteOf bytes == 0xA2 && decide (bytes.length ≤ 13)
  | .spiUnknownCommand _ command _ => !([0xC7, 0x3C, 0xA1, 0xA2].contains command)
  | .canFrameRx _ _ _ _ data => dlcLengths.contains data.length
  | .canReasmTimeout .. => true
  | .t1sFrameRx _ dest source etherType _ payload => dest.length == 6 && source.length == 6 && decide (etherType < 65536) && decide (payload.length ≤ 1500)
  | .fragmentTimeout .. => true
  | .presenceTimeout .. => true
  | .forwardTimeout .. => true
  | .streamNotice .. => true
  | .attestDone .. => true
  | .imageLoadDone .. => true
  | .activateDone .. => true
  | .updateReset .. => true
  | .calLoadDone .. => true
  | .keyEnrolDone .. => true
  | .decommissionDone .. => true
  | .loopbackUnitReturn _ _ reading => decide (reading < 4096)
  | .loopbackUnitTimeout .. => true
  | .loopbackDone .. => true
  | .selftestDone .. => true
  | .outputTestRampEnd .. => true
  | .outputTestHoldEnd .. => true
  | .registerWrite .. => true
  | .sysFaultClear .. => true
  | .txnOpen .. => true
  | .txnClose .. => true
  | .txnAbort .. => true
  | .refresh => true
  | .shadowSlotWrite .. => true
  | .tblDataAccess .. => true
  | .bucketUntrain .. => true
  | .trkCtrlResync .. => true
  | .prfApply .. => true
  | .quench => true
  | .standbyChange .. => true
  | .witCorrWrite .. => true
  | .witWaveArm .. => true
  | .simCtrlWrite .. => true
  | .simDrop .. => true
  | .simExtra => true
  | .simFlip => true
  | .sleepCommit .. => true
  | .opRequest .. => true
  | .gateWrite .. => true
  | .fmcStart .. => true
  | .acknowledge .. => true
  | .eoi .. => true
  | .hostAcknowledge .. => true
  | .groupWrite .. => true
  | .dmaEnRise .. => true
  | .dmaEnClear .. => true
  | .shadowValid .. => true
  | .shadowWrite .. => true
  | .timGstart .. => true
  | .timGstop .. => true
  | .timEnWrite .. => true
  | .timPerWrite .. => true
  | .timCmpWrite .. => true
  | .timCntRead .. => true
  | .timCapRead .. => true
  | .contextEn .. => true
  | .contextRestart .. => true
  | .fifoFlush .. => true
  | .patTrig .. => true
  | .patTxWrite .. => true
  | .patRxRead .. => true
  | .imemWrite .. => true
  | .adcFifoRead .. => true
  | .whlTsRead .. => true
  | .trkAngleRead .. => true
  | .witMorlRead => true
  | .floDtRead => true
  | .calvPeakRead => true
  | .keyChange .. => true
  | .stopreqChange .. => true
  | .discreteInputChange .. => true
  | .rearmWaitClear .. => true
  | .gpioEdge .. => true
  | .sealChange .. => true
  | .sealInvalid .. => true
  | .hostLost .. => true
  | .hostRamp .. => true
  | .supLockstepFail .. => true
  | .supRestartDone .. => true
  | .comLockstepFail .. => true
  | .comRestartDone .. => true
  | .inputEdge .. => true
  | .pulseWidthTimeout .. => true
  | .vrPeakReset .. => true
  | .vrShortDetect .. => true
  | .vrOpenTest .. => true
  | .simEdge .. => true
  | .simRateStep .. => true
  | .crankEdgeAccepted .. => true
  | .camEdge .. => true
  | .crankEdgeMissing .. => true
  | .camMissing .. => true
  | .trackerStop .. => true
  | .stopAngleCopy .. => true
  | .tableStore .. => true
  | .frostTooth .. => true
  | .prepareEvent .. => true
  | .commit .. => true
  | .slotFire .. => true
  | .boostGrant .. => true
  | .bankWaitTimeout .. => true
  | .shotAngleEnd .. => true
  | .shotTimeEnd .. => true
  | .cycleWrap .. => true
  | .adcBurstConversion .. => true
  | .adcScan .. => true
  | .phaseTimeLimit .. => true
  | .boostSetpointReached .. => true
  | .endComplete .. => true
  | .endOver .. => true
  | .overcurrentTrip .. => true
  | .hsOvercurrentTrip .. => true
  | .currentMismatchTrip .. => true
  | .openLoadCheck .. => true
  | .foreignMaskEnd .. => true
  | .offStateTest .. => true
  | .offStateStepEnd _ _ readings => readings.length == 6
  | .boostChargeStart .. => true
  | .boostChargeStop .. => true
  | .vboostLow .. => true
  | .boostOv .. => true
  | .clampSlow .. => true
  | .boostPhaseFail .. => true
  | .boostFail .. => true
  | .coilModelUpdate _ energies => energies.length == 48
  | .ambStale .. => true
  | .dieThermalChange .. => true
  | .recordClose _ _ samples => samplesOk samples
  | .closeWindowEnd _ _ samples => samplesOk samples
  | .obsDriveRise .. => true
  | .obsDriveFall .. => true
  | .obsWindowExpiry _ shot => samplesOk shot.samples
  | .digestStore .. => true
  | .portAlign .. => true
  | .portTrain .. => true
  | .portUp .. => true
  | .portDown .. => true
  | .delayExchange .. => true
  | .cellForward .. => true
  | .syncSend .. => true
  | .syncCellRx .. => true
  | .domLockLoss .. => true
  | .masterClaim .. => true
  | .edgeCellRx .. => true
  | .edgeCellMissing .. => true
  | .heartSend .. => true
  | .heartRx .. => true
  | .hbLost .. => true
  | .arbLineChange .. => true
  | .arbWatchdogExpiry .. => true
  | .copeClaim .. => true
  | .mirrorSlot .. => true
  | .mirrorTxn .. => true
  | .mirrorCommit .. => true
  | .mirrorShot .. => true
  | .mirrorCorr .. => true
  | .mirrorTherm .. => true
  | .mirrorDem .. => true
  | .thermMirrorSend .. => true
  | .cmtWaitExpiry .. => true
  | .hoReq .. => true
  | .hoAcc .. => true
  | .hoRef .. => true
  | .handoverNotAccepted .. => true
  | .handoverHold .. => true
  | .handoverAssert .. => true
  | .handoverRelease .. => true
  | .handoverRegulate .. => true
  | .holdoffExpiry .. => true
  | .syncReq .. => true
  | .mirrorActive .. => true
  | .syncEnd .. => true
  | .voteSend .. => true
  | .voteCellRx .. => true
  | .voterReachTimeout .. => true
  | .bcEntryAge .. => true
  | .routeCellRx .. => true
  | .cmdCellRx .. => true
  | .logCellRx .. => true
  | .floeReasmTimeout .. => true
  | .brownOut .. => true
  | .powerOn .. => true
  | .nrstAssert .. => true
  | .railFault .. => true
  | .overTemperature .. => true
  | .vbatOv .. => true
  | .vaonLost .. => true
  | .aonSourceChange .. => true
  | .resetRelease .. => true
  | .thawComplete .. => true
  | .bootComplete .. => true
  | .wakeSource .. => true
  | .wakeHeldRelease .. => true
  | .aonTimerExpiry .. => true
  | .calvingEntry .. => true
  | .c6Finish .. => true
  | .calvingExit .. => true
  | .judgeWindowEnd .. => true
  | .xtalFail .. => true
  | .xtalFixedDelay .. => true
  | .muxSwitchDone .. => true
  | .forcedSwitch .. => true
  | .clockMissing .. => true
  | .tpllUnlock .. => true
  | .tpllRelock .. => true
  | .spllUnlock .. => true
  | .spllRelock .. => true
  | .fpllUnlock .. => true
  | .lfFail .. => true
  | .dvfsStep .. => true
  | .spreadApply .. => true
  | .fmcWindowEnd .. => true
  | .gateForced .. => true
  | .irqGroupDelivery .. => true
  | .dmaTrigger .. => true
  | .dmaBlockComplete .. => true
  | .dmaDescriptorFetch .. => true
  | .timCompareMatch .. => true
  | .timReload .. => true
  | .timTop .. => true
  | .timCapture .. => true
  | .nop .. => true
  | .halt .. => true
  | .sig .. => true
  | .clrsh .. => true
  | .br .. => true
  | .dbnz .. => true
  | .waitPin .. => true
  | .waitTime .. => true
  | .waitAngle .. => true
  | .waitTrig .. => true
  | .ldi .. => true
  | .lds .. => true
  | .alu .. => true
  | .get .. => true
  | .put .. => true
  | .shin .. => true
  | .shout .. => true
  | .send .. => true
  | .recv .. => true
  | .setp .. => true
  | .illegal .. => true
  | .thresholdCrossing .. => true
  | .pulseTrailingEdge .. => true
  | .cellArrival _ _ body _ => body.length == 60
  | .packetTransmitDone .. => true
  | .canErrorState .. => true
  | .plcaStatus .. => true
  | .fpllRelock .. => true
  | .vboostRecovered .. => true
  | .vbatOvEnded .. => true
  | .cfgMatchTimeout .. => true

end Sys2Proof
end

