-- ==== Sys2Proof/Decode.lean ====
section
/-! DEFINITION. The words of the table. The table of this block gives its rows no bits: a command has no encoding of its own, and a packet's
opcode is a field of the packet, which the receiving rows read (R264, R267). -/

namespace Sys2Proof

/-- The command that a word spells by the table's bits: the table gives none to any row. -/
def decodeTableWord (_nbits _w : Nat) : Option Instr := none

end Sys2Proof
end

