-- ==== Sys2Proof/Config.lean ====
section
/-! DEFINITION. What the manual leaves open: free values and the functions of units whose computation the manual names but does
not give. None has a body, so no proof can see a value. -/

namespace Sys2Proof.Config

/-- A fresh free value (log entry 3): the state's counter `free` picks which one. -/
opaque freeWord : Nat → BitVec 32

/-- The two public keys of Nimvis by which images are verified (R292): the RSA modulus, 384 bytes, then the SLH-DSA key, 32 bytes. -/
opaque nimvisRsa : List (BitVec 8)
opaque nimvisSlh : List (BitVec 8)

/-- The device's own keys, made at manufacture and read by nobody (R298): the RSA modulus and private exponent, and the SLH-DSA private key of
64 bytes. -/
opaque identityRsaN : List (BitVec 8)
opaque identityRsaD : Nat
opaque identitySlh : List (BitVec 8)

/-- The MAC address derived from a device identity, the 16-byte serial number (R279): the first four bytes, then the last two. -/
opaque identityMac : List (BitVec 8) → BitVec 32 × BitVec 16

end Sys2Proof.Config
end

