-- ==== Sys2Proof/Machine/Regs.lean ====
section
/-! DEFINITION. The register tables of the manual: the address of each register, the place of each field, and for each
register its reset value and the access type of its bits (R4). Indices stand as arguments: the instance first (a tracker, an
engine, a wheel description), then the element. -/

namespace Sys2Proof.Machine


-- Registers of SYS.
def Reg.SYS_ID : Nat := 0x40000000
def Fld.SYS_ID_ID : FReg := ⟨Reg.SYS_ID, 0, 32⟩
def Reg.SYS_REV : Nat := 0x40000004
def Fld.SYS_REV_LETTER : FReg := ⟨Reg.SYS_REV, 8, 8⟩
def Fld.SYS_REV_DIGIT : FReg := ⟨Reg.SYS_REV, 0, 8⟩
def Reg.SYS_STATE : Nat := 0x40000008
def Fld.SYS_STATE_PREV : FReg := ⟨Reg.SYS_STATE, 4, 4⟩
def Fld.SYS_STATE_STATE : FReg := ⟨Reg.SYS_STATE, 0, 4⟩
def Reg.SYS_STAT : Nat := 0x4000000C
def Fld.SYS_STAT_SUP_RESTARTS : FReg := ⟨Reg.SYS_STAT, 16, 8⟩
def Fld.SYS_STAT_COM_RESTART : FReg := ⟨Reg.SYS_STAT, 13, 1⟩
def Fld.SYS_STAT_SUP_RESTART : FReg := ⟨Reg.SYS_STAT, 12, 1⟩
def Fld.SYS_STAT_REARM_WAIT : FReg := ⟨Reg.SYS_STAT, 11, 1⟩
def Fld.SYS_STAT_HOST_RAMP : FReg := ⟨Reg.SYS_STAT, 10, 1⟩
def Fld.SYS_STAT_HOST_LOST : FReg := ⟨Reg.SYS_STAT, 9, 1⟩
def Fld.SYS_STAT_SLEEP_ABORT : FReg := ⟨Reg.SYS_STAT, 8, 1⟩
def Fld.SYS_STAT_WAKE : FReg := ⟨Reg.SYS_STAT, 5, 1⟩
def Fld.SYS_STAT_STOPREQ : FReg := ⟨Reg.SYS_STAT, 4, 1⟩
def Fld.SYS_STAT_START : FReg := ⟨Reg.SYS_STAT, 3, 1⟩
def Fld.SYS_STAT_KEY : FReg := ⟨Reg.SYS_STAT, 2, 1⟩
def Fld.SYS_STAT_FAULT_LINE : FReg := ⟨Reg.SYS_STAT, 1, 1⟩
def Fld.SYS_STAT_READY_LINE : FReg := ⟨Reg.SYS_STAT, 0, 1⟩
def Reg.SYS_FAULT : Nat := 0x40000010
def Fld.SYS_FAULT_CMD : FReg := ⟨Reg.SYS_FAULT, 10, 1⟩
def Fld.SYS_FAULT_HOST : FReg := ⟨Reg.SYS_FAULT, 9, 1⟩
def Fld.SYS_FAULT_FLO : FReg := ⟨Reg.SYS_FAULT, 8, 1⟩
def Fld.SYS_FAULT_WIT : FReg := ⟨Reg.SYS_FAULT, 7, 1⟩
def Fld.SYS_FAULT_DRV : FReg := ⟨Reg.SYS_FAULT, 6, 1⟩
def Fld.SYS_FAULT_TRK : FReg := ⟨Reg.SYS_FAULT, 5, 1⟩
def Fld.SYS_FAULT_PWR : FReg := ⟨Reg.SYS_FAULT, 4, 1⟩
def Fld.SYS_FAULT_CLK : FReg := ⟨Reg.SYS_FAULT, 3, 1⟩
def Fld.SYS_FAULT_CALIB : FReg := ⟨Reg.SYS_FAULT, 2, 1⟩
def Fld.SYS_FAULT_IMAGE : FReg := ⟨Reg.SYS_FAULT, 1, 1⟩
def Fld.SYS_FAULT_SUP_LOCKSTEP : FReg := ⟨Reg.SYS_FAULT, 0, 1⟩
def Reg.SYS_FAULTCFG : Nat := 0x40000014
def Fld.SYS_FAULTCFG_SAFE : FReg := ⟨Reg.SYS_FAULTCFG, 16, 11⟩
def Fld.SYS_FAULTCFG_LINE : FReg := ⟨Reg.SYS_FAULTCFG, 0, 11⟩
def Reg.SYS_HOSTLOSS : Nat := 0x40000018
def Fld.SYS_HOSTLOSS_GOV_AUTO : FReg := ⟨Reg.SYS_HOSTLOSS, 24, 1⟩
def Fld.SYS_HOSTLOSS_RAMP : FReg := ⟨Reg.SYS_HOSTLOSS, 16, 8⟩
def Fld.SYS_HOSTLOSS_HOLD : FReg := ⟨Reg.SYS_HOSTLOSS, 0, 16⟩

-- Registers of WHL.
def Reg.WHL_WREJ : Nat := 0x40080010
def Fld.WHL_WREJ_TRK_B : FReg := ⟨Reg.WHL_WREJ, 16, 16⟩
def Fld.WHL_WREJ_TRK_A : FReg := ⟨Reg.WHL_WREJ, 0, 16⟩
def Reg.WHL_CFG (i : Nat) : Nat := 0x40080100 + 0x20 * i
def Fld.WHL_CFG_THR_PCT (i : Nat) : FReg := ⟨Reg.WHL_CFG i, 24, 7⟩
def Fld.WHL_CFG_VR_MIN (i : Nat) : FReg := ⟨Reg.WHL_CFG i, 16, 5⟩
def Fld.WHL_CFG_DIR_INV (i : Nat) : FReg := ⟨Reg.WHL_CFG i, 10, 1⟩
def Fld.WHL_CFG_DIR_MODE (i : Nat) : FReg := ⟨Reg.WHL_CFG i, 8, 2⟩
def Fld.WHL_CFG_PULL (i : Nat) : FReg := ⟨Reg.WHL_CFG i, 6, 2⟩
def Fld.WHL_CFG_EDGE (i : Nat) : FReg := ⟨Reg.WHL_CFG i, 4, 2⟩
def Fld.WHL_CFG_POL (i : Nat) : FReg := ⟨Reg.WHL_CFG i, 3, 1⟩
def Fld.WHL_CFG_FE (i : Nat) : FReg := ⟨Reg.WHL_CFG i, 0, 3⟩
def Reg.WHL_FILT (i : Nat) : Nat := 0x40080104 + 0x20 * i
def Fld.WHL_FILT_RATIO (i : Nat) : FReg := ⟨Reg.WHL_FILT i, 8, 6⟩
def Fld.WHL_FILT_MIN_TIME (i : Nat) : FReg := ⟨Reg.WHL_FILT i, 0, 8⟩
def Reg.WHL_WIN (i : Nat) : Nat := 0x40080108 + 0x20 * i
def Fld.WHL_WIN_WIN (i : Nat) : FReg := ⟨Reg.WHL_WIN i, 0, 22⟩
def Reg.WHL_PW (i : Nat) : Nat := 0x4008010C + 0x20 * i
def Fld.WHL_PW_PW_MAX (i : Nat) : FReg := ⟨Reg.WHL_PW i, 8, 8⟩
def Fld.WHL_PW_PW_SPLIT (i : Nat) : FReg := ⟨Reg.WHL_PW i, 0, 8⟩
def Reg.WHL_STAT (i : Nat) : Nat := 0x40080110 + 0x20 * i
def Fld.WHL_STAT_PEAK (i : Nat) : FReg := ⟨Reg.WHL_STAT i, 16, 16⟩
def Fld.WHL_STAT_PW_INVALID (i : Nat) : FReg := ⟨Reg.WHL_STAT i, 12, 1⟩
def Fld.WHL_STAT_LOW_AMP (i : Nat) : FReg := ⟨Reg.WHL_STAT i, 11, 1⟩
def Fld.WHL_STAT_SHORT_BAT (i : Nat) : FReg := ⟨Reg.WHL_STAT i, 10, 1⟩
def Fld.WHL_STAT_SHORT_GND (i : Nat) : FReg := ⟨Reg.WHL_STAT i, 9, 1⟩
def Fld.WHL_STAT_VR_OPEN (i : Nat) : FReg := ⟨Reg.WHL_STAT i, 8, 1⟩
def Fld.WHL_STAT_DIR_VALID (i : Nat) : FReg := ⟨Reg.WHL_STAT i, 3, 1⟩
def Fld.WHL_STAT_DIR (i : Nat) : FReg := ⟨Reg.WHL_STAT i, 2, 1⟩
def Fld.WHL_STAT_ARMED (i : Nat) : FReg := ⟨Reg.WHL_STAT i, 1, 1⟩
def Fld.WHL_STAT_LEVEL (i : Nat) : FReg := ⟨Reg.WHL_STAT i, 0, 1⟩
def Reg.WHL_TSL (i : Nat) : Nat := 0x40080114 + 0x20 * i
def Fld.WHL_TSL_TS_LO (i : Nat) : FReg := ⟨Reg.WHL_TSL i, 0, 32⟩
def Reg.WHL_TSH (i : Nat) : Nat := 0x40080118 + 0x20 * i
def Fld.WHL_TSH_TS_HI (i : Nat) : FReg := ⟨Reg.WHL_TSH i, 0, 32⟩
def Reg.WHL_CNT (i : Nat) : Nat := 0x4008011C + 0x20 * i
def Fld.WHL_CNT_RATIO (i : Nat) : FReg := ⟨Reg.WHL_CNT i, 24, 8⟩
def Fld.WHL_CNT_GLITCH (i : Nat) : FReg := ⟨Reg.WHL_CNT i, 16, 8⟩
def Fld.WHL_CNT_ACCEPTED (i : Nat) : FReg := ⟨Reg.WHL_CNT i, 0, 16⟩
def Reg.WHL_WD_CFG (x : Nat) : Nat := 0x40080200 + 0x100 * x
def Fld.WHL_WD_CFG_DIR_SRC (x : Nat) : FReg := ⟨Reg.WHL_WD_CFG x, 24, 2⟩
def Fld.WHL_WD_CFG_CAM_EN (x : Nat) : FReg := ⟨Reg.WHL_WD_CFG x, 20, 1⟩
def Fld.WHL_WD_CFG_CAM_IN (x : Nat) : FReg := ⟨Reg.WHL_WD_CFG x, 18, 2⟩
def Fld.WHL_WD_CFG_CRANK_IN (x : Nat) : FReg := ⟨Reg.WHL_WD_CFG x, 16, 2⟩
def Fld.WHL_WD_CFG_MODE (x : Nat) : FReg := ⟨Reg.WHL_WD_CFG x, 13, 1⟩
def Fld.WHL_WD_CFG_STROKE (x : Nat) : FReg := ⟨Reg.WHL_WD_CFG x, 12, 1⟩
def Fld.WHL_WD_CFG_POS_REV (x : Nat) : FReg := ⟨Reg.WHL_WD_CFG x, 0, 11⟩
def Reg.WHL_WD_REF (x : Nat) : Nat := 0x40080204 + 0x100 * x
def Fld.WHL_WD_REF_REF_ANGLE (x : Nat) : FReg := ⟨Reg.WHL_WD_REF x, 0, 24⟩
def Reg.WHL_WD_GAP (x i : Nat) : Nat := 0x40080208 + 0x100 * x + 4 * i
def Fld.WHL_WD_GAP_EN (x i : Nat) : FReg := ⟨Reg.WHL_WD_GAP x i, 31, 1⟩
def Fld.WHL_WD_GAP_LEN (x i : Nat) : FReg := ⟨Reg.WHL_WD_GAP x i, 16, 3⟩
def Fld.WHL_WD_GAP_START (x i : Nat) : FReg := ⟨Reg.WHL_WD_GAP x i, 0, 10⟩
def Reg.WHL_WD_EXT (x i : Nat) : Nat := 0x40080218 + 0x100 * x + 4 * i
def Fld.WHL_WD_EXT_EN (x i : Nat) : FReg := ⟨Reg.WHL_WD_EXT x i, 31, 1⟩
def Fld.WHL_WD_EXT_FRAC (x i : Nat) : FReg := ⟨Reg.WHL_WD_EXT x i, 16, 8⟩
def Fld.WHL_WD_EXT_AFTER (x i : Nat) : FReg := ⟨Reg.WHL_WD_EXT x i, 0, 10⟩
def Reg.WHL_WD_CAMCFG (x : Nat) : Nat := 0x40080228 + 0x100 * x
def Fld.WHL_WD_CAMCFG_CAM_TOL (x : Nat) : FReg := ⟨Reg.WHL_WD_CAMCFG x, 0, 22⟩
def Reg.WHL_WD_CAM (x i : Nat) : Nat := 0x40080240 + 0x100 * x + 4 * i
def Fld.WHL_WD_CAM_EN (x i : Nat) : FReg := ⟨Reg.WHL_WD_CAM x i, 31, 1⟩
def Fld.WHL_WD_CAM_POL (x i : Nat) : FReg := ⟨Reg.WHL_WD_CAM x i, 24, 1⟩
def Fld.WHL_WD_CAM_ANGLE (x i : Nat) : FReg := ⟨Reg.WHL_WD_CAM x i, 0, 24⟩
def Reg.WHL_SIM_CTRL : Nat := 0x40080400
def Fld.WHL_SIM_CTRL_RUN : FReg := ⟨Reg.WHL_SIM_CTRL, 5, 1⟩
def Fld.WHL_SIM_CTRL_REV : FReg := ⟨Reg.WHL_SIM_CTRL, 4, 1⟩
def Fld.WHL_SIM_CTRL_CAM : FReg := ⟨Reg.WHL_SIM_CTRL, 3, 1⟩
def Fld.WHL_SIM_CTRL_DESC : FReg := ⟨Reg.WHL_SIM_CTRL, 2, 1⟩
def Fld.WHL_SIM_CTRL_DEPTH : FReg := ⟨Reg.WHL_SIM_CTRL, 1, 1⟩
def Fld.WHL_SIM_CTRL_EN : FReg := ⟨Reg.WHL_SIM_CTRL, 0, 1⟩
def Reg.WHL_SIM_ANG : Nat := 0x40080404
def Fld.WHL_SIM_ANG_ANGLE : FReg := ⟨Reg.WHL_SIM_ANG, 0, 24⟩
def Reg.WHL_SIM_RATE : Nat := 0x40080408
def Fld.WHL_SIM_RATE_RATE : FReg := ⟨Reg.WHL_SIM_RATE, 0, 32⟩
def Reg.WHL_SIM_TGT : Nat := 0x4008040C
def Fld.WHL_SIM_TGT_TGT : FReg := ⟨Reg.WHL_SIM_TGT, 0, 32⟩
def Reg.WHL_SIM_ACC : Nat := 0x40080410
def Fld.WHL_SIM_ACC_ACC : FReg := ⟨Reg.WHL_SIM_ACC, 0, 32⟩
def Reg.WHL_SIM_AMP : Nat := 0x40080414
def Fld.WHL_SIM_AMP_AMP : FReg := ⟨Reg.WHL_SIM_AMP, 0, 8⟩
def Reg.WHL_SIM_FLT : Nat := 0x40080418
def Fld.WHL_SIM_FLT_FLIP : FReg := ⟨Reg.WHL_SIM_FLT, 11, 1⟩
def Fld.WHL_SIM_FLT_CAM_OFF : FReg := ⟨Reg.WHL_SIM_FLT, 10, 1⟩
def Fld.WHL_SIM_FLT_EXTRA : FReg := ⟨Reg.WHL_SIM_FLT, 9, 1⟩
def Fld.WHL_SIM_FLT_DROP : FReg := ⟨Reg.WHL_SIM_FLT, 8, 1⟩
def Fld.WHL_SIM_FLT_DROP_N : FReg := ⟨Reg.WHL_SIM_FLT, 0, 4⟩

-- Registers of TRK.
def Reg.TRK_CTRL (x : Nat) : Nat := 0x40090000 + 0x2000 * x
def Fld.TRK_CTRL_RESYNC (x : Nat) : FReg := ⟨Reg.TRK_CTRL x, 8, 1⟩
def Fld.TRK_CTRL_PROF_EN (x : Nat) : FReg := ⟨Reg.TRK_CTRL x, 5, 1⟩
def Fld.TRK_CTRL_MODEL_EN (x : Nat) : FReg := ⟨Reg.TRK_CTRL x, 4, 1⟩
def Fld.TRK_CTRL_SRC (x : Nat) : FReg := ⟨Reg.TRK_CTRL x, 0, 2⟩
def Reg.TRK_STAT (x : Nat) : Nat := 0x40090004 + 0x2000 * x
def Fld.TRK_STAT_HEALTH (x : Nat) : FReg := ⟨Reg.TRK_STAT x, 24, 8⟩
def Fld.TRK_STAT_COAST_N (x : Nat) : FReg := ⟨Reg.TRK_STAT x, 20, 4⟩
def Fld.TRK_STAT_TBL_DROP (x : Nat) : FReg := ⟨Reg.TRK_STAT x, 15, 1⟩
def Fld.TRK_STAT_PHASE_CLAMP (x : Nat) : FReg := ⟨Reg.TRK_STAT x, 14, 1⟩
def Fld.TRK_STAT_CAM_CONFLICT (x : Nat) : FReg := ⟨Reg.TRK_STAT x, 13, 1⟩
def Fld.TRK_STAT_PRESET_MISS (x : Nat) : FReg := ⟨Reg.TRK_STAT x, 12, 1⟩
def Fld.TRK_STAT_NO_MARK (x : Nat) : FReg := ⟨Reg.TRK_STAT x, 11, 1⟩
def Fld.TRK_STAT_CAM_MISSING (x : Nat) : FReg := ⟨Reg.TRK_STAT x, 10, 1⟩
def Fld.TRK_STAT_PRED (x : Nat) : FReg := ⟨Reg.TRK_STAT x, 9, 1⟩
def Fld.TRK_STAT_CRAWL (x : Nat) : FReg := ⟨Reg.TRK_STAT x, 8, 1⟩
def Fld.TRK_STAT_DIR (x : Nat) : FReg := ⟨Reg.TRK_STAT x, 7, 1⟩
def Fld.TRK_STAT_SHOT_OK (x : Nat) : FReg := ⟨Reg.TRK_STAT x, 6, 1⟩
def Fld.TRK_STAT_STATE (x : Nat) : FReg := ⟨Reg.TRK_STAT x, 0, 4⟩
def Reg.TRK_ANGLE (x : Nat) : Nat := 0x40090008 + 0x2000 * x
def Fld.TRK_ANGLE_ANGLE (x : Nat) : FReg := ⟨Reg.TRK_ANGLE x, 0, 24⟩
def Reg.TRK_FRAC (x : Nat) : Nat := 0x4009000C + 0x2000 * x
def Fld.TRK_FRAC_FRAC (x : Nat) : FReg := ⟨Reg.TRK_FRAC x, 0, 32⟩
def Reg.TRK_RATEL (x : Nat) : Nat := 0x40090010 + 0x2000 * x
def Fld.TRK_RATEL_RATE_F (x : Nat) : FReg := ⟨Reg.TRK_RATEL x, 0, 32⟩
def Reg.TRK_RATEH (x : Nat) : Nat := 0x40090014 + 0x2000 * x
def Fld.TRK_RATEH_RATE_I (x : Nat) : FReg := ⟨Reg.TRK_RATEH x, 0, 8⟩
def Reg.TRK_CYCLE (x : Nat) : Nat := 0x40090018 + 0x2000 * x
def Fld.TRK_CYCLE_CYCLE (x : Nat) : FReg := ⟨Reg.TRK_CYCLE x, 0, 32⟩
def Reg.TRK_POS (x : Nat) : Nat := 0x4009001C + 0x2000 * x
def Fld.TRK_POS_KNOWN (x : Nat) : FReg := ⟨Reg.TRK_POS x, 16, 1⟩
def Fld.TRK_POS_NEXT (x : Nat) : FReg := ⟨Reg.TRK_POS x, 0, 10⟩
def Reg.TRK_PERR (x : Nat) : Nat := 0x40090020 + 0x2000 * x
def Fld.TRK_PERR_PERR (x : Nat) : FReg := ⟨Reg.TRK_PERR x, 0, 32⟩
def Reg.TRK_TINT (x : Nat) : Nat := 0x40090024 + 0x2000 * x
def Fld.TRK_TINT_TINT (x : Nat) : FReg := ⟨Reg.TRK_TINT x, 0, 32⟩
def Reg.TRK_SPEED (x : Nat) : Nat := 0x40090028 + 0x2000 * x
def Fld.TRK_SPEED_SPEED (x : Nat) : FReg := ⟨Reg.TRK_SPEED x, 0, 20⟩
def Reg.TRK_SYNC (x : Nat) : Nat := 0x4009002C + 0x2000 * x
def Fld.TRK_SYNC_COAST_LIM (x : Nat) : FReg := ⟨Reg.TRK_SYNC x, 16, 4⟩
def Fld.TRK_SYNC_CAM_FLIP (x : Nat) : FReg := ⟨Reg.TRK_SYNC x, 12, 4⟩
def Fld.TRK_SYNC_FAIL_N (x : Nat) : FReg := ⟨Reg.TRK_SYNC x, 8, 4⟩
def Fld.TRK_SYNC_THR (x : Nat) : FReg := ⟨Reg.TRK_SYNC x, 0, 8⟩
def Reg.TRK_PRED (x : Nat) : Nat := 0x40090030 + 0x2000 * x
def Fld.TRK_PRED_OUTLIER (x : Nat) : FReg := ⟨Reg.TRK_PRED x, 16, 8⟩
def Fld.TRK_PRED_RET (x : Nat) : FReg := ⟨Reg.TRK_PRED x, 8, 8⟩
def Fld.TRK_PRED_THR (x : Nat) : FReg := ⟨Reg.TRK_PRED x, 0, 8⟩
def Reg.TRK_LEARN (x : Nat) : Nat := 0x40090034 + 0x2000 * x
def Fld.TRK_LEARN_MODEL_LEARN (x : Nat) : FReg := ⟨Reg.TRK_LEARN x, 31, 1⟩
def Fld.TRK_LEARN_PROF_LEARN (x : Nat) : FReg := ⟨Reg.TRK_LEARN x, 30, 1⟩
def Fld.TRK_LEARN_PROF_GATE (x : Nat) : FReg := ⟨Reg.TRK_LEARN x, 28, 2⟩
def Fld.TRK_LEARN_PMU (x : Nat) : FReg := ⟨Reg.TRK_LEARN x, 16, 4⟩
def Fld.TRK_LEARN_MU (x : Nat) : FReg := ⟨Reg.TRK_LEARN x, 8, 4⟩
def Fld.TRK_LEARN_MIN_CYC (x : Nat) : FReg := ⟨Reg.TRK_LEARN x, 0, 8⟩
def Reg.TRK_LSPD (x : Nat) : Nat := 0x40090038 + 0x2000 * x
def Fld.TRK_LSPD_MAX (x : Nat) : FReg := ⟨Reg.TRK_LSPD x, 16, 16⟩
def Fld.TRK_LSPD_MIN (x : Nat) : FReg := ⟨Reg.TRK_LSPD x, 0, 16⟩
def Reg.TRK_LOAD (x : Nat) : Nat := 0x4009003C + 0x2000 * x
def Fld.TRK_LOAD_TRAINED (x : Nat) : FReg := ⟨Reg.TRK_LOAD x, 16, 8⟩
def Fld.TRK_LOAD_ACTIVE (x : Nat) : FReg := ⟨Reg.TRK_LOAD x, 8, 3⟩
def Fld.TRK_LOAD_BUCKET (x : Nat) : FReg := ⟨Reg.TRK_LOAD x, 0, 3⟩
def Reg.TRK_STOP (x : Nat) : Nat := 0x40090040 + 0x2000 * x
def Fld.TRK_STOP_CRAWL_T (x : Nat) : FReg := ⟨Reg.TRK_STOP x, 16, 16⟩
def Fld.TRK_STOP_STOP_MS (x : Nat) : FReg := ⟨Reg.TRK_STOP x, 0, 16⟩
def Reg.TRK_REVOFS (x : Nat) : Nat := 0x40090044 + 0x2000 * x
def Fld.TRK_REVOFS_REVOFS (x : Nat) : FReg := ⟨Reg.TRK_REVOFS x, 0, 24⟩
def Reg.TRK_CNT (x : Nat) : Nat := 0x40090048 + 0x2000 * x
def Fld.TRK_CNT_RESYNC (x : Nat) : FReg := ⟨Reg.TRK_CNT x, 24, 8⟩
def Fld.TRK_CNT_GAPFAIL (x : Nat) : FReg := ⟨Reg.TRK_CNT x, 16, 8⟩
def Fld.TRK_CNT_CAMERR (x : Nat) : FReg := ⟨Reg.TRK_CNT x, 8, 8⟩
def Fld.TRK_CNT_MISS (x : Nat) : FReg := ⟨Reg.TRK_CNT x, 0, 8⟩
def Reg.TRK_TBLA (x : Nat) : Nat := 0x4009004C + 0x2000 * x
def Fld.TRK_TBLA_AUTOINC (x : Nat) : FReg := ⟨Reg.TRK_TBLA x, 16, 1⟩
def Fld.TRK_TBLA_TABLE (x : Nat) : FReg := ⟨Reg.TRK_TBLA x, 15, 1⟩
def Fld.TRK_TBLA_BUCKET (x : Nat) : FReg := ⟨Reg.TRK_TBLA x, 10, 3⟩
def Fld.TRK_TBLA_INDEX (x : Nat) : FReg := ⟨Reg.TRK_TBLA x, 0, 10⟩
def Reg.TRK_TBLD (x : Nat) : Nat := 0x40090050 + 0x2000 * x
def Fld.TRK_TBLD_DATA (x : Nat) : FReg := ⟨Reg.TRK_TBLD x, 0, 16⟩
def Reg.TRK_VOTE : Nat := 0x40094000
def Fld.TRK_VOTE_VOTE_N : FReg := ⟨Reg.TRK_VOTE, 28, 4⟩
def Fld.TRK_VOTE_SLEW : FReg := ⟨Reg.TRK_VOTE, 24, 4⟩
def Fld.TRK_VOTE_AGREE : FReg := ⟨Reg.TRK_VOTE, 0, 24⟩
def Reg.TRK_VSEL : Nat := 0x40094004
def Fld.TRK_VSEL_DIS_SEEN : FReg := ⟨Reg.TRK_VSEL, 19, 1⟩
def Fld.TRK_VSEL_DISAGREE : FReg := ⟨Reg.TRK_VSEL, 18, 1⟩
def Fld.TRK_VSEL_SLEWING : FReg := ⟨Reg.TRK_VSEL, 17, 1⟩
def Fld.TRK_VSEL_SEL : FReg := ⟨Reg.TRK_VSEL, 16, 1⟩
def Fld.TRK_VSEL_HYST : FReg := ⟨Reg.TRK_VSEL, 8, 4⟩
def Fld.TRK_VSEL_PREFER : FReg := ⟨Reg.TRK_VSEL, 2, 1⟩
def Fld.TRK_VSEL_MODE : FReg := ⟨Reg.TRK_VSEL, 0, 2⟩
def Reg.TRK_DIFF : Nat := 0x40094008
def Fld.TRK_DIFF_DIFF : FReg := ⟨Reg.TRK_DIFF, 0, 32⟩
def Reg.TRK_OUT : Nat := 0x4009400C
def Fld.TRK_OUT_REVERSE : FReg := ⟨Reg.TRK_OUT, 25, 1⟩
def Fld.TRK_OUT_SHOT_OK : FReg := ⟨Reg.TRK_OUT, 24, 1⟩
def Fld.TRK_OUT_ANGLE : FReg := ⟨Reg.TRK_OUT, 0, 24⟩
def Reg.TRK_SWCNT : Nat := 0x40094010
def Fld.TRK_SWCNT_COUNT : FReg := ⟨Reg.TRK_SWCNT, 0, 16⟩
def Reg.TRK_STOPA : Nat := 0x40094020
def Fld.TRK_STOPA_VALID : FReg := ⟨Reg.TRK_STOPA, 31, 1⟩
def Fld.TRK_STOPA_FROM_MRAM : FReg := ⟨Reg.TRK_STOPA, 30, 1⟩
def Fld.TRK_STOPA_WD : FReg := ⟨Reg.TRK_STOPA, 16, 1⟩
def Fld.TRK_STOPA_NEXT : FReg := ⟨Reg.TRK_STOPA, 0, 10⟩
def Reg.TRK_FROST : Nat := 0x40094024
def Fld.TRK_FROST_MRAM_OK : FReg := ⟨Reg.TRK_FROST, 8, 1⟩
def Fld.TRK_FROST_IN : FReg := ⟨Reg.TRK_FROST, 1, 2⟩
def Fld.TRK_FROST_EN : FReg := ⟨Reg.TRK_FROST, 0, 1⟩
def Reg.TRK_FCNT : Nat := 0x40094028
def Fld.TRK_FCNT_ACTIVE : FReg := ⟨Reg.TRK_FCNT, 18, 1⟩
def Fld.TRK_FCNT_NODIR : FReg := ⟨Reg.TRK_FCNT, 17, 1⟩
def Fld.TRK_FCNT_OVF : FReg := ⟨Reg.TRK_FCNT, 16, 1⟩
def Fld.TRK_FCNT_COUNT : FReg := ⟨Reg.TRK_FCNT, 0, 16⟩
def Reg.TRK_RATE0 : Nat := 0x4009402C
def Fld.TRK_RATE0_RATE0 : FReg := ⟨Reg.TRK_RATE0, 0, 32⟩

-- Registers of SCH.
def Reg.SCH_CTRL : Nat := 0x400A0000
def Fld.SCH_CTRL_AUTONOMY : FReg := ⟨Reg.SCH_CTRL, 8, 8⟩
def Fld.SCH_CTRL_GOV : FReg := ⟨Reg.SCH_CTRL, 3, 1⟩
def Fld.SCH_CTRL_DEMAND : FReg := ⟨Reg.SCH_CTRL, 2, 1⟩
def Fld.SCH_CTRL_FIRE_ON_PRESET : FReg := ⟨Reg.SCH_CTRL, 1, 1⟩
def Fld.SCH_CTRL_EN : FReg := ⟨Reg.SCH_CTRL, 0, 1⟩
def Reg.SCH_STAT : Nat := 0x400A0004
def Fld.SCH_STAT_AUTO_CNT : FReg := ⟨Reg.SCH_STAT, 24, 8⟩
def Fld.SCH_STAT_AUTO_OUT : FReg := ⟨Reg.SCH_STAT, 23, 1⟩
def Fld.SCH_STAT_RESTART : FReg := ⟨Reg.SCH_STAT, 22, 1⟩
def Fld.SCH_STAT_CLOSE_REFUSED : FReg := ⟨Reg.SCH_STAT, 21, 1⟩
def Fld.SCH_STAT_SENS_FAULT : FReg := ⟨Reg.SCH_STAT, 20, 1⟩
def Fld.SCH_STAT_STALE_COMMITS : FReg := ⟨Reg.SCH_STAT, 0, 16⟩
def Reg.SCH_REFRESH : Nat := 0x400A0008
def Fld.SCH_REFRESH_REFRESH : FReg := ⟨Reg.SCH_REFRESH, 0, 1⟩
def Reg.SCH_TXN : Nat := 0x400A000C
def Fld.SCH_TXN_OPEN : FReg := ⟨Reg.SCH_TXN, 0, 24⟩
def Reg.SCH_TXN_CLOSE : Nat := 0x400A0010
def Fld.SCH_TXN_CLOSE_CLOSE : FReg := ⟨Reg.SCH_TXN_CLOSE, 0, 24⟩
def Reg.SCH_TXN_ABORT : Nat := 0x400A0014
def Fld.SCH_TXN_ABORT_ABORT : FReg := ⟨Reg.SCH_TXN_ABORT, 0, 24⟩
def Reg.SCH_PREP : Nat := 0x400A0018
def Fld.SCH_PREP_PREP_LEAD : FReg := ⟨Reg.SCH_PREP, 0, 24⟩
def Reg.SCH_PREPPEND : Nat := 0x400A001C
def Fld.SCH_PREPPEND_PEND : FReg := ⟨Reg.SCH_PREPPEND, 0, 24⟩
def Reg.SCH_CNT : Nat := 0x400A0020
def Fld.SCH_CNT_COMMITS : FReg := ⟨Reg.SCH_CNT, 16, 16⟩
def Fld.SCH_CNT_EVT_LATE : FReg := ⟨Reg.SCH_CNT, 8, 8⟩
def Fld.SCH_CNT_CLOSE_REF : FReg := ⟨Reg.SCH_CNT, 0, 8⟩
def Reg.SCH_FPQ : Nat := 0x400A0024
def Fld.SCH_FPQ_ERR : FReg := ⟨Reg.SCH_FPQ, 16, 8⟩
def Fld.SCH_FPQ_QFULL : FReg := ⟨Reg.SCH_FPQ, 8, 8⟩
def Fld.SCH_FPQ_LEVEL : FReg := ⟨Reg.SCH_FPQ, 0, 5⟩
def Reg.SCH_DEM0 : Nat := 0x400A0030
def Fld.SCH_DEM0_QTY : FReg := ⟨Reg.SCH_DEM0, 16, 16⟩
def Fld.SCH_DEM0_FUEL : FReg := ⟨Reg.SCH_DEM0, 8, 8⟩
def Fld.SCH_DEM0_MODE : FReg := ⟨Reg.SCH_DEM0, 0, 8⟩
def Reg.SCH_DEM1 : Nat := 0x400A0034
def Fld.SCH_DEM1_TIMING : FReg := ⟨Reg.SCH_DEM1, 16, 16⟩
def Fld.SCH_DEM1_SPEED : FReg := ⟨Reg.SCH_DEM1, 0, 16⟩
def Reg.SCH_DEM2 : Nat := 0x400A0038
def Fld.SCH_DEM2_RAIL : FReg := ⟨Reg.SCH_DEM2, 16, 16⟩
def Fld.SCH_DEM2_GAS_SHARE : FReg := ⟨Reg.SCH_DEM2, 0, 16⟩
def Reg.SCH_DEM3 : Nat := 0x400A003C
def Fld.SCH_DEM3_UPD : FReg := ⟨Reg.SCH_DEM3, 24, 8⟩
def Fld.SCH_DEM3_CYL_OFF : FReg := ⟨Reg.SCH_DEM3, 0, 24⟩
def Reg.SCH_CYL_A (c : Nat) : Nat := 0x400A0100 + 0x20 * c
def Fld.SCH_CYL_A_EN (c : Nat) : FReg := ⟨Reg.SCH_CYL_A c, 31, 1⟩
def Fld.SCH_CYL_A_FIRE_IDX (c : Nat) : FReg := ⟨Reg.SCH_CYL_A c, 24, 5⟩
def Fld.SCH_CYL_A_TDC (c : Nat) : FReg := ⟨Reg.SCH_CYL_A c, 0, 24⟩
def Reg.SCH_CYL_B (c : Nat) : Nat := 0x400A0104 + 0x20 * c
def Fld.SCH_CYL_B_VALVE_EN (c : Nat) : FReg := ⟨Reg.SCH_CYL_B c, 15, 1⟩
def Fld.SCH_CYL_B_VALVE_CH (c : Nat) : FReg := ⟨Reg.SCH_CYL_B c, 8, 6⟩
def Fld.SCH_CYL_B_INJ_EN (c : Nat) : FReg := ⟨Reg.SCH_CYL_B c, 7, 1⟩
def Fld.SCH_CYL_B_INJ_CH (c : Nat) : FReg := ⟨Reg.SCH_CYL_B c, 0, 6⟩
def Reg.SCH_CYL_C (c : Nat) : Nat := 0x400A0108 + 0x20 * c
def Fld.SCH_CYL_C_SLOT_CNT (c : Nat) : FReg := ⟨Reg.SCH_CYL_C c, 16, 12⟩
def Fld.SCH_CYL_C_SLOT_BASE (c : Nat) : FReg := ⟨Reg.SCH_CYL_C c, 0, 11⟩
def Reg.SCH_CYL_D (c : Nat) : Nat := 0x400A010C + 0x20 * c
def Fld.SCH_CYL_D_LATCH_LEAD (c : Nat) : FReg := ⟨Reg.SCH_CYL_D c, 0, 24⟩
def Reg.SCH_CYL_E (c : Nat) : Nat := 0x400A0110 + 0x20 * c
def Fld.SCH_CYL_E_LATCH (c : Nat) : FReg := ⟨Reg.SCH_CYL_E c, 0, 24⟩
def Reg.SCH_FIRED (i : Nat) : Nat := 0x400A0400 + 0x4 * i
def Fld.SCH_FIRED_FIRED (i : Nat) : FReg := ⟨Reg.SCH_FIRED i, 0, 32⟩
def Reg.SCH_ARMED (i : Nat) : Nat := 0x400A0500 + 0x4 * i
def Fld.SCH_ARMED_ARMED (i : Nat) : FReg := ⟨Reg.SCH_ARMED i, 0, 32⟩

-- Registers of ADC.
def Reg.ADC_CFG (a : Nat) : Nat := 0x400F0000 + 0x40 * a
def Fld.ADC_CFG_BURST_MAX (a : Nat) : FReg := ⟨Reg.ADC_CFG a, 16, 12⟩
def Fld.ADC_CFG_FIFO_THR (a : Nat) : FReg := ⟨Reg.ADC_CFG a, 0, 6⟩
def Reg.ADC_STAT (a : Nat) : Nat := 0x400F0004 + 0x40 * a
def Fld.ADC_STAT_BURST_REJ (a : Nat) : FReg := ⟨Reg.ADC_STAT a, 25, 1⟩
def Fld.ADC_STAT_OVR (a : Nat) : FReg := ⟨Reg.ADC_STAT a, 24, 1⟩
def Fld.ADC_STAT_CALV_SKIP (a : Nat) : FReg := ⟨Reg.ADC_STAT a, 16, 8⟩
def Fld.ADC_STAT_SKIP (a : Nat) : FReg := ⟨Reg.ADC_STAT a, 8, 8⟩
def Fld.ADC_STAT_BURST (a : Nat) : FReg := ⟨Reg.ADC_STAT a, 7, 1⟩
def Fld.ADC_STAT_LEVEL (a : Nat) : FReg := ⟨Reg.ADC_STAT a, 0, 7⟩
def Reg.ADC_FIFO (a : Nat) : Nat := 0x400F0008 + 0x40 * a
def Fld.ADC_FIFO_RESULT (a : Nat) : FReg := ⟨Reg.ADC_FIFO a, 0, 32⟩
def Reg.ADC_SCAN (a : Nat) : Nat := 0x400F000C + 0x40 * a
def Fld.ADC_SCAN_PERIOD (a : Nat) : FReg := ⟨Reg.ADC_SCAN a, 16, 16⟩
def Fld.ADC_SCAN_MASK (a : Nat) : FReg := ⟨Reg.ADC_SCAN a, 0, 4⟩
def Reg.ADC_LAST (a i : Nat) : Nat := 0x400F0010 + 0x40 * a + 4 * i
def Fld.ADC_LAST_VALID (a i : Nat) : FReg := ⟨Reg.ADC_LAST a i, 15, 1⟩
def Fld.ADC_LAST_VALUE (a i : Nat) : FReg := ⟨Reg.ADC_LAST a i, 0, 12⟩
def Reg.ADC_ESS : Nat := 0x400F0100
def Fld.ADC_ESS_ESSENTIAL : FReg := ⟨Reg.ADC_ESS, 0, 16⟩

-- Registers of DRV.
def Reg.DRV_CTRL : Nat := 0x400C0000
def Fld.DRV_CTRL_QUENCH : FReg := ⟨Reg.DRV_CTRL, 8, 1⟩
def Fld.DRV_CTRL_DIAG_EN : FReg := ⟨Reg.DRV_CTRL, 4, 1⟩
def Fld.DRV_CTRL_PAIR_MODE : FReg := ⟨Reg.DRV_CTRL, 3, 1⟩
def Fld.DRV_CTRL_STBY : FReg := ⟨Reg.DRV_CTRL, 2, 1⟩
def Fld.DRV_CTRL_BOOST_EN : FReg := ⟨Reg.DRV_CTRL, 1, 1⟩
def Fld.DRV_CTRL_EN : FReg := ⟨Reg.DRV_CTRL, 0, 1⟩
def Reg.DRV_STAT : Nat := 0x400C0004
def Fld.DRV_STAT_CLAMP_SLOW : FReg := ⟨Reg.DRV_STAT, 7, 1⟩
def Fld.DRV_STAT_PH1_FAIL : FReg := ⟨Reg.DRV_STAT, 6, 1⟩
def Fld.DRV_STAT_PH0_FAIL : FReg := ⟨Reg.DRV_STAT, 5, 1⟩
def Fld.DRV_STAT_BOOST_FAIL : FReg := ⟨Reg.DRV_STAT, 4, 1⟩
def Fld.DRV_STAT_BOOST_OV : FReg := ⟨Reg.DRV_STAT, 3, 1⟩
def Fld.DRV_STAT_BOOST_LOW : FReg := ⟨Reg.DRV_STAT, 2, 1⟩
def Fld.DRV_STAT_CHARGING : FReg := ⟨Reg.DRV_STAT, 1, 1⟩
def Fld.DRV_STAT_STBY_ALL : FReg := ⟨Reg.DRV_STAT, 0, 1⟩
def Reg.DRV_VBOOSTMIN : Nat := 0x400C0008
def Fld.DRV_VBOOSTMIN_VMIN : FReg := ⟨Reg.DRV_VBOOSTMIN, 0, 10⟩
def Reg.DRV_VBOOST : Nat := 0x400C000C
def Fld.DRV_VBOOST_VBOOST : FReg := ⟨Reg.DRV_VBOOST, 0, 10⟩
def Reg.DRV_BCFG : Nat := 0x400C0010
def Fld.DRV_BCFG_BAND : FReg := ⟨Reg.DRV_BCFG, 24, 4⟩
def Fld.DRV_BCFG_OV_MARGIN : FReg := ⟨Reg.DRV_BCFG, 16, 4⟩
def Fld.DRV_BCFG_VSET : FReg := ⟨Reg.DRV_BCFG, 0, 10⟩
def Reg.DRV_BLIM : Nat := 0x400C0014
def Fld.DRV_BLIM_IIN_HOLD : FReg := ⟨Reg.DRV_BLIM, 16, 8⟩
def Fld.DRV_BLIM_IIN : FReg := ⟨Reg.DRV_BLIM, 8, 8⟩
def Fld.DRV_BLIM_ILIM : FReg := ⟨Reg.DRV_BLIM, 0, 8⟩
def Reg.DRV_BEN : Nat := 0x400C0018
def Fld.DRV_BEN_RETURNED : FReg := ⟨Reg.DRV_BEN, 16, 16⟩
def Fld.DRV_BEN_DRAWN : FReg := ⟨Reg.DRV_BEN, 0, 16⟩
def Reg.DRV_DIAG : Nat := 0x400C0020
def Fld.DRV_DIAG_AUTOCLR : FReg := ⟨Reg.DRV_DIAG, 24, 1⟩
def Fld.DRV_DIAG_OPEN_I : FReg := ⟨Reg.DRV_DIAG, 16, 8⟩
def Fld.DRV_DIAG_PERIOD : FReg := ⟨Reg.DRV_DIAG, 0, 16⟩
def Reg.DRV_AMB : Nat := 0x400C0024
def Fld.DRV_AMB_STALE : FReg := ⟨Reg.DRV_AMB, 16, 1⟩
def Fld.DRV_AMB_FAIL_T : FReg := ⟨Reg.DRV_AMB, 8, 8⟩
def Fld.DRV_AMB_AMB : FReg := ⟨Reg.DRV_AMB, 0, 8⟩
def Reg.DRV_STBY : Nat := 0x400C0028
def Fld.DRV_STBY_OVL : FReg := ⟨Reg.DRV_STBY, 16, 8⟩
def Fld.DRV_STBY_FOREIGN_THR : FReg := ⟨Reg.DRV_STBY, 8, 8⟩
def Fld.DRV_STBY_VOBS : FReg := ⟨Reg.DRV_STBY, 0, 8⟩
def Reg.DRV_DIE (i : Nat) : Nat := 0x400C0030 + 0x4 * i
def Fld.DRV_DIE_STOP (i : Nat) : FReg := ⟨Reg.DRV_DIE i, 26, 1⟩
def Fld.DRV_DIE_PWR_OVER (i : Nat) : FReg := ⟨Reg.DRV_DIE i, 25, 1⟩
def Fld.DRV_DIE_HOT (i : Nat) : FReg := ⟨Reg.DRV_DIE i, 24, 1⟩
def Fld.DRV_DIE_PAVG (i : Nat) : FReg := ⟨Reg.DRV_DIE i, 8, 16⟩
def Fld.DRV_DIE_TEMP (i : Nat) : FReg := ⟨Reg.DRV_DIE i, 0, 8⟩
def Reg.DRV_DIELIM : Nat := 0x400C0038
def Fld.DRV_DIELIM_PLIM : FReg := ⟨Reg.DRV_DIELIM, 8, 16⟩
def Fld.DRV_DIELIM_DIE_T1 : FReg := ⟨Reg.DRV_DIELIM, 0, 8⟩
def Reg.DRV_BANK (i : Nat) : Nat := 0x400C0040 + 0x4 * i
def Fld.DRV_BANK_TOL (i : Nat) : FReg := ⟨Reg.DRV_BANK i, 8, 8⟩
def Fld.DRV_BANK_PAIR (i : Nat) : FReg := ⟨Reg.DRV_BANK i, 0, 3⟩
def Reg.DRV_BANKSTAT (i : Nat) : Nat := 0x400C0060 + 0x4 * i
def Fld.DRV_BANKSTAT_DIAG_RUN (i : Nat) : FReg := ⟨Reg.DRV_BANKSTAT i, 28, 1⟩
def Fld.DRV_BANKSTAT_CLAIM_OVER (i : Nat) : FReg := ⟨Reg.DRV_BANKSTAT i, 27, 1⟩
def Fld.DRV_BANKSTAT_FOREIGN (i : Nat) : FReg := ⟨Reg.DRV_BANKSTAT i, 26, 1⟩
def Fld.DRV_BANKSTAT_SHORT_GND (i : Nat) : FReg := ⟨Reg.DRV_BANKSTAT i, 25, 1⟩
def Fld.DRV_BANKSTAT_HS_OC (i : Nat) : FReg := ⟨Reg.DRV_BANKSTAT i, 24, 1⟩
def Fld.DRV_BANKSTAT_BOOST_CH (i : Nat) : FReg := ⟨Reg.DRV_BANKSTAT i, 16, 6⟩
def Fld.DRV_BANKSTAT_BOOSTING (i : Nat) : FReg := ⟨Reg.DRV_BANKSTAT i, 10, 1⟩
def Fld.DRV_BANKSTAT_OCC (i : Nat) : FReg := ⟨Reg.DRV_BANKSTAT i, 8, 2⟩
def Fld.DRV_BANKSTAT_CLAIM (i : Nat) : FReg := ⟨Reg.DRV_BANKSTAT i, 0, 7⟩
def Reg.DRV_CH_CFG (i : Nat) : Nat := 0x400C0100 + 0x10 * i
def Fld.DRV_CH_CFG_OPEN_T (i : Nat) : FReg := ⟨Reg.DRV_CH_CFG i, 16, 8⟩
def Fld.DRV_CH_CFG_ICLAIM (i : Nat) : FReg := ⟨Reg.DRV_CH_CFG i, 8, 8⟩
def Fld.DRV_CH_CFG_STBY (i : Nat) : FReg := ⟨Reg.DRV_CH_CFG i, 4, 1⟩
def Fld.DRV_CH_CFG_DIAG (i : Nat) : FReg := ⟨Reg.DRV_CH_CFG i, 3, 1⟩
def Fld.DRV_CH_CFG_TMODEL (i : Nat) : FReg := ⟨Reg.DRV_CH_CFG i, 1, 2⟩
def Fld.DRV_CH_CFG_EN (i : Nat) : FReg := ⟨Reg.DRV_CH_CFG i, 0, 1⟩
def Reg.DRV_CH_STAT (i : Nat) : Nat := 0x400C0104 + 0x10 * i
def Fld.DRV_CH_STAT_THERM_STOP (i : Nat) : FReg := ⟨Reg.DRV_CH_STAT i, 14, 1⟩
def Fld.DRV_CH_STAT_WAIT (i : Nat) : FReg := ⟨Reg.DRV_CH_STAT i, 13, 1⟩
def Fld.DRV_CH_STAT_OCCUPY (i : Nat) : FReg := ⟨Reg.DRV_CH_STAT i, 12, 1⟩
def Fld.DRV_CH_STAT_PHASE (i : Nat) : FReg := ⟨Reg.DRV_CH_STAT i, 8, 4⟩
def Fld.DRV_CH_STAT_BLOCKING (i : Nat) : FReg := ⟨Reg.DRV_CH_STAT i, 7, 1⟩
def Fld.DRV_CH_STAT_OBS_DRIVE (i : Nat) : FReg := ⟨Reg.DRV_CH_STAT i, 6, 1⟩
def Fld.DRV_CH_STAT_TSTEP (i : Nat) : FReg := ⟨Reg.DRV_CH_STAT i, 4, 2⟩
def Fld.DRV_CH_STAT_OPEN (i : Nat) : FReg := ⟨Reg.DRV_CH_STAT i, 3, 1⟩
def Fld.DRV_CH_STAT_SHORT_GND (i : Nat) : FReg := ⟨Reg.DRV_CH_STAT i, 2, 1⟩
def Fld.DRV_CH_STAT_SHORT_BAT (i : Nat) : FReg := ⟨Reg.DRV_CH_STAT i, 1, 1⟩
def Fld.DRV_CH_STAT_OC (i : Nat) : FReg := ⟨Reg.DRV_CH_STAT i, 0, 1⟩
def Reg.DRV_CH_TEMP (i : Nat) : Nat := 0x400C0108 + 0x10 * i
def Fld.DRV_CH_TEMP_TB (i : Nat) : FReg := ⟨Reg.DRV_CH_TEMP i, 16, 16⟩
def Fld.DRV_CH_TEMP_TW (i : Nat) : FReg := ⟨Reg.DRV_CH_TEMP i, 0, 16⟩
def Reg.DRV_TMODEL_R (i : Nat) : Nat := 0x400C0400 + 0x10 * i
def Fld.DRV_TMODEL_R_TC (i : Nat) : FReg := ⟨Reg.DRV_TMODEL_R i, 16, 16⟩
def Fld.DRV_TMODEL_R_RCOIL (i : Nat) : FReg := ⟨Reg.DRV_TMODEL_R i, 0, 16⟩
def Reg.DRV_TMODEL_G (i : Nat) : Nat := 0x400C0404 + 0x10 * i
def Fld.DRV_TMODEL_G_RBA (i : Nat) : FReg := ⟨Reg.DRV_TMODEL_G i, 16, 16⟩
def Fld.DRV_TMODEL_G_RWB (i : Nat) : FReg := ⟨Reg.DRV_TMODEL_G i, 0, 16⟩
def Reg.DRV_TMODEL_C (i : Nat) : Nat := 0x400C0408 + 0x10 * i
def Fld.DRV_TMODEL_C_CB (i : Nat) : FReg := ⟨Reg.DRV_TMODEL_C i, 16, 16⟩
def Fld.DRV_TMODEL_C_CW (i : Nat) : FReg := ⟨Reg.DRV_TMODEL_C i, 0, 16⟩
def Reg.DRV_TMODEL_T (i : Nat) : Nat := 0x400C040C + 0x10 * i
def Fld.DRV_TMODEL_T_HMIN (i : Nat) : FReg := ⟨Reg.DRV_TMODEL_T i, 24, 7⟩
def Fld.DRV_TMODEL_T_T3 (i : Nat) : FReg := ⟨Reg.DRV_TMODEL_T i, 16, 8⟩
def Fld.DRV_TMODEL_T_T2 (i : Nat) : FReg := ⟨Reg.DRV_TMODEL_T i, 8, 8⟩
def Fld.DRV_TMODEL_T_T1 (i : Nat) : FReg := ⟨Reg.DRV_TMODEL_T i, 0, 8⟩

-- Registers of PRF.
def Reg.PRF_APPLY : Nat := 0x400D0000
def Fld.PRF_APPLY_APPLY : FReg := ⟨Reg.PRF_APPLY, 0, 16⟩
def Reg.PRF_STAT : Nat := 0x400D0004
def Fld.PRF_STAT_APPLY_REF : FReg := ⟨Reg.PRF_STAT, 0, 16⟩
def Reg.PRF_CFG (n : Nat) : Nat := 0x400D0100 + 0x20 * n
def Fld.PRF_CFG_END_SLOW (n : Nat) : FReg := ⟨Reg.PRF_CFG n, 14, 1⟩
def Fld.PRF_CFG_HOLD_CHOP (n : Nat) : FReg := ⟨Reg.PRF_CFG n, 13, 1⟩
def Fld.PRF_CFG_HOLD_ENTRY (n : Nat) : FReg := ⟨Reg.PRF_CFG n, 12, 1⟩
def Fld.PRF_CFG_DROP_CHOP (n : Nat) : FReg := ⟨Reg.PRF_CFG n, 11, 1⟩
def Fld.PRF_CFG_DROP_ENTRY (n : Nat) : FReg := ⟨Reg.PRF_CFG n, 10, 1⟩
def Fld.PRF_CFG_PEAK_CHOP (n : Nat) : FReg := ⟨Reg.PRF_CFG n, 9, 1⟩
def Fld.PRF_CFG_PEAK_ENTRY (n : Nat) : FReg := ⟨Reg.PRF_CFG n, 8, 1⟩
def Fld.PRF_CFG_ONOFF (n : Nat) : FReg := ⟨Reg.PRF_CFG n, 0, 1⟩
def Reg.PRF_ACT_CFG (n : Nat) : Nat := 0x400D0400 + 0x20 * n
def Fld.PRF_ACT_CFG_END_SLOW (n : Nat) : FReg := ⟨Reg.PRF_ACT_CFG n, 14, 1⟩
def Fld.PRF_ACT_CFG_HOLD_CHOP (n : Nat) : FReg := ⟨Reg.PRF_ACT_CFG n, 13, 1⟩
def Fld.PRF_ACT_CFG_HOLD_ENTRY (n : Nat) : FReg := ⟨Reg.PRF_ACT_CFG n, 12, 1⟩
def Fld.PRF_ACT_CFG_DROP_CHOP (n : Nat) : FReg := ⟨Reg.PRF_ACT_CFG n, 11, 1⟩
def Fld.PRF_ACT_CFG_DROP_ENTRY (n : Nat) : FReg := ⟨Reg.PRF_ACT_CFG n, 10, 1⟩
def Fld.PRF_ACT_CFG_PEAK_CHOP (n : Nat) : FReg := ⟨Reg.PRF_ACT_CFG n, 9, 1⟩
def Fld.PRF_ACT_CFG_PEAK_ENTRY (n : Nat) : FReg := ⟨Reg.PRF_ACT_CFG n, 8, 1⟩
def Fld.PRF_ACT_CFG_ONOFF (n : Nat) : FReg := ⟨Reg.PRF_ACT_CFG n, 0, 1⟩
def Reg.PRF_REG (n : Nat) : Nat := 0x400D0104 + 0x20 * n
def Fld.PRF_REG_MIN_OFF (n : Nat) : FReg := ⟨Reg.PRF_REG n, 16, 8⟩
def Fld.PRF_REG_MIN_ON (n : Nat) : FReg := ⟨Reg.PRF_REG n, 8, 8⟩
def Fld.PRF_REG_BAND (n : Nat) : FReg := ⟨Reg.PRF_REG n, 0, 6⟩
def Reg.PRF_ACT_REG (n : Nat) : Nat := 0x400D0404 + 0x20 * n
def Fld.PRF_ACT_REG_MIN_OFF (n : Nat) : FReg := ⟨Reg.PRF_ACT_REG n, 16, 8⟩
def Fld.PRF_ACT_REG_MIN_ON (n : Nat) : FReg := ⟨Reg.PRF_ACT_REG n, 8, 8⟩
def Fld.PRF_ACT_REG_BAND (n : Nat) : FReg := ⟨Reg.PRF_ACT_REG n, 0, 6⟩
def Reg.PRF_BOOST (n : Nat) : Nat := 0x400D0108 + 0x20 * n
def Fld.PRF_BOOST_T (n : Nat) : FReg := ⟨Reg.PRF_BOOST n, 10, 20⟩
def Fld.PRF_BOOST_SP (n : Nat) : FReg := ⟨Reg.PRF_BOOST n, 0, 10⟩
def Reg.PRF_ACT_BOOST (n : Nat) : Nat := 0x400D0408 + 0x20 * n
def Fld.PRF_ACT_BOOST_T (n : Nat) : FReg := ⟨Reg.PRF_ACT_BOOST n, 10, 20⟩
def Fld.PRF_ACT_BOOST_SP (n : Nat) : FReg := ⟨Reg.PRF_ACT_BOOST n, 0, 10⟩
def Reg.PRF_PEAK (n : Nat) : Nat := 0x400D010C + 0x20 * n
def Fld.PRF_PEAK_T (n : Nat) : FReg := ⟨Reg.PRF_PEAK n, 10, 20⟩
def Fld.PRF_PEAK_SP (n : Nat) : FReg := ⟨Reg.PRF_PEAK n, 0, 10⟩
def Reg.PRF_ACT_PEAK (n : Nat) : Nat := 0x400D040C + 0x20 * n
def Fld.PRF_ACT_PEAK_T (n : Nat) : FReg := ⟨Reg.PRF_ACT_PEAK n, 10, 20⟩
def Fld.PRF_ACT_PEAK_SP (n : Nat) : FReg := ⟨Reg.PRF_ACT_PEAK n, 0, 10⟩
def Reg.PRF_DROP (n : Nat) : Nat := 0x400D0110 + 0x20 * n
def Fld.PRF_DROP_T (n : Nat) : FReg := ⟨Reg.PRF_DROP n, 10, 20⟩
def Fld.PRF_DROP_SP (n : Nat) : FReg := ⟨Reg.PRF_DROP n, 0, 10⟩
def Reg.PRF_ACT_DROP (n : Nat) : Nat := 0x400D0410 + 0x20 * n
def Fld.PRF_ACT_DROP_T (n : Nat) : FReg := ⟨Reg.PRF_ACT_DROP n, 10, 20⟩
def Fld.PRF_ACT_DROP_SP (n : Nat) : FReg := ⟨Reg.PRF_ACT_DROP n, 0, 10⟩
def Reg.PRF_HOLD (n : Nat) : Nat := 0x400D0114 + 0x20 * n
def Fld.PRF_HOLD_T (n : Nat) : FReg := ⟨Reg.PRF_HOLD n, 10, 20⟩
def Fld.PRF_HOLD_SP (n : Nat) : FReg := ⟨Reg.PRF_HOLD n, 0, 10⟩
def Reg.PRF_ACT_HOLD (n : Nat) : Nat := 0x400D0414 + 0x20 * n
def Fld.PRF_ACT_HOLD_T (n : Nat) : FReg := ⟨Reg.PRF_ACT_HOLD n, 10, 20⟩
def Fld.PRF_ACT_HOLD_SP (n : Nat) : FReg := ⟨Reg.PRF_ACT_HOLD n, 0, 10⟩
def Reg.PRF_END (n : Nat) : Nat := 0x400D0118 + 0x20 * n
def Fld.PRF_END_END_T (n : Nat) : FReg := ⟨Reg.PRF_END n, 10, 20⟩
def Fld.PRF_END_END_I (n : Nat) : FReg := ⟨Reg.PRF_END n, 0, 10⟩
def Reg.PRF_ACT_END (n : Nat) : Nat := 0x400D0418 + 0x20 * n
def Fld.PRF_ACT_END_END_T (n : Nat) : FReg := ⟨Reg.PRF_ACT_END n, 10, 20⟩
def Fld.PRF_ACT_END_END_I (n : Nat) : FReg := ⟨Reg.PRF_ACT_END n, 0, 10⟩
def Reg.PRF_BATT (n : Nat) : Nat := 0x400D011C + 0x20 * n
def Fld.PRF_BATT_PEAK_T (n : Nat) : FReg := ⟨Reg.PRF_BATT n, 10, 20⟩
def Reg.PRF_ACT_BATT (n : Nat) : Nat := 0x400D041C + 0x20 * n
def Fld.PRF_ACT_BATT_PEAK_T (n : Nat) : FReg := ⟨Reg.PRF_ACT_BATT n, 10, 20⟩
def Reg.PRF_CH_STAT (i : Nat) : Nat := 0x400D0800 + 0x4 * i
def Fld.PRF_CH_STAT_END_OVER (i : Nat) : FReg := ⟨Reg.PRF_CH_STAT i, 27, 1⟩
def Fld.PRF_CH_STAT_PEAK_MISS (i : Nat) : FReg := ⟨Reg.PRF_CH_STAT i, 26, 1⟩
def Fld.PRF_CH_STAT_SP (i : Nat) : FReg := ⟨Reg.PRF_CH_STAT i, 16, 10⟩
def Fld.PRF_CH_STAT_RESTARTS (i : Nat) : FReg := ⟨Reg.PRF_CH_STAT i, 8, 8⟩
def Fld.PRF_CH_STAT_ONOFF (i : Nat) : FReg := ⟨Reg.PRF_CH_STAT i, 5, 1⟩
def Fld.PRF_CH_STAT_BATT (i : Nat) : FReg := ⟨Reg.PRF_CH_STAT i, 4, 1⟩
def Fld.PRF_CH_STAT_PROFILE (i : Nat) : FReg := ⟨Reg.PRF_CH_STAT i, 0, 4⟩

-- Registers of WIT.
def Reg.WIT_CTRL : Nat := 0x400E0000
def Fld.WIT_CTRL_TAKE_MASK : FReg := ⟨Reg.WIT_CTRL, 8, 5⟩
def Fld.WIT_CTRL_CORR_DIRECT : FReg := ⟨Reg.WIT_CTRL, 2, 1⟩
def Fld.WIT_CTRL_CORR_EN : FReg := ⟨Reg.WIT_CTRL, 1, 1⟩
def Fld.WIT_CTRL_EN : FReg := ⟨Reg.WIT_CTRL, 0, 1⟩
def Reg.WIT_STAT : Nat := 0x400E0004
def Fld.WIT_STAT_SNAP_READY : FReg := ⟨Reg.WIT_STAT, 4, 1⟩
def Fld.WIT_STAT_STREAM_HELD : FReg := ⟨Reg.WIT_STAT, 3, 1⟩
def Fld.WIT_STAT_MULTI : FReg := ⟨Reg.WIT_STAT, 2, 1⟩
def Fld.WIT_STAT_RING_OVW : FReg := ⟨Reg.WIT_STAT, 1, 1⟩
def Fld.WIT_STAT_CHAIN_FAIL : FReg := ⟨Reg.WIT_STAT, 0, 1⟩
def Reg.WIT_RECSEQ : Nat := 0x400E0008
def Fld.WIT_RECSEQ_SEQ : FReg := ⟨Reg.WIT_RECSEQ, 0, 32⟩
def Reg.WIT_RING : Nat := 0x400E000C
def Fld.WIT_RING_OVW : FReg := ⟨Reg.WIT_RING, 16, 16⟩
def Fld.WIT_RING_UNSENT : FReg := ⟨Reg.WIT_RING, 0, 14⟩
def Reg.WIT_STREAM : Nat := 0x400E0010
def Fld.WIT_STREAM_OMASK : FReg := ⟨Reg.WIT_STREAM, 16, 16⟩
def Fld.WIT_STREAM_EN : FReg := ⟨Reg.WIT_STREAM, 0, 1⟩
def Reg.WIT_CORR : Nat := 0x400E0014
def Fld.WIT_CORR_OUTL : FReg := ⟨Reg.WIT_CORR, 24, 8⟩
def Fld.WIT_CORR_CMIN : FReg := ⟨Reg.WIT_CORR, 16, 8⟩
def Fld.WIT_CORR_LIMIT : FReg := ⟨Reg.WIT_CORR, 8, 4⟩
def Fld.WIT_CORR_CMU : FReg := ⟨Reg.WIT_CORR, 0, 4⟩
def Reg.WIT_OBS : Nat := 0x400E0018
def Fld.WIT_OBS_WIN : FReg := ⟨Reg.WIT_OBS, 0, 16⟩
def Reg.WIT_WAVE : Nat := 0x400E001C
def Fld.WIT_WAVE_DONE : FReg := ⟨Reg.WIT_WAVE, 31, 1⟩
def Fld.WIT_WAVE_ARM : FReg := ⟨Reg.WIT_WAVE, 30, 1⟩
def Fld.WIT_WAVE_CH : FReg := ⟨Reg.WIT_WAVE, 0, 6⟩
def Reg.WIT_MORL : Nat := 0x400E0020
def Fld.WIT_MORL_INDEX_LO : FReg := ⟨Reg.WIT_MORL, 0, 32⟩
def Reg.WIT_MORH : Nat := 0x400E0024
def Fld.WIT_MORH_INDEX_HI : FReg := ⟨Reg.WIT_MORH, 0, 32⟩
def Reg.WIT_EPOCH : Nat := 0x400E0028
def Fld.WIT_EPOCH_EPOCH : FReg := ⟨Reg.WIT_EPOCH, 0, 32⟩
def Reg.WIT_MORHK (i : Nat) : Nat := 0x400E0040 + 0x4 * i
def Fld.WIT_MORHK_HEAD (i : Nat) : FReg := ⟨Reg.WIT_MORHK i, 0, 32⟩
def Reg.WIT_DET_OW (i : Nat) : Nat := 0x400E0100 + 0x10 * i
def Fld.WIT_DET_OW_OPEN_END (i : Nat) : FReg := ⟨Reg.WIT_DET_OW i, 16, 16⟩
def Fld.WIT_DET_OW_OPEN_BEGIN (i : Nat) : FReg := ⟨Reg.WIT_DET_OW i, 0, 16⟩
def Reg.WIT_DET_OP (i : Nat) : Nat := 0x400E0104 + 0x10 * i
def Fld.WIT_DET_OP_CMIN (i : Nat) : FReg := ⟨Reg.WIT_DET_OP i, 24, 8⟩
def Fld.WIT_DET_OP_THR (i : Nat) : FReg := ⟨Reg.WIT_DET_OP i, 16, 8⟩
def Fld.WIT_DET_OP_DIP (i : Nat) : FReg := ⟨Reg.WIT_DET_OP i, 8, 8⟩
def Fld.WIT_DET_OP_W (i : Nat) : FReg := ⟨Reg.WIT_DET_OP i, 0, 6⟩
def Reg.WIT_DET_CW (i : Nat) : Nat := 0x400E0108 + 0x10 * i
def Fld.WIT_DET_CW_CLOSE_END (i : Nat) : FReg := ⟨Reg.WIT_DET_CW i, 16, 16⟩
def Fld.WIT_DET_CW_CLOSE_BEGIN (i : Nat) : FReg := ⟨Reg.WIT_DET_CW i, 0, 16⟩
def Reg.WIT_DET_CP (i : Nat) : Nat := 0x400E010C + 0x10 * i
def Fld.WIT_DET_CP_CMIN (i : Nat) : FReg := ⟨Reg.WIT_DET_CP i, 24, 8⟩
def Fld.WIT_DET_CP_THR (i : Nat) : FReg := ⟨Reg.WIT_DET_CP i, 16, 8⟩
def Fld.WIT_DET_CP_W (i : Nat) : FReg := ⟨Reg.WIT_DET_CP i, 0, 6⟩
def Reg.WIT_CH_CFG (i : Nat) : Nat := 0x400E0200 + 0x10 * i
def Fld.WIT_CH_CFG_OREF (i : Nat) : FReg := ⟨Reg.WIT_CH_CFG i, 16, 16⟩
def Fld.WIT_CH_CFG_MOTION_N (i : Nat) : FReg := ⟨Reg.WIT_CH_CFG i, 8, 4⟩
def Fld.WIT_CH_CFG_CORR_EN (i : Nat) : FReg := ⟨Reg.WIT_CH_CFG i, 0, 1⟩
def Reg.WIT_CH_CORR (i : Nat) : Nat := 0x400E0204 + 0x10 * i
def Fld.WIT_CH_CORR_D (i : Nat) : FReg := ⟨Reg.WIT_CH_CORR i, 0, 16⟩
def Reg.WIT_CH_STAT (i : Nat) : Nat := 0x400E0208 + 0x10 * i
def Fld.WIT_CH_STAT_MISS_RUN (i : Nat) : FReg := ⟨Reg.WIT_CH_STAT i, 24, 8⟩
def Fld.WIT_CH_STAT_LAST_CONF (i : Nat) : FReg := ⟨Reg.WIT_CH_STAT i, 16, 8⟩
def Fld.WIT_CH_STAT_LAST_OUT (i : Nat) : FReg := ⟨Reg.WIT_CH_STAT i, 12, 4⟩
def Fld.WIT_CH_STAT_SAT (i : Nat) : FReg := ⟨Reg.WIT_CH_STAT i, 1, 1⟩
def Fld.WIT_CH_STAT_NO_MOTION (i : Nat) : FReg := ⟨Reg.WIT_CH_STAT i, 0, 1⟩
def Reg.WIT_CH_LAST (i : Nat) : Nat := 0x400E020C + 0x10 * i
def Fld.WIT_CH_LAST_OPEN_T (i : Nat) : FReg := ⟨Reg.WIT_CH_LAST i, 0, 20⟩

-- Registers of FLO.
def Reg.FLO_CTRL : Nat := 0x40100000
def Fld.FLO_CTRL_HOP_MAX : FReg := ⟨Reg.FLO_CTRL, 8, 5⟩
def Fld.FLO_CTRL_EN : FReg := ⟨Reg.FLO_CTRL, 0, 1⟩
def Reg.FLO_NODE : Nat := 0x40100004
def Fld.FLO_NODE_DOMAIN : FReg := ⟨Reg.FLO_NODE, 16, 9⟩
def Fld.FLO_NODE_NODE_ID : FReg := ⟨Reg.FLO_NODE, 0, 12⟩
def Reg.FLO_STAT : Nat := 0x40100008
def Fld.FLO_STAT_DOM_DIS : FReg := ⟨Reg.FLO_STAT, 10, 1⟩
def Fld.FLO_STAT_DOM_LOCK : FReg := ⟨Reg.FLO_STAT, 9, 1⟩
def Fld.FLO_STAT_DOM_MASTER : FReg := ⟨Reg.FLO_STAT, 8, 1⟩
def Fld.FLO_STAT_UP : FReg := ⟨Reg.FLO_STAT, 0, 4⟩
def Reg.FLO_DROP : Nat := 0x4010000C
def Fld.FLO_DROP_CRC : FReg := ⟨Reg.FLO_DROP, 24, 8⟩
def Fld.FLO_DROP_HOPS : FReg := ⟨Reg.FLO_DROP, 16, 8⟩
def Fld.FLO_DROP_ROUTE : FReg := ⟨Reg.FLO_DROP, 8, 8⟩
def Fld.FLO_DROP_QFULL : FReg := ⟨Reg.FLO_DROP, 0, 8⟩
def Reg.FLO_PORT_CTRL (i : Nat) : Nat := 0x40100020 + 0x10 * i
def Fld.FLO_PORT_CTRL_SWING (i : Nat) : FReg := ⟨Reg.FLO_PORT_CTRL i, 4, 2⟩
def Fld.FLO_PORT_CTRL_PREEMPH (i : Nat) : FReg := ⟨Reg.FLO_PORT_CTRL i, 3, 1⟩
def Fld.FLO_PORT_CTRL_WAKE_EN (i : Nat) : FReg := ⟨Reg.FLO_PORT_CTRL i, 1, 1⟩
def Fld.FLO_PORT_CTRL_EN (i : Nat) : FReg := ⟨Reg.FLO_PORT_CTRL i, 0, 1⟩
def Reg.FLO_PORT_STAT (i : Nat) : Nat := 0x40100024 + 0x10 * i
def Fld.FLO_PORT_STAT_PEER (i : Nat) : FReg := ⟨Reg.FLO_PORT_STAT i, 16, 12⟩
def Fld.FLO_PORT_STAT_STATE (i : Nat) : FReg := ⟨Reg.FLO_PORT_STAT i, 0, 3⟩
def Reg.FLO_PORT_DLY (i : Nat) : Nat := 0x40100028 + 0x10 * i
def Fld.FLO_PORT_DLY_DELAY (i : Nat) : FReg := ⟨Reg.FLO_PORT_DLY i, 0, 20⟩
def Reg.FLO_PORT_ERR (i : Nat) : Nat := 0x4010002C + 0x10 * i
def Fld.FLO_PORT_ERR_CODE (i : Nat) : FReg := ⟨Reg.FLO_PORT_ERR i, 16, 16⟩
def Fld.FLO_PORT_ERR_CRC (i : Nat) : FReg := ⟨Reg.FLO_PORT_ERR i, 0, 16⟩
def Reg.FLO_DOM : Nat := 0x40100060
def Fld.FLO_DOM_DAGREE : FReg := ⟨Reg.FLO_DOM, 8, 24⟩
def Fld.FLO_DOM_SYNC_P : FReg := ⟨Reg.FLO_DOM, 4, 4⟩
def Fld.FLO_DOM_MCAND : FReg := ⟨Reg.FLO_DOM, 0, 1⟩
def Reg.FLO_DOFS : Nat := 0x40100064
def Fld.FLO_DOFS_OFS : FReg := ⟨Reg.FLO_DOFS, 0, 32⟩
def Reg.FLO_DTL : Nat := 0x40100068
def Fld.FLO_DTL_DT_LO : FReg := ⟨Reg.FLO_DTL, 0, 32⟩
def Reg.FLO_DTH : Nat := 0x4010006C
def Fld.FLO_DTH_DT_HI : FReg := ⟨Reg.FLO_DTH, 0, 32⟩
def Reg.FLO_DMASTER : Nat := 0x40100070
def Fld.FLO_DMASTER_VALID : FReg := ⟨Reg.FLO_DMASTER, 16, 1⟩
def Fld.FLO_DMASTER_MASTER : FReg := ⟨Reg.FLO_DMASTER, 0, 12⟩
def Reg.FLO_DDIFF : Nat := 0x40100074
def Fld.FLO_DDIFF_DIFF : FReg := ⟨Reg.FLO_DDIFF, 0, 32⟩
def Reg.FLO_PAIR : Nat := 0x40100080
def Fld.FLO_PAIR_EN : FReg := ⟨Reg.FLO_PAIR, 31, 1⟩
def Fld.FLO_PAIR_PREF_COPE : FReg := ⟨Reg.FLO_PAIR, 30, 1⟩
def Fld.FLO_PAIR_PARTNER : FReg := ⟨Reg.FLO_PAIR, 16, 12⟩
def Fld.FLO_PAIR_HO_LEAD : FReg := ⟨Reg.FLO_PAIR, 8, 8⟩
def Fld.FLO_PAIR_ARB_FILT : FReg := ⟨Reg.FLO_PAIR, 0, 8⟩
def Reg.FLO_PAIRT : Nat := 0x40100084
def Fld.FLO_PAIRT_CMT_WAIT : FReg := ⟨Reg.FLO_PAIRT, 24, 8⟩
def Fld.FLO_PAIRT_HO_OVL : FReg := ⟨Reg.FLO_PAIRT, 16, 8⟩
def Fld.FLO_PAIRT_HB_MISS : FReg := ⟨Reg.FLO_PAIRT, 8, 8⟩
def Fld.FLO_PAIRT_HB_P : FReg := ⟨Reg.FLO_PAIRT, 0, 8⟩
def Reg.FLO_PAIRSTAT : Nat := 0x40100088
def Fld.FLO_PAIRSTAT_P_STATE : FReg := ⟨Reg.FLO_PAIRSTAT, 20, 4⟩
def Fld.FLO_PAIRSTAT_P_CALV : FReg := ⟨Reg.FLO_PAIRSTAT, 16, 4⟩
def Fld.FLO_PAIRSTAT_MIRROR_MISMATCH : FReg := ⟨Reg.FLO_PAIRSTAT, 13, 1⟩
def Fld.FLO_PAIRSTAT_COMMIT_LOCAL : FReg := ⟨Reg.FLO_PAIRSTAT, 12, 1⟩
def Fld.FLO_PAIRSTAT_P_READY : FReg := ⟨Reg.FLO_PAIRSTAT, 11, 1⟩
def Fld.FLO_PAIRSTAT_TAKE_READY : FReg := ⟨Reg.FLO_PAIRSTAT, 10, 1⟩
def Fld.FLO_PAIRSTAT_CFG_MATCH : FReg := ⟨Reg.FLO_PAIRSTAT, 9, 1⟩
def Fld.FLO_PAIRSTAT_MIRROR_SYNC : FReg := ⟨Reg.FLO_PAIRSTAT, 8, 1⟩
def Fld.FLO_PAIRSTAT_HB_LOST : FReg := ⟨Reg.FLO_PAIRSTAT, 7, 1⟩
def Fld.FLO_PAIRSTAT_ARB_FAULT : FReg := ⟨Reg.FLO_PAIRSTAT, 6, 1⟩
def Fld.FLO_PAIRSTAT_ARB_OWN : FReg := ⟨Reg.FLO_PAIRSTAT, 5, 1⟩
def Fld.FLO_PAIRSTAT_ARB_LINE : FReg := ⟨Reg.FLO_PAIRSTAT, 4, 1⟩
def Fld.FLO_PAIRSTAT_P_ROLE : FReg := ⟨Reg.FLO_PAIRSTAT, 2, 2⟩
def Fld.FLO_PAIRSTAT_ROLE : FReg := ⟨Reg.FLO_PAIRSTAT, 0, 2⟩
def Reg.FLO_PAIR_CNT : Nat := 0x4010008C
def Fld.FLO_PAIR_CNT_HOLDOFF : FReg := ⟨Reg.FLO_PAIR_CNT, 24, 8⟩
def Fld.FLO_PAIR_CNT_HANDOVERS : FReg := ⟨Reg.FLO_PAIR_CNT, 16, 8⟩
def Fld.FLO_PAIR_CNT_REFUSED : FReg := ⟨Reg.FLO_PAIR_CNT, 8, 8⟩
def Fld.FLO_PAIR_CNT_YIELDS : FReg := ⟨Reg.FLO_PAIR_CNT, 0, 8⟩
def Reg.FLO_HOLAST : Nat := 0x40100090
def Fld.FLO_HOLAST_REF : FReg := ⟨Reg.FLO_HOLAST, 4, 4⟩
def Fld.FLO_HOLAST_REASON : FReg := ⟨Reg.FLO_HOLAST, 0, 4⟩
def Reg.FLO_SYS : Nat := 0x401000A0
def Fld.FLO_SYS_VOTER : FReg := ⟨Reg.FLO_SYS, 31, 1⟩
def Fld.FLO_SYS_VSLOT : FReg := ⟨Reg.FLO_SYS, 24, 4⟩
def Fld.FLO_SYS_NVOTER : FReg := ⟨Reg.FLO_SYS, 16, 5⟩
def Fld.FLO_SYS_VOTE_P : FReg := ⟨Reg.FLO_SYS, 8, 8⟩
def Reg.FLO_SYSSTAT : Nat := 0x401000A4
def Fld.FLO_SYSSTAT_REACH_N : FReg := ⟨Reg.FLO_SYSSTAT, 16, 5⟩
def Fld.FLO_SYSSTAT_ADOPT_PEND : FReg := ⟨Reg.FLO_SYSSTAT, 2, 1⟩
def Fld.FLO_SYSSTAT_MINORITY : FReg := ⟨Reg.FLO_SYSSTAT, 1, 1⟩
def Fld.FLO_SYSSTAT_AUTHORITY : FReg := ⟨Reg.FLO_SYSSTAT, 0, 1⟩
def Reg.FLO_REACH : Nat := 0x401000A8
def Fld.FLO_REACH_REACH : FReg := ⟨Reg.FLO_REACH, 0, 16⟩
def Reg.FLO_EPOCH : Nat := 0x401000AC
def Fld.FLO_EPOCH_EPOCH : FReg := ⟨Reg.FLO_EPOCH, 0, 32⟩
def Reg.FLO_LTRIM : Nat := 0x401000B0
def Fld.FLO_LTRIM_TRIM : FReg := ⟨Reg.FLO_LTRIM, 0, 16⟩
def Reg.FLO_VLIST (i : Nat) : Nat := 0x401000C0 + 0x4 * i
def Fld.FLO_VLIST_ID_ODD (i : Nat) : FReg := ⟨Reg.FLO_VLIST i, 16, 12⟩
def Fld.FLO_VLIST_ID_EVEN (i : Nat) : FReg := ⟨Reg.FLO_VLIST i, 0, 12⟩
def Reg.FLO_RT (i : Nat) : Nat := 0x40100400 + 0x4 * i
def Fld.FLO_RT_PORT (i : Nat) : FReg := ⟨Reg.FLO_RT i, 0, 32⟩
def Reg.FLO_MC (i : Nat) : Nat := 0x40100800 + 0x4 * i
def Fld.FLO_MC_MASK (i : Nat) : FReg := ⟨Reg.FLO_MC i, 0, 32⟩

-- Registers of PKT.
def Reg.PKT_HOSTTIMEOUT : Nat := 0x40110000
def Fld.PKT_HOSTTIMEOUT_TIMEOUT : FReg := ⟨Reg.PKT_HOSTTIMEOUT, 0, 16⟩
def Reg.PKT_STAT : Nat := 0x40110004
def Fld.PKT_STAT_BADCRC : FReg := ⟨Reg.PKT_STAT, 24, 8⟩
def Fld.PKT_STAT_BADLEN : FReg := ⟨Reg.PKT_STAT, 16, 8⟩
def Fld.PKT_STAT_DROPPED : FReg := ⟨Reg.PKT_STAT, 8, 8⟩
def Fld.PKT_STAT_RPL_DROP : FReg := ⟨Reg.PKT_STAT, 0, 8⟩
def Reg.PKT_JOBS : Nat := 0x40110008
def Fld.PKT_JOBS_PRES_WAIT : FReg := ⟨Reg.PKT_JOBS, 16, 1⟩
def Fld.PKT_JOBS_PRES_ID : FReg := ⟨Reg.PKT_JOBS, 8, 8⟩
def Fld.PKT_JOBS_ACTIVE : FReg := ⟨Reg.PKT_JOBS, 0, 3⟩

-- Registers of HST.
def Reg.HST_SPI_CFG : Nat := 0x40110020
def Fld.HST_SPI_CFG_REGMODE : FReg := ⟨Reg.HST_SPI_CFG, 1, 1⟩
def Fld.HST_SPI_CFG_EN : FReg := ⟨Reg.HST_SPI_CFG, 0, 1⟩
def Reg.HST_SPI_STAT : Nat := 0x40110024
def Fld.HST_SPI_STAT_FRAME : FReg := ⟨Reg.HST_SPI_STAT, 24, 8⟩
def Fld.HST_SPI_STAT_OUTQ : FReg := ⟨Reg.HST_SPI_STAT, 16, 8⟩
def Fld.HST_SPI_STAT_REG_STATUS : FReg := ⟨Reg.HST_SPI_STAT, 8, 8⟩
def Fld.HST_SPI_STAT_MODE : FReg := ⟨Reg.HST_SPI_STAT, 1, 1⟩
def Fld.HST_SPI_STAT_OUT_PEND : FReg := ⟨Reg.HST_SPI_STAT, 0, 1⟩
def Reg.HST_CAN_CFG (x : Nat) : Nat := 0x40110040 + 0x20 * x
def Fld.HST_CAN_CFG_DSP (x : Nat) : FReg := ⟨Reg.HST_CAN_CFG x, 24, 8⟩
def Fld.HST_CAN_CFG_NSP (x : Nat) : FReg := ⟨Reg.HST_CAN_CFG x, 16, 8⟩
def Fld.HST_CAN_CFG_DRATE (x : Nat) : FReg := ⟨Reg.HST_CAN_CFG x, 8, 4⟩
def Fld.HST_CAN_CFG_NRATE (x : Nat) : FReg := ⟨Reg.HST_CAN_CFG x, 4, 4⟩
def Fld.HST_CAN_CFG_BRS (x : Nat) : FReg := ⟨Reg.HST_CAN_CFG x, 2, 1⟩
def Fld.HST_CAN_CFG_FD (x : Nat) : FReg := ⟨Reg.HST_CAN_CFG x, 1, 1⟩
def Fld.HST_CAN_CFG_EN (x : Nat) : FReg := ⟨Reg.HST_CAN_CFG x, 0, 1⟩
def Reg.HST_CAN_ID (x : Nat) : Nat := 0x40110044 + 0x20 * x
def Fld.HST_CAN_ID_BASE (x : Nat) : FReg := ⟨Reg.HST_CAN_ID x, 16, 13⟩
def Fld.HST_CAN_ID_NODE (x : Nat) : FReg := ⟨Reg.HST_CAN_ID x, 0, 12⟩
def Reg.HST_CAN_STAT (x : Nat) : Nat := 0x40110048 + 0x20 * x
def Fld.HST_CAN_STAT_TEC (x : Nat) : FReg := ⟨Reg.HST_CAN_STAT x, 24, 8⟩
def Fld.HST_CAN_STAT_REC (x : Nat) : FReg := ⟨Reg.HST_CAN_STAT x, 16, 8⟩
def Fld.HST_CAN_STAT_REASM_DROP (x : Nat) : FReg := ⟨Reg.HST_CAN_STAT x, 8, 8⟩
def Fld.HST_CAN_STAT_STATE (x : Nat) : FReg := ⟨Reg.HST_CAN_STAT x, 0, 2⟩
def Reg.HST_T1S_CFG : Nat := 0x40110080
def Fld.HST_T1S_CFG_PLCA_CNT : FReg := ⟨Reg.HST_T1S_CFG, 16, 8⟩
def Fld.HST_T1S_CFG_PLCA_ID : FReg := ⟨Reg.HST_T1S_CFG, 8, 8⟩
def Fld.HST_T1S_CFG_PLCA_EN : FReg := ⟨Reg.HST_T1S_CFG, 1, 1⟩
def Fld.HST_T1S_CFG_EN : FReg := ⟨Reg.HST_T1S_CFG, 0, 1⟩
def Reg.HST_T1S_MACL : Nat := 0x40110084
def Fld.HST_T1S_MACL_MAC_LO : FReg := ⟨Reg.HST_T1S_MACL, 0, 32⟩
def Reg.HST_T1S_MACH : Nat := 0x40110088
def Fld.HST_T1S_MACH_MAC_HI : FReg := ⟨Reg.HST_T1S_MACH, 0, 16⟩
def Reg.HST_T1S_STAT : Nat := 0x4011008C
def Fld.HST_T1S_STAT_FCS_ERR : FReg := ⟨Reg.HST_T1S_STAT, 16, 16⟩
def Fld.HST_T1S_STAT_SUSPENDED : FReg := ⟨Reg.HST_T1S_STAT, 1, 1⟩
def Fld.HST_T1S_STAT_PLCA_ACTIVE : FReg := ⟨Reg.HST_T1S_STAT, 0, 1⟩
def Reg.HST_GPIO_IN : Nat := 0x40110100
def Fld.HST_GPIO_IN_IN : FReg := ⟨Reg.HST_GPIO_IN, 0, 32⟩
def Reg.HST_GPIO_OUT : Nat := 0x40110104
def Fld.HST_GPIO_OUT_OUT : FReg := ⟨Reg.HST_GPIO_OUT, 0, 32⟩
def Reg.HST_GPIO_DIR : Nat := 0x40110108
def Fld.HST_GPIO_DIR_DIR : FReg := ⟨Reg.HST_GPIO_DIR, 0, 32⟩
def Reg.HST_GPIO_FUNC : Nat := 0x4011010C
def Fld.HST_GPIO_FUNC_AOUT : FReg := ⟨Reg.HST_GPIO_FUNC, 0, 16⟩
def Reg.HST_GPIO_IRQR : Nat := 0x40110110
def Fld.HST_GPIO_IRQR_RISE : FReg := ⟨Reg.HST_GPIO_IRQR, 0, 32⟩
def Reg.HST_GPIO_IRQF : Nat := 0x40110114
def Fld.HST_GPIO_IRQF_FALL : FReg := ⟨Reg.HST_GPIO_IRQF, 0, 32⟩
def Reg.HST_GPIO_IFLAG : Nat := 0x40110118
def Fld.HST_GPIO_IFLAG_FLAG : FReg := ⟨Reg.HST_GPIO_IFLAG, 0, 32⟩

-- Registers of SEC.
def Reg.SEC_STAT : Nat := 0x40120000
def Fld.SEC_STAT_THAW_SKIP : FReg := ⟨Reg.SEC_STAT, 11, 1⟩
def Fld.SEC_STAT_FALLBACK : FReg := ⟨Reg.SEC_STAT, 10, 1⟩
def Fld.SEC_STAT_TRIAL_FAIL : FReg := ⟨Reg.SEC_STAT, 9, 1⟩
def Fld.SEC_STAT_SEAL_INVALID : FReg := ⟨Reg.SEC_STAT, 8, 1⟩
def Fld.SEC_STAT_CAL_KEY : FReg := ⟨Reg.SEC_STAT, 6, 2⟩
def Fld.SEC_STAT_KEY1 : FReg := ⟨Reg.SEC_STAT, 5, 1⟩
def Fld.SEC_STAT_KEY0 : FReg := ⟨Reg.SEC_STAT, 4, 1⟩
def Fld.SEC_STAT_SEAL_B : FReg := ⟨Reg.SEC_STAT, 3, 1⟩
def Fld.SEC_STAT_SEAL_A : FReg := ⟨Reg.SEC_STAT, 2, 1⟩
def Fld.SEC_STAT_SEAL_OPEN : FReg := ⟨Reg.SEC_STAT, 0, 1⟩
def Reg.SEC_BOOT : Nat := 0x40120004
def Fld.SEC_BOOT_FAIL_B : FReg := ⟨Reg.SEC_BOOT, 24, 3⟩
def Fld.SEC_BOOT_FAIL_A : FReg := ⟨Reg.SEC_BOOT, 20, 3⟩
def Fld.SEC_BOOT_ATTEMPT : FReg := ⟨Reg.SEC_BOOT, 8, 1⟩
def Fld.SEC_BOOT_TRIAL : FReg := ⟨Reg.SEC_BOOT, 4, 1⟩
def Fld.SEC_BOOT_ACTIVE : FReg := ⟨Reg.SEC_BOOT, 0, 1⟩
def Reg.SEC_FWVER : Nat := 0x40120008
def Fld.SEC_FWVER_FW_VER : FReg := ⟨Reg.SEC_FWVER, 0, 32⟩
def Reg.SEC_ROLLBACK : Nat := 0x4012000C
def Fld.SEC_ROLLBACK_COUNT : FReg := ⟨Reg.SEC_ROLLBACK, 0, 7⟩
def Reg.SEC_CALVER : Nat := 0x40120010
def Fld.SEC_CALVER_CAL_VER : FReg := ⟨Reg.SEC_CALVER, 0, 32⟩
def Reg.SEC_ATTCNT : Nat := 0x40120014
def Fld.SEC_ATTCNT_COUNT : FReg := ⟨Reg.SEC_ATTCNT, 0, 16⟩
def Reg.SEC_CFG (i : Nat) : Nat := 0x40120020 + 0x4 * i
def Fld.SEC_CFG_HASH (i : Nat) : FReg := ⟨Reg.SEC_CFG i, 0, 32⟩
def Reg.SEC_MEAS (i : Nat) : Nat := 0x40120040 + 0x4 * i
def Fld.SEC_MEAS_MEAS (i : Nat) : FReg := ⟨Reg.SEC_MEAS i, 0, 32⟩

-- Registers of PWR.
def Reg.PWR_STAT : Nat := 0x40020000
def Fld.PWR_STAT_OP : FReg := ⟨Reg.PWR_STAT, 10, 2⟩
def Fld.PWR_STAT_OP_CAPPED : FReg := ⟨Reg.PWR_STAT, 9, 1⟩
def Fld.PWR_STAT_AON_SRC : FReg := ⟨Reg.PWR_STAT, 8, 1⟩
def Fld.PWR_STAT_VAON_OK : FReg := ⟨Reg.PWR_STAT, 7, 1⟩
def Fld.PWR_STAT_STAGE : FReg := ⟨Reg.PWR_STAT, 0, 3⟩
def Reg.PWR_VMON : Nat := 0x40020004
def Fld.PWR_VMON_VAON : FReg := ⟨Reg.PWR_VMON, 16, 16⟩
def Fld.PWR_VMON_VBAT : FReg := ⟨Reg.PWR_VMON, 0, 16⟩
def Reg.PWR_CALVA : Nat := 0x40020010
def Fld.PWR_CALVA_C3 : FReg := ⟨Reg.PWR_CALVA, 20, 10⟩
def Fld.PWR_CALVA_C2 : FReg := ⟨Reg.PWR_CALVA, 10, 10⟩
def Fld.PWR_CALVA_C1 : FReg := ⟨Reg.PWR_CALVA, 0, 10⟩
def Reg.PWR_CALVB : Nat := 0x40020014
def Fld.PWR_CALVB_C6 : FReg := ⟨Reg.PWR_CALVB, 20, 10⟩
def Fld.PWR_CALVB_C5 : FReg := ⟨Reg.PWR_CALVB, 10, 10⟩
def Fld.PWR_CALVB_C4 : FReg := ⟨Reg.PWR_CALVB, 0, 10⟩
def Reg.PWR_CALVCFG : Nat := 0x40020018
def Fld.PWR_CALVCFG_HOLDCUT : FReg := ⟨Reg.PWR_CALVCFG, 16, 7⟩
def Fld.PWR_CALVCFG_ENTRY_T : FReg := ⟨Reg.PWR_CALVCFG, 8, 8⟩
def Fld.PWR_CALVCFG_HYST : FReg := ⟨Reg.PWR_CALVCFG, 0, 5⟩
def Reg.PWR_CALVCNT : Nat := 0x4002001C
def Fld.PWR_CALVCNT_ENTRIES : FReg := ⟨Reg.PWR_CALVCNT, 16, 16⟩
def Fld.PWR_CALVCNT_PEAK : FReg := ⟨Reg.PWR_CALVCNT, 0, 3⟩
def Reg.PWR_SUPCFG : Nat := 0x40020020
def Fld.PWR_SUPCFG_VBAT_OV : FReg := ⟨Reg.PWR_SUPCFG, 16, 10⟩
def Reg.PWR_SUPV : Nat := 0x40020024
def Fld.PWR_SUPV_VAON_LOST : FReg := ⟨Reg.PWR_SUPV, 1, 1⟩
def Fld.PWR_SUPV_VBAT_OV : FReg := ⟨Reg.PWR_SUPV, 0, 1⟩
def Reg.PWR_RSTC : Nat := 0x40020030
def Fld.PWR_RSTC_RAIL_ID : FReg := ⟨Reg.PWR_RSTC, 8, 4⟩
def Fld.PWR_RSTC_CALV6 : FReg := ⟨Reg.PWR_RSTC, 7, 1⟩
def Fld.PWR_RSTC_FROST : FReg := ⟨Reg.PWR_RSTC, 6, 1⟩
def Fld.PWR_RSTC_TSD : FReg := ⟨Reg.PWR_RSTC, 5, 1⟩
def Fld.PWR_RSTC_UPDATE : FReg := ⟨Reg.PWR_RSTC, 4, 1⟩
def Fld.PWR_RSTC_PIN : FReg := ⟨Reg.PWR_RSTC, 3, 1⟩
def Fld.PWR_RSTC_RAIL : FReg := ⟨Reg.PWR_RSTC, 2, 1⟩
def Fld.PWR_RSTC_BOR : FReg := ⟨Reg.PWR_RSTC, 1, 1⟩
def Fld.PWR_RSTC_POR : FReg := ⟨Reg.PWR_RSTC, 0, 1⟩
def Reg.PWR_WAKEEN : Nat := 0x40020040
def Fld.PWR_WAKEEN_EN : FReg := ⟨Reg.PWR_WAKEEN, 0, 11⟩
def Reg.PWR_WAKECFG : Nat := 0x40020044
def Fld.PWR_WAKECFG_T1S_T : FReg := ⟨Reg.PWR_WAKECFG, 16, 8⟩
def Fld.PWR_WAKECFG_CAN_T : FReg := ⟨Reg.PWR_WAKECFG, 8, 8⟩
def Fld.PWR_WAKECFG_TOOTH_N : FReg := ⟨Reg.PWR_WAKECFG, 0, 8⟩
def Reg.PWR_WAKESRC : Nat := 0x40020048
def Fld.PWR_WAKESRC_SRC : FReg := ⟨Reg.PWR_WAKESRC, 0, 11⟩
def Reg.PWR_AONTMR : Nat := 0x4002004C
def Fld.PWR_AONTMR_PERIOD : FReg := ⟨Reg.PWR_AONTMR, 0, 24⟩
def Reg.PWR_SLEEP : Nat := 0x40020050
def Fld.PWR_SLEEP_COMMIT : FReg := ⟨Reg.PWR_SLEEP, 0, 1⟩

-- Registers of CLK.
def Reg.CLK_STAT : Nat := 0x40010000
def Fld.CLK_STAT_SW_BUSY : FReg := ⟨Reg.CLK_STAT, 15, 1⟩
def Fld.CLK_STAT_DVFS_BUSY : FReg := ⟨Reg.CLK_STAT, 14, 1⟩
def Fld.CLK_STAT_FPLL_LOCK : FReg := ⟨Reg.CLK_STAT, 11, 1⟩
def Fld.CLK_STAT_SPLL_LOCK : FReg := ⟨Reg.CLK_STAT, 10, 1⟩
def Fld.CLK_STAT_TPLL_LOCK : FReg := ⟨Reg.CLK_STAT, 9, 1⟩
def Fld.CLK_STAT_LF_FAIL : FReg := ⟨Reg.CLK_STAT, 8, 1⟩
def Fld.CLK_STAT_TPLL_UNLOCK : FReg := ⟨Reg.CLK_STAT, 5, 1⟩
def Fld.CLK_STAT_GATE_FORCED : FReg := ⟨Reg.CLK_STAT, 4, 1⟩
def Fld.CLK_STAT_SWITCH_FORCED : FReg := ⟨Reg.CLK_STAT, 3, 1⟩
def Fld.CLK_STAT_XTAL_FAIL : FReg := ⟨Reg.CLK_STAT, 2, 1⟩
def Fld.CLK_STAT_REF : FReg := ⟨Reg.CLK_STAT, 1, 1⟩
def Fld.CLK_STAT_JUDGED : FReg := ⟨Reg.CLK_STAT, 0, 1⟩
def Reg.CLK_XCFG : Nat := 0x40010004
def Fld.CLK_XCFG_GAIN : FReg := ⟨Reg.CLK_XCFG, 26, 2⟩
def Fld.CLK_XCFG_LF_XTAL : FReg := ⟨Reg.CLK_XCFG, 25, 1⟩
def Fld.CLK_XCFG_JUDGE : FReg := ⟨Reg.CLK_XCFG, 24, 1⟩
def Fld.CLK_XCFG_TOL : FReg := ⟨Reg.CLK_XCFG, 20, 4⟩
def Fld.CLK_XCFG_WIN : FReg := ⟨Reg.CLK_XCFG, 16, 4⟩
def Fld.CLK_XCFG_FREQ : FReg := ⟨Reg.CLK_XCFG, 0, 16⟩
def Reg.CLK_XDLY : Nat := 0x40010008
def Fld.CLK_XDLY_DLY : FReg := ⟨Reg.CLK_XDLY, 0, 8⟩
def Reg.CLK_OPREQ : Nat := 0x4001000C
def Fld.CLK_OPREQ_REQ : FReg := ⟨Reg.CLK_OPREQ, 0, 2⟩
def Reg.CLK_RAMP : Nat := 0x40010010
def Fld.CLK_RAMP_VSETTLE : FReg := ⟨Reg.CLK_RAMP, 16, 8⟩
def Fld.CLK_RAMP_DWELL : FReg := ⟨Reg.CLK_RAMP, 0, 10⟩
def Reg.CLK_SPREAD : Nat := 0x40010014
def Fld.CLK_SPREAD_RATE : FReg := ⟨Reg.CLK_SPREAD, 8, 8⟩
def Fld.CLK_SPREAD_DEPTH : FReg := ⟨Reg.CLK_SPREAD, 0, 5⟩
def Reg.CLK_GATE0 : Nat := 0x40010018
def Fld.CLK_GATE0_TST : FReg := ⟨Reg.CLK_GATE0, 17, 1⟩
def Fld.CLK_GATE0_SEC : FReg := ⟨Reg.CLK_GATE0, 16, 1⟩
def Fld.CLK_GATE0_PAT1 : FReg := ⟨Reg.CLK_GATE0, 15, 1⟩
def Fld.CLK_GATE0_PAT0 : FReg := ⟨Reg.CLK_GATE0, 14, 1⟩
def Fld.CLK_GATE0_TIM : FReg := ⟨Reg.CLK_GATE0, 13, 1⟩
def Fld.CLK_GATE0_DMA : FReg := ⟨Reg.CLK_GATE0, 12, 1⟩
def Fld.CLK_GATE0_HST_T1S : FReg := ⟨Reg.CLK_GATE0, 11, 1⟩
def Fld.CLK_GATE0_HST_CAN1 : FReg := ⟨Reg.CLK_GATE0, 10, 1⟩
def Fld.CLK_GATE0_HST_CAN0 : FReg := ⟨Reg.CLK_GATE0, 9, 1⟩
def Fld.CLK_GATE0_HST_SPI : FReg := ⟨Reg.CLK_GATE0, 8, 1⟩
def Fld.CLK_GATE0_FLO : FReg := ⟨Reg.CLK_GATE0, 7, 1⟩
def Fld.CLK_GATE0_ADC : FReg := ⟨Reg.CLK_GATE0, 6, 1⟩
def Fld.CLK_GATE0_WIT : FReg := ⟨Reg.CLK_GATE0, 5, 1⟩
def Fld.CLK_GATE0_PRF : FReg := ⟨Reg.CLK_GATE0, 4, 1⟩
def Fld.CLK_GATE0_DRV : FReg := ⟨Reg.CLK_GATE0, 3, 1⟩
def Fld.CLK_GATE0_SCH : FReg := ⟨Reg.CLK_GATE0, 2, 1⟩
def Fld.CLK_GATE0_TRK : FReg := ⟨Reg.CLK_GATE0, 1, 1⟩
def Fld.CLK_GATE0_WHL : FReg := ⟨Reg.CLK_GATE0, 0, 1⟩
def Reg.CLK_GATE1 : Nat := 0x4001001C
def Fld.CLK_GATE1_DMA_HI : FReg := ⟨Reg.CLK_GATE1, 8, 1⟩
def Fld.CLK_GATE1_FMC : FReg := ⟨Reg.CLK_GATE1, 4, 1⟩
def Fld.CLK_GATE1_FLP : FReg := ⟨Reg.CLK_GATE1, 0, 4⟩
def Reg.CLK_FMC_CTRL : Nat := 0x40010020
def Fld.CLK_FMC_CTRL_DONE : FReg := ⟨Reg.CLK_FMC_CTRL, 31, 1⟩
def Fld.CLK_FMC_CTRL_NOCLK : FReg := ⟨Reg.CLK_FMC_CTRL, 30, 1⟩
def Fld.CLK_FMC_CTRL_START : FReg := ⟨Reg.CLK_FMC_CTRL, 24, 1⟩
def Fld.CLK_FMC_CTRL_CONT : FReg := ⟨Reg.CLK_FMC_CTRL, 20, 1⟩
def Fld.CLK_FMC_CTRL_WIN : FReg := ⟨Reg.CLK_FMC_CTRL, 16, 4⟩
def Fld.CLK_FMC_CTRL_REF : FReg := ⟨Reg.CLK_FMC_CTRL, 8, 3⟩
def Fld.CLK_FMC_CTRL_TGT : FReg := ⟨Reg.CLK_FMC_CTRL, 0, 3⟩
def Reg.CLK_FMC_CNT : Nat := 0x40010024
def Fld.CLK_FMC_CNT_COUNT : FReg := ⟨Reg.CLK_FMC_CNT, 0, 32⟩
def Reg.CLK_FMC_MM : Nat := 0x40010028
def Fld.CLK_FMC_MM_MAX : FReg := ⟨Reg.CLK_FMC_MM, 16, 16⟩
def Fld.CLK_FMC_MM_MIN : FReg := ⟨Reg.CLK_FMC_MM, 0, 16⟩

-- Registers of IRQ.
def Reg.IRQ_PRIGROUP : Nat := 0x40030000
def Fld.IRQ_PRIGROUP_COM_SPLIT : FReg := ⟨Reg.IRQ_PRIGROUP, 8, 3⟩
def Fld.IRQ_PRIGROUP_SUP_SPLIT : FReg := ⟨Reg.IRQ_PRIGROUP, 0, 3⟩
def Reg.IRQ_STAT : Nat := 0x40030004
def Fld.IRQ_STAT_SPURIOUS : FReg := ⟨Reg.IRQ_STAT, 8, 8⟩
def Fld.IRQ_STAT_EOI_ERR : FReg := ⟨Reg.IRQ_STAT, 0, 1⟩
def Reg.IRQ_ACK (i : Nat) : Nat := 0x40030010 + 0x10 * i
def Fld.IRQ_ACK_VECTOR (i : Nat) : FReg := ⟨Reg.IRQ_ACK i, 0, 9⟩
def Reg.IRQ_EOI (i : Nat) : Nat := 0x40030014 + 0x10 * i
def Fld.IRQ_EOI_EOI (i : Nat) : FReg := ⟨Reg.IRQ_EOI i, 0, 1⟩
def Reg.IRQ_ACT (i : Nat) : Nat := 0x40030018 + 0x10 * i
def Fld.IRQ_ACT_ACTIVE (i : Nat) : FReg := ⟨Reg.IRQ_ACT i, 0, 16⟩
def Reg.IRQ_HACK (i : Nat) : Nat := 0x40030040 + 0x10 * i
def Fld.IRQ_HACK_PRIO (i : Nat) : FReg := ⟨Reg.IRQ_HACK i, 12, 4⟩
def Fld.IRQ_HACK_VECTOR (i : Nat) : FReg := ⟨Reg.IRQ_HACK i, 0, 9⟩
def Reg.IRQ_HCFG (i : Nat) : Nat := 0x40030044 + 0x10 * i
def Fld.IRQ_HCFG_ASSERTED (i : Nat) : FReg := ⟨Reg.IRQ_HCFG i, 8, 1⟩
def Fld.IRQ_HCFG_POL (i : Nat) : FReg := ⟨Reg.IRQ_HCFG i, 1, 1⟩
def Fld.IRQ_HCFG_EN (i : Nat) : FReg := ⟨Reg.IRQ_HCFG i, 0, 1⟩
def Reg.IRQ_GRP (i : Nat) : Nat := 0x40030080 + 0x4 * i
def Fld.IRQ_GRP_TIME (i : Nat) : FReg := ⟨Reg.IRQ_GRP i, 16, 16⟩
def Fld.IRQ_GRP_N (i : Nat) : FReg := ⟨Reg.IRQ_GRP i, 8, 8⟩
def Fld.IRQ_GRP_COUNT (i : Nat) : FReg := ⟨Reg.IRQ_GRP i, 0, 8⟩
def Reg.IRQ_WAKEMASK (i : Nat) : Nat := 0x400300C0 + 0x4 * i
def Fld.IRQ_WAKEMASK_EN_ODD (i : Nat) : FReg := ⟨Reg.IRQ_WAKEMASK i, 31, 1⟩
def Fld.IRQ_WAKEMASK_SRC_ODD (i : Nat) : FReg := ⟨Reg.IRQ_WAKEMASK i, 16, 8⟩
def Fld.IRQ_WAKEMASK_EN_EVEN (i : Nat) : FReg := ⟨Reg.IRQ_WAKEMASK i, 15, 1⟩
def Fld.IRQ_WAKEMASK_SRC_EVEN (i : Nat) : FReg := ⟨Reg.IRQ_WAKEMASK i, 0, 8⟩
def Reg.IRQ_PEND (i : Nat) : Nat := 0x40030100 + 0x4 * i
def Fld.IRQ_PEND_PEND (i : Nat) : FReg := ⟨Reg.IRQ_PEND i, 0, 32⟩
def Reg.IRQ_HPEND (i : Nat) : Nat := 0x40030120 + 0x4 * i
def Fld.IRQ_HPEND_PEND (i : Nat) : FReg := ⟨Reg.IRQ_HPEND i, 0, 32⟩
def Reg.IRQ_SRC (i : Nat) : Nat := 0x40030400 + 0x4 * i
def Fld.IRQ_SRC_CGRP (i : Nat) : FReg := ⟨Reg.IRQ_SRC i, 8, 5⟩
def Fld.IRQ_SRC_PRIO (i : Nat) : FReg := ⟨Reg.IRQ_SRC i, 4, 4⟩
def Fld.IRQ_SRC_TGT (i : Nat) : FReg := ⟨Reg.IRQ_SRC i, 1, 1⟩
def Fld.IRQ_SRC_EN (i : Nat) : FReg := ⟨Reg.IRQ_SRC i, 0, 1⟩
def Reg.IRQ_HSRC (i : Nat) : Nat := 0x40030800 + 0x4 * i
def Fld.IRQ_HSRC_CGRP (i : Nat) : FReg := ⟨Reg.IRQ_HSRC i, 8, 5⟩
def Fld.IRQ_HSRC_PRIO (i : Nat) : FReg := ⟨Reg.IRQ_HSRC i, 4, 4⟩
def Fld.IRQ_HSRC_LINE (i : Nat) : FReg := ⟨Reg.IRQ_HSRC i, 1, 1⟩
def Fld.IRQ_HSRC_EN (i : Nat) : FReg := ⟨Reg.IRQ_HSRC i, 0, 1⟩

-- Registers of DMA.
def Reg.DMA_SUM : Nat := 0x40040000
def Fld.DMA_SUM_ERR : FReg := ⟨Reg.DMA_SUM, 16, 16⟩
def Fld.DMA_SUM_BUSY : FReg := ⟨Reg.DMA_SUM, 0, 16⟩
def Reg.DMA_CH_CTRL (n : Nat) : Nat := 0x40040100 + 0x40 * n
def Fld.DMA_CH_CTRL_TRIG (n : Nat) : FReg := ⟨Reg.DMA_CH_CTRL n, 24, 8⟩
def Fld.DMA_CH_CTRL_BURST (n : Nat) : FReg := ⟨Reg.DMA_CH_CTRL n, 16, 8⟩
def Fld.DMA_CH_CTRL_PRIO (n : Nat) : FReg := ⟨Reg.DMA_CH_CTRL n, 15, 1⟩
def Fld.DMA_CH_CTRL_DINC (n : Nat) : FReg := ⟨Reg.DMA_CH_CTRL n, 10, 2⟩
def Fld.DMA_CH_CTRL_SINC (n : Nat) : FReg := ⟨Reg.DMA_CH_CTRL n, 8, 2⟩
def Fld.DMA_CH_CTRL_WIDTH (n : Nat) : FReg := ⟨Reg.DMA_CH_CTRL n, 4, 2⟩
def Fld.DMA_CH_CTRL_EN (n : Nat) : FReg := ⟨Reg.DMA_CH_CTRL n, 0, 1⟩
def Reg.DMA_CH_SRC (n : Nat) : Nat := 0x40040104 + 0x40 * n
def Fld.DMA_CH_SRC_SRC (n : Nat) : FReg := ⟨Reg.DMA_CH_SRC n, 0, 32⟩
def Reg.DMA_CH_DST (n : Nat) : Nat := 0x40040108 + 0x40 * n
def Fld.DMA_CH_DST_DST (n : Nat) : FReg := ⟨Reg.DMA_CH_DST n, 0, 32⟩
def Reg.DMA_CH_CNT (n : Nat) : Nat := 0x4004010C + 0x40 * n
def Fld.DMA_CH_CNT_IE (n : Nat) : FReg := ⟨Reg.DMA_CH_CNT n, 24, 1⟩
def Fld.DMA_CH_CNT_CNT (n : Nat) : FReg := ⟨Reg.DMA_CH_CNT n, 0, 24⟩
def Reg.DMA_CH_LINK (n : Nat) : Nat := 0x40040110 + 0x40 * n
def Fld.DMA_CH_LINK_LINK (n : Nat) : FReg := ⟨Reg.DMA_CH_LINK n, 0, 32⟩
def Reg.DMA_CH_SH_SRC (n : Nat) : Nat := 0x40040114 + 0x40 * n
def Fld.DMA_CH_SH_SRC_SRC (n : Nat) : FReg := ⟨Reg.DMA_CH_SH_SRC n, 0, 32⟩
def Reg.DMA_CH_SH_DST (n : Nat) : Nat := 0x40040118 + 0x40 * n
def Fld.DMA_CH_SH_DST_DST (n : Nat) : FReg := ⟨Reg.DMA_CH_SH_DST n, 0, 32⟩
def Reg.DMA_CH_SH_LINK (n : Nat) : Nat := 0x40040120 + 0x40 * n
def Fld.DMA_CH_SH_LINK_LINK (n : Nat) : FReg := ⟨Reg.DMA_CH_SH_LINK n, 0, 32⟩
def Reg.DMA_CH_SH_CNT (n : Nat) : Nat := 0x4004011C + 0x40 * n
def Fld.DMA_CH_SH_CNT_IE (n : Nat) : FReg := ⟨Reg.DMA_CH_SH_CNT n, 24, 1⟩
def Fld.DMA_CH_SH_CNT_CNT (n : Nat) : FReg := ⟨Reg.DMA_CH_SH_CNT n, 0, 24⟩
def Reg.DMA_CH_SHV (n : Nat) : Nat := 0x40040124 + 0x40 * n
def Fld.DMA_CH_SHV_SH_VALID (n : Nat) : FReg := ⟨Reg.DMA_CH_SHV n, 0, 1⟩
def Reg.DMA_CH_HOPS (n : Nat) : Nat := 0x40040128 + 0x40 * n
def Fld.DMA_CH_HOPS_COUNT (n : Nat) : FReg := ⟨Reg.DMA_CH_HOPS n, 16, 16⟩
def Fld.DMA_CH_HOPS_LIMIT (n : Nat) : FReg := ⟨Reg.DMA_CH_HOPS n, 0, 16⟩
def Reg.DMA_CH_STAT (n : Nat) : Nat := 0x4004012C + 0x40 * n
def Fld.DMA_CH_STAT_TRIG_LOST (n : Nat) : FReg := ⟨Reg.DMA_CH_STAT n, 8, 8⟩
def Fld.DMA_CH_STAT_SHADOW_DROP (n : Nat) : FReg := ⟨Reg.DMA_CH_STAT n, 2, 1⟩
def Fld.DMA_CH_STAT_DONE (n : Nat) : FReg := ⟨Reg.DMA_CH_STAT n, 1, 1⟩
def Fld.DMA_CH_STAT_BUSY (n : Nat) : FReg := ⟨Reg.DMA_CH_STAT n, 0, 1⟩
def Reg.DMA_CH_ERR (n : Nat) : Nat := 0x40040130 + 0x40 * n
def Fld.DMA_CH_ERR_BUS (n : Nat) : FReg := ⟨Reg.DMA_CH_ERR n, 3, 1⟩
def Fld.DMA_CH_ERR_FETCH (n : Nat) : FReg := ⟨Reg.DMA_CH_ERR n, 2, 1⟩
def Fld.DMA_CH_ERR_HOPS (n : Nat) : FReg := ⟨Reg.DMA_CH_ERR n, 1, 1⟩
def Fld.DMA_CH_ERR_ALIGN (n : Nat) : FReg := ⟨Reg.DMA_CH_ERR n, 0, 1⟩
def Reg.DMA_CH_ERRADDR (n : Nat) : Nat := 0x40040134 + 0x40 * n
def Fld.DMA_CH_ERRADDR_ADDR (n : Nat) : FReg := ⟨Reg.DMA_CH_ERRADDR n, 0, 32⟩

-- Registers of TIM.
def Reg.TIM_GSTART : Nat := 0x40050000
def Fld.TIM_GSTART_STAGGER : FReg := ⟨Reg.TIM_GSTART, 31, 1⟩
def Fld.TIM_GSTART_MASK : FReg := ⟨Reg.TIM_GSTART, 0, 16⟩
def Reg.TIM_GSTOP : Nat := 0x40050004
def Fld.TIM_GSTOP_MASK : FReg := ⟨Reg.TIM_GSTOP, 0, 16⟩
def Reg.TIM_RUN : Nat := 0x40050008
def Fld.TIM_RUN_RUN : FReg := ⟨Reg.TIM_RUN, 0, 16⟩
def Reg.TIM_CH_CFG (n : Nat) : Nat := 0x40050100 + 0x40 * n
def Fld.TIM_CH_CFG_IE (n : Nat) : FReg := ⟨Reg.TIM_CH_CFG n, 24, 5⟩
def Fld.TIM_CH_CFG_CAP_EDGE (n : Nat) : FReg := ⟨Reg.TIM_CH_CFG n, 22, 2⟩
def Fld.TIM_CH_CFG_CAP_PIN (n : Nat) : FReg := ⟨Reg.TIM_CH_CFG n, 16, 5⟩
def Fld.TIM_CH_CFG_TRIGACT (n : Nat) : FReg := ⟨Reg.TIM_CH_CFG n, 14, 2⟩
def Fld.TIM_CH_CFG_EVSEL (n : Nat) : FReg := ⟨Reg.TIM_CH_CFG n, 12, 2⟩
def Fld.TIM_CH_CFG_LINK (n : Nat) : FReg := ⟨Reg.TIM_CH_CFG n, 7, 1⟩
def Fld.TIM_CH_CFG_IMM (n : Nat) : FReg := ⟨Reg.TIM_CH_CFG n, 6, 1⟩
def Fld.TIM_CH_CFG_MODE (n : Nat) : FReg := ⟨Reg.TIM_CH_CFG n, 5, 1⟩
def Fld.TIM_CH_CFG_CLKSEL (n : Nat) : FReg := ⟨Reg.TIM_CH_CFG n, 1, 3⟩
def Fld.TIM_CH_CFG_EN (n : Nat) : FReg := ⟨Reg.TIM_CH_CFG n, 0, 1⟩
def Reg.TIM_CH_CNT (n : Nat) : Nat := 0x40050104 + 0x40 * n
def Fld.TIM_CH_CNT_CNT (n : Nat) : FReg := ⟨Reg.TIM_CH_CNT n, 0, 32⟩
def Reg.TIM_CH_PER (n : Nat) : Nat := 0x40050108 + 0x40 * n
def Fld.TIM_CH_PER_PER (n : Nat) : FReg := ⟨Reg.TIM_CH_PER n, 0, 32⟩
def Reg.TIM_CH_CMP (n : Nat) : Nat := 0x4005010C + 0x40 * n
def Fld.TIM_CH_CMP_CMP (n : Nat) : FReg := ⟨Reg.TIM_CH_CMP n, 0, 32⟩
def Reg.TIM_CH_PHASE (n : Nat) : Nat := 0x40050110 + 0x40 * n
def Fld.TIM_CH_PHASE_PHASE (n : Nat) : FReg := ⟨Reg.TIM_CH_PHASE n, 0, 32⟩
def Reg.TIM_CH_CAP (n : Nat) : Nat := 0x40050114 + 0x40 * n
def Fld.TIM_CH_CAP_CAP (n : Nat) : FReg := ⟨Reg.TIM_CH_CAP n, 0, 32⟩
def Reg.TIM_CH_STAT (n : Nat) : Nat := 0x40050118 + 0x40 * n
def Fld.TIM_CH_STAT_PER_PEND (n : Nat) : FReg := ⟨Reg.TIM_CH_STAT n, 11, 1⟩
def Fld.TIM_CH_STAT_DIR (n : Nat) : FReg := ⟨Reg.TIM_CH_STAT n, 10, 1⟩
def Fld.TIM_CH_STAT_ANG_JUMP (n : Nat) : FReg := ⟨Reg.TIM_CH_STAT n, 9, 1⟩
def Fld.TIM_CH_STAT_TOP_CLIP (n : Nat) : FReg := ⟨Reg.TIM_CH_STAT n, 8, 1⟩
def Fld.TIM_CH_STAT_CAP_OVR (n : Nat) : FReg := ⟨Reg.TIM_CH_STAT n, 7, 1⟩
def Fld.TIM_CH_STAT_CAP_LVL (n : Nat) : FReg := ⟨Reg.TIM_CH_STAT n, 0, 3⟩
def Reg.TIM_CH_HOLD (n : Nat) : Nat := 0x4005011C + 0x40 * n
def Fld.TIM_CH_HOLD_HOLD (n : Nat) : FReg := ⟨Reg.TIM_CH_HOLD n, 0, 32⟩
def Reg.TIM_CH_PRESC (n : Nat) : Nat := 0x40050120 + 0x40 * n
def Fld.TIM_CH_PRESC_PRESC (n : Nat) : FReg := ⟨Reg.TIM_CH_PRESC n, 0, 16⟩

-- Registers of PAT.
def Reg.PAT_SUM (e : Nat) : Nat := 0x40060000 + 0x4000 * e
def Fld.PAT_SUM_HALTED (e : Nat) : FReg := ⟨Reg.PAT_SUM e, 16, 16⟩
def Fld.PAT_SUM_EN (e : Nat) : FReg := ⟨Reg.PAT_SUM e, 0, 16⟩
def Reg.PAT_PINOUT (e : Nat) : Nat := 0x40060004 + 0x4000 * e
def Fld.PAT_PINOUT_OUT (e : Nat) : FReg := ⟨Reg.PAT_PINOUT e, 0, 32⟩
def Reg.PAT_TRIG (e : Nat) : Nat := 0x40060008 + 0x4000 * e
def Fld.PAT_TRIG_TRIG (e : Nat) : FReg := ⟨Reg.PAT_TRIG e, 0, 16⟩
def Reg.PAT_CTX_CTRL (e c : Nat) : Nat := 0x40060100 + 0x4000 * e + 0x40 * c
def Fld.PAT_CTX_CTRL_FLUSH (e c : Nat) : FReg := ⟨Reg.PAT_CTX_CTRL e c, 2, 1⟩
def Fld.PAT_CTX_CTRL_RESTART (e c : Nat) : FReg := ⟨Reg.PAT_CTX_CTRL e c, 1, 1⟩
def Fld.PAT_CTX_CTRL_EN (e c : Nat) : FReg := ⟨Reg.PAT_CTX_CTRL e c, 0, 1⟩
def Reg.PAT_CTX_CFG (e c : Nat) : Nat := 0x40060104 + 0x4000 * e + 0x40 * c
def Fld.PAT_CTX_CFG_DISCARDABLE (e c : Nat) : FReg := ⟨Reg.PAT_CTX_CFG e c, 31, 1⟩
def Fld.PAT_CTX_CFG_DREQ (e c : Nat) : FReg := ⟨Reg.PAT_CTX_CFG e c, 30, 1⟩
def Fld.PAT_CTX_CFG_SHDIR (e c : Nat) : FReg := ⟨Reg.PAT_CTX_CFG e c, 29, 1⟩
def Fld.PAT_CTX_CFG_AUTORECV (e c : Nat) : FReg := ⟨Reg.PAT_CTX_CFG e c, 27, 1⟩
def Fld.PAT_CTX_CFG_AUTOSEND (e c : Nat) : FReg := ⟨Reg.PAT_CTX_CFG e c, 26, 1⟩
def Fld.PAT_CTX_CFG_FILL (e c : Nat) : FReg := ⟨Reg.PAT_CTX_CFG e c, 16, 6⟩
def Fld.PAT_CTX_CFG_START (e c : Nat) : FReg := ⟨Reg.PAT_CTX_CFG e c, 0, 9⟩
def Reg.PAT_CTX_PINS (e c : Nat) : Nat := 0x40060108 + 0x4000 * e + 0x40 * c
def Fld.PAT_CTX_PINS_SET_BASE (e c : Nat) : FReg := ⟨Reg.PAT_CTX_PINS e c, 24, 5⟩
def Fld.PAT_CTX_PINS_OUT_BASE (e c : Nat) : FReg := ⟨Reg.PAT_CTX_PINS e c, 16, 5⟩
def Fld.PAT_CTX_PINS_OUT_N (e c : Nat) : FReg := ⟨Reg.PAT_CTX_PINS e c, 8, 6⟩
def Fld.PAT_CTX_PINS_IN_BASE (e c : Nat) : FReg := ⟨Reg.PAT_CTX_PINS e c, 0, 5⟩
def Reg.PAT_CTX_STAT (e c : Nat) : Nat := 0x4006010C + 0x4000 * e + 0x40 * c
def Fld.PAT_CTX_STAT_DROPS (e c : Nat) : FReg := ⟨Reg.PAT_CTX_STAT e c, 24, 8⟩
def Fld.PAT_CTX_STAT_TRIG (e c : Nat) : FReg := ⟨Reg.PAT_CTX_STAT e c, 23, 1⟩
def Fld.PAT_CTX_STAT_RX_LVL (e c : Nat) : FReg := ⟨Reg.PAT_CTX_STAT e c, 20, 3⟩
def Fld.PAT_CTX_STAT_TX_LVL (e c : Nat) : FReg := ⟨Reg.PAT_CTX_STAT e c, 16, 3⟩
def Fld.PAT_CTX_STAT_CALVED (e c : Nat) : FReg := ⟨Reg.PAT_CTX_STAT e c, 15, 1⟩
def Fld.PAT_CTX_STAT_TRIG_LOST (e c : Nat) : FReg := ⟨Reg.PAT_CTX_STAT e c, 14, 1⟩
def Fld.PAT_CTX_STAT_RX_UNF (e c : Nat) : FReg := ⟨Reg.PAT_CTX_STAT e c, 13, 1⟩
def Fld.PAT_CTX_STAT_TX_OVF (e c : Nat) : FReg := ⟨Reg.PAT_CTX_STAT e c, 12, 1⟩
def Fld.PAT_CTX_STAT_ILLEGAL (e c : Nat) : FReg := ⟨Reg.PAT_CTX_STAT e c, 11, 1⟩
def Fld.PAT_CTX_STAT_STALE (e c : Nat) : FReg := ⟨Reg.PAT_CTX_STAT e c, 10, 1⟩
def Fld.PAT_CTX_STAT_HALTED (e c : Nat) : FReg := ⟨Reg.PAT_CTX_STAT e c, 9, 1⟩
def Fld.PAT_CTX_STAT_PC (e c : Nat) : FReg := ⟨Reg.PAT_CTX_STAT e c, 0, 9⟩
def Reg.PAT_CTX_TX (e c : Nat) : Nat := 0x40060110 + 0x4000 * e + 0x40 * c
def Fld.PAT_CTX_TX_DATA (e c : Nat) : FReg := ⟨Reg.PAT_CTX_TX e c, 0, 32⟩
def Reg.PAT_CTX_RX (e c : Nat) : Nat := 0x40060114 + 0x4000 * e + 0x40 * c
def Fld.PAT_CTX_RX_DATA (e c : Nat) : FReg := ⟨Reg.PAT_CTX_RX e c, 0, 32⟩
def Reg.PAT_CTX_SHR (e c : Nat) : Nat := 0x40060118 + 0x4000 * e + 0x40 * c
def Fld.PAT_CTX_SHR_SHR (e c : Nat) : FReg := ⟨Reg.PAT_CTX_SHR e c, 0, 32⟩
def Reg.PAT_CTX_SHC (e c : Nat) : Nat := 0x4006011C + 0x4000 * e + 0x40 * c
def Fld.PAT_CTX_SHC_N (e c : Nat) : FReg := ⟨Reg.PAT_CTX_SHC e c, 7, 1⟩
def Fld.PAT_CTX_SHC_Z (e c : Nat) : FReg := ⟨Reg.PAT_CTX_SHC e c, 6, 1⟩
def Fld.PAT_CTX_SHC_SHC (e c : Nat) : FReg := ⟨Reg.PAT_CTX_SHC e c, 0, 6⟩
def Reg.PAT_CTX_W (e c k : Nat) : Nat := 0x40060120 + 0x4000 * e + 0x40 * c + 4 * k
def Fld.PAT_CTX_W_W (e c k : Nat) : FReg := ⟨Reg.PAT_CTX_W e c k, 0, 32⟩
def Reg.PAT_IMEM (e i : Nat) : Nat := 0x40061000 + 0x4000 * e + 4 * i
def Fld.PAT_IMEM_INSTR (e i : Nat) : FReg := ⟨Reg.PAT_IMEM e i, 0, 16⟩

-- Registers of TST.
def Reg.TST_STAT : Nat := 0x40130000
def Fld.TST_STAT_RUN : FReg := ⟨Reg.TST_STAT, 8, 3⟩
def Fld.TST_STAT_DEPTH : FReg := ⟨Reg.TST_STAT, 4, 2⟩
def Fld.TST_STAT_IF : FReg := ⟨Reg.TST_STAT, 0, 4⟩
def Reg.TST_LBCNT : Nat := 0x40130004
def Fld.TST_LBCNT_GOOD : FReg := ⟨Reg.TST_LBCNT, 16, 16⟩
def Fld.TST_LBCNT_SENT : FReg := ⟨Reg.TST_LBCNT, 0, 16⟩
def Reg.TST_LBERR : Nat := 0x40130008
def Fld.TST_LBERR_RTT : FReg := ⟨Reg.TST_LBERR, 16, 16⟩
def Fld.TST_LBERR_BAD : FReg := ⟨Reg.TST_LBERR, 0, 16⟩
def Reg.TST_OTRES0 : Nat := 0x40130010
def Fld.TST_OTRES0_L : FReg := ⟨Reg.TST_OTRES0, 16, 16⟩
def Fld.TST_OTRES0_R : FReg := ⟨Reg.TST_OTRES0, 0, 16⟩
def Reg.TST_OTRES1 : Nat := 0x40130014
def Fld.TST_OTRES1_RESULT : FReg := ⟨Reg.TST_OTRES1, 28, 4⟩
def Fld.TST_OTRES1_CH : FReg := ⟨Reg.TST_OTRES1, 20, 6⟩
def Fld.TST_OTRES1_TRAMP : FReg := ⟨Reg.TST_OTRES1, 0, 17⟩
def Reg.TST_SELF : Nat := 0x40130018
def Fld.TST_SELF_FAIL : FReg := ⟨Reg.TST_SELF, 0, 20⟩
def Reg.TST_ADC (i : Nat) : Nat := 0x40130020 + 0x4 * i
def Fld.TST_ADC_OPEN (i : Nat) : FReg := ⟨Reg.TST_ADC i, 31, 1⟩
def Fld.TST_ADC_RSRC (i : Nat) : FReg := ⟨Reg.TST_ADC i, 0, 17⟩

-- Registers of SCH.
def Reg.SCH_SHADOW (s w : Nat) : Nat := 0x400A8000 + 16 * s + 4 * w
def Fld.SCH_SHADOW_WORD (s w : Nat) : FReg := ⟨Reg.SCH_SHADOW s w, 0, 32⟩
def Reg.SCH_ACTIVE (s w : Nat) : Nat := 0x400B0000 + 16 * s + 4 * w
def Fld.SCH_ACTIVE_WORD (s w : Nat) : FReg := ⟨Reg.SCH_ACTIVE s w, 0, 32⟩

/-- The register rows of block SYS. -/
def rowsSYS : List RegRow :=
  [⟨0x40000000, 4, 1, 0x4E560048, 0x0, 0x0, 0x0, 0x0, 0x0, 0x0, 0xFFFFFFFF⟩,
   ⟨0x40000004, 4, 1, 0x4230, 0x0, 0x0, 0x0, 0x0, 0x0, 0x0, 0xFFFF⟩,
   ⟨0x40000008, 4, 1, 0x2, 0x0, 0x0, 0x0, 0x0, 0x0, 0x0, 0xFF⟩,
   ⟨0x4000000C, 4, 1, 0x2, 0x0, 0x3100, 0x0, 0x0, 0x0, 0x0, 0xFF0E3F⟩,
   ⟨0x40000010, 4, 1, 0x0, 0x0, 0x7FF, 0x0, 0x0, 0x0, 0x0, 0x0⟩,
   ⟨0x40000014, 4, 1, 0x42707FF, 0x7FF07FF, 0x0, 0x0, 0x0, 0x0, 0x0, 0x0⟩,
   ⟨0x40000018, 4, 1, 0x1007D0, 0x1FFFFFF, 0x0, 0x0, 0x0, 0x0, 0x0, 0x0⟩]

/-- The register rows of block WHL. -/
def rowsWHL : List RegRow :=
  [⟨0x40080010, 4, 1, 0x0, 0x0, 0x0, 0x0, 0x0, 0x0, 0x0, 0xFFFFFFFF⟩,
   ⟨0x40080100, 32, 4, 0x1E010000, 0x7F1F07FF, 0x0, 0x0, 0x0, 0x0, 0x0, 0x0⟩,
   ⟨0x40080104, 32, 4, 0x1000, 0x3FFF, 0x0, 0x0, 0x0, 0x0, 0x0, 0x0⟩,
   ⟨0x40080108, 32, 4, 0x0, 0x3FFFFF, 0x0, 0x0, 0x0, 0x0, 0x0, 0x0⟩,
   ⟨0x4008010C, 32, 4, 0x9643, 0xFFFF, 0x0, 0x0, 0x0, 0x0, 0x0, 0x0⟩,
   ⟨0x40080110, 32, 4, 0x0, 0x0, 0x1F00, 0x0, 0x0, 0x0, 0x0, 0xFFFF000F⟩,
   ⟨0x40080114, 32, 4, 0x0, 0x0, 0x0, 0x0, 0x0, 0x0, 0x0, 0xFFFFFFFF⟩,
   ⟨0x40080118, 32, 4, 0x0, 0x0, 0x0, 0x0, 0x0, 0x0, 0x0, 0xFFFFFFFF⟩,
   ⟨0x4008011C, 32, 4, 0x0, 0x0, 0x0, 0x0, 0x0, 0x0, 0x0, 0xFFFFFFFF⟩,
   ⟨0x40080200, 256, 1, 0x80000, 0x31F37FF, 0x0, 0x0, 0x0, 0x0, 0x0, 0x0⟩,
   ⟨0x40080300, 256, 1, 0x10D0000, 0x31F37FF, 0x0, 0x0, 0x0, 0x0, 0x0, 0x0⟩,
   ⟨0x40080204, 256, 2, 0x0, 0xFFFFFF, 0x0, 0x0, 0x0, 0x0, 0x0, 0x0⟩,
   ⟨0x40080208, 4, 4, 0x0, 0x800703FF, 0x0, 0x0, 0x0, 0x0, 0x0, 0x0⟩,
   ⟨0x40080308, 4, 4, 0x0, 0x800703FF, 0x0, 0x0, 0x0, 0x0, 0x0, 0x0⟩,
   ⟨0x40080218, 4, 4, 0x0, 0x80FF03FF, 0x0, 0x0, 0x0, 0x0, 0x0, 0x0⟩,
   ⟨0x40080318, 4, 4, 0x0, 0x80FF03FF, 0x0, 0x0, 0x0, 0x0, 0x0, 0x0⟩] ++
  [⟨0x40080228, 256, 2, 0x0, 0x3FFFFF, 0x0, 0x0, 0x0, 0x0, 0x0, 0x0⟩,
   ⟨0x40080240, 4, 32, 0x0, 0x81FFFFFF, 0x0, 0x0, 0x0, 0x0, 0x0, 0x0⟩,
   ⟨0x40080340, 4, 32, 0x0, 0x81FFFFFF, 0x0, 0x0, 0x0, 0x0, 0x0, 0x0⟩,
   ⟨0x40080400, 4, 1, 0x0, 0x3F, 0x0, 0x0, 0x0, 0x0, 0x0, 0x0⟩,
   ⟨0x40080404, 4, 1, 0x0, 0x0, 0x0, 0x0, 0x0, 0x0, 0xFFFFFF, 0x0⟩,
   ⟨0x40080408, 4, 1, 0x0, 0xFFFFFFFF, 0x0, 0x0, 0x0, 0x0, 0x0, 0x0⟩,
   ⟨0x4008040C, 4, 1, 0x0, 0xFFFFFFFF, 0x0, 0x0, 0x0, 0x0, 0x0, 0x0⟩,
   ⟨0x40080410, 4, 1, 0x0, 0xFFFFFFFF, 0x0, 0x0, 0x0, 0x0, 0x0, 0x0⟩,
   ⟨0x40080414, 4, 1, 0x0, 0xFF, 0x0, 0x0, 0x0, 0x0, 0x0, 0x0⟩,
   ⟨0x40080418, 4, 1, 0x1, 0x40F, 0x0, 0xB00, 0x0, 0x0, 0x0, 0x0⟩]

/-- The register rows of block TRK. -/
def rowsTRK : List RegRow :=
  [⟨0x40090000, 8192, 2, 0x0, 0x33, 0x0, 0x0, 0x100, 0x0, 0x0, 0x0⟩,
   ⟨0x40090004, 8192, 2, 0xFF000000, 0x0, 0xF000, 0x0, 0x0, 0x0, 0x0, 0xFFF00FCF⟩,
   ⟨0x40090008, 8192, 2, 0x0, 0x0, 0x0, 0x0, 0x0, 0x0, 0x0, 0xFFFFFF⟩,
   ⟨0x4009000C, 8192, 2, 0x0, 0x0, 0x0, 0x0, 0x0, 0x0, 0x0, 0xFFFFFFFF⟩,
   ⟨0x40090010, 8192, 2, 0x0, 0x0, 0x0, 0x0, 0x0, 0x0, 0x0, 0xFFFFFFFF⟩,
   ⟨0x40090014, 8192, 2, 0x0, 0x0, 0x0, 0x0, 0x0, 0x0, 0x0, 0xFF⟩,
   ⟨0x40090018, 8192, 2, 0x0, 0x0, 0x0, 0x0, 0x0, 0x0, 0x0, 0xFFFFFFFF⟩,
   ⟨0x4009001C, 8192, 2, 0x0, 0x0, 0x0, 0x0, 0x0, 0x0, 0x0, 0x103FF⟩,
   ⟨0x40090020, 8192, 2, 0x0, 0x0, 0x0, 0x0, 0x0, 0x0, 0x0, 0xFFFFFFFF⟩,
   ⟨0x40090024, 8192, 2, 0xFFFFFFFF, 0x0, 0x0, 0x0, 0x0, 0x0, 0x0, 0xFFFFFFFF⟩,
   ⟨0x40090028, 8192, 2, 0x0, 0x0, 0x0, 0x0, 0x0, 0x0, 0x0, 0xFFFFF⟩,
   ⟨0x4009002C, 8192, 2, 0x23280, 0xFFFFF, 0x0, 0x0, 0x0, 0x0, 0x0, 0x0⟩,
   ⟨0x40090030, 8192, 2, 0x190814, 0xFFFFFF, 0x0, 0x0, 0x0, 0x0, 0x0, 0x0⟩,
   ⟨0x40090034, 8192, 2, 0x40520, 0xF00F0FFF, 0x0, 0x0, 0x0, 0x0, 0x0, 0x0⟩,
   ⟨0x40090038, 8192, 2, 0x1770012C, 0xFFFFFFFF, 0x0, 0x0, 0x0, 0x0, 0x0, 0x0⟩,
   ⟨0x4009003C, 8192, 2, 0x0, 0x7, 0xFF0000, 0x0, 0x0, 0x0, 0x0, 0x700⟩] ++
  [⟨0x40090040, 8192, 2, 0x138801F4, 0xFFFFFFFF, 0x0, 0x0, 0x0, 0x0, 0x0, 0x0⟩,
   ⟨0x40090044, 8192, 2, 0x0, 0xFFFFFF, 0x0, 0x0, 0x0, 0x0, 0x0, 0x0⟩,
   ⟨0x40090048, 8192, 2, 0x0, 0x0, 0x0, 0x0, 0x0, 0x0, 0x0, 0xFFFFFFFF⟩,
   ⟨0x4009004C, 8192, 2, 0x0, 0x19FFF, 0x0, 0x0, 0x0, 0x0, 0x0, 0x0⟩,
   ⟨0x40090050, 8192, 2, 0x0, 0xFFFF, 0x0, 0x0, 0x0, 0x0, 0x0, 0x0⟩,
   ⟨0x40094000, 4, 1, 0x34001234, 0xFFFFFFFF, 0x0, 0x0, 0x0, 0x0, 0x0, 0x0⟩,
   ⟨0x40094004, 4, 1, 0x400, 0xF07, 0x80000, 0x0, 0x0, 0x0, 0x0, 0x70000⟩,
   ⟨0x40094008, 4, 1, 0x0, 0x0, 0x0, 0x0, 0x0, 0x0, 0x0, 0xFFFFFFFF⟩,
   ⟨0x4009400C, 4, 1, 0x0, 0x0, 0x0, 0x0, 0x0, 0x0, 0x0, 0x3FFFFFF⟩,
   ⟨0x40094010, 4, 1, 0x0, 0x0, 0x0, 0x0, 0x0, 0x0, 0x0, 0xFFFF⟩,
   ⟨0x40094020, 4, 1, 0x0, 0x0, 0x0, 0x0, 0x0, 0x0, 0x0, 0xC00103FF⟩,
   ⟨0x40094024, 4, 1, 0x0, 0x107, 0x0, 0x0, 0x0, 0x0, 0x0, 0x0⟩,
   ⟨0x40094028, 4, 1, 0x0, 0x0, 0x0, 0x0, 0x0, 0x0, 0x0, 0x7FFFF⟩,
   ⟨0x4009402C, 4, 1, 0xD6BF94D, 0xFFFFFFFF, 0x0, 0x0, 0x0, 0x0, 0x0, 0x0⟩]

/-- The register rows of block SCH. -/
def rowsSCH : List RegRow :=
  [⟨0x400A0000, 4, 1, 0x800, 0xFF0F, 0x0, 0x0, 0x0, 0x0, 0x0, 0x0⟩,
   ⟨0x400A0004, 4, 1, 0x0, 0x0, 0xF00000, 0x0, 0x0, 0x0, 0x0, 0xFF00FFFF⟩,
   ⟨0x400A0008, 4, 1, 0x0, 0x0, 0x0, 0x0, 0x1, 0x0, 0x0, 0x0⟩,
   ⟨0x400A000C, 4, 1, 0x0, 0x0, 0x0, 0xFFFFFF, 0x0, 0x0, 0x0, 0x0⟩,
   ⟨0x400A0010, 4, 1, 0x0, 0x0, 0x0, 0x0, 0xFFFFFF, 0x0, 0x0, 0x0⟩,
   ⟨0x400A0014, 4, 1, 0x0, 0x0, 0x0, 0x0, 0xFFFFFF, 0x0, 0x0, 0x0⟩,
   ⟨0x400A0018, 4, 1, 0x71C72, 0xFFFFFF, 0x0, 0x0, 0x0, 0x0, 0x0, 0x0⟩,
   ⟨0x400A001C, 4, 1, 0x0, 0x0, 0xFFFFFF, 0x0, 0x0, 0x0, 0x0, 0x0⟩,
   ⟨0x400A0020, 4, 1, 0x0, 0x0, 0x0, 0x0, 0x0, 0x0, 0x0, 0xFFFFFFFF⟩,
   ⟨0x400A0024, 4, 1, 0x0, 0x0, 0x0, 0x0, 0x0, 0x0, 0x0, 0xFFFF1F⟩,
   ⟨0x400A0030, 4, 1, 0x0, 0x0, 0x0, 0x0, 0x0, 0x0, 0x0, 0xFFFFFFFF⟩,
   ⟨0x400A0034, 4, 1, 0x0, 0x0, 0x0, 0x0, 0x0, 0x0, 0x0, 0xFFFFFFFF⟩,
   ⟨0x400A0038, 4, 1, 0xFFFF0000, 0x0, 0x0, 0x0, 0x0, 0x0, 0x0, 0xFFFFFFFF⟩,
   ⟨0x400A003C, 4, 1, 0x0, 0x0, 0x0, 0x0, 0x0, 0x0, 0x0, 0xFFFFFFFF⟩,
   ⟨0x400A0100, 32, 24, 0x0, 0x9FFFFFFF, 0x0, 0x0, 0x0, 0x0, 0x0, 0x0⟩,
   ⟨0x400A0104, 32, 24, 0x0, 0xBFBF, 0x0, 0x0, 0x0, 0x0, 0x0, 0x0⟩] ++
  [⟨0x400A0108, 32, 24, 0x0, 0xFFF07FF, 0x0, 0x0, 0x0, 0x0, 0x0, 0x0⟩,
   ⟨0x400A010C, 32, 24, 0xAAAAB, 0xFFFFFF, 0x0, 0x0, 0x0, 0x0, 0x0, 0x0⟩,
   ⟨0x400A0110, 32, 24, 0x0, 0x0, 0x0, 0x0, 0x0, 0x0, 0x0, 0xFFFFFF⟩,
   ⟨0x400A0400, 4, 64, 0x0, 0x0, 0x0, 0x0, 0x0, 0x0, 0x0, 0xFFFFFFFF⟩,
   ⟨0x400A0500, 4, 64, 0x0, 0x0, 0x0, 0x0, 0x0, 0x0, 0x0, 0xFFFFFFFF⟩,
   ⟨0x400A8000, 4, 8192, 0x0, 0xFFFFFFFF, 0x0, 0x0, 0x0, 0x0, 0x0, 0x0⟩,
   ⟨0x400B0000, 4, 8192, 0x0, 0x0, 0x0, 0x0, 0x0, 0x0, 0x0, 0xFFFFFFFF⟩]

/-- The register rows of block ADC. -/
def rowsADC : List RegRow :=
  [⟨0x400F0000, 64, 4, 0xFFF0020, 0xFFF003F, 0x0, 0x0, 0x0, 0x0, 0x0, 0x0⟩,
   ⟨0x400F0004, 64, 4, 0x0, 0x0, 0x3000000, 0x0, 0x0, 0x0, 0x0, 0xFFFFFF⟩,
   ⟨0x400F0008, 64, 4, 0x0, 0x0, 0x0, 0x0, 0x0, 0x0, 0x0, 0xFFFFFFFF⟩,
   ⟨0x400F000C, 64, 4, 0x0, 0xFFFF000F, 0x0, 0x0, 0x0, 0x0, 0x0, 0x0⟩,
   ⟨0x400F0010, 64, 4, 0x0, 0x0, 0x0, 0x0, 0x0, 0x0, 0x0, 0x8FFF⟩,
   ⟨0x400F0014, 64, 4, 0x0, 0x0, 0x0, 0x0, 0x0, 0x0, 0x0, 0x8FFF⟩,
   ⟨0x400F0018, 64, 4, 0x0, 0x0, 0x0, 0x0, 0x0, 0x0, 0x0, 0x8FFF⟩,
   ⟨0x400F001C, 64, 4, 0x0, 0x0, 0x0, 0x0, 0x0, 0x0, 0x0, 0x8FFF⟩,
   ⟨0x400F0100, 4, 1, 0x0, 0xFFFF, 0x0, 0x0, 0x0, 0x0, 0x0, 0x0⟩]

/-- The register rows of block DRV. -/
def rowsDRV : List RegRow :=
  [⟨0x400C0000, 4, 1, 0x4, 0x1F, 0x0, 0x0, 0x100, 0x0, 0x0, 0x0⟩,
   ⟨0x400C0004, 4, 1, 0x1, 0x0, 0x18, 0x0, 0x0, 0x0, 0x0, 0xE7⟩,
   ⟨0x400C0008, 4, 1, 0x1F4, 0x3FF, 0x0, 0x0, 0x0, 0x0, 0x0, 0x0⟩,
   ⟨0x400C000C, 4, 1, 0x0, 0x0, 0x0, 0x0, 0x0, 0x0, 0x0, 0x3FF⟩,
   ⟨0x400C0010, 4, 1, 0x4060258, 0xF0F03FF, 0x0, 0x0, 0x0, 0x0, 0x0, 0x0⟩,
   ⟨0x400C0014, 4, 1, 0x3C8C78, 0xFFFFFF, 0x0, 0x0, 0x0, 0x0, 0x0, 0x0⟩,
   ⟨0x400C0018, 4, 1, 0x0, 0x0, 0x0, 0x0, 0x0, 0x0, 0x0, 0xFFFFFFFF⟩,
   ⟨0x400C0020, 4, 1, 0xA03E8, 0x1FFFFFF, 0x0, 0x0, 0x0, 0x0, 0x0, 0x0⟩,
   ⟨0x400C0024, 4, 1, 0x17D19, 0xFFFF, 0x0, 0x0, 0x0, 0x0, 0x0, 0x10000⟩,
   ⟨0x400C0028, 4, 1, 0x14281E, 0xFFFFFF, 0x0, 0x0, 0x0, 0x0, 0x0, 0x0⟩,
   ⟨0x400C0030, 4, 2, 0x0, 0x0, 0x0, 0x0, 0x0, 0x0, 0x0, 0x7FFFFFF⟩,
   ⟨0x400C0038, 4, 1, 0x1B588C, 0xFFFFFF, 0x0, 0x0, 0x0, 0x0, 0x0, 0x0⟩,
   ⟨0x400C0040, 4, 8, 0x1400, 0xFF07, 0x0, 0x0, 0x0, 0x0, 0x0, 0x0⟩,
   ⟨0x400C0060, 4, 8, 0x0, 0x0, 0xF000000, 0x0, 0x0, 0x0, 0x0, 0x103F077F⟩,
   ⟨0x400C0100, 16, 48, 0x20008, 0xFFFF1F, 0x0, 0x0, 0x0, 0x0, 0x0, 0x0⟩,
   ⟨0x400C0104, 16, 48, 0x80, 0x0, 0xF, 0x0, 0x0, 0x0, 0x0, 0x7FF0⟩] ++
  [⟨0x400C0108, 16, 48, 0x0, 0x0, 0x0, 0x0, 0x0, 0x0, 0x0, 0xFFFFFFFF⟩,
   ⟨0x400C0400, 16, 4, 0xF5A01F4, 0xFFFFFFFF, 0x0, 0x0, 0x0, 0x0, 0x0, 0x0⟩,
   ⟨0x400C0404, 16, 4, 0x3E801F4, 0xFFFFFFFF, 0x0, 0x0, 0x0, 0x0, 0x0, 0x0⟩,
   ⟨0x400C0408, 16, 4, 0xC80064, 0xFFFFFFFF, 0x0, 0x0, 0x0, 0x0, 0x0, 0x0⟩,
   ⟨0x400C040C, 16, 4, 0x50AA9B8C, 0x7FFFFFFF, 0x0, 0x0, 0x0, 0x0, 0x0, 0x0⟩]

/-- The register rows of block PRF. -/
def rowsPRF : List RegRow :=
  [⟨0x400D0000, 4, 1, 0x0, 0x0, 0x0, 0x0, 0xFFFF, 0x0, 0x0, 0x0⟩,
   ⟨0x400D0004, 4, 1, 0x0, 0x0, 0xFFFF, 0x0, 0x0, 0x0, 0x0, 0x0⟩,
   ⟨0x400D0100, 32, 16, 0x1500, 0x7F01, 0x0, 0x0, 0x0, 0x0, 0x0, 0x0⟩,
   ⟨0x400D0400, 32, 16, 0x1500, 0x0, 0x0, 0x0, 0x0, 0x0, 0x0, 0x7F01⟩,
   ⟨0x400D0104, 32, 16, 0x646410, 0xFFFF3F, 0x0, 0x0, 0x0, 0x0, 0x0, 0x0⟩,
   ⟨0x400D0404, 32, 16, 0x646410, 0x0, 0x0, 0x0, 0x0, 0x0, 0x0, 0xFFFF3F⟩,
   ⟨0x400D0108, 32, 16, 0x0, 0x3FFFFFFF, 0x0, 0x0, 0x0, 0x0, 0x0, 0x0⟩,
   ⟨0x400D0408, 32, 16, 0x0, 0x0, 0x0, 0x0, 0x0, 0x0, 0x0, 0x3FFFFFFF⟩,
   ⟨0x400D010C, 32, 16, 0x0, 0x3FFFFFFF, 0x0, 0x0, 0x0, 0x0, 0x0, 0x0⟩,
   ⟨0x400D040C, 32, 16, 0x0, 0x0, 0x0, 0x0, 0x0, 0x0, 0x0, 0x3FFFFFFF⟩,
   ⟨0x400D0110, 32, 16, 0x0, 0x3FFFFFFF, 0x0, 0x0, 0x0, 0x0, 0x0, 0x0⟩,
   ⟨0x400D0410, 32, 16, 0x0, 0x0, 0x0, 0x0, 0x0, 0x0, 0x0, 0x3FFFFFFF⟩,
   ⟨0x400D0114, 32, 16, 0x0, 0x3FFFFFFF, 0x0, 0x0, 0x0, 0x0, 0x0, 0x0⟩,
   ⟨0x400D0414, 32, 16, 0x0, 0x0, 0x0, 0x0, 0x0, 0x0, 0x0, 0x3FFFFFFF⟩,
   ⟨0x400D0118, 32, 16, 0x6, 0x3FFFFFFF, 0x0, 0x0, 0x0, 0x0, 0x0, 0x0⟩,
   ⟨0x400D0418, 32, 16, 0x6, 0x0, 0x0, 0x0, 0x0, 0x0, 0x0, 0x3FFFFFFF⟩] ++
  [⟨0x400D011C, 32, 16, 0x0, 0x3FFFFC00, 0x0, 0x0, 0x0, 0x0, 0x0, 0x0⟩,
   ⟨0x400D041C, 32, 16, 0x0, 0x0, 0x0, 0x0, 0x0, 0x0, 0x0, 0x3FFFFC00⟩,
   ⟨0x400D0800, 4, 48, 0x0, 0x0, 0x0, 0x0, 0x0, 0x0, 0x0, 0xFFFFF3F⟩]

/-- The register rows of block WIT. -/
def rowsWIT : List RegRow :=
  [⟨0x400E0000, 4, 1, 0x1F00, 0x1F07, 0x0, 0x0, 0x0, 0x0, 0x0, 0x0⟩,
   ⟨0x400E0004, 4, 1, 0x0, 0x0, 0x7, 0x0, 0x0, 0x0, 0x0, 0x18⟩,
   ⟨0x400E0008, 4, 1, 0x0, 0x0, 0x0, 0x0, 0x0, 0x0, 0x0, 0xFFFFFFFF⟩,
   ⟨0x400E000C, 4, 1, 0x0, 0x0, 0x0, 0x0, 0x0, 0x0, 0x0, 0xFFFF3FFF⟩,
   ⟨0x400E0010, 4, 1, 0xFF0F0000, 0xFFFF0001, 0x0, 0x0, 0x0, 0x0, 0x0, 0x0⟩,
   ⟨0x400E0014, 4, 1, 0x32400F03, 0xFFFF0F0F, 0x0, 0x0, 0x0, 0x0, 0x0, 0x0⟩,
   ⟨0x400E0018, 4, 1, 0x64, 0xFFFF, 0x0, 0x0, 0x0, 0x0, 0x0, 0x0⟩,
   ⟨0x400E001C, 4, 1, 0x0, 0x3F, 0x80000000, 0x40000000, 0x0, 0x0, 0x0, 0x0⟩,
   ⟨0x400E0020, 4, 1, 0x0, 0x0, 0x0, 0x0, 0x0, 0x0, 0x0, 0xFFFFFFFF⟩,
   ⟨0x400E0024, 4, 1, 0x0, 0x0, 0x0, 0x0, 0x0, 0x0, 0x0, 0xFFFFFFFF⟩,
   ⟨0x400E0028, 4, 1, 0x0, 0x0, 0x0, 0x0, 0x0, 0x0, 0x0, 0xFFFFFFFF⟩,
   ⟨0x400E0040, 4, 8, 0x0, 0x0, 0x0, 0x0, 0x0, 0x0, 0x0, 0xFFFFFFFF⟩,
   ⟨0x400E0100, 16, 16, 0x27100000, 0xFFFFFFFF, 0x0, 0x0, 0x0, 0x0, 0x0, 0x0⟩,
   ⟨0x400E0104, 16, 16, 0x40201010, 0xFFFFFF3F, 0x0, 0x0, 0x0, 0x0, 0x0, 0x0⟩,
   ⟨0x400E0108, 16, 16, 0xBB80000, 0xFFFFFFFF, 0x0, 0x0, 0x0, 0x0, 0x0, 0x0⟩,
   ⟨0x400E010C, 16, 16, 0x40040008, 0xFFFF003F, 0x0, 0x0, 0x0, 0x0, 0x0, 0x0⟩] ++
  [⟨0x400E0200, 16, 48, 0x800, 0xFFFF0F01, 0x0, 0x0, 0x0, 0x0, 0x0, 0x0⟩,
   ⟨0x400E0204, 16, 48, 0x0, 0xFFFF, 0x0, 0x0, 0x0, 0x0, 0x0, 0x0⟩,
   ⟨0x400E0208, 16, 48, 0x0, 0x0, 0x1, 0x0, 0x0, 0x0, 0x0, 0xFFFFF002⟩,
   ⟨0x400E020C, 16, 48, 0xFFFFF, 0x0, 0x0, 0x0, 0x0, 0x0, 0x0, 0xFFFFF⟩]

/-- The register rows of block FLO. -/
def rowsFLO : List RegRow :=
  [⟨0x40100000, 4, 1, 0x1000, 0x1F01, 0x0, 0x0, 0x0, 0x0, 0x0, 0x0⟩,
   ⟨0x40100004, 4, 1, 0x0, 0x1FF0FFF, 0x0, 0x0, 0x0, 0x0, 0x0, 0x0⟩,
   ⟨0x40100008, 4, 1, 0x0, 0x0, 0x0, 0x0, 0x0, 0x0, 0x0, 0x70F⟩,
   ⟨0x4010000C, 4, 1, 0x0, 0x0, 0x0, 0x0, 0x0, 0x0, 0x0, 0xFFFFFFFF⟩,
   ⟨0x40100020, 16, 4, 0x10, 0x3B, 0x0, 0x0, 0x0, 0x0, 0x0, 0x0⟩,
   ⟨0x40100024, 16, 4, 0x0, 0x0, 0x0, 0x0, 0x0, 0x0, 0x0, 0xFFF0007⟩,
   ⟨0x40100028, 16, 4, 0x0, 0x0, 0x0, 0x0, 0x0, 0x0, 0x0, 0xFFFFF⟩,
   ⟨0x4010002C, 16, 4, 0x0, 0x0, 0x0, 0x0, 0x0, 0x0, 0x0, 0xFFFFFFFF⟩,
   ⟨0x40100060, 4, 1, 0x1234A0, 0xFFFFFFF1, 0x0, 0x0, 0x0, 0x0, 0x0, 0x0⟩,
   ⟨0x40100064, 4, 1, 0x0, 0x0, 0x0, 0x0, 0x0, 0x0, 0x0, 0xFFFFFFFF⟩,
   ⟨0x40100068, 4, 1, 0x0, 0x0, 0x0, 0x0, 0x0, 0x0, 0x0, 0xFFFFFFFF⟩,
   ⟨0x4010006C, 4, 1, 0x0, 0x0, 0x0, 0x0, 0x0, 0x0, 0x0, 0xFFFFFFFF⟩,
   ⟨0x40100070, 4, 1, 0x0, 0x0, 0x0, 0x0, 0x0, 0x0, 0x0, 0x10FFF⟩,
   ⟨0x40100074, 4, 1, 0x0, 0x0, 0x0, 0x0, 0x0, 0x0, 0x0, 0xFFFFFFFF⟩,
   ⟨0x40100080, 4, 1, 0x1E14, 0xCFFFFFFF, 0x0, 0x0, 0x0, 0x0, 0x0, 0x0⟩,
   ⟨0x40100084, 4, 1, 0x14020404, 0xFFFFFFFF, 0x0, 0x0, 0x0, 0x0, 0x0, 0x0⟩] ++
  [⟨0x40100088, 4, 1, 0x0, 0x0, 0x3040, 0x0, 0x0, 0x0, 0x0, 0xFF0FBF⟩,
   ⟨0x4010008C, 4, 1, 0xA000000, 0xFF000000, 0x0, 0x0, 0x0, 0x0, 0x0, 0xFFFFFF⟩,
   ⟨0x40100090, 4, 1, 0x0, 0x0, 0x0, 0x0, 0x0, 0x0, 0x0, 0xFF⟩,
   ⟨0x401000A0, 4, 1, 0x10A00, 0x8F1FFF00, 0x0, 0x0, 0x0, 0x0, 0x0, 0x0⟩,
   ⟨0x401000A4, 4, 1, 0x2, 0x0, 0x0, 0x0, 0x0, 0x0, 0x0, 0x1F0007⟩,
   ⟨0x401000A8, 4, 1, 0x0, 0x0, 0x0, 0x0, 0x0, 0x0, 0x0, 0xFFFF⟩,
   ⟨0x401000AC, 4, 1, 0x0, 0x0, 0x0, 0x0, 0x0, 0x0, 0x0, 0xFFFFFFFF⟩,
   ⟨0x401000B0, 4, 1, 0x0, 0x0, 0x0, 0x0, 0x0, 0x0, 0x0, 0xFFFF⟩,
   ⟨0x401000C0, 4, 8, 0x0, 0xFFF0FFF, 0x0, 0x0, 0x0, 0x0, 0x0, 0x0⟩,
   ⟨0x40100400, 4, 256, 0x0, 0xFFFFFFFF, 0x0, 0x0, 0x0, 0x0, 0x0, 0x0⟩,
   ⟨0x40100800, 4, 64, 0x0, 0xFFFFFFFF, 0x0, 0x0, 0x0, 0x0, 0x0, 0x0⟩]

/-- The register rows of block PKT. -/
def rowsPKT : List RegRow :=
  [⟨0x40110000, 4, 1, 0x64, 0xFFFF, 0x0, 0x0, 0x0, 0x0, 0x0, 0x0⟩,
   ⟨0x40110004, 4, 1, 0x0, 0x0, 0x0, 0x0, 0x0, 0x0, 0x0, 0xFFFFFFFF⟩,
   ⟨0x40110008, 4, 1, 0x0, 0x0, 0x0, 0x0, 0x0, 0x0, 0x0, 0x1FF07⟩]

/-- The register rows of block HST. -/
def rowsHST : List RegRow :=
  [⟨0x40110020, 4, 1, 0x3, 0x3, 0x0, 0x0, 0x0, 0x0, 0x0, 0x0⟩,
   ⟨0x40110024, 4, 1, 0x0, 0x0, 0x0, 0x0, 0x0, 0x0, 0x0, 0xFFFFFF03⟩,
   ⟨0x40110040, 32, 2, 0x46500126, 0xFFFF0FF7, 0x0, 0x0, 0x0, 0x0, 0x0, 0x0⟩,
   ⟨0x40110044, 32, 2, 0xC700000, 0x1FFF0FFF, 0x0, 0x0, 0x0, 0x0, 0x0, 0x0⟩,
   ⟨0x40110048, 32, 2, 0x0, 0x0, 0x0, 0x0, 0x0, 0x0, 0x0, 0xFFFFFF03⟩,
   ⟨0x40110080, 4, 1, 0x80000, 0xFFFF03, 0x0, 0x0, 0x0, 0x0, 0x0, 0x0⟩,
   ⟨0x40110084, 4, 1, 0x0, 0xFFFFFFFF, 0x0, 0x0, 0x0, 0x0, 0x0, 0x0⟩,
   ⟨0x40110088, 4, 1, 0x0, 0xFFFF, 0x0, 0x0, 0x0, 0x0, 0x0, 0x0⟩,
   ⟨0x4011008C, 4, 1, 0x0, 0x0, 0x0, 0x0, 0x0, 0x0, 0x0, 0xFFFF0003⟩,
   ⟨0x40110100, 4, 1, 0x0, 0x0, 0x0, 0x0, 0x0, 0x0, 0x0, 0xFFFFFFFF⟩,
   ⟨0x40110104, 4, 1, 0x0, 0xFFFFFFFF, 0x0, 0x0, 0x0, 0x0, 0x0, 0x0⟩,
   ⟨0x40110108, 4, 1, 0x0, 0xFFFFFFFF, 0x0, 0x0, 0x0, 0x0, 0x0, 0x0⟩,
   ⟨0x4011010C, 4, 1, 0x0, 0xFFFF, 0x0, 0x0, 0x0, 0x0, 0x0, 0x0⟩,
   ⟨0x40110110, 4, 1, 0x0, 0xFFFFFFFF, 0x0, 0x0, 0x0, 0x0, 0x0, 0x0⟩,
   ⟨0x40110114, 4, 1, 0x0, 0xFFFFFFFF, 0x0, 0x0, 0x0, 0x0, 0x0, 0x0⟩,
   ⟨0x40110118, 4, 1, 0x0, 0x0, 0xFFFFFFFF, 0x0, 0x0, 0x0, 0x0, 0x0⟩]

/-- The register rows of block SEC. -/
def rowsSEC : List RegRow :=
  [⟨0x40120000, 4, 1, 0xC0, 0x0, 0x700, 0x0, 0x0, 0x0, 0x0, 0x8FD⟩,
   ⟨0x40120004, 4, 1, 0x6600000, 0x0, 0x0, 0x0, 0x0, 0x0, 0x0, 0x7700111⟩,
   ⟨0x40120008, 4, 1, 0x0, 0x0, 0x0, 0x0, 0x0, 0x0, 0x0, 0xFFFFFFFF⟩,
   ⟨0x4012000C, 4, 1, 0x0, 0x0, 0x0, 0x0, 0x0, 0x0, 0x0, 0x7F⟩,
   ⟨0x40120010, 4, 1, 0x0, 0x0, 0x0, 0x0, 0x0, 0x0, 0x0, 0xFFFFFFFF⟩,
   ⟨0x40120014, 4, 1, 0x0, 0x0, 0x0, 0x0, 0x0, 0x0, 0x0, 0xFFFF⟩,
   ⟨0x40120020, 4, 8, 0x0, 0x0, 0x0, 0x0, 0x0, 0x0, 0x0, 0xFFFFFFFF⟩,
   ⟨0x40120040, 4, 12, 0x0, 0x0, 0x0, 0x0, 0x0, 0x0, 0x0, 0xFFFFFFFF⟩]

/-- The register rows of block PWR. -/
def rowsPWR : List RegRow :=
  [⟨0x40020000, 4, 1, 0x0, 0x0, 0x0, 0x0, 0x0, 0x0, 0x0, 0xF87⟩,
   ⟨0x40020004, 4, 1, 0x0, 0x0, 0x0, 0x0, 0x0, 0x0, 0x0, 0xFFFFFFFF⟩,
   ⟨0x40020010, 4, 1, 0x78258B4, 0x3FFFFFFF, 0x0, 0x0, 0x0, 0x0, 0x0, 0x0⟩,
   ⟨0x40020014, 4, 1, 0x4615464, 0x3FFFFFFF, 0x0, 0x0, 0x0, 0x0, 0x0, 0x0⟩,
   ⟨0x40020018, 4, 1, 0x4B1405, 0x7FFF1F, 0x0, 0x0, 0x0, 0x0, 0x0, 0x0⟩,
   ⟨0x4002001C, 4, 1, 0x0, 0x0, 0x0, 0x0, 0x0, 0x7, 0x0, 0xFFFF0000⟩,
   ⟨0x40020020, 4, 1, 0x2080000, 0x3FF0000, 0x0, 0x0, 0x0, 0x0, 0x0, 0x0⟩,
   ⟨0x40020024, 4, 1, 0x0, 0x0, 0x3, 0x0, 0x0, 0x0, 0x0, 0x0⟩,
   ⟨0x40020030, 4, 1, 0x1, 0x0, 0xFF, 0x0, 0x0, 0x0, 0x0, 0xF00⟩,
   ⟨0x40020040, 4, 1, 0x207, 0x7FF, 0x0, 0x0, 0x0, 0x0, 0x0, 0x0⟩,
   ⟨0x40020044, 4, 1, 0xA0501, 0xFFFFFF, 0x0, 0x0, 0x0, 0x0, 0x0, 0x0⟩,
   ⟨0x40020048, 4, 1, 0x0, 0x0, 0x0, 0x0, 0x0, 0x0, 0x0, 0x7FF⟩,
   ⟨0x4002004C, 4, 1, 0x0, 0xFFFFFF, 0x0, 0x0, 0x0, 0x0, 0x0, 0x0⟩,
   ⟨0x40020050, 4, 1, 0x0, 0x0, 0x0, 0x0, 0x1, 0x0, 0x0, 0x0⟩]

/-- The register rows of block CLK. -/
def rowsCLK : List RegRow :=
  [⟨0x40010000, 4, 1, 0x2, 0x0, 0x138, 0x0, 0x0, 0x0, 0x0, 0xCE07⟩,
   ⟨0x40010004, 4, 1, 0x54461A8, 0xFFFFFFF, 0x0, 0x0, 0x0, 0x0, 0x0, 0x0⟩,
   ⟨0x40010008, 4, 1, 0x14, 0xFF, 0x0, 0x0, 0x0, 0x0, 0x0, 0x0⟩,
   ⟨0x4001000C, 4, 1, 0x0, 0x3, 0x0, 0x0, 0x0, 0x0, 0x0, 0x0⟩,
   ⟨0x40010010, 4, 1, 0x140040, 0xFF03FF, 0x0, 0x0, 0x0, 0x0, 0x0, 0x0⟩,
   ⟨0x40010014, 4, 1, 0x2000, 0xFF1F, 0x0, 0x0, 0x0, 0x0, 0x0, 0x0⟩,
   ⟨0x40010018, 4, 1, 0x0, 0x3FFFF, 0x0, 0x0, 0x0, 0x0, 0x0, 0x0⟩,
   ⟨0x4001001C, 4, 1, 0x0, 0x11F, 0x0, 0x0, 0x0, 0x0, 0x0, 0x0⟩,
   ⟨0x40010020, 4, 1, 0x100, 0x1F0707, 0x80000000, 0x0, 0x1000000, 0x0, 0x0, 0x40000000⟩,
   ⟨0x40010024, 4, 1, 0x0, 0x0, 0x0, 0x0, 0x0, 0x0, 0x0, 0xFFFFFFFF⟩,
   ⟨0x40010028, 4, 1, 0xFFFF, 0x0, 0x0, 0x0, 0x0, 0x0, 0x0, 0xFFFFFFFF⟩]

/-- The register rows of block IRQ. -/
def rowsIRQ : List RegRow :=
  [⟨0x40030000, 4, 1, 0x0, 0x707, 0x0, 0x0, 0x0, 0x0, 0x0, 0x0⟩,
   ⟨0x40030004, 4, 1, 0x0, 0x0, 0x1, 0x0, 0x0, 0x0, 0x0, 0xFF00⟩,
   ⟨0x40030010, 16, 2, 0x0, 0x0, 0x0, 0x0, 0x0, 0x0, 0x0, 0x1FF⟩,
   ⟨0x40030014, 16, 2, 0x0, 0x0, 0x0, 0x0, 0x1, 0x0, 0x0, 0x0⟩,
   ⟨0x40030018, 16, 2, 0x0, 0x0, 0x0, 0x0, 0x0, 0x0, 0x0, 0xFFFF⟩,
   ⟨0x40030040, 16, 2, 0x0, 0x0, 0x0, 0x0, 0x0, 0x0, 0x0, 0xF1FF⟩,
   ⟨0x40030044, 16, 2, 0x0, 0x3, 0x0, 0x0, 0x0, 0x0, 0x0, 0x100⟩,
   ⟨0x40030080, 4, 16, 0x1, 0xFFFF00FF, 0x0, 0x0, 0x0, 0x0, 0x0, 0xFF00⟩,
   ⟨0x400300C0, 4, 8, 0x0, 0x80FF80FF, 0x0, 0x0, 0x0, 0x0, 0x0, 0x0⟩,
   ⟨0x40030100, 4, 8, 0x0, 0x0, 0xFFFFFFFF, 0x0, 0x0, 0x0, 0x0, 0x0⟩,
   ⟨0x40030120, 4, 8, 0x0, 0x0, 0xFFFFFFFF, 0x0, 0x0, 0x0, 0x0, 0x0⟩,
   ⟨0x40030400, 4, 256, 0xF0, 0x1FF3, 0x0, 0x0, 0x0, 0x0, 0x0, 0x0⟩,
   ⟨0x40030800, 4, 256, 0xF0, 0x1FF3, 0x0, 0x0, 0x0, 0x0, 0x0, 0x0⟩]

/-- The register rows of block DMA. -/
def rowsDMA : List RegRow :=
  [⟨0x40040000, 4, 1, 0x0, 0x0, 0x0, 0x0, 0x0, 0x0, 0x0, 0xFFFFFFFF⟩,
   ⟨0x40040100, 64, 16, 0x10520, 0xFFFF8F31, 0x0, 0x0, 0x0, 0x0, 0x0, 0x0⟩,
   ⟨0x40040104, 64, 16, 0x0, 0x0, 0x0, 0x0, 0x0, 0x0, 0xFFFFFFFF, 0x0⟩,
   ⟨0x40040108, 64, 16, 0x0, 0x0, 0x0, 0x0, 0x0, 0x0, 0xFFFFFFFF, 0x0⟩,
   ⟨0x4004010C, 64, 16, 0x0, 0x0, 0x0, 0x0, 0x0, 0x0, 0x1FFFFFF, 0x0⟩,
   ⟨0x40040110, 64, 16, 0x0, 0x0, 0x0, 0x0, 0x0, 0x0, 0xFFFFFFFF, 0x0⟩,
   ⟨0x40040114, 64, 16, 0x0, 0xFFFFFFFF, 0x0, 0x0, 0x0, 0x0, 0x0, 0x0⟩,
   ⟨0x40040118, 64, 16, 0x0, 0xFFFFFFFF, 0x0, 0x0, 0x0, 0x0, 0x0, 0x0⟩,
   ⟨0x40040120, 64, 16, 0x0, 0xFFFFFFFF, 0x0, 0x0, 0x0, 0x0, 0x0, 0x0⟩,
   ⟨0x4004011C, 64, 16, 0x0, 0x1FFFFFF, 0x0, 0x0, 0x0, 0x0, 0x0, 0x0⟩,
   ⟨0x40040124, 64, 16, 0x0, 0x0, 0x0, 0x1, 0x0, 0x0, 0x0, 0x0⟩,
   ⟨0x40040128, 64, 16, 0x0, 0xFFFF, 0x0, 0x0, 0x0, 0x0, 0x0, 0xFFFF0000⟩,
   ⟨0x4004012C, 64, 16, 0x0, 0x0, 0x6, 0x0, 0x0, 0x0, 0x0, 0xFF01⟩,
   ⟨0x40040130, 64, 16, 0x0, 0x0, 0xF, 0x0, 0x0, 0x0, 0x0, 0x0⟩,
   ⟨0x40040134, 64, 16, 0x0, 0x0, 0x0, 0x0, 0x0, 0x0, 0x0, 0xFFFFFFFF⟩]

/-- The register rows of block TIM. -/
def rowsTIM : List RegRow :=
  [⟨0x40050000, 4, 1, 0x0, 0x0, 0x0, 0x0, 0x8000FFFF, 0x0, 0x0, 0x0⟩,
   ⟨0x40050004, 4, 1, 0x0, 0x0, 0x0, 0x0, 0xFFFF, 0x0, 0x0, 0x0⟩,
   ⟨0x40050008, 4, 1, 0x0, 0x0, 0x0, 0x0, 0x0, 0x0, 0x0, 0xFFFF⟩,
   ⟨0x40050100, 64, 16, 0x0, 0x1F000001, 0x0, 0x0, 0x0, 0x0, 0xDFF0EE, 0x0⟩,
   ⟨0x40050104, 64, 16, 0x0, 0x0, 0x0, 0x0, 0x0, 0x0, 0xFFFFFFFF, 0x0⟩,
   ⟨0x40050108, 64, 16, 0xFFFFFFFF, 0xFFFFFFFF, 0x0, 0x0, 0x0, 0x0, 0x0, 0x0⟩,
   ⟨0x4005010C, 64, 16, 0xFFFFFFFF, 0xFFFFFFFF, 0x0, 0x0, 0x0, 0x0, 0x0, 0x0⟩,
   ⟨0x40050110, 64, 16, 0x0, 0xFFFFFFFF, 0x0, 0x0, 0x0, 0x0, 0x0, 0x0⟩,
   ⟨0x40050114, 64, 16, 0x0, 0x0, 0x0, 0x0, 0x0, 0x0, 0x0, 0xFFFFFFFF⟩,
   ⟨0x40050118, 64, 16, 0x0, 0x0, 0x380, 0x0, 0x0, 0x0, 0x0, 0xC07⟩,
   ⟨0x4005011C, 64, 16, 0x0, 0x0, 0x0, 0x0, 0x0, 0x0, 0x0, 0xFFFFFFFF⟩,
   ⟨0x40050120, 64, 16, 0x0, 0x0, 0x0, 0x0, 0x0, 0x0, 0xFFFF, 0x0⟩]

/-- The register rows of block PAT. -/
def rowsPAT : List RegRow :=
  [⟨0x40060000, 16384, 2, 0xFFFF0000, 0x0, 0x0, 0x0, 0x0, 0x0, 0x0, 0xFFFFFFFF⟩,
   ⟨0x40060004, 16384, 2, 0x0, 0xFFFFFFFF, 0x0, 0x0, 0x0, 0x0, 0x0, 0x0⟩,
   ⟨0x40060008, 16384, 2, 0x0, 0x0, 0x0, 0xFFFF, 0x0, 0x0, 0x0, 0x0⟩,
   ⟨0x40060100, 64, 16, 0x0, 0x1, 0x0, 0x0, 0x6, 0x0, 0x0, 0x0⟩,
   ⟨0x40064100, 64, 16, 0x0, 0x1, 0x0, 0x0, 0x6, 0x0, 0x0, 0x0⟩,
   ⟨0x40060104, 64, 16, 0x0, 0x0, 0x0, 0x0, 0x0, 0x0, 0xEC3F01FF, 0x0⟩,
   ⟨0x40064104, 64, 16, 0x0, 0x0, 0x0, 0x0, 0x0, 0x0, 0xEC3F01FF, 0x0⟩,
   ⟨0x40060108, 64, 16, 0x0, 0x0, 0x0, 0x0, 0x0, 0x0, 0x1F1F3F1F, 0x0⟩,
   ⟨0x40064108, 64, 16, 0x0, 0x0, 0x0, 0x0, 0x0, 0x0, 0x1F1F3F1F, 0x0⟩,
   ⟨0x4006010C, 64, 16, 0x200, 0x0, 0x7C00, 0x0, 0x0, 0x0, 0x0, 0xFFF783FF⟩,
   ⟨0x4006410C, 64, 16, 0x200, 0x0, 0x7C00, 0x0, 0x0, 0x0, 0x0, 0xFFF783FF⟩,
   ⟨0x40060110, 64, 16, 0x0, 0x0, 0x0, 0x0, 0xFFFFFFFF, 0x0, 0x0, 0x0⟩,
   ⟨0x40064110, 64, 16, 0x0, 0x0, 0x0, 0x0, 0xFFFFFFFF, 0x0, 0x0, 0x0⟩,
   ⟨0x40060114, 64, 16, 0x0, 0x0, 0x0, 0x0, 0x0, 0x0, 0x0, 0xFFFFFFFF⟩,
   ⟨0x40064114, 64, 16, 0x0, 0x0, 0x0, 0x0, 0x0, 0x0, 0x0, 0xFFFFFFFF⟩,
   ⟨0x40060118, 64, 16, 0x0, 0x0, 0x0, 0x0, 0x0, 0x0, 0xFFFFFFFF, 0x0⟩] ++
  [⟨0x40064118, 64, 16, 0x0, 0x0, 0x0, 0x0, 0x0, 0x0, 0xFFFFFFFF, 0x0⟩,
   ⟨0x4006011C, 64, 16, 0x0, 0x0, 0x0, 0x0, 0x0, 0x0, 0xFF, 0x0⟩,
   ⟨0x4006411C, 64, 16, 0x0, 0x0, 0x0, 0x0, 0x0, 0x0, 0xFF, 0x0⟩,
   ⟨0x40060120, 64, 16, 0x0, 0x0, 0x0, 0x0, 0x0, 0x0, 0xFFFFFFFF, 0x0⟩,
   ⟨0x40060124, 64, 16, 0x0, 0x0, 0x0, 0x0, 0x0, 0x0, 0xFFFFFFFF, 0x0⟩,
   ⟨0x40060128, 64, 16, 0x0, 0x0, 0x0, 0x0, 0x0, 0x0, 0xFFFFFFFF, 0x0⟩,
   ⟨0x4006012C, 64, 16, 0x0, 0x0, 0x0, 0x0, 0x0, 0x0, 0xFFFFFFFF, 0x0⟩,
   ⟨0x40064120, 64, 16, 0x0, 0x0, 0x0, 0x0, 0x0, 0x0, 0xFFFFFFFF, 0x0⟩,
   ⟨0x40064124, 64, 16, 0x0, 0x0, 0x0, 0x0, 0x0, 0x0, 0xFFFFFFFF, 0x0⟩,
   ⟨0x40064128, 64, 16, 0x0, 0x0, 0x0, 0x0, 0x0, 0x0, 0xFFFFFFFF, 0x0⟩,
   ⟨0x4006412C, 64, 16, 0x0, 0x0, 0x0, 0x0, 0x0, 0x0, 0xFFFFFFFF, 0x0⟩,
   ⟨0x40061000, 4, 512, 0x0, 0xFFFF, 0x0, 0x0, 0x0, 0x0, 0x0, 0x0⟩,
   ⟨0x40065000, 4, 512, 0x0, 0xFFFF, 0x0, 0x0, 0x0, 0x0, 0x0, 0x0⟩]

/-- The register rows of block TST. -/
def rowsTST : List RegRow :=
  [⟨0x40130000, 4, 1, 0x0, 0x0, 0x0, 0x0, 0x0, 0x0, 0x0, 0x73F⟩,
   ⟨0x40130004, 4, 1, 0x0, 0x0, 0x0, 0x0, 0x0, 0x0, 0x0, 0xFFFFFFFF⟩,
   ⟨0x40130008, 4, 1, 0x0, 0x0, 0x0, 0x0, 0x0, 0x0, 0x0, 0xFFFFFFFF⟩,
   ⟨0x40130010, 4, 1, 0x0, 0x0, 0x0, 0x0, 0x0, 0x0, 0x0, 0xFFFFFFFF⟩,
   ⟨0x40130014, 4, 1, 0x0, 0x0, 0x0, 0x0, 0x0, 0x0, 0x0, 0xF3F1FFFF⟩,
   ⟨0x40130018, 4, 1, 0x0, 0x0, 0x0, 0x0, 0x0, 0x0, 0x0, 0xFFFFF⟩,
   ⟨0x40130020, 4, 16, 0x0, 0x0, 0x0, 0x0, 0x0, 0x0, 0x0, 0x8001FFFF⟩]

/-- The rows of the block whose window (R421) holds the address. -/
def rowsAt (a : Nat) : List RegRow :=
  if a < 0x40000000 then [] else
  if a < 0x40010000 then rowsSYS else
  if a < 0x40020000 then rowsCLK else
  if a < 0x40030000 then rowsPWR else
  if a < 0x40040000 then rowsIRQ else
  if a < 0x40050000 then rowsDMA else
  if a < 0x40060000 then rowsTIM else
  if a < 0x40080000 then rowsPAT else
  if a < 0x40090000 then rowsWHL else
  if a < 0x400A0000 then rowsTRK else
  if a < 0x400C0000 then rowsSCH else
  if a < 0x400D0000 then rowsDRV else
  if a < 0x400E0000 then rowsPRF else
  if a < 0x400F0000 then rowsWIT else
  if a < 0x40100000 then rowsADC else
  if a < 0x40110000 then rowsFLO else
  if a < 0x40120000 then rowsHST ++ rowsPKT else
  if a < 0x40130000 then rowsSEC else
  if a < 0x40140000 then rowsTST else
  []

/-- Whether the row holds the register at the address. -/
def rowCovers (r : RegRow) (a : Nat) : Bool :=
  r.base ≤ a && (a - r.base) % r.stride == 0 && (a - r.base) / r.stride < r.count

/-- The row of the register at the address; `none` where the address names no register (R421: reserved). -/
def regRow (a : Nat) : Option RegRow := (rowsAt a).find? (fun r => rowCovers r a)

/-- The reset value of the register at the address (0 where the address names no register). -/
def regReset (a : Nat) : Word :=
  match regRow a with
  | some r => BitVec.ofNat 32 r.reset
  | none => 0

end Sys2Proof.Machine
end

