-- ==== Sys2Proof/Machine/State.lean ====
section
/-! DEFINITION. The state of the machine: every register, FIFO, buffer, counter, mode and pin the manual gives the device, the
queue of commands that wait, and the state right after reset. Register contents live in `regs`, by address; the structures hold
what no register shows. -/

namespace Sys2Proof.Machine

/-- Why a command may stop the machine. No meaning of this model raises a fault: the manual gives every command of its table an
effect, and an access it forbids ends in a bus error, which is an effect too (R423). Raised by nothing; safe. -/
inductive Fault where
  /-- An access that the manual says has no place at all. Raised by no meaning; safe. -/
  | noSuchPlace
  deriving DecidableEq, Repr

/-- Why a command is refused by the model. -/
inductive Refusal where
  /-- A command that has no meaning yet. Raised by an arm of `exec` alone; safe. -/
  | notModelled (mnemonic : String)
  deriving DecidableEq, Repr

/-- An edge on its way from a wheel input to a tracker: its stamp (1/16 tick), its direction, its polarity (falling), the tick
at which it becomes available, whether it is a direction change of the edge with that stamp (R33, R40, R43, R49), and WHL_WIN.WIN as it
stood at the crossing (R39). -/
structure WheelEdge where
  stamp : Nat := 0
  reverse : Bool := false
  falling : Bool := false
  avail : Nat := 0
  relabel : Bool := false
  win : Nat := 0
  deriving DecidableEq, Repr

/-- A mark seen while searching: the length of a gap, or an extra tooth with its fraction in 256ths; and the number of teeth
counted at the first tooth after it (R63–R65). -/
inductive Mark where
  | gap (len : Nat) (teeth : Nat)
  | extra (frac : Nat) (teeth : Nat)
  deriving DecidableEq, Repr

/-- A recorded cam edge: the crank edges accepted before it, the time since the last of them, and its polarity (R67). -/
structure CamSeen where
  edges : Nat := 0
  since : Nat := 0
  falling : Bool := false
  /-- The interval in which it fell, once closed (for its fraction f); 0 while open. -/
  interval : Nat := 0
  deriving DecidableEq, Repr

/-- One tracker (R58–R90): what its TRK registers do not show. Times are in units of 1/16 tick. -/
structure Trk where
  /-- The accumulator: 24 integer and 32 fraction bits (R58). -/
  acc : Nat := 0
  /-- The rate, UQ8.32 au per tick (R58). -/
  rate : Nat := 0
  /-- The cycle count (R58). -/
  cycle : Nat := 0
  /-- A forward wrap not yet acted on by CYCLE_WRAP (R58, R79, R92). -/
  wrapPend : Bool := false
  crankQ : List WheelEdge := []
  camQ : List WheelEdge := []
  /-- Stamp of the last accepted edge of any kind, which a direction change may name (R43, R85). -/
  lastStamp : Nat := 0
  /-- Stamp of the last accepted edge of a tooth, and of the one before it (R43, R63, R85). -/
  stamp : Nat := 0
  prevStamp : Nat := 0
  /-- When the last crank edge was accepted, in ticks of `now` (R61). -/
  edgeAt : Nat := 0
  /-- The accepted intervals T_last and T_prev with their spans; 0 when none (R63, R77). -/
  tLast : Nat := 0
  tPrev : Nat := 0
  sLast : Nat := 0
  sPrev : Nat := 0
  /-- Cycle index of the tooth of the last accepted crank edge, once positions are known (R74). -/
  lastIdx : Nat := 0
  /-- The last accepted crank edge was a reverse one (R85). -/
  wasReverse : Bool := false
  /-- Crank edges accepted since the search, or the PRESET, began (R61, R63). -/
  edges : Nat := 0
  /-- Teeth counted since the search began (R65). -/
  teeth : Nat := 0
  /-- A candidate gap awaiting its confirmation: its estimated L and its interval (R63). -/
  cand : Option (Nat × Nat) := none
  marks : List Mark := []
  /-- Recorded cam edges, oldest first, at most 8 (R67). -/
  cams : List CamSeen := []
  /-- Teeth counted between the last cam edges, latest first, with polarity, for a cam sequence (R66). -/
  camSeq : List (Nat × Bool) := []
  teethAtCam : Nat := 0
  /-- A preset stands ready for this tracker (R88, R89). -/
  preset : Bool := false
  /-- No cam edge in PRESET has contradicted the preset revolution (R90). -/
  camOk : Bool := false
  /-- Extra teeth already passed in the present interval (R73). -/
  extras : Nat := 0
  /-- In PRESET, T_a of the expected extra tooth of the present interval (R64, R90); 0 when none has come. -/
  extraTa : Nat := 0
  /-- The state COAST was entered from (R61, R443). -/
  coastFrom : Nat := 0
  /-- The return from COAST fixes the revolution: what to add to N (R443). -/
  coastFix : Option Nat := none
  failRun : Nat := 0
  flips : Nat := 0
  /-- Net forward rotation since the last cam edge, au × 2^32 (R69). -/
  camRot : Int := 0
  /-- Health events of the present cycle (R92). -/
  healthNow : Nat := 0
  /-- The count of the last completed cycle; 255 before the first (R92). -/
  health : Nat := 255
  fallback : Bool := false
  goodRun : Nat := 0
  /-- The model's prediction of the open interval, as a quotient; denominator 0 when there is none (R78). -/
  tModelNum : Nat := 0
  tModelDen : Nat := 0
  /-- The present and the whole previous cycle met the conditions of R80 on state and edges. -/
  cleanNow : Bool := false
  cleanPrev : Bool := false
  /-- Every edge of the present cycle has met the conditions of R80 (R82). -/
  learnNow : Bool := false
  /-- Intervals of the present cycle whose entry was updated (R81). -/
  updates : Nat := 0
  /-- Cycles counted toward training, per bucket (R81). -/
  trainCnt : Sparse Nat := []
  /-- Stamps of the present cycle's teeth, latest first: cycle index and stamp (R82). -/
  stamps : List (Nat × Nat) := []
  /-- When the last cycle wrap came, in 1/16 ticks, and the duration of the cycle before it (R82), 0 when none. -/
  wrapAt : Nat := 0
  prevDur : Nat := 0
  /-- Speed-model entries K, key 1024 × bucket + index, UQ2.14 (R77); default 0x4000 (R81). -/
  kTab : Sparse Nat := []
  /-- A follower's angle error still to be worked off, and how much each tick works off, in 2^-32 au (R234). -/
  corrLeft : Int := 0
  corrRate : Nat := 0
  /-- Profile entries by index, two's complement of 16 bits (R71); default 0. -/
  profile : Sparse Nat := []
  /-- SRC = 1: SHOT_OK as the last EDGE cell gave it (R234). -/
  cellOk : Bool := false
  deriving DecidableEq, Repr

/-- What a tracker was before its last edge, until something else changes it (R43, R85): the edge, the tracker's record and registers
(by address), and the voter's runs with TRK_DIFF and DISAGREE, so that a direction change with that stamp re-labels the edge. -/
structure TrkBefore where
  edge : WheelEdge := {}
  trk : Trk := {}
  regs : List (Nat × Word) := []
  overRun : Nat := 0
  agreeRun : Nat := 0
  disagree : Bool := false
  deriving DecidableEq, Repr

/-- The voter and the output angle (R91–R95), the net-rotation meter (R115). -/
structure Voter where
  /-- d of R94, in 2^-32 au: what the output angle stands ahead of the selected tracker. -/
  slew : Int := 0
  /-- Samples in a row beyond AGREE, and within it (R91). -/
  overRun : Nat := 0
  agreeRun : Nat := 0
  /-- A forward wrap of TRK_OUT not yet acted on (R116). -/
  outWrap : Bool := false
  /-- Net rotation of TRK_OUT, forward positive, in 2^-32 au (R115). -/
  meter : Int := 0
  /-- The last rate of TRK_OUT that was not zero (R118). -/
  lastRate : Nat := 0
  /-- TRK_OUT as the last passage of time left it (R376). -/
  outSeen : Nat := 0
  deriving DecidableEq, Repr

/-- One wheel input (R29–R43): what its WHL registers do not show. Stamps are in units of 1/16 TCLK tick (R33). -/
structure WhlInput where
  /-- Accepted edges since the input started or since a silence of 200 ms, up to 3 (R36). -/
  count : Nat := 0
  /-- Stamp of the last accepted edge (R34). -/
  stamp : Nat := 0
  /-- The last two accepted intervals, latest first (R36). -/
  int1 : Nat := 0
  int2 : Nat := 0
  /-- The comparator level before the tick of its last change, and that tick (R41). -/
  levelBefore : Bool := false
  levelAt : Nat := 0
  /-- The tick by which the return of a dropped change comes; 0 for none (R35). -/
  returnBy : Nat := 0
  /-- Previous VR peak in mV; 0 once cleared (R30, R31). -/
  prevPeak : Nat := 0
  /-- When the VR input last armed (R31), and when an armed crossing last came (R52). -/
  armedAt : Nat := 0
  crossedAt : Nat := 0
  /-- Consecutive VR peaks below 2 × VR_MIN (R52). -/
  lowRun : Nat := 0
  /-- A pulse-width measurement is running, from the stamp `stamp` (R42); WHL_PW as it stood at that edge (R39). -/
  measuring : Bool := false
  pw : Word := 0
  /-- The diagnostic causes that persist, as WHL_STATn bits 8–12 (R52). -/
  causes : Nat := 0
  deriving DecidableEq, Repr

/-- The wheel simulator (R54–R56): the fraction of its angle in 2^-28 au, the way behind it on which it has not yet produced the
edges, when its rate last stepped, the crank teeth still to omit, and where the inserted edge stands. `travel` is the whole way gone in
2^-28 au, and `ends` holds where on it a pulse ends: the input, and whether its level falls there. `again` holds the requests of
WHL_SIM_FLT written while one of the same kind stood, in the tick `againAt`. `peak` is the peak in mV of the half-wave that a VR input
sees at analog depth. -/
structure WhlSim where
  frac : Nat := 0
  behind : Nat := 0
  extraAt : Option Nat := none
  stepAt : Nat := 0
  dropLeft : Nat := 0
  travel : Nat := 0
  ends : List (Nat × Nat × Bool) := []
  again : Nat := 0
  againAt : Nat := 0
  peak : Nat := 0
  deriving DecidableEq, Repr

/-- A shot, as its slot descriptor gave it when it fired (R101), with what the scheduler decided since. -/
structure Shot where
  slot : Nat := 0
  cyl : Nat := 0
  ch : Nat := 0
  cls : Nat := 0
  start : Nat := 0
  /-- END and END_MODE: a duration in 10 ns units, or an angle. -/
  timeEnd : Bool := false
  endVal : Nat := 0
  profile : Nat := 0
  irqStart : Bool := false
  irqEnd : Bool := false
  noCorr : Bool := false
  line : Nat := 0
  /-- The start was late, within its guard, and by how much, in au (R117). -/
  late : Bool := false
  lam : Nat := 0
  /-- The tick in which the shot reached its start (R122). -/
  firedAt : Nat := 0
  /-- It runs the battery-only variant (R191). -/
  batt : Bool := false
  deriving DecidableEq, Repr

/-- A profile copy: the eight words PRFn_CFG to PRFn_BATT (R194). -/
structure Profile where
  cfg : Word := 0
  reg : Word := 0
  boost : Word := 0
  peak : Word := 0
  drop : Word := 0
  hold : Word := 0
  fin : Word := 0
  batt : Word := 0
  deriving DecidableEq, Repr

/-- One output channel (R175–R192): what DRV_CHn_STAT and PRF_CHn_STAT do not show. The phase stands in
DRV_CHn_STAT.PHASE. -/
structure Chan where
  shot : Option Shot := none
  prof : Profile := {}
  /-- When the present phase was entered, and when the shot started at the coil terminal (R178, R179). -/
  phaseAt : Nat := 0
  startAt : Nat := 0
  /-- When the shot ends by time, once that is fixed (R118). -/
  endAt : Option Nat := none
  /-- The first decision of the shot, from which its 10 ns grid counts (R179). -/
  gridAt : Nat := 0
  /-- The claim on the bank's battery high-side since the last phase change, in units of 7.8125 mA (R143). -/
  claim : Nat := 0
  /-- The low-side switch, and when it last changed (R183). -/
  lowSide : Bool := false
  lowAt : Nat := 0
  /-- The phase's entry decay is over: the current has reached the lower threshold (R185). -/
  chopping : Bool := false
  /-- The falling current runs through the recovery path (FAST decay) (R185, R186). -/
  fastDecay : Bool := false
  /-- The switch states are held for a handover (R250). -/
  held : Bool := false
  /-- The open-load check of the shot has been made or is disabled (R152). -/
  openDone : Bool := false
  /-- The outcome the shot carries (R27, R123). -/
  outcome : Nat := 0
  /-- Coil model temperatures in 10^-9 °C (R167). -/
  tw : Int := 0
  tb : Int := 0
  /-- Off-state tests in a row that found the channel good (R154). -/
  goodTests : Nat := 0
  /-- When OBS_DRIVE last rose and fell, in ticks of `now` (R203). -/
  obsRise : Option Nat := none
  obsFall : Option Nat := none
  /-- TRK_OUT at the last OBS_DRIVE rise (R203). -/
  obsAngle : Nat := 0
  /-- An opening has been detected since NO_MOTION set (R206). -/
  motionSeen : Bool := false
  /-- Coil temperatures saved to the always-on domain (R167, R318). -/
  savedTw : Int := 0
  savedTb : Int := 0
  deriving DecidableEq, Repr

/-- One bank: its boost queue and its off-state test (R122, R155). -/
structure Bank where
  queue : List Shot := []
  /-- Step 1 or 2 of the off-state test in progress; 0 none. -/
  testStep : Nat := 0
  testAt : Nat := 0
  /-- Readings of step 1, in mV, in channel order. -/
  reads : List Nat := []
  /-- When the last test of the bank began; none before the first. -/
  lastTest : Option Nat := none
  /-- Until when FOREIGN is masked (R160). -/
  maskUntil : Nat := 0
  /-- From which tick the boost phase may be granted again after a protection turned its holder off (R148). -/
  freeAt : Nat := 0
  deriving DecidableEq, Repr

/-- The output stage as a whole: the boost converter and the ambient timer (R161–R168). -/
structure DrvState where
  /-- When BOOST_EN last rose, for the ramp of the input limit (R161). -/
  boostAt : Nat := 0
  /-- When charging began (R165). -/
  chargeAt : Nat := 0
  /-- When VBOOST last fell below DRV_VBOOSTMIN (R165). -/
  lowAt : Nat := 0
  /-- When DRV_AMB.AMB was last written (R168). -/
  ambAt : Nat := 0
  /-- When the coil models were last stepped (R167). -/
  coilAt : Nat := 0
  /-- Banks whose off-state test has completed in the present round (R174, source 142). -/
  round : Nat := 0
  /-- When the last off-state test of any bank began (R155: the stagger). -/
  staggerAt : Nat := 0
  /-- The failure to charge within 50 ms has been reported since charging or the low voltage began (R165). -/
  failTold : Bool := false
  /-- The tick of each profile's last apply, and its active copy before that tick (R194). -/
  applied : Sparse (Option (Nat × Profile)) := []
  /-- Channels that have been active in the witness round since the coil models' last step (R167, R196). -/
  wasActive : Nat := 0
  /-- The angle outputs AOUT0–AOUT15 (R105). -/
  aout : Nat := 0
  deriving DecidableEq, Repr

/-- A witness record before its close (R197): the fields that are known when the shot starts or is decided. -/
structure OpenRec where
  slot : Nat := 0
  cyl : Nat := 0
  ch : Nat := 0
  cls : Nat := 0
  outcome : Nat := 0
  fault : Nat := 0
  cmdStart : Nat := 0
  profile : Nat := 0
  actStart : Nat := 0
  cycle : Nat := 0
  startTime : Nat := 0
  boostEnd : Nat := 0
  endTime : Nat := 0
  flags : Nat := 0
  corrD : Nat := 0
  /-- Ticks of `now`: the shot's start, its END entry and its END completion. -/
  startedAt : Nat := 0
  endAt : Option Nat := none
  doneAt : Option Nat := none
  /-- The highest sample may be counted up to here: the first END or HOLD entry (PEAK_I). -/
  peakUntil : Option Nat := none
  /-- The close window has ended, or was cut short (R199). -/
  windowOver : Bool := false
  /-- When the next shot's start cut the close window short (R199). -/
  cutAt : Option Nat := none
  /-- The record has no closing detection (R199). -/
  noClose : Bool := false
  /-- It is a standby record, built from observation (R203). -/
  standby : Bool := false
  /-- A standby record: when its slot fired, that a rise of OBS_DRIVE belongs to it, and that its shot is an expected one (R203,
  R256). -/
  firedAt : Nat := 0
  seen : Bool := false
  expect : Bool := false
  deriving DecidableEq, Repr

/-- The counts of the present cycle, and of a snapshot COM has not yet taken (R212). -/
structure CycleCounts where
  ncyc : Nat := 0
  cycle : Nat := 0
  /-- Sum of the cycles' mean speeds, 0.25 rpm. -/
  speed : Nat := 0
  state : Nat := 0
  calv : Nat := 0
  role : Nat := 0
  counts : List Nat := List.replicate 12 0
  worstLate : Nat := 0
  worstWait : Nat := 0
  anom : Nat := 0
  vboostMin : Nat := 1023
  twMax : Int := -1000000000000
  recSeq : Nat := 0
  recN : Nat := 0
  /-- Sum of the records' ENERGY in µJ. -/
  energy : Int := 0
  deriving DecidableEq, Repr

/-- The witness and the moraine log (R195–R216). -/
structure WitState where
  /-- Records open, by channel; and records due to close with their samples, oldest first (R199). -/
  opened : Sparse (List OpenRec) := []
  /-- The record ring: sequence number and the 48 bytes, newest first, at most 8,192 (R208). -/
  ring : List (Nat × List Byte) := []
  /-- Sequence numbers of the records awaiting streaming, oldest first. -/
  unsent : List Nat := []
  /-- Those of them that closed before calving last let the stream go on, which goes on without them (R210). -/
  passedOver : List Nat := []
  now : CycleCounts := {}
  /-- When the present cycle began, and the cycle's start for its mean speed (R212). -/
  cycleAt : Nat := 0
  snap : Option CycleCounts := none
  /-- A digest has been stored since reset (RESUME), and a digest failed to store (CHAIN_GAP). -/
  resumed : Bool := false
  gap : Bool := false
  /-- The chain: INDEX of the last stored digest and H of it (R213). -/
  index : Nat := 0
  head : List Byte := []
  /-- The chain as WIT_MORL last latched it is in the registers; the captured waveform (R211). -/
  capturing : Option Nat := none
  /-- When calving ended the capture, whose pairs come with the record (R332). -/
  waveCut : Option Nat := none
  wave : List Sample := []
  waveCh : Nat := 0
  deriving DecidableEq, Repr

/-- The scheduler (R98–R135): what its registers do not show. -/
structure SchState where
  /-- The meter at each slot's last start; none before the first (R115). -/
  meterAt : Sparse (Option Int) := []
  /-- Slots that a commit held back for the next wrap (R108). -/
  heldBack : List Nat := []
  /-- Cylinders whose latch angle TRK_OUT has reached, and whose prepare angle it has reached, not yet acted on (R107, R129). -/
  latchPend : Nat := 0
  /-- Armed slots whose start TRK_OUT has reached while firing was permitted, not yet acted on (R114). -/
  firePend : List Nat := []
  /-- The tick in which each slot of `firePend` reached its start (R25, R106). -/
  fireTick : Sparse Nat := []
  prepPend : Nat := 0
  /-- Cylinders the loss-of-host withdrawal has reached (R23). -/
  withdrawn : Nat := 0
  /-- Governor integrator in 0.1 mm³, Q16.16; the last quantity; and whether it has been started (R134). -/
  govI : Int := 0
  govQ : Nat := 0
  /-- When the last prepare event came, the output angle then, and the net-rotation meter, which tells the cycles between, for the mean
  speed over the firing interval (R132). -/
  prepAt : Nat := 0
  prepAngle : Nat := 0
  prepMeter : Int := 0
  /-- Cylinders whose last commit found them enabled (R98, R99). -/
  live : Nat := 0
  /-- A refresh has come since the last wrap (R135). -/
  refreshed : Bool := false
  /-- The present withdrawal of R135 has been reported (AUTO_OUT, source 69). -/
  autoOut : Bool := false
  /-- A shot has started since the last cycle wrap of tracker 0 (bit 0), of tracker 1 (bit 1) (R82). -/
  firedIn : Nat := 0
  deriving DecidableEq, Repr

/-- One angle-domain converter (R136–R138). -/
structure AdcState where
  fifo : List Word := []
  /-- The burst in progress: input, window end, period in ticks, conversions begun. -/
  burst : Option (Nat × Nat × Nat × Nat) := none
  burstAt : Nat := 0
  /-- A conversion slot of the burst in progress has gone by (R136). -/
  begun : Bool := false
  /-- Results stored after the burst's newest one, none while the FIFO holds no result of the burst (R136). -/
  newer : Option Nat := none
  /-- The inputs of the SAMPLEs that wait for a conversion, oldest first (R137). -/
  samples : List Nat := []
  skipNext : Bool := false
  ovrNext : Bool := false
  scanAt : Nat := 0
  scanNext : Nat := 0
  deriving DecidableEq, Repr

/-- The interrupt controller (R356–R363): what the IRQ registers do not show. Targets: 0 SUP, 1 COM, 2 HOST_INT0,
3 HOST_INT1. -/
structure IrqState where
  /-- The latched winner of each target: the source number plus 1, or 0 with nothing latched (R359). -/
  latch : Sparse Nat := []
  /-- The events each coalescing group holds, oldest first (R362). -/
  held : Sparse (List Nat) := []
  /-- When each group's first held event came (R362). -/
  since : Sparse Nat := []
  deriving DecidableEq, Repr

/-- Supplies, reset and Frost (R312–R333): what PWR_STAT and the other PWR registers do not show. -/
structure PwrState where
  /-- Reset is held (R312). -/
  inReset : Bool := false
  /-- The control die has been at 175 °C and has not since fallen below 160 °C (R312). -/
  tsd : Bool := false
  /-- VBAT has stayed above the C6 threshold plus HYST for the last 1 ms (R312, R326). -/
  vbatHeld : Bool := false
  /-- VBAT lies above VBAT_OV, or has not yet stayed at or below it for 1 ms (R315, R444). -/
  vbatOver : Bool := false
  /-- VAON was last reported below 2.40 V for 10 ms (R315). -/
  vaonLow : Bool := false
  /-- VAON as last reported, in 10 mV (R311). -/
  vaon : Nat := 0
  /-- The always-on domain has lost its supply since the last BOOT (R318); the present THAW is a wake from Frost (R294). -/
  aonLost : Bool := false
  woke : Bool := false
  /-- When the present calving stage was entered (R331). -/
  stageAt : Nat := 0
  /-- SLEEP has been accepted and not yet committed (R319, R320). -/
  sleepReq : Bool := false
  /-- The wake sources that count as pending since SLEEP was accepted (R320). -/
  wakeSeen : Nat := 0
  /-- Wake sources held by R326. -/
  wakeHeld : Nat := 0
  /-- The present Frost was entered at stage C6 (R323, R326). -/
  frostFromC6 : Bool := false
  /-- When the last Frost was entered (R325). -/
  frostAt : Nat := 0
  /-- FAULT's level held in Frost: released (R321). -/
  heldFault : Bool := false
  /-- POL of HOST_INT0 and HOST_INT1 held in Frost (R361). -/
  heldPol : Nat := 0
  /-- WHL_CFG and WHL_PW of the input TRK_FROST.IN, which the frost tracker uses in Frost (R87). -/
  frostCfg : Word := 0
  frostPw : Word := 0
  /-- What the always-on domain keeps of the wake detectors' settings: the ports with WAKE_EN (R220), the edge enables of GP0–GP3 (R364). -/
  floWake : Nat := 0
  gpioRise : Nat := 0
  gpioFall : Nat := 0
  /-- At C6: until when the drive waits for a handover (R333 step 1). -/
  c6Wait : Option Nat := none
  /-- At C6: when the device quenched (R333 step 2). -/
  c6Quench : Option Nat := none
  /-- The highest stage reached in the present cycle (R332; digest). -/
  cycleStage : Nat := 0
  deriving DecidableEq, Repr

/-- What the DVFS sequencer is doing (R349). -/
inductive DvfsPhase where
  | idle
  /-- A divider step has been made and lasts DWELL cycles of the new SCLK. -/
  | dwell
  /-- VCORE moves at 10 mV/µs toward the voltage named, in mV. -/
  | ramp (mv : Nat)
  /-- VCORE settles for VSETTLE. -/
  | settle
  deriving DecidableEq, Repr

/-- A clock mux and the input it switches to (R343). -/
inductive MuxSwitch where
  | refToXtal
  | refToIrc
  | sclkToSpll
  | sclkToIrc
  deriving DecidableEq, Repr

/-- Clocks (R336–R354): what the CLK registers do not show. -/
structure ClkState where
  /-- When THAW began (R340, R341). -/
  thawAt : Nat := 0
  /-- Judge windows passed in a row (R339). -/
  judgeRun : Nat := 0
  /-- The SPLL divider D (R337). -/
  d : Nat := 0
  /-- VCORE in mV (R316). -/
  vcore : Nat := 0
  phase : DvfsPhase := .idle
  /-- When the present DVFS step began. -/
  stepAt : Nat := 0
  /-- SCLK runs from the IRC (R337, R346). -/
  sclkIrc : Bool := false
  /-- The mux switches in progress, oldest first (R343). -/
  switching : List MuxSwitch := []
  /-- The spread setting in force; CLK_SPREAD holds the one written (R348). -/
  spreadNow : Word := 0
  /-- The frequency-measuring counter has a window open (R354). -/
  fmcOpen : Bool := false
  /-- No window has ended since START. -/
  fmcFirst : Bool := false
  /-- The always-on domain runs from XLF (R347). -/
  onXlf : Bool := false
  /-- When TPLL lost lock, while it has not been held for 100 µs since (R345). -/
  tpllLost : Bool := false
  deriving DecidableEq, Repr

/-- The last SHOT cell of a channel (R243, R246, R253). -/
structure ShotCell where
  slot : Nat := 0
  profile : Nat := 0
  phase : Nat := 0
  outcome : Nat := 0
  batt : Bool := false
  timeEnd : Bool := false
  sp : Nat := 0
  tStart : Nat := 0
  tPhase : Nat := 0
  endVal : Nat := 0
  /-- No cell gave it: the drag's own arbitration did, in the observed-drive rule (R256). -/
  virtual : Bool := false
  deriving DecidableEq, Repr

/-- A standby MAIN under the observed-drive rule (R256): whether the drag would serve it and whether its record closed ABSENT, once each is
known. -/
structure Expected where
  ch : Nat := 0
  slot : Nat := 0
  firedAt : Nat := 0
  served : Option Bool := none
  absent : Option Bool := none
  deriving DecidableEq, Repr

/-- A handover in progress (R248–R250). -/
structure Handover where
  reason : Nat := 0
  /-- Domain time T_H. -/
  th : Nat := 0
  accepted : Bool := false
  /-- The steps of R250 done: 0 none, 1 held, 2 ARB asserted, 3 released. -/
  step : Nat := 0
  /-- This device gives up the drive. -/
  giving : Bool := false
  deriving DecidableEq, Repr

/-- One Floe port (R219, R224, R230). -/
structure FloPort where
  queue : List Cell := []
  /-- When the cell being sent has left. -/
  busyUntil : Nat := 0
  /-- The last delay exchanges, latest first, at most 4. -/
  delays : List Nat := []
  exchAt : Nat := 0
  /-- The 64 bytes last put on the wire (R221, R224). -/
  sent : List Byte := []
  /-- Cells that the port began to send and ended with an invalid code group (R223). -/
  ended : Nat := 0
  deriving DecidableEq, Repr

/-- A packet being reassembled from CMD cells, or LOG cells when `log` (R280): next segment, bytes so far, when the last came. -/
structure Reasm where
  src : Nat := 0
  tag : Nat := 0
  log : Bool := false
  next : Nat := 0
  bytes : List Byte := []
  since : Nat := 0
  deriving DecidableEq, Repr

/-- The Floe block (R218–R262): what its registers do not show. -/
structure FloState where
  ports : Sparse FloPort := []
  /-- SEQ of the next cell sent, per type (R221). -/
  seqOut : Sparse Nat := []
  /-- Per SRC: SEQ of the last BC cell accepted plus 1, and when (R226). -/
  bcSeen : Sparse (Nat × Nat) := []
  /-- Domain time: the own count and the master's time at the last SYNC cell, and the last frequency ratio (R229–R231). -/
  syncOwn : Nat := 0
  syncMaster : Nat := 0
  ratioNum : Nat := 0
  ratioDen : Nat := 0
  syncAt : Nat := 0
  syncGood : Nat := 0
  /-- When a SYNC cell of a lower-ID candidate was last heard (R232), and when this master last sent one. -/
  lowerAt : Nat := 0
  syncSentAt : Nat := 0
  /-- The last EDGE cell: T_A and T_NEXT, and the cells missed since (R234). -/
  edgeTA : Nat := 0
  edgeTNext : Nat := 0
  edgeSeen : Bool := false
  edgeMissed : Nat := 0
  /-- Cells in a row beyond DAGREE, and within it (R235). -/
  disRun : Nat := 0
  agrRun : Nat := 0
  /-- When ARB was last seen to become free, and the pair's partner report (R239–R241). -/
  arbFreeAt : Nat := 0
  hbAt : Nat := 0
  hbSentAt : Nat := 0
  pArbOwn : Bool := false
  pFaultCh : Nat := 0
  pFaultBank : Nat := 0
  arbBad : Nat := 0
  /-- When CFG_MATCH last became 0 (R258). -/
  cfgBadAt : Nat := 0
  /-- A valid host packet has come since the last HEART cell was sent (R241). -/
  hostOk : Bool := false
  handover : Option Handover := none
  holdoffUntil : Nat := 0
  /-- SEQ of the next MIRROR cell expected plus 1 (0: any), and the cells of the full copy received (R245). -/
  mirrorNext : Nat := 0
  copyCount : Nat := 0
  /-- Cells of a full copy still to send, and the cells sent that the drag counts (R245). -/
  copyQ : List (List Byte) := []
  copySent : Nat := 0
  /-- By cylinder (R244): n + 1 when its own latch passed at tick n and no COMMIT cell has come; 0 when the cell came first. -/
  latchWait : Sparse (Option Nat) := []
  shotCells : Sparse (Option ShotCell) := []
  /-- Expected shots in a row that closed ABSENT (R256), the standby MAINs not yet judged in fire order, and the standby shots that wait for
  the drag's own grant. -/
  absentRun : Nat := 0
  expectQ : List Expected := []
  virtualQ : List Shot := []
  /-- When the ARB line last came to read free: the channels on which the cope was seen to drive in the tick before it went free, and those
  that stood above VBOOST then (R252). -/
  freeLow : Nat := 0
  freeAbove : Nat := 0
  thermAt : Nat := 0
  /-- Per voter slot: when its VOTE cell last came (none: never), AUTH, EPOCH (R260). -/
  voteAt : Sparse (Option Nat) := []
  voteEpoch : Sparse Nat := []
  /-- The node that sent the slot's cell (R260). -/
  voteSrc : Sparse Nat := []
  voteAuth : Nat := 0
  voteSentAt : Nat := 0
  /-- Settings waiting for a wrap: register address and word (R262). -/
  adopt : List (Nat × Word) := []
  adoptEpoch : Nat := 0
  /-- Cells taken in for this node and not yet acted on, with the port each came by, oldest first. -/
  inq : List (Nat × Cell) := []
  /-- Packets being reassembled from CMD and LOG cells (R280). -/
  reasm : List Reasm := []
  deriving DecidableEq, Repr

/-- The answer of the last bus access: its data, whether it ended in a bus error (R423), and the status of a refused write
(R425): STATE_FORBIDS or OUT_OF_RANGE, else 0. -/
structure BusAns where
  data : Word := 0
  err : Bool := false
  status : Nat := 0
  deriving DecidableEq, Repr

/-- Operating states, loss of host, restarts, BENCH (R13–R24, R395, R396): what the SYS registers do not show. -/
structure SysState where
  /-- When KEY was last read released; none while it is asserted (R17). -/
  keyOffAt : Option Nat := none
  /-- When REARM_WAIT was last set (R17). -/
  rearmAt : Nat := 0
  /-- When the last valid host packet came (R22), and when HOST_LOST was last set (R23). -/
  hostAt : Nat := 0
  lostAt : Nat := 0
  /-- Cycle wraps of TRK_OUT in the loss-of-host ramp, TRK_OUT at its start, and that the ramp or withdrawal has ended (R23). -/
  rampCycles : Nat := 0
  rampFrom : Nat := 0
  rampDone : Bool := false
  /-- When SUP's comparison last failed (R13), and that SUP or COM is restarting. -/
  supAt : Option Nat := none
  supDown : Bool := false
  comDown : Bool := false
  /-- The stored calibration failed its check at load (R444). -/
  calibBad : Bool := false
  /-- A verified image runs (R446). -/
  verified : Bool := false
  /-- The registers as they stood at BENCH entry (R396). -/
  benchRegs : Sparse Word := []
  /-- The stop angle has been saved since SHUTDOWN was entered (R15). -/
  stopSaved : Bool := false
  /-- SEAL_A and SEAL_B have read equal since this time (R300). -/
  sealEqAt : Option Nat := none
  deriving DecidableEq, Repr

/-- A packet that has passed checks 1 and 2 of R267. -/
structure Packet where
  flags : Nat := 0
  seq : Nat := 0
  opcode : Nat := 0
  payload : List Byte := []
  /-- The source MAC address of a packet that came over 10BASE-T1S; the node of one that came over Floe (R279, R281). -/
  source : List Byte := []
  deriving DecidableEq, Repr

/-- An entry of a port's sequence window, and the reply once it is made (R268). -/
structure WinEntry where
  seq : Nat := 0
  reply : Option (List Byte) := none
  deriving DecidableEq, Repr

/-- A fragmented transfer open on a port (R269). -/
structure Transfer where
  opcode : Nat := 0
  data : List Byte := []
  since : Nat := 0
  deriving DecidableEq, Repr

/-- One host port: 0 SPI, 1 CAN0, 2 CAN1, 3 10BASE-T1S, 4 Floe (R268–R271, R281). -/
structure HostPort where
  inq : List Packet := []
  /-- Packets to send, oldest first, with where they go: a MAC address, a node, or nothing on the other ports. -/
  outq : List (List Byte × List Byte) := []
  /-- The window, newest first. -/
  window : List WinEntry := []
  notice : Nat := 0
  transfer : Option Transfer := none
  /-- Replies to packets answered on arrival, oldest first: how many packets of `inq` are handled before each, where it goes, and its
  bytes; with 0 it waits for room (R271). -/
  late : List (Nat × List Byte × List Byte) := []
  deriving DecidableEq, Repr

/-- A CAN frame as the device sends it (R276–R278): its 29-bit identifier, FD or classic, bit-rate switch, data field. -/
structure CanFrame where
  ident : Nat
  fd : Bool
  brs : Bool
  data : List Byte
  deriving DecidableEq, Repr

/-- A job (R270, R285): the request it answers, what it carries, and its presence state. -/
structure Job where
  id : Nat := 0
  opcode : Nat := 0
  seq : Nat := 0
  flags : Nat := 0
  port : Nat := 0
  source : List Byte := []
  data : List Byte := []
  startAt : Nat := 0
  /-- 0 needs no presence or has shown it, 1 waits for the close, 2 waits for the reopening (R285). -/
  presence : Nat := 0
  deriving DecidableEq, Repr

/-- A packet being reassembled from CAN frames (R277). -/
structure CanPart where
  bytes : List Byte := []
  next : Nat := 0
  since : Nat := 0
  deriving DecidableEq, Repr

/-- The host ports (R264–R289): what the HST registers do not show. -/
structure HstState where
  ports : Sparse HostPort := []
  /-- The fast path's queue, with each packet's port (R124, R271). -/
  fpq : List (Nat × Packet) := []
  jobs : List Job := []
  /-- The job ID last given, and the final status plus 1 of every ended job (R270). -/
  lastJob : Nat := 0
  ended : Sparse Nat := []
  canPart : Sparse (Option CanPart) := []
  /-- What the device shifted out on SPI_MISO in the last transfer (R272–R274). -/
  spiOut : List Byte := []
  /-- By controller: the CAN frames that carried the last packet sent (R276–R278). -/
  canOut : Sparse (List CanFrame) := []
  regErr : Bool := false
  /-- The levels that stand outside on GP0–GP31. -/
  gpioExt : Nat := 0
  /-- The levels that stand outside at the pins of WHL0–WHL3, before POL (log entry 32). -/
  wheelExt : Nat := 0
  /-- The levels at KEY (bit 0), STOPREQ (1), START (2) and WAKE (3) as last reported, which stand through reset and Frost
  (log entry 34). -/
  discExt : Nat := 0
  /-- The pin levels as last sampled, for the edges of R380 and of HST_GPIO_IFLAG. -/
  gpioSeen : Nat := 0
  /-- Tag of the next packet sent in CMD cells (R280). -/
  tag : Nat := 0
  /-- Who asked for the stream: port and address (R209). -/
  streamPort : Nat := 0
  streamTo : List Byte := []
  /-- An IMAGE_ACTIVATE job has ended: when the device resets (R296). -/
  resetAt : Option Nat := none
  deriving DecidableEq, Repr

/-- The SEC block and its system store (R290–R308, R420), which survive reset and Frost; the store's copies of tables and
settings. -/
structure SecState where
  active : Nat := 0
  trial : Bool := false
  attempt : Bool := false
  /-- Customer key records by slot, bytes 0–419 (R306). -/
  keys : Sparse (List Byte) := []
  /-- The moraine epoch (R213). -/
  epoch : Nat := 0
  /-- The current half of the calibration store (R302). -/
  calHalf : Nat := 0
  /-- Rollback fuses blown (R297). -/
  fuses : Nat := 0
  /-- The measurement retained in the always-on domain; empty when it holds none (R294). -/
  retained : List Byte := []
  /-- The device serial number, and the certificates, objects 0–3 of R299. -/
  serial : List Byte := []
  certs : Sparse (List Byte) := []
  /-- Object 16: the last attestation report with its signature block (R308). -/
  report : List Byte := []
  /-- Copies of registers in MRAM: TRK_STOPA, TRK_FROST, the PWR and CLK settings, WIT corrections (R420). -/
  saved : Sparse Word := []
  /-- The store holds a copy of the register. -/
  savedKeys : List Nat := []
  /-- Tracker tables in MRAM, key 2^20 × tracker + the table's own key; K, profile and trained buckets (R81). -/
  kSaved : Sparse Nat := []
  profSaved : Sparse Nat := []
  trainSaved : Sparse Nat := []
  deriving DecidableEq, Repr

/-- What the calibration loads beside the registers: maps, shot plans, the governor record and the pressure records, as their
payload bytes by index (R130–R134, R302). -/
structure CalState where
  maps : Sparse (List Byte) := []
  plans : Sparse (List Byte) := []
  gov : List Byte := []
  press : Sparse (List Byte) := []
  deriving DecidableEq, Repr

/-- A timer channel (R375–R384): what its registers do not show. -/
structure TimChan where
  /-- The prescaler's count, and the part of an SCLK cycle gone by, in thirds of a TCLK tick (R337). -/
  presc : Nat := 0
  part : Nat := 0
  /-- The period in force; TIM_CHn_PER holds the one last written (R379). -/
  per : Nat := 4294967295
  queue : List Nat := []
  /-- Halves written to the even channel of a pair and held: CNT, PER, CMP, PHASE (R381). -/
  lowCnt : Option Word := none
  lowPer : Option Word := none
  lowCmp : Option Word := none
  lowPhase : Option Word := none
  /-- Events not yet acted on: matches, reloads, tops, captures. -/
  matched : Nat := 0
  reloads : Nat := 0
  tops : Nat := 0
  caps : Nat := 0
  deriving DecidableEq, Repr

/-- A pattern context (R386–R393): what its registers do not show. -/
structure PatCtx where
  tx : List Word := []
  rx : List Word := []
  last : Option Word := none
  edget : Word := 0
  trig : Bool := false
  /-- HALT or ILLEGAL has halted the context until EN is written 0 and then 1 (R392). -/
  stopped : Bool := false
  /-- Turns a WAIT of KIND 1 still stalls (R388). -/
  left : Option Nat := none
  /-- A WAIT of KIND 0 is sampling its pin (R388). -/
  sampling : Bool := false
  deriving DecidableEq, Repr

/-- The test block (R397–R404): the run in progress. -/
structure TstState where
  /-- The loop-back's interface, instance, depth, unit count and length, and the state of its PRBS-31. -/
  inst : Nat := 0
  count : Nat := 0
  len : Nat := 0
  prbs : Nat := 0
  unitAt : Nat := 0
  /-- A unit has been sent and has not returned. -/
  waiting : Bool := false
  /-- IF = ADC: the conversion within the unit, and the code without the test current (R400). -/
  sub : Nat := 0
  prev : Nat := 0
  /-- The output self-test: its channel plus 1 (0 none), its payload, its request, its start, and the start of its hold. -/
  otCh : Nat := 0
  otArgs : List Byte := []
  otPort : Nat := 0
  otPkt : Option Packet := none
  otAt : Nat := 0
  otHold : Option Nat := none
  /-- At the end of the ramp: ∫v dt and ∫i dt in units of 62.5 mV and 15.625 mA times one tick, and i_end in 15.625 mA. -/
  otV : Nat := 0
  otI : Nat := 0
  otEnd : Nat := 0
  otRamp : Nat := 0
  otTrip : Bool := false
  deriving DecidableEq, Repr

/-- A DMA channel: the settings of the block in progress as its shadow set or descriptor gave them (R367–R371). -/
structure DmaChan where
  /-- Reload values of the source, the destination and the count. -/
  src : Word := 0
  dst : Word := 0
  cnt : Nat := 0
  /-- Elements of the burst in progress not yet moved. -/
  left : Nat := 0
  deriving DecidableEq, Repr


def Trk.reset : Trk := {}
def Chan.reset : Chan := {}
def Bank.reset : Bank := {}
def WhlInput.reset : WhlInput := {}
def FloPort.reset : FloPort := {}
def HostPort.reset : HostPort := {}
def TimChan.reset : TimChan := {}
def PatCtx.reset : PatCtx := {}
def DmaChan.reset : DmaChan := {}
def AdcState.reset : AdcState := {}
def Profile.reset : Profile := {}
def CycleCounts.reset : CycleCounts := {}

/-- The machine. -/
structure State where
  /-- Commands that wait, first in, first out. -/
  pending : List Instr := []
  /-- Time in units of 2.5 ns, which always advances; and the TCLK count, which advances while TCLK runs (R33). -/
  now : Nat := 0
  tclk : Nat := 0
  /-- The model's own field: how many free values have been taken (log entry 3). -/
  free : Nat := 0
  /-- Register words by absolute address; an unlisted register holds its reset value. -/
  regs : Sparse Word := []
  /-- Memory by absolute byte address: boot ROM, SRAM, MRAM (R417). -/
  mem : List (Host.Cell) := []
  /-- Bits that the hardware has set since time last moved, by register address (R5). -/
  fresh : List (Nat × Word) := []
  bus : BusAns := {}
  sys : SysState := {}
  pwr : PwrState := {}
  clk : ClkState := {}
  irqs : IrqState := {}
  /-- DMA channels: a pulse held behind the burst in progress, bit per channel (R365). -/
  dmaHeld : Nat := 0
  dmas : Sparse DmaChan := []
  tims : Sparse TimChan := []
  pats : Sparse PatCtx := []
  /-- Pin levels of the two engines (R391). -/
  patPins : Sparse Nat := []
  whls : Sparse WhlInput := []
  sim : WhlSim := {}
  trks : Sparse Trk := []
  /-- By tracker: what a re-label of its last edge restores (R85). -/
  trkBefore : Sparse (Option TrkBefore) := []
  voter : Voter := {}
  sch : SchState := {}
  adcs : Sparse AdcState := []
  chans : Sparse Chan := []
  banks : Sparse Bank := []
  drv : DrvState := {}
  /-- Channels whose MIRROR SHOT cell is due (R243). -/
  shotMirror : List Nat := []
  wit : WitState := {}
  flo : FloState := {}
  hst : HstState := {}
  sec : SecState := {}
  cal : CalState := {}
  tst : TstState := {}
  deriving DecidableEq, Repr

/-- The machine right after reset (R312, R313): every register at its reset value (SYS_STATE is THAW), every memory byte
unlisted, no command waiting. The always-on domain has lost its supply: a cold power-on, cause POR (log entry 2). -/
def State.reset : State := 
  { clk := { vcore := 650, d := 12, sclkIrc := true }, pwr := { aonLost := true } }

end Sys2Proof.Machine
end

