-- ==== Sys2Proof/Machine/Ops.lean ====
section
/-! DEFINITION. The named operations over registers, memory and sparse tables that every meaning uses. -/

namespace Sys2Proof.Machine

/-- The outcome of a command. -/
abbrev Result := Host.Outcome State Fault Refusal

-- ── Sparse tables ─────────────────────────────────────────────────────────────────────────────────────────────────

/-- What the table holds at key `k`; `d` gives what an unlisted key reads as. -/
def spGet {α : Type} (d : Nat → α) : Sparse α → Nat → α
  | [], k => d k
  | (k', v) :: r, k => if k = k' then v else if k < k' then d k else spGet d r k

/-- Writes `v` at key `k`, keeping the canonical form: keys rising, no entry equal to its default. -/
def spPut {α : Type} [DecidableEq α] (d : Nat → α) : Sparse α → Nat → α → Sparse α
  | [], k, v => if v = d k then [] else [(k, v)]
  | (k', v') :: r, k, v =>
    if k < k' then (if v = d k then (k', v') :: r else (k, v) :: (k', v') :: r)
    else if k = k' then (if v = d k then r.dropWhile (fun e => e.1 ≤ k) else (k, v) :: r)
    else (k', v') :: spPut d r k v

/-- The canonical form: keys strictly rising, no entry equal to its default. -/
def spWf {α : Type} [DecidableEq α] (d : Nat → α) : Sparse α → Bool
  | [] => true
  | (k, v) :: r => decide (v ≠ d k) && (match r with | [] => true | (k', _) :: _ => decide (k < k')) && spWf d r

-- ── Tables of the state ───────────────────────────────────────────────────────────────────────────────────────────

/-- A host port: 0 SPI, 1 CAN0, 2 CAN1, 3 10BASE-T1S, 4 Floe. -/
def HstState.port (h : HstState) (p : Nat) : HostPort := spGet (fun _ => HostPort.reset) h.ports p
def State.setPort (s : State) (p : Nat) (x : HostPort) : State :=
  { s with hst := { s.hst with ports := spPut (fun _ => HostPort.reset) s.hst.ports p x } }

/-- An angle-domain converter and its FIFO (R138). -/
def State.adc (s : State) (a : Nat) : AdcState := spGet (fun _ => AdcState.reset) s.adcs a
def State.setAdc (s : State) (a : Nat) (x : AdcState) : State :=
  { s with adcs := spPut (fun _ => AdcState.reset) s.adcs a x }
def State.adcFifo (s : State) (a : Nat) : List Word := (s.adc a).fifo

-- ── Registers ─────────────────────────────────────────────────────────────────────────────────────────────────────

/-- The stored word of the register at address `a`; an unlisted register holds its reset value. -/
def State.word (s : State) (a : Nat) : Word := spGet regReset s.regs a

/-- Stores a register's whole word, as the hardware does: no access rule applies. -/
def State.setWord (s : State) (a : Nat) (v : Word) : State := { s with regs := spPut regReset s.regs a v }

/-- A field's mask in its register. -/
def FReg.mask (f : FReg) : Word := BitVec.ofNat 32 (2 ^ f.w - 1) <<< f.lo

/-- A field of a word, as a number. -/
def fieldOf (f : FReg) (w : Word) : Nat := (w.toNat >>> f.lo) % 2 ^ f.w

/-- A word with one field replaced. -/
def withField (f : FReg) (w : Word) (v : Nat) : Word :=
  (w &&& ~~~ (FReg.mask f)) ||| (BitVec.ofNat 32 (v % 2 ^ f.w) <<< f.lo)

/-- The present value of a register field. -/
def State.get (s : State) (f : FReg) : Nat := fieldOf f (s.word f.addr)

/-- A register field with a new value, as the hardware writes it. -/
def State.set (s : State) (f : FReg) (v : Nat) : State := s.setWord f.addr (withField f (s.word f.addr) v)

/-- A one-bit field as a flag. -/
def State.flag (s : State) (f : FReg) : Bool := s.get f != 0

/-- A one-bit field set or cleared by the hardware. -/
def State.setFlag (s : State) (f : FReg) (b : Bool) : State := s.set f (if b then 1 else 0)

/-- Adds to a counter that wraps at its field's width. -/
def State.addWrap (s : State) (f : FReg) (n : Nat) : State := s.set f ((s.get f + n) % 2 ^ f.w)

/-- Adds 1 to a counter that stops at its field's greatest value. -/
def State.incSat (s : State) (f : FReg) : State :=
  if s.get f + 1 < 2 ^ f.w then s.set f (s.get f + 1) else s.set f (2 ^ f.w - 1)

/-- Bit `k` of a field read as a mask. -/
def State.bit (s : State) (f : FReg) (k : Nat) : Bool := (s.get f).testBit k

/-- Sets or clears bit `k` of a field read as a mask. -/
def State.setBit (s : State) (f : FReg) (k : Nat) (b : Bool) : State :=
  s.set f (if b then s.get f ||| (1 <<< k) else s.get f - (if (s.get f).testBit k then 1 <<< k else 0))

-- ── Memory (R417) ─────────────────────────────────────────────────────────────────────────────────────────────────

/-- What a byte of memory that nothing has written reads as: 0 (DESIGN CHOICE, log entry 1). -/
def memDefault (_ : Nat) : Byte := 0

/-- The canonical form of memory: addresses strictly rising, no byte listed that reads the same unlisted. -/
def Memory.wf (m : List Host.Cell) : Bool := spWf memDefault m

/-- One byte of memory. -/
def State.byte (s : State) (a : Nat) : Byte := spGet memDefault s.mem a

/-- Writes one byte of memory. -/
def State.setByte (s : State) (a : Nat) (v : Byte) : State := { s with mem := spPut memDefault s.mem a v }

/-- Bytes as a little-endian number (R6). -/
def leNat : List Byte → Nat
  | [] => 0
  | b :: r => b.toNat + 256 * leNat r

/-- The low `n` bytes of a number, little-endian (R6). -/
def leBytes : Nat → Nat → List Byte
  | 0, _ => []
  | n + 1, v => BitVec.ofNat 8 v :: leBytes n (v / 256)

/-- `n` bytes of memory from `a`. -/
def State.bytes (s : State) : Nat → Nat → List Byte
  | _, 0 => []
  | a, n + 1 => s.byte a :: s.bytes (a + 1) n

/-- Writes a list of bytes to memory from `a`. -/
def State.setBytes (s : State) : Nat → List Byte → State
  | _, [] => s
  | a, b :: r => (s.setByte a b).setBytes (a + 1) r

-- ── Angles (R7–R9) ────────────────────────────────────────────────────────────────────────────────────────────────

/-- One engine cycle in au (R7). -/
def cycleAu : Nat := 16777216

/-- The distance from angle `a` to angle `b`, in −2^23 to 2^23 − 1 (R8). -/
def angDist (a b : Nat) : Int :=
  let d := (b + (cycleAu - a % cycleAu)) % cycleAu
  if d < 8388608 then (d : Int) else (d : Int) - 16777216

/-- An angle plus a signed number of au, modulo one cycle (R7). -/
def angAdd (a : Nat) (d : Int) : Nat := (((a : Int) + d) % 16777216).toNat

/-- A field of `w` bits read as a two's complement number. -/
def toSigned (w v : Nat) : Int := if v % 2 ^ w < 2 ^ (w - 1) then (v % 2 ^ w : Nat) else (v % 2 ^ w : Nat) - (2 ^ w : Nat)

/-- A number as a two's complement field of `w` bits. -/
def ofSigned (w : Nat) (v : Int) : Nat := (v % (2 ^ w : Nat)).toNat

/-- A number held between two bounds. -/
def clampInt (lo hi v : Int) : Int := if v < lo then lo else if hi < v then hi else v

-- ── Free values ───────────────────────────────────────────────────────────────────────────────────────────────────

/-- The next free value (log entry 3): a word that nothing constrains; the counter `free` advances. -/
def State.takeFree (s : State) : Word × State := (Config.freeWord s.free, { s with free := s.free + 1 })
/-- `n` bytes that are free values. -/
def State.freeBytes (s : State) : Nat → List Byte × State
  | 0 => ([], s)
  | n + 1 => let w := s.takeFree; let r := w.2.freeBytes n; (w.1.truncate 8 :: r.1, r.2)

/-- A free value of `bits` bits where `b` holds, else the value `v` and the state as it stands. -/
def State.freeIf (s : State) (b : Bool) (bits v : Nat) : Nat × State :=
  if b then (s.takeFree.1.toNat % 2 ^ bits, s.takeFree.2) else (v, s)

-- ── Orders ────────────────────────────────────────────────────────────────────────────────────────────────────────

/-- `a` put into a list before the first element that it stands before; and a list so put in order. -/
def putBefore {α : Type} (before : α → α → Bool) (a : α) : List α → List α
  | [] => [a]
  | b :: r => if before a b then a :: b :: r else b :: putBefore before a r
def inOrder {α : Type} (before : α → α → Bool) (l : List α) : List α := l.foldl (fun r a => putBefore before a r) []

-- ── Time ──────────────────────────────────────────────────────────────────────────────────────────────────────────

/-- TCLK ticks in one microsecond and in one millisecond (R9's example; 400 MHz). -/
def usTicks : Nat := 400
def msTicks : Nat := 400000

/-- Whether at least `n` ticks have passed since the stamp. -/
def State.passed (s : State) (since n : Nat) : Bool := since + n ≤ s.now

end Sys2Proof.Machine
end

