-- ==== Sys2Proof/Machine/Operands.lean ====
section
/-! DEFINITION. How operands and formats are read: little-endian byte fields (R6), CRC-32C, and the hashes the manual names
(SHA-256 of R213, SHA-384 of R290). -/

namespace Sys2Proof.Machine

/-- The byte at an offset of a payload; 0 beyond its end. -/
def byteAt (l : List Byte) (i : Nat) : Nat := ((l.drop i).headD 0).toNat
/-- The little-endian field of `n` bytes at an offset (R6). -/
def leAt (l : List Byte) (i n : Nat) : Nat := leNat ((l.drop i).take n)
/-- Bits `lo` … `lo + w − 1` of a word. -/
def bitsAt (v lo w : Nat) : Nat := (v >>> lo) % 2 ^ w
/-- The index at which a family of registers holds the address. -/
def regIndex (f : Nat → Nat) (count a : Nat) : Option Nat := (List.range count).find? (fun i => f i == a)

/-- `v` lies between `lo` and `hi`. -/
def inRange (lo hi v : Nat) : Bool := lo ≤ v && v ≤ hi
/-- `n` zero bytes. -/
def zeros (n : Nat) : List Byte := List.replicate n 0
/-- The payload's little-endian 32-bit words. -/
def wordsOf (l : List Byte) (n : Nat) : List Word := (List.range n).map (fun k => BitVec.ofNat 32 (leAt l (4 * k) 4))
/-- Words as little-endian bytes. -/
def wordBytes (l : List Word) : List Byte := l.flatMap (fun w => leBytes 4 w.toNat)

/-- One bit step of the reflected Castagnoli CRC. -/
def crcBit (c : Word) : Word := if c.getLsbD 0 then (c >>> 1) ^^^ 0x82F63B78 else c >>> 1
/-- Eight bit steps. -/
def crcByte (c : Word) (b : Byte) : Word :=
  let c0 := c ^^^ (b.zeroExtend 32)
  crcBit (crcBit (crcBit (crcBit (crcBit (crcBit (crcBit (crcBit c0)))))))
/-- CRC-32C: polynomial reflected, initial value and final XOR 0xFFFF_FFFF (00_scope, Byte order and checks). -/
def crc32c (l : List Byte) : Word := (l.foldl crcByte 0xFFFFFFFF) ^^^ 0xFFFFFFFF

-- ── SHA-256 and SHA-384 (FIPS 180-4) ──────────────────────────────────────────────────────────────────────────────

/-- Bytes as big-endian words of `n` bytes each. -/
def beWord (n : Nat) (l : List Byte) : Nat := (l.take n).foldl (fun a b => 256 * a + b.toNat) 0
/-- A number as `n` big-endian bytes. -/
def beBytes (n v : Nat) : List Byte := (leBytes n v).reverse

def sha256K : List Word :=
  [0x428a2f98, 0x71374491, 0xb5c0fbcf, 0xe9b5dba5, 0x3956c25b, 0x59f111f1, 0x923f82a4, 0xab1c5ed5] ++
  [0xd807aa98, 0x12835b01, 0x243185be, 0x550c7dc3, 0x72be5d74, 0x80deb1fe, 0x9bdc06a7, 0xc19bf174] ++
  [0xe49b69c1, 0xefbe4786, 0x0fc19dc6, 0x240ca1cc, 0x2de92c6f, 0x4a7484aa, 0x5cb0a9dc, 0x76f988da] ++
  [0x983e5152, 0xa831c66d, 0xb00327c8, 0xbf597fc7, 0xc6e00bf3, 0xd5a79147, 0x06ca6351, 0x14292967] ++
  [0x27b70a85, 0x2e1b2138, 0x4d2c6dfc, 0x53380d13, 0x650a7354, 0x766a0abb, 0x81c2c92e, 0x92722c85] ++
  [0xa2bfe8a1, 0xa81a664b, 0xc24b8b70, 0xc76c51a3, 0xd192e819, 0xd6990624, 0xf40e3585, 0x106aa070] ++
  [0x19a4c116, 0x1e376c08, 0x2748774c, 0x34b0bcb5, 0x391c0cb3, 0x4ed8aa4a, 0x5b9cca4f, 0x682e6ff3] ++
  [0x748f82ee, 0x78a5636f, 0x84c87814, 0x8cc70208, 0x90befffa, 0xa4506ceb, 0xbef9a3f7, 0xc67178f2]
def sha256H : List Word :=
  [0x6a09e667, 0xbb67ae85, 0x3c6ef372, 0xa54ff53a, 0x510e527f, 0x9b05688c, 0x1f83d9ab, 0x5be0cd19]
def sha512K : List (BitVec 64) :=
  [0x428a2f98d728ae22, 0x7137449123ef65cd, 0xb5c0fbcfec4d3b2f, 0xe9b5dba58189dbbc] ++
  [0x3956c25bf348b538, 0x59f111f1b605d019, 0x923f82a4af194f9b, 0xab1c5ed5da6d8118] ++
  [0xd807aa98a3030242, 0x12835b0145706fbe, 0x243185be4ee4b28c, 0x550c7dc3d5ffb4e2] ++
  [0x72be5d74f27b896f, 0x80deb1fe3b1696b1, 0x9bdc06a725c71235, 0xc19bf174cf692694] ++
  [0xe49b69c19ef14ad2, 0xefbe4786384f25e3, 0x0fc19dc68b8cd5b5, 0x240ca1cc77ac9c65] ++
  [0x2de92c6f592b0275, 0x4a7484aa6ea6e483, 0x5cb0a9dcbd41fbd4, 0x76f988da831153b5] ++
  [0x983e5152ee66dfab, 0xa831c66d2db43210, 0xb00327c898fb213f, 0xbf597fc7beef0ee4] ++
  [0xc6e00bf33da88fc2, 0xd5a79147930aa725, 0x06ca6351e003826f, 0x142929670a0e6e70] ++
  [0x27b70a8546d22ffc, 0x2e1b21385c26c926, 0x4d2c6dfc5ac42aed, 0x53380d139d95b3df] ++
  [0x650a73548baf63de, 0x766a0abb3c77b2a8, 0x81c2c92e47edaee6, 0x92722c851482353b] ++
  [0xa2bfe8a14cf10364, 0xa81a664bbc423001, 0xc24b8b70d0f89791, 0xc76c51a30654be30] ++
  [0xd192e819d6ef5218, 0xd69906245565a910, 0xf40e35855771202a, 0x106aa07032bbd1b8] ++
  [0x19a4c116b8d2d0c8, 0x1e376c085141ab53, 0x2748774cdf8eeb99, 0x34b0bcb5e19b48a8] ++
  [0x391c0cb3c5c95a63, 0x4ed8aa4ae3418acb, 0x5b9cca4f7763e373, 0x682e6ff3d6b2b8a3] ++
  [0x748f82ee5defb2fc, 0x78a5636f43172f60, 0x84c87814a1f0ab72, 0x8cc702081a6439ec] ++
  [0x90befffa23631e28, 0xa4506cebde82bde9, 0xbef9a3f7b2c67915, 0xc67178f2e372532b] ++
  [0xca273eceea26619c, 0xd186b8c721c0c207, 0xeada7dd6cde0eb1e, 0xf57d4f7fee6ed178] ++
  [0x06f067aa72176fba, 0x0a637dc5a2c898a6, 0x113f9804bef90dae, 0x1b710b35131c471b] ++
  [0x28db77f523047d84, 0x32caab7b40c72493, 0x3c9ebe0a15c9bebc, 0x431d67c49c100d4c] ++
  [0x4cc5d4becb3e42b6, 0x597f299cfc657e2a, 0x5fcb6fab3ad6faec, 0x6c44198c4a475817]
def sha384H : List (BitVec 64) :=
  [0xcbbb9d5dc1059ed8, 0x629a292a367cd507, 0x9159015a3070dd17, 0x152fecd8f70e5939] ++
  [0x67332667ffc00b31, 0x8eb44a8768581511, 0xdb0c2e0d64f98fa7, 0x47b5481dbefa4fa4]

/-- The shift amounts of one hash of the family: the two big sigmas and the two small ones. -/
structure ShaRot where
  s0 : Nat × Nat × Nat
  s1 : Nat × Nat × Nat
  t0 : Nat × Nat × Nat
  t1 : Nat × Nat × Nat

def rot256 : ShaRot := ⟨(2, 13, 22), (6, 11, 25), (7, 18, 3), (17, 19, 10)⟩
def rot512 : ShaRot := ⟨(28, 34, 39), (14, 18, 41), (1, 8, 7), (19, 61, 6)⟩

def bigSigma {w : Nat} (r : Nat × Nat × Nat) (x : BitVec w) : BitVec w :=
  x.rotateRight r.1 ^^^ x.rotateRight r.2.1 ^^^ x.rotateRight r.2.2
def smallSigma {w : Nat} (r : Nat × Nat × Nat) (x : BitVec w) : BitVec w :=
  x.rotateRight r.1 ^^^ x.rotateRight r.2.1 ^^^ (x >>> r.2.2)

/-- The message schedule: `n` more words after those of `acc`, which stand latest first. -/
def shaSchedule {w : Nat} (r : ShaRot) : Nat → List (BitVec w) → List (BitVec w)
  | 0, acc => acc
  | n + 1, acc =>
    shaSchedule r n ((smallSigma r.t1 (acc.getD 1 0) + acc.getD 6 0 + smallSigma r.t0 (acc.getD 14 0) + acc.getD 15 0) :: acc)

/-- One round on the eight working variables. -/
def shaRound {w : Nat} (r : ShaRot) (v : List (BitVec w)) (kw : BitVec w × BitVec w) : List (BitVec w) :=
  match v with
  | [a, b, c, d, e, f, g, h] =>
    let t1 := h + bigSigma r.s1 e + ((e &&& f) ^^^ (~~~e &&& g)) + kw.1 + kw.2
    let t2 := bigSigma r.s0 a + ((a &&& b) ^^^ (a &&& c) ^^^ (b &&& c))
    [t1 + t2, a, b, c, d + t1, e, f, g]
  | _ => v

/-- One block of 16 words. -/
def shaBlock {w : Nat} (r : ShaRot) (k : List (BitVec w)) (h blk : List (BitVec w)) : List (BitVec w) :=
  let ws := (shaSchedule r (k.length - 16) blk.reverse).reverse
  List.zipWith (· + ·) h ((k.zip ws).foldl (shaRound r) h)

/-- Splits padded bytes into blocks and hashes them; `n` blocks. -/
def shaBlocks {w : Nat} (r : ShaRot) (k : List (BitVec w)) (bytes : Nat) :
    Nat → List Byte → List (BitVec w) → List (BitVec w)
  | 0, _, h => h
  | n + 1, l, h =>
    let blk := (List.range 16).map (fun i => BitVec.ofNat w (beWord bytes (l.drop (bytes * i))))
    shaBlocks r k bytes n (l.drop (16 * bytes)) (shaBlock r k h blk)

/-- The padding: 0x80, zeros, and the length in bits over `lenBytes` bytes, to a multiple of `blk` bytes. -/
def shaPad (blk lenBytes n : Nat) : List Byte :=
  0x80 :: zeros ((2 * blk - 1 - lenBytes - n % blk) % blk) ++ beBytes lenBytes (8 * n)

def sha256 (l : List Byte) : List Byte :=
  let p := l ++ shaPad 64 8 l.length
  (shaBlocks rot256 sha256K 4 (p.length / 64) p sha256H).flatMap (fun w => beBytes 4 w.toNat)

def sha384 (l : List Byte) : List Byte :=
  let p := l ++ shaPad 128 16 l.length
  ((shaBlocks rot512 sha512K 8 (p.length / 128) p sha384H).flatMap (fun w => beBytes 8 w.toNat)).take 48

end Sys2Proof.Machine
end

