-- ==== Sys2Proof/Machine/Flags.lean ====
section
/-! DEFINITION. How status flags set and clear: by the hardware, by a write of 1 (W1C), by a read (RC), and what happens when
both meet in one cycle (R4, R5). -/

namespace Sys2Proof.Machine

/-- Sets a flag by a hardware event: the bit is set, and stands in `fresh` so that a clear of the same cycle leaves it
set (R5). -/
def State.raiseFlag (s : State) (f : FReg) : State :=
  { s.set f 1 with fresh := (f.addr, FReg.mask f) :: s.fresh }

/-- Sets bit `k` of a flag field by a hardware event, as `raiseFlag` does (R5). -/
def State.raiseBit (s : State) (f : FReg) (k : Nat) : State :=
  { s.setBit f k true with fresh := (f.addr, BitVec.ofNat 32 (2 ^ (f.lo + k))) :: s.fresh }

/-- The bits of the register at `a` that the hardware has set in the present cycle (R5). -/
def State.freshMask (s : State) (a : Nat) : Word :=
  s.fresh.foldl (fun m e => if e.1 = a then m ||| e.2 else m) 0

/-- Clears the bits of `m` in the register at `a`; a bit that the hardware has set in the present cycle stays set (R5). -/
def State.clearBits (s : State) (a : Nat) (m : Word) : State :=
  s.setWord a (s.word a &&& ~~~ (m &&& ~~~ (s.freshMask a)))

/-- Clears one flag by software, under R5. -/
def State.clearFlag (s : State) (f : FReg) : State := s.clearBits f.addr (FReg.mask f)

end Sys2Proof.Machine
end

