-- ==== Sys2Proof/Machine/Irq.lean ====
section
/-! DEFINITION. The interrupt controller's shared operations (R356–R364): raising a source, holding it in a coalescing group,
latching a target's winner, acknowledging, delivering a group, and passing a pulse to the DMA channels (R365). -/

namespace Sys2Proof.Machine

/-- Sources that stand for a condition that persists (R357). -/
def isLevelSource (n : Nat) : Bool := n == 64 || n == 160 || n == 164 || n == 168 || n == 172 || n == 240 || n == 248

/-- The condition of a level source (R357): a prepare event pending, an ADC FIFO at its threshold, an SPI packet waiting,
a GPIO flag set. -/
def State.levelHolds (s : State) (n : Nat) : Bool :=
  if n = 64 then s.word Reg.SCH_PREPPEND != 0
  else if n = 240 then decide ((s.hst.port 0).outq ≠ [])
  else if n = 248 then s.get Fld.HST_GPIO_IFLAG_FLAG != 0
  else if 160 ≤ n ∧ n ≤ 172 then
    let a := (n - 160) / 4
    decide (Nat.max 1 (s.get (Fld.ADC_CFG_FIFO_THR a)) ≤ (s.adcFifo a).length)
  else false

/-- The register that configures a source's delivery: IRQ_SRCn for the firmware, IRQ_HSRCn for the host (R356). -/
def srcEn (host : Bool) (n : Nat) : FReg := if host then Fld.IRQ_HSRC_EN n else Fld.IRQ_SRC_EN n
def srcPrio (host : Bool) (n : Nat) : FReg := if host then Fld.IRQ_HSRC_PRIO n else Fld.IRQ_SRC_PRIO n
def srcTgt (host : Bool) (n : Nat) : FReg := if host then Fld.IRQ_HSRC_LINE n else Fld.IRQ_SRC_TGT n
def srcCgrp (host : Bool) (n : Nat) : FReg := if host then Fld.IRQ_HSRC_CGRP n else Fld.IRQ_SRC_CGRP n
def pendWord (host : Bool) (n : Nat) : FReg := if host then Fld.IRQ_HPEND_PEND (n / 32) else Fld.IRQ_PEND_PEND (n / 32)

/-- Whether a delivery of the source is pending. -/
def State.isPend (s : State) (host : Bool) (n : Nat) : Bool := s.bit (pendWord host n) (n % 32)

/-- The target of a source's delivery: 0 SUP, 1 COM, 2 HOST_INT0, 3 HOST_INT1. -/
def State.targetOf (s : State) (host : Bool) (n : Nat) : Nat := (if host then 2 else 0) + s.get (srcTgt host n)

/-- Whether target `t` is a host line. -/
def isHostTarget (t : Nat) : Bool := 2 ≤ t

/-- SPLIT of a target: IRQ_PRIGROUP for SUP and COM, 0 for the host lines (R358). -/
def State.splitOf (s : State) (t : Nat) : Nat :=
  if t = 0 then s.get Fld.IRQ_PRIGROUP_SUP_SPLIT else if t = 1 then s.get Fld.IRQ_PRIGROUP_COM_SPLIT else 0

/-- The group of a source at a target (R358). -/
def State.groupOf (s : State) (t n : Nat) : Nat := s.get (srcPrio (isHostTarget t) n) >>> s.splitOf t

/-- The sub-priority of a source at a target (R358). -/
def State.subOf (s : State) (t n : Nat) : Nat := s.get (srcPrio (isHostTarget t) n) % 2 ^ s.splitOf t

/-- Whether source `n` ranks ahead of source `m` at target `t`: lower group, then lower sub-priority, then lower number
(R358). -/
def State.ranksAhead (s : State) (t n m : Nat) : Bool :=
  s.groupOf t n < s.groupOf t m ||
  (s.groupOf t n == s.groupOf t m && (s.subOf t n < s.subOf t m || (s.subOf t n == s.subOf t m && n < m)))

/-- Whether source `n` is pending and enabled for target `t` (R358). -/
def State.candidate (s : State) (t n : Nat) : Bool :=
  s.isPend (isHostTarget t) n && s.flag (srcEn (isHostTarget t) n) && s.targetOf (isHostTarget t) n == t

/-- The sources whose pending bit stands in word `w`. -/
def bitsOf (w base : Nat) : List Nat := if w = 0 then [] else ((List.range 32).filter (fun k => w.testBit k)).map (base + ·)

/-- The pending sources of a delivery. -/
def State.pendList (s : State) (host : Bool) : List Nat :=
  (List.range 8).flatMap (fun w => bitsOf (s.get (pendWord host (32 * w))) (32 * w))

/-- The winner of target `t` (R358). -/
def State.winner (s : State) (t : Nat) : Option Nat :=
  ((s.pendList (isHostTarget t)).filter (s.candidate t)).foldl
    (fun b n => match b with | none => some n | some m => if s.ranksAhead t n m then some n else some m) none

/-- The latched source of a target, plus 1; 0 with nothing latched. -/
def State.latchOf (s : State) (t : Nat) : Nat := spGet (fun _ => 0) s.irqs.latch t

def State.setLatch (s : State) (t v : Nat) : State :=
  { s with irqs := { s.irqs with latch := spPut (fun _ => 0) s.irqs.latch t v } }

/-- The target latches its winner, or replaces its latched winner by one that ranks ahead (R359). -/
def State.relatch (s : State) (t : Nat) : State :=
  match s.winner t with
  | none => s
  | some n =>
    if s.latchOf t = 0 then s.setLatch t (n + 1)
    else if s.ranksAhead t n (s.latchOf t - 1) then s.setLatch t (n + 1) else s

/-- All four targets latch (R359). -/
def State.relatchAll (s : State) : State := (((s.relatch 0).relatch 1).relatch 2).relatch 3

/-- The source becomes pending in a delivery, and its target latches it if it ranks ahead. There are 256 sources (R356). -/
def State.pendSource (s : State) (host : Bool) (n : Nat) : State :=
  if 256 ≤ n then s else
  let s1 := s.setBit (pendWord host n) (n % 32) true
  let s2 := { s1 with fresh := ((pendWord host n).addr, BitVec.ofNat 32 (1 <<< (n % 32))) :: s1.fresh }
  let t := s2.targetOf host n
  if s2.candidate t n && (s2.latchOf t == 0 || s2.ranksAhead t n (s2.latchOf t - 1)) then s2.setLatch t (n + 1) else s2

def State.heldOf (s : State) (g : Nat) : List Nat := spGet (fun _ => []) s.irqs.held g

/-- Writes a group's held events; IRQ_GRPg.N counts them, saturating (R362). -/
def State.setHeld (s : State) (g : Nat) (l : List Nat) : State :=
  ({ s with irqs := { s.irqs with held := spPut (fun _ => []) s.irqs.held g l } }).set
    (Fld.IRQ_GRP_N g) (Nat.min 255 l.length)

/-- An event of source `n` in coalescing group `g`: held and counted; the first one starts the group's timer (R362). -/
def State.holdEvent (s : State) (g n : Nat) : State :=
  let s1 := if s.heldOf g = [] then
      { s with irqs := { s.irqs with since := spPut (fun _ => 0) s.irqs.since g s.now } } else s
  s1.setHeld g (s1.heldOf g ++ [n])

/-- One delivery of an event of source `n` (R356, R362): a level source ignores a coalescing group (R357). -/
def State.deliverSource (s : State) (host : Bool) (n : Nat) : State :=
  let g := s.get (srcCgrp host n)
  if g = 0 || isLevelSource n then s.pendSource host n else s.holdEvent (g - 1) n

/-- Whether an enabled entry of the wake watcher names the source (R364). -/
def State.watched (s : State) (n : Nat) : Bool :=
  (List.range 8).any (fun k =>
    (s.flag (Fld.IRQ_WAKEMASK_EN_EVEN k) && s.get (Fld.IRQ_WAKEMASK_SRC_EVEN k) == n) ||
    (s.flag (Fld.IRQ_WAKEMASK_EN_ODD k) && s.get (Fld.IRQ_WAKEMASK_SRC_ODD k) == n))

/-- The wake watcher between the acceptance of SLEEP and the commit tick (R320, R364): an event of a watched source counts as
a pending wake source. -/
def State.watch (s : State) (n : Nat) : State :=
  if s.pwr.sleepReq && s.bit Fld.PWR_WAKEEN_EN 10 && s.watched n then
    { s with pwr := { s.pwr with wakeSeen := s.pwr.wakeSeen ||| 1024 } } else s

/-- An event of source `n` (R356): both deliveries, and the wake watcher. -/
def State.irq (s : State) (n : Nat) : State := ((s.deliverSource false n).deliverSource true n).watch n

/-- Level sources whose condition holds set their pending bits again (R357). -/
def State.refreshLevels (s : State) : State :=
  [64, 160, 164, 168, 172, 240, 248].foldl
    (fun s n => if s.levelHolds n then (s.pendSource false n).pendSource true n else s) s

/-- Clears a pulse source's pending bit. -/
def State.clearPend (s : State) (host : Bool) (n : Nat) : State :=
  if isLevelSource n then s else s.setBit (pendWord host n) (n % 32) false

/-- An acknowledge of target `t` (R359): the vector, and the state after it. -/
def State.acknowledge (s : State) (t : Nat) : Nat × State :=
  let l := s.latchOf t
  if l ≠ 0 && s.candidate t (l - 1) then
    let s1 := (s.clearPend (isHostTarget t) (l - 1)).setLatch t 0
    let s2 := if isHostTarget t then s1 else s1.setBit (Fld.IRQ_ACT_ACTIVE t) (s.groupOf t (l - 1)) true
    (l, (s2.relatch t).refreshLevels)
  else
    (0, ((s.addWrap Fld.IRQ_STAT_SPURIOUS 1).setLatch t 0).relatch t)

/-- The most urgent set bit of an active set: the lowest group number (R360). -/
def lowestBit (w : Nat) : Option Nat := (List.range 16).find? (fun k => w.testBit k)

/-- A write of EOI (R360). -/
def State.endOfInterrupt (s : State) (t : Nat) : State :=
  match lowestBit (s.get (Fld.IRQ_ACT_ACTIVE t)) with
  | some g => s.setBit (Fld.IRQ_ACT_ACTIVE t) g false
  | none => s.raiseFlag Fld.IRQ_STAT_EOI_ERR

/-- Whether SUP or COM requests service: a latched winner of a more urgent group than any active one (R360). -/
def State.requestsService (s : State) (t : Nat) : Bool :=
  s.latchOf t != 0 &&
  (match lowestBit (s.get (Fld.IRQ_ACT_ACTIVE t)) with
   | none => true
   | some g => s.groupOf t (s.latchOf t - 1) < g)

/-- Whether HOST_INTh stands at its active level (R361). -/
def State.hostIntActive (s : State) (h : Nat) : Bool :=
  s.flag (Fld.IRQ_HCFG_EN h) && s.latchOf (2 + h) != 0 && 4 ≤ s.get Fld.SYS_STATE_STATE && !s.pwr.inReset

/-- The level of the HOST_INTh output: POL selects the active level; in Frost the level held from the commit tick (R361). -/
def State.hostIntLevel (s : State) (h : Nat) : Bool :=
  if s.get Fld.SYS_STATE_STATE = 1 then !(s.pwr.heldPol.testBit h)
  else if s.hostIntActive h then s.flag (Fld.IRQ_HCFG_POL h) else !(s.flag (Fld.IRQ_HCFG_POL h))

/-- A coalescing group delivers: every held source sets its pending bit, N returns to 0 and the timer stops (R362). -/
def State.deliverGroup (s : State) (g : Nat) : State :=
  (s.heldOf g).foldl (fun s n => s.pendSource (decide (8 ≤ g)) n) (s.setHeld g [])

/-- Whether a coalescing group's count or time threshold is met (R362). COUNT 0 acts as 1, TIME 0 is no threshold. -/
def State.groupDue (s : State) (g : Nat) : Bool :=
  decide (s.heldOf g ≠ []) &&
  (decide (Nat.max 1 (s.get (Fld.IRQ_GRP_COUNT g)) ≤ (s.heldOf g).length) ||
   (s.get (Fld.IRQ_GRP_TIME g) != 0 &&
    s.passed (spGet (fun _ => 0) s.irqs.since g) (s.get (Fld.IRQ_GRP_TIME g) * usTicks)))

/-- A source leaves a coalescing group: its held events deliver in the tick of the change (R363). -/
def State.leaveGroup (s : State) (host : Bool) (n g : Nat) : State :=
  if (s.heldOf g).contains n then
    (s.setHeld g ((s.heldOf g).filter (· ≠ n))).pendSource host n else s

-- ── DMA pulses (R365) ─────────────────────────────────────────────────────────────────────────────────────────────

/-- A pulse reaches DMA channel `n`: it starts a burst, or is held one deep behind the burst in progress, or is lost and
counted. -/
def State.dmaPulseAt (s : State) (n : Nat) : State :=
  if !s.flag (Fld.DMA_CH_CTRL_EN n) then s
  else if !s.flag (Fld.DMA_CH_STAT_BUSY n) then s.set (Fld.DMA_CH_STAT_BUSY n) 1
  else if !s.dmaHeld.testBit n then { s with dmaHeld := s.dmaHeld ||| (1 <<< n) }
  else s.addWrap (Fld.DMA_CH_STAT_TRIG_LOST n) 1

/-- A pulse trigger of code `c` reaches every channel that names it. -/
def State.dmaPulse (s : State) (c : Nat) : State :=
  (List.range 16).foldl (fun s n => if s.get (Fld.DMA_CH_CTRL_TRIG n) = c then s.dmaPulseAt n else s) s

end Sys2Proof.Machine
end

