-- ==== Sys2Proof/Machine/Angle.lean ====
section
/-! DEFINITION. The geometry of the wheel descriptions (R44–R49), the trackers' angle clocks (R58), the output angle and its
slew (R94, R95), and what the passage of time does to them. -/

namespace Sys2Proof.Machine

/-- The fraction of one au in an accumulator (R58). -/
def fracOne : Nat := 4294967296
/-- One cycle of an accumulator: 24 integer and 32 fraction bits (R58). -/
def accMod : Nat := 72057594037927936

/-- Signed distance between two accumulator values, by R8. -/
def accDist (a b : Nat) : Int :=
  let d := (b + (accMod - a % accMod)) % accMod
  if d < 36028797018963968 then (d : Int) else (d : Int) - 72057594037927936

-- ── Wheel descriptions ────────────────────────────────────────────────────────────────────────────────────────────

/-- Revolutions per cycle, M of R45. -/
def State.revs (s : State) (x : Nat) : Nat := if s.flag (Fld.WHL_WD_CFG_STROKE x) then 1 else 2
/-- Positions per revolution. -/
def State.posRev (s : State) (x : Nat) : Nat := s.get (Fld.WHL_WD_CFG_POS_REV x)
/-- Cycle indices of the description: M × POS_REV. -/
def State.posCyc (s : State) (x : Nat) : Nat := s.revs x * s.posRev x
/-- Whether the description is in ring-gear mode (R48). -/
def State.ring (s : State) (x : Nat) : Bool := s.flag (Fld.WHL_WD_CFG_MODE x)

/-- The enabled gaps: start and length (R46). -/
def State.gaps (s : State) (x : Nat) : List (Nat × Nat) :=
  if s.ring x then [] else
  ((List.range 4).filter (fun g => s.flag (Fld.WHL_WD_GAP_EN x g))).map
    (fun g => (s.get (Fld.WHL_WD_GAP_START x g), s.get (Fld.WHL_WD_GAP_LEN x g)))

/-- The enabled extra teeth: the position they follow and their fraction in 256ths (R47). -/
def State.extraTeeth (s : State) (x : Nat) : List (Nat × Nat) :=
  if s.ring x then [] else
  ((List.range 4).filter (fun e => s.flag (Fld.WHL_WD_EXT_EN x e))).map
    (fun e => (s.get (Fld.WHL_WD_EXT_AFTER x e), s.get (Fld.WHL_WD_EXT_FRAC x e)))

/-- The enabled cam entries: index, angle and polarity (falling) (R49). -/
def State.camEntries (s : State) (x : Nat) : List (Nat × Nat × Bool) :=
  ((List.range 32).filter (fun c => s.flag (Fld.WHL_WD_CAM_EN x c))).map
    (fun c => (c, s.get (Fld.WHL_WD_CAM_ANGLE x c), s.flag (Fld.WHL_WD_CAM_POL x c)))

/-- Whether position `p` of a revolution lies in a gap (R46). -/
def State.inGap (s : State) (x p : Nat) : Bool := (s.gaps x).any (fun g => g.1 ≤ p && p < g.1 + g.2)

/-- Whether cycle index `i` holds a tooth. -/
def State.isTooth (s : State) (x i : Nat) : Bool := s.posRev x != 0 && !s.inGap x (i % s.posRev x)

/-- The first tooth at or after index `i`, within `fuel` positions. -/
def State.toothFrom (s : State) (x : Nat) : Nat → Nat → Nat
  | 0, i => i
  | n + 1, i => if s.isTooth x (i % s.posCyc x) then i % s.posCyc x else s.toothFrom x n (i + 1)

/-- The first tooth at or before index `i` (taken modulo the cycle), within `fuel` positions. -/
def State.toothBack (s : State) (x : Nat) : Nat → Nat → Nat
  | 0, i => i
  | n + 1, i => if s.isTooth x (i % s.posCyc x) then i % s.posCyc x
                else s.toothBack x n (i % s.posCyc x + s.posCyc x - 1)

/-- The tooth after, and the tooth before, the one at index `i`. A gap is at most 7 positions long (R46). -/
def State.nextTooth (s : State) (x i : Nat) : Nat := s.toothFrom x 9 (i + 1)
def State.prevTooth (s : State) (x i : Nat) : Nat := s.toothBack x 9 (i + s.posCyc x - 1)

/-- Rounded division, halves upward (R9). -/
def divRound (a b : Nat) : Nat := (2 * a + b) / (2 * b)

/-- Rounded division of a signed numerator, halves upward (R9). -/
def divRoundInt (a : Int) (b : Nat) : Int := (2 * a + (b : Int)) / (2 * (b : Int))

/-- The nominal angle of cycle index `i`, which is `nominal(r, p)` of R45, rounded by R9. -/
def State.nominal (s : State) (x i : Nat) : Nat :=
  (s.get (Fld.WHL_WD_REF_REF_ANGLE x) + divRound (i * cycleAu) (s.posCyc x)) % cycleAu

/-- The nominal angle of the extra tooth with fraction `frac` after cycle index `i` (R47). -/
def State.nominalExtra (s : State) (x i frac : Nat) : Nat :=
  (s.get (Fld.WHL_WD_REF_REF_ANGLE x) + divRound ((256 * i + frac) * cycleAu) (256 * s.posCyc x)) % cycleAu

-- ── Trackers ──────────────────────────────────────────────────────────────────────────────────────────────────────

def State.trk (s : State) (x : Nat) : Trk := spGet (fun _ => Trk.reset) s.trks x
def State.setTrk (s : State) (x : Nat) (t : Trk) : State := { s with trks := spPut (fun _ => Trk.reset) s.trks x t }

def State.trkState (s : State) (x : Nat) : Nat := s.get (Fld.TRK_STAT_STATE x)
def State.trkReverse (s : State) (x : Nat) : Bool := s.flag (Fld.TRK_STAT_DIR x)

/-- The profile entry of an index, in au (R71). -/
def Trk.profileOf (t : Trk) (i : Nat) : Int := toSigned 16 (spGet (fun _ => 0) t.profile i)

/-- The speed-model entry K(i, b), UQ2.14 (R77). -/
def Trk.kOf (t : Trk) (b i : Nat) : Nat := spGet (fun _ => 0x4000) t.kTab (1024 * b + i)

/-- θ′(i): the nominal angle, plus the profile entry when PROF_EN = 1. -/
def State.theta (s : State) (x i : Nat) : Nat :=
  if s.flag (Fld.TRK_CTRL_PROF_EN x) then angAdd (s.nominal x i) ((s.trk x).profileOf i) else s.nominal x i

/-- The span from tooth `i` to tooth `j`, going forward. -/
def State.span (s : State) (x i j : Nat) : Nat :=
  let d := (s.theta x j + cycleAu - s.theta x i % cycleAu) % cycleAu
  if d = 0 then cycleAu else d

/-- N: the cycle index of the next tooth expected going forward. -/
def State.nextN (s : State) (x : Nat) : Nat := s.get (Fld.TRK_POS_NEXT x)

/-- The integer angle of a tracker (R58). -/
def State.trkAngle (s : State) (x : Nat) : Nat := (s.trk x).acc / fracOne

/-- Whether the block's clock runs: its bit of CLK_GATE0 (R351). -/
def State.clocked (s : State) (gate : FReg) : Bool := s.flag gate

/-- Whether a tracker's state, direction and SCH_CTRL permit shots (R62); a follower takes it from the EDGE cell (R234). -/
def State.shotOk (s : State) (x : Nat) : Bool :=
  !s.trkReverse x &&
  if s.get (Fld.TRK_CTRL_SRC x) = 1 then (s.trk x).cellOk && s.trkState x != 0 && s.trkState x != 2 && s.trkState x != 6 else
  (s.trkState x == 4 || s.trkState x == 5 ||
   (s.trkState x == 1 && s.flag Fld.SCH_CTRL_FIRE_ON_PRESET && 0 < (s.trk x).edges))

-- ── The output angle (R94, R95) ───────────────────────────────────────────────────────────────────────────────────

/-- The selected tracker: 0 TRK_A, 1 TRK_B. -/
def State.sel (s : State) : Nat := s.get Fld.TRK_VSEL_SEL

/-- The output angle with its fraction: the selected tracker's angle plus d of R94. -/
def State.outAcc (s : State) : Nat := ((((s.trk s.sel).acc : Int) + s.voter.slew) % 72057594037927936).toNat

/-- TRK_OUT.ANGLE. -/
def State.out (s : State) : Nat := s.outAcc / fracOne

/-- TRK_OUT.SHOT_OK and TRK_OUT.REVERSE. -/
def State.outOk (s : State) : Bool := s.shotOk s.sel
def State.outReverse (s : State) : Bool := s.trkReverse s.sel

/-- The rate of the selected tracker, UQ8.32. -/
def State.outRate (s : State) : Nat := (s.trk s.sel).rate

/-- A movement of `d` au forward from `o` reaches the angle `a`: the distance becomes zero (R107). -/
def passes (o d a : Nat) : Bool := decide (0 < d) && decide ((a + 2 * cycleAu - 1 - o % cycleAu) % cycleAu < d)

/-- Bits of a predicate on the first `n` numbers. -/
def bitsWhere (n : Nat) (p : Nat → Bool) : Nat := (List.range n).foldl (fun m k => if p k then m + 2 ^ k else m) 0

/-- The latch angle of a cylinder, and the angle of its prepare event (R107, R129). -/
def State.cylLatch (s : State) (c : Nat) : Nat := s.get (Fld.SCH_CYL_E_LATCH c)
def State.cylPrep (s : State) (c : Nat) : Nat := angAdd (s.cylLatch c) (-(s.get Fld.SCH_PREP_PREP_LEAD : Nat) : Int)

/-- Whether the scheduler watches the latch of cylinder `c`: it is enabled, or has been disabled since its last commit and still has its
empty set to commit (R98, R99; DEDUCED, log entry 73). -/
def State.cylWatched (s : State) (c : Nat) : Bool := s.flag (Fld.SCH_CYL_A_EN c) || s.sch.live.testBit c

/-- The watched cylinders whose latch or prepare angle satisfies `p` await their COMMIT or PREPARE_EVENT; while the scheduler stands,
none does (R107, R129). -/
def State.noteLatches (s : State) (p : Nat → Bool) : State :=
  if !s.flag Fld.CLK_GATE0_SCH || !s.flag Fld.SCH_CTRL_EN then { s with sch := { s.sch with latchPend := 0, prepPend := 0 } }
  else
    { s with sch := { s.sch with
        latchPend := s.sch.latchPend ||| bitsWhere 24 (fun c => s.cylWatched c && p (s.cylLatch c))
        prepPend := s.sch.prepPend ||| bitsWhere 24 (fun c => s.cylWatched c && p (s.cylPrep c)) } }

/-- The armed slots. -/
def State.armedSlots (s : State) : List Nat :=
  (List.range 64).flatMap (fun w =>
    let v := s.get (Fld.SCH_ARMED_ARMED w)
    if v = 0 then [] else ((List.range 32).filter v.testBit).map (32 * w + ·))

/-- A slot has not started within the last 2^23 au of net rotation (R114, R115). -/
def State.rested (s : State) (n : Nat) : Bool :=
  match spGet (fun _ => none) s.sch.meterAt n with
  | none => true
  | some m => decide (36028797018963968 ≤ s.voter.meter - m)

/-- What R114 asks in the tick in which a start is reached, apart from the slot's own conditions. -/
def State.firingOn (s : State) : Bool :=
  s.flag Fld.CLK_GATE0_SCH && s.flag Fld.SCH_CTRL_EN && s.outOk && !s.outReverse

/-- The start of slot `n`'s active descriptor (R101). -/
def State.slotStart (s : State) (n : Nat) : Nat := (s.word (Reg.SCH_ACTIVE n 0)).toNat % cycleAu

/-- The armed slots whose start satisfies `p` await their SLOT_FIRE when the conditions of R114 hold; a slot that fails one stays armed and
does not fire. `tick` gives the tick in which a start was reached. -/
def State.noteStarts (s : State) (p : Nat → Bool) (tick : Nat → Nat) : State :=
  if !s.firingOn then s
  else
    let l := s.armedSlots.filter (fun n => p (s.slotStart n) && s.rested n && !s.sch.firePend.contains n)
    if l = [] then s
    else { s with sch := { s.sch with
      firePend := s.sch.firePend ++ l
      fireTick := l.foldl (fun m n => spPut (fun _ => 0) m n (tick (s.slotStart n))) s.sch.fireTick } }

/-- TRK_OUT moves `d` au forward from where it stands. -/
def State.passLatches (s : State) (d : Nat) : State := if d = 0 then s else s.noteLatches (passes s.out d)
/-- TRK_OUT has moved `d` au forward from `o`, evenly over the last `n` ticks: `move` from `acc`, with the fraction. -/
def State.passStarts (s : State) (o d acc move n : Nat) : State :=
  if d = 0 then s
  else s.noteStarts (passes o d) (fun a => s.now - n + ((a * fracOne + accMod - acc % accMod) % accMod * n + move - 1) / Nat.max 1 move)

/-- An angle that lay ahead of `o`, by R8, and does not lie ahead of `o'`. -/
def jumpedOver (o o' a : Nat) : Bool := decide (0 < angDist o a) && decide (angDist o' a ≤ 0)

/-- TRK_OUT has jumped from `o` with no restart commit: the angles jumped over are reached (R95, R107, R114). -/
def State.jumpAngles (s : State) (o : Nat) : State :=
  if o = s.out then s else (s.noteLatches (jumpedOver o s.out)).noteStarts (jumpedOver o s.out) (fun _ => s.now)

/-- TRK_OUT stands at or beyond an angle, by R8. -/
def State.atOrBeyond (s : State) (a : Nat) : Bool := decide (angDist s.out a ≤ 0)

/-- Domain time in 1/16 ticks: the own count, corrected by the offset and ratio learned from SYNC cells. -/
def State.domTime (s : State) : Nat :=
  if s.flo.ratioDen = 0 then 16 * s.tclk
  else s.flo.syncMaster + (16 * s.tclk - s.flo.syncOwn) * s.flo.ratioNum / s.flo.ratioDen

-- ── Time ──────────────────────────────────────────────────────────────────────────────────────────────────────────

/-- What a follower works off of its angle error in `n` ticks (R234). -/
def Trk.corrMove (t : Trk) (n : Nat) : Int :=
  let c : Nat := Nat.min t.corrLeft.natAbs (t.corrRate * n)
  if t.corrLeft < 0 then -(c : Int) else (c : Int)

/-- How far a tracker's angle advances in `n` ticks: its rate each tick; in crawl it stands at θ′(N) (R58, R84); it stands
while STOPPED and in reverse (R85, R89), but not while it searches (R76). -/
def State.trkMove (s : State) (x n : Nat) : Nat :=
  if !s.clocked Fld.CLK_GATE0_TRK || s.trkState x = 0 || (s.trkReverse x && s.trkState x != 2 && s.trkState x != 6) then 0
  else if s.flag (Fld.TRK_STAT_CRAWL x) then
    Nat.min ((s.trk x).rate * n) (accDist (s.trk x).acc (s.theta x (s.nextN x) * fracOne)).toNat
  else (((s.trk x).rate * n : Nat) + (s.trk x).corrMove n).toNat

/-- A tracker's angle moved forward: wraps count up (R58), the rotation since the last cam edge grows (R69). -/
def State.trkForward (s : State) (x move n : Nat) : State :=
  let t := s.trk x
  if move = 0 then s else
  s.setTrk x { t with
    acc := (t.acc + move) % accMod
    cycle := (t.cycle + (t.acc + move) / accMod) % 4294967296
    wrapPend := t.wrapPend || decide (accMod ≤ t.acc + move)
    corrLeft := t.corrLeft - t.corrMove n
    camRot := t.camRot + move }

/-- The slew correction of `n` ticks, toward d = 0 (R94): at most |d|, and rate × SLEW / 16 each tick. Where the selected tracker stands, as
in crawl, it pauses, so that TRK_OUT never moves backward (R94, R95). -/
def State.slewMove (s : State) (n : Nat) : Int :=
  let r := s.get Fld.TRK_VOTE_SLEW
  let c : Nat := Nat.min s.voter.slew.natAbs (Nat.min (n * (s.outRate * r / 16)) (s.trkMove s.sel n * r / 16))
  if 0 < s.voter.slew then -(c : Int) else (c : Int)

/-- The forward movement of TRK_OUT in `n` ticks, in au (R376). -/
def State.outMove (s : State) (n : Nat) : Nat :=
  ((s.outAcc + (s.trkMove s.sel n : Nat) + s.slewMove n) / 4294967296 - (s.out : Nat)).toNat

/-- The trackers, the output angle and the net-rotation meter after `n` ticks (R58, R94, R115). -/
def State.advanceAngles (s : State) (n : Nat) : State :=
  let moveA := s.trkMove 0 n
  let moveB := s.trkMove 1 n
  let move := if s.sel = 0 then moveA else moveB
  let c := s.slewMove n
  let wraps := decide ((accMod : Int) ≤ (s.outAcc : Int) + (move : Int) + c)
  let turned : Int := if s.outReverse then -((s.outRate * n : Nat) : Int) else ((s.outRate * n : Nat) : Int)
  let s1 := ((s.passLatches (s.outMove n)).trkForward 0 moveA n).trkForward 1 moveB n
  let s2 := { s1 with voter := { s1.voter with
      slew := s1.voter.slew + c
      outSeen := ((s.outAcc + (move : Int) + c) % 72057594037927936 / 4294967296).toNat
      outWrap := s1.voter.outWrap || wraps
      meter := s1.voter.meter + (if s.clocked Fld.CLK_GATE0_TRK then turned else 0) } }
  s2.passStarts s.out (s.outMove n) s.outAcc ((move : Int) + c).toNat n

end Sys2Proof.Machine
end

