-- ==== Sys2Proof/Machine/Witness.lean ====
section
/-! DEFINITION. Witness records and the cycle's counts (R195–R217): building a record, closing it into the ring, counting it in
the digest, and the opening and closing searches. -/

namespace Sys2Proof.Machine

-- ── Counts of the cycle (R212) ────────────────────────────────────────────────────────────────────────────────────

def State.setCounts (s : State) (c : CycleCounts) : State := { s with wit := { s.wit with now := c } }

/-- An anomaly bit of the digest, 3 to 14 (R212). -/
def State.anom (s : State) (k : Nat) : State := s.setCounts { s.wit.now with anom := s.wit.now.anom ||| (1 <<< k) }

/-- The place of an outcome code among the 12 counts: codes 0x0–0x3, then 0x8–0xF (R212). -/
def outcomeIndex (o : Nat) : Nat := if o < 4 then o else o - 4

/-- Adds 1 to an entry of the counts, saturating at 65,535. -/
def bumpCount (l : List Nat) (k : Nat) : List Nat :=
  l.zipIdx.map (fun p => if p.2 = k then Nat.min 65535 (p.1 + 1) else p.1)

-- ── Channels ──────────────────────────────────────────────────────────────────────────────────────────────────────

/-- The bank of a channel (R141). -/
def bankOf (n : Nat) : Nat := n / 6

/-- The pair bit of DRV_BANKk that covers a channel (R149). -/
def State.inPair (s : State) (n : Nat) : Bool := s.bit (Fld.DRV_BANK_PAIR (bankOf n)) (n % 6 / 2)

-- ── Records (R197) ────────────────────────────────────────────────────────────────────────────────────────────────

/-- What the samples of a shot give its record: PEAK_I, OPEN_T and OPEN_CONF, CLOSE_T and CLOSE_CONF, ENERGY. -/
structure Measured where
  peakI : Nat
  openT : Nat
  openConf : Nat
  closeT : Nat
  closeConf : Nat
  energy : Int

/-- The values of a record without measurement (R200). -/
def Measured.none : Measured := ⟨0, 0xFFFFF, 0, 0xFFFFF, 0, 0⟩

/-- The lower of two fault classes, 0 meaning none (R198). -/
def minClass (a b : Nat) : Nat := if a = 0 then b else if b = 0 then a else Nat.min a b

/-- The 48 bytes of a record (R197). -/
def recordBytes (r : OpenRec) (m : Measured) : List Byte :=
  let body :=
    leBytes 2 (r.slot + r.cyl * 2048) ++
    leBytes 2 (r.ch + r.cls * 64 + r.outcome * 512 + r.fault * 8192) ++
    leBytes 4 (r.cmdStart + r.profile * 16777216) ++
    leBytes 4 (r.actStart + (r.cycle % 256) * 16777216) ++
    leBytes 8 r.startTime ++
    leBytes 2 r.boostEnd ++
    leBytes 2 m.peakI ++
    leBytes 4 r.endTime ++
    leBytes 4 (m.openT + m.openConf * 1048576) ++
    leBytes 4 (m.closeT + m.closeConf * 1048576) ++
    leBytes 4 (ofSigned 32 m.energy) ++
    leBytes 2 r.flags ++
    leBytes 2 r.corrD
  body ++ leBytes 4 (crc32c body).toNat

/-- The number of records awaiting streaming shows in WIT_RING.UNSENT (R208). -/
def State.setUnsent (s : State) (l : List Nat) : State :=
  ({ s with wit := { s.wit with unsent := l } }).set Fld.WIT_RING_UNSENT l.length

/-- Enters a record into the ring of 8,192 (R208): the oldest gives way, and is counted when it still awaited streaming. -/
def State.ringWrite (s : State) (outcome : Nat) (bytes : List Byte) : State :=
  let seq := s.get Fld.WIT_RECSEQ_SEQ
  let gone := (s.wit.ring.drop 8191).map Prod.fst
  let lost := s.wit.unsent.filter (fun q => gone.contains q)
  let s1 := { s with wit := { s.wit with ring := (seq, bytes) :: s.wit.ring.take 8191 } }
  let s2 := if lost = [] then s1 else
    ((((s1.setUnsent (s1.wit.unsent.filter (fun q => !gone.contains q))).addWrap Fld.WIT_RING_OVW lost.length).raiseFlag
      Fld.WIT_STAT_RING_OVW).irq 147).anom 14
  let s3 := if s2.flag Fld.WIT_STREAM_EN && s2.bit Fld.WIT_STREAM_OMASK outcome
            then s2.setUnsent (s2.wit.unsent ++ [seq]) else s2
  s3.set Fld.WIT_RECSEQ_SEQ ((seq + 1) % 4294967296)

/-- A closed record counted among those of a cycle (R212). -/
def CycleCounts.addRecord (c : CycleCounts) (r : OpenRec) (m : Measured) (seq : Nat) : CycleCounts :=
  { c with
    counts := bumpCount c.counts (outcomeIndex r.outcome)
    recSeq := if c.recN = 0 then seq else c.recSeq
    recN := Nat.min 65535 (c.recN + 1)
    energy := c.energy + m.energy }

/-- Counts a closed record in the cycle in which it closes; one that closes in the tick of the snapshot counts in the cycle that the
snapshot ends, while COM has not taken that (R212). -/
def State.countRecord (s : State) (r : OpenRec) (m : Measured) (seq : Nat) : State :=
  match s.wit.snap with
  | some p => if s.wit.cycleAt = s.now then { s with wit := { s.wit with snap := some (p.addRecord r m seq) } }
              else s.setCounts (s.wit.now.addRecord r m seq)
  | none => s.setCounts (s.wit.now.addRecord r m seq)

/-- Closes a record: FAULT takes class 6 while NO_MOTION stands and no lower class applies (R198), but in a record of a refused or cancelled
shot, whose FAULT R200 gives; the channel's last values,
the ring, the count, sources 144, 145 and 154 (R199, R217). -/
def State.closeRecord (s : State) (r0 : OpenRec) (m : Measured) : State :=
  let r := if (r0.outcome < 8 || r0.outcome = 14) && s.flag (Fld.WIT_CH_STAT_NO_MOTION r0.ch) then { r0 with fault := minClass r0.fault 6 } else r0
  let seq := s.get Fld.WIT_RECSEQ_SEQ
  let s1 := (((s.set (Fld.WIT_CH_STAT_LAST_CONF r.ch) m.openConf).set (Fld.WIT_CH_STAT_LAST_OUT r.ch) r.outcome).set
    (Fld.WIT_CH_LAST_OPEN_T r.ch) m.openT)
  let s2 := ((s1.ringWrite r.outcome (recordBytes r m)).countRecord r m seq).irq 144
  let s3 := if 8 ≤ r.outcome ∧ r.outcome ≤ 13 then s2.irq 145 else s2
  if r.flags.testBit 12 then s3.irq 154 else s3

/-- The records open on a channel, oldest first. -/
def State.openRecs (s : State) (ch : Nat) : List OpenRec := spGet (fun _ => []) s.wit.opened ch
/-- A channel with an open record is active in its bank's round (R196). -/
def State.setOpenRecs (s : State) (ch : Nat) (l : List OpenRec) : State :=
  { s with wit := { s.wit with opened := spPut (fun _ => []) s.wit.opened ch l }
           drv := if l = [] then s.drv else { s.drv with wasActive := s.drv.wasActive ||| 2 ^ ch } }
/-- A channel is active from its shot's start, or the fire tick of its standby shot, until its record closes (R196). -/
def State.sampled (s : State) (ch : Nat) : Bool := s.openRecs ch != []

/-- Changes the newest open record of a channel; an output self-test leaves the records alone (R402). -/
def State.modRec (s : State) (ch : Nat) (f : OpenRec → OpenRec) : State :=
  if s.tst.otCh = ch + 1 then s else
  match (s.openRecs ch).reverse with
  | [] => s
  | r :: rest => s.setOpenRecs ch ((f r :: rest).reverse)

/-- A record as it stands at the moment a shot starts or is decided (R197, R200). Flags 8–10 tell the tracker's state and the
selection; flag 6 the slot's NO_CORR; flag 7 a pair (R198). -/
def State.newRec (s : State) (sh : Shot) (outcome fault : Nat) : OpenRec :=
  { slot := sh.slot, cyl := sh.cyl, ch := sh.ch, cls := sh.cls, outcome := outcome, fault := fault
    cmdStart := sh.start, profile := sh.profile, actStart := s.out
    cycle := (s.trk s.sel).cycle, startTime := s.tclk, boostEnd := 0, endTime := 0
    flags := (if sh.noCorr then 64 else 0) ||| (if s.inPair sh.ch then 128 else 0) ||| (if s.trkState s.sel = 1 then 256 else 0) |||
      (if s.trkState s.sel = 5 then 512 else 0) ||| (if s.sel = 1 then 1024 else 0)
    corrD := s.get (Fld.WIT_CH_CORR_D sh.ch)
    startedAt := s.now, endAt := none, doneAt := none, peakUntil := none, windowOver := false, noClose := false
    standby := false }

/-- A refused or cancelled shot: its record closes in the tick of the decision (R199, R200). A shot that was cancelled, or refused
late, never fired: flags 8–10 tell nothing of it (DEDUCED, log entry 35). -/
def State.recordRefused (s : State) (sh : Shot) (outcome fault : Nat) : State :=
  let r := s.newRec sh outcome fault
  s.closeRecord (if outcome = 0xF || outcome = 0x9 then { r with flags := r.flags % 256 } else r) Measured.none

-- ── Detection (R201, R202) ────────────────────────────────────────────────────────────────────────────────────────

/-- A fraction with a positive denominator, for the searches' exact comparisons. -/
structure Frac where
  n : Int
  d : Nat

def Frac.le (a b : Frac) : Bool := a.n * b.d ≤ b.n * a.d
def Frac.sub (a b : Frac) : Frac := ⟨a.n * b.d - b.n * a.d, a.d * b.d⟩
def Frac.abs (a : Frac) : Frac := ⟨a.n.natAbs, a.d⟩
def Frac.add (a b : Frac) : Frac := ⟨a.n * b.d + b.n * a.d, a.d * b.d⟩

/-- g of R201 over the span of the `w` + 1 samples given, latest first: Δi / Δt / mean(v). `none` where the low-side switch did
not stay on, or the mean voltage or the time is not positive. -/
def slopeOf (w : Nat) (l : List Sample) : Option Frac :=
  match l.head?, (l.drop w).head? with
  | some k, some k0 =>
    let sp := l.take (w + 1)
    let vs := sp.foldl (fun a x => a + x.v) 0
    if (l.take w).all (·.on) && k0.t < k.t && 0 < vs then
      some ⟨(k.i - k0.i) * ((w : Int) + 1), (k.t - k0.t) * vs.toNat⟩
    else none
  | _, _ => none

/-- The state of the opening search (R201). -/
structure OpenSearch where
  gmin : Frac
  best : Nat
  found : Option (Nat × Nat)

/-- Confidence of R201: min(255, round(16 × (g − gmin) / σ)), σ never less than g0 / 1,024. -/
def openConfOf (diff sigma g0 : Frac) : Nat :=
  let floor0 : Frac := ⟨g0.n, g0.d * 1024⟩
  let sg := if Frac.le sigma floor0 then floor0 else sigma
  if sg.n ≤ 0 then 255 else
  Nat.min 255 (divRound (16 * diff.n.toNat * sg.d) (diff.d * sg.n.toNat))

/-- One evaluation of the opening search: `mid` is the candidate's time in ticks. -/
def openStep (dip thr cmin : Nat) (sigma g0 : Frac) (q : OpenSearch) (mid : Nat) (g : Frac) : OpenSearch :=
  if q.found.isSome then q else
  let gmin := if Frac.le g q.gmin then g else q.gmin
  let dipped := Frac.le ⟨gmin.n * 256, gmin.d⟩ ⟨g0.n * (256 - (dip : Int)), g0.d⟩
  let risen := Frac.le ⟨gmin.n * (256 + (thr : Int)), gmin.d⟩ ⟨g.n * 256, g.d⟩
  if dipped && risen then
    let conf := openConfOf (Frac.sub g gmin) sigma g0
    { q with gmin := gmin, best := Nat.max q.best conf, found := if cmin ≤ conf then some (mid, conf) else none }
  else { q with gmin := gmin }

/-- All evaluations of the window: the candidate's time and g, in order of time. The list holds the samples latest first. -/
def openEvals (w b e : Nat) : List Sample → List (Nat × Frac)
  | [] => []
  | k :: rest =>
    openEvals w b e rest ++
    (match slopeOf w (k :: rest), (rest.drop (w - 1)).head? with
     | some g, some k0 => if b ≤ k.t && k.t ≤ e then [(k.t - (k.t - k0.t) / 2, g)] else []
     | _, _ => [])

/-- σ of R201: the mean absolute difference between successive g over the first 8 evaluations. -/
def openSigma (l : List Frac) : Frac :=
  let f := l.take 8
  let ds := List.zipWith (fun a b => Frac.abs (Frac.sub b a)) f (f.drop 1)
  let sm := ds.foldl Frac.add ⟨0, 1⟩
  ⟨sm.n, sm.d * Nat.max 1 ds.length⟩

/-- The opening search (R201): OPEN_T in 10 ns and OPEN_CONF. `samples` in order of time. -/
def detectOpening (samples : List Sample) (b e w dip thr cmin : Nat) : Nat × Nat :=
  let ev := openEvals w b e samples.reverse
  if ev.length < 8 then (0xFFFFF, 0) else
  match ev with
  | [] => (0xFFFFF, 0)
  | (_, g0) :: _ =>
    let q := ev.foldl (fun q x => openStep dip thr cmin (openSigma (ev.map Prod.snd)) g0 q x.1 x.2)
      ⟨g0, 0, none⟩
    match q.found with
    | some (t, c) => (Nat.min 0xFFFFF (t / 4), c)
    | none => (0xFFFFF, q.best)

/-- The closing search (R202) over the usable samples of the close window, in order of time (ticks after END entry): CLOSE_T in
10 ns and CLOSE_CONF. -/
def detectClosing (l : List Sample) (w thr cmin : Nat) : Nat × Nat :=
  if l.length < 6 * w then (0xFFFFF, 0) else
  let idx := (List.range l.length).filter (fun k => 2 * w ≤ k)
  let v := fun k => ((l.drop k).headD ⟨0, 0, 0, false⟩).v
  let c := fun k => ((v k - v (k - w)) - (v (k - w) - v (k - 2 * w))).natAbs
  match idx with
  | [] => (0xFFFFF, 0)
  | k0 :: rest =>
    let kmax := rest.foldl (fun m k => if c m < c k then k else m) k0
    let outside := idx.filter (fun k => k + 2 * w < kmax || kmax + 2 * w < k)
    if outside = [] then (0xFFFFF, 0) else
    let sm := outside.foldl (fun a k => a + c k) 0
    let conf := if sm = 0 then 255 else Nat.min 255 (divRound (16 * c kmax * outside.length) sm)
    if cmin ≤ conf && thr ≤ c kmax then
      (Nat.min 0xFFFFF (((l.drop (kmax - w)).headD ⟨0, 0, 0, false⟩).t / 4), conf)
    else (0xFFFFF, conf)

/-- ENERGY in µJ: the sum of i × v × Δt over the sample pairs (R197). One current LSB is 15.625 mA and one voltage LSB 62.5 mV
(Electrical characteristics), so i × v × one tick is 1 / 409,600 µJ. -/
def energyOf (l : List Sample) : Int :=
  ((l.foldl (fun a x => (a.1 + x.i * x.v * ((x.t : Int) - (a.2 : Int)), x.t)) ((0 : Int), 0)).1) / 409600

/-- PEAK_I: the highest sampled current, in steps of 39.0625 mA, saturating at 2,047 (R197). -/
def peakOf (l : List Sample) : Nat :=
  Nat.min 2047 (divRound (2 * (l.foldl (fun a x => Nat.max a x.i.toNat) 0)) 5)

-- ── The chain (R213, R216) ────────────────────────────────────────────────────────────────────────────────────────

/-- H(0): the hash of the genesis block (R213). -/
def State.genesis (s : State) : List Byte :=
  sha256 ((s.sec.serial ++ zeros 16).take 16 ++ leBytes 4 s.sec.epoch ++ zeros 44)

/-- The value of the chain after the last stored digest. -/
def State.chainHead (s : State) : List Byte := if s.wit.index = 0 then s.genesis else s.wit.head

end Sys2Proof.Machine
end

