-- ==== Sys2Proof/Machine/Drive.lean ====
section
/-! DEFINITION. The output stage's shared operations: channels, banks and their claims (R141–R158), the phases of a profile
(R175–R194), starting, restarting and ending a shot, quench (R173), standby (R158). -/

namespace Sys2Proof.Machine

-- ── Channels and banks ────────────────────────────────────────────────────────────────────────────────────────────

def State.chan (s : State) (n : Nat) : Chan := spGet (fun _ => Chan.reset) s.chans n
def State.setChan (s : State) (n : Nat) (c : Chan) : State := { s with chans := spPut (fun _ => Chan.reset) s.chans n c }
def State.bank (s : State) (k : Nat) : Bank := spGet (fun _ => Bank.reset) s.banks k
def State.setBank (s : State) (k : Nat) (b : Bank) : State := { s with banks := spPut (fun _ => Bank.reset) s.banks k b }

/-- The channel's phase: DRV_CHn_STAT.PHASE, 0 idle, 1 BOOST, 2 PEAK, 3 DROP, 4 HOLD, 5 END, 6 ON/OFF conducting. -/
def State.phase (s : State) (n : Nat) : Nat := s.get (Fld.DRV_CH_STAT_PHASE n)

/-- An odd channel of an enabled pair (R103, R149). -/
def State.oddOfPair (s : State) (n : Nat) : Bool := n % 2 == 1 && s.inPair n

/-- The channel that stands for `n` in records, models and interrupt sources, whose switches the other of a pair follows: the even one
(R149). -/
def State.lead (s : State) (n : Nat) : Nat := if s.inPair n then n - n % 2 else n
/-- A pair compares the sum of both currents with twice each threshold (R184). -/
def State.share (s : State) (n : Nat) : Nat := if s.inPair n then 2 else 1

/-- The role of a pair member: 0 none, 1 cope, 2 drag (R236). -/
def State.role (s : State) : Nat := s.get Fld.FLO_PAIRSTAT_ROLE
def State.isDrag (s : State) : Bool := s.role == 2
def State.isCope (s : State) : Bool := s.role == 1

/-- A channel in fault: OC, SHORT_BAT, SHORT_GND or OPEN set (R153). -/
def State.chFault (s : State) (n : Nat) : Bool :=
  s.flag (Fld.DRV_CH_STAT_OC n) || s.flag (Fld.DRV_CH_STAT_SHORT_BAT n) || s.flag (Fld.DRV_CH_STAT_SHORT_GND n) ||
  s.flag (Fld.DRV_CH_STAT_OPEN n)
/-- A bank in fault: HS_OC or SHORT_GND set (R153). -/
def State.bankFault (s : State) (k : Nat) : Bool :=
  s.flag (Fld.DRV_BANKSTAT_HS_OC k) || s.flag (Fld.DRV_BANKSTAT_SHORT_GND k)
/-- The channels that carry the output of `n`: both of an enabled pair (R149). -/
def State.outputChans (s : State) (n : Nat) : List Nat := if s.inPair n then [n - n % 2, n - n % 2 + 1] else [n]
/-- The output of `n` is in fault: of a pair, either channel (R149, R153; DEDUCED, log entry 75). -/
def State.outFault (s : State) (n : Nat) : Bool := (s.outputChans n).any s.chFault
/-- The lowest fault class standing on an output and its bank (R153, R198). -/
def State.faultClass (s : State) (n : Nat) : Nat :=
  if (s.outputChans n).any (fun m => s.flag (Fld.DRV_CH_STAT_OC m)) then 1
  else if (s.outputChans n).any (fun m => s.flag (Fld.DRV_CH_STAT_SHORT_BAT m)) then 2
  else if (s.outputChans n).any (fun m => s.flag (Fld.DRV_CH_STAT_SHORT_GND m)) then 3
  else if (s.outputChans n).any (fun m => s.flag (Fld.DRV_CH_STAT_OPEN m)) then 4
  else if s.bankFault (bankOf n) then 5 else 0

/-- The standby settings of a channel (R158). -/
def State.stbySet (s : State) (n : Nat) : Bool := s.flag Fld.DRV_CTRL_STBY || s.flag (Fld.DRV_CH_CFG_STBY n)
/-- An output self-test has taken the channel, or its pair, out of standby (R395). -/
def State.underTest (s : State) (n : Nat) : Bool := s.tst.otCh == (if s.inPair n then n - n % 2 else n) + 1
/-- A channel in standby (R158, R395). -/
def State.inStandby (s : State) (n : Nat) : Bool := s.stbySet n && !s.underTest n
/-- Whether a channel can drive (R120). -/
def State.canDrive (s : State) (n : Nat) : Bool :=
  s.flag Fld.DRV_CTRL_EN && s.flag (Fld.DRV_CH_CFG_EN n) && !s.stbySet n

/-- Whether every output is held blocked: reset, THAW, BOOT, Frost, EN = 0, STBY = 1 (R157). -/
def State.allBlocked (s : State) : Bool :=
  s.pwr.inReset || s.get Fld.SYS_STATE_STATE ≤ 3 || !s.flag Fld.DRV_CTRL_EN || s.flag Fld.DRV_CTRL_STBY

-- ── Profiles ──────────────────────────────────────────────────────────────────────────────────────────────────────

/-- The active copy of profile `p` (R193, R194). -/
def State.activeProfile (s : State) (p : Nat) : Profile :=
  { cfg := s.word (Reg.PRF_ACT_CFG p), reg := s.word (Reg.PRF_ACT_REG p), boost := s.word (Reg.PRF_ACT_BOOST p)
    peak := s.word (Reg.PRF_ACT_PEAK p), drop := s.word (Reg.PRF_ACT_DROP p), hold := s.word (Reg.PRF_ACT_HOLD p)
    fin := s.word (Reg.PRF_ACT_END p), batt := s.word (Reg.PRF_ACT_BATT p) }

/-- The active copy that a start in this tick takes: an apply in the same tick comes after it (R194). -/
def State.startProfile (s : State) (p : Nat) : Profile :=
  match spGet (fun _ => none) s.drv.applied p with
  | some (t, old) => if t = s.now then old else s.activeProfile p
  | none => s.activeProfile p

def Profile.onoff (p : Profile) : Bool := fieldOf (Fld.PRF_CFG_ONOFF 0) p.cfg == 1
def Profile.band (p : Profile) : Nat := fieldOf (Fld.PRF_REG_BAND 0) p.reg
def Profile.boostT (p : Profile) : Nat := fieldOf (Fld.PRF_BOOST_T 0) p.boost
def Profile.dropT (p : Profile) : Nat := fieldOf (Fld.PRF_DROP_T 0) p.drop
def Profile.holdT (p : Profile) : Nat := fieldOf (Fld.PRF_HOLD_T 0) p.hold
/-- The PEAK time limit; the battery-only variant's own when it has one (R191). -/
def Profile.peakT (p : Profile) (batt : Bool) : Nat :=
  if batt && fieldOf (Fld.PRF_BATT_PEAK_T 0) p.batt != 0 then fieldOf (Fld.PRF_BATT_PEAK_T 0) p.batt
  else fieldOf (Fld.PRF_PEAK_T 0) p.peak
def Profile.sp (p : Profile) (ph : Nat) : Nat :=
  if ph = 1 then fieldOf (Fld.PRF_BOOST_SP 0) p.boost else if ph = 2 then fieldOf (Fld.PRF_PEAK_SP 0) p.peak
  else if ph = 3 then fieldOf (Fld.PRF_DROP_SP 0) p.drop else if ph = 4 then fieldOf (Fld.PRF_HOLD_SP 0) p.hold else 0
/-- The END threshold; 0 acts as 1 (R187). -/
def Profile.endI (p : Profile) : Nat := Nat.max 1 (fieldOf (Fld.PRF_END_END_I 0) p.fin)
def Profile.endT (p : Profile) : Nat := fieldOf (Fld.PRF_END_END_T 0) p.fin
/-- Minimum on and off times in ticks: 10 ns units, 0 acts as 1 (R183). -/
def Profile.minOn (p : Profile) : Nat := 4 * Nat.max 1 (fieldOf (Fld.PRF_REG_MIN_ON 0) p.reg)
def Profile.minOff (p : Profile) : Nat := 4 * Nat.max 1 (fieldOf (Fld.PRF_REG_MIN_OFF 0) p.reg)
/-- The decay of a phase is FAST: its entry mode until the lower threshold has been reached, its chop mode after (R185). -/
def Profile.fast (p : Profile) (ph : Nat) (chop : Bool) : Bool :=
  (if ph = 2 then fieldOf (if chop then Fld.PRF_CFG_PEAK_CHOP 0 else Fld.PRF_CFG_PEAK_ENTRY 0) p.cfg
   else if ph = 3 then fieldOf (if chop then Fld.PRF_CFG_DROP_CHOP 0 else Fld.PRF_CFG_DROP_ENTRY 0) p.cfg
   else fieldOf (if chop then Fld.PRF_CFG_HOLD_CHOP 0 else Fld.PRF_CFG_HOLD_ENTRY 0) p.cfg) == 1
def Profile.endSlow (p : Profile) : Bool := fieldOf (Fld.PRF_CFG_END_SLOW 0) p.cfg == 1

/-- A profile that needs a boost phase: not ON/OFF, not the battery-only variant, and a BOOST time limit (R175, R190, R191). -/
def Profile.needsBoost (p : Profile) (batt : Bool) : Bool := !p.onoff && !batt && p.boostT != 0

/-- The phase that follows `ph` in the sequence, skipping the phases whose limit is 0 (R175). `ph` = 0 gives the first. -/
def Profile.after (p : Profile) (batt : Bool) (ph : Nat) : Nat :=
  if p.onoff then (if ph = 0 then 6 else 5)
  else if ph = 0 ∧ !batt ∧ p.boostT ≠ 0 then 1
  else if ph < 2 ∧ p.peakT batt ≠ 0 then 2
  else if ph < 3 ∧ p.dropT ≠ 0 then 3
  else if ph < 4 then 4 else 5

/-- The phase `e` ticks after a start in which every phase lasts to its time limit; 5 once it is over (R175, R178). -/
def Profile.phaseAt (p : Profile) (batt : Bool) (e : Nat) : Nat :=
  let boost := if batt then 0 else 4 * p.boostT
  let peak := boost + 4 * p.peakT batt
  let drop := peak + 4 * p.dropT
  if p.onoff then (if p.holdT = 0 ∨ e < 4 * p.holdT then 6 else 5)
  else if e < boost then 1 else if e < peak then 2 else if e < drop then 3 else if p.holdT = 0 ∨ e < drop + 4 * p.holdT then 4 else 5

/-- The time limit of a phase in ticks; `none` where it has none (R175, R178, R190). -/
def Profile.limit (p : Profile) (batt : Bool) (ph : Nat) : Option Nat :=
  if ph = 1 then some (4 * p.boostT) else if ph = 2 then some (4 * p.peakT batt) else if ph = 3 then some (4 * p.dropT)
  else if (ph = 4 ∨ ph = 6) ∧ p.holdT ≠ 0 then some (4 * p.holdT) else none

-- ── Claims (R143–R146) ────────────────────────────────────────────────────────────────────────────────────────────

/-- A claim of a profile from phase `ph` on, in units of 7.8125 mA (one code of R177 is 5 units, 0.5 A is 64): the largest
setpoint of PEAK, DROP and HOLD still to run, doubled for a pair; ICLAIM for an ON/OFF profile (R143). -/
def State.claimFrom (s : State) (n : Nat) (p : Profile) (batt : Bool) (ph : Nat) : Nat :=
  if p.onoff then 64 * s.get (Fld.DRV_CH_CFG_ICLAIM n) else
  let pk := if ph ≤ 2 ∧ p.peakT batt ≠ 0 then p.sp 2 else 0
  let dr := if ph ≤ 3 ∧ p.dropT ≠ 0 then p.sp 3 else 0
  5 * (if s.inPair n then 2 else 1) * Nat.max pk (Nat.max dr (p.sp 4))

/-- Whether a channel occupies its bank: from its shot's start until END (R143). -/
def State.occupies (s : State) (n : Nat) : Bool := (1 ≤ s.phase n && s.phase n ≤ 4) || s.phase n == 6

/-- The last SHOT cell of a channel (R243). -/
def State.shotCellOf (s : State) (n : Nat) : Option ShotCell := spGet (fun _ => none) s.flo.shotCells n
def State.putShotCell (s : State) (n : Nat) (c : Option ShotCell) : State :=
  { s with flo := { s.flo with shotCells := spPut (fun _ => none) s.flo.shotCells n c } }

/-- The phase that a mirrored shot is in: its last SHOT cell's, or that of the drag's own arbitration, whose phases end at their time limits
(R246, R256; DESIGN CHOICE, log entry 87). -/
def State.cellPhase (s : State) (c : ShotCell) : Nat :=
  if c.virtual then (s.activeProfile c.profile).phaseAt c.batt ((s.domTime - c.tStart) / 16) else c.phase

/-- A mirrored shot occupies the bank from its T_START until it ends (R246, R256). -/
def State.mirrorHolds (s : State) (n : Nat) : Option ShotCell :=
  match (s.shotCellOf n).map (fun c => { c with phase := s.cellPhase c }) with
  | none => none
  | some c =>
    let past := if c.timeEnd then decide (c.tStart + 64 * c.endVal ≤ s.domTime) else s.atOrBeyond c.endVal
    if s.inStandby n && ((1 ≤ c.phase && c.phase ≤ 4) || c.phase == 6) && !past then some c else none

/-- Whether a channel occupies its bank, by its own drive or, in standby, by its partner's (R143, R246). -/
def State.holdsBank (s : State) (n : Nat) : Bool := s.occupies n || (s.mirrorHolds n).isSome

/-- The present claim of a channel; 0 when it does not occupy its bank. -/
def State.claimOf (s : State) (n : Nat) : Nat :=
  if s.occupies n then (s.chan n).claim
  else match s.mirrorHolds n with
    | some c => s.claimFrom n (s.activeProfile c.profile) c.batt c.phase
    | none => 0

/-- The channels of a bank. -/
def bankChans (k : Nat) : List Nat := (List.range 6).map (6 * k + ·)

/-- Occupants of a bank and the sum of their claims, leaving one channel out (R144, R147). -/
def State.occupants (s : State) (k skip : Nat) : Nat :=
  ((bankChans k).filter (fun n => n ≠ skip && s.holdsBank n)).length
def State.claims (s : State) (k skip : Nat) : Nat :=
  ((bankChans k).filter (· ≠ skip)).foldl (fun a n => a + s.claimOf n) 0

/-- 40 A in units of 7.8125 mA. -/
def claimMax : Nat := 5120

/-- The second and third conditions of R144 for a shot of claim `c` on channel `n`; the channel's own claim is left out
(R145, R147). -/
def State.bankAdmits (s : State) (n c : Nat) : Bool :=
  s.occupants (bankOf n) n < 3 && s.claims (bankOf n) n + c ≤ claimMax

/-- Whether a channel of the bank is in BOOST, by its own drive or, in standby, by its partner's (R144, R246). -/
def State.boosting (s : State) (k : Nat) : Bool :=
  (bankChans k).any (fun n => s.phase n == 1 || ((s.mirrorHolds n).map (·.phase)) == some 1)

-- ── Thermal reduction of HOLD (R170) ──────────────────────────────────────────────────────────────────────────────

/-- The hold factor of the coil's thermal step, as a quotient (R169). -/
def State.holdFactor (s : State) (n : Nat) : Nat × Nat :=
  let m := s.get (Fld.DRV_CH_CFG_TMODEL n)
  let hmin := s.get (Fld.DRV_TMODEL_T_HMIN m)
  let t1 := s.get (Fld.DRV_TMODEL_T_T1 m)
  let t2 := s.get (Fld.DRV_TMODEL_T_T2 m)
  let step := s.get (Fld.DRV_CH_STAT_TSTEP n)
  if step = 0 then (1, 1)
  else if step = 1 then
    let dt : Nat := ((s.chan n).tw - (t1 : Int) * 1000000000).toNat
    let span := (t2 - t1) * 1000000000
    if span = 0 then (hmin, 100) else (100 * span - Nat.min dt span * (100 - hmin), 100 * span)
  else (hmin, 100)

/-- The HOLD code in force at an entry to HOLD: the factor of the step times the calving cut of stage C5 (R170). -/
def State.holdCode (s : State) (n code : Nat) : Nat :=
  let f := s.holdFactor n
  let cut := if 5 ≤ s.get Fld.PWR_STAT_STAGE then s.get Fld.PWR_CALVCFG_HOLDCUT else 100
  divRound (code * f.1 * cut) (f.2 * 100)

-- ── Phase changes ─────────────────────────────────────────────────────────────────────────────────────────────────

/-- Switches a channel's low-side switch; the falling current takes the decay path named (R181, R185, R186). -/
def State.setLow (s : State) (n : Nat) (on fast : Bool) : State :=
  let c := s.chan n
  if c.lowSide = on then s.setChan n { c with fastDecay := fast }
  else s.setChan n { c with lowSide := on, lowAt := s.now, fastDecay := fast }

/-- FAST decay unless CLAMP_SLOW replaces it (R164, R186). -/
def State.decayFast (s : State) (fast : Bool) : Bool := fast && !s.flag Fld.DRV_STAT_CLAMP_SLOW

/-- Marks in the open record that a FAST decay or END begins: SHARED_NODE while another channel of the bank holds the node,
SLOW_FORCED when CLAMP_SLOW replaced FAST (R142, R198). -/
def State.noteDecay (s : State) (n : Nat) (wantFast : Bool) : State :=
  let shared := (bankChans (bankOf n)).any (fun m => m ≠ n && s.occupies m)
  let bits := (if shared && (s.decayFast wantFast || s.phase n == 5) then 8 else 0) ||| (if wantFast && s.flag Fld.DRV_STAT_CLAMP_SLOW then 16 else 0)
  s.modRec n (fun r => { r with flags := r.flags ||| bits })

/-- Channel `n` begins to hold the node of its bank: the other channels whose current falls in FAST decay or END take
SHARED_NODE (R142, R198). -/
def State.shareNode (s : State) (n : Nat) : State :=
  ((bankChans (bankOf n)).filter (fun m => m ≠ n && s.phase m != 0 && !(s.chan m).lowSide && ((s.chan m).fastDecay || s.phase m == 5))).foldl
    (fun s m => s.modRec m (fun r => { r with flags := r.flags ||| 8 })) s

/-- A MIRROR cell of subtype SHOT is due whenever a channel starts, restarts or changes phase (R243); the Floe block takes the
channels named here. -/
def State.mirrorShot (s : State) (n : Nat) : State :=
  if s.isCope then { s with shotMirror := s.shotMirror ++ [n] } else s

/-- The channel's present or next decision: every 10 ns from the shot's first one (R179). -/
def State.nextDecision (s : State) (n : Nat) : Nat := s.now + (4 - (s.now - (s.chan n).gridAt) % 4) % 4
/-- The channel makes a decision in this tick (R179), unless a handover holds its switch states (R250). -/
def State.decides (s : State) (n : Nat) : Bool := s.nextDecision n == s.now && !(s.chan n).held

/-- The channel enters a phase (R175): setpoint, time, switch, claim (R143). A current that falls already takes the entry decay of the
new phase (R185). -/
def State.enterPhase (s : State) (n ph : Nat) : State :=
  let c := s.chan n
  let code := if ph = 4 then s.holdCode n (c.prof.sp 4) else c.prof.sp ph
  let s1 := (s.set (Fld.DRV_CH_STAT_PHASE n) ph).set (Fld.PRF_CH_STAT_SP n) code
  let s2 := s1.setChan n { c with
    phaseAt := s.nextDecision n, chopping := false, claim := s.claimFrom n c.prof ((c.shot.map (·.batt)).getD false) ph }
  let s3 := if ph = 1 ∨ ph = 6 then s2.setLow n true false
            else if (s2.chan n).lowSide then s2
            else (s2.setLow n false (s2.decayFast (c.prof.fast ph false))).noteDecay n (c.prof.fast ph false)
  let s4 := if ph = 4 then s3.modRec n (fun r => { r with
      flags := if code < c.prof.sp 4 then r.flags ||| 2048 else r.flags
      peakUntil := match r.peakUntil with | none => some s.now | some t => some t }) else s3
  s4.mirrorShot n

/-- The channel enters END (R176, R186): the bank is released, the event line of IRQ_END is raised (R101), the record takes
END_TIME (R197). -/
def State.enterEnd (s : State) (n : Nat) : State :=
  let c := s.chan n
  if s.phase n = 0 ∨ s.phase n = 5 then s else
  let s1 := ((s.set (Fld.DRV_CH_STAT_PHASE n) 5).setChan n { c with phaseAt := s.now, endAt := none, held := false })
  let s2 := s1.setLow n false (s.decayFast (!c.prof.endSlow))
  let s3 := s2.modRec n (fun r => { r with
      endTime := Nat.min 0xFFFFFF ((s.now - c.startAt) / 4), endAt := some s.now
      peakUntil := match r.peakUntil with | none => some s.now | some t => some t
      boostEnd := if s.phase n = 1 then Nat.min 65535 ((s.now - c.startAt) / 4) else r.boostEnd })
  let s4 := s3.noteDecay n (!c.prof.endSlow)
  let s5 := match c.shot with
    | some sh => if sh.irqEnd then s4.irq (48 + sh.line) else s4
    | none => s4
  s5.mirrorShot n

/-- The channel goes idle: its switches block (R187). -/
def State.goIdle (s : State) (n : Nat) : State :=
  let c := s.chan n
  ((s.set (Fld.DRV_CH_STAT_PHASE n) 0).setChan n
    { c with shot := none, endAt := none, held := false, lowSide := false, lowAt := s.now, fastDecay := false }).mirrorShot n

/-- Quench (R173): every running channel enters END. -/
def State.quench (s : State) : State := (List.range 48).foldl (fun s n => s.enterEnd n) s

/-- A protection of R152 turns a channel off: it enters END; a boost phase that it held is free from the next tick on (R148). -/
def State.protEnd (s : State) (n : Nat) : State :=
  (if s.phase n = 1 then s.setBank (bankOf n) { s.bank (bankOf n) with freeAt := s.now + 1 } else s).enterEnd n

-- ── Boost queue bookkeeping ───────────────────────────────────────────────────────────────────────────────────────

def State.queue (s : State) (k : Nat) : List Shot := (s.bank k).queue
def State.setQueue (s : State) (k : Nat) (q : List Shot) : State := s.setBank k { s.bank k with queue := q }

/-- Whether a shot waits for the grant on a channel (DRV_CHn_STAT.WAIT). -/
def State.waitsOn (s : State) (n : Nat) : Bool := (s.queue (bankOf n)).any (fun w => w.ch == n)

/-- A shot ends refused: source 67, its record closes (R121, R122, R199). -/
def State.refuseShot (s : State) (sh : Shot) (outcome fault : Nat) : State := (s.recordRefused sh outcome fault).irq 67

/-- Waiting shots for which `p` holds end REFUSED_FAULT (R148). -/
def State.refuseWaiting (s : State) (p : Shot → Bool) : State :=
  (List.range 8).foldl (fun s k =>
    ((s.queue k).filter p).foldl (fun s w => s.refuseShot w 0xD (s.faultClass w.ch))
      (s.setQueue k ((s.queue k).filter (fun w => !p w)))) s

-- ── Standby (R158) ────────────────────────────────────────────────────────────────────────────────────────────────

/-- An off-state test of the bank is aborted (R155, R156). -/
def State.abortOffTest (s : State) (k : Nat) : State :=
  if (s.bank k).testStep = 0 then s
  else (s.setBank k { s.bank k with testStep := 0, reads := [] }).set (Fld.DRV_BANKSTAT_DIAG_RUN k) 0

/-- A channel stops driving at a standby entry: no END, its profile state is dropped, its record takes the standby entry as
END_TIME and closes without closing detection (R158, R199); a BOOST ends with it (R197). Its waiting shots end REFUSED_FAULT (R148), and
an off-state test of its bank is aborted (R155). -/
def State.standbyEntry (s : State) (n : Nat) : State :=
  let c := s.chan n
  let run := s.phase n ≠ 0
  let s1 := if run then
      let s2 := s.modRec n (fun r => { r with
        boostEnd := if s.phase n == 1 then Nat.min 65535 ((s.now - c.startAt) / 4) else r.boostEnd
        endTime := if r.endAt.isNone then Nat.min 0xFFFFFF ((s.now - c.startAt) / 4) else r.endTime
        endAt := some (r.endAt.getD s.now), doneAt := some s.now, windowOver := true, noClose := true })
      let s3 := match c.shot with
        | some sh => if sh.irqEnd && s.phase n != 5 then s2.irq (48 + sh.line) else s2
        | none => s2
      s3.goIdle n
    else s
  (s1.refuseWaiting (fun w => w.ch == n)).abortOffTest (bankOf n)

/-- FOREIGN is masked on a bank for DRV_STBY.OVL after a standby entry or exit (R160). -/
def State.maskForeign (s : State) (k : Nat) : State :=
  s.setBank k { s.bank k with maskUntil := s.now + 4 * s.get Fld.DRV_STBY_OVL }

/-- What a change of the standby settings does to channel `n`, which was in standby before when `was` (R158, R160). -/
def State.standbyChange (s : State) (was : Bool) (n : Nat) : State :=
  if was = s.inStandby n then s
  else if s.inStandby n then (s.standbyEntry n).maskForeign (bankOf n)
  else s.maskForeign (bankOf n)

/-- The standby settings of all channels have changed from those of `s0`. -/
def State.standbyAll (s s0 : State) : State := (List.range 48).foldl (fun s n => s.standbyChange (s0.inStandby n) n) s

/-- Writes DRV_CTRL.STBY as the pair logic or the firmware does (R157, R236); in BENCH it stays 1 (R395). -/
def State.writeStby (s : State) (b : Bool) : State :=
  (s.setFlag Fld.DRV_CTRL_STBY (b || s.get Fld.SYS_STATE_STATE == 9)).standbyAll s

-- ── Starting a shot (R119, R143, R192, R194) ──────────────────────────────────────────────────────────────────────

/-- The applied correction of a TIME-ended shot in direct mode, in 10 ns: D clamped to ±LIMIT percent of the duration, rounded
toward zero; and whether it was clamped (R205). -/
def State.appliedCorr (s : State) (ch dur : Nat) : Int × Bool :=
  let d := toSigned 16 (s.get (Fld.WIT_CH_CORR_D ch))
  let lim : Int := (dur * s.get Fld.WIT_CORR_LIMIT / 100 : Nat)
  let v := clampInt (-lim) lim d
  (v, v != d)

/-- An armed waveform capture takes the next shot on its channel (R211); from calving stage C1 none is made (R332). -/
def State.startCapture (s : State) (n : Nat) : State :=
  if s.get Fld.PWR_STAT_STAGE = 0 && s.flag Fld.WIT_WAVE_ARM && s.get Fld.WIT_WAVE_CH == n then
    { s.setFlag Fld.WIT_WAVE_ARM false with wit := { s.wit with capturing := some s.now, waveCut := none, wave := [], waveCh := n } }
  else s

/-- The earlier shot of a restart becomes MERGED (R119, R192): its record is due without closing detection. The spec states no
END_TIME of a shot that never entered END: a free value (log entry 30). A BOOST ends with the shot. -/
def State.mergeRunning (s : State) (n : Nat) : State :=
  let c := s.chan n
  let ph := s.phase n
  let e := s.freeIf (ph != 5) 24 0
  let s2 := e.2.modRec n (fun r => { r with outcome := 3, doneAt := some s.now, windowOver := true, noClose := true
                                            endTime := if ph != 5 then e.1 else r.endTime
                                            boostEnd := if ph == 1 then Nat.min 65535 ((s.now - c.startAt) / 4) else r.boostEnd
                                            endAt := some (r.endAt.getD s.now) })
  let s3 := match c.shot with
    | some old => if old.irqEnd && ph != 5 then s2.irq (48 + old.line) else s2
    | none => s2
  s3.addWrap (Fld.PRF_CH_STAT_RESTARTS n) 1

/-- A new shot starts while the last record's close window runs: the window ends, and TRUNC sets (R199). Without detection there is none
(R445). -/
def State.cutWindow (s : State) (n : Nat) : State :=
  s.modRec n (fun r =>
    if r.windowOver || !s.flag Fld.WIT_CTRL_EN then r
    else match r.endAt with
      | some e =>
        if s.passed e (40 * s.get (Fld.WIT_DET_CW_CLOSE_END r.profile)) then { r with windowOver := true }
        else { r with windowOver := true, cutAt := some s.now, flags := r.flags ||| 16384 }
      | none => r)

/-- The shot starts on its channel, or restarts the channel when it is running (R119, R192): the earlier shot becomes MERGED
and its record is due to close without closing detection. `outcome` is the one the new shot carries. -/
def State.startShot (s : State) (sh : Shot) (outcome : Nat) : State :=
  let n := sh.ch
  let p := s.startProfile sh.profile
  let running := s.phase n ≠ 0
  -- the earlier shot: MERGED (R119), or its close window is cut short (R199)
  let s1 := if running then s.mergeRunning n
    else s.cutWindow n
  let s4 := s1.abortOffTest (bankOf n)
  -- the correction of R205
  let direct := sh.timeEnd && !sh.noCorr && s4.flag Fld.WIT_CTRL_EN && s4.flag Fld.WIT_CTRL_CORR_DIRECT &&
    !s4.flag Fld.SCH_CTRL_DEMAND && s4.flag (Fld.WIT_CH_CFG_CORR_EN n)
  let corr := s4.appliedCorr n sh.endVal
  let s5 := if !direct then s4
            else if corr.2 then (s4.setFlag (Fld.WIT_CH_STAT_SAT n) true).irq 153
            else s4.setFlag (Fld.WIT_CH_STAT_SAT n) false
  let dur : Nat := if direct then ((sh.endVal : Int) + corr.1).toNat else sh.endVal
  -- the new shot
  let s6 := s5.setChan n { s5.chan n with
    shot := some sh, prof := p, startAt := s.now, phaseAt := s.now, chopping := false, held := false, outcome := outcome
    gridAt := if running then (s5.chan n).gridAt else s.now
    endAt := if sh.timeEnd then some (s.now + 4 * dur) else none
    openDone := s.get (Fld.DRV_CH_CFG_OPEN_T n) == 0 }
  let s7 := (((((s6.set (Fld.PRF_CH_STAT_END_OVER n) 0).set (Fld.PRF_CH_STAT_PEAK_MISS n) 0).set
    (Fld.PRF_CH_STAT_PROFILE n) sh.profile).setFlag (Fld.PRF_CH_STAT_BATT n) sh.batt).setFlag
    (Fld.PRF_CH_STAT_ONOFF n) p.onoff)
  let rec0 := s7.newRec sh outcome 0
  let flags := rec0.flags ||| (if sh.batt then 1 else 0) ||| (if running then 32 else 0)
  let s8 := s7.setOpenRecs n (s7.openRecs n ++ [{ rec0 with flags := flags }])
  let s9 := s8.enterPhase n (p.after sh.batt 0)
  -- a regulated start from rest turns the low-side switch on: the current is at or below the lower threshold (R181, R185)
  let s10 := if running then s9 else (s9.setChan n { s9.chan n with chopping := true }).setLow n true false
  let s11 := (s10.shareNode n).startCapture n
  if sh.irqStart then s11.irq (48 + sh.line) else s11

end Sys2Proof.Machine
end

