-- ==== Sys2Proof/Machine/FloeBase.lean ====
section
/-! DEFINITION. The Floe block's shared operations: cells and their queues (R221–R226), domain time (R229), MIRROR cells (R243),
the ARB line (R237, R238) and requests for a handover (R248). -/

namespace Sys2Proof.Machine

-- ── Ports and cells ───────────────────────────────────────────────────────────────────────────────────────────────

def State.floPort (s : State) (p : Nat) : FloPort := spGet (fun _ => FloPort.reset) s.flo.ports p
def State.setFloPort (s : State) (p : Nat) (x : FloPort) : State :=
  { s with flo := { s.flo with ports := spPut (fun _ => FloPort.reset) s.flo.ports p x } }

/-- Whether the Floe block runs: its clock gate and FLO_CTRL.EN. -/
def State.floeOn (s : State) : Bool := s.flag Fld.CLK_GATE0_FLO && s.flag Fld.FLO_CTRL_EN
/-- Whether port `p` is UP (R219). -/
def State.portUp (s : State) (p : Nat) : Bool := s.get (Fld.FLO_PORT_STAT_STATE p) == 4

/-- A port goes DOWN (R219): UP shows which ports are UP; source 224 + p when it was UP. -/
def State.portDown (s : State) (p : Nat) : State :=
  let s1 := (s.set (Fld.FLO_PORT_STAT_STATE p) 0).setBit Fld.FLO_STAT_UP p false
  if s.portUp p then s1.irq (224 + p) else s1

/-- Whether a port may run: the block, its clock, FPLL lock, EN, and no run of the test block on it. -/
def State.portMay (s : State) (p : Nat) : Bool :=
  s.floeOn && s.bit Fld.CLK_GATE1_FLP p && s.flag Fld.CLK_STAT_FPLL_LOCK && s.flag (Fld.FLO_PORT_CTRL_EN p)

/-- Ports that may run no more go DOWN; those that may leave DOWN for DETECT (R219). -/
def State.sweepPorts (s : State) : State :=
  (List.range 4).foldl (fun s p =>
    let st := s.get (Fld.FLO_PORT_STAT_STATE p)
    if !s.portMay p then (if st = 0 then s else s.portDown p)
    else if st = 0 then s.set (Fld.FLO_PORT_STAT_STATE p) 1 else s) s

/-- A dropped cell: its counter and source 228 (R223). -/
def State.dropCell (s : State) (f : FReg) : State := (s.addWrap f 1).irq 228

/-- The header of a cell; reserved bits are 0 (R221). -/
def cellHeader (c : Cell) : Nat :=
  c.dst + c.src * 2 ^ 12 + c.typ * 2 ^ 24 + c.hops * 2 ^ 28 + c.prio * 2 ^ 33 + c.seq * 2 ^ 36 + c.payload.length * 2 ^ 52 +
  (if c.mc then 2 ^ 58 else 0) + (if c.bc then 2 ^ 59 else 0)
/-- The 64 bytes of a cell (R221): the header, the payload filled up with 0, the CRC-32C of both. -/
def cellBytes (c : Cell) : List Byte :=
  let b := leBytes 8 (cellHeader c) ++ c.payload ++ zeros (52 - c.payload.length)
  b ++ leBytes 4 (crc32c b).toNat
/-- LEN, and whether the CRC of 64 received bytes is right (R221, R223). -/
def cellLen (b : List Byte) : Nat := bitsAt (leAt b 0 8) 52 6
def cellCrcOk (b : List Byte) : Bool := (crc32c (b.take 60)).toNat == leAt b 60 4
/-- The cell that 64 bytes spell; payload bytes beyond LEN are ignored (R221). -/
def readCell (b : List Byte) : Cell :=
  let h := leAt b 0 8
  { dst := bitsAt h 0 12, src := bitsAt h 12 12, typ := bitsAt h 24 4, hops := bitsAt h 28 5, prio := bitsAt h 33 3, seq := bitsAt h 36 16
    mc := h.testBit 58, bc := h.testBit 59, payload := ((b.drop 8).take 52).take (cellLen b) }

/-- SUB of an ANGLE cell: 0 EDGE, 1 SYNC, 2 and 3 delay exchanges (R233). -/
def cellSub (c : Cell) : Nat := byteAt c.payload 0 % 16
/-- A delay exchange, which stays on its link (R222, R233). -/
def linkLocal (c : Cell) : Bool := c.typ == 1 && (cellSub c == 2 || cellSub c == 3)

/-- A cell is taken in for this node. -/
def State.deliver (s : State) (link : Nat) (c : Cell) : State := { s with flo := { s.flo with inq := s.flo.inq ++ [(link, c)] } }

/-- The place of the newest cell of the lowest priority present in a queue, if that priority is below 7 (R224). -/
def lowestCell (q : List Cell) : Option Nat :=
  let low := q.foldl (fun m c => Nat.min m c.prio) 7
  if low = 7 then none else (q.zipIdx.filter (fun c => c.1.prio == low)).getLast?.map Prod.snd

/-- A cell enters the queue of an output port (R224): 32 cells; a cell of priority 7 displaces the newest cell of the lowest
priority present; any other cell that finds the queue full is dropped. -/
def State.enqueue (s : State) (p : Nat) (c : Cell) : State :=
  let x := s.floPort p
  if x.queue.length < 32 then s.setFloPort p { x with queue := x.queue ++ [c] }
  else if c.prio = 7 then
    match lowestCell x.queue with
    | some k => (s.setFloPort p { x with queue := x.queue.eraseIdx k ++ [c] }).dropCell Fld.FLO_DROP_QFULL
    | none => s.dropCell Fld.FLO_DROP_QFULL
  else s.dropCell Fld.FLO_DROP_QFULL

/-- The output port of a node (R225) and the port mask of a domain (R226). -/
def State.routeOf (s : State) (node : Nat) : Nat := (s.get (Fld.FLO_RT_PORT (node / 16)) >>> (2 * (node % 16))) % 4
def State.maskOf (s : State) (dom : Nat) : Nat := (s.get (Fld.FLO_MC_MASK (dom / 8)) >>> (4 * (dom % 8))) % 16

def State.paired (s : State) : Bool := s.flag Fld.FLO_PAIR_EN
def State.partner (s : State) : Nat := s.get Fld.FLO_PAIR_PARTNER

/-- Whether the node acts on a cell delivered to it: delay exchanges are the ports' own (R230), MIRROR and HEART cells come from the
partner (R222). -/
def State.takes (s : State) (c : Cell) : Bool :=
  (c.typ == 1 && cellSub c ≤ 1) || (c.typ == 2 && s.paired && c.src == s.partner && inRange 1 0xD (byteAt c.payload 0)) ||
  (c.typ == 3 && s.paired && c.src == s.partner) || inRange 4 7 c.typ

/-- A unicast cell for the node's own ID is delivered here; any other leaves on the port its routing entry names, or is dropped when that
port is not UP (R225). -/
def State.sendUnicast (s : State) (c : Cell) : State :=
  if c.dst = s.get Fld.FLO_NODE_NODE_ID then (if s.takes c then s.deliver 4 c else s)
  else if s.portUp (s.routeOf c.dst) then s.enqueue (s.routeOf c.dst) c else s.dropCell Fld.FLO_DROP_ROUTE

/-- A cell leaves on every port of a mask that is UP, but for the one it came by (R226). `skip` = 4 skips none. -/
def State.sendMask (s : State) (mask skip : Nat) (c : Cell) : State :=
  (List.range 4).foldl (fun s p => if mask.testBit p && p != skip && s.portUp p then s.enqueue p c else s) s

/-- Sends a cell by its addressing. -/
def State.sendCell (s : State) (skip : Nat) (c : Cell) : State :=
  if c.bc then s.sendMask 15 skip c
  else if c.mc then s.sendMask (s.maskOf c.dst) skip c
  else s.sendUnicast c

/-- Priority of a cell type (R222). -/
def cellPrio (typ : Nat) : Nat :=
  if typ = 1 ∨ typ = 3 then 7 else if typ = 2 then 6 else if typ = 4 then 3 else if typ = 5 then 1 else if typ = 6 then 4 else 5

/-- The node forms and sends a cell of its own; SEQ counts per type (R221). -/
def State.emitCell (s : State) (typ dst : Nat) (mc bc : Bool) (payload : List Byte) : State :=
  if !s.floeOn then s else
  let q := spGet (fun _ => 0) s.flo.seqOut typ
  let s1 := { s with flo := { s.flo with seqOut := spPut (fun _ => 0) s.flo.seqOut typ ((q + 1) % 65536) } }
  s1.sendCell 4 { dst := dst, src := s.get Fld.FLO_NODE_NODE_ID, typ := typ, hops := 0, prio := cellPrio typ, seq := q
                  mc := mc, bc := bc, payload := payload }

-- ── Domain time (R229) ────────────────────────────────────────────────────────────────────────────────────────────

/-- Whether this device is the domain's angle master. -/
def State.domMaster (s : State) : Bool := s.flag Fld.FLO_STAT_DOM_MASTER

/-- The master sends an EDGE cell (R233). -/
def State.edgeCell (s : State) : State :=
  if !s.domMaster then s else
  let x := s.sel
  let t := s.trk x
  let tNext : Nat := if t.rate = 0 then 4294967295
    else Nat.min 4294967295 ((accDist t.acc (s.theta x (s.nextN x) * fracOne)).toNat / t.rate)
  s.emitCell 1 (s.get Fld.FLO_NODE_DOMAIN) true false
    (leBytes 1 (16 * s.trkState x) ++
     leBytes 1 ((if s.trkReverse x then 1 else 0) + (if s.outOk then 2 else 0) + (if s.voter.slew != 0 then 4 else 0)) ++
     leBytes 2 (s.nextN x) ++ leBytes 4 t.cycle ++ leBytes 8 s.domTime ++ leBytes 8 s.outAcc ++ leBytes 8 t.rate ++
     leBytes 4 tNext)

-- ── The pair ──────────────────────────────────────────────────────────────────────────────────────────────────────

/-- TAKE_READY (R247). -/
def State.takeReady (s : State) : Bool :=
  s.isDrag && (s.get Fld.SYS_STATE_STATE == 5 || s.get Fld.SYS_STATE_STATE == 6) && s.flag Fld.DRV_CTRL_EN &&
  s.flag Fld.FLO_PAIRSTAT_MIRROR_SYNC && s.flag Fld.FLO_PAIRSTAT_CFG_MATCH && !s.flag Fld.FLO_STAT_DOM_DIS &&
  s.passed s.flo.holdoffUntil 0

/-- The MIRROR subtypes that a full copy is made of (R245). -/
def copySubs : List Nat := [1, 5, 6, 7, 0xC]

/-- A MIRROR cell to the partner; those that a full copy is made of are counted (R245). -/
def State.mirror (s : State) (payload : List Byte) : State :=
  let s1 := if copySubs.contains (byteAt payload 0) then { s with flo := { s.flo with copySent := s.flo.copySent + 1 } } else s
  s1.emitCell 2 s1.partner false false payload

/-- The cope mirrors a change to its drag (R243); no other device does. -/
def State.mirrorIf (s : State) (payload : List Byte) : State := if s.isCope then s.mirror payload else s

/-- The 16 bytes of a slot's shadow or active copy. -/
def State.slotBytes (s : State) (active : Bool) (n : Nat) : List Byte :=
  (List.range 4).flatMap (fun w => leBytes 4 (s.word (if active then Reg.SCH_ACTIVE n w else Reg.SCH_SHADOW n w)).toNat)

def State.slotBase (s : State) (c : Nat) : Nat := s.get (Fld.SCH_CYL_C_SLOT_BASE c)
def State.slotCnt (s : State) (c : Nat) : Nat := s.get (Fld.SCH_CYL_C_SLOT_CNT c)
/-- The slots of cylinder `c` (0–23) (R99). -/
def State.slotsOf (s : State) (c : Nat) : List Nat := (List.range (s.slotCnt c)).map (s.slotBase c + ·)

/-- Payloads of SLOT or ACTIVE cells for the slots `first` … `first + n − 1` of cylinder `c`, three descriptors each. -/
def State.slotCells (s : State) (active : Bool) (c first n : Nat) : List (List Byte) :=
  (List.range ((n + 2) / 3)).map (fun k =>
    let m := Nat.min 3 (n - 3 * k)
    leBytes 1 (if active then 0xC else 1) ++ leBytes 1 (c + 1) ++ leBytes 2 (first + 3 * k) ++
    (List.range m).flatMap (fun j => s.slotBytes active (s.slotBase c + first + 3 * k + j)))

def State.mirrorSlots (s : State) (c first n : Nat) : State :=
  (s.slotCells false c first n).foldl (fun s p => s.mirrorIf p) s

/-- A shadow slot has been written by itself (R243). -/
def State.mirrorSlot (s : State) (n : Nat) : State :=
  match (List.range 24).find? (fun c => s.slotBase c ≤ n && n < s.slotBase c + s.slotCnt c) with
  | some c => s.mirrorSlots c (n - s.slotBase c) 1
  | none => s

def State.mirrorTxn (s : State) (op mask : Nat) : State := s.mirrorIf ([2, BitVec.ofNat 8 op, 0, 0] ++ leBytes 4 mask)

/-- CRC-32C of a cylinder's active range (R244). -/
def State.activeCrc (s : State) (c : Nat) : Word := crc32c ((s.slotsOf c).flatMap (s.slotBytes true))

def State.mirrorCommit (s : State) (c : Nat) (restart : Bool) : State :=
  s.mirrorIf ([3, BitVec.ofNat 8 (c + 1), (if restart then 1 else 0), 0] ++ leBytes 4 (s.trk s.sel).cycle ++
    leBytes 4 (s.activeCrc c).toNat)

def State.corrCell (s : State) (ch : Nat) : List Byte :=
  [5, BitVec.ofNat 8 ch] ++ leBytes 2 (s.get (Fld.WIT_CH_CORR_D ch))
def State.mirrorCorr (s : State) (ch : Nat) : State := s.mirrorIf (s.corrCell ch)

def State.demCell (s : State) : List Byte :=
  [7, 0, 0, 0] ++ wordBytes [s.word Reg.SCH_DEM0, s.word Reg.SCH_DEM1, s.word Reg.SCH_DEM2, s.word Reg.SCH_DEM3] ++
    leBytes 4 (ofSigned 32 s.sch.govI)
def State.mirrorDem (s : State) : State := s.mirrorIf s.demCell

/-- Coil temperatures of six channels from `first` in a THERM cell: TW and TB in the units of DRV_CHn_TEMP, 0.1 °C. -/
def tempCode (t : Int) : Nat := ofSigned 16 (divRoundInt (t * 10) 1000000000)
def State.thermCell (s : State) (first : Nat) : List Byte :=
  [6, BitVec.ofNat 8 first, 0, 0] ++ (List.range 6).flatMap (fun k =>
    leBytes 2 (tempCode (s.chan (first + k)).tw) ++ leBytes 2 (tempCode (s.chan (first + k)).tb))

/-- The SHOT cell of a channel (R243). -/
def State.shotCell (s : State) (n : Nat) : List Byte :=
  let c := s.chan n
  let at_ (t : Nat) : Nat := s.domTime - 16 * (s.now - t)
  match c.shot with
  | none => [4, BitVec.ofNat 8 n, 0, 0, BitVec.ofNat 8 (16 * s.phase n), 0, 0, 0]
  | some sh =>
    let endField : Nat := if sh.timeEnd then (match c.endAt with | some e => (e - c.startAt) / 4 | none => sh.endVal) else sh.endVal
    [4, BitVec.ofNat 8 n] ++ leBytes 2 sh.slot ++ leBytes 1 (sh.profile + 16 * s.phase n) ++
    leBytes 1 (c.outcome + (if sh.batt then 16 else 0) + (if sh.timeEnd then 32 else 0)) ++
    leBytes 2 (s.get (Fld.PRF_CH_STAT_SP n)) ++ leBytes 8 (at_ c.startAt) ++ leBytes 8 (at_ c.phaseAt) ++ leBytes 4 endField

/-- The SHOT cells that are due leave. -/
def State.flushMirror (s : State) : State :=
  s.shotMirror.foldl (fun s n => s.mirrorIf (s.shotCell n)) { s with shotMirror := [] }

/-- Channels in fault by R153 or with NO_MOTION, and banks in fault, as HEART cells report them (R241). -/
def State.faultMask (s : State) : Nat :=
  (List.range 48).foldl (fun m n => if s.chFault n || s.flag (Fld.WIT_CH_STAT_NO_MOTION n) then m + 2 ^ n else m) 0
def State.bankFaultMask (s : State) : Nat :=
  (List.range 8).foldl (fun m k => if s.bankFault k then m + 2 ^ k else m) 0

/-- The payload of a HEART cell (R241). -/
def State.heartCell (s : State) : List Byte :=
  leBytes 1 (s.role + (if s.flag Fld.FLO_PAIRSTAT_ARB_OWN then 4 else 0) +
    (if s.flag Fld.FLO_PAIRSTAT_ARB_LINE then 8 else 0) + 16 * s.get Fld.SYS_STATE_STATE) ++
  leBytes 1 (s.get Fld.PWR_STAT_STAGE + (if s.takeReady then 16 else 0) + (if s.flo.hostOk then 32 else 0) +
    (if s.flag Fld.FLO_PAIRSTAT_MIRROR_SYNC then 64 else 0)) ++
  leBytes 2 (s.get Fld.DRV_VBOOST_VBOOST) ++ leBytes 4 (s.word (Reg.SEC_CFG 0)).toNat ++
  leBytes 6 s.faultMask ++ leBytes 1 s.bankFaultMask ++ [0]

-- ── Roles and the ARB line ────────────────────────────────────────────────────────────────────────────────────────

/-- ARB_OWN: this device pulls the line low. -/
def State.assertArb (s : State) (b : Bool) : State := s.setFlag Fld.FLO_PAIRSTAT_ARB_OWN b

/-- A drag asks for a full copy (R245); until it has one, its mirror is not complete (log entry 22). -/
def State.askCopy (s : State) : State :=
  ({ s.setFlag Fld.FLO_PAIRSTAT_MIRROR_SYNC false with flo := { s.flo with mirrorNext := 0, copyCount := 0 } }).mirror [0xB]

/-- A candidate for the domain's master (R232). -/
def State.candidateMaster (s : State) : Bool := s.floeOn && s.flag Fld.FLO_DOM_MCAND && (s.isCope || !s.paired)

/-- A device that is no candidate any more gives up the domain's angle (R232): source 229. -/
def State.leaveMaster (s : State) : State :=
  if !s.domMaster then s
  else ((s.setFlag Fld.FLO_STAT_DOM_MASTER false).setFlag Fld.FLO_DMASTER_VALID false).irq 229
def State.checkMaster (s : State) : State := if s.candidateMaster then s else s.leaveMaster

/-- The observed-drive rule starts afresh (R256). -/
def State.clearExpected (s : State) : State := { s with flo := { s.flo with absentRun := 0, expectQ := [], virtualQ := [] } }

/-- The device takes a role (R236, R240): source 231; STBY = 0 on the cope and 1 on the drag; a new drag asks for a copy. -/
def State.setRole (s : State) (r : Nat) : State :=
  if s.role = r then s else
  let s1 := ((s.clearExpected.set Fld.FLO_PAIRSTAT_ROLE r).irq 231).anom 13
  let s2 := if r = 0 then s1 else s1.writeStby (r == 2)
  if r = 2 then s2.leaveMaster.askCopy else s2

/-- Whether a member may take its role: PAIR_MODE is set, it has reached IDLE and is not in SAFE or BENCH (R236, R240). A role once taken stays
when PAIR_MODE falls (DESIGN CHOICE, log entry 86). -/
def State.mayForm (s : State) : Bool :=
  s.paired && s.flag Fld.DRV_CTRL_PAIR_MODE && s.role == 0 && inRange 4 7 (s.get Fld.SYS_STATE_STATE)

/-- A member that may take its role reads the ARB line: held, it becomes drag, else the time of a free line counts from now (R240). -/
def State.formPair (s : State) : State :=
  if s.mayForm && s.flag Fld.FLO_PAIRSTAT_ARB_LINE then s.setRole 2 else { s with flo := { s.flo with arbFreeAt := s.now } }

/-- The pair's settings have changed (R236, R240, R241): a device that leaves its pair has no role and releases ARB; a new member stays in
standby until it has a role, and its times for the ARB line and the heartbeat start. -/
def State.pairChanged (s old : State) : State :=
  if s.paired && !old.paired then
    let s1 := ({ s with flo := { s.flo with hbAt := s.now, cfgBadAt := s.now } }).formPair
    if s1.role = 0 then s1.writeStby true else s1
  else if !s.paired && old.paired then (s.setRole 0).assertArb false
  else s

/-- A SYS_FAULT bit sets: the latch and source 1 (01_architecture, SYS registers). -/
def State.raiseFault (s : State) (f : FReg) : State := if s.flag f then s.raiseFlag f else (s.raiseFlag f).irq 1

/-- Counts a handover refused or not accepted (FLO_PAIR_CNT.REFUSED). -/
def State.countRefused (s : State) : State := s.addWrap Fld.FLO_PAIR_CNT_REFUSED 1

/-- The cope asks for a handover with a reason (R248). A request in progress is joined; when the drag's HEART shows READY = 0,
nothing is sent and the case is counted. -/
def State.requestHandover (s : State) (reason : Nat) : State :=
  if !s.isCope then s
  else if s.flo.handover.isSome then s
  else if !s.flag Fld.FLO_PAIRSTAT_P_READY then s.countRefused
  else
    let th := s.domTime + 640 * s.get Fld.FLO_PAIR_HO_LEAD
    let h : Handover := { reason := reason, th := th, accepted := false, step := 0, giving := true }
    ({ s with flo := { s.flo with handover := some h } }).mirror ([8, BitVec.ofNat 8 reason, 0, 0, 0, 0, 0, 0] ++ leBytes 8 th)

/-- The node ID of voter slot `k` (FLO_VLIST). -/
def State.voterId (s : State) (k : Nat) : Nat := s.get (if k % 2 = 0 then Fld.FLO_VLIST_ID_EVEN (k / 2) else Fld.FLO_VLIST_ID_ODD (k / 2))
/-- Slot `k` of the voter list has been heard, from the voter that the list names there (R260). -/
def State.voterHeard (s : State) (k : Nat) : Bool :=
  k < s.get Fld.FLO_SYS_NVOTER && (spGet (fun _ => none) s.flo.voteAt k).isSome && spGet (fun _ => 0) s.flo.voteSrc k == s.voterId k

/-- Settings that wait are applied on a node that is not MINORITY, and ADOPT_PEND clears (R261, R262). -/
def State.adoptNow (s : State) : State :=
  if s.flag Fld.FLO_SYSSTAT_MINORITY then s else
  let s1 := s.flo.adopt.foldl (fun s e => s.setWord e.1 e.2) s
  let s2 := if s.flo.adopt = [] then s1 else s1.setWord Reg.FLO_EPOCH (BitVec.ofNat 32 (Nat.max (s.get Fld.FLO_EPOCH_EPOCH) s.flo.adoptEpoch))
  { s2.setFlag Fld.FLO_SYSSTAT_ADOPT_PEND false with flo := { s2.flo with adopt := [] } }

/-- The classes of channel fault that the witness passes to the pair logic: WIT_CTRL.TAKE_MASK bits 0–3 for the
classes 1–4 of R153 and bit 4 for NO_MOTION, class 6 (R207). -/
def State.passFault (s : State) (ch cls : Nat) : State :=
  if s.isCope && s.flag Fld.DRV_CTRL_PAIR_MODE && 1 ≤ cls && cls != 5 &&
      (s.bit Fld.WIT_CTRL_TAKE_MASK (if cls = 6 then 4 else cls - 1)) && !s.flo.pFaultCh.testBit ch then s.requestHandover 1 else s

/-- A bank fault, or FOREIGN, on a cope whose drag reports that it is drag (R248 reason 2). -/
def State.passBankFault (s : State) : State :=
  if s.isCope && s.get Fld.FLO_PAIRSTAT_P_ROLE == 2 then s.requestHandover 2 else s

end Sys2Proof.Machine
end

