-- ==== Sys2Proof/Machine/Sched.lean ====
section
/-! DEFINITION. The scheduler (R98–R123): slot descriptors and their checks, transactions, commits, firing, arbitration, the boost
queue, event actions. -/

namespace Sys2Proof.Machine

-- ── Slots ─────────────────────────────────────────────────────────────────────────────────────────────────────────

/-- A slot descriptor: its four words (R101, R102). -/
structure Desc where
  w0 : Nat
  w1 : Nat
  w2 : Nat
  w3 : Nat

def State.shadowDesc (s : State) (n : Nat) : Desc :=
  ⟨(s.word (Reg.SCH_SHADOW n 0)).toNat, (s.word (Reg.SCH_SHADOW n 1)).toNat, (s.word (Reg.SCH_SHADOW n 2)).toNat,
   (s.word (Reg.SCH_SHADOW n 3)).toNat⟩
def State.activeDesc (s : State) (n : Nat) : Desc :=
  ⟨(s.word (Reg.SCH_ACTIVE n 0)).toNat, (s.word (Reg.SCH_ACTIVE n 1)).toNat, (s.word (Reg.SCH_ACTIVE n 2)).toNat,
   (s.word (Reg.SCH_ACTIVE n 3)).toNat⟩

def Desc.en (d : Desc) : Bool := d.w0.testBit 31
def Desc.isEvent (d : Desc) : Bool := bitsAt d.w0 28 2 == 1
def Desc.typ (d : Desc) : Nat := bitsAt d.w0 28 2
def Desc.start (d : Desc) : Nat := bitsAt d.w0 0 24
def Desc.cls (d : Desc) : Nat := bitsAt d.w0 24 3
def Desc.endVal (d : Desc) : Nat := bitsAt d.w1 0 24
def Desc.timeEnd (d : Desc) : Bool := d.w1.testBit 24
def Desc.profile (d : Desc) : Nat := bitsAt d.w1 25 4
def Desc.act (d : Desc) : Nat := bitsAt d.w1 24 4
def Desc.channel (d : Desc) : Nat := bitsAt d.w2 0 6
def Desc.target (d : Desc) : Nat := bitsAt d.w2 0 5
def Desc.guard (d : Desc) : Nat := bitsAt d.w2 8 16
def Desc.arg (d : Desc) : Nat := bitsAt d.w2 24 8

/-- Whether a reserved bit of an enabled descriptor is 1 (R282). -/
def Desc.reserved (d : Desc) : Bool :=
  d.w0.testBit 27 || d.w0.testBit 30 || bitsAt d.w0 28 2 ≥ 2 ||
  (if d.isEvent then bitsAt d.w1 28 4 != 0 || bitsAt d.w2 5 3 != 0 || d.w3 != 0
   else bitsAt d.w1 29 3 != 0 || bitsAt d.w2 6 2 != 0 || bitsAt d.w2 24 8 != 0 || d.w3.testBit 3 || bitsAt d.w3 8 24 != 0)

/-- A distance between 1 and 2^23 − 1 au (R103). -/
def properEnd (start e : Nat) : Bool := decide (1 ≤ angDist start e)

/-- The check of R103, but for the TEST class: whether an enabled descriptor is one the device accepts. -/
def State.descOk (s : State) (d : Desc) : Bool :=
  if !d.en then true
  else if d.typ = 0 then
    d.cls < 6 && d.channel < 48 && !s.oddOfPair d.channel &&
    (if d.timeEnd then d.endVal != 0 else properEnd d.start d.endVal)
  else if d.typ = 1 then
    d.cls == 0 && d.act ≤ 8 && (d.act == 4 || d.target < 16) && (d.act != 1 || properEnd d.start d.endVal)
  else false

/-- A TEST-class slot outside BENCH (R103). -/
def State.testOutside (s : State) (d : Desc) : Bool :=
  d.en && d.typ == 0 && d.cls == 5 && s.get Fld.SYS_STATE_STATE != 9

def State.latchLead (s : State) (c : Nat) : Nat := s.get (Fld.SCH_CYL_D_LATCH_LEAD c)
def State.tdc (s : State) (c : Nat) : Nat := s.get (Fld.SCH_CYL_A_TDC c)
def State.cylEn (s : State) (c : Nat) : Bool := s.flag (Fld.SCH_CYL_A_EN c)

/-- The smallest element of a list. -/
def minOf : List Int → Option Int
  | [] => none
  | a :: r => match minOf r with | none => some a | some b => some (if a ≤ b then a else b)

/-- d(s) of R104 for the enabled descriptors of a set. -/
def State.dists (s : State) (c : Nat) (ds : List Desc) : List Int :=
  (ds.filter (·.en)).map (fun d => angDist (s.tdc c) d.start)

/-- The half-cycle window of R104. -/
def State.windowOk (s : State) (c : Nat) (ds : List Desc) : Bool :=
  match minOf (s.dists c ds) with
  | none => true
  | some m => -8388608 ≤ m - (s.latchLead c : Int) &&
              (s.dists c ds).all (fun d => d - m + (s.latchLead c : Int) ≤ 8388607)

/-- The checks of R103 and R104 on the shadow range of cylinder `c` (R110, R111). -/
def State.setOk (s : State) (c : Nat) : Bool :=
  let ds := (s.slotsOf c).map s.shadowDesc
  ds.all (fun d => s.descOk d && !s.testOutside d) && (!s.cylEn c || s.windowOk c ds)

/-- The cylinder that owns slot `n`, if any: an enabled one, else one whose empty set has not yet been committed (R98, R99). -/
def State.cylOf (s : State) (n : Nat) : Option Nat :=
  let owns (c : Nat) : Bool := s.slotBase c ≤ n && n < s.slotBase c + s.slotCnt c
  match (List.range 24).find? (fun c => s.cylEn c && owns c) with
  | some c => some c
  | none => (List.range 24).find? (fun c => s.cylWatched c && owns c)

def State.armed (s : State) (n : Nat) : Bool := s.bit (Fld.SCH_ARMED_ARMED (n / 32)) (n % 32)
def State.fired (s : State) (n : Nat) : Bool := s.bit (Fld.SCH_FIRED_FIRED (n / 32)) (n % 32)
def State.setArmed (s : State) (n : Nat) (b : Bool) : State :=
  let s1 := s.setBit (Fld.SCH_ARMED_ARMED (n / 32)) (n % 32) b
  { s1 with sch := { s1.sch with
      firePend := s1.sch.firePend.filter (· ≠ n), fireTick := spPut (fun _ => 0) s1.sch.fireTick n 0 } }
def State.setFired (s : State) (n : Nat) : State := s.setBit (Fld.SCH_FIRED_FIRED (n / 32)) (n % 32) true

def State.withSch (s : State) (x : SchState) : State := { s with sch := x }
def State.unhold (s : State) (n : Nat) : State :=
  s.withSch { s.sch with heldBack := s.sch.heldBack.filter (· ≠ n) }

-- ── Writing sets (R109, R110) ─────────────────────────────────────────────────────────────────────────────────────

def State.txnOpen (s : State) (c : Nat) : Bool := s.bit Fld.SCH_TXN_OPEN c

/-- Writes a shadow descriptor. -/
def State.putDesc (s : State) (n : Nat) (d : Desc) : State :=
  (((s.setWord (Reg.SCH_SHADOW n 0) (BitVec.ofNat 32 d.w0)).setWord (Reg.SCH_SHADOW n 1) (BitVec.ofNat 32 d.w1)).setWord
    (Reg.SCH_SHADOW n 2) (BitVec.ofNat 32 d.w2)).setWord (Reg.SCH_SHADOW n 3) (BitVec.ofNat 32 d.w3)

def State.openTxns (s : State) (mask : Nat) : State :=
  if mask = 0 then s else (s.set Fld.SCH_TXN_OPEN (s.get Fld.SCH_TXN_OPEN ||| mask)).mirrorTxn 0 mask

/-- A close of one cylinder's transaction (R110): refused when the set fails its checks. -/
def State.closeTxn (s : State) (c : Nat) : State :=
  if !s.txnOpen c then s
  else if s.setOk c then (s.setBit Fld.SCH_TXN_OPEN c false).mirrorTxn 1 (2 ^ c)
  else (s.raiseFlag Fld.SCH_STAT_CLOSE_REFUSED).addWrap Fld.SCH_CNT_CLOSE_REF 1

/-- The active range copied back to the shadow; an open transaction closes (R109). -/
def State.abortTxn (s : State) (c : Nat) : State :=
  (((s.slotsOf c).foldl (fun s n => s.putDesc n (s.activeDesc n)) s).setBit Fld.SCH_TXN_OPEN c false).mirrorTxn 2 (2 ^ c)

/-- The cylinders of a 24-bit mask. -/
def cylsOf (mask : Nat) : List Nat := (List.range 24).filter (fun c => mask.testBit c)
def State.closeTxns (s : State) (mask : Nat) : State := (cylsOf mask).foldl State.closeTxn s
def State.abortTxns (s : State) (mask : Nat) : State := (cylsOf mask).foldl State.abortTxn s

-- ── Shots as slots give them ──────────────────────────────────────────────────────────────────────────────────────

/-- The shot of slot `n`, owned by cylinder `c`. -/
def State.shotOf (s : State) (c n : Nat) (late : Bool) : Shot :=
  let d := s.activeDesc n
  { slot := n, cyl := c + 1, ch := d.channel, cls := d.cls, start := d.start, timeEnd := d.timeEnd, endVal := d.endVal
    profile := d.profile, irqStart := d.w3.testBit 0, irqEnd := d.w3.testBit 1, noCorr := d.w3.testBit 2
    line := bitsAt d.w3 4 4, late := late, lam := if late then (angDist s.out d.start).natAbs else 0, firedAt := s.now, batt := false }

/-- A slot ends cancelled: its fired bit sets; a shot leaves a record CANCELLED (R27, R116). -/
def State.cancelSlot (s : State) (c n : Nat) : State :=
  let s1 := ((s.setArmed n false).setFired n).unhold n
  if (s.activeDesc n).isEvent then s1 else s1.recordRefused (s.shotOf c n false) 0xF 0

-- ── Thermal and calving checks (R121, R169, R172, R332) ───────────────────────────────────────────────────────────

/-- The driver die of a channel: banks 0–3 on die 0, 4–7 on die 1. -/
def dieOf (n : Nat) : Nat := n / 24

/-- The thermal models refuse the class (R169, R172). -/
def State.thermalRefuses (s : State) (sh : Shot) : Bool :=
  let step := s.get (Fld.DRV_CH_STAT_TSTEP sh.ch)
  step == 3 || s.flag (Fld.DRV_DIE_STOP (dieOf sh.ch)) ||
  (sh.cls != 0 && (step == 2 || s.flag (Fld.DRV_DIE_HOT (dieOf sh.ch)) || s.flag (Fld.DRV_DIE_PWR_OVER (dieOf sh.ch))))

/-- The PILOT slot with the smallest start distance from the cylinder's latch (R121, check 2). -/
def State.firstPilot (s : State) (c : Nat) : Option Nat :=
  let latch := s.get (Fld.SCH_CYL_E_LATCH c)
  ((s.slotsOf c).filter (fun n => let d := s.activeDesc n; d.en && d.typ == 0 && d.cls == 1)).foldl
    (fun b n => match b with
      | none => some n
      | some m => if angDist latch (s.activeDesc n).start < angDist latch (s.activeDesc m).start then some n else some m) none

/-- The calving stage sheds the class (R332). Classes: 0 MAIN, 1 PILOT, 2 GAS, 3 POST, 4 AUX, 5 TEST. -/
def State.calvingSheds (s : State) (sh : Shot) : Bool :=
  let st := s.get Fld.PWR_STAT_STAGE
  st == 6 || (st == 5 && sh.cls != 0) || (3 ≤ st && 3 ≤ sh.cls) || (4 ≤ st && sh.cls == 2) ||
  (4 ≤ st && sh.cls == 1 && s.firstPilot (sh.cyl - 1) != some sh.slot)

/-- VBOOST below DRV_VBOOSTMIN in the fire tick (R121, check 4; R163). -/
def State.boostShort (s : State) : Bool := s.get Fld.DRV_VBOOST_VBOOST < s.get Fld.DRV_VBOOSTMIN_VMIN

-- ── Arbitration ───────────────────────────────────────────────────────────────────────────────────────────────────

/-- The earlier in service order of two shots: class, then start distance from the commit, then slot (R25). The distance counts
from the cylinder's latch. -/
def State.servedBefore (s : State) (a b : Shot) : Bool :=
  let da := angDist (s.get (Fld.SCH_CYL_E_LATCH (a.cyl - 1))) a.start
  let db := angDist (s.get (Fld.SCH_CYL_E_LATCH (b.cyl - 1))) b.start
  a.cls < b.cls || (a.cls == b.cls && (da < db || (da == db && a.slot < b.slot)))

/-- WIT_OBS.WIN in ticks; 0 acts as 1 µs (R203). -/
def State.obsWin (s : State) : Nat := usTicks * Nat.max 1 (s.get Fld.WIT_OBS_WIN)

/-- The shot's claim at its start (R143). -/
def State.startClaim (s : State) (sh : Shot) : Nat :=
  let p := s.startProfile sh.profile
  s.claimFrom sh.ch p sh.batt (p.after sh.batt 0)

/-- The observed-drive rule is in force: without heartbeat, and with an ARB fault (R256). -/
def State.observing (s : State) : Bool := s.flag Fld.FLO_PAIRSTAT_HB_LOST && s.flag Fld.FLO_PAIRSTAT_ARB_FAULT

/-- A fault of the channel or bank, or the state, would refuse the shot on the drag as if it drove (R121, R148, R256). -/
def State.wouldFault (s : State) (sh : Shot) : Bool :=
  s.outFault sh.ch || s.bankFault (bankOf sh.ch) || s.get Fld.SYS_STATE_STATE != 6

/-- What the drag's own arbitration would do with a standby shot in its fire tick, as if it drove (R256): refuse it by the checks of R121 or
R145 and R146, start it, or (none) let it wait for the boost phase. -/
def State.wouldServe (s : State) (sh : Shot) : Option Bool :=
  if s.wouldFault sh || s.calvingSheds sh || s.thermalRefuses sh || (s.boostShort && sh.cls != 0) || claimMax < s.startClaim sh then some false
  else if (s.startProfile sh.profile).needsBoost sh.batt then none
  else some (s.bankAdmits sh.ch (s.startClaim sh))

/-- While no SHOT cells arrive, a standby shot that the drag would serve occupies its bank from its own start (R256). -/
def State.virtualShot (s : State) (sh : Shot) : State :=
  let p := s.activeProfile sh.profile
  s.putShotCell sh.ch (some { slot := sh.slot, profile := sh.profile, phase := p.after sh.batt 0, outcome := 0, batt := sh.batt
                              timeEnd := sh.timeEnd, sp := p.sp (p.after sh.batt 0), tStart := s.domTime, tPhase := s.domTime
                              endVal := sh.endVal, virtual := true })

/-- The drag's own arbitration takes a standby shot (R256): a MAIN that is not refused joins the expected shots. -/
def State.judgeStandby (s : State) (sh : Shot) : State :=
  let v := s.wouldServe sh
  if v = some false then s
  else
    let s1 := if v = none then { s with flo := { s.flo with virtualQ := s.flo.virtualQ ++ [sh] } } else s.virtualShot sh
    if sh.cls = 0 then { s1 with flo := { s1.flo with
      expectQ := s1.flo.expectQ ++ [{ ch := sh.ch, slot := sh.slot, firedAt := s.now, served := v }] } } else s1

/-- A standby shot on a drag (R120, R203, R246): a record that observation fills, from an OBS_DRIVE rise that has come within
WIT_OBS.WIN before. The observed-drive rule's shots are marked (R256). -/
def State.standbyShot (s : State) (sh0 : Shot) : State :=
  let c := s.chan sh0.ch
  let sh := if s.boostShort && sh0.cls == 0 then { sh0 with batt := true } else sh0
  let r := { s.newRec sh 0xE 0 with
    standby := true, firedAt := s.now, expect := s.observing && s.wouldServe sh != some false && sh.cls == 0 }
  let r1 := match c.obsRise with
    | none => r
    | some t =>
      if t + s.obsWin < s.now then r
      else
        let r2 := { r with seen := true, startedAt := t, startTime := t - (s.now - s.tclk), actStart := c.obsAngle }
        match c.obsFall with
        | some f => if t < f then { r2 with endTime := Nat.min 0xFFFFFF ((f - t) / 4), endAt := some f, doneAt := some f } else r2
        | none => r2
  let s0 := s.cutWindow sh.ch
  let s1 := (s0.setOpenRecs sh.ch (s0.openRecs sh.ch ++ [r1])).startCapture sh.ch
  if s1.observing then s1.judgeStandby sh else s1

/-- The cycle's largest lateness, in 64 au (R212). -/
def State.worstLate (s : State) (lam : Nat) : State :=
  s.setCounts { s.wit.now with worstLate := Nat.max s.wit.now.worstLate (Nat.min 65535 (lam / 64)) }

/-- A shot starts: the meter at the slot's start is kept (R115); WORST_LATE takes a DELAYED_LATE shot's lateness (R212). -/
def State.beginShot (s : State) (sh : Shot) (outcome : Nat) : State :=
  let s0 := s.startShot sh outcome
  let s1 := if outcome = 2 then s0.worstLate sh.lam else s0
  s1.withSch { s1.sch with firedIn := 3, meterAt := spPut (fun _ => none) s1.sch.meterAt sh.slot (some s1.voter.meter) }

/-- A claim above 40 A can never fit: REFUSED_BANK, and CLAIM_OVER (R146). -/
def State.refuseOver (s : State) (sh : Shot) : State :=
  let k := bankOf sh.ch
  let s1 := if s.flag (Fld.DRV_BANKSTAT_CLAIM_OVER k) then s else s.irq (128 + k)
  (s1.raiseFlag (Fld.DRV_BANKSTAT_CLAIM_OVER k)).refuseShot sh 0x8 0

/-- Whether a fault of the channel or bank, the state or the drive refuses a shot on a device that is no drag (R120, R121). -/
def State.faultRefuses (s : State) (n : Nat) : Bool :=
  s.outFault n || s.bankFault (bankOf n) || s.get Fld.SYS_STATE_STATE != 6 || !s.canDrive n

/-- A shot that reaches its start on a device that may drive (R121, R122, R145, R146). -/
def State.arbitrate (s : State) (sh0 : Shot) : State :=
  if s.faultRefuses sh0.ch then s.refuseShot sh0 0xD (s.faultClass sh0.ch)
  else if s.calvingSheds sh0 then s.refuseShot sh0 0xC 0
  else if s.thermalRefuses sh0 then s.refuseShot sh0 0xB 0
  else if s.boostShort && sh0.cls != 0 then s.refuseShot sh0 0xA 0
  else
    let sh := if s.boostShort then { sh0 with batt := true } else sh0
    let p := s.startProfile sh.profile
    if claimMax < s.startClaim sh then s.refuseOver sh
    else if p.needsBoost sh.batt then (s.setQueue (bankOf sh.ch) (s.queue (bankOf sh.ch) ++ [sh])).abortOffTest (bankOf sh.ch)
    else if s.bankAdmits sh.ch (s.startClaim sh) then s.beginShot sh (if sh.late then 2 else 0)
    else s.refuseShot sh 0x8 0

-- ── Event actions (R105) ──────────────────────────────────────────────────────────────────────────────────────────

def State.setAout (s : State) (k : Nat) (b : Bool) : State :=
  { s with drv := { s.drv with aout := if b then s.drv.aout ||| 2 ^ k else s.drv.aout - (if s.drv.aout.testBit k then 2 ^ k else 0) } }

/-- Whether calving lets a conversion of an input start (R139). -/
def State.inputServed (s : State) (ain : Nat) : Bool := s.get Fld.PWR_STAT_STAGE < 2 || s.bit Fld.ADC_ESS_ESSENTIAL ain

/-- An ADC single sample: the conversion starts, or takes the next one during a burst (R136, R137). SAMPLEs that wait together take one
conversion each, in their order (DESIGN CHOICE, log entry 80). -/
def State.adcSample (s : State) (ain : Nat) : State :=
  if !s.flag Fld.CLK_GATE0_ADC then s
  else if !s.inputServed ain then s.addWrap (Fld.ADC_STAT_CALV_SKIP (ain / 4)) 1
  else s.setAdc (ain / 4) { s.adc (ain / 4) with samples := (s.adc (ain / 4)).samples ++ [ain] }

/-- An ADC burst (R136, R137): input, window end and period; a burst in progress rejects it. -/
def State.adcBurst (s : State) (ain wend arg : Nat) : State :=
  let a := ain / 4
  if !s.flag Fld.CLK_GATE0_ADC then s
  else if (s.adc a).burst.isSome then (s.raiseFlag (Fld.ADC_STAT_BURST_REJ a)).irq (163 + 4 * a)
  else (s.setAdc a { s.adc a with burst := some (ain, wend, (arg + 1) * 100, 0), burstAt := s.now, begun := false, newer := none }).set (Fld.ADC_STAT_BURST a) 1

def State.patCtx (s : State) (e c : Nat) : PatCtx := spGet (fun _ => PatCtx.reset) s.pats (16 * e + c)
def State.setPatCtx (s : State) (e c : Nat) (x : PatCtx) : State :=
  { s with pats := spPut (fun _ => PatCtx.reset) s.pats (16 * e + c) x }

/-- The clock gate of an engine. -/
def patGate (e : Nat) : FReg := if e = 0 then Fld.CLK_GATE0_PAT0 else Fld.CLK_GATE0_PAT1

/-- A trigger reaches a context (R390). -/
def State.patTrigger (s : State) (e c : Nat) : State :=
  if !s.flag (patGate e) then s
  else if (s.patCtx e c).trig then (s.raiseFlag (Fld.PAT_CTX_STAT_TRIG_LOST e c)).irq (215 + 8 * e)
  else (s.setPatCtx e c { s.patCtx e c with trig := true }).set (Fld.PAT_CTX_STAT_TRIG e c) 1

def State.tim (s : State) (n : Nat) : TimChan := spGet (fun _ => TimChan.reset) s.tims n
def State.setTim (s : State) (n : Nat) (x : TimChan) : State := { s with tims := spPut (fun _ => TimChan.reset) s.tims n x }

/-- A channel that its even neighbour has joined (R381). -/
def State.linkedOdd (s : State) (n : Nat) : Bool := n % 2 == 1 && s.flag (Fld.TIM_CH_CFG_LINK (n - 1))
def State.linked (s : State) (n : Nat) : Bool := n % 2 == 0 && s.flag (Fld.TIM_CH_CFG_LINK n)

/-- A capture is due on a channel; TIM_CAPTURE takes the counter (R380). -/
def State.timTrigger (s : State) (n : Nat) : State :=
  if !s.flag Fld.CLK_GATE0_TIM then s else
  let act := s.get (Fld.TIM_CH_CFG_TRIGACT n)
  if act = 1 then (if s.flag (Fld.TIM_CH_CFG_EN n) then s
                   else (s.setFlag (Fld.TIM_CH_CFG_EN n) true).setTim n { s.tim n with presc := 0, part := 0 })
  else if act = 2 then s.setFlag (Fld.TIM_CH_CFG_EN n) false
  else if act = 3 then s.setTim n { s.tim n with caps := (s.tim n).caps + 1 }
  else s

/-- The action of an event slot (R105). -/
def State.eventAction (s : State) (d : Desc) : State :=
  if d.act = 0 then s.adcSample d.target
  else if d.act = 1 then s.adcBurst d.target d.endVal d.arg
  else if d.act = 2 then (if s.get (Fld.DMA_CH_CTRL_TRIG d.target) = 0x30 then s.dmaPulseAt d.target else s)
  else if d.act = 3 then s.timTrigger d.target
  else if d.act = 4 then s.patTrigger (d.target / 16) (d.target % 16)
  else if d.act = 5 then s.setAout d.target true
  else if d.act = 6 then s.setAout d.target false
  else if d.act = 7 then s.setAout d.target (!s.drv.aout.testBit d.target)
  else s.irq (48 + d.target)

-- ── Firing (R114–R117) ────────────────────────────────────────────────────────────────────────────────────────────

/-- The conditions of R114 on the slot in the present tick, apart from the start being reached. -/
def State.mayFire (s : State) (n : Nat) : Bool := s.firingOn && !s.fired n && s.rested n

/-- A slot fires (R114): its fired bit sets, and the event acts or the shot is arbitrated. -/
def State.fireSlot (s : State) (c n : Nat) (late : Bool) : State :=
  let d := s.activeDesc n
  let s1 := (s.setArmed n false).setFired n
  if d.isEvent then
    (s1.withSch { s1.sch with meterAt := spPut (fun _ => none) s1.sch.meterAt n (some s1.voter.meter) }).eventAction d
  else if s1.isDrag then
    (s1.withSch { s1.sch with meterAt := spPut (fun _ => none) s1.sch.meterAt n (some s1.voter.meter) }).standbyShot (s1.shotOf c n late)
  else s1.arbitrate (s1.shotOf c n late)

/-- A slot that a commit finds at or behind the output angle (R117). -/
def State.lateSlot (s : State) (c n : Nat) : State :=
  let d := s.activeDesc n
  let lam : Int := -(angDist s.out d.start)
  let s1 := s.irq 66
  if lam ≤ (d.guard * 64 : Nat) && (d.isEvent || d.timeEnd || 0 < angDist s.out d.endVal) then
    if s.mayFire n then s1.fireSlot c n true else s1.setArmed n true
  else if d.isEvent then ((s1.setArmed n false).setFired n).addWrap Fld.SCH_CNT_EVT_LATE 1
  else (((s1.setArmed n false).setFired n).worstLate lam.toNat).recordRefused (s1.shotOf c n true) 0x9 0

-- ── Commit (R107–R113) ────────────────────────────────────────────────────────────────────────────────────────────

/-- The latch angle that the active set gives (R107). -/
def State.latchFor (s : State) (c : Nat) : Nat :=
  let m := if s.cylEn c then minOf (s.dists c ((s.slotsOf c).map s.activeDesc)) else none
  angAdd (s.tdc c) ((m.getD 0) - (s.latchLead c : Int))

/-- One slot of the committed set is decided (R108, R113): `noEvent` and `noShot` tell whether events and shots are withdrawn. A slot that
a reused set left armed stays so, but for a start at or behind the output angle at a restart commit. -/
def State.decideSlot (s : State) (c : Nat) (restart noEvent noShot : Bool) (n : Nat) : State :=
  let d := s.activeDesc n
  if !d.en then s
  else if s.armed n then (if restart && angDist s.out d.start ≤ 0 then s.cancelSlot c n else s)
  else if (if d.isEvent then noEvent else noShot) then (if s.fired n then s else s.cancelSlot c n)
  else if s.fired n then s.withSch { s.sch with heldBack := if s.sch.heldBack.contains n then s.sch.heldBack else s.sch.heldBack ++ [n] }
  else if 0 < angDist s.out d.start then s.setArmed n true
  else if restart then s.cancelSlot c n
  else s.lateSlot c n

/-- The loss-of-host withdrawal is in force (R23): direct mode. -/
def State.withdrawing (s : State) : Bool :=
  (s.flag Fld.SYS_STAT_HOST_RAMP || s.sys.rampDone) && !s.flag Fld.SCH_CTRL_DEMAND
/-- The autonomy of R135 is exhausted. -/
def State.autonomyOut (s : State) : Bool := s.get Fld.SCH_CTRL_AUTONOMY < s.get Fld.SCH_STAT_AUTO_CNT

/-- The enabled slots of a committed set in the order in which those that act at once act: events in ascending slot number (R106), shots
in service order (R25, R117). -/
def State.decideOrder (s : State) (c : Nat) : List Nat :=
  let l := (s.slotsOf c).filter (fun n => (s.activeDesc n).en)
  l.filter (fun n => (s.activeDesc n).isEvent) ++
  inOrder (fun m n => s.servedBefore (s.shotOf c m true) (s.shotOf c n true)) (l.filter (fun n => !(s.activeDesc n).isEvent))

/-- The slots that a commit of cylinder `c` decides: its range; of a disabled cylinder's, those that no other one owns (R98, R99). -/
def State.commitSlots (s : State) (c : Nat) : List Nat :=
  if s.cylEn c then s.slotsOf c else (s.slotsOf c).filter (fun n => s.cylOf n == some c)

/-- The active range takes the shadow's descriptors; that of a disabled cylinder is emptied (R98, R107). -/
def State.copySet (s : State) (c : Nat) : State :=
  if s.cylEn c then (s.slotsOf c).foldl (fun s n =>
    (List.range 4).foldl (fun s w => s.setWord (Reg.SCH_ACTIVE n w) (s.word (Reg.SCH_SHADOW n w))) s) s
  else (s.commitSlots c).foldl (fun s n => s.setWord (Reg.SCH_ACTIVE n 0) (s.word (Reg.SCH_ACTIVE n 0) &&& 0x7FFFFFFF)) s

/-- A commit of cylinder `c` (R107, R108, R111–R113, R135). -/
def State.commitCyl (s : State) (restart : Bool) (c : Nat) : State :=
  let stale := s.txnOpen c
  let bad := !stale && !s.setOk c
  let copy := !s.cylEn c || (!stale && !bad)
  -- the old active set is reused, or copied over from the shadow
  let s1 := if !s.cylEn c then s
    else if stale then ((s.addWrap Fld.SCH_STAT_STALE_COMMITS 1).irq 65).anom 6
    else if bad then ((s.raiseFlag Fld.SCH_STAT_CLOSE_REFUSED).addWrap Fld.SCH_CNT_CLOSE_REF 1).irq 65
    else s
  let out := s1.autonomyOut
  let noEvent := out
  let noShot := out || s1.withdrawing
  let s2 := (s1.commitSlots c).foldl (fun s n =>
      let gone := copy || (if (s.activeDesc n).isEvent then noEvent else noShot)
      if gone then (if s.armed n then s.cancelSlot c n else s.unhold n) else s) s1
  let s3 := if copy then s2.copySet c else s2
  let s4 := if s.cylEn c then (s3.decideOrder c).foldl (fun s n => s.decideSlot c restart noEvent noShot n) s3 else s3
  let s5 := if !out then s4.withSch { s4.sch with autoOut := false }
    else if s4.sch.autoOut then s4
    else ((s4.withSch { s4.sch with autoOut := true }).raiseFlag Fld.SCH_STAT_AUTO_OUT).irq 69
  let s6 := if s5.withdrawing then s5.withSch { s5.sch with withdrawn := s5.sch.withdrawn ||| 2 ^ c } else s5
  let s7 := s6.withSch { s6.sch with
    live := if s.cylEn c then s6.sch.live ||| 2 ^ c else s6.sch.live - (if s6.sch.live.testBit c then 2 ^ c else 0) }
  ((((s7.set (Fld.SCH_CYL_E_LATCH c) (s7.latchFor c)).addWrap Fld.SCH_CNT_COMMITS 1).irq 74).mirrorCommit c restart)

/-- The latch passage of cylinder `c` has been acted on, or its prepare event. -/
def State.takeLatch (s : State) (c : Nat) : State := s.withSch { s.sch with latchPend := s.sch.latchPend ^^^ 2 ^ c }
def State.takePrep (s : State) (c : Nat) : State := s.withSch { s.sch with prepPend := s.sch.prepPend ^^^ 2 ^ c }

/-- The enabled cylinders. -/
def State.enabledCyls (s : State) : List Nat := (List.range 24).filter s.cylEn

/-- A restart commit (R113): every enabled cylinder commits, in place of any commit due in this tick. -/
def State.restartCommit (s : State) : State :=
  if !s.flag Fld.CLK_GATE0_SCH || !s.flag Fld.SCH_CTRL_EN then s
  else ((s.enabledCyls.foldl (fun s c => s.commitCyl true c) (s.withSch { s.sch with latchPend := 0 })).raiseFlag Fld.SCH_STAT_RESTART).irq 70 |>.anom 5

-- ── Ends and grants (R118, R122) ──────────────────────────────────────────────────────────────────────────────────

/-- SHOT_OK falls: ANGLE ends become times at the rate in that tick, or at the last rate that was not zero (R118). -/
def State.fixAngleEnds (s : State) : State :=
  let rate := if s.outRate = 0 then s.voter.lastRate else s.outRate
  (List.range 48).foldl (fun s n =>
    match (s.chan n).shot with
    | some sh =>
      if !sh.timeEnd && s.occupies n && (s.chan n).endAt.isNone && rate != 0 then
        let left := (accDist s.outAcc (sh.endVal * fracOne)).toNat
        s.setChan n { s.chan n with endAt := some (s.now + left / rate) }
      else s
    | none => s) s

/-- Whether an armed shot of higher class on the bank of `w` starts within `w`'s BOOST time limit (R122). -/
def State.higherSoon (s : State) (w : Shot) : Bool :=
  let lim := 4 * (s.activeProfile w.profile).boostT
  s.armedSlots.any (fun n =>
    let d := s.activeDesc n
    !d.isEvent && bankOf d.channel == bankOf w.ch && d.cls < w.cls &&
    decide (0 ≤ accDist s.outAcc (d.start * fracOne)) &&
    decide ((accDist s.outAcc (d.start * fracOne)).toNat ≤ s.outRate * lim))

/-- Whether a waiting shot has outwaited DRV_BANK.TOL, and whether TRK_OUT has reached its ANGLE end (R122). -/
def State.tolOver (s : State) (k : Nat) (w : Shot) : Bool := decide (w.firedAt + s.get (Fld.DRV_BANK_TOL k) * usTicks < s.now)
def State.endReached (s : State) (w : Shot) : Bool := !w.timeEnd && s.atOrBeyond w.endVal

/-- The shots that wait for a bank's boost phase: on a drag, those of its own arbitration under the observed-drive rule (R122, R256). -/
def State.waitingOn (s : State) (k : Nat) : List Shot :=
  if s.isDrag then s.flo.virtualQ.filter (fun w => bankOf w.ch == k) else s.queue k

/-- The first-ranked shot of a bank that still may wait (R25, R122). -/
def State.firstWaiting (s : State) (k : Nat) : Option Shot :=
  ((s.waitingOn k).filter (fun w => !s.tolOver k w && !s.endReached w)).foldl (fun b w => match b with | none => some w | some v => if s.servedBefore w v then some w else some v) none

/-- The shot that the bank's boost phase goes to in this tick, if it is free (R122, R144). -/
def State.grantable (s : State) (k : Nat) : Option Shot :=
  match s.firstWaiting k with
  | none => none
  | some w => if !s.boosting k && (s.bank k).freeAt ≤ s.now && s.bankAdmits w.ch (s.startClaim w) && !s.higherSoon w then some w else none

/-- The grant (R122): DELAYED_LATE beats DELAYED_BANK, which a wait of at least one tick gives (R123). -/
def State.grantTo (s0 : State) (k : Nat) (w : Shot) : State :=
  let s := s0.setCounts { s0.wit.now with worstWait := Nat.max s0.wit.now.worstWait (Nat.min 65535 ((s0.now - w.firedAt) / 40)) }
  (s.setQueue k ((s.queue k).filter (fun v => v.slot ≠ w.slot))).beginShot w
    (if w.late then 2 else if w.firedAt < s.now then 1 else 0)

/-- A refused waiting shot. -/
def State.dropWaiting (s : State) (k : Nat) (w : Shot) : State :=
  (s.setQueue k ((s.queue k).filter (fun v => v.slot ≠ w.slot))).refuseShot w 0x8 0

end Sys2Proof.Machine
end

