-- ==== Sys2Proof/Machine/Pair.lean ====
section
/-! DEFINITION. What a pair member does when it takes the drive or gives it up (R250–R258): continuing the partner's shots from the
last SHOT cells, taking over, yielding, the observed-drive rule. -/

namespace Sys2Proof.Machine

/-- The time, in ticks of `now`, of a domain time that has passed. -/
def State.localTime (s : State) (t : Nat) : Nat := s.now - (s.domTime - t) / 16

/-- The newest standby record of a channel that is still open for observation. -/
def State.standbyRec (s : State) (n : Nat) : Option OpenRec := (s.openRecs n).reverse.find? (fun r => r.standby && r.endAt.isNone)

/-- A shot with the data of the device's own active slot. -/
def State.ownShot (s : State) (ch slot : Nat) : Shot :=
  match s.cylOf slot with
  | some c => { s.shotOf c slot false with ch := ch }
  | none => { slot := slot, ch := ch }

/-- What a channel continues at a takeover (R253): its last SHOT cell, or, for a standby shot whose rise has been seen and whose cell
has not come, the rise and the slot's own data. -/
def State.toContinue (s : State) (n : Nat) : Option (Shot × ShotCell) :=
  let fromRise : Option (Shot × ShotCell) :=
    match s.standbyRec n with
    | some r =>
      if !r.seen then none
      else
        let sh := s.ownShot n r.slot
        let p := s.activeProfile sh.profile
        let ph := p.after false 0
        let t := s.domTime - 16 * (s.now - r.startedAt)
        some (sh, { slot := r.slot, profile := sh.profile, phase := ph, outcome := 0, batt := false, timeEnd := sh.timeEnd, sp := p.sp ph
                    tStart := t, tPhase := t, endVal := sh.endVal })
    | none => none
  match s.shotCellOf n with
  | none => fromRise
  | some c =>
    let other := match s.standbyRec n with
      | some r => r.seen && r.slot != c.slot
      | none => false
    if c.virtual || c.phase = 0 || other then fromRise
    else some ({ s.ownShot n c.slot with profile := c.profile, batt := c.batt, timeEnd := c.timeEnd, endVal := c.endVal }, c)

/-- The standby records of a channel close as STANDBY_OBSERVED (R254). -/
def State.closeStandby (s : State) (n : Nat) : State :=
  let rs := (s.openRecs n).filter (·.standby)
  rs.foldl (fun s r => s.closeRecord r Measured.none) (s.setOpenRecs n ((s.openRecs n).filter (fun r => !r.standby)))

/-- The paths that were observed on the partner (R250, R252), by channel: the low-side switch, and the channels above VBOOST, which take the
recovery path; the others take the freewheel path. `above` is none where nothing tells it: a free value (log entry 16). -/
structure Paths where
  low : Nat
  above : Option Nat

/-- The channel runs on from the partner's drive (R250, R252–R254), by the path observed. -/
def State.continueShot (s : State) (held : Bool) (path : Paths) (n : Nat) : State :=
  match s.toContinue n with
  | none => s
  | some (sh, c) =>
    let p := s.activeProfile sh.profile
    let start := s.localTime c.tStart
    let s1 := s.closeStandby n
    let act := match s.standbyRec n with
      | some r => if r.seen then r.actStart else s.out
      | none => s.out
    let s2 := (((((s1.set (Fld.DRV_CH_STAT_PHASE n) c.phase).set (Fld.PRF_CH_STAT_SP n) c.sp).set (Fld.PRF_CH_STAT_PROFILE n) sh.profile).setFlag
      (Fld.PRF_CH_STAT_BATT n) sh.batt).setFlag (Fld.PRF_CH_STAT_ONOFF n) p.onoff)
    let low := path.low.testBit n
    let w := s2.freeIf (!low && path.above.isNone) 1 (if (path.above.getD 0).testBit n then 1 else 0)
    let openT := w.2.get (Fld.DRV_CH_CFG_OPEN_T n)
    let s3 := w.2.setChan n { w.2.chan n with
      shot := some sh, prof := p, startAt := start, gridAt := start, phaseAt := w.2.localTime c.tPhase, chopping := false, held := held
      claim := w.2.claimFrom n p sh.batt c.phase
      outcome := c.outcome, lowSide := low, lowAt := w.2.now, fastDecay := !low && w.1 == 1
      endAt := if sh.timeEnd then some (start + 4 * sh.endVal) else none
      openDone := openT == 0 || w.2.passed start (4000 * openT) }
    let r := s3.newRec sh c.outcome 0
    s3.setOpenRecs n (s3.openRecs n ++ [{ r with
      actStart := act, startTime := start - (s3.now - s3.tclk), startedAt := start
      flags := r.flags ||| (if sh.batt then 1 else 0) ||| (if s3.inPair n then 128 else 0)
      endAt := if c.phase = 5 then some (s3.localTime c.tPhase) else none
      endTime := if c.phase = 5 then Nat.min 0xFFFFFF ((s3.localTime c.tPhase - start) / 4) else 0 }])

/-- The channels that can drive continue, and the SHOT cells have served. -/
def State.continueAll (s : State) (held : Bool) (path : Paths) : State :=
  let s1 := ((List.range 48).filter s.canDrive).foldl (fun s n => s.continueShot held path n) s
  { s1 with flo := { s1.flo with shotCells := [] } }

/-- The channels on which OBS_DRIVE stands. -/
def State.drivenNow (s : State) : Nat := bitsWhere 48 (fun n => s.flag (Fld.DRV_CH_STAT_OBS_DRIVE n))

/-- Every channel regulates again after a hold (R250, R252). -/
def State.releaseAll (s : State) : State :=
  (List.range 48).foldl (fun s n => if (s.chan n).held then s.setChan n { s.chan n with held := false } else s) s

/-- An unplanned takeover (R252, R253, R258): reason 7, by the paths of the tick before the line went free, or reason 8; a pending request is
discarded. -/
def State.takeOver (s : State) (reason : Nat) : State :=
  let s1 := { s.releaseAll with flo := { s.flo with handover := none } }
  let path : Paths := if reason = 7 then ⟨s.flo.freeLow, some s.flo.freeAbove⟩ else ⟨s.drivenNow, none⟩
  let s2 := ((s1.setRole 1).assertArb true).continueAll false path
  ((s2.addWrap Fld.FLO_PAIR_CNT_HANDOVERS 1).set Fld.FLO_HOLAST_REASON reason).raiseFault Fld.SYS_FAULT_FLO

/-- Whether a drag may take over: ARMED or RUNNING, with the drive enabled (R252). -/
def State.mayTake (s : State) : Bool :=
  s.isDrag && (s.get Fld.SYS_STATE_STATE == 5 || s.get Fld.SYS_STATE_STATE == 6) && s.flag Fld.DRV_CTRL_EN

/-- The member yields (R257, R258): standby on all channels, ARB released, drag, source 237. -/
def State.yieldDrive (s : State) : State :=
  let s1 := { s with flo := { s.flo with handover := none } }
  let s2 := (s1.setRole 2).assertArb false
  (((s2.addWrap Fld.FLO_PAIR_CNT_YIELDS 1).set Fld.FLO_HOLAST_REASON 9).irq 237).raiseFault Fld.SYS_FAULT_FLO

/-- The node ID of this device is above its partner's. -/
def State.higherNode (s : State) : Bool := s.partner < s.get Fld.FLO_NODE_NODE_ID

/-- FOREIGN has set on a bank of a member that drives (R248, R257). -/
def State.foreignRule (s : State) : State :=
  if !s.isCope then s
  else if !s.flag Fld.FLO_PAIRSTAT_HB_LOST && s.get Fld.FLO_PAIRSTAT_P_ROLE == 2 then s.requestHandover 2
  else if s.higherNode then s.yieldDrive else s

/-- The expected shots that are known to be served and closed, in fire order (R256): what is left of them, the ABSENT ones in a row, and whether
two came in a row. -/
def runExpected : List Expected → Nat → Bool → List Expected × Nat × Bool
  | [], n, hit => ([], n, hit)
  | e :: r, n, hit =>
    match e.served, e.absent with
    | some false, _ => runExpected r n hit
    | some true, some true => runExpected r (n + 1) (hit || 1 ≤ n)
    | some true, some false => runExpected r 0 hit
    | _, _ => (e :: r, n, hit)

/-- The observed-drive rule judges what it knows: two ABSENT in a row, and the drag takes over (R256). -/
def State.checkExpected (s : State) : State :=
  let x := runExpected s.flo.expectQ s.flo.absentRun false
  let s1 := { s with flo := { s.flo with expectQ := x.1, absentRun := x.2.1 } }
  if x.2.2 && s1.mayTake && s1.observing then s1.takeOver 8 else s1

/-- What the drag's arbitration, or a record's close, tells of an expected shot. -/
def State.tellExpected (s : State) (p : Expected → Bool) (f : Expected → Expected) : State :=
  { s with flo := { s.flo with expectQ := s.flo.expectQ.map (fun e => if p e then f e else e) } }.checkExpected

/-- The observed-drive rule at the close of a standby record (R256). -/
def State.observeRule (s : State) (r : OpenRec) (absent : Bool) : State :=
  if !r.expect then s
  else s.tellExpected (fun e => e.ch == r.ch && e.slot == r.slot && e.firedAt == r.firedAt) (fun e => { e with absent := some absent })

/-- A shot that waited in the drag's own arbitration is served (`true`) or refused (R122, R256). -/
def State.virtualEnd (s : State) (w : Shot) (served : Bool) : State :=
  let s1 := { s with flo := { s.flo with virtualQ := s.flo.virtualQ.erase w } }
  let ok := served && !s.wouldFault w
  (if ok then s1.virtualShot w else s1).tellExpected (fun e => e.ch == w.ch && e.slot == w.slot && e.firedAt == w.firedAt)
    (fun e => { e with served := some ok })

/-- The bank's boost phase goes to a waiting shot (R122); on a drag in its own arbitration alone (R256). -/
def State.giveBoost (s : State) (k : Nat) (w : Shot) : State := if s.isDrag then s.virtualEnd w true else s.grantTo k w
/-- A waiting shot may wait no longer (R122). -/
def State.endWait (s : State) (k : Nat) (w : Shot) : State :=
  if !(s.waitingOn k).contains w then s else if s.isDrag then s.virtualEnd w false else s.dropWaiting k w

end Sys2Proof.Machine
end

