-- ==== Sys2Proof/Machine/Sys.lean ====
section
/-! DEFINITION. The device-wide states and their transitions (R15–R23), reset and Frost (R312–R321), the READY and FAULT lines
(R20, R21), host presence (R22–R24). -/

namespace Sys2Proof.Machine

def State.withSys (s : State) (x : SysState) : State := { s with sys := x }
def State.withPwr (s : State) (x : PwrState) : State := { s with pwr := x }
def State.withClk (s : State) (x : ClkState) : State := { s with clk := x }
def State.withFlo (s : State) (x : FloState) : State := { s with flo := x }
def State.withHst (s : State) (x : HstState) : State := { s with hst := x }
def State.withSec (s : State) (x : SecState) : State := { s with sec := x }
def State.withTst (s : State) (x : TstState) : State := { s with tst := x }
def State.withWit (s : State) (x : WitState) : State := { s with wit := x }
def State.withDrv (s : State) (x : DrvState) : State := { s with drv := x }

/-- SYS_STATE.STATE: 1 FROST, 2 THAW, 3 BOOT, 4 IDLE, 5 ARMED, 6 RUNNING, 7 SHUTDOWN, 8 SAFE, 9 BENCH. -/
def State.st (s : State) : Nat := s.get Fld.SYS_STATE_STATE

/-- Whether a SYS_FAULT bit enabled in SYS_FAULTCFG.SAFE, or in LINE, is set; bits 0 and 1 of both fields are fixed at 1. -/
def State.safeFault (s : State) : Bool :=
  (s.word Reg.SYS_FAULT).toNat &&& (s.get Fld.SYS_FAULTCFG_SAFE ||| 3) != 0
def State.lineFault (s : State) : Bool :=
  (s.word Reg.SYS_FAULT).toNat &&& (s.get Fld.SYS_FAULTCFG_LINE ||| 3) != 0

/-- The READY output (R20). -/
def State.readyLine (s : State) : Bool := !s.pwr.inReset && (s.st == 4 || s.st == 5 || s.st == 6)

/-- Whether FAULT is released (R21, R321). -/
def State.faultLine (s : State) : Bool :=
  s.pwr.inReset || s.st == 2 || s.st == 3 || (if s.st == 1 then s.pwr.heldFault else s.lineFault)

/-- TCLK runs once the PLLs have locked (R15, R33). -/
def State.tclkRuns (s : State) : Bool := !s.pwr.inReset && 3 ≤ s.st

/-- COM runs, which handles CMD, LOG, ROUTE and VOTE cells (R222). -/
def State.comRuns (s : State) : Bool := s.tclkRuns && !s.sys.comDown

-- ── Images (R291–R297) ────────────────────────────────────────────────────────────────────────────────────────────

/-- MRAM address of an image slot, and of a half of the calibration store (R419). -/
def slotAddr (k : Nat) : Nat := 0x60000000 + 0x200000 * k
def calAddr (h : Nat) : Nat := 0x60400000 + 0x100000 * h

/-- A little-endian word of memory. -/
def State.memWord (s : State) (a : Nat) : Nat := leNat (s.bytes a 4)

/-- ROLLBACK and FW_VER of the image in a slot (R291). -/
def State.slotRollback (s : State) (k : Nat) : Nat := (s.byte (slotAddr k + 16)).toNat
def State.slotFwVer (s : State) (k : Nat) : Nat := s.memWord (slotAddr k + 12)

/-- SEC_BOOT shows the boot record. -/
def State.showBoot (s : State) : State :=
  ((s.set Fld.SEC_BOOT_ACTIVE s.sec.active).setFlag Fld.SEC_BOOT_TRIAL s.sec.trial).setFlag Fld.SEC_BOOT_ATTEMPT s.sec.attempt

/-- At an IDLE entry the firmware confirms the image: TRIAL and ATTEMPT clear, and the fuses rise to ROLLBACK (R297). -/
def State.confirmImage (s : State) : State :=
  if !s.sys.verified || s.hst.resetAt.isSome then s else
  let f := Nat.max s.sec.fuses (s.slotRollback s.sec.active)
  ((s.withSec { s.sec with trial := false, attempt := false, fuses := f }).set Fld.SEC_ROLLBACK_COUNT f).showBoot

/-- WHL_CFGn.FE: 0 off, 1 VR, 2 and 3 digital (R29). -/
def State.frontEnd (s : State) (n : Nat) : Nat := s.get (Fld.WHL_CFG_FE n)

/-- The level outside at an input's pins, before POL. -/
def State.wheelPin (s : State) (n : Nat) : Bool := s.hst.wheelExt.testBit n
/-- The comparator of an enabled input follows the level outside after POL (WHL_STATn.LEVEL). -/
def State.levelFromPin (s : State) (n : Nat) : State :=
  if s.frontEnd n = 0 then s
  else s.setFlag (Fld.WHL_STAT_LEVEL n) (s.wheelPin n != s.flag (Fld.WHL_CFG_POL n))

/-- Every enabled input shows the level at its pins. -/
def State.levelsFromPins (s : State) : State := (List.range 4).foldl State.levelFromPin s

/-- On leaving BENCH the simulator stops, and the inputs return to their pins (R53). -/
def State.simOff (s : State) : State :=
  let s1 := (s.setFlag Fld.WHL_SIM_CTRL_EN false).setFlag Fld.WHL_SIM_CTRL_RUN false
  ({ s1 with sim := {} }).levelsFromPins

/-- Keeps a copy of a register in the system store (R420). -/
def State.saveReg (s : State) (a : Nat) : State :=
  s.withSec { s.sec with saved := spPut (fun _ => 0) s.sec.saved a (s.word a)
                         savedKeys := if s.sec.savedKeys.contains a then s.sec.savedKeys else s.sec.savedKeys ++ [a] }

/-- A tracker's tables as the store keeps them: key 2^20 × tracker + the table's own key (R81). -/
def tagKeys (x : Nat) (l : Sparse Nat) : Sparse Nat := l.map (fun e => (1048576 * x + e.1, e.2))
/-- SUP stores the tracker tables, the trained bits and the corrections (R81, R205). -/
def State.storeTables (s : State) : State :=
  let s1 := (List.range 48).foldl (fun s n => s.saveReg (Reg.WIT_CH_CORR n)) s
  s1.withSec { s1.sec with
    kSaved := tagKeys 0 (s1.trk 0).kTab ++ tagKeys 1 (s1.trk 1).kTab
    profSaved := tagKeys 0 (s1.trk 0).profile ++ tagKeys 1 (s1.trk 1).profile
    trainSaved := [(0, s1.get (Fld.TRK_LOAD_TRAINED 0)), (1, s1.get (Fld.TRK_LOAD_TRAINED 1))] }

-- ── State changes ─────────────────────────────────────────────────────────────────────────────────────────────────

/-- Every shot waiting for a grant ends REFUSED_FAULT (R16, R148). -/
def State.refuseAllWaiting (s : State) : State := s.refuseWaiting (fun _ => true)

/-- The governor's integrator starts at Q_START on entry to RUNNING (R134). -/
def State.startGovernor (s : State) : State :=
  s.withSch { s.sch with govI := (leAt s.cal.gov 12 2 * 65536 : Nat), govQ := leAt s.cal.gov 12 2 }

/-- REARM_WAIT sets (R17). -/
def State.setRearm (s : State) : State :=
  (s.setFlag Fld.SYS_STAT_REARM_WAIT true).withSys { s.sys with rearmAt := s.now }

/-- The selected tracker is STOPPED. -/
def State.stopped (s : State) : Bool := s.trkState s.sel == 0

/-- What an entry to a state brings with it (R16–R18, R81, R134, R236, R297, R395). In SHUTDOWN the stop angle counts as saved where the tracker
has stopped before (R15). Host presence is counted from the end of BOOT
(log entry 31). -/
def State.onEntry (s : State) (old n : Nat) : State :=
  let s1 := if old = 6 then s.refuseAllWaiting else if old = 9 then s.simOff
    else if old = 3 then s.withSys { s.sys with hostAt := s.now } else s
  if n = 4 then
    let s2 := s1.confirmImage
    if s2.paired then
      (if s2.role != 0 then s2 else s2.formPair)
    else if s2.flag Fld.DRV_CTRL_EN && old != 9 then s2.writeStby false else s2
  else if n = 6 then s1.startGovernor
  else if n = 7 then
    let s2 := s1.setRearm.storeTables
    s2.withSys { s2.sys with stopSaved := s2.stopped && s2.sys.stopSaved }
  else if n = 8 then
    let s2 := s1.requestHandover 3
    if s2.flo.handover.isSome && s2.isCope then s2 else s2.quench
  else if n = 9 then (s1.withSys { s1.sys with benchRegs := s1.regs }).writeStby true
  else s1

/-- SYS_STATE takes a value (R15): PREV keeps the old one and source 0 fires. -/
def State.enterState (s : State) (n : Nat) : State :=
  let old := s.st
  (((s.set Fld.SYS_STATE_PREV old).set Fld.SYS_STATE_STATE n).irq 0).onEntry old n

def State.key (s : State) : Bool := s.flag Fld.SYS_STAT_KEY
def State.stopReq (s : State) : Bool := s.flag Fld.SYS_STAT_STOPREQ

/-- The transition whose condition holds, the row nearest the top of R15's table first; "leaves STOPPED" is read as a level: not STOPPED
(DESIGN CHOICE, log entry 79); rows that a reset, a wake, an opcode or
the end of BOOT causes belong to their own commands. `none`: no condition holds. -/
def State.transition (s : State) : Option Nat :=
  if s.pwr.inReset then none
  else if s.safeFault && 3 ≤ s.st && s.st != 8 then some 8
  else if s.st = 4 then (if s.key && !s.stopReq && !s.flag Fld.SYS_STAT_REARM_WAIT then some 5 else none)
  else if s.st = 5 then (if !s.key || s.stopReq then some 4 else if !s.stopped then some 6 else none)
  else if s.st = 6 then (if !s.key || s.stopReq then some 7 else if s.stopped then some 5 else none)
  else if s.st = 7 then (if s.stopped && s.sys.stopSaved then some 4 else none)
  else none

/-- A drag that reads ARB free takes over (R252). -/
def State.checkTakeover (s : State) : State :=
  if s.paired && s.mayTake && !s.flag Fld.FLO_PAIRSTAT_ARB_LINE && !s.flag Fld.FLO_PAIRSTAT_ARB_FAULT then s.takeOver 7 else s

/-- Settings that wait are applied at once while the selected tracker is STOPPED (R262). -/
def State.checkAdopt (s : State) : State := if s.flag Fld.FLO_SYSSTAT_ADOPT_PEND && s.stopped then s.adoptNow else s

/-- What follows from the state that a command leaves: a drag that reads ARB free takes over (R252), a master that is no candidate any more
stops (R232), settings are applied (R262), MIRROR cells that are due leave (R243). -/
def State.follow (s : State) : State := s.checkTakeover.checkMaster.checkAdopt.flushMirror

/-- At most one transition is made in a cycle, and what follows from it. -/
def State.settle (s : State) : State :=
  match s.transition with
  | some n => (s.enterState n).follow
  | none => s.follow

-- ── Host presence (R22–R24) ───────────────────────────────────────────────────────────────────────────────────────

/-- A valid host packet (R22, R24): it restarts the timeout and ends loss-of-host handling. -/
def State.hostPacket (s : State) : State :=
  (((s.setFlag Fld.SYS_STAT_HOST_LOST false).setFlag Fld.SYS_STAT_HOST_RAMP false).withSys
    { s.sys with hostAt := s.now, rampCycles := 0, rampDone := false }).withFlo { s.flo with hostOk := true }

/-- The loss-of-host ramp or withdrawal has ended (R23): SYS_FAULT.HOST in any state; SHUTDOWN from RUNNING, unless the fault is
enabled for SAFE, whose row stands above it (R15). -/
def State.rampEnds (s : State) : State :=
  let s1 := (s.withSys { s.sys with rampDone := true }).raiseFault Fld.SYS_FAULT_HOST
  if s1.st = 6 && !s1.safeFault then s1.enterState 7 else s1

/-- Whether the withdrawal has reached every enabled cylinder, or the selected tracker is STOPPED (R23). -/
def State.withdrawalOver (s : State) : Bool :=
  s.stopped || s.enabledCyls.all (fun c => s.sch.withdrawn.testBit c)

/-- SYS_HOSTLOSS.RAMP engine cycles in au, and how far TRK_OUT has turned in the ramp (R23); a wrap whose row has not
come yet counts. -/
def State.rampLen (s : State) : Nat := Nat.max 1 (s.get Fld.SYS_HOSTLOSS_RAMP) * cycleAu
def State.rampTurned (s : State) : Nat :=
  (s.sys.rampCycles + if s.voter.outWrap then 1 else 0) * cycleAu + s.out - s.sys.rampFrom

/-- The end of the ramp or withdrawal, when its condition holds (R23). -/
def State.checkRamp (s : State) : State :=
  if !s.flag Fld.SYS_STAT_HOST_RAMP || s.sys.rampDone then s
  else if s.flag Fld.SCH_CTRL_DEMAND then
    (if s.stopped || s.rampLen ≤ s.rampTurned then s.rampEnds else s)
  else if s.withdrawalOver then s.rampEnds else s

-- ── Reset and Frost (R312–R321) ───────────────────────────────────────────────────────────────────────────────────

/-- The registers that the always-on domain keeps (The always-on domain; R342, R364). -/
def aonRegs : List Nat :=
  [Reg.TRK_STOPA, Reg.TRK_FROST, Reg.TRK_FCNT, Reg.PWR_CALVA, Reg.PWR_CALVB, Reg.PWR_CALVCFG, Reg.PWR_SUPCFG, Reg.PWR_RSTC,
   Reg.PWR_WAKEEN, Reg.PWR_WAKECFG, Reg.PWR_WAKESRC, Reg.PWR_AONTMR, Reg.CLK_XCFG, Reg.CLK_XDLY] ++
  (List.range 8).map Reg.IRQ_WAKEMASK

/-- What the coil temperatures were when they were last saved (R167). -/
def keepChan (c : Chan) : Chan := { Chan.reset with savedTw := c.savedTw, savedTb := c.savedTb }

/-- The saved coil temperatures of every channel. -/
def State.keptChans (s : State) : Sparse Chan :=
  (List.range 48).foldl (fun l n => spPut (fun _ => Chan.reset) l n (keepChan (s.chan n))) []

/-- The part of memory that stands while the rails are off: MRAM (R419). SRAM reads as unwritten again (log entry 1). -/
def State.keptMem (s : State) : List (Nat × Byte) := s.mem.filter (fun e => 0x60000000 ≤ e.1)

/-- The device with its rails off (R313, R320): registers at their reset values but for the always-on ones, when `aon`; time,
the queue, MRAM, the SEC block's store and the levels outside stand. -/
def State.railsOff (s : State) (aon : Bool) : State :=
  { pending := s.pending, now := s.now, tclk := 0, free := s.free
    regs := if aon then s.regs.filter (fun e => aonRegs.contains e.1) else []
    mem := s.keptMem, fresh := [], bus := s.bus
    sys := { keyOffAt := none, hostAt := s.now }
    pwr := { tsd := s.pwr.tsd, vbatOver := s.pwr.vbatOver, vaonLow := s.pwr.vaonLow, vbatHeld := s.pwr.vbatHeld
             vaon := s.pwr.vaon, aonLost := s.pwr.aonLost || !aon
             frostFromC6 := aon && s.pwr.frostFromC6, frostAt := s.pwr.frostAt, stageAt := s.now }
    clk := { vcore := 650, d := 12, sclkIrc := true, thawAt := s.now, onXlf := s.clk.onXlf }
    chans := if aon then s.keptChans else []
    hst := { gpioExt := s.hst.gpioExt, wheelExt := s.hst.wheelExt, discExt := s.hst.discExt }
    sec := { s.sec with retained := if aon then s.sec.retained else [] } }

/-- Every reset: the rails fall, reset is held, and the cause is recorded (R312, R314). The state is THAW once reset is released;
SYS_STATE holds its reset value. -/
def State.doReset (s : State) (cause : FReg) : State :=
  let s1 := (s.railsOff true).setFlag cause true
  s1.withPwr { s1.pwr with inReset := true }

/-- The always-on domain has lost its supply (R314): POR alone stands in PWR_RSTC, every always-on setting is lost. -/
def State.powerOnReset (s : State) : State :=
  let s1 := s.railsOff false
  s1.withPwr { s1.pwr with inReset := true, frostFromC6 := false }

/-- The stop angle or coil temperatures stand saved before the rails go (R167, R318). -/
def State.saveCoils (s : State) : State :=
  (List.range 48).foldl (fun s n => s.setChan n { s.chan n with savedTw := (s.chan n).tw, savedTb := (s.chan n).tb }) s

/-- Entry to Frost (R320, R321, R361): FAULT and HOST_INT keep their levels, the always-on timer starts. -/
def State.enterFrost (s : State) : State :=
  let fault := s.faultLine
  let pol := s.get (Fld.IRQ_HCFG_POL 0) + 2 * s.get (Fld.IRQ_HCFG_POL 1)
  let old := s.st
  let inp := s.get Fld.TRK_FROST_IN
  let s1 := s.railsOff true
  let s2 := (s1.set Fld.SYS_STATE_PREV old).set Fld.SYS_STATE_STATE 1
  let s3 := s2.setWord Reg.TRK_FCNT 0
  s3.withPwr { s3.pwr with heldFault := fault, heldPol := pol, frostAt := s.now
                           frostCfg := s.word (Reg.WHL_CFG inp), frostPw := s.word (Reg.WHL_PW inp)
                           floWake := bitsWhere 4 (fun p => s.flag (Fld.FLO_PORT_CTRL_WAKE_EN p))
                           gpioRise := s.get Fld.HST_GPIO_IRQR_RISE % 16, gpioFall := s.get Fld.HST_GPIO_IRQF_FALL % 16 }

end Sys2Proof.Machine
end

