-- ==== Sys2Proof/Machine/Cycle.lean ====
section
/-! DEFINITION. The digest snapshot of a cycle's counts (R212). -/

namespace Sys2Proof.Machine

/-- The anomaly bits whose condition holds now: AUTO_CNT above 0, HOST_LOST, BOOST_LOW, CLAMP_SLOW, a channel or bank fault,
NO_MOTION, RING_OVW (R212). -/
def State.anomNow (s : State) : Nat :=
  (if s.get Fld.SCH_STAT_AUTO_CNT != 0 then 2 ^ 7 else 0) ||| (if s.flag Fld.SYS_STAT_HOST_LOST then 2 ^ 8 else 0) |||
  (if s.flag Fld.DRV_STAT_BOOST_LOW then 2 ^ 9 else 0) ||| (if s.flag Fld.DRV_STAT_CLAMP_SLOW then 2 ^ 10 else 0) |||
  (if (List.range 48).any s.chFault || (List.range 8).any s.bankFault then 2 ^ 11 else 0) |||
  (if (List.range 48).any (fun n => s.flag (Fld.WIT_CH_STAT_NO_MOTION n)) then 2 ^ 12 else 0) |||
  (if s.flag Fld.WIT_STAT_RING_OVW then 2 ^ 14 else 0)

/-- The hottest coil winding, in 10^-9 °C. -/
def State.hottest (s : State) : Int := (List.range 48).foldl (fun a n => if a < (s.chan n).tw then (s.chan n).tw else a) (s.chan 0).tw

/-- Mean speed of the cycle in 0.25 rpm: `au` was covered since it began. In no time at all it is a free value. -/
def State.cycleSpeed (s : State) (au : Nat) : Nat × State :=
  let t := s.now - s.wit.cycleAt
  if t = 0 then let w := s.takeFree; (w.1.toNat % 65536, w.2)
  else (Nat.min 65535 (divRound (au * s.revs s.sel * 240 * 400000000) (cycleAu * t)), s)

/-- Two entries of counts added, saturating. -/
def addCounts (a b : List Nat) : List Nat := List.zipWith (fun x y => Nat.min 65535 (x + y)) a b

/-- A cycle added to a snapshot that COM has not taken (R212). -/
def CycleCounts.merge (p c : CycleCounts) : CycleCounts :=
  { ncyc := p.ncyc + c.ncyc, cycle := c.cycle, speed := p.speed + c.speed, state := c.state, calv := Nat.max p.calv c.calv
    role := c.role, counts := addCounts p.counts c.counts, worstLate := Nat.max p.worstLate c.worstLate
    worstWait := Nat.max p.worstWait c.worstWait, anom := p.anom ||| c.anom, vboostMin := Nat.min p.vboostMin c.vboostMin
    twMax := if p.twMax < c.twMax then c.twMax else p.twMax, recSeq := if p.recN = 0 then c.recSeq else p.recSeq
    recN := Nat.min 65535 (p.recN + c.recN), energy := p.energy + c.energy }

/-- The snapshot (R212): at a forward wrap of TRK_OUT, or PARTIAL when the selected tracker reaches STOPPED; source 148, and 149
when it covers more than one cycle. The next cycle's counts begin with the conditions that hold. -/
def State.snapshot (s : State) (partial_ : Bool) : State :=
  let w := s.cycleSpeed (if partial_ then s.out else cycleAu)
  let c : CycleCounts := { w.2.wit.now with
    ncyc := 1, cycle := (w.2.trk w.2.sel).cycle, speed := w.1, state := w.2.st, calv := Nat.max w.2.pwr.cycleStage (w.2.get Fld.PWR_STAT_STAGE)
    role := w.2.role, anom := w.2.wit.now.anom ||| w.2.anomNow ||| (if partial_ then 2 else 0)
    vboostMin := Nat.min w.2.wit.now.vboostMin (w.2.get Fld.DRV_VBOOST_VBOOST)
    twMax := if w.2.wit.now.twMax < w.2.hottest then w.2.hottest else w.2.wit.now.twMax }
  let m := match w.2.wit.snap with
    | some p => p.merge c
    | none => c
  let s1 := w.2.withWit { w.2.wit with
    snap := some m, cycleAt := w.2.now
    now := { anom := w.2.anomNow, vboostMin := w.2.get Fld.DRV_VBOOST_VBOOST, twMax := w.2.hottest } }
  let s2 := (s1.withPwr { s1.pwr with cycleStage := s1.get Fld.PWR_STAT_STAGE }).irq 148
  if 1 < m.ncyc then (s2.raiseFlag Fld.WIT_STAT_MULTI).irq 149 else s2

end Sys2Proof.Machine
end

