-- ==== Sys2Proof/Machine/Track.lean ====
section
/-! DEFINITION. The trackers (R58–R93): their states, the search for marks, the angle clock at each edge, prediction, learning, cam
edges, the voter, the stop angle. Times are in 1/16 tick, angles in 2^-32 au unless a name says otherwise. -/

namespace Sys2Proof.Machine

-- ── States (R61) ──────────────────────────────────────────────────────────────────────────────────────────────────

/-- Whether a state is CRANK_SYNC, CYCLE_SYNC or COAST. -/
def inSync (st : Nat) : Bool := st == 3 || st == 4 || st == 5

/-- The inputs of the direction a description follows measure a direction (R86). -/
def State.dirSensed (s : State) (x : Nat) : Bool := s.get (Fld.WHL_CFG_DIR_MODE (s.get (Fld.WHL_WD_CFG_DIR_SRC x))) != 0

/-- The stop angle is saved (R86): `old` is the selected tracker's state at that moment. A tracker that follows the domain has none
(R60). The save raises source 32 + 8x of its own (DESIGN CHOICE, log entry 78). -/
def State.saveStop (s : State) (old : Nat) : State :=
  let x := s.sel
  if s.get (Fld.TRK_CTRL_SRC x) = 1 then s.withSys { s.sys with stopSaved := true } else
  let ok := (old == 4 || old == 5 || old == 1) && s.dirSensed x
  let s1 := s.setWord Reg.TRK_STOPA (BitVec.ofNat 32 ((if ok then 2 ^ 31 else 0) + 2 ^ 16 * x + s.nextN x))
  (s1.withSys { s1.sys with stopSaved := true }).irq (32 + 8 * x)

/-- HEALTH of a tracker outside CYCLE_SYNC and COAST reads 255 (R92). -/
def State.showHealth (s : State) (x v : Nat) : State := s.set (Fld.TRK_STAT_HEALTH x) v

/-- The search begins anew: intervals, marks and recorded cam edges are dropped, `edges` edges stand accepted. -/
def freshSearch (t : Trk) (edges : Nat) : Trk :=
  { t with tLast := 0, tPrev := 0, sLast := 0, sPrev := 0, edges := edges, teeth := edges, cand := none, marks := [], cams := []
           camSeq := [], teethAtCam := 0, extraTa := 0 }

/-- The search begins anew with the next edge (R61, R76). -/
def State.restartSearch (s : State) (x : Nat) : State := s.setTrk x (freshSearch (s.trk x) 0)

/-- The clock steps to the angle `a`, the shorter way (R58, R85, R89): a wrap counts, and the net rotation follows (R69). Only a forward
wrap counts as the cycle wrap of R79, R92 and source 38 + 8x (DESIGN CHOICE, log entry 78). -/
def Trk.stepTo (t : Trk) (a : Nat) : Trk :=
  let d := accDist t.acc (a * fracOne)
  let n : Int := (t.acc : Int) + d
  { t with acc := a * fracOne % accMod
           cycle := (((t.cycle : Int) + n / 72057594037927936) % 4294967296).toNat
           wrapPend := t.wrapPend || decide ((accMod : Int) ≤ n)
           camRot := t.camRot + d }

def State.setRate (s : State) (x rate : Nat) : State := s.setTrk x { s.trk x with rate := rate }

/-- TRK_x_SPEED: the rate in 1/16 rpm, to nearest, saturating (R58). -/
def State.speedOf (s : State) (x rate : Nat) : Nat :=
  Nat.min 0xFFFFF (divRound (rate * 400000000 * 60 * s.revs x * 16) (fracOne * cycleAu))
def State.showRate (s : State) (x : Nat) : State := s.set (Fld.TRK_SPEED_SPEED x) (s.speedOf x (s.trk x).rate)

/-- The tracker takes a state (R61, R76, R80, R86, R97): source 32 + 8x, LOST also 34 + 8x, RESYNC counted on a fall from sync; the cycle in
which it changes is no clean one; in SEEK and LOST there is no crawl. -/
def State.setTrkState (s : State) (x n : Nat) : State :=
  let old := s.trkState x
  if old = n then s else
  let s1 := (s.set (Fld.TRK_STAT_STATE x) n).irq (32 + 8 * x)
  let s2 := if n = 6 then s1.irq (34 + 8 * x) else if n = 5 then s1.anom 4 else s1
  let s3 := if (n = 2 ∨ n = 6) ∧ inSync old then s2.addWrap (Fld.TRK_CNT_RESYNC x) 1 else s2
  let s4 := s3.set (Fld.TRK_POS_KNOWN x) (if n == 1 || inSync n then 1 else 0)
  let s5 := if n = 4 ∨ n = 5 then s4.showHealth x (s4.trk x).health else s4.showHealth x 255
  let s5a := s5.setTrk x { s5.trk x with cleanNow := false }
  let s6 := if n = 2 ∨ n = 6 then ((s5a.setTrk x (freshSearch (s5a.trk x) 1)).set (Fld.TRK_STAT_PRED x) 0).set (Fld.TRK_STAT_CRAWL x) 0 else s5a
  let s7 := if n = 4 then s6.setTrk x { s6.trk x with camRot := 0, flips := 0 } else s6
  let s8 := if n = 0 then ((((s7.set (Fld.TRK_STAT_CRAWL x) 0).set (Fld.TRK_STAT_COAST_N x) 0).set (Fld.TRK_STAT_PRED x) 0).setTrk x
      { freshSearch (s7.trk x) 0 with rate := 0, wasReverse := false, cleanPrev := false, tModelDen := 0 }).showRate x else s7
  let s9 := if n = 0 ∧ s8.sel = x then (s8.saveStop old).snapshot true else s8
  if n = 6 && s9.st == 6 && s9.trkState 0 == 6 && s9.trkState 1 == 6 then s9.raiseFault Fld.SYS_FAULT_TRK else s9

-- ── The voter (R91–R94) ───────────────────────────────────────────────────────────────────────────────────────────

/-- Rank of a tracker (R93). -/
def State.rankOf (s : State) (x : Nat) : Nat :=
  if s.posRev x = 0 && s.get (Fld.TRK_CTRL_SRC x) = 0 then 0
  else match s.trkState x with | 4 => 4 | 5 => 3 | 1 => 2 | 3 => 1 | _ => 0

/-- The tracker that the voter selects; `wrap` tells that the selected tracker has just wrapped (R93). -/
def State.choice (s : State) (wrap : Bool) : Nat :=
  let mode := s.get Fld.TRK_VSEL_MODE
  let a := s.rankOf 0
  let b := s.rankOf 1
  let other := 1 - s.sel
  if mode = 1 then 0 else if mode = 2 then 1
  else if a < b then 1 else if b < a then 0
  else if a = 0 then s.get Fld.TRK_VSEL_PREFER
  else if wrap && s.get (Fld.TRK_STAT_HEALTH other) < s.get (Fld.TRK_STAT_HEALTH s.sel) &&
    s.get (Fld.TRK_STAT_HEALTH other) + s.get Fld.TRK_VSEL_HYST ≤ s.get (Fld.TRK_STAT_HEALTH s.sel) then other
  else s.sel

/-- A change of selection (R94, R97): the output angle stands, d takes up the difference; source 39. -/
def State.vote (s : State) (wrap : Bool) : State :=
  let n := s.choice wrap
  if n = s.sel then s else
  let o := s.outAcc
  let s1 := (((s.set Fld.TRK_VSEL_SEL n).addWrap Fld.TRK_SWCNT_COUNT 1).irq 39).anom 3
  { s1 with voter := { s1.voter with slew := accDist (s1.trk n).acc o } }

/-- A sample of the difference between the trackers, at an accepted crank edge of the selected one (R91). -/
def State.voterSample (s : State) (x : Nat) : State :=
  if x != s.sel || !((s.trkState 0 == 4 || s.trkState 0 == 5) && (s.trkState 1 == 4 || s.trkState 1 == 5)) then s else
  let d := angDist (s.trkAngle 1) (s.trkAngle 0)
  let s1 := s.set Fld.TRK_DIFF_DIFF (ofSigned 32 d)
  let n := Nat.max 1 (s.get Fld.TRK_VOTE_VOTE_N)
  if s.get Fld.TRK_VOTE_AGREE < d.natAbs then
    let s2 := { s1 with voter := { s1.voter with overRun := s1.voter.overRun + 1, agreeRun := 0 } }
    if n ≤ s2.voter.overRun && !s2.flag Fld.TRK_VSEL_DISAGREE then
      ((s2.set Fld.TRK_VSEL_DISAGREE 1).raiseFlag Fld.TRK_VSEL_DIS_SEEN).irq 47 else s2
  else
    let s2 := { s1 with voter := { s1.voter with overRun := 0, agreeRun := s1.voter.agreeRun + 1 } }
    if n ≤ s2.voter.agreeRun then s2.set Fld.TRK_VSEL_DISAGREE 0 else s2

/-- The end of the loss-of-host ramp comes before any other transition of this cycle (R15, R23). -/
def State.settleRamp (s : State) : State :=
  let r := s.checkRamp
  if r.st = s.st then r.settle else r.checkTakeover.flushMirror

/-- What follows an event of tracker `x` (R23, R93, R113, R118, R233): the voter, the rise or fall of SHOT_OK, a resynchronisation that
ends in a state that permits shots; the EDGE cell at an edge that was accepted, and at a change of the selected tracker's state or direction. -/
def State.afterTracker (s s0 : State) (x : Nat) (wrap resync edge : Bool) : State :=
  let s1 := s.vote wrap
  let s2 := if s1.outRate = 0 then s1 else { s1 with voter := { s1.voter with lastRate := s1.outRate } }
  let s3 := if (s2.outOk && !s0.outOk) || (resync && s2.sel == x && s2.outOk) then s2.restartCommit
            else if s0.outOk && !s2.outOk then (s2.jumpAngles s0.out).fixAngleEnds else s2.jumpAngles s0.out
  let turned := s3.trkState x != s0.trkState x || s3.trkReverse x != s0.trkReverse x
  let s4 := if (edge || turned) && s3.sel == x then s3.edgeCell else s3
  s4.settleRamp

/-- A tracker whose description is disabled goes to STOPPED (R61). -/
def State.stopDisabled (s : State) : State :=
  (List.range 2).foldl (fun s x =>
    if s.posRev x = 0 && s.get (Fld.TRK_CTRL_SRC x) != 1 && s.trkState x != 0 then (s.setTrkState x 0).afterTracker s x false false false
    else s) s

-- ── Counting teeth ────────────────────────────────────────────────────────────────────────────────────────────────

/-- The tooth `n` teeth before, or after, cycle index `i`. -/
def State.backTeeth (s : State) (x : Nat) : Nat → Nat → Nat
  | 0, i => i
  | n + 1, i => s.backTeeth x n (s.prevTooth x i)
def State.foreTeeth (s : State) (x : Nat) : Nat → Nat → Nat
  | 0, i => i
  | n + 1, i => s.foreTeeth x n (s.nextTooth x i)

/-- The length of the gap between tooth `i` and the tooth before it; 0 when there is none. -/
def State.gapBefore (s : State) (x i : Nat) : Nat :=
  match (s.gaps x).find? (fun g => (g.1 + g.2) % s.posRev x == i % s.posRev x) with
  | some g => g.2
  | none => 0

/-- The extra teeth after tooth `i`, nearest first. -/
def State.extrasAfter (s : State) (x i : Nat) : List Nat :=
  let l := ((s.extraTeeth x).filter (fun e => e.1 == i % s.posRev x)).map Prod.snd
  l.mergeSort (fun a b => a ≤ b)

-- ── Ratios (R63, R64) ─────────────────────────────────────────────────────────────────────────────────────────────

/-- THR of TRK_x_SYNC, in 256ths. -/
def State.thr (s : State) (x : Nat) : Nat := s.get (Fld.TRK_SYNC_THR x)

/-- The estimated L of a candidate gap of interval `t` (R63): Q − 1 to nearest, halves upward; 0 when Q is below 1 + L × THR. -/
def candGap (thr t tl tp : Nat) : Nat :=
  if tl = 0 ∨ tp = 0 then 0 else
  let q := t * tp
  let d := tl * tl
  let l := (2 * q - d) / (2 * d)
  if 1 ≤ l ∧ (256 + l * thr) * d ≤ 256 * q ∧ d ≤ 2 * q then l else 0

/-- The confirmation of a candidate of length `l` and interval `t` by the next interval `ta` (R63). -/
def confirmsGap (thr l t ta : Nat) : Bool :=
  (256 - thr) * t ≤ 256 * ta * (l + 1) && 256 * ta * (l + 1) ≤ (256 + thr) * t

/-- The check of R75 and of a mark at its expected place: Q against 1 + L × THR. -/
def gapPasses (thr l t tl tp : Nat) : Bool := (256 + l * thr) * (tl * tl) ≤ 256 * (t * tp)

/-- An extra tooth: two intervals that fill one, parted at an enabled fraction (R64). -/
def State.extraSeen (s : State) (x ta tb tl : Nat) : Option Nat :=
  let thr := s.thr x
  if tl = 0 ∨ ta = 0 then none
  else if 256 * (ta + tb) < (256 - thr) * tl ∨ (256 + thr) * tl < 256 * (ta + tb) then none
  else ((s.extraTeeth x).find? (fun e =>
    (256 * ta ≤ (e.2 + 16) * (ta + tb)) && (e.2 * (ta + tb) ≤ 256 * ta + 16 * (ta + tb)))).map Prod.snd

-- ── Identifying a position (R65) ──────────────────────────────────────────────────────────────────────────────────

/-- Whether the description's marks repeat under a rotation, or there are none: the position comes from the cam (R65). -/
def State.byCam (s : State) (x : Nat) : Bool :=
  s.ring x || ((s.gaps x).isEmpty && (s.extraTeeth x).isEmpty) ||
  (List.range (s.posRev x)).any (fun d => d != 0 &&
    (s.gaps x).all (fun g => (s.gaps x).contains ((g.1 + d) % s.posRev x, g.2)) &&
    (s.extraTeeth x).all (fun e => (s.extraTeeth x).contains ((e.1 + d) % s.posRev x, e.2)))

/-- The first tooth after a mark of the description, in the direction of motion, for each enabled mark of the kind given: its position. -/
def State.marksLike (s : State) (x : Nat) (rev : Bool) : Mark → List Nat
  | .gap l _ => ((s.gaps x).filter (fun g => g.2 == l)).map (fun g =>
      if rev then s.prevTooth x g.1 % s.posRev x else (g.1 + g.2) % s.posRev x)
  | .extra f _ => ((s.extraTeeth x).filter (fun e => e.2 == f)).map (fun e =>
      if rev then e.1 else (s.nextTooth x e.1) % s.posRev x)

def Mark.teeth : Mark → Nat
  | .gap _ t => t
  | .extra _ t => t

/-- The tooth `n` teeth on in the direction of motion from cycle index `i`, and the one `n` teeth before it. -/
def State.teethOn (s : State) (x : Nat) (rev : Bool) (n i : Nat) : Nat := if rev then s.backTeeth x n i else s.foreTeeth x n i
def State.teethAgo (s : State) (x : Nat) (rev : Bool) (n i : Nat) : Nat := if rev then s.foreTeeth x n i else s.backTeeth x n i

/-- The places of the last mark, as positions, that fit all marks seen (R65). -/
def State.fits (s : State) (x : Nat) (rev : Bool) (ms : List Mark) : List Nat :=
  match ms.getLast? with
  | none => []
  | some m => (s.marksLike x rev m).filter (fun p =>
      ms.all (fun m' => ((s.marksLike x rev m').map (· % s.posRev x)).contains
        (s.teethAgo x rev (m.teeth - m'.teeth) p % s.posRev x)))

-- ── The angle clock (R71–R78) ─────────────────────────────────────────────────────────────────────────────────────

/-- Half-up rounding of a quotient of naturals, 0 for a zero divisor. -/
def roundQ (a b : Nat) : Nat := if b = 0 then 0 else divRound a b

/-- T_lin of R77 as a quotient, in 1/16 tick: spans in au, intervals in 1/16 tick; `tp` = 0 takes w_prev equal to w_last. -/
def tLin (sN sL tL sP tP : Nat) : Nat × Nat :=
  if tL = 0 ∨ sL = 0 then (0, 0)
  else if tP = 0 then (sN * tL, sL)
  else
    let d := tL * tP * (sP + sL)
    let w : Int := (sL * tP * (sP + sL) : Nat) + ((sL * tP : Nat) - (sP * tL : Nat) : Int) * ((sL + sN : Nat) : Int)
    let lo := sL * tP * (sP + sL)
    -- w_pred between w_last / 2 and 2 × w_last
    let w2 : Int := clampInt (lo : Nat) (4 * lo : Nat) (2 * w)
    (2 * sN * d, w2.toNat)

/-- T_model of R77 as a quotient: K in UQ2.14. -/
def tModel (sN sL tL k : Nat) : Nat × Nat := if tL = 0 ∨ sL = 0 ∨ k = 0 then (0, 0) else (tL * sN * 16384, sL * k)

/-- The rate of R71 under the limits of R72: `rem` is the remaining angle in 2^-32 au, the prediction `tn / td` and the time
`gone` since the stamp are in 1/16 tick. The second component tells PHASE_CLAMP. -/
def newRate (rem : Int) (tn td gone prev0 rate0 : Nat) : Nat × Bool :=
  let prev := if prev0 = 0 then rate0 else prev0
  let lo := prev / 8
  let hi := Nat.min (8 * prev) 1099511627775
  let left : Int := (tn : Int) - (gone * td : Nat)
  if left ≤ 0 then (if 0 < rem then hi else lo, true)
  else if rem ≤ 0 then (lo, true)
  else
    let num := rem.toNat * 16 * td
    let q := divRound num left.toNat
    if 8 * num < prev * left.toNat then (lo, true) else if hi < q then (hi, true) else (q, false)

/-- Whether the bucket in use is trained (R78, R81). -/
def State.trained (s : State) (x : Nat) : Bool := s.bit (Fld.TRK_LOAD_TRAINED x) (s.get (Fld.TRK_LOAD_ACTIVE x))

/-- The phase error θ′(i) − A(t_p) in Q23.8 (R71). -/
def phaseError (theta acc : Nat) : Int := divRoundInt (accDist acc (theta * fracOne)) 16777216

/-- The tracker's own angle at the stamp `tp`: the present angle less the rate times the ticks since (R71). -/
def State.angleAt (s : State) (x tp : Nat) : Nat :=
  ((s.trk x).acc + accMod - ((s.trk x).rate * (16 * s.tclk - tp) / 16) % accMod) % accMod

/-- TRK_x_PERR at an edge of tooth `i` with stamp `tp` (R71, R89). -/
def State.notePerr (s : State) (x i tp : Nat) : State :=
  s.set (Fld.TRK_PERR_PERR x) (ofSigned 32 (phaseError (s.theta x i) (s.angleAt x tp)))

/-- The tracker enters crawl: the cycle is no clean one (R80, R84). -/
def State.enterCrawl (s : State) (x : Nat) : State :=
  (s.set (Fld.TRK_STAT_CRAWL x) 1).setTrk x { s.trk x with cleanNow := false }

/-- Crawl by the predicted interval `num / den` (R84). -/
def State.judgeCrawl (s : State) (x num den : Nat) : State :=
  let lim := s.get (Fld.TRK_STOP_CRAWL_T x) * 64000
  if (s.trkState x = 3 ∨ s.trkState x = 4) ∧ lim * den < num then s.enterCrawl x
  else if num < lim * den then s.set (Fld.TRK_STAT_CRAWL x) 0 else s

/-- The next rate of tracker `x` toward tooth `j` (R71, R72, R77, R78, R84): `tp` is the stamp of the edge, `sN` the span to `j`. -/
def State.predict (s : State) (x tp j sN : Nat) : State :=
  let t := s.trk x
  let lin := tLin sN t.sLast t.tLast t.sPrev t.tPrev
  let mod := tModel sN t.sLast t.tLast (t.kOf (s.get (Fld.TRK_LOAD_ACTIVE x)) t.lastIdx)
  let useModel := s.flag (Fld.TRK_CTRL_MODEL_EN x) && s.trained x && !t.fallback && s.trkState x != 5 &&
    !s.flag (Fld.TRK_STAT_CRAWL x) && t.tPrev != 0 && s.trkState x != 1 && mod.2 != 0
  let p := if useModel then mod else lin
  let s1 := s.setTrk x { t with tModelNum := mod.1, tModelDen := mod.2 }
  if p.2 = 0 then s1 else
  let gone := 16 * s.tclk - tp
  let r := newRate (accDist t.acc (s.theta x j * fracOne)) p.1 p.2 gone t.rate (s.get Fld.TRK_RATE0_RATE0)
  let s2 := (s1.setRate x r.1).set (Fld.TRK_STAT_PRED x) (if useModel then 0 else 1)
  let s3 := if r.2 then s2.raiseFlag (Fld.TRK_STAT_PHASE_CLAMP x) else s2
  (s3.judgeCrawl x p.1 p.2).showRate x

/-- The intervals shift by one: the new one with its span. -/
def Trk.pushInterval (t : Trk) (span ti : Nat) : Trk := { t with tPrev := t.tLast, sPrev := t.sLast, tLast := ti, sLast := span }

/-- A position becomes known at the edge of stamp `tp`: tooth `i` (R65–R67). The angle is θ′(i) plus what the present rate covers since;
the rate then follows R71 under the limits of R72. -/
def State.takePosition (s : State) (x st i tp : Nat) : State :=
  let t := s.trk x
  let s0 := s.setTrkState x st
  let span := s0.span x (s0.prevTooth x i) i
  let s1 := s0.setTrk x { s0.trk x with
    tLast := t.tLast, tPrev := t.tPrev, sLast := span, sPrev := s0.span x (s0.backTeeth x 2 i) (s0.prevTooth x i)
    lastIdx := i, extras := 0, failRun := 0, cand := none, wasReverse := false, updates := 0, stamps := []
    cleanNow := false, cleanPrev := false }
  let s2 := ((s1.set (Fld.TRK_POS_NEXT x) (s1.nextTooth x i)).set (Fld.TRK_STAT_COAST_N x) 0).set (Fld.TRK_STAT_DIR x) 0
  let s3 := s2.setTrk x { s2.trk x with acc := (s2.theta x i * fracOne + (s2.trk x).rate * (16 * s.tclk - tp) / 16) % accMod }
  s3.predict x tp (s3.nextTooth x i) (s3.span x i (s3.nextTooth x i))

-- ── Cam edges (R66–R69, R443) ─────────────────────────────────────────────────────────────────────────────────────

/-- Whether an enabled entry of the polarity lies within CAM_TOL of an angle (R68). -/
def State.camMatches (s : State) (x a : Nat) (falling : Bool) : Bool :=
  (s.camEntries x).any (fun c => c.2.2 == falling && decide ((angDist a c.2.1).natAbs ≤ s.get (Fld.WHL_WD_CAMCFG_CAM_TOL x)))

def State.camErr (s : State) (x : Nat) : State :=
  let s1 := s.addWrap (Fld.TRK_CNT_CAMERR x) 1
  s1.setTrk x { s1.trk x with healthNow := (s1.trk x).healthNow + 1 }

/-- The revolution is fixed: revolution `r` holds the present angle (R68). -/
def State.fixRevolution (s : State) (x r : Nat) : State :=
  let s1 := s.setTrkState x 4
  if r = 0 then s1 else
  let t := s1.trk x
  (s1.setTrk x { t with acc := (t.acc + accMod / 2) % accMod, lastIdx := (t.lastIdx + s.posRev x) % s.posCyc x }).set
    (Fld.TRK_POS_NEXT x) ((s1.nextN x + s.posRev x) % s.posCyc x)

/-- Revolution 0 is assumed again (TRK_x_POS): N, the last tooth and the angle move by one revolution where N lies in the other. -/
def State.toFirstRev (s : State) (x : Nat) : State :=
  if s.posRev x ≤ s.nextN x then
    let t := s.trk x
    (s.setTrk x { t with acc := (t.acc + accMod / 2) % accMod, lastIdx := (t.lastIdx + s.posRev x) % s.posCyc x }).set
      (Fld.TRK_POS_NEXT x) (s.nextN x - s.posRev x)
  else s

/-- The tracker falls back to CRANK_SYNC with CAM_CONFLICT (R69). -/
def State.camConflict (s : State) (x : Nat) : State :=
  let s2 := ((s.setTrkState x 3).raiseFlag (Fld.TRK_STAT_CAM_CONFLICT x)).toFirstRev x
  (s2.setTrk x { s2.trk x with flips := 0 }).irq (36 + 8 * x)

/-- A cam edge at angle `a` (revolution 0 assumed) in CRANK_SYNC, or in COAST entered from it (R68, R443). -/
def State.camInCrank (s : State) (x a : Nat) (falling : Bool) : State :=
  let m0 := s.camMatches x a falling
  let m1 := s.camMatches x (a + 8388608) falling
  if s.revs x = 1 then s
  else if m0 == m1 then (if m0 then s else s.camErr x)
  else if s.trkState x = 5 then s.setTrk x { s.trk x with coastFix := some (if m0 then 0 else 1) }
  else s.fixRevolution x (if m0 then 0 else 1)

/-- A good cam edge clears the flip count and CAM_MISSING (R69). -/
def State.camGood (s : State) (x : Nat) : State :=
  (s.setTrk x { s.trk x with flips := 0 }).set (Fld.TRK_STAT_CAM_MISSING x) 0

/-- A cam edge at angle `a` in CYCLE_SYNC, or in COAST entered from it (R69, R443). -/
def State.camInCycle (s : State) (x a : Nat) (falling : Bool) : State :=
  if s.camMatches x a falling then s.camGood x
  else if s.revs x = 2 && s.camMatches x (a + 8388608) falling then
    let s1 := (s.setTrk x { s.trk x with flips := (s.trk x).flips + 1 })
    if Nat.max 1 (s.get (Fld.TRK_SYNC_CAM_FLIP x)) ≤ (s1.trk x).flips && s.trkState x = 4 then s1.camConflict x else s1
  else s.camErr x

/-- In PRESET: a cam edge that matches only the other revolution ends it (R61, R90). -/
def State.camInPreset (s : State) (x a : Nat) (falling : Bool) : State :=
  if s.camMatches x a falling then s
  else if s.revs x = 2 && s.camMatches x (a + 8388608) falling then
    (((s.setTrkState x 3).raiseFlag (Fld.TRK_STAT_PRESET_MISS x)).irq (35 + 8 * x)).toFirstRev x
  else s

/-- A cam edge of known angle, judged by the state (R68, R69, R443). -/
def State.judgeCam (s : State) (x a : Nat) (falling : Bool) : State :=
  let st := s.trkState x
  if st = 3 || (st = 5 && (s.trk x).coastFrom = 3) then s.camInCrank x a falling
  else if st = 4 || st = 5 then s.camInCycle x a falling
  else if st = 1 then s.camInPreset x a falling
  else s

/-- The cam edges recorded while searching are placed and judged (R67): the present crank edge, number `edges`, is the last tooth, whose
index follows a revolution that one of them fixes. -/
def State.placeCams (s : State) (x : Nat) (cams : List CamSeen) (edges : Nat) : State :=
  if !s.flag (Fld.WHL_WD_CFG_CAM_EN x) then s else
  (cams.filter (fun c => c.interval != 0)).foldl (fun s c =>
    let k := s.backTeeth x (edges - c.edges) (s.trk x).lastIdx
    let a := s.theta x k + roundQ (s.span x k (s.nextTooth x k) * c.since) c.interval
    s.judgeCam x (a % cycleAu) c.falling) s

/-- The tracker synchronises from marks (R61, R65): CRANK_SYNC in 4-stroke, CYCLE_SYNC in 2-stroke; the recorded cam edges count. -/
def State.syncFromMark (s : State) (x i tp : Nat) : State :=
  let t := s.trk x
  let s1 := s.takePosition x (if s.revs x = 1 then 4 else 3) (i % s.posRev x) tp
  s1.placeCams x t.cams t.edges

-- ── Searching (R63–R65, R70) ──────────────────────────────────────────────────────────────────────────────────────

/-- The interval after edge `n` closes with `ti`: it holds the fraction of the cam edges recorded in it (R67). -/
def closeCams (cams : List CamSeen) (n ti : Nat) : List CamSeen :=
  cams.map (fun c => if c.interval = 0 && c.edges = n then { c with interval := ti } else c)

/-- Edge `n` turns out to be an extra tooth, which parts one interval in `ta` and `tb` (R64): the cam edges after it count from the tooth
before it. -/
def mergeCams (cams : List CamSeen) (n ta tb : Nat) : List CamSeen :=
  cams.map (fun c => if c.edges = n then { c with edges := n - 1, since := c.since + ta, interval := ta + tb }
                     else if c.edges + 1 = n then { c with interval := ta + tb } else c)

/-- The two last intervals, `tLast` and `ti`, are one, parted by an extra tooth with fraction `f` (R64): a mark. -/
def Trk.takeExtra (t : Trk) (f ti : Nat) : Trk :=
  { t with tLast := t.tLast + ti, cand := none, cams := mergeCams t.cams t.edges t.tLast ti, marks := t.marks ++ [.extra f t.teeth] }

/-- The marks seen may fit one place (R65): then the present edge is `ahead` teeth after the last mark's first tooth. -/
def State.tryMarks (s : State) (x ahead tp : Nat) : State :=
  if s.byCam x then s else
  match s.fits x false (s.trk x).marks with
  | [p] => s.syncFromMark x (s.foreTeeth x ahead p) tp
  | _ => s

/-- A crank edge in SEEK or LOST with the interval `ti` since the edge before it (0: none). Every interval is tested for a candidate; a
confirmed one of a length that no gap has starts the search anew from this edge (R63, R65). -/
def State.seekEdge (s : State) (x tp ti : Nat) : State :=
  let t := s.trk x
  let s0 := s.set (Fld.TRK_STAT_NO_MARK x) (if s.byCam x && !s.ring x then 1 else 0)
  if ti = 0 then s0.setTrk x { t with edges := t.edges + 1, teeth := t.teeth + 1 }
  else match s0.extraSeen x t.tLast ti t.tPrev with
  | some f => (s0.setTrk x (t.takeExtra f ti)).tryMarks x 0 tp
  | none =>
    let l := if s.byCam x then 0 else candGap (s.thr x) ti t.tLast t.tPrev
    let t1 := { t.pushInterval 0 ti with
      edges := t.edges + 1, teeth := t.teeth + 1, cams := closeCams t.cams t.edges ti, cand := if l = 0 then none else some (l, ti) }
    match t.cand with
    | some (lc, tc) =>
      if !confirmsGap (s.thr x) lc tc ti then s0.setTrk x t1
      else if (s.gaps x).any (fun g => g.2 == lc) then
        (s0.setTrk x { t1 with cand := none, marks := t.marks ++ [.gap lc t.teeth] }).tryMarks x 1 tp
      else s0.setTrk x { t1 with cand := none, marks := [], tLast := 0, tPrev := 0 }
    | none => s0.setTrk x t1

-- ── PRESET (R89, R90) ─────────────────────────────────────────────────────────────────────────────────────────────

/-- PRESET ends without its confirmation (R90). -/
def State.presetMiss (s : State) (x : Nat) : State :=
  ((s.setTrkState x 2).raiseFlag (Fld.TRK_STAT_PRESET_MISS x)).irq (35 + 8 * x)

/-- Whether two descriptions have the same positions, stroke, reference and gaps (R88). -/
def State.sameWheel (s : State) (x y : Nat) : Bool :=
  s.posRev x == s.posRev y && s.get (Fld.WHL_WD_CFG_STROKE x) == s.get (Fld.WHL_WD_CFG_STROKE y) &&
  s.get (Fld.WHL_WD_REF_REF_ANGLE x) == s.get (Fld.WHL_WD_REF_REF_ANGLE y) &&
  (List.range 4).all (fun g => s.word (Reg.WHL_WD_GAP x g) == s.word (Reg.WHL_WD_GAP y g))

/-- A preset stands ready for the tracker, VALID = 1, and its wheel is the one of the stop angle (R61, R88). -/
def State.presetApplies (s : State) (x : Nat) : Bool :=
  (s.trk x).preset && s.flag Fld.TRK_STOPA_VALID && s.sameWheel (s.get Fld.TRK_STOPA_WD) x

/-- The first accepted edge of a tracker that takes the preset (R89). -/
def State.presetFirst (s : State) (x tp : Nat) (reverse : Bool) : State :=
  let n := s.nextN x
  let i := if reverse then s.prevTooth x n else n
  let s1 := (s.setTrkState x 1).set (Fld.TRK_STAT_DIR x) (if reverse then 1 else 0)
  let rate := if reverse then 0 else s.get Fld.TRK_RATE0_RATE0
  let a := if reverse then angAdd (s.theta x i) (toSigned 24 (s.get (Fld.TRK_REVOFS_REVOFS x))) else s.theta x i
  let s2 := s1.setTrk x { freshSearch (s1.trk x) 1 with
    acc := (a * fracOne + rate * (16 * s.tclk - tp) / 16) % accMod, rate := rate, stamp := tp, lastIdx := i
    wasReverse := reverse, preset := false, camOk := true, edgeAt := s.now, extras := if reverse then (s.extrasAfter x (s.prevTooth x i)).length else 0 }
  (s2.set (Fld.TRK_POS_NEXT x) (if reverse then i else s.nextTooth x i)).showRate x

/-- The first forward edge after a reverse one, tooth `i` (R85): the clock stands at its corrected angle, and the rate is one span over
the time `ti` since the edge before. -/
def State.turnForward (s : State) (x i ti : Nat) : State :=
  let j := s.nextTooth x i
  let rate := Nat.min (roundQ (s.span x i j * fracOne * 16) ti) 1099511627775
  let s1 := (s.setTrk x { (s.trk x).stepTo (s.theta x i) with
    rate := rate, tLast := 0, tPrev := 0, sLast := 0, sPrev := 0, tModelDen := 0, cleanNow := false }).set (Fld.TRK_POS_NEXT x) j
  ((s1.judgeCrawl x ti 1).set (Fld.TRK_STAT_PRED x) 1).showRate x

/-- A reverse edge of tooth `n` (R85): it becomes N, and the angle steps back to where the next tooth expected backward stands, plus REVOFS;
crawl is entered in CRANK_SYNC and CYCLE_SYNC (R84). -/
def State.standBack (s : State) (x n tp : Nat) : State :=
  let a := angAdd (s.theta x (s.prevTooth x n)) (toSigned 24 (s.get (Fld.TRK_REVOFS_REVOFS x)))
  let s1 := s.setTrk x { (s.trk x).stepTo a with
    rate := 0, stamp := tp, lastIdx := n, wasReverse := true, edgeAt := s.now, extraTa := 0, tModelDen := 0, cleanNow := false }
  let s2 := ((s1.set (Fld.TRK_POS_NEXT x) n).set (Fld.TRK_STAT_DIR x) 1).showRate x
  if s2.trkState x = 3 ∨ s2.trkState x = 4 then (s2.enterCrawl x).set (Fld.TRK_STAT_PRED x) 1 else s2

/-- The extra tooth that is the next edge expected, when one follows before tooth N. -/
def State.nextExtra (s : State) (x : Nat) : Option Nat :=
  ((s.extrasAfter x (s.prevTooth x (s.nextN x))).drop (s.trk x).extras).head?

/-- In PRESET the edge of an expected extra tooth carries no position (R47, R64). -/
def State.presetExtra (s : State) (x tp : Nat) : State :=
  let t := s.trk x
  s.setTrk x { t with extras := t.extras + 1, extraTa := if t.extraTa = 0 then tp - t.stamp else t.extraTa }

/-- The same, passed backward (R85, log entry 71). -/
def State.presetExtraBack (s : State) (x tp : Nat) : State :=
  let t := s.trk x
  let a := angAdd (s.theta x (s.prevTooth x (s.nextN x))) (toSigned 24 (s.get (Fld.TRK_REVOFS_REVOFS x)))
  s.setTrk x { t.stepTo a with
    rate := 0, extras := t.extras - 1, extraTa := if t.extraTa = 0 && t.wasReverse then tp - t.stamp else t.extraTa }

/-- The intervals of R63 are cleared at a change of direction (R89), and the marks with them. -/
def Trk.turned (t : Trk) : Trk := { t with tLast := 0, tPrev := 0, sLast := 0, sPrev := 0, cand := none, marks := [], extraTa := 0 }

/-- The tracker in PRESET takes an edge as tooth `i` (R89) and then stands in state `st`; `t` is its record with the new interval `ti`. -/
def State.presetGo (s : State) (x : Nat) (t : Trk) (st i tp ti : Nat) (rev turned : Bool) : State :=
  let s1 := (s.setTrk x t).setTrkState x st
  if rev then s1.standBack x i tp
  else
    let s2 := s1.set (Fld.TRK_POS_NEXT x) (s.nextTooth x i)
    if turned then s2.turnForward x i ti else s2.predict x tp (s.nextTooth x i) (s.span x i (s.nextTooth x i))

/-- Marks other than the expected one have been seen in PRESET (R61, R65): where they fit one place, the tracker synchronises there, with
PRESET_MISS; else it goes on as `go`. -/
def State.presetOther (s : State) (x : Nat) (t : Trk) (ahead tp : Nat) (rev : Bool) (go : State) : State :=
  match (if s.byCam x then [] else s.fits x rev t.marks) with
  | [p] =>
    let s1 := (((s.setTrk x t).raiseFlag (Fld.TRK_STAT_PRESET_MISS x)).irq (35 + 8 * x)).syncFromMark x (s.teethOn x rev ahead p) tp
    if rev then s1.standBack x (s1.trk x).lastIdx tp else s1
  | _ => go

/-- An edge in PRESET, `ti` after the edge before it: tooth N forward, or the tooth before N backward (R61, R63–R65, R85, R89, R90). Every
interval of one direction is tested by R63; where a mark is expected it must be seen there, with the length that R63 estimates. That the edge
which enters PRESET is not one of the POS_REV + 8 of R61 is the model's choice (DESIGN CHOICE, log entry 78). -/
def State.presetEdge (s0 : State) (x tp ti : Nat) (rev : Bool) : State :=
  let t0 := s0.trk x
  let turned := t0.wasReverse != rev
  let t := if turned then t0.turned else t0
  let old := s0.nextN x
  let i := if rev then s0.prevTooth x old else old
  let s := if rev then s0 else s0.notePerr x i tp
  let upper := if rev then old else i
  let thr := s.thr x
  let l := s.gapBefore x upper
  let before := s.gapBefore x (if rev then s.nextTooth x upper else s.prevTooth x upper)
  let tested := !turned && t.tLast != 0 && t.tPrev != 0
  let seen := if tested && !s.ring x then candGap thr ti t.tLast t.tPrev else 0
  let t1 := { (if turned then t else t.pushInterval (s.span x (s.prevTooth x upper) upper) ti) with
    edges := t.edges + 1, teeth := t.teeth + 1, lastIdx := i, extraTa := 0, cams := closeCams t.cams t.edges ti
    extras := if rev then (s.extrasAfter x (s.prevTooth x i)).length else 0
    cand := if seen = 0 then none else some (seen, ti) }
  let go (u : Trk) (st : Nat) : State := s.presetGo x u st i tp ti rev turned
  let fails := (l != 0 && tested && seen == 0) || s.posRev x + 8 ≤ t.edges
  if t.extraTa != 0 && t.tLast != 0 && !turned then
    -- the expected extra tooth (R64)
    (if (if rev then s.extraSeen x (ti - t.extraTa) t.extraTa t.tLast else s.extraSeen x t.extraTa (ti - t.extraTa) t.tLast).isSome
      then go t1 4 else (go t1 1).presetMiss x)
  else match (if turned || t.extraTa != 0 then none
      else if rev then s.extraSeen x ti t.tLast t.tPrev else s.extraSeen x t.tLast ti t.tPrev) with
  | some f => s.presetOther x (t.takeExtra f ti) 0 tp rev (s.setTrk x (t.takeExtra f ti))
  | none =>
    match t.cand with
    | some (lc, tc) =>
      if confirmsGap thr lc tc ti then
        (if before = lc then go t1 4
         else if (s.gaps x).any (fun g => g.2 == lc) then
           let t2 := { t1 with cand := none, marks := t.marks ++ [.gap lc t.teeth] }
           s.presetOther x t2 1 tp rev (if before != 0 || fails then (go t2 1).presetMiss x else go t2 1)
         else (go t1 1).presetMiss x)
      else if before != 0 || fails then (go t1 1).presetMiss x
      else go t1 1
    | none => if fails then (go t1 1).presetMiss x else go t1 1

-- ── Synchronised (R71–R75, R80, R84, R85, R443) ───────────────────────────────────────────────────────────────────

/-- K(i, b) moved toward the measured ratio (R80): to nearest, ties to even. -/
def kStep (k num den mu : Nat) : Nat :=
  let a := k * (2 ^ mu - 1) * den + num * 16384
  let b := 2 ^ mu * den
  if b = 0 then k else
  let q := a / b
  let r := a % b
  Nat.min 65535 (if 2 * r < b then q else if b < 2 * r then q + 1 else if q % 2 = 0 then q else q + 1)

/-- The conditions of R80 on the edge that closes the interval of tooth `i0`: spans `sN`, `sL`, intervals `tA`, `tL`. -/
def State.learnOk (s : State) (x i0 sN sL tA tL : Nat) : Bool :=
  let t := s.trk x
  let k := t.kOf (s.get (Fld.TRK_LOAD_ACTIVE x)) i0
  let den := tA * sL
  let sp := s.get (Fld.TRK_SPEED_SPEED x)
  let dev := ((sN * tL * 16384 : Nat) - (k * den : Nat) : Int).natAbs
  t.cleanPrev && s.trkState x == 4 && !s.flag (Fld.TRK_STAT_CRAWL x) && den != 0 &&
  16 * s.get (Fld.TRK_LSPD_MIN x) ≤ sp && sp ≤ 16 * s.get (Fld.TRK_LSPD_MAX x) && 100 * dev ≤ s.get (Fld.TRK_PRED_OUTLIER x) * k * den

/-- The learning update of that interval (R80); an edge that fails a condition leaves K, and its cycle does not count for the profile
(R82). -/
def State.learnK (s : State) (x i0 sN sL tA tL : Nat) : State :=
  let t := s.trk x
  let b := s.get (Fld.TRK_LOAD_ACTIVE x)
  if !s.learnOk x i0 sN sL tA tL then s.setTrk x { t with learnNow := false }
  else if !s.flag (Fld.TRK_LEARN_MODEL_LEARN x) then s
  else s.setTrk x { t with
    kTab := spPut (fun _ => 0x4000) t.kTab (1024 * b + i0) (kStep (t.kOf b i0) (sN * tL) (tA * sL) (s.get (Fld.TRK_LEARN_MU x)))
    updates := t.updates + 1 }

/-- The model's error at an edge (R78): fallback is entered, or left after RET good edges. -/
def State.judgeModel (s : State) (x ti : Nat) : State :=
  let t := s.trk x
  if t.tModelDen = 0 ∨ ti = 0 then s else
  let err := ((ti * t.tModelDen : Nat) - (t.tModelNum : Nat) : Int).natAbs
  if s.get (Fld.TRK_PRED_THR x) * (ti * t.tModelDen) < 1000 * err then
    let s1 := s.setTrk x { t with fallback := true, goodRun := 0 }
    if t.fallback then s1 else s1.irq (37 + 8 * x)
  else if t.fallback && Nat.max 1 (s.get (Fld.TRK_PRED_RET x)) ≤ t.goodRun + 1 then
    s.setTrk x { t with fallback := false, goodRun := 0 }
  else s.setTrk x { t with goodRun := t.goodRun + 1 }

/-- The gap check at the first tooth after a gap (R75). -/
def State.gapCheck (s : State) (x l ti tl tp : Nat) : State :=
  if l = 0 ∨ tl = 0 ∨ tp = 0 then s
  else if gapPasses (s.thr x) l ti tl tp then s.setTrk x { s.trk x with failRun := 0 }
  else
    let s1 := (s.addWrap (Fld.TRK_CNT_GAPFAIL x) 1).irq (35 + 8 * x)
    let t := s1.trk x
    let s2 := s1.setTrk x { t with failRun := t.failRun + 1, healthNow := t.healthNow + 1, cleanNow := false }
    if Nat.max 1 (s.get (Fld.TRK_SYNC_FAIL_N x)) ≤ t.failRun + 1 && (s.trkState x = 3 || s.trkState x = 4) then s2.setTrkState x 6 else s2

/-- The return from COAST, with the transition its cam edges would have caused (R61, R443). -/
def State.leaveCoast (s : State) (x : Nat) : State :=
  if s.trkState x != 5 then s else
  let t := s.trk x
  let s1 := (s.setTrkState x t.coastFrom)
  let s2 := s1.setTrk x { s1.trk x with coastFix := none, flips := t.flips, camRot := t.camRot }
  if t.coastFrom = 3 then (match t.coastFix with | some r => s2.fixRevolution x r | none => s2)
  else if Nat.max 1 (s.get (Fld.TRK_SYNC_CAM_FLIP x)) ≤ t.flips then s2.camConflict x else s2

/-- A forward edge of tooth N in CRANK_SYNC, CYCLE_SYNC or COAST (R71–R75). -/
def State.syncEdge (s0 : State) (x tp : Nat) : State :=
  let s := (s0.set (Fld.TRK_STAT_COAST_N x) 0).leaveCoast x
  let t := s.trk x
  let i := s.nextN x
  let wasRev := t.wasReverse
  let ti := tp - t.stamp
  let span := s.span x t.lastIdx i
  let j := s.nextTooth x i
  let s2 := (s.notePerr x i tp).set (Fld.TRK_STAT_DIR x) 0
  if wasRev then
    (s2.setTrk x { t with wasReverse := false, stamp := tp, lastIdx := i, edgeAt := s.now, extras := 0 }).turnForward x i ti
  else
    let follows := t.lastIdx == s.prevTooth x i
    let missed := (s.extrasAfter x (s.prevTooth x i)).length - t.extras
    let s2 := if follows then s2.setTrk x { s2.trk x with healthNow := (s2.trk x).healthNow + missed } else s2
    let s3 := if follows then s2.gapCheck x (s.gapBefore x i) ti t.tLast t.tPrev else s2
    let s4 := (s3.judgeModel x ti)
    let s5 := if follows && t.tLast != 0 && t.sLast != 0 then s4.learnK x t.lastIdx span t.sLast ti t.tLast else s4
    let s6 := s5.setTrk x { (if inSync (s5.trkState x) then (s5.trk x).pushInterval span ti else s5.trk x) with
      stamp := tp, lastIdx := i, edgeAt := s.now, extras := 0, stamps := (i, tp) :: (s5.trk x).stamps }
    let s7 := s6.set (Fld.TRK_POS_NEXT x) j
    if inSync (s7.trkState x) then s7.predict x tp j (s7.span x i j) else s7

/-- A reverse edge in a synchronised state (R84, R85): the tooth before N becomes N. An extra tooth passed since the tooth before N comes first
on the way back and moves no position (R47; DEDUCED, log entry 71). -/
def State.reverseEdge (s0 : State) (x tp : Nat) : State :=
  let s := (s0.set (Fld.TRK_STAT_COAST_N x) 0).leaveCoast x
  let t := s.trk x
  let n := if t.extras = 0 then s.prevTooth x (s.nextN x) else s.nextN x
  let extras := if t.extras = 0 then (s.extrasAfter x (s.prevTooth x n)).length else t.extras - 1
  let s1 := (s.setTrk x { t.turned with extras := extras, edges := t.edges + 1 }).standBack x n tp
  if t.extras = 0 then s1 else s1.setTrk x { s1.trk x with lastIdx := t.lastIdx }

/-- The angle window of R38: whether an edge is accepted, with WIN as it stood at its crossing (R39). The window is open outside
synchronisation, with WIN = 0, and for the first forward edge after a reverse one. Between reverse edges the tooth expected backward stands at
its corrected angle plus REVOFS (R85); the first reverse edge, which no rule places, is accepted (DEDUCED, log entry 12). -/
def State.windowOpen (s : State) (x : Nat) (e : WheelEdge) : Bool :=
  let t := s.trk x
  let aAt := s.angleAt x e.stamp
  let near (a : Nat) : Bool := decide ((accDist aAt (a * fracOne)).natAbs ≤ e.win * fracOne)
  if !inSync (s.trkState x) || e.win == 0 then true
  else if e.reverse then
    !t.wasReverse || t.extras != 0 ||
    near (angAdd (s.nominal x (s.prevTooth x (s.nextN x))) (toSigned 24 (s.get (Fld.TRK_REVOFS_REVOFS x))))
  else
    t.wasReverse || near (s.nominal x (s.nextN x)) ||
    (match (s.extrasAfter x (s.prevTooth x (s.nextN x))).drop t.extras with
     | f :: _ => near (s.nominalExtra x (s.prevTooth x (s.nextN x)) f)
     | [] => false)

/-- Whether an edge in a synchronised state is the next extra tooth rather than tooth N: the nearer of the two (R73). -/
def State.isExtraEdge (s : State) (x tp : Nat) : Bool :=
  let t := s.trk x
  match (s.extrasAfter x (s.prevTooth x (s.nextN x))).drop t.extras with
  | [] => false
  | f :: _ =>
    let aAt := s.angleAt x tp
    decide ((accDist aAt (s.nominalExtra x (s.prevTooth x (s.nextN x)) f * fracOne)).natAbs <
      (accDist aAt (s.nominal x (s.nextN x) * fracOne)).natAbs)

/-- A window rejection (R38, R57, R92). -/
def State.windowReject (s : State) (x : Nat) : State :=
  let s1 := (s.addWrap (if x = 0 then Fld.WHL_WREJ_TRK_A else Fld.WHL_WREJ_TRK_B) 1).irq
    (17 + 4 * s.get (Fld.WHL_WD_CFG_CRANK_IN x))
  s1.setTrk x { s1.trk x with healthNow := (s1.trk x).healthNow + 1, cleanNow := false }

-- ── Direction changes (R43, R85) ──────────────────────────────────────────────────────────────────────────────────

/-- The registers that a crank edge writes. -/
def trkEdgeRegs (x : Nat) : List Nat :=
  [Reg.TRK_STAT x, Reg.TRK_POS x, Reg.TRK_PERR x, Reg.TRK_TINT x, Reg.TRK_CNT x, Reg.TRK_SPEED x, Reg.TRK_DIFF]

/-- What tracker `x` was before its last edge; none once something else has changed it. -/
def State.before (s : State) (x : Nat) : Option TrkBefore := spGet (fun _ => none) s.trkBefore x
def State.setBefore (s : State) (x : Nat) (b : Option TrkBefore) : State :=
  { s with trkBefore := spPut (fun _ => none) s.trkBefore x b }

/-- The edge `e` has made `s` of `s0`: what a direction change with its stamp goes back to. -/
def State.noteBefore (s s0 : State) (x : Nat) (e : WheelEdge) : State :=
  s.setBefore x (some
    { edge := e, trk := { s0.trk x with crankQ := [], camQ := [] }, regs := (trkEdgeRegs x).map (fun a => (a, s0.word a))
      overRun := s0.voter.overRun, agreeRun := s0.voter.agreeRun, disagree := s0.flag Fld.TRK_VSEL_DISAGREE })

/-- A register goes back to the word `v`; a flag that software has cleared since stays clear. -/
def State.restoreWord (s : State) (a : Nat) (v : Word) : State :=
  let w1c := match regRow a with | some r => BitVec.ofNat 32 r.w1c | none => 0
  s.setWord a (v &&& (~~~ w1c ||| s.word a))

/-- The tracker stands as it did before its last edge: all but the angle, which has moved on, and the edges that wait (R85). -/
def State.undoEdge (s : State) (x : Nat) (b : TrkBefore) : State :=
  let t := s.trk x
  let s1 := b.regs.foldl (fun s r => s.restoreWord r.1 r.2) s
  let s2 := s1.setTrk x { b.trk with
    acc := t.acc, cycle := t.cycle, wrapPend := t.wrapPend, camRot := t.camRot, crankQ := t.crankQ, camQ := t.camQ }
  ({ s2 with voter := { s2.voter with overRun := b.overRun, agreeRun := b.agreeRun } }).setFlag Fld.TRK_VSEL_DISAGREE b.disagree

/-- Without what stood before the last edge, N and the time of the edge before go back (R43, R85). -/
def State.stepBackEdge (s : State) (x : Nat) : State :=
  (s.set (Fld.TRK_POS_NEXT x) (if (s.trk x).wasReverse then s.nextTooth x (s.nextN x) else s.prevTooth x (s.nextN x))).setTrk x
    { s.trk x with stamp := (s.trk x).prevStamp }

/-- The direction of the last accepted edge of a tracker. -/
def State.lastReverse (s : State) (x : Nat) : Bool :=
  match s.before x with
  | some b => b.edge.reverse
  | none => (s.trk x).wasReverse

/-- A change of direction that names no edge of the tracker's, or one that it has taken so already (R43, R85). -/
def State.staleLabel (s : State) (x : Nat) (e : WheelEdge) : Bool :=
  e.relabel && (s.trkState x == 0 || decide ((s.trk x).lastStamp < e.stamp) || s.lastReverse x == e.reverse)

/-- Whether the tracker accepts an edge (R38): its description is enabled, it follows that, and its window is open. -/
def State.takesEdge (s : State) (x : Nat) (e : WheelEdge) : Bool :=
  s.posRev x != 0 && s.get (Fld.TRK_CTRL_SRC x) != 1 && (if e.relabel then !s.staleLabel x e else s.windowOpen x e)

-- ── A crank edge (R61, R71, R85, R89) ─────────────────────────────────────────────────────────────────────────────

/-- A crank edge with its final direction. -/
def State.edgeNow (s : State) (x : Nat) (e : WheelEdge) : State :=
  let took (u : State) : State := (u.setTrk x { u.trk x with lastStamp := e.stamp, edgeAt := s.now }).voterSample x
  if !s.windowOpen x e then s.windowReject x
  else if inSync (s.trkState x) && !e.reverse && (if (s.trk x).wasReverse then (s.nextExtra x).isSome else s.isExtraEdge x e.stamp) then
    let s1 := ((s.set (Fld.TRK_STAT_COAST_N x) 0).leaveCoast x).set (Fld.TRK_STAT_DIR x) 0
    took (s1.setTrk x { s1.trk x with extras := (s1.trk x).extras + 1 })
  else if s.trkState x = 1 && !e.reverse && (s.nextExtra x).isSome then took ((s.set (Fld.TRK_STAT_DIR x) 0).presetExtra x e.stamp)
  else if s.trkState x = 1 && e.reverse && (s.trk x).extras != 0 then took ((s.set (Fld.TRK_STAT_DIR x) 1).presetExtraBack x e.stamp)
  else
    let t := s.trk x
    let ti := if t.edges = 0 && s.trkState x = 0 then 0 else e.stamp - t.stamp
    let s1 := (s.set (Fld.TRK_TINT_TINT x) (if ti = 0 then 0xFFFFFFFF else Nat.min 0xFFFFFFFF (ti / 16))).setTrk x { t with edgeAt := s.now, prevStamp := t.stamp }
    let s2 :=
      if s.trkState x = 0 then
        (if s.presetApplies x then s1.presetFirst x e.stamp e.reverse
         else
           let s3 := (s1.setTrkState x 2).setFlag (Fld.TRK_STAT_DIR x) e.reverse
           let n := if e.reverse then 0 else 1
           s3.setTrk x { s3.trk x with stamp := e.stamp, edges := n, teeth := n, wasReverse := e.reverse })
      else if s.trkState x = 2 || s.trkState x = 6 then
        let s1 := (s1.set (Fld.TRK_STAT_COAST_N x) 0).setFlag (Fld.TRK_STAT_DIR x) e.reverse
        (if e.reverse then s1.setTrk x { freshSearch (s1.trk x) 0 with stamp := e.stamp, wasReverse := true }
         else
           let s3 := s1.seekEdge x e.stamp (if t.edges = 0 || t.wasReverse then 0 else ti)
           s3.setTrk x { s3.trk x with stamp := e.stamp, wasReverse := false })
      else if s.trkState x = 1 then
        (let s3 := (s1.setFlag (Fld.TRK_STAT_DIR x) e.reverse).presetEdge x e.stamp ti e.reverse
         s3.setTrk x { s3.trk x with stamp := e.stamp, wasReverse := e.reverse })
      else if e.reverse then s1.reverseEdge x e.stamp
      else s1.syncEdge x e.stamp
    took s2

/-- A crank edge of tracker `x` at its application tick. A direction change re-labels the last edge: the tracker acts on that edge as if it had
come so (R43, R85). -/
def State.crankEdge (s : State) (x : Nat) (e : WheelEdge) : State :=
  if s.posRev x = 0 || s.get (Fld.TRK_CTRL_SRC x) = 1 || s.staleLabel x e then s
  else if !e.relabel then (s.edgeNow x e).noteBefore s x e
  else match s.before x with
  | some b =>
    let s1 := s.undoEdge x b
    let e1 := { b.edge with reverse := e.reverse }
    (s1.edgeNow x e1).noteBefore s1 x e1
  | none =>
    let e1 := { e with relabel := false, stamp := (s.trk x).lastStamp }
    if s.trkState x = 2 || s.trkState x = 6 then
      -- searching: an edge that turns out reverse clears the search (R70); one that turns out forward is its first
      let s1 := s.setFlag (Fld.TRK_STAT_DIR x) e.reverse
      s1.setTrk x { freshSearch (s1.trk x) (if e.reverse then 0 else 1) with wasReverse := e.reverse }
    else (s.stepBackEdge x).edgeNow x e1

/-- A resynchronisation: the tracker has taken an angle anew (R90, R95, R113). -/
def resynced (old new : Nat) (miss : Bool) : Bool :=
  miss || ((old == 2 || old == 6) && inSync new) || (old == 0 && new == 1)

-- ── Missing edges, cam edges ──────────────────────────────────────────────────────────────────────────────────────

/-- Where the expected tooth counts as missing (R74), in 2^-32 au beyond θ′(N). -/
def State.missAfter (s : State) (x : Nat) : Nat :=
  let win := s.get (Fld.WHL_WIN_WIN (s.get (Fld.WHL_WD_CFG_CRANK_IN x)))
  if win = 0 then s.span x (s.nextN x) (s.nextTooth x (s.nextN x)) * fracOne / 2 else win * fracOne

/-- Whether the expected edge of tooth N is missing (R74): not in crawl, not in reverse (R84, R85). -/
def State.edgeMissing (s : State) (x : Nat) : Bool :=
  s.get (Fld.TRK_CTRL_SRC x) == 0 && s.posRev x != 0 && inSync (s.trkState x) && !s.flag (Fld.TRK_STAT_CRAWL x) &&
  !s.trkReverse x && decide (accDist (s.trk x).acc (s.theta x (s.nextN x) * fracOne) < -(s.missAfter x : Int))

/-- A missing edge (R61, R74, R97); in COAST T_lin is in use (R78). -/
def State.missEdge (s0 : State) (x : Nat) : State :=
  let s := s0.setBefore x none
  let old := s.trkState x
  let lim := s.get (Fld.TRK_SYNC_COAST_LIM x)
  let n := Nat.min 15 (s.get (Fld.TRK_STAT_COAST_N x) + 1)
  let s1 := ((s.addWrap (Fld.TRK_CNT_MISS x) 1).set (Fld.TRK_STAT_COAST_N x) n).irq (33 + 8 * x)
  let t := s1.trk x
  let lost := (s.extrasAfter x (s.prevTooth x (s.nextN x))).length - t.extras
  let s2 := (s1.setTrk x { t with healthNow := t.healthNow + 1 + lost, extras := 0, cleanNow := false }).set
    (Fld.TRK_POS_NEXT x) (s.nextTooth x (s.nextN x))
  if old = 5 then (if lim < s.get (Fld.TRK_STAT_COAST_N x) + 1 then (s2.setTrkState x 6).restartSearch x else s2)
  else if lim = 0 then (s2.setTrkState x 6).restartSearch x
  else
    let s3 := s2.setTrk x { s2.trk x with coastFrom := old, coastFix := none }
    ((s3.setTrkState x 5).setTrk x { (s3.setTrkState x 5).trk x with coastFrom := old, camRot := t.camRot, flips := t.flips }).set
      (Fld.TRK_STAT_PRED x) 1

/-- The cam entry that the last edge is, when the counts of teeth between cam edges fit exactly one place (R66). `seq` holds, latest
first, the teeth counted since the cam edge before and the polarity. -/
def State.camPlace (s : State) (x : Nat) (seq : List (Nat × Bool)) : Option Nat :=
  let es := s.camEntries x
  let n := es.length
  let ent (k : Nat) : Nat × Nat × Bool := (es.drop (k % n)).headD (0, 0, false)
  let between (a b : Nat) : Nat := (b + cycleAu - a % cycleAu - 1) % cycleAu + 1
  let okAt (k : Nat) : Bool :=
    seq.zipIdx.all (fun p =>
      let e := ent (k + n * 32 - p.2)
      e.2.2 == p.1.2 &&
      (p.2 + 1 == seq.length ||
        (let before := ent (k + n * 32 - p.2 - 1)
         let d := between before.2.1 e.2.1 * s.posCyc x
         p.1.1 * cycleAu ≤ d + cycleAu && d ≤ p.1.1 * cycleAu + cycleAu)))
  if n = 0 ∨ seq.length < 2 then none else
  match (List.range n).filter okAt with
  | [k] => some (ent k).2.1
  | _ => none

/-- A cam edge (R66–R69). -/
def State.camEdge (s0 : State) (x : Nat) (e : WheelEdge) : State :=
  if s0.posRev x = 0 || s0.get (Fld.TRK_CTRL_SRC x) = 1 || !s0.flag (Fld.WHL_WD_CFG_CAM_EN x) then s0 else
  let s := s0.setBefore x none
  let t := s.trk x
  let st := s.trkState x
  let aAt := s.angleAt x e.stamp / fracOne
  let seen : CamSeen := { edges := t.edges, since := e.stamp - t.stamp, falling := e.falling, interval := 0 }
  let cams := (t.cams ++ [seen]).drop ((t.cams.length + 1) - 8)
  if st = 2 || st = 6 then
    let seq := ((t.teeth - t.teethAtCam, e.falling) :: t.camSeq).take 8
    let s1 := s.setTrk x { t with cams := cams, camSeq := seq, teethAtCam := t.teeth, camRot := 0 }
    if !s.byCam x || t.tLast = 0 then s1
    else match s.camPlace x seq with
    | none => s1
    | some ca =>
      -- p = round((cam_angle − ref_angle) / pitch − f) (R66)
      let rel := (ca + cycleAu - s.get (Fld.WHL_WD_REF_REF_ANGLE x) % cycleAu) % cycleAu
      let num : Int := (rel * s.posCyc x * t.tLast : Nat) - (seen.since * cycleAu : Nat)
      let p := (divRoundInt num (cycleAu * t.tLast) % (s.posCyc x : Int)).toNat
      ((s1.takePosition x 4 p t.stamp).placeCams x t.cams t.edges).camGood x
  else
    let s1 := s.setTrk x { t with cams := if st = 1 then cams else t.cams, camRot := 0 }
    s1.judgeCam x aAt e.falling

end Sys2Proof.Machine
end

