-- ==== Sys2Proof/Machine/Timer.lean ====
section
/-! DEFINITION. Timer channels (R375–R384): counting in closed form, periods, captures, linked pairs, group starts. -/

namespace Sys2Proof.Machine

/-- A channel that counts and raises sources of its own: not the odd half of a pair (R381). -/
def State.timRuns (s : State) (n : Nat) : Bool := s.flag (Fld.TIM_CH_CFG_EN n) && !s.linkedOdd n

/-- A 64-bit value of a pair, or a channel's own 32 bits (R381). -/
def State.timJoin (s : State) (n : Nat) (f : Nat → Nat) : Nat := if s.linked n then f n + 4294967296 * f (n + 1) else f n

def State.timCnt (s : State) (n : Nat) : Nat := s.timJoin n (fun k => s.get (Fld.TIM_CH_CNT_CNT k))
def State.timCmp (s : State) (n : Nat) : Nat := s.timJoin n (fun k => s.get (Fld.TIM_CH_CMP_CMP k))
def State.timPhase (s : State) (n : Nat) : Nat := s.timJoin n (fun k => s.get (Fld.TIM_CH_PHASE_PHASE k))
/-- The period last written, and the one in force (R379). -/
def State.timPerReg (s : State) (n : Nat) : Nat := s.timJoin n (fun k => s.get (Fld.TIM_CH_PER_PER k))
def State.timPer (s : State) (n : Nat) : Nat := s.timJoin n (fun k => (s.tim k).per)

/-- Writes the counter of a channel or of a pair. -/
def State.setTimCnt (s : State) (n v : Nat) : State :=
  let s1 := s.setWord (Reg.TIM_CH_CNT n) (BitVec.ofNat 32 v)
  if s.linked n then s1.setWord (Reg.TIM_CH_CNT (n + 1)) (BitVec.ofNat 32 (v / 4294967296)) else s1

/-- Puts a period in force. -/
def State.setTimPer (s : State) (n v : Nat) : State :=
  let s1 := s.setTim n { s.tim n with per := v % 4294967296 }
  if s.linked n then s1.setTim (n + 1) { s1.tim (n + 1) with per := v / 4294967296 } else s1

def State.upDown (s : State) (n : Nat) : Bool := s.flag (Fld.TIM_CH_CFG_MODE n)

/-- A timer source fires for a condition whose IE bit is set (R384): 0 match, 1 reload, 2 top, 3 capture, 4 error. -/
def State.timSource (s : State) (n k : Nat) : State := if s.bit (Fld.TIM_CH_CFG_IE n) k then s.irq (192 + n) else s

/-- The channel's event drives its DMA trigger (R365, R384): EVSEL 0 match, 1 reload, 2 top, 3 capture. -/
def State.timEvent (s : State) (n k : Nat) : State :=
  let s1 := s.timSource n k
  if s1.get (Fld.TIM_CH_CFG_EVSEL n) = k then s1.dmaPulse (0x10 + n) else s1

/-- An error of a channel: its flag and its source (R384). -/
def State.timError (s : State) (n : Nat) (f : FReg) : State := (s.raiseFlag f).timSource n 4

-- ── Counting ──────────────────────────────────────────────────────────────────────────────────────────────────────

/-- A counter on its lap: the count, whether it counts down, and the events of R377 and R378 on the way. -/
structure Lap where
  cnt : Nat
  down : Bool
  matched : Nat
  reloads : Nat
  tops : Nat

/-- How many of the numbers above `a`, up to and including `b`, are congruent to `r` modulo `m` (`r` < `m`). -/
def hits (a b m r : Nat) : Nat := (b + m - r) / m - (a + m - r) / m

/-- `c` counts up with period `per`, wrapping to 0 (R377): a counter above the period wraps at its first count (R379). -/
def lapUp (per cmp : Nat) (l : Lap) (c : Nat) : Lap :=
  if c = 0 then l else
  let p := per + 1
  let past := per < l.cnt
  let a := if past then per else l.cnt
  { cnt := (a + c) % p, down := false
    matched := l.matched + (if cmp ≤ per then hits a (a + c) p cmp else 0)
    reloads := l.reloads + hits a (a + c) p 0
    tops := l.tops }

/-- The place on a lap of 2 × `p` of an up/down counter: up from 0, down from `p` (R377). -/
def lapPlace (p : Nat) (l : Lap) : Nat := if l.down then (2 * p - l.cnt) % (2 * p) else l.cnt

/-- `c` counts of an up/down counter with period `p` ≥ 1 (R377); a counter above the period comes down to it (R379). -/
def lapBoth (p cmp : Nat) (l : Lap) (c : Nat) : Lap :=
  if c = 0 then l else
  let fall := Nat.min c (l.cnt - p)
  if fall = c && p < l.cnt then { l with cnt := l.cnt - fall, down := true }
  else
    let a := if p < l.cnt then p else lapPlace p l
    let b := a + (c - fall)
    let q := b % (2 * p)
    { cnt := if q < p then q else 2 * p - q, down := decide (p ≤ q)
      matched := l.matched + (if cmp ≤ p then hits a b (2 * p) cmp else 0)
      reloads := l.reloads + hits a b (2 * p) 0
      tops := l.tops + hits a b (2 * p) p }

/-- `c` counts in the channel's mode. -/
def lapRun (both : Bool) (per cmp : Nat) (l : Lap) (c : Nat) : Lap :=
  if both then lapBoth (Nat.max 1 per) cmp l c else lapUp per cmp l c

/-- Counts from the present place to the next reload point (R377, R379). -/
def toReload (both : Bool) (per : Nat) (l : Lap) : Nat :=
  if both then
    let p := Nat.max 1 per
    if p < l.cnt then l.cnt else 2 * p - lapPlace p l
  else if per < l.cnt then 1 else per + 1 - l.cnt

/-- `c` counts, with a period that waits for the reload point (R379): the new state of the lap, and whether it was taken. -/
def lapPend (both : Bool) (per next cmp : Nat) (l : Lap) (c : Nat) : Lap × Bool :=
  let r := toReload both per l
  if c < r then (lapRun both per cmp l c, false)
  else (lapRun both next cmp (lapRun both per cmp l r) (c - r), true)

/-- SCLK cycles are counted in thirds of a TCLK tick: D of them make one cycle; on the IRC 48 (R337). -/
def State.sclkThirds (s : State) : Nat := if s.clk.sclkIrc then 48 else Nat.max 1 s.clk.d

/-- SCLK cycles lost to the spread of R348 out of `k`: a free value of at most DEPTH per mille of them (log entry 3). -/
def State.spreadLoss (s : State) (k : Nat) : Nat × State :=
  let depth := fieldOf Fld.CLK_SPREAD_DEPTH s.clk.spreadNow
  if depth = 0 || s.clk.sclkIrc then (0, s)
  else
    let w := s.takeFree
    (w.1.toNat % (k * depth / 1000 + 1), w.2)

/-- The counts of a channel in `n` ticks (R375), and the channel's prescaler afterwards. `s` has the angles of after the passage,
`au` is what TRK_OUT moved. -/
def State.timCounts (s : State) (k n au : Nat) : Nat × State :=
  let t := s.tim k
  let sel := s.get (Fld.TIM_CH_CFG_CLKSEL k)
  let div := s.get (Fld.TIM_CH_PRESC_PRESC k) + 1
  if sel = 0 then (n, s)
  else if sel = 1 ∨ sel = 3 then
    let total := t.part + 3 * n
    let w := s.spreadLoss (total / s.sclkThirds)
    let c := total / s.sclkThirds - w.1
    let t1 := { t with part := total % s.sclkThirds }
    if sel = 1 then (c, w.2.setTim k t1)
    else ((t.presc + c) / div, w.2.setTim k { t1 with presc := (t.presc + c) % div })
  else if sel = 2 then ((t.presc + n) / div, s.setTim k { t with presc := (t.presc + n) % div })
  else if sel = 4 then (au, s)
  else (0, s)

/-- A channel after `n` ticks (R375–R379). `jump`: an angle move was not counted (R376). -/
def State.timAdvance (s : State) (n au : Nat) (jump : Bool) (k : Nat) : State :=
  if !s.timRuns k then s else
  let w := s.timCounts k n au
  let s1 := if jump && s.get (Fld.TIM_CH_CFG_CLKSEL k) == 4 then w.2.timError k (Fld.TIM_CH_STAT_ANG_JUMP k) else w.2
  let l : Lap := ⟨s1.timCnt k, s1.flag (Fld.TIM_CH_STAT_DIR k) && s1.upDown k, 0, 0, 0⟩
  let r := if s1.flag (Fld.TIM_CH_STAT_PER_PEND k)
    then lapPend (s1.upDown k) (s1.timPer k) (s1.timPerReg k) (s1.timCmp k) l w.1
    else (lapRun (s1.upDown k) (s1.timPer k) (s1.timCmp k) l w.1, false)
  let s2 := if r.2 then (s1.setTimPer k (s1.timPerReg k)).set (Fld.TIM_CH_STAT_PER_PEND k) 0 else s1
  let s3 := (s2.setTimCnt k r.1.cnt).setFlag (Fld.TIM_CH_STAT_DIR k) r.1.down
  s3.setTim k { s3.tim k with
    matched := (s3.tim k).matched + r.1.matched, reloads := (s3.tim k).reloads + r.1.reloads, tops := (s3.tim k).tops + r.1.tops }

/-- What TRK_OUT moved in `n` ticks for the angle counters, and whether a move was not counted (R376): a jump since the last
passage of time belongs to the first tick. `s` stands before the passage. -/
def State.angleCounts (s : State) (n : Nat) : Nat × Bool :=
  let j := angDist s.voter.outSeen s.out
  let m := s.outMove n
  if j = 0 then (m, false)
  else
    let first : Int := j + s.outMove 1
    if 0 ≤ first && first ≤ 65536 then (first.toNat + (m - s.outMove 1), false) else (m - s.outMove 1, true)

/-- The channels that exist. -/
def timChans : List Nat := List.range 16

/-- All channels after `n` ticks: `s0` stands before the passage. -/
def State.advanceTimers (s s0 : State) (n : Nat) : State :=
  if !s.flag Fld.CLK_GATE0_TIM then s
  else
    let a := s0.angleCounts n
    (timChans.filter (fun k => s.timRuns k)).foldl (fun s k => s.timAdvance n a.1 a.2 k) s

-- ── Starting, captures, pairs ─────────────────────────────────────────────────────────────────────────────────────

/-- EN changes (R375): the prescaler restarts at each rise. -/
def State.timSetEn (s : State) (n : Nat) (b : Bool) : State :=
  let s1 := if b && !s.flag (Fld.TIM_CH_CFG_EN n) then s.setTim n { s.tim n with presc := 0, part := 0 } else s
  s1.setFlag (Fld.TIM_CH_CFG_EN n) b

/-- The lap of R383. -/
def State.timLap (s : State) (n : Nat) : Nat := if s.upDown n then 2 * Nat.max 1 (s.timPer n) else s.timPer n + 1

/-- A channel's group start (R383): the count `p`, or with `stagger` the place `p` on its lap, then EN. -/
def State.timStartAt (s : State) (stagger : Bool) (n p : Nat) : State :=
  let both := stagger && s.upDown n
  let per := Nat.max 1 (s.timPer n)
  let s1 := if both && per < p then (s.setTimCnt n (2 * per - p)).setFlag (Fld.TIM_CH_STAT_DIR n) true
            else (s.setTimCnt n p).setFlag (Fld.TIM_CH_STAT_DIR n) false
  (s1.setTim n { s1.tim n with presc := 0, part := 0 }).setFlag (Fld.TIM_CH_CFG_EN n) true

/-- A write to TIM_GSTART (R383). For a pair only the even channel's bit counts. -/
def State.timGroupStart (s : State) (v : Word) : State :=
  let mask := fieldOf Fld.TIM_GSTART_MASK v
  let chans := timChans.filter (fun n => mask.testBit n && !s.linkedOdd n)
  let stagger := fieldOf Fld.TIM_GSTART_STAGGER v == 1
  chans.zipIdx.foldl (fun s c =>
    s.timStartAt stagger c.1 (if stagger then s.timLap c.1 * c.2 / chans.length else s.timPhase c.1)) s

/-- A write to TIM_GSTOP (R383). -/
def State.timGroupStop (s : State) (v : Word) : State :=
  (timChans.filter (fun n => (fieldOf Fld.TIM_GSTOP_MASK v).testBit n && !s.linkedOdd n)).foldl
    (fun s n => s.timSetEn n false) s

/-- A period takes effect or is held (R379): `v` is the whole value, already in the register. -/
def State.timPerWritten (s : State) (n v : Nat) : State :=
  if s.flag (Fld.TIM_CH_CFG_IMM n) then
    let s1 := (s.setTimPer n v).set (Fld.TIM_CH_STAT_PER_PEND n) 0
    if v < s1.timCnt n then s1.timError n (Fld.TIM_CH_STAT_TOP_CLIP n) else s1
  else s.set (Fld.TIM_CH_STAT_PER_PEND n) 1

/-- A 32-bit write to one of CNT, PER, CMP, PHASE of channel `n` (R381): a pair's low half is held until the high half comes.
`reg` gives the register, `low` and `hold` the held half. -/
def State.timHalf (s : State) (n : Nat) (v : Word) (reg : Nat → Nat) (low : TimChan → Option Word)
    (hold : TimChan → Option Word → TimChan) : State :=
  if s.linked n then s.setTim n (hold (s.tim n) (some v))
  else if s.linkedOdd n then
    let e := n - 1
    let s1 := s.setWord (reg e) ((low (s.tim e)).getD (s.word (reg e)))
    (s1.setTim e (hold (s1.tim e) none)).setWord (reg n) v
  else s.setWord (reg n) v

def State.timWriteCnt (s : State) (n : Nat) (v : Word) : State :=
  s.timHalf n v Reg.TIM_CH_CNT (·.lowCnt) (fun t w => { t with lowCnt := w })
def State.timWriteCmp (s : State) (n : Nat) (v : Word) : State :=
  s.timHalf n v Reg.TIM_CH_CMP (·.lowCmp) (fun t w => { t with lowCmp := w })
def State.timWritePhase (s : State) (n : Nat) (v : Word) : State :=
  s.timHalf n v Reg.TIM_CH_PHASE (·.lowPhase) (fun t w => { t with lowPhase := w })
def State.timWritePer (s : State) (n : Nat) (v : Word) : State :=
  let s1 := s.timHalf n v Reg.TIM_CH_PER (·.lowPer) (fun t w => { t with lowPer := w })
  if s.linked n then s1
  else
    let m := if s.linkedOdd n then n - 1 else n
    s1.timPerWritten m (s1.timPerReg m)

def State.pushCap (s : State) (n : Nat) (v : Nat) : State :=
  (s.setTim n { s.tim n with queue := (s.tim n).queue ++ [v] }).set (Fld.TIM_CH_STAT_CAP_LVL n) ((s.tim n).queue.length + 1)
def State.popCap (s : State) (n : Nat) : Nat × State :=
  match (s.tim n).queue with
  | [] => (0, s)
  | v :: r => (v, (s.setTim n { s.tim n with queue := r }).set (Fld.TIM_CH_STAT_CAP_LVL n) r.length)

/-- A capture (R380, R381): the queue holds four; a full one drops it. -/
def State.timCapture (s : State) (n : Nat) : State :=
  let s0 := s.setTim n { s.tim n with caps := (s.tim n).caps - 1 }
  if 4 ≤ (s0.tim n).queue.length then s0.timError n (Fld.TIM_CH_STAT_CAP_OVR n)
  else
    let s1 := s0.pushCap n (s0.get (Fld.TIM_CH_CNT_CNT n))
    let s2 := if s0.linked n then s1.pushCap (n + 1) (s0.get (Fld.TIM_CH_CNT_CNT (n + 1))) else s1
    s2.timEvent n 3

/-- A read of CAP (R380, R382): the answer, and the state after it. -/
def State.timReadCap (s : State) (n : Nat) : Word × State :=
  let a := s.popCap n
  if s.linked n then
    let b := a.2.popCap (n + 1)
    (BitVec.ofNat 32 a.1, b.2.setWord (Reg.TIM_CH_HOLD n) (BitVec.ofNat 32 b.1))
  else (BitVec.ofNat 32 a.1, a.2)

/-- A read of CNT (R382). -/
def State.timReadCnt (s : State) (n : Nat) : Word × State :=
  (s.word (Reg.TIM_CH_CNT n),
   if s.linked n then s.setWord (Reg.TIM_CH_HOLD n) (s.word (Reg.TIM_CH_CNT (n + 1))) else s)

/-- Captures that an edge on pin `p` asks for (R380): CAP_EDGE 1 rising, 2 falling, 3 both. -/
def State.timPinEdge (s : State) (p : Nat) (rise : Bool) : State :=
  if !s.flag Fld.CLK_GATE0_TIM then s else
  timChans.foldl (fun s n =>
    if !s.linkedOdd n && s.get (Fld.TIM_CH_CFG_CAP_PIN n) == p && (s.get (Fld.TIM_CH_CFG_CAP_EDGE n)).testBit (if rise then 0 else 1)
    then s.setTim n { s.tim n with caps := (s.tim n).caps + 1 } else s) s

end Sys2Proof.Machine
end

