-- ==== Sys2Proof/Machine/Pattern.lean ====
section
/-! DEFINITION. Pins (R391) and the pattern engines (R385–R394): decoding of their 16-bit instructions, what each does, FIFOs. -/

namespace Sys2Proof.Machine

-- ── Pins (R288, R391) ─────────────────────────────────────────────────────────────────────────────────────────────

/-- The level of GPn: AOUT function, PAT0, PAT1, HST_GPIO_DIR and HST_GPIO_OUT, else what stands outside (R391). -/
def State.pinLevel (s : State) (n : Nat) : Bool :=
  if 16 ≤ n && s.bit Fld.HST_GPIO_FUNC_AOUT (n - 16) then s.drv.aout.testBit (n - 16)
  else if s.bit (Fld.PAT_PINOUT_OUT 0) n then (spGet (fun _ => 0) s.patPins 0).testBit n
  else if s.bit (Fld.PAT_PINOUT_OUT 1) n then (spGet (fun _ => 0) s.patPins 1).testBit n
  else if s.bit Fld.HST_GPIO_DIR_DIR n then s.bit Fld.HST_GPIO_OUT_OUT n
  else s.hst.gpioExt.testBit n

/-- The level that drives GPn from the device as bits; the outside shows on the others (R391). -/
def State.pinLevels (s : State) : Nat :=
  let aoutMask := s.get Fld.HST_GPIO_FUNC_AOUT * 65536
  let p0 := s.get (Fld.PAT_PINOUT_OUT 0)
  let p1 := s.get (Fld.PAT_PINOUT_OUT 1)
  let d := s.get Fld.HST_GPIO_DIR_DIR
  let pick (m a b : Nat) : Nat := (a &&& m) ||| (b &&& (m ^^^ 4294967295))
  pick aoutMask (s.drv.aout * 65536)
    (pick p0 (spGet (fun _ => 0) s.patPins 0)
      (pick p1 (spGet (fun _ => 0) s.patPins 1) (pick d (s.get Fld.HST_GPIO_OUT_OUT) (s.hst.gpioExt % 4294967296))))

/-- An edge on GPn: its flag when enabled, with source 248 and the DMA triggers 0x70–0x73 (HST_GPIO_IFLAG, R357, R365), and
captures (R380). -/
def State.pinEdge (s : State) (n : Nat) (rise : Bool) : State :=
  let en := s.bit (if rise then Fld.HST_GPIO_IRQR_RISE else Fld.HST_GPIO_IRQF_FALL) n
  let s1 := if en then
      (let g := (s.raiseBit Fld.HST_GPIO_IFLAG_FLAG n).irq 248
       if n < 4 then g.dmaPulse (0x70 + n) else g)
    else s
  s1.timPinEdge n rise

/-- Pins that changed since they were last sampled take effect. -/
def State.samplePins (s : State) : State :=
  let now := s.pinLevels
  let old := s.hst.gpioSeen
  if now = old then s else
  ((List.range 32).filter (fun n => now.testBit n != old.testBit n)).foldl (fun s n => s.pinEdge n (now.testBit n))
    (s.withHst { s.hst with gpioSeen := now })

-- ── Contexts ──────────────────────────────────────────────────────────────────────────────────────────────────────

def State.patCalved (s : State) (e c : Nat) : Bool :=
  s.flag (Fld.PAT_CTX_CFG_DISCARDABLE e c) && 1 ≤ s.get Fld.PWR_STAT_STAGE

/-- Whether a context is halted (R392). -/
def State.patHalted (s : State) (e c : Nat) : Bool :=
  !s.flag (Fld.PAT_CTX_CTRL_EN e c) || (s.patCtx e c).stopped || s.flag (Fld.PAT_CTX_STAT_ILLEGAL e c) || s.patCalved e c

/-- Whether a context takes its turns: its engine's gate is open and it is not halted. -/
def State.patRuns (s : State) (e c : Nat) : Bool := s.flag (patGate e) && !s.patHalted e c

def State.patPc (s : State) (e c : Nat) : Nat := s.get (Fld.PAT_CTX_STAT_PC e c)
/-- The instruction at the context's PC (R386). -/
def State.patFetch (s : State) (e c : Nat) : Nat := s.get (Fld.PAT_IMEM_INSTR e (s.patPc e c))

/-- The kinds of instruction of R387, WAIT by its kinds (R388). -/
inductive PatOp where
  | nop | halt | sig | clrsh | br | dbnz | waitPin | waitTime | waitAngle | waitTrig | ldi | lds | alu | get | put | shin | shout
  | send | recv | setp | illegal
  deriving DecidableEq, Repr

/-- Which instruction a word holds; reserved codes and non-zero bits in fields shown as 0 make it illegal (R387, R388). -/
def patOp (w : Nat) : PatOp :=
  let op := bitsAt w 12 4
  let no (b : Bool) (k : PatOp) : PatOp := if b then k else .illegal
  if op = 0 then
    let o := bitsAt w 8 4
    let l := bitsAt w 0 3
    if bitsAt w 3 5 ≠ 0 then .illegal
    else if o = 0 then .nop else if o = 1 then .halt else if o = 2 then no (l ≤ 5) .sig else if o = 3 then no (l == 0) .clrsh
    else .illegal
  else if op = 1 then .br
  else if op = 2 then no (!w.testBit 9) .dbnz
  else if op = 3 then
    let k := bitsAt w 10 2
    let p := w.testBit 9
    if k = 0 then no (bitsAt w 5 4 == 0) .waitPin
    else if k = 1 then no (!p || bitsAt w 2 7 == 0) .waitTime
    else if k = 2 then no (!p && bitsAt w 2 7 == 0) .waitAngle
    else no (!p && bitsAt w 0 9 == 0) .waitTrig
  else if op = 4 then .ldi
  else if op = 5 then .lds
  else if op = 6 then no (bitsAt w 0 5 == 0) .alu
  else if op = 7 then no (bitsAt w 0 7 == 0 && bitsAt w 7 3 ≤ 5) .get
  else if op = 8 then no (bitsAt w 0 7 == 0 && bitsAt w 9 3 ≤ 2) .put
  else if op = 9 then no (bitsAt w 0 4 == 0 && bitsAt w 9 3 ≤ 4) .shin
  else if op = 10 then no (bitsAt w 0 4 == 0 && bitsAt w 9 3 ≤ 3) .shout
  else if op = 11 then no (bitsAt w 0 8 == 0) .send
  else if op = 12 then no (bitsAt w 0 8 == 0) .recv
  else if op = 13 then .setp
  else .illegal

def State.patW (s : State) (e c k : Nat) : Word := s.word (Reg.PAT_CTX_W e c k)
def State.setPatW (s : State) (e c k : Nat) (v : Word) : State := s.setWord (Reg.PAT_CTX_W e c k) v
def State.patShr (s : State) (e c : Nat) : Word := s.word (Reg.PAT_CTX_SHR e c)
def State.setPatShr (s : State) (e c : Nat) (v : Word) : State := s.setWord (Reg.PAT_CTX_SHR e c) v
def State.patShc (s : State) (e c : Nat) : Nat := s.get (Fld.PAT_CTX_SHC_SHC e c)
def State.setPatShc (s : State) (e c v : Nat) : State := s.set (Fld.PAT_CTX_SHC_SHC e c) v
def State.setPatPc (s : State) (e c v : Nat) : State := s.set (Fld.PAT_CTX_STAT_PC e c) (v % 512)
/-- The next address, modulo 512 (R386). -/
def State.patNext (s : State) (e c : Nat) : State := s.setPatPc e c (s.patPc e c + 1)

/-- Source 215 + 8e (R394). -/
def State.patTrouble (s : State) (e : Nat) : State := s.irq (215 + 8 * e)

-- ── FIFOs (R389) ──────────────────────────────────────────────────────────────────────────────────────────────────

def State.setTx (s : State) (e c : Nat) (l : List Word) : State :=
  (s.setPatCtx e c { s.patCtx e c with tx := l }).set (Fld.PAT_CTX_STAT_TX_LVL e c) l.length
def State.setRx (s : State) (e c : Nat) (l : List Word) : State :=
  (s.setPatCtx e c { s.patCtx e c with rx := l }).set (Fld.PAT_CTX_STAT_RX_LVL e c) l.length

/-- A write to PAT_CTXc_TX. -/
def State.patTxWrite (s : State) (e c : Nat) (v : Word) : State :=
  if 4 ≤ (s.patCtx e c).tx.length then (s.raiseFlag (Fld.PAT_CTX_STAT_TX_OVF e c)).patTrouble e
  else s.setTx e c ((s.patCtx e c).tx ++ [v])

/-- A read of PAT_CTXc_RX: the answer, and the state after it. -/
def State.patRxRead (s : State) (e c : Nat) : Word × State :=
  match (s.patCtx e c).rx with
  | [] => (0, (s.raiseFlag (Fld.PAT_CTX_STAT_RX_UNF e c)).patTrouble e)
  | v :: r => (v, s.setRx e c r)

/-- A push into RX that finds it full: the word is dropped and counted. -/
def State.patDrop (s : State) (e c : Nat) : State := (s.addWrap (Fld.PAT_CTX_STAT_DROPS e c) 1).patTrouble e

/-- SHR is sent: it clears with SHC. -/
def State.patClearShr (s : State) (e c : Nat) : State := (s.setPatShr e c 0).setPatShc e c 0

/-- One word from TX, kept as the last received; `none` when TX is empty. -/
def State.patPull (s : State) (e c : Nat) : Option (Word × State) :=
  match (s.patCtx e c).tx with
  | [] => none
  | v :: r => some (v, (s.setTx e c r).setPatCtx e c { (s.setTx e c r).patCtx e c with last := some v })

-- ── Pins of the engines ───────────────────────────────────────────────────────────────────────────────────────────

def State.patPin (s : State) (e : Nat) : Nat := spGet (fun _ => 0) s.patPins e

/-- An engine's level for one pin. -/
def State.setPatPin (s : State) (e p : Nat) (b : Bool) : State :=
  let l := s.patPin e
  { s with patPins := spPut (fun _ => 0) s.patPins e (if b then l ||| 2 ^ p else l - (if l.testBit p then 2 ^ p else 0)) }

/-- `n` pins from `base`, modulo 32, take the low bits of `v` (R387). -/
def State.putPins (s : State) (e base n v : Nat) : State :=
  (List.range n).foldl (fun s k => s.setPatPin e ((base + k) % 32) (v.testBit k)) s

/-- The 32 pins read from `base`, pin `base` in bit 0 (R387). -/
def State.readPins (s : State) (base : Nat) : Nat :=
  let l := s.pinLevels
  ((l >>> base) ||| (l <<< (32 - base))) % 4294967296

/-- A count of 1–32 with 0 for 32. -/
def zeroIs32 (n : Nat) : Nat := if n = 0 then 32 else Nat.min n 32

-- ── Instructions (R387–R389) ──────────────────────────────────────────────────────────────────────────────────────

def patCtl (s : State) (e c : Nat) : State := s.patNext e c

/-- HALT: the context halts at the instruction after it (R392, R394). -/
def patHalt (s : State) (e c : Nat) : State :=
  let s1 := s.patNext e c
  (s1.setPatCtx e c { s1.patCtx e c with stopped := true }).irq (214 + 8 * e)

def patSig (s : State) (e c w : Nat) : State := (s.irq (208 + 8 * e + bitsAt w 0 3)).patNext e c
def patClrsh (s : State) (e c : Nat) : State := (s.patClearShr e c).patNext e c

/-- FILL of a context; 0 means 32. -/
def State.patFill (s : State) (e c : Nat) : Nat := zeroIs32 (s.get (Fld.PAT_CTX_CFG_FILL e c))

/-- BR's condition. -/
def State.patCond (s : State) (e c k : Nat) : Bool :=
  let z := s.flag (Fld.PAT_CTX_SHC_Z e c)
  let n := s.flag (Fld.PAT_CTX_SHC_N e c)
  let p := s.pinLevels.testBit (s.get (Fld.PAT_CTX_PINS_IN_BASE e c))
  if k = 0 then true else if k = 1 then z else if k = 2 then !z else if k = 3 then n else if k = 4 then !n
  else if k = 5 then p else if k = 6 then !p else s.patFill e c ≤ s.patShc e c

def patBr (s : State) (e c w : Nat) : State :=
  if s.patCond e c (bitsAt w 9 3) then s.setPatPc e c (bitsAt w 0 9) else s.patNext e c

def patDbnz (s : State) (e c w : Nat) : State :=
  let v := s.patW e c (bitsAt w 10 2) - 1
  let s1 := s.setPatW e c (bitsAt w 10 2) v
  if v ≠ 0 then s1.setPatPc e c (bitsAt w 0 9) else s1.patNext e c

/-- The pin of a WAIT KIND 0 reads its level: EDGET takes the TCLK count, and the context goes on (R388). -/
def patPinPass (s : State) (e c : Nat) : State :=
  let s1 := s.setPatCtx e c { s.patCtx e c with sampling := false, edget := BitVec.ofNat 32 s.tclk }
  s1.patNext e c

/-- Whether the pin that the WAIT in `w` names reads its level. -/
def State.waitPinHolds (s : State) (w : Nat) : Bool := s.pinLevels.testBit (bitsAt w 0 5) == w.testBit 9

def patWaitPin (s : State) (e c w : Nat) : State :=
  if s.waitPinHolds w then patPinPass s e c else s.setPatCtx e c { s.patCtx e c with sampling := true }

def patWaitTime (s : State) (e c w : Nat) : State :=
  let x := s.patCtx e c
  let total := if w.testBit 9 then (s.patW e c (bitsAt w 0 2)).toNat else bitsAt w 0 9 + 1
  let left := match x.left with | some n => n - 1 | none => total
  if left = 0 then (s.setPatCtx e c { x with left := none }).patNext e c else s.setPatCtx e c { x with left := some left }

def patWaitAngle (s : State) (e c w : Nat) : State :=
  let a := (s.patW e c (bitsAt w 0 2)).toNat % cycleAu
  if s.outOk && !s.outReverse && decide (angDist s.out a ≤ 0) then s.patNext e c else s

def patWaitTrig (s : State) (e c : Nat) : State :=
  if (s.patCtx e c).trig then
    ((s.setPatCtx e c { s.patCtx e c with trig := false }).set (Fld.PAT_CTX_STAT_TRIG e c) 0).patNext e c
  else s

def patLdi (s : State) (e c w : Nat) : State := (s.setPatW e c (bitsAt w 10 2) (BitVec.ofNat 32 (bitsAt w 0 10))).patNext e c
def patLds (s : State) (e c w : Nat) : State :=
  (s.setPatW e c (bitsAt w 10 2) ((s.patW e c (bitsAt w 10 2) <<< 10) + BitVec.ofNat 32 (bitsAt w 0 10))).patNext e c

/-- The result of an ALU operation. -/
def aluResult (op : Nat) (d a : Word) : Word :=
  if op = 0 then a else if op = 1 then d + a else if op = 2 then d - a else if op = 3 then d &&& a else if op = 4 then d ^^^ a
  else if op = 5 then ~~~ a else if op = 6 then a.reverse else d - a

/-- ALU: Z and N from the result; CMP stores none (R387). -/
def patAlu (s : State) (e c w : Nat) : State :=
  let op := bitsAt w 5 3
  let r := aluResult op (s.patW e c (bitsAt w 10 2)) (s.patW e c (bitsAt w 8 2))
  let s1 := if op = 7 then s else s.setPatW e c (bitsAt w 10 2) r
  ((s1.setFlag (Fld.PAT_CTX_SHC_Z e c) (r == 0)).setFlag (Fld.PAT_CTX_SHC_N e c) r.msb).patNext e c

/-- GET's source. -/
def State.patSource (s : State) (e c k : Nat) : Word :=
  if k = 0 then BitVec.ofNat 32 (s.readPins (s.get (Fld.PAT_CTX_PINS_IN_BASE e c)))
  else if k = 1 then BitVec.ofNat 32 s.tclk
  else if k = 2 then BitVec.ofNat 32 s.out
  else if k = 3 then (s.patCtx e c).edget
  else if k = 4 then s.patShr e c
  else BitVec.ofNat 32 (s.patShc e c)

def patGet (s : State) (e c w : Nat) : State := (s.setPatW e c (bitsAt w 10 2) (s.patSource e c (bitsAt w 7 3))).patNext e c

def patPut (s : State) (e c w : Nat) : State :=
  let v := s.patW e c (bitsAt w 7 2)
  let d := bitsAt w 9 3
  if d = 0 then (s.putPins e (s.get (Fld.PAT_CTX_PINS_OUT_BASE e c)) (zeroIs32 (s.get (Fld.PAT_CTX_PINS_OUT_N e c))) v.toNat).patNext e c
  else if d = 1 then ((s.setPatShr e c v).setPatShc e c 32).patNext e c
  else s.setPatPc e c (v.toNat % 512)

/-- SHIN's source. -/
def State.shinSource (s : State) (e c k : Nat) : Nat :=
  if k = 0 then s.readPins (s.get (Fld.PAT_CTX_PINS_IN_BASE e c))
  else if k = 1 then (s.patW e c 0).toNat
  else if k = 2 then (s.patW e c 1).toNat
  else if k = 3 then 0 else 4294967295

/-- SHR after `n` bits of `v` have been shifted in (R387). -/
def shiftIn (left : Bool) (shr v n : Nat) : Nat :=
  if left then (shr * 2 ^ n + v % 2 ^ n) % 4294967296 else shr / 2 ^ n + (v % 2 ^ n) * 2 ^ (32 - n)

/-- What SHOUT delivers, and SHR afterwards (R387). -/
def shiftOut (left : Bool) (shr n : Nat) : Nat × Nat :=
  if left then (shr / 2 ^ (32 - n), shr * 2 ^ n % 4294967296) else (shr % 2 ^ n, shr / 2 ^ n)

/-- SHIN, with AUTOSEND (R387, R389): a send that finds RX full stalls the whole instruction. -/
def patShin (s : State) (e c w : Nat) : State :=
  let n := zeroIs32 (bitsAt w 4 5)
  let shr := shiftIn (s.flag (Fld.PAT_CTX_CFG_SHDIR e c)) (s.patShr e c).toNat (s.shinSource e c (bitsAt w 9 3)) n
  let shc := Nat.min 32 (s.patShc e c + n)
  if s.flag (Fld.PAT_CTX_CFG_AUTOSEND e c) && s.patFill e c ≤ shc then
    (if 4 ≤ (s.patCtx e c).rx.length then s
     else ((s.setRx e c ((s.patCtx e c).rx ++ [BitVec.ofNat 32 shr])).patClearShr e c).patNext e c)
  else ((s.setPatShr e c (BitVec.ofNat 32 shr)).setPatShc e c shc).patNext e c

/-- SHOUT, with AUTORECV (R387, R389): a receive that finds TX empty stalls the whole instruction. -/
def patShout (s : State) (e c w : Nat) : State :=
  let n := zeroIs32 (bitsAt w 4 5)
  let go (s : State) : State :=
    let r := shiftOut (s.flag (Fld.PAT_CTX_CFG_SHDIR e c)) (s.patShr e c).toNat n
    let s1 := (s.setPatShr e c (BitVec.ofNat 32 r.2)).setPatShc e c (s.patShc e c - n)
    let d := bitsAt w 9 3
    (if d = 0 then s1.putPins e (s1.get (Fld.PAT_CTX_PINS_OUT_BASE e c)) n r.1
     else if d = 1 then s1.setPatW e c 0 (BitVec.ofNat 32 r.1)
     else if d = 2 then s1.setPatW e c 1 (BitVec.ofNat 32 r.1)
     else s1).patNext e c
  if s.flag (Fld.PAT_CTX_CFG_AUTORECV e c) && s.patShc e c < n then
    match s.patPull e c with
    | none => s
    | some (v, s1) => go ((s1.setPatShr e c v).setPatShc e c 32)
  else go s

/-- SEND (R389). -/
def patSend (s : State) (e c w : Nat) : State :=
  let block := w.testBit 11
  let fromW := w.testBit 10
  let v := if fromW then s.patW e c (bitsAt w 8 2) else s.patShr e c
  let full := 4 ≤ (s.patCtx e c).rx.length
  if full && block then s
  else
    let s1 := if full then s.patDrop e c else s.setRx e c ((s.patCtx e c).rx ++ [v])
    (if fromW then s1 else s1.patClearShr e c).patNext e c

/-- RECV (R389). -/
def patRecv (s : State) (e c w : Nat) : State :=
  let toW := w.testBit 10
  let put (s : State) (v : Word) : State :=
    (if toW then s.setPatW e c (bitsAt w 8 2) v else (s.setPatShr e c v).setPatShc e c 32).patNext e c
  match s.patPull e c with
  | some (v, s1) => put s1 v
  | none =>
    if w.testBit 11 then s
    else put ((s.raiseFlag (Fld.PAT_CTX_STAT_STALE e c)).patTrouble e) ((s.patCtx e c).last.getD 0)

def patSetp (s : State) (e c w : Nat) : State :=
  ((List.range 6).foldl (fun s k => if (bitsAt w 6 6).testBit k then
      s.setPatPin e ((s.get (Fld.PAT_CTX_PINS_SET_BASE e c) + k) % 32) (w.testBit k) else s) s).patNext e c

/-- A reserved encoding: the context halts before it, PC stands (R387, R394). -/
def patIllegal (s : State) (e c : Nat) : State :=
  let s1 := s.raiseFlag (Fld.PAT_CTX_STAT_ILLEGAL e c)
  (s1.setPatCtx e c { s1.patCtx e c with stopped := true }).irq (214 + 8 * e)

/-- One turn of a context whose instruction is of the kind `k` (R385, R386); the context and the engine must run. A context that
executes another instruction samples no pin and stalls in no WAIT. -/
def State.patTurn (s : State) (e c : Nat) (k : PatOp) (f : State → Nat → State) : State :=
  let w := s.patFetch e c
  if s.patRuns e c && patOp w == k then
    let x := s.patCtx e c
    let x1 := if k = .waitTime then x else { x with left := none }
    let x2 := if k = .waitPin then x1 else { x1 with sampling := false }
    f (s.setPatCtx e c x2) w
  else s

-- ── Sampling while time passes (R388) ─────────────────────────────────────────────────────────────────────────────

/-- Contexts that sample a pin see its level: the wait passes. -/
def State.patSample (s : State) : State :=
  (s.pats.filter (fun p => p.2.sampling)).foldl (fun s p =>
    let e := p.1 / 16
    let c := p.1 % 16
    let w := s.patFetch e c
    if s.patRuns e c && patOp w == .waitPin && s.waitPinHolds w then patPinPass s e c else s) s

-- ── Control (R392, R393) ──────────────────────────────────────────────────────────────────────────────────────────

/-- EN is written (R392): written 0 it ends a halt by HALT, and one by ILLEGAL, which lasts until ILLEGAL is cleared as well. -/
def State.patEn (s : State) (e c : Nat) (b : Bool) : State :=
  let s1 := if !b then s.setPatCtx e c { s.patCtx e c with stopped := false } else s
  s1.setFlag (Fld.PAT_CTX_CTRL_EN e c) b

/-- RESTART (R393). -/
def State.patRestart (s : State) (e c : Nat) : State :=
  let s1 := s.setPatCtx e c { s.patCtx e c with last := none, trig := false, left := none, sampling := false }
  ((((s1.set (Fld.PAT_CTX_STAT_PC e c) (s1.get (Fld.PAT_CTX_CFG_START e c))).patClearShr e c).set (Fld.PAT_CTX_STAT_TRIG e c) 0).setFlag
    (Fld.PAT_CTX_SHC_Z e c) false).setFlag (Fld.PAT_CTX_SHC_N e c) false

/-- FLUSH (R393). -/
def State.patFlush (s : State) (e c : Nat) : State := (s.setTx e c []).setRx e c []

/-- Whether the context's DMA request is asserted (R389). -/
def State.patDreq (s : State) (e c : Nat) : Bool :=
  if s.flag (Fld.PAT_CTX_CFG_DREQ e c) then decide ((s.patCtx e c).rx ≠ []) else (s.patCtx e c).tx.length < 4

end Sys2Proof.Machine
end

