-- ==== Sys2Proof/Machine/Wheel.lean ====
section
/-! DEFINITION. The wheel inputs (R29–R43), their diagnostics (R52) and the wheel simulator (R53–R56). Stamps are in 1/16 tick. -/

namespace Sys2Proof.Machine

def State.whl (s : State) (n : Nat) : WhlInput := spGet (fun _ => WhlInput.reset) s.whls n
def State.setWhl (s : State) (n : Nat) (w : WhlInput) : State := { s with whls := spPut (fun _ => WhlInput.reset) s.whls n w }

/-- The level outside at an input's pins becomes `lv`. -/
def State.setWheelPin (s : State) (n : Nat) (lv : Bool) : State :=
  if s.wheelPin n = lv then s else { s with hst := { s.hst with wheelExt := s.hst.wheelExt ^^^ 2 ^ n } }

/-- An input starts: filters, direction and peak memory are as new, and it is not armed (R30, R36, R40); the stamp of the last accepted
edge stays (R34). -/
def State.restartInput (s : State) (n : Nat) : State :=
  (((s.setWhl n { WhlInput.reset with stamp := (s.whl n).stamp, armedAt := s.now, crossedAt := s.now }).set (Fld.WHL_STAT_DIR n) 0).set
    (Fld.WHL_STAT_DIR_VALID n) 0).setFlag (Fld.WHL_STAT_ARMED n) false

/-- Whether simulated edges replace the pin edges of an input (R55): the crank and cam inputs of the simulated description, but at
analog depth no VR input. -/
def State.simulated (s : State) (n : Nat) : Bool :=
  let x := s.get Fld.WHL_SIM_CTRL_DESC
  s.flag Fld.WHL_SIM_CTRL_EN && (s.get (Fld.WHL_WD_CFG_CRANK_IN x) == n || s.get (Fld.WHL_WD_CFG_CAM_IN x) == n) &&
  !(s.flag Fld.WHL_SIM_CTRL_DEPTH && s.frontEnd n == 1)

/-- A report sets its bit of WHL_STATn and raises source 18 + 4n (R52, R57). -/
def State.whlDiag (s : State) (n : Nat) (f : FReg) : State := (s.raiseFlag f).irq (18 + 4 * n)

/-- A cause of R52 begins or ends: bit `k` of WHL_STATn. -/
def State.whlCause (s : State) (n k : Nat) (b : Bool) : State :=
  let c := (s.whl n).causes
  s.setWhl n { s.whl n with causes := if b then c ||| 2 ^ k else c - (if c.testBit k then 2 ^ k else 0) }

/-- The cause of bit `k`, the field `f`, holds or not: where it begins, it is reported (R52). -/
def State.whlReport (s : State) (n k : Nat) (f : FReg) (b : Bool) : State :=
  let s1 := s.whlCause n k b
  if !b then s1 else if (s.whl n).causes.testBit k then s1.raiseFlag f else s1.whlDiag n f

-- ── Delivery ──────────────────────────────────────────────────────────────────────────────────────────────────────

/-- The direction that an input keeps (R40): measured directions set DIR_VALID; a change raises source 19 + 4n. -/
def State.setDir (s : State) (n : Nat) (rev valid : Bool) : State :=
  let old := s.flag (Fld.WHL_STAT_DIR n)
  let s1 := (s.setFlag (Fld.WHL_STAT_DIR n) rev).setFlag (Fld.WHL_STAT_DIR_VALID n) (valid || s.flag (Fld.WHL_STAT_DIR_VALID n))
  if old = rev then s1 else s1.irq (19 + 4 * n)

/-- When an edge becomes available to the trackers: 40 ns after the crossing plus MIN_TIME (R33). -/
def State.edgeAvail (s : State) (n stamp : Nat) : Nat := stamp / 16 + 16 + 4 * s.get (Fld.WHL_FILT_MIN_TIME n)

/-- The application tick of a crank edge: 64 ticks after its stamp plus MIN_TIME (R71). A tracker processes the edge there. -/
def State.edgeApplies (s : State) (n stamp : Nat) : Nat := stamp / 16 + 64 + 4 * s.get (Fld.WHL_FILT_MIN_TIME n)

/-- Edges reach no tracker while its clock stands or TPLL has lost lock (R345, R351). -/
def State.edgesPass (s : State) : Bool := s.flag Fld.CLK_GATE0_TRK && !s.clk.tpllLost

/-- An accepted edge goes to the trackers that use the input (R43): with the direction of each description's DIR_SRC, or the
simulated one. -/
def State.deliverEdge (s : State) (n stamp : Nat) (falling : Bool) (simRev : Option Bool) : State :=
  if !s.edgesPass then s else
  (List.range 2).foldl (fun s x =>
    let rev := simRev.getD (s.flag (Fld.WHL_STAT_DIR (s.get (Fld.WHL_WD_CFG_DIR_SRC x))))
    let e : WheelEdge := { stamp := stamp, reverse := rev, falling := falling, avail := s.edgeAvail n stamp, relabel := false
                           win := s.get (Fld.WHL_WIN_WIN n) }
    let s1 := if s.posRev x != 0 && s.get (Fld.WHL_WD_CFG_CRANK_IN x) == n then
        s.setTrk x { s.trk x with crankQ := (s.trk x).crankQ ++ [{ e with avail := s.edgeApplies n stamp }] } else s
    if s.posRev x != 0 && s.flag (Fld.WHL_WD_CFG_CAM_EN x) && s.get (Fld.WHL_WD_CFG_CAM_IN x) == n then
      s1.setTrk x { s1.trk x with camQ := (s1.trk x).camQ ++ [e] } else s1) s

/-- A direction change carrying the stamp of a leading edge goes to the trackers that follow the input's direction (R43). -/
def State.deliverTurn (s : State) (n stamp : Nat) (rev : Bool) : State :=
  if !s.edgesPass then s else
  (List.range 2).foldl (fun s x =>
    let e : WheelEdge := { stamp := stamp, reverse := rev, falling := false, avail := s.edgeAvail n (16 * s.tclk), relabel := true }
    if s.posRev x != 0 && s.get (Fld.WHL_WD_CFG_DIR_SRC x) == n then
      s.setTrk x { s.trk x with crankQ := (s.trk x).crankQ ++ [e] } else s) s

-- ── Filters (R35, R36) ────────────────────────────────────────────────────────────────────────────────────────────

/-- 200 ms in 1/16 ticks. -/
def silence : Nat := 1280000000

/-- Whether the ratio filter rejects an edge (R36). -/
def State.ratioRejects (s : State) (n stamp : Nat) : Bool :=
  let w := s.whl n
  let ratio := s.get (Fld.WHL_FILT_RATIO n)
  let last := if w.count = 2 then w.int1 else Nat.min w.int1 w.int2
  ratio != 0 && 2 ≤ w.count && decide (stamp < w.stamp + silence) && decide (64 * (stamp - w.stamp) < ratio * last)

/-- A dropped glitch: the change and its return (R35). -/
def State.glitch (s : State) (n : Nat) : State := (s.addWrap (Fld.WHL_CNT_GLITCH n) 2).irq (17 + 4 * n)

/-- The change of a dropped pulse of `held` ticks: its return, which comes in that time, is dropped with it (R35). -/
def State.dropPulse (s : State) (n held : Nat) : State :=
  (s.setWhl n { s.whl n with returnBy := s.tclk + held + 1 }).glitch n

/-- Whether a change is the return of a dropped one (R35). -/
def State.isReturn (s : State) (n : Nat) : Bool := decide (s.tclk < (s.whl n).returnBy)

/-- The return of a dropped change has no effect but that the comparator stands as before. -/
def State.takeReturn (s : State) (n : Nat) : State := s.setWhl n { s.whl n with returnBy := 0 }

/-- Whether the glitch filter drops a level that holds for `held` ticks: shorter than MIN_TIME, or than 10 ns (R35). -/
def State.glitches (s : State) (n held : Nat) : Bool := decide (held < 4 * Nat.max 1 (s.get (Fld.WHL_FILT_MIN_TIME n)))

/-- An active edge that has passed the glitch filter (R33, R34, R36, R40–R43). `simRev` is the direction of a simulated edge, which counts
as a measured one for DIR_VALID (DESIGN CHOICE, log entry 76). -/
def State.activeEdge (s : State) (n stamp : Nat) (falling : Bool) (simRev : Option Bool) : State :=
  if s.ratioRejects n stamp then (s.addWrap (Fld.WHL_CNT_RATIO n) 1).irq (17 + 4 * n)
  else
    let w := s.whl n
    let quiet := w.count = 0 || decide (w.stamp + silence ≤ stamp)
    let w1 := if quiet then { w with count := 1, stamp := stamp, int1 := 0, int2 := 0 }
              else { w with count := Nat.min 3 (w.count + 1), stamp := stamp, int1 := stamp - w.stamp, int2 := w.int1 }
    let mode := s.get (Fld.WHL_CFG_DIR_MODE n)
    let w2 := { w1 with measuring := decide (mode = 2) && simRev.isNone, pw := s.word (Reg.WHL_PW n) }
    let s1 := (((s.setWhl n w2).addWrap (Fld.WHL_CNT_ACCEPTED n) 1).setWord (Reg.WHL_TSL n) (BitVec.ofNat 32 stamp)).irq (16 + 4 * n)
    let inv := s.flag (Fld.WHL_CFG_DIR_INV n)
    let odd := s.whl (n + 1)
    let lvl := if odd.levelAt = stamp / 16 then odd.levelBefore else s.flag (Fld.WHL_STAT_LEVEL (n + 1))
    let s2 := match simRev with
      | some r => s1.setDir n r true
      | none => if mode = 0 then s1.setDir n false false
                else if mode = 1 then s1.setDir n (!lvl != inv) true
                else s1
    s2.deliverEdge n stamp falling simRev

/-- Whether a change to a level is an active edge of a digital input: EDGE 0 rising, 1 falling, 2 both (R32). -/
def State.isActive (s : State) (n : Nat) (rise : Bool) : Bool :=
  let e := s.get (Fld.WHL_CFG_EDGE n)
  e == 2 || e == (if rise then 0 else 1)

/-- The comparator level of an input, as its register and its history keep it: the level before the tick of its last change (R41). -/
def State.setLevel (s : State) (n : Nat) (lv : Bool) : State :=
  let was := s.flag (Fld.WHL_STAT_LEVEL n)
  if was = lv then s
  else if (s.whl n).levelAt = s.tclk then s.setFlag (Fld.WHL_STAT_LEVEL n) lv
  else (s.setFlag (Fld.WHL_STAT_LEVEL n) lv).setWhl n { s.whl n with levelBefore := was, levelAt := s.tclk }

-- ── Pulse-width direction (R42, R43) ──────────────────────────────────────────────────────────────────────────────

/-- Microseconds in 1/16 ticks. -/
def us16 (n : Nat) : Nat := 6400 * n

def State.pwInvalid (s : State) (n : Nat) : State :=
  (s.setWhl n { s.whl n with measuring := false }).whlDiag n (Fld.WHL_STAT_PW_INVALID n)

/-- In Frost: a pulse at the watched input whose trailing edge has not come within PW_MAX (R87). -/
def State.frostTimeout (s : State) (n : Nat) : State :=
  if s.st == 1 && s.flag Fld.TRK_FROST_EN && s.get Fld.TRK_FROST_IN == n && fieldOf (Fld.WHL_CFG_FE 0) s.pwr.frostCfg != 0 &&
    fieldOf (Fld.WHL_CFG_DIR_MODE 0) s.pwr.frostCfg == 2 then s.set Fld.TRK_FCNT_NODIR 1 else s

/-- A pulse is being measured whose trailing edge has not come within PW_MAX, as it stood at the leading edge (R39, R42). -/
def State.pulseOverdue (s : State) (n : Nat) : Bool :=
  let w := s.whl n
  s.flag Fld.CLK_GATE0_WHL && s.frontEnd n != 0 && !s.simulated n && s.get (Fld.WHL_CFG_DIR_MODE n) == 2 && w.measuring &&
  decide (us16 (fieldOf (Fld.WHL_PW_PW_MAX n) w.pw) < 16 * s.tclk - w.stamp)

/-- The trailing edge of a measured pulse. -/
def State.pulseEnd (s0 : State) (n stamp : Nat) : State :=
  let s := s0.setLevel n (s0.get (Fld.WHL_CFG_EDGE n) == 1)
  let w := s.whl n
  if !s.flag Fld.CLK_GATE0_WHL || s.frontEnd n = 0 || s.simulated n then s0
  else if !w.measuring || s.get (Fld.WHL_CFG_DIR_MODE n) != 2 then s
  else
    let width := stamp - w.stamp
    if us16 (s.get (Fld.WHL_PW_PW_MAX n)) < width then s.pwInvalid n
    else
      let rev := decide (us16 (s.get (Fld.WHL_PW_PW_SPLIT n)) ≤ width) != s.flag (Fld.WHL_CFG_DIR_INV n)
      let s1 := (s.setWhl n { w with measuring := false }).setDir n rev true
      if s.flag (Fld.WHL_STAT_DIR n) = rev then s1 else s1.deliverTurn n w.stamp rev

/-- The pulse that an input measures ends at its pins: the level returns from the active one (R42). -/
def State.pulseReturn (s : State) (n stamp : Nat) : State :=
  let back := (s.get (Fld.WHL_CFG_EDGE n) == 1) != s.flag (Fld.WHL_CFG_POL n)
  if s.wheelPin n = back then s else (s.setWheelPin n back).pulseEnd n stamp

/-- A change of a digital input to level `lv`, after POL, that holds for `held` ticks. -/
def State.digitalEdge (s : State) (n stamp : Nat) (lv : Bool) (held : Nat) : State :=
  let s1 := s.setLevel n lv
  if s.isReturn n then s1.takeReturn n
  else if s.glitches n held then s1.dropPulse n held
  else if s.isActive n lv then s1.activeEdge n stamp (!lv) none else s1.pulseEnd n stamp

-- ── VR inputs (R30, R31) ──────────────────────────────────────────────────────────────────────────────────────────

/-- VR_MIN in mV; 0 acts as one step. -/
def State.vrMin (s : State) (n : Nat) : Nat := 20 * Nat.max 1 (s.get (Fld.WHL_CFG_VR_MIN n))

/-- Whether a half-wave of peak `mv` arms the input (R30): above THR_PCT percent of the previous peak and the floor. -/
def State.arms (s : State) (n mv : Nat) : Bool :=
  decide (s.get (Fld.WHL_CFG_THR_PCT n) * (s.whl n).prevPeak < 100 * mv) && decide (s.vrMin n < mv)

/-- The input arms (R30, R31). -/
def State.arm (s : State) (n : Nat) : State :=
  (s.setFlag (Fld.WHL_STAT_ARMED n) true).setWhl n { s.whl n with armedAt := s.now }

/-- An armed half-wave of peak `mv` ends in its crossing: the input disarms (R30); an armed crossing shows that the sensor is not open, and
the eighth low peak in a row is reported (R52). -/
def State.vrPeak (s : State) (n mv : Nat) : State :=
  let low := mv < 2 * s.vrMin n
  let run := if low then Nat.min 8 ((s.whl n).lowRun + 1) else 0
  let s0 := s.setFlag (Fld.WHL_STAT_ARMED n) false
  let s1 := (s0.set (Fld.WHL_STAT_PEAK n) (Nat.min 65535 mv)).setWhl n { s.whl n with prevPeak := mv, crossedAt := s.now, lowRun := run }
  (s1.whlCause n 8 false).whlReport n 11 (Fld.WHL_STAT_LOW_AMP n) (run = 8)

/-- A zero crossing of a VR input (R30): upward, into a half-wave that has reached `peak` mV so far; downward, the active edge if the input
has armed, `peak` being the highest voltage it reached. With DIR_MODE = 2, which no rule describes for a VR input, the width is measured
from that edge and the upward crossing of the next half-wave does not end it (DESIGN CHOICE, log entry 76). -/
def State.vrEdge (s : State) (n stamp : Nat) (lv : Bool) (held peak : Nat) : State :=
  let s1 := s.setLevel n lv
  if s.isReturn n then s1.takeReturn n
  else if s.glitches n held then s1.dropPulse n held
  else if lv then (if s1.arms n peak then s1.arm n else s1)
  else if s1.flag (Fld.WHL_STAT_ARMED n) then (s1.vrPeak n peak).activeEdge n stamp true none
  else if s1.arms n peak then ((s1.arm n).vrPeak n peak).activeEdge n stamp true none
  else s1

/-- A VR input whose signal stands above zero reaches `peak` mV: it arms at the threshold (R30). -/
def State.vrRise (s : State) (n : Nat) (level : Bool) (peak : Nat) : State :=
  if s.flag Fld.CLK_GATE0_WHL && s.frontEnd n == 1 && !s.simulated n && (level != s.flag (Fld.WHL_CFG_POL n)) &&
    !s.flag (Fld.WHL_STAT_ARMED n) && s.arms n peak then s.arm n else s

/-- The level at the pins of an input, before POL; where it stands so already, only a VR input may yet arm. -/
def State.pinChange (s0 : State) (n subtick : Nat) (level : Bool) (held peak : Nat) : State :=
  if s0.wheelPin n = level then s0.vrRise n level peak else
  let s := s0.setWheelPin n level
  let lv := level != s.flag (Fld.WHL_CFG_POL n)
  if !s.flag Fld.CLK_GATE0_WHL || s.frontEnd n = 0 || s.simulated n then s
  else if s.frontEnd n = 1 then s.vrEdge n (16 * s.tclk + subtick) lv held peak
  else s.digitalEdge n (16 * s.tclk + subtick) lv held

-- ── The simulator (R54–R56) ───────────────────────────────────────────────────────────────────────────────────────

/-- 2^28, the unit of the simulator's fraction; and one cycle. -/
def simOne : Nat := 268435456
def simMod : Nat := 4503599627370496

def State.simX (s : State) : Nat := s.get Fld.WHL_SIM_CTRL_DESC
def State.simRate (s : State) : Nat := s.get Fld.WHL_SIM_RATE_RATE
def State.simRev (s : State) : Bool := s.flag Fld.WHL_SIM_CTRL_REV
/-- The simulator runs in BENCH with EN = 1; its angle moves while RUN = 1 (R53, R54). -/
def State.simOn (s : State) : Bool := s.flag Fld.CLK_GATE0_WHL && s.flag Fld.WHL_SIM_CTRL_EN
def State.simRuns (s : State) : Bool := s.simOn && s.flag Fld.WHL_SIM_CTRL_RUN

/-- The simulated angle in 2^-28 au. -/
def State.simAngle (s : State) : Nat := s.get Fld.WHL_SIM_ANG_ANGLE * simOne + s.sim.frac
def State.setSimAngle (s : State) (a : Nat) : State :=
  ({ s with sim := { s.sim with frac := a % simOne } }).set Fld.WHL_SIM_ANG_ANGLE (a / simOne % cycleAu)

/-- The simulated angle after `n` ticks (R54). -/
def State.advanceSim (s : State) (n : Nat) : State :=
  if !s.simRuns then s else
  let d := s.simRate * n
  let a := if s.simRev then (s.simAngle + simMod - d % simMod) % simMod else (s.simAngle + d) % simMod
  let s1 := s.setSimAngle a
  { s1 with sim := { s1.sim with behind := s1.sim.behind + d, travel := s1.sim.travel + d } }

/-- What the simulator may produce: a crank tooth of a cycle index, an extra tooth, the inserted edge, a cam edge and whether it
falls; at analog depth the upward crossing of a VR input half a position before its edge; and the end of a pulse on an input, where its
level falls or rises. -/
inductive SimMark where
  | tooth (i : Nat)
  | extraTooth
  | inserted
  | cam (falling : Bool)
  | up (input : Nat)
  | pulseEnd (input : Nat) (falling : Bool)
  deriving DecidableEq, Repr

/-- Half a position pitch in 2^-28 au (R54). -/
def State.simHalf (s : State) : Nat := if s.posCyc s.simX = 0 then 0 else simMod / (2 * s.posCyc s.simX)

/-- An input that the simulator drives at analog depth: a VR input (R55). -/
def State.simAnalog (s : State) (n : Nat) : Bool := s.simOn && s.flag Fld.WHL_SIM_CTRL_DEPTH && s.frontEnd n == 1

/-- The upward crossings of an input's signal at analog depth, half a position before each of its edges in the direction of motion (R55). -/
def State.simUps (s : State) (n : Nat) (l : List (Nat × SimMark)) : List (Nat × SimMark) :=
  if !s.simAnalog n then [] else
  l.map (fun m => ((if s.simRev then m.1 + s.simHalf else m.1 + simMod - s.simHalf) % simMod, SimMark.up n))

/-- The angles, in 2^-28 au, at which the simulator produces edges (R54, R56). -/
def State.simMarks (s : State) : List (Nat × SimMark) :=
  let x := s.simX
  let teeth := ((List.range (s.posCyc x)).filter (s.isTooth x)).map (fun i => (s.nominal x i * simOne, SimMark.tooth i))
  let extras := (List.range (s.posCyc x)).flatMap (fun i => if s.isTooth x i then
    (s.extrasAfter x i).map (fun f => (s.nominalExtra x i f * simOne, SimMark.extraTooth)) else [])
  let cams := if s.flag Fld.WHL_SIM_CTRL_CAM && !s.flag Fld.WHL_SIM_FLT_CAM_OFF then
    (s.camEntries x).map (fun c => (c.2.1 * simOne, SimMark.cam c.2.2)) else []
  teeth ++ extras ++ cams ++ (match s.sim.extraAt with | some a => [(a, SimMark.inserted)] | none => []) ++
  s.simUps (s.get (Fld.WHL_WD_CFG_CRANK_IN x)) (teeth ++ extras) ++ s.simUps (s.get (Fld.WHL_WD_CFG_CAM_IN x)) cams

/-- How far behind the simulated angle a mark lies, against the direction of motion. -/
def State.simBehind (s : State) (a : Nat) : Nat :=
  if s.simRev then (a + simMod - s.simAngle % simMod) % simMod else (s.simAngle + simMod - a % simMod) % simMod

/-- The pulses that end on the way gone, by how far behind the simulated angle their end lies (R54). -/
def State.simEnds (s : State) : List (Nat × SimMark) :=
  (s.sim.ends.filter (fun e => e.1 ≤ s.sim.travel)).map (fun e => (s.sim.travel - e.1, SimMark.pulseEnd e.2.1 e.2.2))

/-- The farthest distance, within the way not yet examined, of a mark or of a pulse's end. -/
def State.simNext (s : State) : Option Nat :=
  let marks := s.simMarks.map (fun m =>
    let d := s.simBehind m.1
    d + (if d < s.sim.behind then (s.sim.behind - 1 - d) / simMod * simMod else 0))
  (marks ++ s.simEnds.map Prod.fst).foldl (fun b d =>
    if s.sim.behind ≤ d then b
    else match b with | none => some d | some e => some (Nat.max e d)) none

/-- What lies at the distance `d` behind the simulated angle: pulses that end, before the edges. -/
def State.simHere (s : State) (d : Nat) : List SimMark :=
  (s.simEnds.filter (fun m => m.1 == d)).map Prod.snd ++ (s.simMarks.filter (fun m => s.simBehind m.1 == d % simMod)).map Prod.snd

/-- How long a simulated pulse lasts: half a position pitch, in ticks (R54). -/
def State.simPulse (s : State) : Nat := if s.simRate = 0 ∨ s.posCyc s.simX = 0 then 4294967296 else s.simHalf / s.simRate

/-- The pulse that begins on an input at the distance `d` behind the angle lasts half a position pitch; it takes the place of one that has
not ended (R54). -/
def State.simPulseFrom (s : State) (n d : Nat) (falling : Bool) : State :=
  { s with sim := { s.sim with ends := s.sim.ends.filter (fun e => e.2.1 != n) ++ [(s.sim.travel - d + s.simHalf, n, !falling)] } }

/-- An edge on an input before the filters, at the level it brings (R55); the filters drop a pulse that is too short, with its end
(R35). -/
def State.simLevel (s : State) (n stamp : Nat) (falling : Bool) : State :=
  let s1 := s.setLevel n (!falling)
  let active := if s.frontEnd n == 1 then falling else s.isActive n (!falling)
  if active then s1.activeEdge n stamp falling (some s.simRev) else s1

/-- The peak voltage in mV that the test current makes at the pins at analog depth: since the resistance outside is not given, a free value
within the clamp of 5 V (DESIGN CHOICE, log entry 77). -/
def State.simPeak (s : State) : Nat × State := (s.takeFree.1.toNat % 5001, s.takeFree.2)

/-- A crank, cam or extra-tooth edge on an input, `d` behind the angle. At digital depth it replaces the pin's and begins a pulse; at analog
depth it is the negative-going crossing of the signal that a VR input sees (R55). An input with FE = 0 delivers none (R29). -/
def State.simPut (s : State) (n d stamp : Nat) (falling : Bool) : State :=
  if s.frontEnd n = 0 then s
  else if s.simAnalog n then (if s.get Fld.WHL_SIM_AMP_AMP = 0 then s else s.vrEdge n stamp false s.simPulse s.sim.peak)
  else if !s.simulated n then s
  else if s.glitches n s.simPulse then s.glitch n
  else (s.simPulseFrom n d falling).simLevel n stamp falling

/-- The upward crossing of a VR input's signal at analog depth; without a current there is none (R55). -/
def State.simUp (s : State) (n stamp : Nat) : State :=
  let p := s.simPeak
  if s.get Fld.WHL_SIM_AMP_AMP = 0 then s else
  ({ p.2 with sim := { p.2.sim with peak := p.1 } }).vrEdge n stamp true s.simPulse p.1

/-- The polarity of a crank edge: the active edge of the input (R32); a VR input's falls (R30). -/
def State.crankFalls (s : State) (n : Nat) : Bool := s.frontEnd n == 1 || s.get (Fld.WHL_CFG_EDGE n) == 1

/-- A request of WHL_SIM_FLT, bit `f`, completes; one written in this tick while it stood is kept (R56). -/
def State.simDone (s : State) (f : FReg) : State :=
  if s.sim.againAt = s.tclk && s.sim.again.testBit f.lo then { s with sim := { s.sim with again := s.sim.again - 2 ^ f.lo } }
  else s.setFlag f false

/-- A write to WHL_SIM_FLT: a request written while one of its kind stands is remembered for the tick (R56). -/
def State.simFlt (s : State) (v : Word) : State :=
  let old := if s.sim.againAt = s.tclk then s.sim.again else 0
  let both := (v &&& s.word Reg.WHL_SIM_FLT).toNat
  { s with sim := { s.sim with again := old ||| both, againAt := s.tclk } }

/-- A crank tooth passes, `d` behind the angle (R56): it may be omitted, it starts an insertion, and it may turn the rotation. -/
def State.simTooth (s : State) (i d stamp : Nat) : State :=
  let x := s.simX
  let n := s.get (Fld.WHL_WD_CFG_CRANK_IN x)
  let drop := s.flag Fld.WHL_SIM_FLT_DROP
  let left := if s.sim.dropLeft = 0 then Nat.max 1 (s.get Fld.WHL_SIM_FLT_DROP_N) else s.sim.dropLeft
  let s1 := if drop then
      (let s0 := { s with sim := { s.sim with dropLeft := left - 1 } }
       if left = 1 then s0.simDone Fld.WHL_SIM_FLT_DROP else s0)
    else s.simPut n d stamp (s.crankFalls n)
  let j := if s.simRev then s.prevTooth x i else s.nextTooth x i
  let span := if s.simRev then (s.nominal x i + cycleAu - s.nominal x j) % cycleAu else (s.nominal x j + cycleAu - s.nominal x i) % cycleAu
  let half := span * (simOne / 2)
  let here := s.nominal x i * simOne
  let s2 := if s1.flag Fld.WHL_SIM_FLT_EXTRA && s1.sim.extraAt.isNone then
      { s1 with sim := { s1.sim with extraAt := some (if s.simRev then (here + simMod - half) % simMod else (here + half) % simMod) } }
    else s1
  if s2.flag Fld.WHL_SIM_FLT_FLIP then
    -- the way since the tooth runs backward
    let b := s2.simBehind here
    let s3 := (s2.simDone Fld.WHL_SIM_FLT_FLIP).setFlag Fld.WHL_SIM_CTRL_REV (!s.simRev)
    s3.setSimAngle (if s.simRev then (here + b) % simMod else (here + simMod - b % simMod) % simMod)
  else s2

/-- One mark is passed, `d` behind the angle. -/
def State.simMark (s : State) (d stamp : Nat) : SimMark → State
  | .tooth i => s.simTooth i d stamp
  | .extraTooth =>
    let n := s.get (Fld.WHL_WD_CFG_CRANK_IN s.simX)
    s.simPut n d stamp (s.crankFalls n)
  | .inserted =>
    let n := s.get (Fld.WHL_WD_CFG_CRANK_IN s.simX)
    (({ s with sim := { s.sim with extraAt := none } }).simDone Fld.WHL_SIM_FLT_EXTRA).simPut n d stamp (s.crankFalls n)
  | .cam f => s.simPut (s.get (Fld.WHL_WD_CFG_CAM_IN s.simX)) d stamp f
  | .up n => s.simUp n stamp
  | .pulseEnd n f => ({ s with sim := { s.sim with ends := s.sim.ends.filter (fun e => e.2.1 != n) } }).simLevel n stamp f

/-- The next crossing on the way not yet examined produces its edge, stamped at the crossing (R54). -/
def State.simEdge (s : State) : State :=
  match s.simNext with
  | none => s
  | some d =>
    let stamp := 16 * s.tclk - (if s.simRate = 0 then 0 else divRound (16 * d) s.simRate)
    (s.simHere d).foldl (fun s m => s.simMark d stamp m) { s with sim := { s.sim with behind := d } }

/-- One step of the ramp, every 2^16 ticks while EN = 1 (R54). -/
def State.simStep (s : State) : State :=
  if s.simOn && s.sim.stepAt + 65536 ≤ s.tclk then
    let r := s.simRate
    let t := s.get Fld.WHL_SIM_TGT_TGT
    let a := s.get Fld.WHL_SIM_ACC_ACC
    let v := if r < t then Nat.min t (r + a) else Nat.max t (r - a)
    ({ s with sim := { s.sim with stepAt := s.sim.stepAt + 65536 } }).set Fld.WHL_SIM_RATE_RATE v
  else s

/-- A write to WHL_SIM_CTRL, which only BENCH takes (R53). At a rise of EN the simulator starts: the steps of its rate count from then on
(DESIGN CHOICE, log entry 76); where the angle begins to move, the present angle counts as not yet passed. Where EN falls, the inputs
return to their pins. -/
def State.simCtrl (s : State) (v : Word) : State :=
  if s.st != 9 then s else
  let s1 := s.setWord Reg.WHL_SIM_CTRL (v &&& 0x3F)
  let en := s.flag Fld.WHL_SIM_CTRL_EN
  let s2 := if !en && s1.flag Fld.WHL_SIM_CTRL_EN then { s1 with sim := { s1.sim with stepAt := s1.tclk, behind := 0, ends := [], dropLeft := 0, extraAt := none } } else s1
  let runs (t : State) : Bool := t.flag Fld.WHL_SIM_CTRL_EN && t.flag Fld.WHL_SIM_CTRL_RUN
  let s3 := if !runs s && runs s2 then { s2 with sim := { s2.sim with behind := 1 } } else s2
  if en && !s3.flag Fld.WHL_SIM_CTRL_EN then s3.levelsFromPins else s3

/-- A write to WHL_SIM_ANG, while RUN = 0: the angle is the one written (R54). -/
def State.simAngleWritten (s : State) : State :=
  if s.flag Fld.WHL_SIM_CTRL_RUN then s else { s with sim := { s.sim with frac := 0 } }

end Sys2Proof.Machine
end

