-- ==== Sys2Proof/Machine/Tick.lean ====
section
/-! DEFINITION. The passage of time. Every command that carries a time first lets that much time pass; on an empty queue one tick of
TCLK passes in each step (log entry 4). -/

namespace Sys2Proof.Machine

/-- `n` ticks of TCLK pass (2.5 ns each): the counts of time, the angles of the trackers and of TRK_OUT, the timers, the simulator,
and what is sampled in every cycle: pins, waiting contexts, level interrupt sources. Nothing else happens by time alone: whatever
falls due is a command of its own. No time passes for `n` = 0. -/
def State.advance (s : State) (n : Nat) : State :=
  if n = 0 then s
  else if !s.tclkRuns then { s with now := s.now + n, fresh := [] }
  else
    let s1 := ({ s with fresh := [] }).samplePins.patSample
    let s2 := { s1 with now := s1.now + n, tclk := s1.tclk + n }
    ((s2.advanceAngles n).advanceTimers s1 n).advanceSim n |>.refreshLevels

/-- What a step does on an empty queue: one tick passes (log entry 4). -/
def State.tick (s : State) : State := s.advance 1

end Sys2Proof.Machine
end

