-- ==== Sys2Proof/Machine/ClockBase.lean ====
section
/-! DEFINITION. The DVFS sequencer (R316, R317, R349, R350), the gates (R351–R353) and what closing them does to DMA channels
(R374). -/

namespace Sys2Proof.Machine

-- ── DVFS ──────────────────────────────────────────────────────────────────────────────────────────────────────────

/-- VCORE in mV and the divider D of an operating point (R316, R337). -/
def opVolt (p : Nat) : Nat := if p = 0 then 650 else if p = 1 then 720 else if p = 2 then 800 else 900
def opDiv (p : Nat) : Nat := if p = 0 then 12 else if p = 1 then 6 else if p = 2 then 4 else 3

/-- The point targeted: the lower of the request and the calving cap (R317, R349). -/
def State.opTarget (s : State) : Nat :=
  if 2 ≤ s.get Fld.PWR_STAT_STAGE then Nat.min 1 (s.get Fld.CLK_OPREQ_REQ) else s.get Fld.CLK_OPREQ_REQ

/-- The sequence begins its next step toward the target, or ends with source 7 (R349, R350). -/
def State.dvfsNext (s : State) : State :=
  let v := opVolt s.opTarget
  let d := opDiv s.opTarget
  let go (ph : DvfsPhase) (div : Nat) : State :=
    (s.withClk { s.clk with phase := ph, d := div, stepAt := s.now }).set Fld.CLK_STAT_DVFS_BUSY 1
  if d < s.clk.d then (if s.clk.vcore < v then go (.ramp v) s.clk.d else go .dwell (s.clk.d - 1))
  else if s.clk.d < d then go .dwell (s.clk.d + 1)
  else if s.clk.vcore ≠ v then go (.ramp v) s.clk.d
  else (((s.withClk { s.clk with phase := .idle }).set Fld.CLK_STAT_DVFS_BUSY 0).set Fld.PWR_STAT_OP s.opTarget).irq 7

/-- A new target, from CLK_OPREQ or a change of stage: an idle sequencer starts when it does not stand there (R350). -/
def State.dvfsKick (s : State) : State :=
  if s.clk.phase = .idle && (s.clk.d ≠ opDiv s.opTarget || s.clk.vcore ≠ opVolt s.opTarget) then s.dvfsNext
  else s

/-- How long the present step lasts, in TCLK ticks (R349): DWELL cycles of 1.2 GHz / D, 10 mV/µs, VSETTLE. -/
def State.dvfsTime (s : State) : Nat :=
  match s.clk.phase with
  | .idle => 0
  | .dwell => (Nat.max 1 (s.get Fld.CLK_RAMP_DWELL) * s.clk.d + 2) / 3
  | .ramp mv => 40 * (if s.clk.vcore ≤ mv then mv - s.clk.vcore else s.clk.vcore - mv)
  | .settle => usTicks * Nat.max 1 (s.get Fld.CLK_RAMP_VSETTLE)

/-- The present step ends, once its time has passed. -/
def State.dvfsStep (s : State) : State :=
  if !s.passed s.clk.stepAt s.dvfsTime then s else
  match s.clk.phase with
  | .idle => s
  | .ramp mv => s.withClk { s.clk with vcore := mv, phase := .settle, stepAt := s.now }
  | _ => s.dvfsNext

-- ── DMA channels that stop (R373, R374) ───────────────────────────────────────────────────────────────────────────

def State.dma (s : State) (n : Nat) : DmaChan := spGet (fun _ => DmaChan.reset) s.dmas n
def State.setDma (s : State) (n : Nat) (x : DmaChan) : State := { s with dmas := spPut (fun _ => DmaChan.reset) s.dmas n x }

/-- The channel stands: EN and BUSY clear, a held pulse is gone. -/
def State.dmaIdle (s : State) (n : Nat) : State :=
  let s1 := (s.setFlag (Fld.DMA_CH_CTRL_EN n) false).setFlag (Fld.DMA_CH_STAT_BUSY n) false
  { s1.setDma n DmaChan.reset with dmaHeld := s1.dmaHeld - (if s1.dmaHeld.testBit n then 2 ^ n else 0) }

/-- EN written 0, or the gate closed, on a running channel (R374): CNT, SRC and DST are free values (log entry 3). -/
def State.dmaDrop (s : State) (n : Nat) : State :=
  if !s.flag (Fld.DMA_CH_CTRL_EN n) then s
  else
    let a := (s.dmaIdle n).takeFree
    let b := a.2.takeFree
    let c := b.2.takeFree
    ((c.2.setWord (Reg.DMA_CH_SRC n) a.1).setWord (Reg.DMA_CH_DST n) b.1).set (Fld.DMA_CH_CNT_CNT n) (c.1.toNat % 16777216)

-- ── Gates (R351–R353) ─────────────────────────────────────────────────────────────────────────────────────────────

/-- The gate bits a host may change: TIM, PAT0, PAT1 of CLK_GATE0, DMA_HI of CLK_GATE1 (R353). -/
def gateHostMask (r : Nat) : Nat := if r = 0 then 0xE000 else 0x100
/-- The gate bits that exist. -/
def gateMask (r : Nat) : Nat := if r = 0 then 0x3FFFF else 0x11F
def gateReg (r : Nat) : Nat := if r = 0 then Reg.CLK_GATE0 else Reg.CLK_GATE1

/-- Why a gate write is refused: STATE_FORBIDS (0x41) or 0. -/
def State.gateRefused (s : State) (r v : Nat) (host : Bool) : Nat :=
  let old := (s.word (gateReg r)).toNat
  let new := v &&& gateMask r
  let changed := (old ^^^ new) &&& (gateMask r)
  if host && s.st != 9 && (changed ||| gateHostMask r) != gateHostMask r then 0x41
  else if r = 0 && (s.st == 5 || s.st == 6) && (old &&& changed &&& 0x3F) != 0 then 0x41
  else 0

/-- The gates take their value (R351); DMA channels that lose their clock drop (R374). -/
def State.putGate (s : State) (r v : Nat) : State :=
  let s1 := s.setWord (gateReg r) (BitVec.ofNat 32 (v &&& gateMask r))
  (List.range 16).foldl (fun s n =>
    if !s.flag Fld.CLK_GATE0_DMA || (8 ≤ n && !s.flag Fld.CLK_GATE1_DMA_HI) then s.dmaDrop n else s) s1

end Sys2Proof.Machine
end

