-- ==== Sys2Proof/Machine/Check.lean ====
section
/-! DEFINITION. What a write to a register must satisfy: the states in which a change is accepted (STATE_FORBIDS, 0x41) and the
ranges of its fields (OUT_OF_RANGE, 0x40), as the register tables and their chapters give them. The set opcodes make the same
checks. `old` is the device before the write, `s` the device with the new word in place. -/

namespace Sys2Proof.Machine

/-- Status codes of R267. -/
def stOk : Nat := 0x00
def stOutOfRange : Nat := 0x40
def stForbids : Nat := 0x41
def stBusError : Nat := 0x42

-- ── Wheel inputs (R41, R42, R44–R51) ──────────────────────────────────────────────────────────────────────────────

/-- A description that is enabled (R44). -/
def State.descOn (s : State) (x : Nat) : Bool := s.posRev x != 0

/-- A description names an input: crank, cam, or direction (R44, R51). -/
def State.descNames (s : State) (x n : Nat) : Bool :=
  s.descOn x && (s.get (Fld.WHL_WD_CFG_CRANK_IN x) == n || s.get (Fld.WHL_WD_CFG_DIR_SRC x) == n ||
    s.get (Fld.WHL_WD_CFG_CAM_IN x) == n)

/-- The front end of an input, as R41 and R42 and the field ranges allow it. -/
def State.frontOk (s : State) (n : Nat) : Bool :=
  s.get (Fld.WHL_CFG_FE n) ≤ 3 && s.get (Fld.WHL_CFG_DIR_MODE n) ≤ 2 && s.get (Fld.WHL_CFG_PULL n) ≤ 2 &&
  s.get (Fld.WHL_CFG_EDGE n) ≤ 2 && inRange 10 70 (s.get (Fld.WHL_CFG_THR_PCT n)) && s.get (Fld.WHL_CFG_VR_MIN n) ≤ 16 &&
  !(s.get (Fld.WHL_CFG_DIR_MODE n) == 1 && n % 2 == 1) &&
  !(s.get (Fld.WHL_CFG_DIR_MODE n) == 2 && s.get (Fld.WHL_CFG_EDGE n) == 2)

/-- Gaps of R46: LEN 1–7, no position 0, no wrap, no overlap, no touch. -/
def State.gapsOk (s : State) (x : Nat) : Bool :=
  let g := ((List.range 4).filter (fun g => s.flag (Fld.WHL_WD_GAP_EN x g))).map
    (fun g => (g, s.get (Fld.WHL_WD_GAP_START x g), s.get (Fld.WHL_WD_GAP_LEN x g)))
  g.all (fun a => 1 ≤ a.2.2 && 1 ≤ a.2.1 && a.2.1 + a.2.2 ≤ s.posRev x &&
    g.all (fun b => a.1 == b.1 || a.2.1 + a.2.2 < b.2.1 || b.2.1 + b.2.2 < a.2.1))

/-- Extra teeth of R47: after a tooth of the wheel, at a fraction that is not 0. -/
def State.extrasOk (s : State) (x : Nat) : Bool :=
  (s.extraTeeth x).all (fun e => e.1 < s.posRev x && !s.inGap x e.1 && 1 ≤ e.2)

/-- A ring gear has no gap and no extra tooth, and uses the cam (R48); its CAM_TOL is below half a pitch (R67). -/
def State.ringOk (s : State) (x : Nat) : Bool :=
  !s.ring x ||
  ((List.range 4).all (fun k => !s.flag (Fld.WHL_WD_GAP_EN x k) && !s.flag (Fld.WHL_WD_EXT_EN x k)) &&
   s.flag (Fld.WHL_WD_CFG_CAM_EN x) && 2 * s.get (Fld.WHL_WD_CAMCFG_CAM_TOL x) * s.posCyc x < cycleAu)

/-- A polarity that the cam input delivers (R49). An input with FE = 0 delivers no edges, and no rule says which polarity is refused there:
either is accepted (DESIGN CHOICE, log entry 76). -/
def State.camPolOk (s : State) (x : Nat) (falling : Bool) : Bool :=
  let n := s.get (Fld.WHL_WD_CFG_CAM_IN x)
  let fe := s.frontEnd n
  if fe = 0 then true
  else if fe = 1 then falling
  else s.get (Fld.WHL_CFG_EDGE n) == 2 || (s.get (Fld.WHL_CFG_EDGE n) == 1) == falling

/-- Cam entries of R49: contiguous from 0, ascending, more than 2 × CAM_TOL apart around the cycle, deliverable. -/
def State.camsOk (s : State) (x : Nat) : Bool :=
  let l := s.camEntries x
  let tol := s.get (Fld.WHL_WD_CAMCFG_CAM_TOL x)
  let ang := l.map (fun e => e.2.1)
  (l.zipIdx.all (fun e => e.1.1 == e.2)) &&
  (List.zip ang (ang.drop 1)).all (fun p => p.1 < p.2 && 2 * tol < p.2 - p.1) &&
  (match ang.head?, ang.getLast? with
   | some a, some b => ang.length ≤ 1 || 2 * tol < a + cycleAu - b
   | _, _ => true) &&
  l.all (fun e => s.camPolOk x e.2.2)

/-- A description as R44–R50 allow it; a disabled one is not checked. -/
def State.descAccepts (s : State) (x : Nat) : Bool :=
  !s.descOn x ||
  (s.posCyc x ≤ 1024 && s.gapsOk x && s.extrasOk x && s.ringOk x && s.camsOk x &&
   (!s.descOn (1 - x) || s.revs x == s.revs (1 - x)))

def State.descsAccept (s : State) : Bool := s.descAccepts 0 && s.descAccepts 1

/-- The fields of WHL_CFGn that R51 guards: FE, POL, EDGE, PULL, DIR_MODE. -/
def guardedCfg : Word := 0x3FF

/-- The status of a change of WHL_CFGn. -/
def State.checkWhlCfg (old s : State) (n : Nat) : Nat :=
  let changed := (old.word (Reg.WHL_CFG n) ^^^ s.word (Reg.WHL_CFG n)) &&& guardedCfg
  if changed != 0 && [0, 1].any (fun x => old.descNames x n && old.trkState x != 0) then stForbids
  else if s.frontOk n && s.descsAccept then stOk else stOutOfRange

/-- The status of a change of description `x`. -/
def State.checkWd (old s : State) (x : Nat) : Nat :=
  if old.trkState x != 0 then stForbids else if s.descAccepts x then stOk else stOutOfRange

def State.checkWHL (old s : State) (a : Nat) : Nat :=
  match regIndex Reg.WHL_CFG 4 a with
  | some n => old.checkWhlCfg s n
  | none =>
    if 0x40080200 ≤ a && a < 0x40080400 then
      (if old.word a = s.word a then stOk else old.checkWd s ((a - 0x40080200) / 0x100))
    else stOk

-- ── Trackers ──────────────────────────────────────────────────────────────────────────────────────────────────────

def State.checkTRK (s : State) (a : Nat) : Nat :=
  let ok :=
    if a = Reg.TRK_VOTE then inRange 1 8 (s.get Fld.TRK_VOTE_SLEW)
    else if a = Reg.TRK_VSEL then decide (s.get Fld.TRK_VSEL_MODE ≤ 2)
    else match regIndex Reg.TRK_CTRL 2 a, regIndex Reg.TRK_SYNC 2 a, regIndex Reg.TRK_LEARN 2 a with
      | some x, _, _ => decide (s.get (Fld.TRK_CTRL_SRC x) ≤ 1)
      | _, some x, _ => inRange 16 224 (s.get (Fld.TRK_SYNC_THR x))
      | _, _, some x => decide (s.get (Fld.TRK_LEARN_PROF_GATE x) ≤ 1)
      | _, _, _ => true
  if ok then stOk else stOutOfRange

-- ── Scheduler (R99) ───────────────────────────────────────────────────────────────────────────────────────────────

/-- Ranges of enabled cylinders do not overlap and end at or below slot 2,047 (R99). -/
def State.rangesOk (s : State) : Bool :=
  s.enabledCyls.all (fun c => s.slotCnt c == 0 || (s.slotBase c + s.slotCnt c ≤ 2048 &&
    s.enabledCyls.all (fun d => c == d || s.slotCnt d == 0 || s.slotBase c + s.slotCnt c ≤ s.slotBase d ||
      s.slotBase d + s.slotCnt d ≤ s.slotBase c)))

def State.checkSCH (old s : State) (a : Nat) : Nat :=
  if a = Reg.SCH_CTRL then (if s.get Fld.SCH_CTRL_AUTONOMY = 255 then stOutOfRange else stOk)
  else match regIndex Reg.SCH_CYL_C 24 a, regIndex Reg.SCH_CYL_A 24 a with
    | some c, _ =>
      if old.flag Fld.SCH_CTRL_EN && old.word (Reg.SCH_CYL_C c) != s.word (Reg.SCH_CYL_C c) then stForbids
      else if s.rangesOk then stOk else stOutOfRange
    | _, some c => if s.rangesOk && s.get (Fld.SCH_CYL_A_FIRE_IDX c) ≤ 23 then stOk else stOutOfRange
    | _, _ => stOk

-- ── Output stage ──────────────────────────────────────────────────────────────────────────────────────────────────

def State.boostOk (s : State) : Bool :=
  inRange 300 1000 (s.get Fld.DRV_BCFG_VSET) && s.get Fld.DRV_VBOOSTMIN_VMIN + 20 ≤ s.get Fld.DRV_BCFG_VSET &&
  inRange 2 15 (s.get Fld.DRV_BCFG_OV_MARGIN) && s.get Fld.DRV_BLIM_IIN ≤ 0x8C && s.get Fld.DRV_BLIM_ILIM ≤ 0xA0

/-- A thermal set: resistances and capacities not 0, T1 < T2 < T3, HMIN 50–100. -/
def State.tmodelOk (s : State) (m : Nat) : Bool :=
  s.get (Fld.DRV_TMODEL_R_RCOIL m) != 0 && s.get (Fld.DRV_TMODEL_G_RBA m) != 0 && s.get (Fld.DRV_TMODEL_G_RWB m) != 0 &&
  s.get (Fld.DRV_TMODEL_C_CB m) != 0 && s.get (Fld.DRV_TMODEL_C_CW m) != 0 &&
  s.get (Fld.DRV_TMODEL_T_T1 m) < s.get (Fld.DRV_TMODEL_T_T2 m) &&
  s.get (Fld.DRV_TMODEL_T_T2 m) < s.get (Fld.DRV_TMODEL_T_T3 m) && inRange 50 100 (s.get (Fld.DRV_TMODEL_T_HMIN m))

def State.dieLimOk (s : State) : Bool := inRange 100 150 (s.get Fld.DRV_DIELIM_DIE_T1) && s.get Fld.DRV_DIELIM_PLIM ≤ 7000

def State.checkDRV (old s : State) (a : Nat) : Nat :=
  let range (b : Bool) : Nat := if b then stOk else stOutOfRange
  if a = Reg.DRV_BCFG ∨ a = Reg.DRV_BLIM ∨ a = Reg.DRV_VBOOSTMIN then range s.boostOk
  else if a = Reg.DRV_DIELIM then range s.dieLimOk
  else if 0x400C0400 ≤ a ∧ a < 0x400C0440 then range (s.tmodelOk ((a - 0x400C0400) / 16))
  else match regIndex Reg.DRV_BANK 8 a, regIndex Reg.DRV_CH_CFG 48 a with
    | some k, _ =>
      if old.flag Fld.SCH_CTRL_EN && old.get (Fld.DRV_BANK_PAIR k) != s.get (Fld.DRV_BANK_PAIR k) then stForbids else stOk
    | _, some n => range (decide (s.get (Fld.DRV_CH_CFG_ICLAIM n) ≤ 80))
    | _, _ => stOk

/-- The check of R177 on a profile's words. -/
def Profile.ok (p : Profile) : Bool :=
  p.sp 1 ≤ 768 && p.sp 2 + p.band ≤ 768 && p.sp 3 + p.band ≤ 768 && p.sp 4 + p.band ≤ 768

def State.checkWIT (s : State) (a : Nat) : Nat :=
  match regIndex Reg.WIT_DET_OP 16 a, regIndex Reg.WIT_DET_CP 16 a with
  | some i, _ => if inRange 2 32 (s.get (Fld.WIT_DET_OP_W i)) then stOk else stOutOfRange
  | _, some i => if inRange 2 32 (s.get (Fld.WIT_DET_CP_W i)) then stOk else stOutOfRange
  | _, _ => stOk

-- ── Floe, host ports ──────────────────────────────────────────────────────────────────────────────────────────────

def State.checkFLO (s : State) (a : Nat) : Nat :=
  let ok :=
    if a = Reg.FLO_DOM then inRange 1 10 (s.get Fld.FLO_DOM_SYNC_P)
    else if a = Reg.FLO_PAIR then inRange 20 50 (s.get Fld.FLO_PAIR_HO_LEAD) && inRange 1 100 (s.get Fld.FLO_PAIR_ARB_FILT)
    else if a = Reg.FLO_PAIRT then s.get Fld.FLO_PAIRT_HO_OVL ≤ 40 && inRange 2 15 (s.get Fld.FLO_PAIRT_HB_MISS) &&
      inRange 2 200 (s.get Fld.FLO_PAIRT_HB_P)
    else if a = Reg.FLO_SYS then inRange 1 16 (s.get Fld.FLO_SYS_NVOTER)
    else match regIndex Reg.FLO_PORT_CTRL 4 a with
      | some p => decide (s.get (Fld.FLO_PORT_CTRL_SWING p) ≤ 2)
      | none => true
  if ok then stOk else stOutOfRange

def State.checkHST (s : State) (a : Nat) : Nat :=
  let ok :=
    if a = Reg.PKT_HOSTTIMEOUT then decide (10 ≤ s.get Fld.PKT_HOSTTIMEOUT_TIMEOUT)
    else match regIndex Reg.HST_CAN_CFG 2 a with
      | some x => inRange 50 90 (s.get (Fld.HST_CAN_CFG_DSP x)) && inRange 50 90 (s.get (Fld.HST_CAN_CFG_NSP x)) &&
          s.get (Fld.HST_CAN_CFG_DRATE x) ≤ 4 && s.get (Fld.HST_CAN_CFG_NRATE x) ≤ 3
      | none => true
  if ok then stOk else stOutOfRange

-- ── Supplies and clocks (R334, R338) ──────────────────────────────────────────────────────────────────────────────

/-- The calving settings of R334: each threshold at least HYST above the next, C1 ≤ 60.0 V, C6 ≥ 6.0 V. -/
def State.calvOk (s : State) : Bool :=
  let h := s.get Fld.PWR_CALVCFG_HYST
  let l := [s.get Fld.PWR_CALVA_C1, s.get Fld.PWR_CALVA_C2, s.get Fld.PWR_CALVA_C3, s.get Fld.PWR_CALVB_C4,
            s.get Fld.PWR_CALVB_C5, s.get Fld.PWR_CALVB_C6]
  (List.zip l (l.drop 1)).all (fun p => p.2 < p.1 && p.2 + h ≤ p.1) && s.get Fld.PWR_CALVA_C1 ≤ 600 &&
  60 ≤ s.get Fld.PWR_CALVB_C6 && inRange 1 20 h && inRange 50 100 (s.get Fld.PWR_CALVCFG_HOLDCUT)

def State.checkPWR (s : State) (a : Nat) : Nat :=
  let ok :=
    if a = Reg.PWR_CALVA ∨ a = Reg.PWR_CALVB ∨ a = Reg.PWR_CALVCFG then s.calvOk
    else if a = Reg.PWR_SUPCFG then inRange 300 600 (s.get Fld.PWR_SUPCFG_VBAT_OV)
    else true
  if ok then stOk else stOutOfRange

/-- A crystal frequency in kHz that R338 accepts: some R of 1 to 8 gives f / R ≥ 4 MHz and an integer N. -/
def freqOk (khz : Nat) : Bool :=
  inRange 16000 40000 khz && (List.range 8).any (fun r => 4000 * (r + 1) ≤ khz && 400000 * (r + 1) % khz == 0)

def State.xcfgOk (s : State) : Bool :=
  s.get Fld.CLK_XCFG_GAIN ≤ 2 && inRange 2 10 (s.get Fld.CLK_XCFG_TOL) && s.get Fld.CLK_XCFG_WIN ≤ 8 &&
  freqOk (s.get Fld.CLK_XCFG_FREQ)

def State.checkCLK (s : State) (a : Nat) : Nat :=
  let ok :=
    if a = Reg.CLK_XCFG then s.xcfgOk
    else if a = Reg.CLK_XDLY then decide (s.get Fld.CLK_XDLY_DLY ≤ 200)
    else if a = Reg.CLK_SPREAD then inRange 20 100 (s.get Fld.CLK_SPREAD_RATE) && s.get Fld.CLK_SPREAD_DEPTH ≤ 20
    else if a = Reg.CLK_FMC_CTRL then s.get Fld.CLK_FMC_CTRL_REF != 7 && s.get Fld.CLK_FMC_CTRL_TGT != 7
    else true
  if ok then stOk else stOutOfRange

-- ── Interrupts, DMA, timers, pattern engines ──────────────────────────────────────────────────────────────────────

def State.checkIRQ (s : State) (a : Nat) : Nat :=
  let ok :=
    if a = Reg.IRQ_PRIGROUP then s.get Fld.IRQ_PRIGROUP_COM_SPLIT ≤ 4 && s.get Fld.IRQ_PRIGROUP_SUP_SPLIT ≤ 4
    else match regIndex Reg.IRQ_SRC 256 a, regIndex Reg.IRQ_HSRC 256 a with
      | some n, _ => decide (s.get (Fld.IRQ_SRC_CGRP n) ≤ 8)
      | _, some n => s.get (Fld.IRQ_HSRC_CGRP n) == 0 || inRange 9 16 (s.get (Fld.IRQ_HSRC_CGRP n))
      | _, _ => true
  if ok then stOk else stOutOfRange

/-- A trigger code of R365. -/
def trigOk (c : Nat) : Bool :=
  c == 0 || inRange 0x10 0x30 c || inRange 0x40 0x43 c || inRange 0x50 0x73 c

def State.checkDMA (s : State) (a : Nat) : Nat :=
  match regIndex Reg.DMA_CH_CTRL 16 a with
  | some n =>
    if trigOk (s.get (Fld.DMA_CH_CTRL_TRIG n)) && s.get (Fld.DMA_CH_CTRL_DINC n) ≤ 1 && s.get (Fld.DMA_CH_CTRL_SINC n) ≤ 1 &&
       s.get (Fld.DMA_CH_CTRL_WIDTH n) ≤ 2 then stOk else stOutOfRange
  | none => stOk

def State.checkTIM (s : State) (a : Nat) : Nat :=
  match regIndex Reg.TIM_CH_CFG 16 a with
  | some n =>
    if s.get (Fld.TIM_CH_CFG_CLKSEL n) ≤ 4 && !(s.get (Fld.TIM_CH_CFG_CLKSEL n) == 4 && s.upDown n) &&
       !(n % 2 == 1 && s.flag (Fld.TIM_CH_CFG_LINK n)) then stOk else stOutOfRange
  | none => stOk

def State.checkPAT (s : State) (a : Nat) : Nat :=
  let ok := [0, 1].all (fun e => (List.range 16).all (fun c =>
    (a != Reg.PAT_CTX_CFG e c || s.get (Fld.PAT_CTX_CFG_FILL e c) ≤ 32) &&
    (a != Reg.PAT_CTX_PINS e c || s.get (Fld.PAT_CTX_PINS_OUT_N e c) ≤ 32) &&
    (a != Reg.PAT_CTX_SHC e c || s.get (Fld.PAT_CTX_SHC_SHC e c) ≤ 32)))
  if ok then stOk else stOutOfRange

/-- The status of a write to a register, by its block. -/
def State.checkReg (old s : State) (a : Nat) : Nat :=
  if a < 0x40010000 then stOk
  else if a < 0x40020000 then s.checkCLK a
  else if a < 0x40030000 then s.checkPWR a
  else if a < 0x40040000 then s.checkIRQ a
  else if a < 0x40050000 then s.checkDMA a
  else if a < 0x40060000 then s.checkTIM a
  else if a < 0x40080000 then s.checkPAT a
  else if a < 0x40090000 then old.checkWHL s a
  else if a < 0x400A0000 then s.checkTRK a
  else if a < 0x400C0000 then old.checkSCH s a
  else if a < 0x400D0000 then old.checkDRV s a
  else if a < 0x400E0000 then stOk
  else if a < 0x400F0000 then s.checkWIT a
  else if a < 0x40100000 then stOk
  else if a < 0x40110000 then s.checkFLO a
  else if a < 0x40120000 then s.checkHST a
  else stOk

end Sys2Proof.Machine
end

