-- ==== Sys2Proof/Machine/RegRead.lean ====
section
/-! DEFINITION. What a read of a register answers and what it does (R4, R5): live fields, latches of split registers, FIFO
removals, acknowledges. -/

namespace Sys2Proof.Machine

/-- Replaces a field of a word by a live value. -/
def live (f : FReg) (v : Nat) (w : Word) : Word := withField f w v
def liveB (f : FReg) (b : Bool) (w : Word) : Word := withField f w (if b then 1 else 0)

/-- All switches of a channel are off and blocking (DRV_CHn_STAT.BLOCKING); those of a pair switch together (R149). -/
def State.blocking (s : State) (n : Nat) : Bool := s.phase (s.lead n) == 0 && !(s.chan (s.lead n)).lowSide

/-- An output is held blocking (R157): in standby, or with every output blocked, once its switches are off (DRV_STAT.STBY_ALL). -/
def State.heldBlocked (s : State) (n : Nat) : Bool := s.blocking n && (s.allBlocked || s.inStandby n)

/-- A bank's occupancy and claim in the units of DRV_BANKSTATk. -/
def State.bankWord (s : State) (k : Nat) (w : Word) : Word :=
  let b := (bankChans k).find? (fun n => s.phase n == 1)
  live (Fld.DRV_BANKSTAT_BOOST_CH k) (b.getD 0) (liveB (Fld.DRV_BANKSTAT_BOOSTING k) b.isSome
    (live (Fld.DRV_BANKSTAT_OCC k) (s.occupants k 48) (live (Fld.DRV_BANKSTAT_CLAIM k) (Nat.min 127 (divRound (s.claims k 48) 64)) w)))

/-- A channel's status with its live bits. -/
def State.chanWord (s : State) (n : Nat) (w : Word) : Word :=
  liveB (Fld.DRV_CH_STAT_WAIT n) (s.waitsOn n) (liveB (Fld.DRV_CH_STAT_OCCUPY n) (s.holdsBank n)
    (liveB (Fld.DRV_CH_STAT_BLOCKING n) (s.blocking n) w))

/-- A context's status with its live bits. -/
def State.ctxWord (s : State) (e c : Nat) (w : Word) : Word :=
  liveB (Fld.PAT_CTX_STAT_HALTED e c) (s.patHalted e c) (liveB (Fld.PAT_CTX_STAT_CALVED e c) (s.patCalved e c) w)

/-- TRK_x_POS: in CRANK_SYNC NEXT is shown as in revolution 0. -/
def State.posWord (s : State) (x : Nat) (w : Word) : Word :=
  if s.trkState x = 3 then live (Fld.TRK_POS_NEXT x) (s.nextN x % s.posRev x) w else w

/-- A table entry as TRK_x_TBLD reads it (R83): TABLE 0 the profile, 1 the speed model. -/
def State.tblRead (s : State) (x : Nat) : Nat :=
  let i := s.get (Fld.TRK_TBLA_INDEX x)
  if s.flag (Fld.TRK_TBLA_TABLE x) then (s.trk x).kOf (s.get (Fld.TRK_TBLA_BUCKET x)) i
  else (spGet (fun _ => 0) (s.trk x).profile i) % 65536

/-- The index of TRK_x_TBLA after an access, with AUTOINC (R83). -/
def State.tblNext (s : State) (x : Nat) : State :=
  if s.flag (Fld.TRK_TBLA_AUTOINC x) then s.set (Fld.TRK_TBLA_INDEX x) ((s.get (Fld.TRK_TBLA_INDEX x) + 1) % 1024) else s

/-- A read of TRK_x_ANGLE (R58): the angle; FRAC, RATE and CYCLE are latched with it. -/
def State.readAngle (s : State) (x : Nat) : Word × State :=
  let t := s.trk x
  (BitVec.ofNat 32 (s.trkAngle x),
   ((((s.set (Fld.TRK_FRAC_FRAC x) (t.acc % fracOne)).set (Fld.TRK_RATEL_RATE_F x) (t.rate % fracOne)).set
     (Fld.TRK_RATEH_RATE_I x) (t.rate / fracOne)).set (Fld.TRK_CYCLE_CYCLE x) t.cycle))

/-- A read of an ADC FIFO (R138): the oldest result leaves; 0 from an empty FIFO. -/
def State.readFifo (s : State) (a : Nat) : Word × State :=
  match s.adcFifo a with
  | [] => (0, s)
  | w :: r => (w, s.setAdc a { s.adc a with fifo := r })

/-- The domain-time words (R229): a read of the low word latches the high one. -/
def State.readDt (s : State) : Word × State :=
  (BitVec.ofNat 32 s.domTime, s.setWord Reg.FLO_DTH (BitVec.ofNat 32 (s.domTime / 4294967296)))

/-- A read of WIT_MORL (R213): INDEX of the last digest; its high word and the head of the chain are latched. -/
def State.readMorl (s : State) : Word × State :=
  (BitVec.ofNat 32 s.wit.index,
   (List.range 8).foldl (fun s i => s.setWord (Reg.WIT_MORHK i) (BitVec.ofNat 32 (leAt s.chainHead (4 * i) 4)))
     (s.setWord Reg.WIT_MORH (BitVec.ofNat 32 (s.wit.index / 4294967296))))

/-- A read of WHL_TSLn (R33): the low word of the last stamp; the high word is latched. -/
def State.readStamp (s : State) (n : Nat) : Word × State :=
  (BitVec.ofNat 32 (s.whl n).stamp, s.setWord (Reg.WHL_TSH n) (BitVec.ofNat 32 ((s.whl n).stamp / 4294967296)))

/-- A read of PWR_CALVCNT: PEAK clears (RC); when the hardware has just set it, it stays (R5). -/
def State.readPeak (s : State) : Word × State :=
  (s.word Reg.PWR_CALVCNT, s.clearBits Reg.PWR_CALVCNT (FReg.mask Fld.PWR_CALVCNT_PEAK))

/-- A read of a host acknowledge register (R359): PRIO of the acknowledged source beside the vector. -/
def State.readHack (s : State) (h : Nat) : Word × State :=
  let a := s.acknowledge (2 + h)
  let prio := if a.1 = 0 then 0 else s.get (Fld.IRQ_HSRC_PRIO (a.1 - 1))
  (BitVec.ofNat 32 (a.1 + 4096 * prio), a.2)

/-- A read of DRV_BEN: the energies of the last completed 100 ms, which no command reports; once 100 ms can have been completed they are a
free value (log entry 63). -/
def State.readBen (s : State) : Word × State :=
  if s.passed s.clk.thawAt (100 * msTicks) then s.takeFree else (s.word Reg.DRV_BEN, s)

/-- A read of FLO_PORTp_ERR: no command reports the code-group errors, so that from IDLE on CODE is a free value (log entry 63). -/
def State.readPortErr (s : State) (p : Nat) : Word × State :=
  if s.get Fld.SYS_STATE_STATE < 4 then (s.word (Reg.FLO_PORT_ERR p), s)
  else (withField (Fld.FLO_PORT_ERR_CODE p) (s.word (Reg.FLO_PORT_ERR p)) (s.takeFree.1.toNat % 65536), s.takeFree.2)

/-- The stored word as a read shows it: WO bits read 0, live fields take their value. -/
def State.shown (s : State) (a : Nat) : Word :=
  let w := s.word a &&& ~~~ (match regRow a with | some r => BitVec.ofNat 32 r.wo | none => 0)
  if a = Reg.SYS_STAT then liveB Fld.SYS_STAT_READY_LINE s.readyLine (liveB Fld.SYS_STAT_FAULT_LINE s.faultLine w)
  else if a = Reg.TRK_VSEL then liveB Fld.TRK_VSEL_SLEWING (s.voter.slew != 0) w
  else if a = Reg.TRK_OUT then
    live Fld.TRK_OUT_ANGLE s.out (liveB Fld.TRK_OUT_SHOT_OK s.outOk (liveB Fld.TRK_OUT_REVERSE s.outReverse w))
  else if a = Reg.SCH_FPQ then live Fld.SCH_FPQ_LEVEL s.hst.fpq.length w
  else if a = Reg.DRV_STAT then liveB Fld.DRV_STAT_STBY_ALL ((List.range 48).all s.heldBlocked) w
  else if a = Reg.WIT_STAT then liveB Fld.WIT_STAT_SNAP_READY s.wit.snap.isSome w
  else if a = Reg.FLO_PAIRSTAT then liveB Fld.FLO_PAIRSTAT_TAKE_READY s.takeReady w
  else if a = Reg.PKT_JOBS then live Fld.PKT_JOBS_ACTIVE s.hst.jobs.length w
  else if a = Reg.HST_SPI_STAT then
    live Fld.HST_SPI_STAT_OUTQ (s.hst.port 0).outq.length (liveB Fld.HST_SPI_STAT_OUT_PEND (decide ((s.hst.port 0).outq ≠ [])) w)
  else if a = Reg.HST_GPIO_IN then BitVec.ofNat 32 s.pinLevels
  else if a = Reg.TIM_RUN then BitVec.ofNat 32 (bitsWhere 16 (fun n => s.flag (Fld.TIM_CH_CFG_EN n)))
  else if a = Reg.TRK_POS 0 ∨ a = Reg.TRK_POS 1 then s.posWord (if a = Reg.TRK_POS 0 then 0 else 1) w
  else if a = Reg.DMA_SUM then
    BitVec.ofNat 32 (bitsWhere 16 (fun n => s.flag (Fld.DMA_CH_CTRL_EN n)) + 65536 * bitsWhere 16 (fun n => s.word (Reg.DMA_CH_ERR n) != 0))
  else if 0x40060000 ≤ a ∧ a < 0x40068000 then
    let e := (a - 0x40060000) / 0x4000
    if a = Reg.PAT_SUM e then
      BitVec.ofNat 32 (bitsWhere 16 (fun c => s.flag (Fld.PAT_CTX_CTRL_EN e c)) + 65536 * bitsWhere 16 (s.patHalted e))
    else if a = Reg.PAT_TRIG e then BitVec.ofNat 32 (bitsWhere 16 (fun c => (s.patCtx e c).trig))
    else match regIndex (Reg.PAT_CTX_STAT e) 16 a with
      | some c => s.ctxWord e c w
      | none => w
  else match regIndex Reg.TRK_STAT 2 a, regIndex Reg.ADC_STAT 4 a, regIndex Reg.DRV_BANKSTAT 8 a, regIndex Reg.DRV_CH_STAT 48 a,
      regIndex Reg.DRV_CH_TEMP 48 a, regIndex Reg.IRQ_HCFG 2 a with
    | some x, _, _, _, _, _ => liveB (Fld.TRK_STAT_SHOT_OK x) (s.shotOk x) w
    | _, some c, _, _, _, _ => live (Fld.ADC_STAT_LEVEL c) (s.adcFifo c).length w
    | _, _, some k, _, _, _ => s.bankWord k w
    | _, _, _, some n, _, _ => s.chanWord n w
    | _, _, _, _, some n, _ => BitVec.ofNat 32 (tempCode (s.chan n).tw + 65536 * tempCode (s.chan n).tb)
    | _, _, _, _, _, some h => liveB (Fld.IRQ_HCFG_ASSERTED h) (s.hostIntActive h) w
    | _, _, _, _, _, _ => w

/-- A read of the register at `a`: the answer and the state after it. -/
def State.readReg (s : State) (a : Nat) : Word × State :=
  if a = Reg.PWR_CALVCNT then s.readPeak
  else if a = Reg.WIT_MORL then s.readMorl
  else if a = Reg.FLO_DTL then s.readDt
  else if a = Reg.DRV_BEN then s.readBen
  else if (regIndex Reg.FLO_PORT_ERR 4 a).isSome then s.readPortErr ((regIndex Reg.FLO_PORT_ERR 4 a).getD 0)
  else if 0x40060000 ≤ a ∧ a < 0x40068000 then
    let e := (a - 0x40060000) / 0x4000
    match regIndex (Reg.PAT_CTX_RX e) 16 a with
    | some c => s.patRxRead e c
    | none => (s.shown a, s)
  else match regIndex Reg.IRQ_ACK 2 a, regIndex Reg.IRQ_HACK 2 a, regIndex Reg.TIM_CH_CNT 16 a, regIndex Reg.TIM_CH_CAP 16 a,
      regIndex Reg.TRK_ANGLE 2 a, regIndex Reg.TRK_TBLD 2 a, regIndex Reg.ADC_FIFO 4 a, regIndex Reg.WHL_TSL 4 a with
    | some t, _, _, _, _, _, _, _ => (BitVec.ofNat 32 (s.acknowledge t).1, (s.acknowledge t).2)
    | _, some h, _, _, _, _, _, _ => s.readHack h
    | _, _, some n, _, _, _, _, _ => s.timReadCnt n
    | _, _, _, some n, _, _, _, _ => s.timReadCap n
    | _, _, _, _, some x, _, _, _ => s.readAngle x
    | _, _, _, _, _, some x, _, _ => (BitVec.ofNat 32 (s.tblRead x), s.tblNext x)
    | _, _, _, _, _, _, some c, _ => s.readFifo c
    | _, _, _, _, _, _, _, some n => s.readStamp n
    | _, _, _, _, _, _, _, _ => (s.shown a, s)

end Sys2Proof.Machine
end

