-- ==== Sys2Proof/Machine/RegWrite.lean ====
section
/-! DEFINITION. What a write to a register does: by its access type (R4, R5), and where a register has an effect of its own. The
checks of a write stand in Check.lean. -/

namespace Sys2Proof.Machine

/-- Whether the RWH fields of the register at `a` take a write: their timer channel, context, DMA channel or the simulator is
halted (R4). -/
def State.rwhOpen (s : State) (a : Nat) : Bool :=
  if 0x40050000 ≤ a ∧ a < 0x40060000 then !s.flag (Fld.TIM_CH_CFG_EN ((a - 0x40050100) / 0x40))
  else if 0x40060000 ≤ a ∧ a < 0x40068000 then
    s.patHalted ((a - 0x40060000) / 0x4000) (((a - 0x40060000) % 0x4000 - 0x100) / 0x40)
  else if 0x40040000 ≤ a ∧ a < 0x40050000 then !s.flag (Fld.DMA_CH_CTRL_EN ((a - 0x40040100) / 0x40))
  else if a = Reg.WHL_SIM_ANG then !s.flag Fld.WHL_SIM_CTRL_RUN
  else true

/-- The word with the RW fields, and the RWH fields of a halted unit, replaced. -/
def State.putRw (s : State) (a : Nat) (v : Word) : State :=
  match regRow a with
  | none => s
  | some r =>
    let m := BitVec.ofNat 32 (r.rw ||| (if s.rwhOpen a then r.rwh else 0))
    s.setWord a ((s.word a &&& ~~~ m) ||| (v &&& m))

/-- A write by access type alone: RW, RWH, W1C under R5, W1S; WO and RC fields store nothing (R4). -/
def State.plainWrite (s : State) (a : Nat) (v : Word) : State :=
  match regRow a with
  | none => s
  | some r =>
    let s1 := (s.putRw a v).clearBits a (v &&& BitVec.ofNat 32 r.w1c)
    s1.setWord a (s1.word a ||| (v &&& BitVec.ofNat 32 r.w1s))

-- ── SYS, PWR, CLK ─────────────────────────────────────────────────────────────────────────────────────────────────

/-- Whether the condition behind a SYS_FAULT bit holds (R444); events have none. -/
def State.faultHolds (s : State) (k : Nat) : Bool :=
  if k = 1 then !s.sys.verified
  else if k = 2 then s.sys.calibBad
  else if k = 3 then s.clk.tpllLost
  else if k = 4 then s.pwr.vbatOver
  else if k = 5 then s.trkState 0 == 6 && s.trkState 1 == 6
  else if k = 6 then (List.range 48).any (fun n => s.chFault n || s.flag (Fld.DRV_CH_STAT_THERM_STOP n)) ||
    (List.range 8).any s.bankFault || s.flag Fld.DRV_STAT_BOOST_FAIL || s.flag (Fld.DRV_DIE_STOP 0) || s.flag (Fld.DRV_DIE_STOP 1)
  else if k = 8 then s.flag Fld.FLO_PAIRSTAT_HB_LOST || s.flag Fld.FLO_PAIRSTAT_ARB_FAULT ||
    !s.flag Fld.FLO_PAIRSTAT_CFG_MATCH
  else false

/-- A W1C write to SYS_FAULT: bits whose condition has ended clear (R444, R5). -/
def State.clearFaults (s : State) (v : Word) : State :=
  s.clearBits Reg.SYS_FAULT (v &&& BitVec.ofNat 32 (bitsWhere 11 (fun k => !s.faultHolds k)))

/-- A register takes its copy back, when the store holds one. -/
def State.loadReg (s : State) (a : Nat) : State :=
  if s.sec.savedKeys.contains a then s.setWord a (spGet (fun _ => 0) s.sec.saved a) else s

/-- Enabled level wake sources that are asserted: KEY, START, WAKE (R323). -/
def State.levelWakes (s : State) : Nat :=
  ((if s.flag Fld.SYS_STAT_KEY then 1 else 0) + (if s.flag Fld.SYS_STAT_START then 2 else 0) +
   (if s.flag Fld.SYS_STAT_WAKE then 4 else 0)) &&& s.get Fld.PWR_WAKEEN_EN

/-- The firmware's part of the entry to Frost (R319): the stop angle and the coil temperatures are saved, the outputs go to
standby, the boost converter stops, Floe ports without WAKE_EN are disabled. -/
def State.frostPrepare (s : State) : State :=
  let s1 := ((((s.saveReg Reg.TRK_STOPA).saveCoils).writeStby true).setFlag Fld.DRV_CTRL_BOOST_EN false).set Fld.DRV_STAT_CHARGING 0
  (List.range 4).foldl (fun s p => if s.flag (Fld.FLO_PORT_CTRL_WAKE_EN p) then s
    else (s.setFlag (Fld.FLO_PORT_CTRL_EN p) false).portDown p) s1

/-- The commit tick (R319, R320): a pending wake source aborts the entry, else Frost begins. -/
def State.sleepCommit (s : State) : State :=
  if !s.pwr.sleepReq || s.st != 4 then s
  else
    let s1 := s.withPwr { s.pwr with sleepReq := false }
    if (s.pwr.wakeSeen &&& s.get Fld.PWR_WAKEEN_EN) != 0 || s.levelWakes != 0 then
      (s1.raiseFlag Fld.SYS_STAT_SLEEP_ABORT).irq 4
    else (s1.saveStop (s1.trkState s1.sel)).enterFrost

/-- START of the frequency-measuring counter (R354). -/
def State.fmcStart (s : State) : State :=
  if !s.flag Fld.CLK_GATE1_FMC then s
  else (s.withClk { s.clk with fmcOpen := true, fmcFirst := true }).set Fld.CLK_FMC_CTRL_NOCLK 0

def State.writeSYS (s : State) (a : Nat) (v : Word) : State :=
  if a = Reg.SYS_FAULT then s.clearFaults v
  else if a = Reg.SYS_FAULTCFG then s.plainWrite a (v ||| 0x00030003)
  else s.plainWrite a v

def State.writeCLK (s : State) (a : Nat) (v : Word) : State :=
  if a = Reg.CLK_OPREQ then (s.plainWrite a v).dvfsKick
  else if a = Reg.CLK_GATE0 then (s.putGate 0 v.toNat).sweepPorts
  else if a = Reg.CLK_GATE1 then (s.putGate 1 v.toNat).sweepPorts
  else if a = Reg.CLK_FMC_CTRL then
    let s1 := s.plainWrite a v
    if fieldOf Fld.CLK_FMC_CTRL_START v = 1 then s1.fmcStart else s1
  else s.plainWrite a v

def State.writePWR (s : State) (a : Nat) (v : Word) : State :=
  if a = Reg.PWR_SLEEP then (if fieldOf Fld.PWR_SLEEP_COMMIT v = 1 then s.sleepCommit else s)
  else s.plainWrite a v

-- ── IRQ ───────────────────────────────────────────────────────────────────────────────────────────────────────────

/-- A write to IRQ_SRCn or IRQ_HSRCn: a source that leaves its group delivers its held event (R363); a pending source that becomes
enabled may be latched (R359). -/
def State.writeSrc (s : State) (host : Bool) (n a : Nat) (v : Word) : State :=
  let g := s.get (srcCgrp host n)
  let s1 := s.plainWrite a v
  let s2 := if g != 0 && s1.get (srcCgrp host n) != g then s1.leaveGroup host n (g - 1) else s1
  s2.relatchAll

def State.writeIRQ (s : State) (a : Nat) (v : Word) : State :=
  if 0x40030100 ≤ a ∧ a < 0x40030200 ∧ regRow a ≠ none then
    (match regIndex Reg.IRQ_PEND 8 a, regIndex Reg.IRQ_HPEND 8 a with
     | none, none => s.plainWrite a v
     | _, _ => (s.plainWrite a v).refreshLevels)
  else match regIndex Reg.IRQ_GRP 16 a, regIndex Reg.IRQ_EOI 2 a, regIndex Reg.IRQ_SRC 256 a, regIndex Reg.IRQ_HSRC 256 a with
    | some g, _, _, _ => (s.deliverGroup g).plainWrite a v
    | _, some t, _, _ => if fieldOf (Fld.IRQ_EOI_EOI t) v = 1 then s.endOfInterrupt t else s
    | _, _, some n, _ => s.writeSrc false n a v
    | _, _, _, some n => s.writeSrc true n a v
    | _, _, _, _ => (s.plainWrite a v).relatchAll

-- ── DMA (R365–R374) ───────────────────────────────────────────────────────────────────────────────────────────────

def State.dmaWidth (s : State) (n : Nat) : Nat := 2 ^ s.get (Fld.DMA_CH_CTRL_WIDTH n)

/-- A channel stops with an error (R367, R372, R373). -/
def State.dmaError (s : State) (n : Nat) (f : FReg) (addr : Nat) : State :=
  (((s.dmaIdle n).raiseFlag f).setWord (Reg.DMA_CH_ERRADDR n) (BitVec.ofNat 32 addr)).irq (176 + n)

/-- The check of R367 on an active set: the offending address or count. -/
def State.dmaMisfit (s : State) (n : Nat) : Option Nat :=
  let w := s.dmaWidth n
  let src := (s.word (Reg.DMA_CH_SRC n)).toNat
  let dst := (s.word (Reg.DMA_CH_DST n)).toNat
  let cnt := s.get (Fld.DMA_CH_CNT_CNT n)
  let bad (a : Nat) : Bool := a % w != 0 || (inRange 0x40000000 0x4FFFFFFF a && w != 4)
  if bad src then some src else if bad dst then some dst else if cnt = 0 || cnt % w != 0 then some cnt else none

/-- The active set is checked and the channel goes on, or stops with ALIGN (R367). A channel without a trigger runs at once
(R365). -/
def State.dmaGo (s : State) (n : Nat) : State :=
  match s.dmaMisfit n with
  | some x => s.dmaError n (Fld.DMA_CH_ERR_ALIGN n) x
  | none => if s.get (Fld.DMA_CH_CTRL_TRIG n) = 0 then s.set (Fld.DMA_CH_STAT_BUSY n) 1 else s

/-- EN rises (R365, R367, R372): ignored while an ERR bit is set (R373). -/
def State.dmaStart (s : State) (n : Nat) : State :=
  if s.flag (Fld.DMA_CH_CTRL_EN n) || s.word (Reg.DMA_CH_ERR n) != 0 then s
  else ((s.setFlag (Fld.DMA_CH_CTRL_EN n) true).set (Fld.DMA_CH_HOPS_COUNT n) 0).dmaGo n

/-- A write to DMA_CHn_CTRL: fields other than EN take it only while EN = 0. -/
def State.dmaCtrl (s : State) (n : Nat) (v : Word) : State :=
  let on := fieldOf (Fld.DMA_CH_CTRL_EN n) v == 1
  let s1 := if s.flag (Fld.DMA_CH_CTRL_EN n) then s
            else s.putRw (Reg.DMA_CH_CTRL n) (withField (Fld.DMA_CH_CTRL_EN n) v 0)
  if on then s1.dmaStart n else s1.dmaDrop n

/-- A shadow field of a channel, by its place: SRC, DST, CNT, LINK. -/
def shadowReg (n w : Nat) : Nat :=
  if w = 0 then Reg.DMA_CH_SH_SRC n else if w = 1 then Reg.DMA_CH_SH_DST n
  else if w = 2 then Reg.DMA_CH_SH_CNT n else Reg.DMA_CH_SH_LINK n

/-- A write to a shadow field (R369). -/
def State.dmaShadow (s : State) (n w : Nat) (v : Word) : State :=
  if s.flag (Fld.DMA_CH_SHV_SH_VALID n) then s.raiseFlag (Fld.DMA_CH_STAT_SHADOW_DROP n)
  else s.putRw (shadowReg n w) v

def State.writeDMA (s : State) (a : Nat) (v : Word) : State :=
  if a < 0x40040100 then s.plainWrite a v
  else
    let n := (a - 0x40040100) / 0x40
    if a = Reg.DMA_CH_CTRL n then s.dmaCtrl n v
    else match (List.range 4).find? (fun w => shadowReg n w == a) with
      | some w => s.dmaShadow n w v
      | none => s.plainWrite a v

-- ── Timers and pattern engines ────────────────────────────────────────────────────────────────────────────────────

/-- A write to TIM_CHn_CFG: EN by R375; a channel that becomes or leaves half of a pair keeps its counter. -/
def State.writeTimCfg (s : State) (n : Nat) (v : Word) : State :=
  let on := fieldOf (Fld.TIM_CH_CFG_EN n) v == 1
  let was := s.flag (Fld.TIM_CH_CFG_EN n)
  let s1 := s.plainWrite (Reg.TIM_CH_CFG n) (withField (Fld.TIM_CH_CFG_EN n) v (if was then 1 else 0))
  s1.timSetEn n on

def State.writeTIM (s : State) (a : Nat) (v : Word) : State :=
  if a = Reg.TIM_GSTART then s.timGroupStart v
  else if a = Reg.TIM_GSTOP then s.timGroupStop v
  else if a < 0x40050100 then s.plainWrite a v
  else
    let n := (a - 0x40050100) / 0x40
    if a = Reg.TIM_CH_CFG n then s.writeTimCfg n v
    else if a = Reg.TIM_CH_CNT n then s.timWriteCnt n v
    else if a = Reg.TIM_CH_PER n then s.timWritePer n v
    else if a = Reg.TIM_CH_CMP n then s.timWriteCmp n v
    else if a = Reg.TIM_CH_PHASE n then s.timWritePhase n v
    else s.plainWrite a v

/-- A write to PAT_CTXc_CTRL (R392, R393): FLUSH and RESTART act, then EN takes its value. -/
def State.writeCtx (s : State) (e c : Nat) (v : Word) : State :=
  let s1 := if fieldOf (Fld.PAT_CTX_CTRL_FLUSH e c) v = 1 then s.patFlush e c else s
  let s2 := if fieldOf (Fld.PAT_CTX_CTRL_RESTART e c) v = 1 then s1.patRestart e c else s1
  s2.patEn e c (fieldOf (Fld.PAT_CTX_CTRL_EN e c) v == 1)

/-- Triggers for the contexts of a mask (R390). -/
def State.patTriggers (s : State) (e mask : Nat) : State :=
  (List.range 16).foldl (fun s c => if mask.testBit c then s.patTrigger e c else s) s

def State.writePAT (s : State) (a : Nat) (v : Word) : State :=
  let e := (a - 0x40060000) / 0x4000
  if a = Reg.PAT_TRIG e then s.patTriggers e (fieldOf (Fld.PAT_TRIG_TRIG e) v)
  else match regIndex (Reg.PAT_CTX_CTRL e) 16 a, regIndex (Reg.PAT_CTX_TX e) 16 a with
    | some c, _ => s.writeCtx e c v
    | _, some c => s.patTxWrite e c v
    | _, _ => s.plainWrite a v

-- ── Wheel inputs, trackers, scheduler ─────────────────────────────────────────────────────────────────────────────

def State.writeWHL (s : State) (a : Nat) (v : Word) : State :=
  if a = Reg.WHL_SIM_CTRL then s.simCtrl v
  else if a = Reg.WHL_SIM_FLT then (s.simFlt v).plainWrite a v
  else if a = Reg.WHL_SIM_ANG then (s.plainWrite a v).simAngleWritten
  else match regIndex Reg.WHL_CFG 4 a, regIndex Reg.WHL_STAT 4 a with
    | some n, _ =>
      let s1 := s.plainWrite a v
      let s2 := if s1.get (Fld.WHL_CFG_DIR_MODE n) = s.get (Fld.WHL_CFG_DIR_MODE n) then s1
        else s1.setWhl n { s1.whl n with measuring := false }
      (if s2.frontEnd n = s.frontEnd n then s2 else s2.restartInput n).levelFromPin n
    | _, some n => s.plainWrite a (v &&& ~~~ (BitVec.ofNat 32 (s.whl n).causes))
    | _, _ => s.plainWrite a v

/-- A tracker that follows the domain reports LOST while DOM_LOCK is 0 (R234). -/
def State.loseFollower (s : State) (x : Nat) : State :=
  if s.get (Fld.TRK_CTRL_SRC x) = 1 && !s.flag Fld.FLO_STAT_DOM_LOCK && s.trkState x != 6 then
    ((s.setTrk x { s.trk x with cellOk := false }).setTrkState x 6).afterTracker s x false false true
  else s

/-- RESYNC (TRK_x_CTRL; R61): the tracker enters SEEK; ignored while STOPPED. -/
def State.resyncTracker (s : State) (x : Nat) : State :=
  if s.trkState x = 0 then s
  else
    let s1 := ((if s.trkState x = 2 then s else s.setTrkState x 2).restartSearch x).setBefore x none
    s1.afterTracker s x false true false

/-- Buckets lose their training: the bit clears and the count restarts (R81). -/
def State.untrain (s : State) (x : Nat) (mask : Nat) : State :=
  let s1 := s.clearBits (Reg.TRK_LOAD x) (BitVec.ofNat 32 (mask % 256 * 65536))
  s1.setTrk x { s1.trk x with
    trainCnt := (List.range 8).foldl (fun l b => if mask.testBit b then spPut (fun _ => 0) l b 0 else l) (s1.trk x).trainCnt }

/-- A write through TRK_x_TBLD (R83): dropped with TBL_DROP while the table learns. -/
def State.tblWrite (s : State) (x v : Nat) : State :=
  let i := s.get (Fld.TRK_TBLA_INDEX x)
  let prof := !s.flag (Fld.TRK_TBLA_TABLE x)
  let learns := if prof then s.flag (Fld.TRK_LEARN_PROF_LEARN x) else s.flag (Fld.TRK_LEARN_MODEL_LEARN x)
  let s1 := if learns then s.raiseFlag (Fld.TRK_STAT_TBL_DROP x)
    else if prof then s.setTrk x { s.trk x with profile := spPut (fun _ => 0) (s.trk x).profile i (v % 65536) }
    else s.setTrk x { s.trk x with kTab := spPut (fun _ => 0x4000) (s.trk x).kTab (1024 * s.get (Fld.TRK_TBLA_BUCKET x) + i) (v % 65536) }
  s1.tblNext x

/-- A write to TRK_VSEL may change the selection (R93). -/
def State.writeTRK (s : State) (a : Nat) (v : Word) : State :=
  match regIndex Reg.TRK_CTRL 2 a, regIndex Reg.TRK_LOAD 2 a, regIndex Reg.TRK_TBLD 2 a with
  | some x, _, _ =>
    let s1 := s.plainWrite a v
    let s2 := if s1.get (Fld.TRK_CTRL_SRC x) = 1 && s.get (Fld.TRK_CTRL_SRC x) != 1 then s1.loseFollower x else s1
    let s3 := s2.stopDisabled
    if fieldOf (Fld.TRK_CTRL_RESYNC x) v = 1 then s3.resyncTracker x else s3
  | _, some x, _ => (s.putRw a v).untrain x (fieldOf (Fld.TRK_LOAD_TRAINED x) v)
  | _, _, some x => s.tblWrite x (fieldOf (Fld.TRK_TBLD_DATA x) v)
  | _, _, _ => if a = Reg.TRK_VSEL then (s.plainWrite a v).afterTracker s s.sel false false false else s.plainWrite a v

/-- SCH_REFRESH (R135): the count of cycles clears, commits go on as usual. -/
def State.refresh (s : State) : State :=
  (s.set Fld.SCH_STAT_AUTO_CNT 0).withSch { s.sch with refreshed := true }

/-- A write to SCH_CTRL may make SHOT_OK rise or fall (R62, R113, R118); one to a shadow slot is mirrored (R243). -/
def State.writeSCH (s : State) (a : Nat) (v : Word) : State :=
  if a = Reg.SCH_TXN then s.openTxns (v.toNat % 16777216)
  else if a = Reg.SCH_TXN_CLOSE then s.closeTxns (v.toNat % 16777216)
  else if a = Reg.SCH_TXN_ABORT then s.abortTxns (v.toNat % 16777216)
  else if a = Reg.SCH_REFRESH then (if fieldOf Fld.SCH_REFRESH_REFRESH v = 1 then s.refresh else s)
  else if a = Reg.SCH_CTRL then (s.plainWrite a v).afterTracker s s.sel false false false
  else if Reg.SCH_SHADOW 0 0 ≤ a ∧ a ≤ Reg.SCH_SHADOW 2047 3 then (s.plainWrite a v).mirrorSlot ((a - Reg.SCH_SHADOW 0 0) / 16)
  else s.plainWrite a v

-- ── Output stage, profiles, witness ───────────────────────────────────────────────────────────────────────────────

/-- A write to DRV_CTRL (R157, R158, R161, R173): in BENCH STBY stays 1 (R395); on a pair member it is the pair logic's (R236). QUENCH first, then the other fields. A fall of EN, and a rise of STBY, put the
channels in standby; with PAIR_MODE a member may take its role (R236); a rise of BOOST_EN starts the converter's ramp, its fall ends charging. -/
def State.writeDrvCtrl (s : State) (v : Word) : State :=
  let s0 := if fieldOf Fld.DRV_CTRL_QUENCH v = 1 then s.quench else s
  let s1 := s0.putRw Reg.DRV_CTRL (if s.st = 9 then v ||| 4 else if s.paired then withField Fld.DRV_CTRL_STBY v (s0.get Fld.DRV_CTRL_STBY) else v)
  let s2 := if s0.flag Fld.DRV_CTRL_EN && !s1.flag Fld.DRV_CTRL_EN then (List.range 48).foldl (fun s n => s.standbyEntry n) s1 else s1
  let s4 := s2.standbyAll s0
  let s3 := if !s0.flag Fld.DRV_CTRL_PAIR_MODE && s4.mayForm then s4.formPair else s4
  if !s0.flag Fld.DRV_CTRL_BOOST_EN && s3.flag Fld.DRV_CTRL_BOOST_EN then s3.withDrv { s3.drv with boostAt := s3.now }
  else if s0.flag Fld.DRV_CTRL_BOOST_EN && !s3.flag Fld.DRV_CTRL_BOOST_EN then s3.set Fld.DRV_STAT_CHARGING 0
  else s3

/-- A write to DRV_AMB (R168). -/
def State.writeAmb (s : State) (v : Word) : State :=
  let s1 := (s.putRw Reg.DRV_AMB v).set Fld.DRV_AMB_STALE 0
  s1.withDrv { s1.drv with ambAt := s1.now }

/-- A write to DRV_CHn_CFG may put the channel into standby, and ends its waiting shots when it can no longer drive (R148, R158). -/
def State.writeDRV (s : State) (a : Nat) (v : Word) : State :=
  if a = Reg.DRV_CTRL then s.writeDrvCtrl v
  else if a = Reg.DRV_AMB then s.writeAmb v
  else match regIndex Reg.DRV_CH_CFG 48 a with
    | some n =>
      let s1 := (s.plainWrite a v).standbyChange (s.inStandby n) n
      if s1.canDrive n then s1 else s1.refuseWaiting (fun w => w.ch == n)
    | none => s.plainWrite a v

/-- The shadow copy of profile `p`. -/
def State.shadowProfile (s : State) (p : Nat) : Profile :=
  { cfg := s.word (Reg.PRF_CFG p), reg := s.word (Reg.PRF_REG p), boost := s.word (Reg.PRF_BOOST p)
    peak := s.word (Reg.PRF_PEAK p), drop := s.word (Reg.PRF_DROP p), hold := s.word (Reg.PRF_HOLD p)
    fin := s.word (Reg.PRF_END p), batt := s.word (Reg.PRF_BATT p) }

/-- The active copy takes a profile's words. -/
def State.putActive (s : State) (p : Nat) (f : Profile) : State :=
  (((((((s.setWord (Reg.PRF_ACT_CFG p) f.cfg).setWord (Reg.PRF_ACT_REG p) f.reg).setWord (Reg.PRF_ACT_BOOST p) f.boost).setWord
    (Reg.PRF_ACT_PEAK p) f.peak).setWord (Reg.PRF_ACT_DROP p) f.drop).setWord (Reg.PRF_ACT_HOLD p) f.hold).setWord
    (Reg.PRF_ACT_END p) f.fin).setWord (Reg.PRF_ACT_BATT p) f.batt

/-- Apply of one profile (R193, R194). -/
def State.applyProfile (s : State) (p : Nat) : State :=
  if (s.shadowProfile p).ok then
    (s.putActive p (s.shadowProfile p)).withDrv { s.drv with applied := spPut (fun _ => none) s.drv.applied p (some (s.now, s.startProfile p)) }
  else s.raiseBit Fld.PRF_STAT_APPLY_REF p

def State.writePRF (s : State) (a : Nat) (v : Word) : State :=
  if a = Reg.PRF_APPLY then (List.range 16).foldl (fun s p => if v.toNat.testBit p then s.applyProfile p else s) s
  else s.plainWrite a v

/-- A write to WIT_CHn_CORR sets D, and wins over an update of the same tick: the word stands in `fresh` (R204); the cope mirrors it
(R243). -/
def State.writeCorr (s : State) (n : Nat) (v : Word) : State :=
  let s1 := (s.putRw (Reg.WIT_CH_CORR n) v).mirrorCorr n
  { s1 with fresh := (Reg.WIT_CH_CORR n, 0xFFFF) :: s1.fresh }

/-- A write to WIT_WAVE (R211): an arm is dropped while a capture is in progress. -/
def State.writeWave (s : State) (v : Word) : State :=
  if s.wit.capturing.isSome && s.wit.waveCut.isNone then s.clearBits Reg.WIT_WAVE (v &&& 0x80000000) else s.plainWrite Reg.WIT_WAVE v

/-- The outcome that a record carries (R197). -/
def recordOutcome (b : List Byte) : Nat := leAt b 2 2 / 512 % 16

/-- A write to WIT_STREAM (R208): a record awaits streaming only while EN = 1 and its outcome bit is set. -/
def State.writeStream (s : State) (v : Word) : State :=
  let s1 := s.plainWrite Reg.WIT_STREAM v
  s1.setUnsent (s1.wit.unsent.filter (fun q => s1.flag Fld.WIT_STREAM_EN &&
    s1.wit.ring.any (fun e => e.1 == q && s1.bit Fld.WIT_STREAM_OMASK (recordOutcome e.2))))

def State.writeWIT (s : State) (a : Nat) (v : Word) : State :=
  if a = Reg.WIT_WAVE then s.writeWave v
  else if a = Reg.WIT_STREAM then s.writeStream v
  else match regIndex Reg.WIT_CH_CORR 48 a, regIndex Reg.WIT_CH_STAT 48 a with
    | some n, _ => s.writeCorr n v
    | _, some n => if (s.chan n).motionSeen then s.plainWrite a v else s
    | _, _ => s.plainWrite a v

-- ── Floe (R219, R236, R259–R262) ──────────────────────────────────────────────────────────────────────────────────

/-- The voter slot of highest epoch among those heard that report authority (R261, R262): its number and its epoch. -/
def State.highestEpoch (s : State) : Option (Nat × Nat) :=
  ((List.range 16).filter (fun k => s.voterHeard k && s.flo.voteAuth.testBit k)).foldl (fun b k =>
    let e := spGet (fun _ => 0) s.flo.voteEpoch k
    match b with
    | some (j, d) => if d < e then some (k, e) else some (j, d)
    | none => some (k, e)) none

/-- A ROUTE cell: the manual gives it no layout, so what it carries is free (log entry 27). -/
def State.routeCellTo (s : State) (node : Nat) : State := s.takeFree.2.emitCell 6 node false false (leBytes 4 s.takeFree.1.toNat)

/-- The node asks the voter of the highest epoch above its own for the settings (R262). -/
def State.askSettings (s : State) : State :=
  match s.highestEpoch with
  | some (k, e) => if s.get Fld.FLO_EPOCH_EPOCH < e then s.routeCellTo (s.voterId k) else s
  | none => s

/-- Authority by the voters reached (R260); a change of MINORITY raises source 239; when it clears, the settings of the highest epoch are asked
for, and ADOPT_PEND sets until the next forward wrap, or at once while the selected tracker is STOPPED (R262). The voters of the list are its
first NVOTER slots. -/
def State.judgeAuthority (s : State) : State :=
  let n := s.get Fld.FLO_SYS_NVOTER
  let own (k : Nat) : Bool := s.flag Fld.FLO_SYS_VOTER && s.get Fld.FLO_SYS_VSLOT == k && k < n
  let slots := (List.range 16).filter (fun k => own k || s.voterHeard k)
  let ids := (List.range n).map s.voterId
  let lowest := ids.foldl Nat.min 4095
  let r := slots.length
  let auth := decide (n < 2 * r) || (2 * r == n && slots.any (fun k => s.voterId k == lowest))
  let s1 := ((s.set Fld.FLO_REACH_REACH (slots.foldl (fun m k => m + 2 ^ k) 0)).set Fld.FLO_SYSSTAT_REACH_N r).setFlag Fld.FLO_SYSSTAT_AUTHORITY
    auth
  if auth = !s.flag Fld.FLO_SYSSTAT_MINORITY then s1
  else
    let s2 := (s1.setFlag Fld.FLO_SYSSTAT_MINORITY (!auth)).irq 239
    if !auth then s2
    else
      let s3 := s2.askSettings
      if s3.stopped then s3.adoptNow else s3.setFlag Fld.FLO_SYSSTAT_ADOPT_PEND true

/-- A port's window empties when the port is enabled (R268). -/
def State.portEnables (s old : State) (p : Nat) (en : FReg) : State :=
  if !old.flag en && s.flag en then s.setPort p { s.hst.port p with window := [] } else s

/-- A write to the Floe block: ports, pair settings and authority follow it. -/
def State.writeFLO (s : State) (a : Nat) (v : Word) : State :=
  ((((s.plainWrite a v).sweepPorts).pairChanged s).judgeAuthority).portEnables s 4 Fld.FLO_CTRL_EN

-- ── Host ports ────────────────────────────────────────────────────────────────────────────────────────────────────

def State.writeHST (s : State) (a : Nat) (v : Word) : State :=
  let s1 := s.plainWrite a v
  if a = Reg.HST_SPI_CFG then s1.portEnables s 0 Fld.HST_SPI_CFG_EN
  else if a = Reg.HST_CAN_CFG 0 then s1.portEnables s 1 (Fld.HST_CAN_CFG_EN 0)
  else if a = Reg.HST_CAN_CFG 1 then s1.portEnables s 2 (Fld.HST_CAN_CFG_EN 1)
  else if a = Reg.HST_T1S_CFG then s1.portEnables s 3 Fld.HST_T1S_CFG_EN
  else s1

-- ── All blocks ────────────────────────────────────────────────────────────────────────────────────────────────────

/-- The effect of a write to the register at `a`. -/
def State.regEffect (s : State) (a : Nat) (v : Word) : State :=
  if a < 0x40010000 then s.writeSYS a v
  else if a < 0x40020000 then s.writeCLK a v
  else if a < 0x40030000 then s.writePWR a v
  else if a < 0x40040000 then s.writeIRQ a v
  else if a < 0x40050000 then s.writeDMA a v
  else if a < 0x40060000 then s.writeTIM a v
  else if a < 0x40080000 then s.writePAT a v
  else if a < 0x40090000 then s.writeWHL a v
  else if a < 0x400A0000 then s.writeTRK a v
  else if a < 0x400C0000 then s.writeSCH a v
  else if a < 0x400D0000 then s.writeDRV a v
  else if a < 0x400E0000 then s.writePRF a v
  else if a < 0x400F0000 then s.writeWIT a v
  else if 0x40100000 ≤ a ∧ a < 0x40110000 then s.writeFLO a v
  else if 0x40110000 ≤ a ∧ a < 0x40120000 then s.writeHST a v
  else s.plainWrite a v

/-- A change of EN, PREF_COPE or PARTNER of FLO_PAIR is accepted only in IDLE (FLO registers). -/
def State.pairForbids (s : State) (v : Word) : Bool := s.st != 4 && ((s.word Reg.FLO_PAIR ^^^ v) &&& 0xCFFF0000) != 0

/-- Whether a write is refused for the values or the state (R425's own refusals apart): its status. -/
def State.writeStatus (s : State) (a : Nat) (v : Word) (host : Bool) : Nat :=
  if a = Reg.CLK_GATE0 then s.gateRefused 0 v.toNat host
  else if a = Reg.CLK_GATE1 then s.gateRefused 1 v.toNat host
  else if a = Reg.FLO_PAIR && s.pairForbids v then stForbids
  else s.checkReg (s.putRw a v) a

end Sys2Proof.Machine
end

