-- ==== Sys2Proof/Machine/Bus.lean ====
section
/-! DEFINITION. The bus (R417–R427): regions and widths, block gates, bus errors, the reach of the masters, ownership. A read
answers through `bus`; a write leaves there whether it ended in a bus error or was refused. -/

namespace Sys2Proof.Machine

/-- The masters of R417. -/
inductive Master where
  | sup
  | com
  | dma (n : Nat)
  | host
  deriving DecidableEq, Repr

-- ── Regions (R417) ────────────────────────────────────────────────────────────────────────────────────────────────

def inBootRom (a : Nat) : Bool := a < 0x20000
def inSram (a : Nat) : Bool := inRange 0x20000000 0x203FFFFF a
def inHostArea (a : Nat) : Bool := inRange 0x20380000 0x203FFFFF a
def inRegs (a : Nat) : Bool := inRange 0x40000000 0x4013FFFF a
def inMram (a : Nat) : Bool := inRange 0x60000000 0x60FFFFFF a

-- ── Gates (R351, R423) ────────────────────────────────────────────────────────────────────────────────────────────

/-- The gates that must be open for an access to a register. -/
def gatesOf (a : Nat) : List FReg :=
  if a < 0x40040000 then []
  else if a < 0x40050000 then
    (if inRange 0x40040300 0x400404FF a then [Fld.CLK_GATE0_DMA, Fld.CLK_GATE1_DMA_HI] else [Fld.CLK_GATE0_DMA])
  else if a < 0x40060000 then [Fld.CLK_GATE0_TIM]
  else if a < 0x40064000 then [Fld.CLK_GATE0_PAT0]
  else if a < 0x40080000 then [Fld.CLK_GATE0_PAT1]
  else if a < 0x40090000 then [Fld.CLK_GATE0_WHL]
  else if a < 0x400A0000 then [Fld.CLK_GATE0_TRK]
  else if a < 0x400C0000 then [Fld.CLK_GATE0_SCH]
  else if a < 0x400D0000 then [Fld.CLK_GATE0_DRV]
  else if a < 0x400E0000 then [Fld.CLK_GATE0_PRF]
  else if a < 0x400F0000 then [Fld.CLK_GATE0_WIT]
  else if a < 0x40100000 then [Fld.CLK_GATE0_ADC]
  else if a < 0x40110000 then [Fld.CLK_GATE0_FLO]
  else if a < 0x40120000 then
    (if a = Reg.HST_SPI_CFG ∨ a = Reg.HST_SPI_STAT then [Fld.CLK_GATE0_HST_SPI]
     else if a = Reg.HST_CAN_CFG 0 ∨ a = Reg.HST_CAN_ID 0 ∨ a = Reg.HST_CAN_STAT 0 then [Fld.CLK_GATE0_HST_CAN0]
     else if a = Reg.HST_CAN_CFG 1 ∨ a = Reg.HST_CAN_ID 1 ∨ a = Reg.HST_CAN_STAT 1 then [Fld.CLK_GATE0_HST_CAN1]
     else if a = Reg.HST_T1S_CFG ∨ a = Reg.HST_T1S_MACL ∨ a = Reg.HST_T1S_MACH ∨ a = Reg.HST_T1S_STAT then [Fld.CLK_GATE0_HST_T1S]
     else [])
  else if a < 0x40130000 then [Fld.CLK_GATE0_SEC]
  else [Fld.CLK_GATE0_TST]

/-- Whether the register at `a` exists and its block's clock runs (R421, R423). -/
def State.regUp (s : State) (a : Nat) : Bool := regRow a != none && (gatesOf a).all s.flag

-- ── Ownership (R422, R425) ────────────────────────────────────────────────────────────────────────────────────────

/-- A host-owned register (R421, R422); the gate bits of R353 are checked by the gate write itself. -/
def hostOwned (a : Nat) : Bool :=
  inRange 0x40050000 0x40067FFF a || inRange 0x40040300 0x400404FF a || inRange 0x40110100 0x4011011B a ||
  (regIndex Reg.IRQ_HACK 2 a).isSome || (regIndex Reg.IRQ_HCFG 2 a).isSome || (regIndex Reg.IRQ_HPEND 8 a).isSome ||
  (regIndex Reg.IRQ_HSRC 256 a).isSome || (List.range 8).any (fun g => a == Reg.IRQ_GRP (8 + g))

/-- A register of SYS, PWR, CLK or SEC, where a host may clear W1C fields (R425). -/
def clearable (a : Nat) : Bool :=
  inRange 0x40000000 0x4002FFFF a || inRange 0x40120000 0x4012FFFF a

/-- Whether the device accepts a host's write of `v` at `a` (R425): 0 or STATE_FORBIDS. -/
def State.hostMay (s : State) (a : Nat) (v : Word) : Nat :=
  if a = Reg.CLK_GATE0 || a = Reg.CLK_GATE1 then s.gateRefused (if a = Reg.CLK_GATE0 then 0 else 1) v.toNat true
  else if s.st = 9 || inHostArea a || hostOwned a then stOk
  else if clearable a && (match regRow a with | some r => v &&& ~~~ (BitVec.ofNat 32 r.w1c) == 0 | none => false) then stOk
  else stForbids

-- ── Reach of the masters ──────────────────────────────────────────────────────────────────────────────────────────

/-- What a master reaches for reading (R368, R419, R424). -/
def mayRead (m : Master) (a : Nat) : Bool :=
  match m with
  | .sup => inBootRom a || inSram a || inRegs a || inMram a
  | .com => inBootRom a || inSram a || inRegs a || inMram a
  | .host => inRegs a || inHostArea a
  | .dma n =>
    if n < 8 then inBootRom a || inSram a || inRegs a || inMram a
    else inHostArea a || (inRegs a && (hostOwned a || (regIndex Reg.ADC_FIFO 4 a).isSome))

/-- What a master reaches for writing. -/
def mayWrite (m : Master) (a : Nat) : Bool :=
  match m with
  | .sup => inSram a || inRegs a
  | .com => inSram a || inRegs a || inMram a
  | .host => inRegs a || inHostArea a
  | .dma n => if n < 8 then inSram a || inRegs a else inHostArea a || (inRegs a && hostOwned a)

-- ── Accesses ──────────────────────────────────────────────────────────────────────────────────────────────────────

def State.answer (s : State) (data : Word) : State := { s with bus := { data := data } }
def State.busError (s : State) : State := { s with bus := { data := 0, err := true, status := stBusError } }

/-- A read of `w` bytes (1, 2 or 4) at `a` by a master (R417, R418, R423). -/
def State.busRead (s : State) (m : Master) (w a : Nat) : State :=
  if a % w != 0 || !mayRead m a then s.busError
  else if inRegs a then
    (if w = 4 && s.regUp a then (s.readReg a).2.answer (s.readReg a).1 else s.busError)
  else s.answer (BitVec.ofNat 32 (leNat (s.bytes a w)))

/-- A write of `w` bytes at `a` by a master. -/
def State.busWrite (s : State) (m : Master) (w a : Nat) (v : Word) : State :=
  if a % w != 0 || !mayWrite m a then s.busError
  else if inRegs a then
    (if w = 4 && s.regUp a then
       let host := m == .host
       let st := if host && s.hostMay a v != 0 then s.hostMay a v else s.writeStatus a v host
       if st = 0 then (s.regEffect a v).answer 0 else { s with bus := { status := st } }
     else s.busError)
  else (s.setBytes a (leBytes w v.toNat)).answer 0

/-- A range of 32-bit words that the host may name (R424). -/
def hostRange (a n : Nat) : Bool :=
  a % 4 == 0 && ((inRegs a && inRegs (a + 4 * n - 4)) || (inHostArea a && inHostArea (a + 4 * n - 4)))

/-- Reads of `n` words from `a` until one ends in a bus error: the words, and the state. -/
def State.hostReads (s : State) : Nat → Nat → List Word × State
  | 0, _ => ([], s)
  | n + 1, a =>
    let s1 := s.busRead .host 4 a
    if s1.bus.err then ([], s1)
    else
      let r := s1.hostReads n (a + 4)
      (s1.bus.data :: r.1, r.2)

/-- Writes of words from `a` until one does not succeed: how many were written, and the state. -/
def State.hostWrites (s : State) (m : Master) : Nat → List Word → Nat × State
  | _, [] => (0, s)
  | a, v :: l =>
    let s1 := s.busWrite m 4 a v
    if s1.bus.err || s1.bus.status != 0 then (0, s1)
    else
      let r := s1.hostWrites m (a + 4) l
      (r.1 + 1, r.2)

/-- The first refusal of R425 among the words of a request, before any is written. -/
def State.hostRefuses (s : State) : Nat → List Word → Nat
  | _, [] => 0
  | a, v :: l => if s.hostMay a v != 0 then s.hostMay a v else s.hostRefuses (a + 4) l

-- ── DMA elements (R365, R366, R373) ───────────────────────────────────────────────────────────────────────────────

/-- One element moves; `none`: a bus error stopped the channel. -/
def State.dmaElement (s : State) (n : Nat) : Bool × State :=
  let w := s.dmaWidth n
  let src := (s.word (Reg.DMA_CH_SRC n)).toNat
  let dst := (s.word (Reg.DMA_CH_DST n)).toNat
  let s1 := s.busRead (.dma n) w src
  if s1.bus.err then (false, s1.dmaError n (Fld.DMA_CH_ERR_BUS n) src)
  else
    let s2 := s1.busWrite (.dma n) w dst s1.bus.data
    if s2.bus.err then (false, s2.dmaError n (Fld.DMA_CH_ERR_BUS n) dst)
    else
      let step (on a : Nat) : Word := BitVec.ofNat 32 (if on = 1 then a + w else a)
      (true, ((s2.setWord (Reg.DMA_CH_SRC n) (step (s.get (Fld.DMA_CH_CTRL_SINC n)) src)).setWord (Reg.DMA_CH_DST n)
        (step (s.get (Fld.DMA_CH_CTRL_DINC n)) dst)).set (Fld.DMA_CH_CNT_CNT n) (s.get (Fld.DMA_CH_CNT_CNT n) - w))

/-- The elements that a trigger moves (R365): BURST, or the rest of the block. -/
def State.dmaBurst (s : State) (n : Nat) : Nat :=
  let rest := s.get (Fld.DMA_CH_CNT_CNT n) / s.dmaWidth n
  let b := s.get (Fld.DMA_CH_CTRL_BURST n)
  if s.get (Fld.DMA_CH_CTRL_TRIG n) = 0 || b = 0 then rest else Nat.min b rest

end Sys2Proof.Machine
end

