-- ==== Sys2Proof/Machine/RegRows.lean ====
section
/-! DEFINITION. Rows that are accesses to one register: each is a bus access of the firmware, or of the host where the row says so. -/

namespace Sys2Proof.Machine

/-- A 32-bit write by the firmware, and the transition it may cause. -/
def State.fwWrite (s : State) (a : Nat) (v : Word) : State := (s.busWrite .sup 4 a v).settle
/-- A 32-bit read by the firmware. -/
def State.fwRead (s : State) (a : Nat) : State := (s.busRead .sup 4 a).settle

/-- The stored RW bits of a register, for a write that changes one field only. -/
def State.rwWord (s : State) (a : Nat) : Word :=
  match regRow a with
  | some r => s.word a &&& BitVec.ofNat 32 (r.rw ||| r.rwh)
  | none => 0

/-- REGISTER_WRITE (R4, R425): a write by the host, or by the firmware. -/
def execRegisterWrite (host : Bool) (address : BitVec 32) (value : Word) (s : State) : Result :=
  .next ((s.busWrite (if host then .host else .sup) 4 address.toNat value).settle)

/-- SYS_FAULT_CLEAR (R444). -/
def execSysFaultClear (mask : Word) (s : State) : Result := .next (s.fwWrite Reg.SYS_FAULT mask)

/-- TXN_OPEN (R109). -/
def execTxnOpen (cyl : Fin 24) (s : State) : Result := .next (s.fwWrite Reg.SCH_TXN (BitVec.ofNat 32 (2 ^ cyl.val)))
/-- TXN_CLOSE (R110). -/
def execTxnClose (cyl : Fin 24) (s : State) : Result := .next (s.fwWrite Reg.SCH_TXN_CLOSE (BitVec.ofNat 32 (2 ^ cyl.val)))
/-- TXN_ABORT (R109). -/
def execTxnAbort (cyl : Fin 24) (s : State) : Result := .next (s.fwWrite Reg.SCH_TXN_ABORT (BitVec.ofNat 32 (2 ^ cyl.val)))
/-- REFRESH (R135). -/
def execRefresh (s : State) : Result := .next (s.fwWrite Reg.SCH_REFRESH 1)

/-- SHADOW_SLOT_WRITE (R103): a direct write of the host, which it may make in BENCH. -/
def execShadowSlotWrite (slot : Fin 2048) (word : Fin 4) (value : Word) (s : State) : Result :=
  .next ((s.busWrite .host 4 (Reg.SCH_SHADOW slot.val word.val) value).settle)

/-- TBL_DATA_ACCESS (R83). -/
def execTblDataAccess (trk : Fin 2) (write : Bool) (value : Word) (s : State) : Result :=
  .next (if write then s.fwWrite (Reg.TRK_TBLD trk.val) value else s.fwRead (Reg.TRK_TBLD trk.val))

/-- BUCKET_UNTRAIN (R81). -/
def execBucketUntrain (trk : Fin 2) (buckets : BitVec 8) (s : State) : Result :=
  .next (s.fwWrite (Reg.TRK_LOAD trk.val)
    (s.rwWord (Reg.TRK_LOAD trk.val) ||| (buckets.zeroExtend 32 <<< 16)))

/-- TRK_CTRL_RESYNC (R61). -/
def execTrkCtrlResync (trk : Fin 2) (s : State) : Result :=
  .next (s.fwWrite (Reg.TRK_CTRL trk.val) (s.rwWord (Reg.TRK_CTRL trk.val) ||| 0x100))

/-- PRF_APPLY (R193). -/
def execPrfApply (profile : Fin 16) (s : State) : Result := .next (s.fwWrite Reg.PRF_APPLY (BitVec.ofNat 32 (2 ^ profile.val)))

/-- QUENCH (R173). -/
def execQuench (s : State) : Result := .next (s.fwWrite Reg.DRV_CTRL (s.rwWord Reg.DRV_CTRL ||| 0x100))

/-- STANDBY_CHANGE (R158): of one channel, or of all. -/
def execStandbyChange (channel : Option (Fin 48)) (standby : Bool) (s : State) : Result :=
  let v := if standby then 1 else 0
  .next (match channel with
    | none => s.fwWrite Reg.DRV_CTRL (withField Fld.DRV_CTRL_STBY (s.rwWord Reg.DRV_CTRL) v)
    | some n => s.fwWrite (Reg.DRV_CH_CFG n.val) (withField (Fld.DRV_CH_CFG_STBY n.val) (s.rwWord (Reg.DRV_CH_CFG n.val)) v))

/-- WIT_CORR_WRITE (R204). -/
def execWitCorrWrite (channel : Fin 48) (value : BitVec 16) (s : State) : Result :=
  .next (s.fwWrite (Reg.WIT_CH_CORR channel.val) (value.zeroExtend 32))

/-- WIT_WAVE_ARM (R211). -/
def execWitWaveArm (channel : Fin 48) (s : State) : Result :=
  .next (s.fwWrite Reg.WIT_WAVE (BitVec.ofNat 32 channel.val ||| 0x40000000))

/-- SIM_CTRL_WRITE (R53). -/
def execSimCtrlWrite (value : Word) (s : State) : Result := .next (s.fwWrite Reg.WHL_SIM_CTRL value)
/-- SIM_DROP (R56). -/
def execSimDrop (count : BitVec 8) (s : State) : Result :=
  .next (s.fwWrite Reg.WHL_SIM_FLT (withField Fld.WHL_SIM_FLT_DROP_N (s.rwWord Reg.WHL_SIM_FLT) count.toNat ||| 0x100))
/-- SIM_EXTRA (R56). -/
def execSimExtra (s : State) : Result := .next (s.fwWrite Reg.WHL_SIM_FLT (s.rwWord Reg.WHL_SIM_FLT ||| 0x200))
/-- SIM_FLIP (R56). -/
def execSimFlip (s : State) : Result := .next (s.fwWrite Reg.WHL_SIM_FLT (s.rwWord Reg.WHL_SIM_FLT ||| 0x800))

/-- ADC_FIFO_READ (R138). -/
def execAdcFifoRead (conv : Fin 4) (s : State) : Result := .next (s.fwRead (Reg.ADC_FIFO conv.val))
/-- WHL_TS_READ (R34). -/
def execWhlTsRead (input : Fin 4) (s : State) : Result := .next (s.fwRead (Reg.WHL_TSL input.val))
/-- TRK_ANGLE_READ (R58; TRK registers). -/
def execTrkAngleRead (trk : Fin 2) (s : State) : Result := .next (s.fwRead (Reg.TRK_ANGLE trk.val))
/-- WIT_MORL_READ (R216). -/
def execWitMorlRead (s : State) : Result := .next (s.fwRead Reg.WIT_MORL)
/-- FLO_DT_READ (R229; FLO registers). -/
def execFloDtRead (s : State) : Result := .next (s.fwRead Reg.FLO_DTL)
/-- CALV_PEAK_READ (PWR_CALVCNT; R5). -/
def execCalvPeakRead (s : State) : Result := .next (s.fwRead Reg.PWR_CALVCNT)

end Sys2Proof.Machine
end

