-- ==== Sys2Proof/Machine/IrqRows.lean ====
section
/-! DEFINITION. Interrupt rows (R359–R363). -/

namespace Sys2Proof.Machine

/-- ACKNOWLEDGE (R359): a read of IRQ_ACKt by SUP (0) or COM (1). -/
def execAcknowledge (target : Fin 2) (s : State) : Result :=
  .next ((s.busRead (if target = 0 then .sup else .com) 4 (Reg.IRQ_ACK target.val)).settle)

/-- EOI (R360). -/
def execEoi (target : Fin 2) (s : State) : Result :=
  .next ((s.busWrite (if target = 0 then .sup else .com) 4 (Reg.IRQ_EOI target.val) 1).settle)

/-- HOST_ACKNOWLEDGE (R359, R361): the host reads IRQ_HACKh. -/
def execHostAcknowledge (line : Fin 2) (s : State) : Result := .next ((s.busRead .host 4 (Reg.IRQ_HACK line.val)).settle)

/-- GROUP_WRITE (R363): by the firmware for groups 0–7, by the host for 8–15. -/
def execGroupWrite (group : Fin 16) (value : Word) (s : State) : Result :=
  .next ((s.busWrite (if group.val < 8 then .sup else .host) 4 (Reg.IRQ_GRP group.val) value).settle)

/-- IRQ_GROUP_DELIVERY (R362): the group delivers once a threshold is met. -/
def execIrqGroupDelivery (dt : Nat) (group : Fin 16) (s : State) : Result :=
  let s1 := s.advance dt
  .next (if s1.groupDue group.val then (s1.deliverGroup group.val).settle else s1)

end Sys2Proof.Machine
end

