-- ==== Sys2Proof/Machine/DmaRows.lean ====
section
/-! DEFINITION. DMA rows (R365–R374). -/

namespace Sys2Proof.Machine

/-- The master that owns a channel: the firmware's 0–7, the host's 8–15 (R421). -/
def dmaOwner (n : Nat) : Master := if n < 8 then .sup else .host

/-- DMA_EN_RISE (R365). -/
def execDmaEnRise (channel : Fin 16) (s : State) : Result :=
  .next ((s.busWrite (dmaOwner channel.val) 4 (Reg.DMA_CH_CTRL channel.val)
    (withField (Fld.DMA_CH_CTRL_EN channel.val) (s.rwWord (Reg.DMA_CH_CTRL channel.val)) 1)).settle)

/-- DMA_EN_CLEAR (R374). -/
def execDmaEnClear (channel : Fin 16) (s : State) : Result :=
  .next ((s.busWrite (dmaOwner channel.val) 4 (Reg.DMA_CH_CTRL channel.val)
    (withField (Fld.DMA_CH_CTRL_EN channel.val) (s.rwWord (Reg.DMA_CH_CTRL channel.val)) 0)).settle)

/-- SHADOW_VALID (R369). -/
def execShadowValid (channel : Fin 16) (s : State) : Result :=
  .next ((s.busWrite (dmaOwner channel.val) 4 (Reg.DMA_CH_SHV channel.val) 1).settle)

/-- SHADOW_WRITE (R369): SRC, DST, CNT or LINK of the shadow set. -/
def execShadowWrite (channel : Fin 16) (word : Fin 4) (value : Word) (s : State) : Result :=
  .next ((s.busWrite (dmaOwner channel.val) 4 (shadowReg channel.val word.val) value).settle)

/-- The level request of a trigger code (R365): an ADC FIFO (R138) or a context's FIFO (R389). -/
def State.dmaLevel (s : State) (c : Nat) : Bool :=
  if inRange 0x40 0x43 c then s.levelHolds (160 + 4 * (c - 0x40))
  else if inRange 0x50 0x6F c then s.patDreq ((c - 0x50) / 16) ((c - 0x50) % 16)
  else false

/-- A burst is due: no trigger is needed, a pulse has come, or a level request stands; the block has elements left. -/
def State.dmaDue (s : State) (n : Nat) : Bool :=
  s.flag (Fld.DMA_CH_CTRL_EN n) && s.get (Fld.DMA_CH_CNT_CNT n) != 0 &&
  (s.get (Fld.DMA_CH_CTRL_TRIG n) == 0 || s.flag (Fld.DMA_CH_STAT_BUSY n) || s.dmaLevel (s.get (Fld.DMA_CH_CTRL_TRIG n)))

/-- The burst has ended: a held pulse starts the next one; a channel without a trigger goes on. -/
def State.dmaBurstEnd (s : State) (n : Nat) : State :=
  if !s.flag (Fld.DMA_CH_CTRL_EN n) then s
  else if s.dmaHeld.testBit n then { s with dmaHeld := s.dmaHeld - 2 ^ n }
  else s.setFlag (Fld.DMA_CH_STAT_BUSY n) (s.get (Fld.DMA_CH_CTRL_TRIG n) == 0)

/-- The channels that go before channel `n`, and `n` itself, in the order in which they contend (R366): PRIO = 1 first, the lower number
first within a priority. -/
def State.dmaOrder (s : State) (n : Nat) : List Nat :=
  let high := (List.range 16).filter (fun m => s.flag (Fld.DMA_CH_CTRL_PRIO m))
  let low := (List.range 16).filter (fun m => !s.flag (Fld.DMA_CH_CTRL_PRIO m))
  (high ++ low).takeWhile (· != n) ++ [n]

/-- One element of channel `m`, whose burst has `k` elements left: the elements left after it, and the device, with the burst ended at 0. -/
def State.dmaStep (s : State) (m k : Nat) : Nat × State :=
  let r := if k = 0 then (false, s) else s.dmaElement m
  if r.1 && r.2.flag (Fld.DMA_CH_CTRL_EN m) && r.2.get (Fld.DMA_CH_CNT_CNT m) != 0 && 1 < k then (k - 1, r.2)
  else (0, r.2.dmaBurstEnd m)

/-- The elements of a burst of channel `n`, and those of every channel that goes before it and is due meanwhile, one at a time (R366);
`left` holds what is left of each burst that has begun. -/
def State.dmaContend (n : Nat) : Nat → List Nat → State → State
  | 0, _, s => s
  | fuel + 1, left, s =>
    match (s.dmaOrder n).find? (fun m => 0 < left.getD m 0 || s.dmaDue m) with
    | none => s
    | some m =>
      let r := s.dmaStep m (if left.getD m 0 = 0 then s.dmaBurst m else left.getD m 0)
      if m = n && r.1 == 0 then r.2 else State.dmaContend n fuel (left.set m r.1) r.2

/-- DMA_TRIGGER (R365, R366, R373): the burst of a trigger moves, with what goes before it; the answer of the bus belongs to the channel.
Sixteen blocks have at most 16·2^25 elements. -/
def execDmaTrigger (dt : Nat) (channel : Fin 16) (s : State) : Result :=
  let n := channel.val
  let s1 := s.advance dt
  .next (if s1.dmaDue n then ({ State.dmaContend n (16 * 2 ^ 25) (List.replicate 16 0) s1 with bus := s1.bus }).settle else s1)

/-- The chain's limit forbids the next fetch (R372). -/
def State.hopsOut (s : State) (n : Nat) : Bool :=
  s.get (Fld.DMA_CH_HOPS_LIMIT n) != 0 && s.get (Fld.DMA_CH_HOPS_LIMIT n) ≤ s.get (Fld.DMA_CH_HOPS_COUNT n)

/-- The hand-over (R370): the shadow set becomes active, SH_VALID clears, and the new set is checked (R367). -/
def State.dmaHandOver (s : State) (n : Nat) : State :=
  (((((s.setWord (Reg.DMA_CH_SRC n) (s.word (Reg.DMA_CH_SH_SRC n))).setWord (Reg.DMA_CH_DST n) (s.word (Reg.DMA_CH_SH_DST n))).setWord
    (Reg.DMA_CH_CNT n) (s.word (Reg.DMA_CH_SH_CNT n))).setWord (Reg.DMA_CH_LINK n) (s.word (Reg.DMA_CH_SH_LINK n))).set
    (Fld.DMA_CH_SHV_SH_VALID n) 0).dmaGo n

/-- The completion of a block (R370, R372): source 176 + n with IE and at every stop (DMA registers), the trigger code 0x20 + n of R365, then
the hand-over or the stop. -/
def State.dmaComplete (s : State) (n : Nat) : State :=
  let s1 := if s.flag (Fld.DMA_CH_CNT_IE n) || !s.flag (Fld.DMA_CH_SHV_SH_VALID n) then s.irq (176 + n) else s
  let s2 :=
    if s1.flag (Fld.DMA_CH_SHV_SH_VALID n) then s1.dmaHandOver n
    else if s1.word (Reg.DMA_CH_LINK n) != 0 && s1.hopsOut n then
      (s1.dmaIdle n).raiseFlag (Fld.DMA_CH_ERR_HOPS n)
    else (s1.dmaIdle n).raiseFlag (Fld.DMA_CH_STAT_DONE n)
  s2.dmaPulse (0x20 + n)

/-- DMA_BLOCK_COMPLETE (R370): the active block has no byte left. -/
def execDmaBlockComplete (dt : Nat) (channel : Fin 16) (s : State) : Result :=
  let n := channel.val
  let s1 := s.advance dt
  .next (if s1.flag (Fld.DMA_CH_CTRL_EN n) && s1.get (Fld.DMA_CH_CNT_CNT n) == 0 then (s1.dmaComplete n).settle else s1)

/-- A descriptor's four words, read by the channel; `none`: one of them ended in a bus error. -/
def State.dmaDescriptor (s : State) (n a : Nat) : Option (List Word) :=
  let l := (List.range 4).map (fun k => (s.busRead (.dma n) 4 (a + 4 * k)).bus)
  if l.any (·.err) then none else some (l.map (·.data))

/-- The fetch (R367, R371, R373). -/
def State.dmaFetch (s : State) (n : Nat) : State :=
  let a := (s.word (Reg.DMA_CH_LINK n)).toNat
  if a % 16 ≠ 0 then s.dmaError n (Fld.DMA_CH_ERR_ALIGN n) a
  else match s.dmaDescriptor n a with
    | some [src, dst, cnt, link] =>
      ((((((s.setWord (Reg.DMA_CH_SH_SRC n) src).setWord (Reg.DMA_CH_SH_DST n) dst).setWord (Reg.DMA_CH_SH_CNT n)
        (cnt &&& 0x01FFFFFF)).setWord (Reg.DMA_CH_SH_LINK n) link).set (Fld.DMA_CH_SHV_SH_VALID n) 1).setWord
        (Reg.DMA_CH_LINK n) 0).incSat (Fld.DMA_CH_HOPS_COUNT n)
    | _ => s.dmaError n (Fld.DMA_CH_ERR_FETCH n) a

/-- DMA_DESCRIPTOR_FETCH (R371, R372): the channel runs, its shadow is empty, its LINK is not 0, and the chain may go on. -/
def execDmaDescriptorFetch (dt : Nat) (channel : Fin 16) (s : State) : Result :=
  let n := channel.val
  let s1 := s.advance dt
  .next (if s1.flag (Fld.DMA_CH_CTRL_EN n) && !s1.flag (Fld.DMA_CH_SHV_SH_VALID n) && s1.word (Reg.DMA_CH_LINK n) != 0 &&
      !s1.hopsOut n then (s1.dmaFetch n).settle else s1)

end Sys2Proof.Machine
end

