-- ==== Sys2Proof/Machine/TimRows.lean ====
section
/-! DEFINITION. Timer rows (R375–R384). -/

namespace Sys2Proof.Machine

/-- A 32-bit write or read by the host, and the transition it may cause. -/
def State.hostWrite (s : State) (a : Nat) (v : Word) : State := (s.busWrite .host 4 a v).settle
def State.hostRead (s : State) (a : Nat) : State := (s.busRead .host 4 a).settle

/-- TIM_GSTART (R383). -/
def execTimGstart (value : Word) (s : State) : Result := .next (s.hostWrite Reg.TIM_GSTART value)
/-- TIM_GSTOP (R383). -/
def execTimGstop (value : Word) (s : State) : Result := .next (s.hostWrite Reg.TIM_GSTOP value)

/-- TIM_EN_WRITE (R375). -/
def execTimEnWrite (channel : Fin 16) (value : Bool) (s : State) : Result :=
  .next (s.hostWrite (Reg.TIM_CH_CFG channel.val)
    (withField (Fld.TIM_CH_CFG_EN channel.val) (s.rwWord (Reg.TIM_CH_CFG channel.val)) (if value then 1 else 0)))

/-- TIM_PER_WRITE (R379, R381). -/
def execTimPerWrite (channel : Fin 16) (value : Word) (s : State) : Result := .next (s.hostWrite (Reg.TIM_CH_PER channel.val) value)
/-- TIM_CMP_WRITE (R381). -/
def execTimCmpWrite (channel : Fin 16) (value : Word) (s : State) : Result := .next (s.hostWrite (Reg.TIM_CH_CMP channel.val) value)
/-- TIM_CNT_READ (R382). -/
def execTimCntRead (channel : Fin 16) (s : State) : Result := .next (s.hostRead (Reg.TIM_CH_CNT channel.val))
/-- TIM_CAP_READ (R380, R382). -/
def execTimCapRead (channel : Fin 16) (s : State) : Result := .next (s.hostRead (Reg.TIM_CH_CAP channel.val))

/-- TIM_COMPARE_MATCH (R378): a match that the counter has made. -/
def execTimCompareMatch (dt : Nat) (channel : Fin 16) (s : State) : Result :=
  let n := channel.val
  let s1 := s.advance dt
  .next (if (s1.tim n).matched = 0 then s1
    else ((s1.setTim n { s1.tim n with matched := (s1.tim n).matched - 1 }).timEvent n 0).settle)

/-- TIM_RELOAD (R377): a reload that the counter has made. -/
def execTimReload (dt : Nat) (channel : Fin 16) (s : State) : Result :=
  let n := channel.val
  let s1 := s.advance dt
  .next (if (s1.tim n).reloads = 0 then s1
    else ((s1.setTim n { s1.tim n with reloads := (s1.tim n).reloads - 1 }).timEvent n 1).settle)

/-- TIM_TOP (R377): a top that the counter has reached. -/
def execTimTop (dt : Nat) (channel : Fin 16) (s : State) : Result :=
  let n := channel.val
  let s1 := s.advance dt
  .next (if (s1.tim n).tops = 0 then s1
    else ((s1.setTim n { s1.tim n with tops := (s1.tim n).tops - 1 }).timEvent n 2).settle)

/-- TIM_CAPTURE (R380): a capture that an edge or a trigger has asked for. -/
def execTimCapture (dt : Nat) (channel : Fin 16) (s : State) : Result :=
  let n := channel.val
  let s1 := s.advance dt
  .next (if (s1.tim n).caps = 0 then s1 else (s1.timCapture n).settle)

end Sys2Proof.Machine
end

