-- ==== Sys2Proof/Machine/PatRows.lean ====
section
/-! DEFINITION. Pattern-engine rows (R385–R394): control by the host, and one turn of a context for each kind of instruction. -/

namespace Sys2Proof.Machine

/-- CONTEXT_EN (R392). -/
def execContextEn (engine : Fin 2) (context : Fin 16) (value : Bool) (s : State) : Result :=
  .next (s.hostWrite (Reg.PAT_CTX_CTRL engine.val context.val) (if value then 1 else 0))

/-- CONTEXT_RESTART (R393): EN stands. -/
def execContextRestart (engine : Fin 2) (context : Fin 16) (s : State) : Result :=
  .next (s.hostWrite (Reg.PAT_CTX_CTRL engine.val context.val) (s.rwWord (Reg.PAT_CTX_CTRL engine.val context.val) ||| 2))

/-- FIFO_FLUSH (R393): EN stands. -/
def execFifoFlush (engine : Fin 2) (context : Fin 16) (s : State) : Result :=
  .next (s.hostWrite (Reg.PAT_CTX_CTRL engine.val context.val) (s.rwWord (Reg.PAT_CTX_CTRL engine.val context.val) ||| 4))

/-- PAT_TRIG (R390). -/
def execPatTrig (engine : Fin 2) (mask : BitVec 16) (s : State) : Result :=
  .next (s.hostWrite (Reg.PAT_TRIG engine.val) (mask.zeroExtend 32))

/-- PAT_TX_WRITE (R389). -/
def execPatTxWrite (engine : Fin 2) (context : Fin 16) (value : Word) (s : State) : Result :=
  .next (s.hostWrite (Reg.PAT_CTX_TX engine.val context.val) value)

/-- PAT_RX_READ (R389). -/
def execPatRxRead (engine : Fin 2) (context : Fin 16) (s : State) : Result :=
  .next (s.hostRead (Reg.PAT_CTX_RX engine.val context.val))

/-- IMEM_WRITE (R393). -/
def execImemWrite (engine : Fin 2) (index : Fin 512) (value : BitVec 16) (s : State) : Result :=
  .next (s.hostWrite (Reg.PAT_IMEM engine.val index.val) (value.zeroExtend 32))

/-- NOP (R387): one turn of the context, when its instruction is of this kind. -/
def execNop (dt : Nat) (engine : Fin 2) (context : Fin 16) (s : State) : Result :=
  .next (((s.advance dt).patTurn engine.val context.val .nop (fun s _ => patCtl s engine.val context.val)).settle)

/-- HALT (R387, R392): one turn of the context, when its instruction is of this kind. -/
def execHalt (dt : Nat) (engine : Fin 2) (context : Fin 16) (s : State) : Result :=
  .next (((s.advance dt).patTurn engine.val context.val .halt (fun s _ => patHalt s engine.val context.val)).settle)

/-- SIG (R387, R394): one turn of the context, when its instruction is of this kind. -/
def execSig (dt : Nat) (engine : Fin 2) (context : Fin 16) (s : State) : Result :=
  .next (((s.advance dt).patTurn engine.val context.val .sig (fun s w => patSig s engine.val context.val w)).settle)

/-- CLRSH (R387): one turn of the context, when its instruction is of this kind. -/
def execClrsh (dt : Nat) (engine : Fin 2) (context : Fin 16) (s : State) : Result :=
  .next (((s.advance dt).patTurn engine.val context.val .clrsh (fun s _ => patClrsh s engine.val context.val)).settle)

/-- BR (R387): one turn of the context, when its instruction is of this kind. -/
def execBr (dt : Nat) (engine : Fin 2) (context : Fin 16) (s : State) : Result :=
  .next (((s.advance dt).patTurn engine.val context.val .br (fun s w => patBr s engine.val context.val w)).settle)

/-- DBNZ (R387): one turn of the context, when its instruction is of this kind. -/
def execDbnz (dt : Nat) (engine : Fin 2) (context : Fin 16) (s : State) : Result :=
  .next (((s.advance dt).patTurn engine.val context.val .dbnz (fun s w => patDbnz s engine.val context.val w)).settle)

/-- WAIT KIND 0 (R388): one turn of the context, when its instruction is of this kind. -/
def execWaitPin (dt : Nat) (engine : Fin 2) (context : Fin 16) (s : State) : Result :=
  .next (((s.advance dt).patTurn engine.val context.val .waitPin (fun s w => patWaitPin s engine.val context.val w)).settle)

/-- WAIT KIND 1 (R388): one turn of the context, when its instruction is of this kind. -/
def execWaitTime (dt : Nat) (engine : Fin 2) (context : Fin 16) (s : State) : Result :=
  .next (((s.advance dt).patTurn engine.val context.val .waitTime (fun s w => patWaitTime s engine.val context.val w)).settle)

/-- WAIT KIND 2 (R388): one turn of the context, when its instruction is of this kind. -/
def execWaitAngle (dt : Nat) (engine : Fin 2) (context : Fin 16) (s : State) : Result :=
  .next (((s.advance dt).patTurn engine.val context.val .waitAngle (fun s w => patWaitAngle s engine.val context.val w)).settle)

/-- WAIT KIND 3 (R388, R390): one turn of the context, when its instruction is of this kind. -/
def execWaitTrig (dt : Nat) (engine : Fin 2) (context : Fin 16) (s : State) : Result :=
  .next (((s.advance dt).patTurn engine.val context.val .waitTrig (fun s _ => patWaitTrig s engine.val context.val)).settle)

/-- LDI (R387): one turn of the context, when its instruction is of this kind. -/
def execLdi (dt : Nat) (engine : Fin 2) (context : Fin 16) (s : State) : Result :=
  .next (((s.advance dt).patTurn engine.val context.val .ldi (fun s w => patLdi s engine.val context.val w)).settle)

/-- LDS (R387): one turn of the context, when its instruction is of this kind. -/
def execLds (dt : Nat) (engine : Fin 2) (context : Fin 16) (s : State) : Result :=
  .next (((s.advance dt).patTurn engine.val context.val .lds (fun s w => patLds s engine.val context.val w)).settle)

/-- ALU (R387): one turn of the context, when its instruction is of this kind. -/
def execAlu (dt : Nat) (engine : Fin 2) (context : Fin 16) (s : State) : Result :=
  .next (((s.advance dt).patTurn engine.val context.val .alu (fun s w => patAlu s engine.val context.val w)).settle)

/-- GET (R387): one turn of the context, when its instruction is of this kind. -/
def execGet (dt : Nat) (engine : Fin 2) (context : Fin 16) (s : State) : Result :=
  .next (((s.advance dt).patTurn engine.val context.val .get (fun s w => patGet s engine.val context.val w)).settle)

/-- PUT (R387): one turn of the context, when its instruction is of this kind. -/
def execPut (dt : Nat) (engine : Fin 2) (context : Fin 16) (s : State) : Result :=
  .next (((s.advance dt).patTurn engine.val context.val .put (fun s w => patPut s engine.val context.val w)).settle)

/-- SHIN (R387): one turn of the context, when its instruction is of this kind. -/
def execShin (dt : Nat) (engine : Fin 2) (context : Fin 16) (s : State) : Result :=
  .next (((s.advance dt).patTurn engine.val context.val .shin (fun s w => patShin s engine.val context.val w)).settle)

/-- SHOUT (R387): one turn of the context, when its instruction is of this kind. -/
def execShout (dt : Nat) (engine : Fin 2) (context : Fin 16) (s : State) : Result :=
  .next (((s.advance dt).patTurn engine.val context.val .shout (fun s w => patShout s engine.val context.val w)).settle)

/-- SEND (R387, R389): one turn of the context, when its instruction is of this kind. -/
def execSend (dt : Nat) (engine : Fin 2) (context : Fin 16) (s : State) : Result :=
  .next (((s.advance dt).patTurn engine.val context.val .send (fun s w => patSend s engine.val context.val w)).settle)

/-- RECV (R387, R389): one turn of the context, when its instruction is of this kind. -/
def execRecv (dt : Nat) (engine : Fin 2) (context : Fin 16) (s : State) : Result :=
  .next (((s.advance dt).patTurn engine.val context.val .recv (fun s w => patRecv s engine.val context.val w)).settle)

/-- SETP (R387): one turn of the context, when its instruction is of this kind. -/
def execSetp (dt : Nat) (engine : Fin 2) (context : Fin 16) (s : State) : Result :=
  .next (((s.advance dt).patTurn engine.val context.val .setp (fun s w => patSetp s engine.val context.val w)).settle)

/-- A reserved encoding (R387, R392): one turn of the context, when its instruction is of this kind. -/
def execIllegal (dt : Nat) (engine : Fin 2) (context : Fin 16) (s : State) : Result :=
  .next (((s.advance dt).patTurn engine.val context.val .illegal (fun s _ => patIllegal s engine.val context.val)).settle)

end Sys2Proof.Machine
end

