-- ==== Sys2Proof/Machine/WheelRows.lean ====
section
/-! DEFINITION. Wheel rows (R29–R57): edges at the inputs, diagnostics, the simulator. -/

namespace Sys2Proof.Machine

/-- INPUT_EDGE (R30–R43): unless it stands there already, the level at an input's pins changes in the given sixteenth of the tick, and stands for
`held` ticks. For a VR input `peak` is the highest voltage in mV that the half-wave has reached so far: an upward crossing with 0, then the
same level again at the arming threshold, show the moment of arming. -/
def execInputEdge (dt : Nat) (input : Fin 4) (subtick : Fin 16) (level : Bool) (held peak : Nat) (s : State) : Result :=
  .next (((s.advance dt).pinChange input.val subtick.val level held peak).settle)

/-- PULSE_TRAILING_EDGE (R42, R43): the pulse that is being measured ends. -/
def execPulseTrailingEdge (dt : Nat) (input : Fin 4) (subtick : Fin 16) (s : State) : Result :=
  let s1 := s.advance dt
  .next ((s1.pulseReturn input.val (16 * s1.tclk + subtick.val)).settle)

/-- PULSE_WIDTH_TIMEOUT (R42, R87): no trailing edge within PW_MAX. -/
def execPulseWidthTimeout (dt : Nat) (input : Fin 4) (s : State) : Result :=
  let n := input.val
  let s1 := s.advance dt
  .next (if s1.pulseOverdue n then (s1.pwInvalid n).settle else s1.frostTimeout n)

/-- VR_PEAK_RESET (R31): 200 ms without arming. -/
def execVrPeakReset (dt : Nat) (input : Fin 4) (s : State) : Result :=
  let n := input.val
  let s1 := s.advance dt
  .next (if s1.frontEnd n = 1 && s1.flag Fld.CLK_GATE0_WHL && s1.passed (s1.whl n).armedAt (200 * msTicks)
    then (s1.setWhl n { s1.whl n with prevPeak := 0 }).settle else s1)

/-- VR_SHORT_DETECT (R52): the common mode in mV, and for how many ticks it has stood there. -/
def execVrShortDetect (dt : Nat) (input : Fin 4) (commonMode lasted : Nat) (s : State) : Result :=
  let n := input.val
  let s1 := s.advance dt
  .next (if s1.frontEnd n != 1 || !s1.flag Fld.CLK_GATE0_WHL then s1
    else
      let long := decide (msTicks ≤ lasted)
      let gnd := decide (commonMode < 500)
      let bat := decide (3000 < commonMode)
      ((s1.whlReport n 9 (Fld.WHL_STAT_SHORT_GND n) (gnd && long)).whlReport n 10 (Fld.WHL_STAT_SHORT_BAT n) (bat && long)).settle)

/-- VR_OPEN_TEST (R52): after 200 ms without an armed crossing, the differential voltage under the test current. -/
def execVrOpenTest (dt : Nat) (input : Fin 4) (millivolts : Nat) (s : State) : Result :=
  let n := input.val
  let s1 := s.advance dt
  .next (if s1.frontEnd n != 1 || !s1.flag Fld.CLK_GATE0_WHL || !s1.passed (s1.whl n).crossedAt (200 * msTicks) then s1
    else
      let bad := decide (1500 < millivolts)
      let s2 := s1.whlCause n 8 bad
      (if bad then s2.whlDiag n (Fld.WHL_STAT_VR_OPEN n) else s2).settle)

/-- SIM_EDGE (R54–R56). -/
def execSimEdge (dt : Nat) (s : State) : Result :=
  let s1 := s.advance dt
  .next (if s1.simRuns then s1.simEdge.settle else s1)

/-- SIM_RATE_STEP (R54). -/
def execSimRateStep (dt : Nat) (s : State) : Result :=
  let s1 := s.advance dt
  .next (if s1.simOn then s1.simStep.settle else s1)

end Sys2Proof.Machine
end

