-- ==== Sys2Proof/Machine/TrackRows.lean ====
section
/-! DEFINITION. Tracker rows (R61–R92). -/

namespace Sys2Proof.Machine

/-- The head of a tracker's queue of crank edges, once it is available (R33). -/
def State.takeCrank (s : State) (x : Nat) : Option (WheelEdge × State) :=
  match (s.trk x).crankQ with
  | [] => none
  | e :: r => if e.avail ≤ s.tclk && s.edgesPass then some (e, s.setTrk x { s.trk x with crankQ := r }) else none

/-- Whether a crank edge that waits became available in the same tick as the cam edge `e`, 48 ticks before its application tick (R33, R59,
R71). -/
def State.crankFirst (s : State) (x : Nat) (e : WheelEdge) : Bool :=
  (s.trk x).crankQ.any (fun c => !c.relabel && c.avail == e.avail + 48)

/-- The head of a tracker's queue of cam edges, once it is available; a crank edge of the same tick goes first (R59). -/
def State.takeCam (s : State) (x : Nat) : Option (WheelEdge × State) :=
  match (s.trk x).camQ with
  | [] => none
  | e :: r => if e.avail ≤ s.tclk && s.edgesPass && !s.crankFirst x e then some (e, s.setTrk x { s.trk x with camQ := r }) else none

/-- CRANK_EDGE_ACCEPTED (R61–R85): the tracker processes the oldest edge that has become available. -/
def execCrankEdgeAccepted (dt : Nat) (trk : Fin 2) (s : State) : Result :=
  let x := trk.val
  let s1 := s.advance dt
  .next (match s1.takeCrank x with
    | none => s1
    | some (e, s2) =>
      let miss := s2.get (Fld.TRK_STAT_PRESET_MISS x)
      let s3 := s2.crankEdge x e
      s3.afterTracker s2 x (x == s2.sel && (s3.trk x).wrapPend && !(s2.trk x).wrapPend)
        (resynced (s2.trkState x) (s3.trkState x) (miss == 0 && s3.get (Fld.TRK_STAT_PRESET_MISS x) == 1)) (s2.takesEdge x e))

/-- CAM_EDGE (R66–R69). -/
def execCamEdge (dt : Nat) (trk : Fin 2) (s : State) : Result :=
  let x := trk.val
  let s1 := s.advance dt
  .next (match s1.takeCam x with
    | none => s1
    | some (e, s2) =>
      let s3 := s2.camEdge x e
      s3.afterTracker s2 x false (resynced (s2.trkState x) (s3.trkState x) false) false)

/-- CRANK_EDGE_MISSING (R61, R74): the angle has passed an expected tooth and the window. -/
def execCrankEdgeMissing (dt : Nat) (trk : Fin 2) (s : State) : Result :=
  let x := trk.val
  let s1 := s.advance dt
  .next (if s1.edgeMissing x then (s1.missEdge x).afterTracker s1 x false false true else s1)

/-- CAM_MISSING (R69, R443): two cycles of net forward rotation in CYCLE_SYNC, or in COAST entered from it, without a cam edge. A tracker that
uses no cam (CAM_EN = 0) never misses one (DESIGN CHOICE, log entry 78); a follower has no description (R60). -/
def execCamMissing (dt : Nat) (trk : Fin 2) (s : State) : Result :=
  let x := trk.val
  let s1 := s.advance dt
  .next (if (s1.trkState x == 4 || (s1.trkState x == 5 && (s1.trk x).coastFrom == 4)) && s1.flag (Fld.WHL_WD_CFG_CAM_EN x) &&
      s1.get (Fld.TRK_CTRL_SRC x) == 0 && decide (144115188075855872 ≤ (s1.trk x).camRot) &&
      !s1.flag (Fld.TRK_STAT_CAM_MISSING x)
    then ((s1.raiseFlag (Fld.TRK_STAT_CAM_MISSING x)).irq (36 + 8 * x)).settle else s1)

/-- TRACKER_STOP (R61): STOP_MS, where 0 acts as 1, without an accepted crank edge. -/
def execTrackerStop (dt : Nat) (trk : Fin 2) (s : State) : Result :=
  let x := trk.val
  let s1 := s.advance dt
  .next (if s1.trkState x != 0 && s1.get (Fld.TRK_CTRL_SRC x) == 0 && s1.flag Fld.CLK_GATE0_TRK &&
      s1.passed (s1.trk x).edgeAt (Nat.max 1 (s1.get (Fld.TRK_STOP_STOP_MS x)) * msTicks)
    then (s1.setTrkState x 0).afterTracker s1 x false false false else s1)

/-- STOP_ANGLE_COPY (R86): the copy of TRK_STOPA in MRAM. -/
def execStopAngleCopy (dt : Nat) (s : State) : Result := .next ((s.advance dt).saveReg Reg.TRK_STOPA)

/-- A tracker's part of a stored table. -/
def untagKeys (x : Nat) (l : Sparse Nat) : Sparse Nat :=
  (l.filter (fun e => e.1 / 1048576 == x)).map (fun e => (e.1 % 1048576, e.2))

/-- TABLE_STORE (R81, R205): in RUNNING every 10 minutes, and at the entry to SHUTDOWN. -/
def execTableStore (dt : Nat) (s : State) : Result :=
  let s1 := s.advance dt
  .next (if s1.st == 6 || s1.st == 7 then s1.storeTables else s1)

/-- A tooth is counted (R87): a count beyond ±32,767 is held, with OVF. -/
def State.frostCount (s : State) (reverse nodir : Bool) : State :=
  let c := toSigned 16 (s.get Fld.TRK_FCNT_COUNT) + (if reverse then -1 else 1)
  let s1 := if nodir then s.set Fld.TRK_FCNT_NODIR 1 else s
  if 32767 < c.natAbs then s1.set Fld.TRK_FCNT_OVF 1
  else (s1.set Fld.TRK_FCNT_COUNT (ofSigned 16 c)).set Fld.TRK_FCNT_ACTIVE 1

/-- A tooth at the watched input in Frost (R87): the level of the partner input, and the pulse width in steps of 0.5 µs. -/
def State.frostTooth (s : State) (partner : Bool) (width : Nat) : State :=
  let cfg := s.pwr.frostCfg
  let pw := s.pwr.frostPw
  let mode := fieldOf (Fld.WHL_CFG_DIR_MODE 0) cfg
  let inv := fieldOf (Fld.WHL_CFG_DIR_INV 0) cfg == 1
  if fieldOf (Fld.WHL_CFG_FE 0) cfg = 0 then s
  else if mode = 0 then s.frostCount false true
  else if mode = 1 then s.frostCount ((!partner) != inv) false
  else if 2 * fieldOf (Fld.WHL_PW_PW_MAX 0) pw < width then s.set Fld.TRK_FCNT_NODIR 1
  else s.frostCount (decide (2 * fieldOf (Fld.WHL_PW_PW_SPLIT 0) pw ≤ width) != inv) false

/-- FROST_TOOTH (R87). -/
def execFrostTooth (dt : Nat) (partner : Bool) (width : Nat) (s : State) : Result :=
  let s1 := s.advance dt
  .next (if s1.st == 1 && s1.flag Fld.TRK_FROST_EN then s1.frostTooth partner width else s1)

end Sys2Proof.Machine
end

