-- ==== Sys2Proof/Machine/Demand.lean ====
section
/-! DEFINITION. Demand mode (R128–R134): maps, shot plans, pressure readings, the governor, and the set that SUP builds at a
prepare event. Quantities are exact quotients until the manual rounds them. -/

namespace Sys2Proof.Machine

-- ── Maps (R130) ───────────────────────────────────────────────────────────────────────────────────────────────────

/-- Axis value `k` of a map: X from offset 8, Y from offset 40. -/
def mapX (m : List Byte) (k : Nat) : Nat := leAt m (8 + 2 * k) 2
def mapY (m : List Byte) (k : Nat) : Nat := leAt m (40 + 2 * k) 2
def mapNX (m : List Byte) : Nat := byteAt m 2
def mapNY (m : List Byte) : Nat := byteAt m 3
def mapKind (m : List Byte) : Nat := byteAt m 1
def mapOwner (m : List Byte) : Nat := byteAt m 4
/-- Entry (x, y); TIMING entries are signed. -/
def mapZ (m : List Byte) (x y : Nat) : Int :=
  let z := leAt m (72 + 2 * (16 * y + x)) 2
  if mapKind m = 2 then toSigned 16 z else (z : Int)

/-- The cell of an axis in which `v` lies, and where in it: the lower breakpoint, the way beyond it and the cell's width, both
over the denominator of `v`; the edge values hold outside. -/
def axisCell (ax : Nat → Nat) (n : Nat) (v : Frac) : Nat × Int × Int :=
  let k := ((List.range (n - 1)).filter (fun i => (ax i : Int) * v.d ≤ v.n)).getLastD 0
  let w : Int := ((ax (k + 1) : Int) - ax k) * v.d
  (k, clampInt 0 w (v.n - (ax k : Int) * v.d), w)

/-- Bilinear interpolation, edges held, rounded to nearest with halves upward (R130). -/
def mapValue (m : List Byte) (x y : Frac) : Int :=
  let a := axisCell (mapX m) (mapNX m) x
  let b := axisCell (mapY m) (mapNY m) y
  let num := mapZ m a.1 b.1 * (a.2.2 - a.2.1) * (b.2.2 - b.2.1) + mapZ m (a.1 + 1) b.1 * a.2.1 * (b.2.2 - b.2.1) +
    mapZ m a.1 (b.1 + 1) * (a.2.2 - a.2.1) * b.2.1 + mapZ m (a.1 + 1) (b.1 + 1) * a.2.1 * b.2.1
  divRoundInt num (a.2.2 * b.2.2).toNat

/-- The map with an ID, and the map of a kind that serves cylinder `c` (0–23): its own, or the one for all others. -/
def State.mapById (s : State) (id : Nat) : Option (List Byte) := (s.cal.maps.find? (fun e => e.1 == id)).map Prod.snd
def State.mapFor (s : State) (kind c : Nat) : Option (List Byte) :=
  let l := (s.cal.maps.map Prod.snd).filter (fun m => mapKind m == kind)
  match l.find? (fun m => mapOwner m == c + 1) with
  | some m => some m
  | none => l.find? (fun m => mapOwner m == 0)

/-- A map's value; where the calibration has no such map the manual states none: a free value (log entry 3). -/
def State.mapOr (s : State) (m : Option (List Byte)) (x y : Frac) : Int × State :=
  match m with
  | some l => (mapValue l x y, s)
  | none => let w := s.takeFree; ((w.1.toNat % 65536 : Nat), w.2)

-- ── Pressures (R133) ──────────────────────────────────────────────────────────────────────────────────────────────

/-- The reading of the pressure input of a kind, 1 rail or 2 gas: FALLBACK, SENS_FAULT and source 75 for an invalid one. Without a
record the manual states no pressure: a free value. -/
def State.pressure (s : State) (kind : Nat) : Nat × State :=
  match (s.cal.press.find? (fun e => e.1 == kind)).map Prod.snd with
  | none => let w := s.takeFree; (w.1.toNat % 65536, w.2)
  | some r =>
    let ain := byteAt r 1 % 16
    let code := s.get (Fld.ADC_LAST_VALUE (ain / 4) (ain % 4))
    if s.flag (Fld.ADC_LAST_VALID (ain / 4) (ain % 4)) && leAt r 12 2 % 4096 ≤ code && code ≤ leAt r 14 2 % 4096 then
      ((clampInt 0 65534 (divRoundInt (toSigned 32 (leAt r 8 4) + toSigned 32 (leAt r 4 4) * code) 65536)).toNat, s)
    else (leAt r 16 2, (s.raiseFlag Fld.SCH_STAT_SENS_FAULT).irq 75)

/-- The reading of a pressure input that a record names; without a record no input is read. -/
def State.readIfNamed (s : State) (kind : Nat) : Nat × State :=
  if s.cal.press.any (fun e => e.1 == kind) then s.pressure kind else (0, s)

/-- Rail pressure in 0.1 MPa: RAIL, or the measured one (R132). SUP reads the named input at each prepare event (R133). -/
def State.rail (s : State) : Nat × State :=
  if s.get Fld.SCH_DEM2_RAIL = 0xFFFF then s.pressure 1 else (s.get Fld.SCH_DEM2_RAIL, (s.readIfNamed 1).2)

-- ── Speed, governor (R132, R134) ──────────────────────────────────────────────────────────────────────────────────

/-- The angle turned since the last prepare event, in au: TRK_OUT tells it within the cycle, the net-rotation meter which cycle. -/
def State.sincePrep (s : State) : Nat :=
  let au := (s.out + cycleAu - s.sch.prepAngle % cycleAu) % cycleAu
  let turned : Int := (s.voter.meter - s.sch.prepMeter) / fracOne
  au + ((turned - au + 8388608) / 16777216).toNat * cycleAu

/-- Mean speed in rpm over the last firing interval; before the first one a free value. The revolutions per cycle are those of the
selected tracker's description. -/
def State.meanSpeed (s : State) : Frac × State :=
  let t := s.now - s.sch.prepAt
  if s.sch.prepAt = 0 ∨ t = 0 then let w := s.takeFree; (⟨(w.1.toNat % 65536 : Nat), 1⟩, w.2)
  else
    (⟨(s.sincePrep * s.revs s.sel * 60 * 400000000 : Nat), cycleAu * t⟩, s)

def State.gov (s : State) (k : Nat) : Nat := leAt s.cal.gov (2 * k) 2
def State.qMin (s : State) : Nat := s.gov 3
def State.qMax (s : State) : Nat := s.gov 4
def State.qFull (s : State) : Nat := s.gov 5

/-- One pass of the governor at mean speed `n` over `t` ticks (R134): the integrator is Q16.16 of 0.1 mm³, rounded by R9 (DESIGN
CHOICE, log entry 14). -/
def State.govern (s : State) (n : Frac) (t : Nat) : State :=
  let qf := Nat.max 1 s.qFull
  let lim := if s.get Fld.SCH_DEM0_QTY = 0 then s.qMax else Nat.min s.qMax (s.get Fld.SCH_DEM0_QTY)
  -- n_ref = n_set × (1 − droop × q_prev / q_full), rpm; the load-share trim is added to n_set (R262)
  let nset : Int := (s.get Fld.SCH_DEM1_SPEED : Int) + toSigned 16 (s.get Fld.FLO_LTRIM_TRIM)
  let ref : Frac := ⟨nset * ((10000 * qf : Nat) - (s.gov 2 * s.sch.govQ : Nat)), 40000 * qf⟩
  let e := Frac.sub ref n
  let hold := (s.sch.govQ ≤ s.qMin && e.n < 0) || (lim ≤ s.sch.govQ && 0 < e.n)
  -- KI is 0.01 mm³ per rpm·s: tenths of 0.1 mm³
  let i := if hold then s.sch.govI
    else s.sch.govI + divRoundInt ((s.gov 1 : Int) * e.n * t * 65536) (10 * e.d * 400000000)
  let i1 := clampInt ((s.qMin * 65536 : Nat) : Int) ((s.qMax * 65536 : Nat) : Int) i
  let q := clampInt (s.qMin : Nat) (lim : Nat) (divRoundInt ((s.gov 0 : Int) * e.n * 65536 + i1 * (10 * e.d : Nat)) (10 * e.d * 65536))
  s.withSch { s.sch with govI := i1, govQ := q.toNat }

/-- Whether the governor is active (R134). -/
def State.governs (s : State) : Bool :=
  s.flag Fld.SCH_CTRL_DEMAND && s.flag Fld.SCH_CTRL_GOV && s.get Fld.SCH_DEM0_MODE == 1

/-- The quantity per cylinder in 0.1 mm³, with the loss-of-host ramp of R23: linear in the angle turned. -/
def State.quantity (s : State) : Nat :=
  let q := if s.governs then s.sch.govQ else s.get Fld.SCH_DEM0_QTY
  if s.sys.rampDone then 0
  else if s.flag Fld.SYS_STAT_HOST_RAMP then q * (s.rampLen - s.rampTurned) / s.rampLen
  else q

-- ── Shot plans (R131, R132) ───────────────────────────────────────────────────────────────────────────────────────

/-- The dual-fuel plan applies: FUEL names it and the stage is below C4. -/
def State.dualFuel (s : State) : Bool := s.get Fld.SCH_DEM0_FUEL == 1 && s.get Fld.PWR_STAT_STAGE < 4

/-- The enabled rows of the plan in force, 8 bytes each. -/
def State.planRows (s : State) : List (List Byte) :=
  let p := spGet (fun _ => []) s.cal.plans (if s.dualFuel then 1 else 0)
  ((List.range (p.length / 8)).map (fun k => (p.drop (8 * k)).take 8)).filter (fun r => byteAt r 3 % 2 == 1)

def rowValve (r : List Byte) : Bool := (byteAt r 0).testBit 3

/-- What a cylinder's rows are computed from: quantity, speed, load in 1/1,000, rail pressure, gas pressure. -/
structure DemandIn where
  q : Nat
  speed : Frac
  load : Frac
  rail : Nat
  gas : Nat

/-- The quantity that the injector rows share, in 1/65,536 of 0.1 mm³. -/
def State.injShare (s : State) (d : DemandIn) : Nat :=
  if s.dualFuel then d.q * (65536 - s.get Fld.SCH_DEM2_GAS_SHARE) else d.q * 65536

/-- The quantity of an injector row that has a SHARE map, as a quotient over 2^32. -/
def State.rowShare (s : State) (d : DemandIn) (r : List Byte) : Int × State :=
  let v := s.mapOr (s.mapById (byteAt r 2)) d.speed d.load
  (v.1 * s.injShare d, v.2)

/-- The sum of the quantities of the injector rows with a SHARE map, over 2^32. -/
def State.sharedSum (s : State) (d : DemandIn) : Int × State :=
  (s.planRows.filter (fun r => !rowValve r && byteAt r 2 != 0)).foldl
    (fun a r => let v := a.2.rowShare d r; (a.1 + v.1, v.2)) (0, s)

/-- The quantity of a row: an injector's in 0.1 mm³, a valve's in 0.1 mg. -/
def State.rowQuantity (s : State) (d : DemandIn) (r : List Byte) : Frac × State :=
  if rowValve r then (⟨(s.get Fld.SCH_DEM2_GAS_SHARE * d.q * s.gov 7 : Nat), 6553600⟩, s)
  else if byteAt r 2 ≠ 0 then let v := s.rowShare d r; (⟨v.1, 4294967296⟩, v.2)
  else
    let t := s.sharedSum d
    (⟨Int.ofNat ((s.injShare d * 65536 : Nat) - t.1 : Int).toNat, 4294967296⟩, t.2)

/-- The duration of a row's shot in 10 ns units (R132, R205): the QTY or GASQTY value, and the applied correction. -/
def State.rowTime (s : State) (d : DemandIn) (c ch : Nat) (r : List Byte) (q : Frac) : Nat × State :=
  if rowValve r then
    let v := s.mapOr (s.mapFor 4 c) q ⟨d.gas, 1⟩
    (100 * v.1.toNat, v.2)
  else
    let v := s.mapOr (s.mapFor 1 c) q ⟨d.rail, 1⟩
    let t := 10 * v.1.toNat
    let skip := (byteAt r 3).testBit 1 || !s.flag Fld.WIT_CTRL_EN || !s.flag (Fld.WIT_CH_CFG_CORR_EN ch)
    if skip then (t, v.2)
    else
      let a := v.2.appliedCorr ch t
      ((((t : Int) + a.1).toNat), if a.2 then (v.2.setFlag (Fld.WIT_CH_STAT_SAT ch) true).irq 153
                                   else v.2.setFlag (Fld.WIT_CH_STAT_SAT ch) false)

/-- A row below QMIN is omitted. -/
def belowMin (r : List Byte) (q : Frac) : Bool := q.n < (leAt r 4 2 : Int) * q.d

/-- The descriptor of a row, unless it is omitted or its cylinder has no such channel. -/
def State.rowDesc (s : State) (d : DemandIn) (c : Nat) (r : List Byte) : Option Desc × State :=
  let valve := rowValve r
  let on := if valve then s.flag (Fld.SCH_CYL_B_VALVE_EN c) else s.flag (Fld.SCH_CYL_B_INJ_EN c)
  let ch := if valve then s.get (Fld.SCH_CYL_B_VALVE_CH c) else s.get (Fld.SCH_CYL_B_INJ_CH c)
  let q := s.rowQuantity d r
  if !on || belowMin r q.1 then (none, q.2)
  else
    let t := q.2.rowTime d c ch r q.1
    let m := t.2.mapOr (t.2.mapById (byteAt r 1)) d.speed d.load
    let start := angAdd (s.tdc c) (256 * (m.1 + toSigned 16 (s.get Fld.SCH_DEM1_TIMING)))
    (some ⟨2 ^ 31 + start + 2 ^ 24 * (byteAt r 0 % 8), Nat.min 0xFFFFFF t.1 + 2 ^ 24 + 2 ^ 25 * (byteAt r 0 / 16),
           ch + 256 * leAt r 6 2, if (byteAt r 3).testBit 1 then 4 else 0⟩, m.2)

/-- All descriptors of a cylinder's set. -/
def State.planDescs (s : State) (d : DemandIn) (c : Nat) : List Desc × State :=
  s.planRows.foldl (fun a r =>
    let v := a.2.rowDesc d c r
    match v.1 with
    | some x => (a.1 ++ [x], v.2)
    | none => (a.1, v.2)) ([], s)

/-- SUP writes a set into the slots of the cylinder that hold no event, in order; the others of them are left disabled (DESIGN
CHOICE, log entry 14). A descriptor that fails R103 is not written. A cylinder in CYL_OFF gets an empty set (R132). -/
def State.putSet (s : State) (c : Nat) (ds : List Desc) : State :=
  let free := if s.bit Fld.SCH_DEM3_CYL_OFF c then s.slotsOf c
    else (s.slotsOf c).filter (fun n => !((s.shadowDesc n).en && (s.shadowDesc n).isEvent))
  free.zipIdx.foldl (fun s p =>
    match ds[p.2]? with
    | some d => if s.descOk d && !s.testOutside d then s.putDesc p.1 d else s.putDesc p.1 ⟨0, 0, 0, 0⟩
    | none => s.putDesc p.1 ⟨0, 0, 0, 0⟩) s

/-- The load bucket of R79: floor(8 × Q / Q_FULL), limited to 7. -/
def State.writeBucket (s : State) (q : Nat) : State :=
  let b := Nat.min 7 (8 * q / Nat.max 1 s.qFull)
  (s.set (Fld.TRK_LOAD_BUCKET 0) b).set (Fld.TRK_LOAD_BUCKET 1) b

/-- SUP builds the set of cylinder `c` in a transaction and closes it (R129, R132). -/
def State.buildSet (s : State) (c : Nat) : State :=
  let n := s.meanSpeed
  let s1 := if n.2.governs then n.2.govern n.1 (s.now - s.sch.prepAt) else n.2
  let q := s1.quantity
  let s2 := s1.writeBucket q
  let r := s2.rail
  let g := if s2.dualFuel then r.2.pressure 2 else r.2.readIfNamed 2
  let d : DemandIn := ⟨q, n.1, ⟨(1000 * q : Nat), Nat.max 1 s.qFull⟩, r.1, g.1⟩
  let p := if g.2.bit Fld.SCH_DEM3_CYL_OFF c then ([], g.2) else g.2.planDescs d c
  let s3 := (p.2.openTxns (2 ^ c)).putSet c p.1
  ((s3.mirrorSlots c 0 (s3.slotCnt c)).closeTxn c)

/-- What SUP does at a prepare event: in demand mode, on a device that may drive, it builds the set (R129, R246); the cope mirrors the demand
(R243); the loss-of-host ramp may end here (R23). -/
def State.prepare (s : State) (c : Nat) : State :=
  let s1 := (s.raiseBit Fld.SCH_PREPPEND_PEND c).refreshLevels
  let s2 := if s1.flag Fld.SCH_CTRL_DEMAND && s1.cylEn c && !s1.isDrag && !s1.sys.supDown then s1.buildSet c else s1
  (s2.withSch { s2.sch with prepAt := s2.now, prepAngle := s2.out, prepMeter := s2.voter.meter }).mirrorDem.checkRamp

end Sys2Proof.Machine
end

