-- ==== Sys2Proof/Machine/SchedRows.lean ====
section
/-! DEFINITION. Scheduler and converter rows (R106–R139), and the cycle wraps of the trackers (R79–R82, R92). -/

namespace Sys2Proof.Machine

/-- The scheduler runs: its clock and SCH_CTRL.EN. -/
def State.schOn (s : State) : Bool := s.flag Fld.CLK_GATE0_SCH && s.flag Fld.SCH_CTRL_EN

/-- PREPARE_EVENT (R129): TRK_OUT has reached the latch angle less SCH_PREP. -/
def execPrepareEvent (dt : Nat) (cyl : Fin 24) (s : State) : Result :=
  let c := cyl.val
  let s1 := s.advance dt
  .next (if s1.schOn && s1.cylWatched c && s1.sch.prepPend.testBit c then ((s1.takePrep c).prepare c).settle else s1)

/-- Whether a drag commits on the cope's COMMIT cells and not at its own latch (R244). -/
def State.commitsByCell (s : State) : Bool :=
  s.isDrag && s.flag Fld.FLO_PAIRSTAT_MIRROR_SYNC && !s.flag Fld.FLO_PAIRSTAT_HB_LOST

def State.putLatchWait (s : State) (c : Nat) (v : Option Nat) : State :=
  s.withFlo { s.flo with latchWait := spPut (fun _ => none) s.flo.latchWait c v }

/-- The drag's own latch passes while it commits by cells (R244): it waits for the cell, unless that has come. -/
def State.ownLatch (s : State) (c : Nat) : State :=
  match spGet (fun _ => none) s.flo.latchWait c with
  | none => s.putLatchWait c (some (s.now + 1))
  | some 0 => s.putLatchWait c none
  | some _ => s

/-- COMMIT (R107–R112, R244): TRK_OUT has reached the latch angle. A drag that commits without a COMMIT cell sets COMMIT_LOCAL. -/
def execCommit (dt : Nat) (cyl : Fin 24) (s : State) : Result :=
  let c := cyl.val
  let s1 := s.advance dt
  .next (if s1.schOn && s1.cylWatched c && s1.sch.latchPend.testBit c then
      let s2 := s1.takeLatch c
      (if s2.commitsByCell then (s2.ownLatch c).settle
       else
         let s3 := if s2.isDrag then s2.raiseFlag Fld.FLO_PAIRSTAT_COMMIT_LOCAL else s2
         (s3.commitCyl false c).checkRamp.settle)
    else s1)

/-- VBOOST as the device measures it, in 0.1 V; the cycle keeps the lowest (R163, R212). -/
def State.seeVboost (s : State) (v : Nat) : State :=
  (s.set Fld.DRV_VBOOST_VBOOST v).setCounts { s.wit.now with vboostMin := Nat.min s.wit.now.vboostMin (v % 1024) }

/-- Of two slots that reached their starts in the same tick, the one that acts first: events in ascending slot number (R106), shots in
service order (R25). -/
def State.actsBefore (s : State) (m n : Nat) : Bool :=
  spGet (fun _ => 0) s.sch.fireTick m == spGet (fun _ => 0) s.sch.fireTick n &&
  (if (s.activeDesc m).isEvent then (s.activeDesc n).isEvent && decide (m < n)
   else !(s.activeDesc n).isEvent && (match s.cylOf m, s.cylOf n with
     | some c, some e => s.servedBefore (s.shotOf c m false) (s.shotOf e n false)
     | _, _ => false))

/-- A slot whose start has been reached fires, when the conditions of R114 still hold. -/
def State.fireDue (s : State) (n : Nat) : State :=
  match s.cylOf n with
  | some c => if s.armed n && s.mayFire n && s.sch.firePend.contains n then s.fireSlot c n false else s
  | none => s

/-- The due slots that satisfy `p` fire in their order. -/
def State.fireAll (s : State) (p : Nat → Bool) : State := (inOrder s.actsBefore (s.sch.firePend.filter p)).foldl State.fireDue s

/-- SLOT_FIRE (R114): an armed slot's start is reached while firing is permitted; `vboost` is the rail in that tick (R121). The slots that act
before it in that tick have then acted, whether or not their own rows have come (R25, R106). -/
def execSlotFire (dt : Nat) (slot : Fin 2048) (vboost : Nat) (s : State) : Result :=
  let n := slot.val
  let s1 := (s.advance dt).seeVboost vboost
  .next (if s1.sch.firePend.contains n then ((s1.fireAll (fun m => s1.actsBefore m n)).fireDue n).settle else s1)

/-- BOOST_GRANT (R122): the shots that reached their starts by this tick wait before a grant is given. -/
def execBoostGrant (dt : Nat) (bank : Fin 8) (s : State) : Result :=
  let s0 := s.advance dt
  let s1 := s0.fireAll (fun n => !(s0.activeDesc n).isEvent)
  .next (match s1.grantable bank.val with
    | some w => (s1.giveBoost bank.val w).settle
    | none => s1.settle)

/-- BANK_WAIT_TIMEOUT (R122): shots of the channel that have waited longer than DRV_BANK.TOL. -/
def execBankWaitTimeout (dt : Nat) (channel : Fin 48) (s : State) : Result :=
  let n := channel.val
  let k := bankOf n
  let s1 := s.advance dt
  .next ((((s1.waitingOn k).filter (fun w => w.ch == n && s1.tolOver k w)).foldl
    (fun s w => s.endWait k w) s1).settle)

/-- SHOT_ANGLE_END (R118, R122): a waiting shot's ANGLE end is reached, or, at a decision of its channel (R179), a running shot's. -/
def execShotAngleEnd (dt : Nat) (channel : Fin 48) (s : State) : Result :=
  let n := channel.val
  let k := bankOf n
  let s1 := s.advance dt
  let s2 := ((s1.waitingOn k).filter (fun w => w.ch == n && s1.endReached w)).foldl (fun s w => s.endWait k w) s1
  .next ((match (s2.chan n).shot with
    | some sh => if s2.occupies n && s2.decides n && (s2.chan n).endAt.isNone && s2.endReached sh then s2.enterEnd n else s2
    | none => s2).settle)

/-- SHOT_TIME_END (R118), at a decision of the channel (R179). -/
def execShotTimeEnd (dt : Nat) (channel : Fin 48) (s : State) : Result :=
  let n := channel.val
  let s1 := s.advance dt
  .next (match (s1.chan n).endAt with
    | some e => if s1.occupies n && s1.decides n && decide (e ≤ s1.now) then (s1.enterEnd n).settle else s1
    | none => s1)

-- ── Cycle wraps ───────────────────────────────────────────────────────────────────────────────────────────────────

/-- Teeth of a cycle: the intervals that a description gives (R81). -/
def State.teethPerCycle (s : State) (x : Nat) : Nat := ((List.range (s.posCyc x)).filter (s.isTooth x)).length

/-- A cycle in which every interval was updated counts for training; the bucket becomes trained at MIN_CYC (R81). -/
def State.trainCycle (s : State) (x : Nat) : State :=
  let t := s.trk x
  let b := s.get (Fld.TRK_LOAD_ACTIVE x)
  if t.updates < s.teethPerCycle x || s.teethPerCycle x = 0 then s
  else
    let c := spGet (fun _ => 0) t.trainCnt b + 1
    let s1 := s.setTrk x { t with trainCnt := spPut (fun _ => 0) t.trainCnt b c }
    if s.get (Fld.TRK_LEARN_MIN_CYC x) ≤ c then s1.raiseBit (Fld.TRK_LOAD_TRAINED x) b else s1

/-- The profile learns from a cycle of duration `dur` (R82): `l` holds the cycle's teeth and stamps, oldest first. -/
def State.learnProfile (s : State) (x dur : Nat) (l : List (Nat × Nat)) : State :=
  match l with
  | [] => s
  | (i0, t0) :: _ =>
    -- d(i) × T for each tooth
    let ds : List (Nat × Int) := l.map (fun e =>
      (e.1, ((e.2 - t0) * cycleAu : Nat) - (((s.theta x e.1 + cycleAu - s.theta x i0 % cycleAu) % cycleAu * dur : Nat) : Int)))
    let sum := ds.foldl (fun a e => a + e.2) 0
    let n := ds.length
    let t := s.trk x
    s.setTrk x { t with profile := ds.foldl (fun p e =>
      let c := toSigned 16 (spGet (fun _ => 0) p e.1)
      let v := clampInt (-32767) 32767
        (divRoundInt (c * (n * dur * 2 ^ s.get (Fld.TRK_LEARN_PMU x) : Nat) + (n * e.2 - sum)) (n * dur * 2 ^ s.get (Fld.TRK_LEARN_PMU x)))
      spPut (fun _ => 0) p e.1 (ofSigned 16 v)) t.profile }

/-- Whether a cycle counts for profile learning (R82): every edge has met R80, and no edge is missing. -/
def State.profileCounts (s : State) (x dur : Nat) : Bool :=
  let t := s.trk x
  s.flag (Fld.TRK_LEARN_PROF_LEARN x) && t.cleanNow && t.learnNow && dur != 0 && t.prevDur != 0 &&
  decide (1000 * ((dur : Int) - t.prevDur).natAbs < 2 * t.prevDur) &&
  (s.get (Fld.TRK_LEARN_PROF_GATE x) == 1 || !s.sch.firedIn.testBit x)

/-- The stamps of a cycle, latest first, parted where the corrected angle falls between two teeth: those after the fall, if any, and the
rest. -/
def State.partStamps (s : State) (x : Nat) : List (Nat × Nat) → List (Nat × Nat) × List (Nat × Nat)
  | a :: b :: r =>
    if s.theta x a.1 < s.theta x b.1 then ([a], b :: r)
    else let p := s.partStamps x (b :: r); if p.1 = [] then ([], a :: p.2) else (a :: p.1, p.2)
  | l => ([], l)

/-- At a wrap: the stamps of the next cycle, whose first teeth may have come before it, and the cycle's own (R82). The few that a cycle's
last teeth left after the wrap before are dropped. -/
def State.splitCycle (s : State) (x : Nat) (l : List (Nat × Nat)) : List (Nat × Nat) × List (Nat × Nat) :=
  let p := s.partStamps x l
  if p.2.length < p.1.length then ([], p.1) else p

/-- A cycle wrap of tracker `x` (R79, R81, R82, R92, R97). -/
def State.trackerWrap (s0 : State) (x : Nat) : State :=
  let s := s0.setBefore x none
  let dur := 16 * s.tclk - (s.trk x).wrapAt
  let s1 := (s.setTrk x { s.trk x with wrapPend := false }).irq (38 + 8 * x)
  let s2 := s1.trainCycle x
  let cut := s2.splitCycle x (s2.trk x).stamps
  let s3 := if s2.profileCounts x dur then s2.learnProfile x dur cut.2.reverse else s2
  let t := s3.trk x
  let st := s3.trkState x
  let h := Nat.min 255 t.healthNow
  let s4 := s3.showHealth x (if st = 4 ∨ st = 5 then h else 255)
  let s5 := s4.set (Fld.TRK_LOAD_ACTIVE x) (s4.get (Fld.TRK_LOAD_BUCKET x))
  let s6 := s5.withSch { s5.sch with firedIn := s5.sch.firedIn - (if s5.sch.firedIn.testBit x then 2 ^ x else 0) }
  s6.setTrk x { t with
    healthNow := 0, health := h, cleanPrev := t.cleanNow, cleanNow := st == 4 && !s6.flag (Fld.TRK_STAT_CRAWL x) && !s6.trkReverse x
    learnNow := true, updates := 0, stamps := cut.1, wrapAt := 16 * s6.tclk, prevDur := dur }

/-- A slot that R108 held back is armed, when it still belongs to an active set; a start that TRK_OUT has reached since the wrap fires
(R114, R116). -/
def State.armHeld (s : State) (n : Nat) : State :=
  let d := s.activeDesc n
  match s.cylOf n with
  | some _ =>
    if !d.en then s
    else
      let s1 := s.setArmed n true
      if d.start ≤ s1.out && s1.firingOn && s1.rested n then s1.withSch { s1.sch with firePend := s1.sch.firePend ++ [n] } else s1
  | none => s

/-- The wraps since the last refresh (R135): a wrap without one counts, and the first raises source 68. -/
def State.countAutonomy (s : State) : State :=
  if s.sch.refreshed then (s.set Fld.SCH_STAT_AUTO_CNT 0).withSch { s.sch with refreshed := false }
  else
    let n := Nat.min 255 (s.get Fld.SCH_STAT_AUTO_CNT + 1)
    let s1 := (s.set Fld.SCH_STAT_AUTO_CNT n).anom 7
    if n = 1 then s1.irq 68 else s1

/-- A forward cycle wrap of TRK_OUT (R23, R116, R135, R212). -/
def State.outputWrap (s : State) : State :=
  let s1 := { s with voter := { s.voter with outWrap := false } }
  let s2 := (List.range 64).foldl (fun s w => s.setWord (Reg.SCH_FIRED w) 0) s1
  let s3 := s2.sch.heldBack.foldl State.armHeld (s2.withSch { s2.sch with heldBack := [] })
  let s4 := s3.countAutonomy
  let s5 := if s4.flag Fld.SYS_STAT_HOST_RAMP then s4.withSys { s4.sys with rampCycles := s4.sys.rampCycles + 1 } else s4
  let s6 := if s5.flag Fld.FLO_SYSSTAT_ADOPT_PEND then s5.adoptNow else s5
  s6.checkRamp.snapshot false

/-- CYCLE_WRAP (R79, R92, R93, R116): every wrap that has taken place is acted on; the voter may then change its selection. -/
def execCycleWrap (dt : Nat) (s : State) : Result :=
  let s1 := s.advance dt
  let w0 := (s1.trk 0).wrapPend
  let w1 := (s1.trk 1).wrapPend
  let s2 := if w0 then s1.trackerWrap 0 else s1
  let s3 := if w1 then s2.trackerWrap 1 else s2
  let s4 := if s3.voter.outWrap then s3.outputWrap else s3
  .next (if w0 || w1 then s4.afterTracker s1 s4.sel (if s4.sel = 0 then w0 else w1) false false else s4.settle)

-- ── Converters (R136–R139) ────────────────────────────────────────────────────────────────────────────────────────

/-- A result enters the FIFO of converter `a` (R138). -/
def State.pushResult (s : State) (a : Nat) (w : Word) : State :=
  let x := s.adc a
  if 64 ≤ x.fifo.length then ((s.setAdc a { x with ovrNext := true }).raiseFlag (Fld.ADC_STAT_OVR a)).irq (161 + 4 * a)
  else (s.setAdc a { x with fifo := x.fifo ++ [if x.ovrNext then w ||| 0x20000 else w], ovrNext := false
                            newer := x.newer.map (· + 1) }).refreshLevels

/-- ADC_xLASTi takes a conversion (R137). -/
def State.setLast (s : State) (ain code : Nat) : State :=
  s.setWord (Reg.ADC_LAST (ain / 4) (ain % 4)) (BitVec.ofNat 32 (2 ^ 15 + code % 4096))

/-- The burst's newest result, while the FIFO still holds it, carries LAST (R136). -/
def AdcState.markLast (x : AdcState) : AdcState :=
  match x.newer with
  | some k => { x with fifo := x.fifo.zipIdx.map (fun e => if e.2 + k + 1 = x.fifo.length then e.1 ||| 0x10000 else e.1) }
  | none => x

/-- The burst's end (R136, R138). -/
def State.burstEnd (s : State) (a : Nat) : State :=
  ((s.setAdc a { (s.adc a).markLast with burst := none, skipNext := false }).set (Fld.ADC_STAT_BURST a) 0).irq (162 + 4 * a)

/-- A burst conversion of `code` (R136, R137, R139): `n` conversions have taken place before it. It is the last when BURST_MAX is reached
or the next would begin at or after WEND at the present rate (DEDUCED, log entry 80). -/
def State.burstConvert (s : State) (a ain wend period n code : Nat) : State :=
  let x := s.adc a
  let next := (s.outAcc + s.outRate * period) / fracOne % cycleAu
  let runs := s.inputServed ain
  let last := decide (angDist next wend ≤ 0) || (runs && decide (Nat.max 1 (s.get (Fld.ADC_CFG_BURST_MAX a)) ≤ n + 1))
  let s1 :=
    if !runs then s.addWrap (Fld.ADC_STAT_CALV_SKIP a) 1
    else
      let w : Nat := code % 4096 + ain * 4096 + (if last then 2 ^ 16 else 0) + (if x.skipNext then 2 ^ 18 else 0)
      let p := ((s.setAdc a { x with skipNext := false }).pushResult a (BitVec.ofNat 32 w)).setLast ain code
      p.setAdc a { p.adc a with newer := if x.fifo.length < 64 then some 0 else none }
  let s2 := s1.setAdc a { s1.adc a with burst := some (ain, wend, period, if runs then n + 1 else n), burstAt := x.burstAt + period, begun := true }
  if last then s2.burstEnd a else s2

/-- A single sample's conversion (R136, R137): during a burst it takes the burst's slot, and no conversion of the burst. -/
def State.sampleConvert (s : State) (a ain code : Nat) : State :=
  let x := s.adc a
  let s1 := ((s.setAdc a { x with samples := x.samples.drop 1 }).pushResult a (BitVec.ofNat 32 (code % 4096 + ain * 4096))).setLast ain code
  if x.burst.isNone then s1
  else (s1.setAdc a { s1.adc a with burstAt := x.burstAt + (x.burst.elim 0 (·.2.2.1)), begun := true, skipNext := true }).addWrap
    (Fld.ADC_STAT_SKIP a) 1

/-- The oldest waiting SAMPLE, if any, takes the conversion. -/
def State.sampleNext (s : State) (a code : Nat) : State :=
  match (s.adc a).samples.head? with
  | some ain => s.sampleConvert a ain code
  | none => s

/-- SAMPLEs of inputs that calving no longer serves wait no longer (R139). -/
def State.shedSamples (s : State) (a : Nat) : State :=
  let x := s.adc a
  let l := x.samples.filter s.inputServed
  if l.length = x.samples.length then s
  else (s.setAdc a { x with samples := l }).addWrap (Fld.ADC_STAT_CALV_SKIP a) (x.samples.length - l.length)

/-- ADC_BURST_CONVERSION (R136–R139): a conversion of an event slot, with its result: a sample that waits goes first; a burst's
conversion falls due at its period, and the burst ends at WEND or BURST_MAX. -/
def execAdcBurstConversion (dt : Nat) (conv : Fin 4) (code : BitVec 12) (s : State) : Result :=
  let a := conv.val
  let s0 := s.advance dt
  .next (if !s0.flag Fld.CLK_GATE0_ADC then s0 else
    let s1 := s0.shedSamples a
    let x := s1.adc a
    (match x.burst with
      | none => s1.sampleNext a code.toNat
      | some (ain, wend, period, n) =>
        if s1.now < x.burstAt then s1
        else if x.begun && s1.atOrBeyond wend then (s1.burstEnd a).sampleNext a code.toNat
        else if x.samples = [] then s1.burstConvert a ain wend period n code.toNat
        else s1.sampleNext a code.toNat).settle)

/-- The input that a scan converts next, and whether a new pass of the inputs of MASK begins: once every PERIOD (R137). -/
def State.scanInput (s : State) (a : Nat) : Option (Nat × Bool) :=
  let x := s.adc a
  let on (i : Nat) : Bool := s.bit (Fld.ADC_SCAN_MASK a) i
  let p := s.get (Fld.ADC_SCAN_PERIOD a)
  if p = 0 then none
  else match (List.range 4).find? (fun i => on i && x.scanNext ≤ i && x.scanNext != 0) with
    | some i => some (i, false)
    | none =>
      if s.passed x.scanAt (p * usTicks) then ((List.range 4).find? on).map (fun i => (i, true)) else none

/-- ADC_SCAN (R137, R139): a scan conversion in idle time writes only ADC_xLASTi. -/
def execAdcScan (dt : Nat) (conv : Fin 4) (code : BitVec 12) (s : State) : Result :=
  let a := conv.val
  let s1 := s.advance dt
  let x := s1.adc a
  .next (if !s1.flag Fld.CLK_GATE0_ADC || x.burst.isSome || x.samples != [] then s1 else
    match s1.scanInput a with
    | none => s1
    | some (i, first) =>
      let s2 := s1.setAdc a { x with scanNext := (i + 1) % 4, scanAt := if first then s1.now else x.scanAt }
      (if s2.inputServed (4 * a + i) then s2.setLast (4 * a + i) code.toNat else s2.addWrap (Fld.ADC_STAT_CALV_SKIP a) 1).settle)

end Sys2Proof.Machine
end

