-- ==== Sys2Proof/Machine/DriveRows.lean ====
section
/-! DEFINITION. Output-stage rows: regulation and phases of a profile (R175–R190), protections (R152–R154), off-state tests (R155,
R156), the boost converter (R161–R165), the thermal models (R167–R172). Currents are in mA, voltages in the unit of the register
that shows them. -/

namespace Sys2Proof.Machine

-- ── Regulation (R175–R187) ────────────────────────────────────────────────────────────────────────────────────────

/-- A current in mA against `m` setpoint codes of 40 A / 1,024 = 625 / 16 mA (R177). -/
def codeLe (code m current : Nat) : Bool := 625 * code * m ≤ 16 * current

/-- The profile's minimum time since the last change of the low-side switch is over (R183). -/
def State.mayswitch (s : State) (n : Nat) : Bool :=
  let c := s.chan n
  s.passed c.lowAt (if c.lowSide then c.prof.minOn else c.prof.minOff)

/-- The threshold comparison of a decision (R181, R183, R185, R186): at or above upper the switch turns off, with the phase's entry
decay until the lower threshold has been reached and its chop decay after; at or below lower it turns on. -/
def State.regulate (s : State) (n current : Nat) : State :=
  let c := s.chan n
  let ph := s.phase n
  let sp := s.get (Fld.PRF_CH_STAT_SP n)
  if ph < 2 || 4 < ph then s
  else
    let m := s.share n
    let fast := c.prof.fast ph c.chopping
    if codeLe (sp + c.prof.band) m current then
      (if c.lowSide && s.mayswitch n then (s.setLow n false (s.decayFast fast)).noteDecay n fast else s)
    else if !(codeLe (sp - c.prof.band) m current) || 625 * (sp - c.prof.band) * m = 16 * current then
      let s1 := s.setChan n { c with chopping := true }
      if !c.lowSide && s1.mayswitch n then s1.setLow n true false else s1
    else s

/-- The channel passes to the phase after `ph` (R175, R176). -/
def State.nextPhase (s : State) (n : Nat) : State :=
  let c := s.chan n
  let batt := (c.shot.map (·.batt)).getD false
  let p := c.prof.after batt (s.phase n)
  if p = 5 then s.enterEnd n else s.enterPhase n p

/-- The end of BOOST for the record (R197). -/
def State.noteBoostEnd (s : State) (n : Nat) : State :=
  s.modRec n (fun r => { r with boostEnd := Nat.min 65535 ((s.now - (s.chan n).startAt) / 4) })

/-- A time limit expires (R175, R178, R188): a BOOST that times out marks PEAK_MISS. -/
def State.phaseLimit (s : State) (n : Nat) : State :=
  let s1 := if s.phase n = 1 then
      ((s.set (Fld.PRF_CH_STAT_PEAK_MISS n) 1).modRec n (fun r => { r with flags := r.flags ||| 2 })).noteBoostEnd n
    else s
  s1.nextPhase n

/-- The shot's end has come (R118): its time, or its angle while no time is fixed. -/
def State.endDue (s : State) (n : Nat) : Bool :=
  s.occupies n && (match (s.chan n).endAt, (s.chan n).shot with
    | some e, _ => decide (e ≤ s.now)
    | none, some sh => s.endReached sh
    | none, none => false)
/-- The time limit of the present phase has expired (R175, R178). -/
def State.limitDue (s : State) (n : Nat) : Bool :=
  let c := s.chan n
  s.occupies n && c.shot.isSome && (match c.prof.limit ((c.shot.map (·.batt)).getD false) (s.phase n) with
    | some t => s.passed c.phaseAt t
    | none => false)

/-- Within a decision the end of the shot comes before a time limit, and that before the threshold comparison (R180). -/
def State.endFirst (s : State) (n : Nat) : State := if s.endDue n then s.enterEnd n else s
def State.limitNext (s : State) (n : Nat) : State := if s.limitDue n then s.phaseLimit n else s

/-- PHASE_TIME_LIMIT (R175, R180). -/
def execPhaseTimeLimit (dt : Nat) (channel : Fin 48) (s : State) : Result :=
  let n := channel.val
  let s1 := s.advance dt
  .next (if s1.decides n && s1.limitDue n then ((s1.endFirst n).limitNext n).settle else s1)

/-- BOOST_SETPOINT_REACHED (R188): unless the shot ends, the channel enters PEAK in this decision and is regulated from it (R180). -/
def execBoostSetpointReached (dt : Nat) (channel : Fin 48) (current : Nat) (s : State) : Result :=
  let n := channel.val
  let s1 := s.advance dt
  .next (if s1.decides n && s1.phase n == 1 && codeLe ((s1.chan n).prof.sp 1) (s1.share n) current
    then (if s1.endDue n then s1.enterEnd n else ((s1.noteBoostEnd n).nextPhase n).regulate n current).settle else s1)

/-- THRESHOLD_CROSSING (R180, R181): the comparison comes after an end or a time limit of the same decision. -/
def execThresholdCrossing (dt : Nat) (channel : Fin 48) (current : Nat) (s : State) : Result :=
  let n := channel.val
  let s1 := s.advance dt
  .next (if s1.decides n then (((s1.endFirst n).limitNext n).regulate n current).settle else s1)

/-- END_COMPLETE (R187): the current has fallen below END_I; the channel is idle. -/
def execEndComplete (dt : Nat) (channel : Fin 48) (current : Nat) (s : State) : Result :=
  let n := channel.val
  let s1 := s.advance dt
  .next (if s1.decides n && s1.phase n == 5 && !codeLe (s1.chan n).prof.endI (s1.share n) current
    then ((s1.modRec n (fun r => { r with doneAt := some s1.now })).goIdle n).settle else s1)

/-- END_OVER (R187): END has lasted longer than END_T while the current stands at or above END_I. -/
def execEndOver (dt : Nat) (channel : Fin 48) (current : Nat) (s : State) : Result :=
  let n := channel.val
  let s1 := s.advance dt
  let c := s1.chan n
  .next (if s1.decides n && s1.phase n == 5 && c.prof.endT != 0 && c.phaseAt + 4 * c.prof.endT < s1.now && codeLe c.prof.endI (s1.share n) current
    then ((s1.set (Fld.PRF_CH_STAT_END_OVER n) 1).modRec n (fun r => { r with flags := r.flags ||| 4 })).settle else s1)

-- ── Protections (R152, R153) ──────────────────────────────────────────────────────────────────────────────────────

/-- A channel fault flag sets (R148, R153): the source 80 + n, the record's class, SYS_FAULT.DRV, the shots that wait for the channel
end REFUSED_FAULT, the good tests count anew (R154), and the pair logic is told in the tick in which the flag sets (R207). -/
def State.chanFault (s : State) (n : Nat) (f : FReg) (cls : Nat) : State :=
  let was := s.flag f
  let e := s.lead n
  let s1 := s.raiseFlag f
  let s2 := if was then s1 else ((s1.irq (80 + e)).raiseFault Fld.SYS_FAULT_DRV).anom 11
  let s3 := s2.modRec e (fun r => { r with fault := minClass r.fault cls })
  let s4 := (s3.refuseWaiting (fun w => w.ch == e)).setChan n { s3.chan n with goodTests := 0 }
  if was then s4 else s4.passFault e cls

/-- The running channels of a bank. -/
def State.runningOf (s : State) (k : Nat) : List Nat := (bankChans k).filter s.occupies

/-- Both high-sides of the bank are off and every running channel of it enters END (R152). -/
def State.endBank (s : State) (k : Nat) : State := (s.runningOf k).foldl (fun s n => s.protEnd n) s

/-- A bank fault flag sets (R148, R152, R153). -/
def State.bankFaultSet (s : State) (k : Nat) (f : FReg) : State :=
  let was := s.flag f
  let s1 := s.raiseFlag f
  let s2 := if was then s1 else ((s1.irq (128 + k)).raiseFault Fld.SYS_FAULT_DRV).anom 11
  let s3 := (s2.runningOf k).foldl (fun s n => s.modRec n (fun r => { r with fault := minClass r.fault 5 })) s2
  let s4 := (s3.endBank k).refuseWaiting (fun w => bankOf w.ch == k)
  if was then s4 else s4.passBankFault

/-- A channel, or its pair, turns off: its current decays into VBOOST (R152). An output self-test on it has tripped (R402). -/
def State.trip (s : State) (n : Nat) : State :=
  let e := s.lead n
  let s0 := if s.tst.otCh = e + 1 then s.withTst { s.tst with otTrip := true } else s
  if s0.occupies e then let s1 := s0.protEnd e; (s1.setLow e false (s1.decayFast true)).noteDecay e true else s0

/-- OVERCURRENT_TRIP (R149, R152): above 45 A. A trip on either channel of a pair sets OC on both. -/
def execOvercurrentTrip (dt : Nat) (channel : Fin 48) (current : Nat) (s : State) : Result :=
  let n := channel.val
  let s1 := s.advance dt
  let e := s1.lead n
  .next (if 45000 < current then
    let s2 := if !s1.inPair n then s1
      else if s1.flag (Fld.DRV_CH_STAT_OC e) then s1.chanFault (e + 1) (Fld.DRV_CH_STAT_OC (e + 1)) 1
      else s1.raiseFlag (Fld.DRV_CH_STAT_OC (e + 1))
    (((s2.chanFault e (Fld.DRV_CH_STAT_OC e) 1)).trip n).settle
    else s1)

/-- HS_OVERCURRENT_TRIP (R152): above 110 A on the boost high-side, 50 A on the battery high-side. -/
def execHsOvercurrentTrip (dt : Nat) (bank : Fin 8) (boost : Bool) (current : Nat) (s : State) : Result :=
  let k := bank.val
  let s1 := s.advance dt
  .next (if (if boost then 110000 else 50000) < current then (s1.bankFaultSet k (Fld.DRV_BANKSTAT_HS_OC k)).settle else s1)

/-- FOREIGN sets on a bank outside its mask (R152, R160, R257): source 128 + k, the records of the running shots, the pair logic. -/
def State.setForeign (s : State) (k : Nat) : State :=
  if s.now < (s.bank k).maskUntil then s
  else
    let f := Fld.DRV_BANKSTAT_FOREIGN k
    let was := s.flag f
    let s1 := s.raiseFlag f
    let s2 := if was then s1 else s1.irq (128 + k)
    (((bankChans k).filter (fun n => s2.phase n != 0)).foldl (fun s n => s.modRec n (fun r => { r with flags := r.flags ||| 8192 })) s2).foreignRule

/-- CURRENT_MISMATCH_TRIP (R152): the node's current exceeds the channels' sum (`node`), or the channel's the node's, by at least
FOREIGN_THR for 2 µs. -/
def execCurrentMismatchTrip (dt : Nat) (channel : Fin 48) (node : Bool) (excess : Int) (s : State) : Result :=
  let n := channel.val
  let k := bankOf n
  let s1 := s.advance dt
  .next (if excess < (100 * s1.get Fld.DRV_STBY_FOREIGN_THR : Nat) then s1
    else if s1.flag Fld.DRV_CTRL_PAIR_MODE then (s1.setForeign k).settle
    else if node then (s1.bankFaultSet k (Fld.DRV_BANKSTAT_SHORT_GND k)).settle
    else ((s1.chanFault n (Fld.DRV_CH_STAT_SHORT_BAT n) 2).trip n).settle)

/-- OPEN_LOAD_CHECK (R152): once in a shot, at OPEN_T after its start with the node powered. -/
def execOpenLoadCheck (dt : Nat) (channel : Fin 48) (current : Nat) (s : State) : Result :=
  let n := channel.val
  let s1 := s.advance dt
  let c := s1.chan n
  .next (if s1.occupies n && !c.openDone && s1.passed c.startAt (4000 * s1.get (Fld.DRV_CH_CFG_OPEN_T n)) then
    let s2 := s1.setChan n { c with openDone := true }
    if current < 100 * s2.get Fld.DRV_DIAG_OPEN_I then ((s2.chanFault n (Fld.DRV_CH_STAT_OPEN n) 4).protEnd n).settle else s2.settle
    else s1)

/-- FOREIGN_MASK_END (R160). -/
def execForeignMaskEnd (dt : Nat) (bank : Fin 8) (s : State) : Result :=
  let s1 := s.advance dt
  let b := s1.bank bank.val
  .next (if b.maskUntil ≤ s1.now then s1.setBank bank.val { b with maskUntil := 0 } else s1)

-- ── Off-state tests (R154–R156) ───────────────────────────────────────────────────────────────────────────────────

/-- Whether the off-state test of a bank may begin now (R155). -/
def State.testDue (s : State) (k : Nat) : Bool :=
  let per := s.get Fld.DRV_DIAG_PERIOD * msTicks
  let b := s.bank k
  s.flag Fld.DRV_CTRL_DIAG_EN && (!s.flag Fld.DRV_CTRL_PAIR_MODE || s.isCope) && per != 0 && !s.allBlocked && b.testStep == 0 &&
  (bankChans k).all (fun n => !s.holdsBank n && !s.waitsOn n && !s.inStandby n) &&
  (match b.lastTest with | none => true | some t => s.passed t per) &&
  ((List.range 8).all (fun j => (s.bank j).lastTest.isNone) || s.passed s.drv.staggerAt (per / 8))

/-- OFF_STATE_TEST (R155). -/
def execOffStateTest (dt : Nat) (bank : Fin 8) (s : State) : Result :=
  let k := bank.val
  let s1 := s.advance dt
  .next (if s1.testDue k then
    let s2 := s1.setBank k { s1.bank k with testStep := 1, testAt := s1.now, reads := [], lastTest := some s1.now }
    ((s2.withDrv { s2.drv with staggerAt := s2.now }).set (Fld.DRV_BANKSTAT_DIAG_RUN k) 1).settle
    else s1)

/-- What the two readings of a channel, in mV, show. -/
inductive OffResult where
  | good
  | openLoad
  | shortGnd
  | shortBat
  | inconclusive
  deriving DecidableEq, Repr

/-- The table of R155. -/
def offResult (a b : Nat) : OffResult :=
  if 6000 < a || 6000 < b then .shortBat
  else if 4000 < a && 2500 ≤ b then .good
  else if a < 1000 && 2500 ≤ b then .openLoad
  else if a < 1000 && b < 1000 then .shortGnd
  else .inconclusive

/-- A channel's test is classified (R154, R155): flags set; eight good tests in a row clear OPEN and the shorts when AUTOCLR is 1. -/
def State.offClassify (s : State) (n a b : Nat) : State :=
  if !s.flag (Fld.DRV_CH_CFG_DIAG n) then s else
  let none_ := s.setChan n { s.chan n with goodTests := 0 }
  match offResult a b with
  | .good =>
    let g := (s.chan n).goodTests + 1
    if s.flag Fld.DRV_DIAG_AUTOCLR && 8 ≤ g then
      (((s.setChan n { s.chan n with goodTests := 8 }).clearFlag (Fld.DRV_CH_STAT_OPEN n)).clearFlag
        (Fld.DRV_CH_STAT_SHORT_BAT n)).clearFlag (Fld.DRV_CH_STAT_SHORT_GND n)
    else s.setChan n { s.chan n with goodTests := Nat.min 8 g }
  | .openLoad => none_.chanFault n (Fld.DRV_CH_STAT_OPEN n) 4
  | .shortGnd => none_.chanFault n (Fld.DRV_CH_STAT_SHORT_GND n) 3
  | .shortBat => none_.chanFault n (Fld.DRV_CH_STAT_SHORT_BAT n) 2
  | .inconclusive => none_

/-- The test of a bank ends: source 142 once all eight banks have been tested (R174). -/
def State.testEnds (s : State) (k : Nat) : State :=
  let s1 := (s.setBank k { s.bank k with testStep := 0, reads := [] }).set (Fld.DRV_BANKSTAT_DIAG_RUN k) 0
  let r := s1.drv.round ||| 2 ^ k
  if r = 255 then (s1.withDrv { s1.drv with round := 0 }).irq 142 else s1.withDrv { s1.drv with round := r }

/-- OFF_STATE_STEP_END (R155): 200 µs of a step have passed; the readings of the six channels are in mV. -/
def execOffStateStepEnd (dt : Nat) (bank : Fin 8) (readings : List Nat) (s : State) : Result :=
  let k := bank.val
  let s1 := s.advance dt
  let b := s1.bank k
  .next (if b.testStep = 0 || !s1.passed b.testAt (200 * usTicks) then s1
    else if b.testStep = 1 then (s1.setBank k { b with testStep := 2, testAt := s1.now, reads := readings }).settle
    else (((List.range 6).foldl (fun s i => s.offClassify (6 * k + i) (b.reads.getD i 0) (readings.getD i 0)) s1).testEnds k).settle)

-- ── The boost converter (R161–R165) ───────────────────────────────────────────────────────────────────────────────

/-- The converter runs (R161). -/
def State.converterOn (s : State) : Bool := s.flag Fld.DRV_CTRL_BOOST_EN && s.get Fld.PWR_STAT_STAGE < 6

/-- The limit on the converter's input current, in the unit of DRV_BLIM (R161): IIN, or IIN_HOLD from stage C3 on; it ramps from 0 over
2 ms after BOOST_EN rises, and is half of it while one phase has failed (R165). The current itself lies outside the model. -/
def State.inputLimit (s : State) : Nat :=
  let whole := if 3 ≤ s.get Fld.PWR_STAT_STAGE then s.get Fld.DRV_BLIM_IIN_HOLD else s.get Fld.DRV_BLIM_IIN
  let full := if s.flag Fld.DRV_STAT_PH0_FAIL || s.flag Fld.DRV_STAT_PH1_FAIL then whole / 2 else whole
  if !s.converterOn then 0 else if s.passed s.drv.boostAt (2 * msTicks) then full
  else full * (s.now - s.drv.boostAt) / (2 * msTicks)

/-- BOOST_CHARGE_START (R161): below VSET − BAND; BAND in 0.25 V, 0 acts as 1. -/
def execBoostChargeStart (dt : Nat) (vboost : Nat) (s : State) : Result :=
  let s1 := (s.advance dt).seeVboost vboost
  .next (if s1.converterOn && !s1.flag Fld.DRV_STAT_CHARGING &&
      10 * vboost + 25 * Nat.max 1 (s1.get Fld.DRV_BCFG_BAND) < 10 * s1.get Fld.DRV_BCFG_VSET
    then ((s1.withDrv { s1.drv with chargeAt := s1.now, failTold := false }).set Fld.DRV_STAT_CHARGING 1).settle else s1)

/-- BOOST_CHARGE_STOP (R161). -/
def execBoostChargeStop (dt : Nat) (vboost : Nat) (s : State) : Result :=
  let s1 := (s.advance dt).seeVboost vboost
  .next (if s1.get Fld.DRV_BCFG_VSET ≤ vboost then (s1.set Fld.DRV_STAT_CHARGING 0).settle else s1)

/-- VBOOST_LOW (R163). -/
def execVboostLow (dt : Nat) (vboost : Nat) (s : State) : Result :=
  let s1 := (s.advance dt).seeVboost vboost
  .next (if vboost < s1.get Fld.DRV_VBOOSTMIN_VMIN && !s1.flag Fld.DRV_STAT_BOOST_LOW
    then ((((s1.withDrv { s1.drv with lowAt := s1.now, failTold := false }).set Fld.DRV_STAT_BOOST_LOW 1).irq 136).anom 9).settle else s1)

/-- VBOOST_RECOVERED (R163). -/
def execVboostRecovered (dt : Nat) (vboost : Nat) (s : State) : Result :=
  let s1 := (s.advance dt).seeVboost vboost
  .next (if s1.get Fld.DRV_VBOOSTMIN_VMIN ≤ vboost then (s1.set Fld.DRV_STAT_BOOST_LOW 0).settle else s1)

/-- A flag of DRV_STAT sets and raises a source when it was clear. -/
def State.raiseOnce (s : State) (f : FReg) (src : Nat) : State := if s.flag f then s.raiseFlag f else (s.raiseFlag f).irq src

/-- BOOST_OV (R164): VSET + OV_MARGIN, or 110 V if that is lower. -/
def execBoostOv (dt : Nat) (vboost : Nat) (s : State) : Result :=
  let s1 := (s.advance dt).seeVboost vboost
  .next (if Nat.min 1100 (s1.get Fld.DRV_BCFG_VSET + 10 * s1.get Fld.DRV_BCFG_OV_MARGIN) ≤ vboost
    then ((s1.set Fld.DRV_STAT_CHARGING 0).raiseOnce Fld.DRV_STAT_BOOST_OV 137).settle else s1)

/-- CLAMP_SLOW (R164): the clamp's dissipation averaged over 100 ms. -/
def execClampSlow (dt : Nat) (milliwatts : Nat) (s : State) : Result :=
  let s1 := s.advance dt
  .next (if 15000 < milliwatts then ((s1.set Fld.DRV_STAT_CLAMP_SLOW 1).anom 10).settle
    else if milliwatts < 10000 then (s1.set Fld.DRV_STAT_CLAMP_SLOW 0).settle else s1)

/-- BOOST_PHASE_FAIL (R165): a phase whose current has not reached 1 A within 16 periods of 2.5 µs of charging. -/
def execBoostPhaseFail (dt : Nat) (phase : Fin 2) (s : State) : Result :=
  let s1 := s.advance dt
  let f := if phase = 0 then Fld.DRV_STAT_PH0_FAIL else Fld.DRV_STAT_PH1_FAIL
  .next (if s1.flag Fld.DRV_STAT_CHARGING && !s1.flag f && s1.passed s1.drv.chargeAt (40 * usTicks)
    then ((((s1.set f 1).raiseFlag Fld.DRV_STAT_BOOST_FAIL).irq 138).raiseFault Fld.SYS_FAULT_DRV).settle else s1)

/-- BOOST_FAIL (R165): VBOOST below DRV_VBOOSTMIN through 50 ms of continuous charging; reported once. -/
def execBoostFail (dt : Nat) (s : State) : Result :=
  let s1 := s.advance dt
  .next (if s1.flag Fld.DRV_STAT_CHARGING && s1.flag Fld.DRV_STAT_BOOST_LOW && s1.passed s1.drv.chargeAt (50 * msTicks) &&
      s1.passed s1.drv.lowAt (50 * msTicks) && !s1.drv.failTold
    then (((s1.withDrv { s1.drv with failTold := true }).raiseFlag Fld.DRV_STAT_BOOST_FAIL).irq 138 |>.raiseFault Fld.SYS_FAULT_DRV).settle else s1)

-- ── Thermal models (R167–R172) ────────────────────────────────────────────────────────────────────────────────────

/-- Ta in °C: AMB, or FAIL_T while STALE stands (R168). -/
def State.ambient (s : State) : Int :=
  if s.flag Fld.DRV_AMB_STALE then (s.get Fld.DRV_AMB_FAIL_T : Nat) else toSigned 8 (s.get Fld.DRV_AMB_AMB)

/-- One forward Euler step of 1 ms of a coil's temperatures, in 10^-9 °C; `e` is the sum of i² × Δt in 10^-6 A²s (R167). Both
temperatures step from the values before it (log entry 15). -/
def State.coilStep (s : State) (n e : Nat) : Int × Int :=
  let c := s.chan n
  let m := s.get (Fld.DRV_CH_CFG_TMODEL n)
  let p : Int := divRoundInt ((e : Int) * (1000 * s.get (Fld.DRV_TMODEL_R_RCOIL m) : Nat) *
    (1000000000000000 + (s.get (Fld.DRV_TMODEL_R_TC m) : Nat) * (c.tw - 25000000000))) 1000000000000000
  let q : Int := divRoundInt ((c.tw - c.tb) * 100) (s.get (Fld.DRV_TMODEL_G_RWB m))
  let r : Int := divRoundInt ((c.tb - s.ambient * 1000000000) * 100) (s.get (Fld.DRV_TMODEL_G_RBA m))
  (c.tw + divRoundInt (p - q) (10 * s.get (Fld.DRV_TMODEL_C_CW m)), c.tb + divRoundInt (q - r) (100 * s.get (Fld.DRV_TMODEL_C_CB m)))

/-- The thermal step at a winding temperature: entered at its threshold, left 5 K below (R169). -/
def State.thermalStep (s : State) (n : Nat) (tw : Int) : Nat :=
  let m := s.get (Fld.DRV_CH_CFG_TMODEL n)
  let cur := s.get (Fld.DRV_CH_STAT_TSTEP n)
  let on (k t : Nat) : Bool := decide ((t : Int) * 1000000000 ≤ tw) || (k ≤ cur && decide (((t : Int) - 5) * 1000000000 < tw))
  if on 3 (s.get (Fld.DRV_TMODEL_T_T3 m)) then 3 else if on 2 (s.get (Fld.DRV_TMODEL_T_T2 m)) then 2
  else if on 1 (s.get (Fld.DRV_TMODEL_T_T1 m)) then 1 else 0

/-- A coil's temperatures take new values: the step, THERM_STOP, source 80 + n, SYS_FAULT.DRV, the cycle's TW_MAX (R169, R212). -/
def State.putCoil (s : State) (n : Nat) (t : Int × Int) : State :=
  let k := s.thermalStep n t.1
  let old := s.get (Fld.DRV_CH_STAT_TSTEP n)
  let s1 := s.setChan n { s.chan n with tw := t.1, tb := t.2 }
  let s2 := s1.setCounts { s1.wit.now with twMax := if s1.wit.now.twMax < t.1 then t.1 else s1.wit.now.twMax }
  if k = old then s2
  else
    let s3 := ((s2.set (Fld.DRV_CH_STAT_TSTEP n) k).setFlag (Fld.DRV_CH_STAT_THERM_STOP n) (k == 3)).irq (80 + n)
    if k = 3 then s3.raiseFault Fld.SYS_FAULT_DRV else s3

/-- COIL_MODEL_UPDATE (R167): every 1 ms, each enabled channel; a pair on its even channel. A channel that has not been active since the last
step carries no current (R196). A drag holds what THERM cells give (R243). -/
def execCoilModelUpdate (dt : Nat) (energies : List Nat) (s : State) : Result :=
  let s1 := s.advance dt
  .next (if s1.tclkRuns && s1.passed s1.drv.coilAt msTicks then
    let s2 := s1.withDrv { s1.drv with coilAt := s1.now, wasActive := bitsWhere 48 s1.sampled }
    if s2.isDrag then s2 else
    ((List.range 48).foldl (fun s n =>
      if s.flag (Fld.DRV_CH_CFG_EN n) && !s.oddOfPair n then s.putCoil n (s.coilStep n (if s1.drv.wasActive.testBit n then energies.getD n 0 else 0))
      else s) s2).settle
    else s1)

/-- AMB_STALE (R168): AMB has not been written for 10 s. -/
def execAmbStale (dt : Nat) (s : State) : Result :=
  let s1 := s.advance dt
  .next (if s1.passed s1.drv.ambAt (10000 * msTicks) && !s1.flag Fld.DRV_AMB_STALE then ((s1.set Fld.DRV_AMB_STALE 1).irq 141).settle
    else s1)

/-- Every running channel of a die enters END (R172). -/
def State.endDie (s : State) (d : Nat) : State :=
  ((List.range 48).filter (fun n => dieOf n == d)).foldl (fun s n => s.enterEnd n) s

/-- DIE_THERMAL_CHANGE (R172): the die's temperature in °C and its dissipation over 100 ms in mW. -/
def execDieThermalChange (dt : Nat) (die : Fin 2) (temperature : Int) (pavg : Nat) (s : State) : Result :=
  let d := die.val
  let s1 := s.advance dt
  let s2 := (s1.set (Fld.DRV_DIE_TEMP d) (ofSigned 8 temperature)).set (Fld.DRV_DIE_PAVG d) (Nat.min 65535 pavg)
  let t1 : Int := (s2.get Fld.DRV_DIELIM_DIE_T1 : Nat)
  let plim := s2.get Fld.DRV_DIELIM_PLIM
  let hi := decide (plim < pavg) || (s2.flag (Fld.DRV_DIE_PWR_OVER d) && decide (9 * plim ≤ 10 * pavg))
  let hot := decide (t1 ≤ temperature) || (s2.flag (Fld.DRV_DIE_HOT d) && decide (t1 - 5 < temperature))
  let stop := decide (165 ≤ temperature) || (s2.flag (Fld.DRV_DIE_STOP d) && decide (150 < temperature))
  let s3 := ((s2.setFlag (Fld.DRV_DIE_PWR_OVER d) hi).setFlag (Fld.DRV_DIE_HOT d) hot).setFlag (Fld.DRV_DIE_STOP d) stop
  let same := s2.flag (Fld.DRV_DIE_PWR_OVER d) == hi && s2.flag (Fld.DRV_DIE_HOT d) == hot && s2.flag (Fld.DRV_DIE_STOP d) == stop
  let s4 := if same then s3 else s3.irq (139 + d)
  .next (if stop && !s2.flag (Fld.DRV_DIE_STOP d) then ((s4.endDie d).raiseFault Fld.SYS_FAULT_DRV).settle else s4.settle)

end Sys2Proof.Machine
end

