-- ==== Sys2Proof/Machine/WitRows.lean ====
section
/-! DEFINITION. Witness rows: closing records (R199–R206, R445), standby observation (R203), waveform capture (R211), storing digests
(R212–R215). -/

namespace Sys2Proof.Machine

-- ── Closing a record ──────────────────────────────────────────────────────────────────────────────────────────────

/-- The close window of a record's detection set, in ticks after END entry (R202). -/
def State.closeBegin (s : State) (r : OpenRec) : Nat := 40 * s.get (Fld.WIT_DET_CW_CLOSE_BEGIN r.profile)
def State.closeEnd (s : State) (r : OpenRec) : Nat := 40 * s.get (Fld.WIT_DET_CW_CLOSE_END r.profile)
/-- The end of the opening window, 10 ns; four times as late for the battery-only variant (R201). -/
def State.openEnd (s : State) (r : OpenRec) : Nat :=
  (if r.flags.testBit 0 then 4 else 1) * s.get (Fld.WIT_DET_OW_OPEN_END r.profile)

/-- A record is due to close (R199, R445): its END has completed, or its drive was cut short, and its close window is over; without
detection there is no close window. -/
def State.recordDue (s : State) (r : OpenRec) : Bool :=
  r.doneAt.isSome && (r.windowOver || !s.flag Fld.WIT_CTRL_EN)

/-- CLOSE_T and CLOSE_CONF of a record: the samples after END completion inside the close window, which the next shot's start may have cut
short (R199, R202). -/
def State.measureClose (s : State) (r : OpenRec) (samples : List Sample) : Nat × Nat :=
  match r.endAt, r.doneAt with
  | some e, some d =>
    if r.noClose || !s.flag Fld.WIT_CTRL_EN then (0xFFFFF, 0)
    else
      let e0 := e - r.startedAt
      let d0 := d - r.startedAt
      let cut (t : Nat) : Bool := match r.cutAt with | some c => decide (c - r.startedAt ≤ t) | none => false
      let l := (samples.filter (fun x => d0 < x.tv && e0 + s.closeBegin r ≤ x.tv && x.tv ≤ e0 + s.closeEnd r && !cut x.tv)).map
        (fun x => { x with t := x.tv - e0 })
      detectClosing l (s.get (Fld.WIT_DET_CP_W r.profile)) (s.get (Fld.WIT_DET_CP_THR r.profile)) (s.get (Fld.WIT_DET_CP_CMIN r.profile))
  | _, _ => (0xFFFFF, 0)

/-- What the samples of a record's channel give (R197, R201–R203, R445). -/
def State.measure (s : State) (r : OpenRec) (samples : List Sample) : Measured :=
  let cl := s.measureClose r samples
  if r.standby then ⟨0, 0xFFFFF, 0, cl.1, cl.2, 0⟩
  else
    let p := r.profile
    let op := if !s.flag Fld.WIT_CTRL_EN then (0xFFFFF, 0)
      else detectOpening samples (4 * s.get (Fld.WIT_DET_OW_OPEN_BEGIN p)) (4 * s.openEnd r) (s.get (Fld.WIT_DET_OP_W p))
        (s.get (Fld.WIT_DET_OP_DIP p)) (s.get (Fld.WIT_DET_OP_THR p)) (s.get (Fld.WIT_DET_OP_CMIN p))
    let pk := match r.peakUntil with
      | some t => samples.filter (fun x => x.t < t - r.startedAt)
      | none => samples
    let en := match r.doneAt with
      | some t => samples.filter (fun x => x.t ≤ t - r.startedAt)
      | none => samples
    ⟨peakOf pk, op.1, op.2, cl.1, cl.2, energyOf en⟩

/-- Whether a record updates D (R204). -/
def State.updatesD (s : State) (r : OpenRec) (m : Measured) : Bool :=
  let delta : Int := (m.openT : Int) - (s.get (Fld.WIT_CH_CFG_OREF r.ch) : Nat)
  let d := toSigned 16 (s.get (Fld.WIT_CH_CORR_D r.ch))
  s.flag Fld.WIT_CTRL_EN && s.flag Fld.WIT_CTRL_CORR_EN && s.flag (Fld.WIT_CH_CFG_CORR_EN r.ch) && r.outcome ≤ 2 && r.cls != 5 &&
  !r.flags.testBit 6 && !r.flags.testBit 8 && m.openT != 0xFFFFF && decide (s.get Fld.WIT_CORR_CMIN ≤ m.openConf) &&
  (s.get Fld.WIT_CORR_OUTL == 0 || decide ((delta - d).natAbs ≤ 100 * s.get Fld.WIT_CORR_OUTL)) &&
  s.freshMask (Reg.WIT_CH_CORR r.ch) == 0

/-- D moves toward δ by 2^−CMU, rounded to nearest with halves upward, and saturates (R204). -/
def State.updateD (s : State) (r : OpenRec) (m : Measured) : State :=
  if !s.updatesD r m then s
  else
    let delta : Int := (m.openT : Int) - (s.get (Fld.WIT_CH_CFG_OREF r.ch) : Nat)
    let d := toSigned 16 (s.get (Fld.WIT_CH_CORR_D r.ch))
    let k := 2 ^ s.get Fld.WIT_CORR_CMU
    let v := clampInt (-32768) 32767 (divRoundInt (d * (k : Nat) + (delta - d)) k)
    (s.set (Fld.WIT_CH_CORR_D r.ch) (ofSigned 16 v)).mirrorCorr r.ch

/-- The run of records without motion (R206): NO_MOTION at MOTION_N, source 146, the pair logic (R207). -/
def State.countMotion (s : State) (r : OpenRec) (m : Measured) : State :=
  let n := r.ch
  let lim := s.get (Fld.WIT_CH_CFG_MOTION_N n)
  if r.standby || !s.flag Fld.WIT_CTRL_EN then s
  else if m.openT != 0xFFFFF then
    (s.set (Fld.WIT_CH_STAT_MISS_RUN n) 0).setChan n { s.chan n with motionSeen := true }
  else if lim = 0 || 2 < r.outcome || r.endTime < s.openEnd r then s
  else
    let k := Nat.min 255 (s.get (Fld.WIT_CH_STAT_MISS_RUN n) + 1)
    let s1 := s.set (Fld.WIT_CH_STAT_MISS_RUN n) k
    if k < lim || s1.flag (Fld.WIT_CH_STAT_NO_MOTION n) then s1
    else
      let s2 := (((s1.raiseFlag (Fld.WIT_CH_STAT_NO_MOTION n)).irq 146).anom 12)
      (s2.setChan n { s2.chan n with motionSeen := false }).passFault n 6

/-- A capture ends with its record (R211): at most 4,096 pairs are kept; DONE and source 152. Where calving has ended it before, the pairs
up to then come now (R332; DEDUCED, log entry 82). -/
def State.endCapture (s : State) (r : OpenRec) (samples : List Sample) : State :=
  if s.wit.capturing ≠ some (if r.standby then r.firedAt else r.startedAt) || s.wit.waveCh ≠ r.ch then s
  else match s.wit.waveCut with
    | some c => s.withWit { s.wit with capturing := none, waveCut := none
                                       wave := (samples.filter (fun x => x.t ≤ c - r.startedAt)).take 4096 }
    | none => ((s.withWit { s.wit with capturing := none, wave := samples.take 4096 }).raiseFlag Fld.WIT_WAVE_DONE).irq 152

/-- A record closes with the samples of its channel (R199). -/
def State.finishRecord (s : State) (r : OpenRec) (samples : List Sample) : State :=
  let m := s.measure r samples
  let s1 := ((s.endCapture r samples).updateD r m).countMotion r m
  let s2 := s1.closeRecord r m
  if r.standby then s2.observeRule r false else s2

/-- The oldest due record of the channel closes. -/
def State.closeDue (s : State) (n : Nat) (samples : List Sample) : State :=
  match (s.openRecs n).find? s.recordDue with
  | some r => (s.setOpenRecs n ((s.openRecs n).erase r)).finishRecord r samples
  | none => s

/-- RECORD_CLOSE (R199, R445): `samples` are the pairs of the shot's channel since its start. -/
def execRecordClose (dt : Nat) (channel : Fin 48) (samples : List Sample) (s : State) : Result :=
  .next (((s.advance dt).closeDue channel.val samples).settle)

/-- The close windows of a channel that have ended (R202). -/
def State.endWindows (s : State) (n : Nat) : State :=
  s.setOpenRecs n ((s.openRecs n).map (fun r =>
    match r.endAt with
    | some e => if s.passed e (s.closeEnd r) then { r with windowOver := true } else r
    | none => r))

/-- CLOSE_WINDOW_END (R202). -/
def execCloseWindowEnd (dt : Nat) (channel : Fin 48) (samples : List Sample) (s : State) : Result :=
  .next ((((s.advance dt).endWindows channel.val).closeDue channel.val samples).settle)

-- ── Standby observation (R159, R203) ──────────────────────────────────────────────────────────────────────────────

/-- A rise belongs to the standby record whose slot fired within WIN of it, when it is nearer than an earlier one, whose fall then no longer
counts. -/
def State.takeRise (s : State) (r : OpenRec) : OpenRec :=
  if !r.standby || r.firedAt + s.obsWin < s.now then r
  else if r.seen && r.firedAt - r.startedAt ≤ s.now - r.firedAt then r
  else
    let r1 := { r with seen := true, startedAt := s.now, startTime := s.tclk, actStart := s.out }
    if r.seen then { r1 with endAt := none, doneAt := none, endTime := 0 } else r1

/-- OBS_DRIVE_RISE (R203). -/
def execObsDriveRise (dt : Nat) (channel : Fin 48) (s : State) : Result :=
  let n := channel.val
  let s1 := s.advance dt
  .next (if s1.inStandby n then
    let s2 := (s1.set (Fld.DRV_CH_STAT_OBS_DRIVE n) 1).setChan n { s1.chan n with obsRise := some s1.now, obsAngle := s1.out }
    (s2.setOpenRecs n ((s2.openRecs n).map s2.takeRise)).settle
    else s1)

/-- A fall ends the observed drive of a standby record (R203). -/
def State.takeFall (s : State) (r : OpenRec) : OpenRec :=
  if r.standby && r.seen && r.endAt.isNone then
    { r with endTime := Nat.min 0xFFFFFF ((s.now - r.startedAt) / 4), endAt := some s.now, doneAt := some s.now }
  else r

/-- OBS_DRIVE_FALL (R203). -/
def execObsDriveFall (dt : Nat) (channel : Fin 48) (s : State) : Result :=
  let n := channel.val
  let s1 := s.advance dt
  .next (if s1.flag (Fld.DRV_CH_STAT_OBS_DRIVE n) then
    let s2 := (s1.set (Fld.DRV_CH_STAT_OBS_DRIVE n) 0).setChan n { s1.chan n with obsFall := some s1.now }
    (s2.setOpenRecs n ((s2.openRecs n).map s2.takeFall)).settle
    else s1)

/-- OBS_WINDOW_EXPIRY (R203): WIN after the fire tick, a standby record without a rise closes with ABSENT; its pairs are those since that
tick. -/
def execObsWindowExpiry (dt : Nat) (shot : ChannelSamples) (s : State) : Result :=
  let n := shot.channel.val
  let s1 := s.advance dt
  .next (match (s1.openRecs n).find? (fun r => r.standby && !r.seen && s1.passed r.firedAt s1.obsWin) with
    | some r =>
      let r1 := { r with flags := r.flags ||| 4096 }
      (((((s1.setOpenRecs n ((s1.openRecs n).erase r)).endCapture r shot.samples).closeRecord r1 Measured.none)).observeRule r true).settle
    | none => s1)

-- ── Digests (R212–R215) ───────────────────────────────────────────────────────────────────────────────────────────

/-- A number held in a field of `w` bits, saturating. -/
def satField (w v : Nat) : Nat := Nat.min (2 ^ w - 1) v

/-- The 64 bytes of a digest (R212). SPEED is the mean of the covered cycles' speeds; ENERGY counts in 10 mJ. -/
def State.digestBytes (s : State) (c : CycleCounts) (index : Nat) : List Byte :=
  let anom := c.anom ||| (if s.wit.resumed then 0 else 1) ||| (if 1 < c.ncyc then 4 else 0) ||| (if s.wit.gap then 32768 else 0)
  let body := leBytes 8 index ++ leBytes 4 c.cycle ++ leBytes 2 (satField 16 (divRound c.speed c.ncyc)) ++
    leBytes 1 (c.state + 16 * c.calv) ++ leBytes 1 (c.role + 4 * Nat.min 15 c.ncyc) ++ c.counts.flatMap (leBytes 2) ++
    leBytes 2 c.worstLate ++ leBytes 2 c.worstWait ++ leBytes 2 anom ++ leBytes 1 (satField 8 (c.vboostMin / 10)) ++
    leBytes 1 (ofSigned 8 (clampInt (-128) 127 (divRoundInt c.twMax 1000000000))) ++ leBytes 4 c.recSeq ++ leBytes 2 c.recN ++
    leBytes 2 (ofSigned 16 (clampInt (-32768) 65535 (divRoundInt c.energy 10000))) ++ leBytes 4 (s.word (Reg.SEC_CFG 0)).toNat
  body ++ leBytes 4 (crc32c body).toNat

/-- MRAM address of digest slot and checkpoint slot (R214, R419). -/
def digestAddr (i : Nat) : Nat := 0x60600000 + 64 * (i % 163584)
def checkAddr (i : Nat) : Nat := 0x60FFC000 + 64 * (i / 1024 % 256)

/-- The checkpoint of an index (R214). -/
def checkBytes (index epoch : Nat) (h : List Byte) : List Byte :=
  let body := leBytes 8 index ++ h ++ leBytes 4 epoch ++ zeros 16
  body ++ leBytes 4 (crc32c body).toNat

/-- COM writes 64 bytes to MRAM and reads them back, with one retry (R215): what the slot holds when both fail is a free value. -/
def State.mramWrite (s : State) (a : Nat) (b : List Byte) (ok : Bool) : State :=
  if ok then s.setBytes a b
  else
    let l := (List.range 16).foldl (fun (a : List Word × State) _ => let w := a.2.takeFree; (a.1 ++ [w.1], w.2)) ([], s)
    l.2.setBytes a (wordBytes l.1)

/-- The chain advances by a digest (R213). -/
def State.chainStep (s : State) (d : List Byte) : State :=
  s.withWit { s.wit with index := s.wit.index + 1, head := sha256 (s.chainHead ++ d), resumed := true, snap := none, gap := false }

/-- After an index of 1,023 modulo 1,024 a checkpoint is written, source 151 (R214). -/
def State.checkpoint (s : State) (ok : Bool) : State :=
  let s1 := s.mramWrite (checkAddr s.wit.index) (checkBytes s.wit.index s.sec.epoch s.wit.head) ok
  if ok then s1.irq 151 else s1

/-- A write of the chain failed twice (R215). -/
def State.chainFails (s : State) : State :=
  let s1 := (s.withWit { s.wit with gap := true }).raiseFlag Fld.WIT_STAT_CHAIN_FAIL
  (s1.raiseFault Fld.SYS_FAULT_WIT).irq 150

/-- DIGEST_STORE (R215): COM stores the pending snapshot, and the checkpoint that may follow it, each with how its write and the one
retry read back. -/
def execDigestStore (dt : Nat) (digest checkpoint : WriteTries) (s : State) : Result :=
  let s1 := s.advance dt
  .next (match s1.wit.snap with
    | none => s1
    | some c =>
      let i := s1.wit.index + 1
      let d := s1.digestBytes c i
      let due := i % 1024 == 1023
      let s2 := (s1.mramWrite (digestAddr i) d digest.held).chainStep d
      let s3 := if due then s2.checkpoint checkpoint.held else s2
      (if !digest.held || (due && !checkpoint.held) then s3.chainFails else s3).settle)

end Sys2Proof.Machine
end

