-- ==== Sys2Proof/Machine/ClockRows.lean ====
section
/-! DEFINITION. Clock rows: the crystal judge (R339–R341), switching and stopped clocks (R343–R347), spread (R348), operating points
(R349, R350), gates (R351–R353), the frequency-measuring counter (R354). -/

namespace Sys2Proof.Machine

-- ── Register rows ─────────────────────────────────────────────────────────────────────────────────────────────────

/-- OP_REQUEST (R349, R350). -/
def execOpRequest (point : Fin 4) (s : State) : Result := .next (s.fwWrite Reg.CLK_OPREQ (BitVec.ofNat 32 point.val))

/-- GATE_WRITE (R351, R353). -/
def execGateWrite (register : Fin 2) (value : Word) (host : Bool) (s : State) : Result :=
  .next ((s.busWrite (if host then .host else .sup) 4 (gateReg register.val) value).settle)

/-- FMC_START (R354): a write to CLK_FMC_CTRL with START. -/
def execFmcStart (value : Word) (s : State) : Result := .next (s.fwWrite Reg.CLK_FMC_CTRL (value ||| 0x1000000))

-- ── Mux switches (R343, R344) ─────────────────────────────────────────────────────────────────────────────────────

/-- A mux switch begins, once; SW_BUSY shows it (R343). -/
def State.beginSwitch (s : State) (m : MuxSwitch) : State :=
  let l := if s.clk.switching.contains m then s.clk.switching else s.clk.switching ++ [m]
  (s.withClk { s.clk with switching := l }).setFlag Fld.CLK_STAT_SW_BUSY true

/-- A mux switch is no longer in progress. -/
def State.dropSwitch (s : State) (m : MuxSwitch) : State :=
  let l := s.clk.switching.filter (· ≠ m)
  (s.withClk { s.clk with switching := l }).setFlag Fld.CLK_STAT_SW_BUSY (l ≠ [])

/-- A mux takes its new input. -/
def State.takeInput (s : State) (m : MuxSwitch) : State :=
  match m with
  | .refToXtal => s.setFlag Fld.CLK_STAT_REF false
  | .refToIrc => s.setFlag Fld.CLK_STAT_REF true
  | .sclkToSpll => s.withClk { s.clk with sclkIrc := false }
  | .sclkToIrc => s.withClk { s.clk with sclkIrc := true }

/-- XTAL_FAIL stands until the next reset or Frost (R340). -/
def State.failXtal (s : State) : State := if s.flag Fld.CLK_STAT_XTAL_FAIL then s else (s.setFlag Fld.CLK_STAT_XTAL_FAIL true).irq 6

/-- TPLL loses lock, or its reference is switched by force (R345): TPLL_UNLOCK, SYS_FAULT.CLK, source 6, quench. -/
def State.unlockTpll (s : State) : State :=
  let s1 := ((s.setFlag Fld.CLK_STAT_TPLL_LOCK false).withClk { s.clk with tpllLost := true }).raiseFlag Fld.CLK_STAT_TPLL_UNLOCK
  ((s1.raiseFault Fld.SYS_FAULT_CLK).irq 6).quench

/-- The mux of a code: 0 reference to XTAL, 1 reference to the IRC, 2 SCLK to the SPLL, 3 SCLK to the IRC. -/
def muxOf (k : Nat) : MuxSwitch :=
  if k = 0 then .refToXtal else if k = 1 then .refToIrc else if k = 2 then .sclkToSpll else .sclkToIrc

/-- MUX_SWITCH_DONE (R343). -/
def execMuxSwitchDone (dt : Nat) (mux : Fin 4) (s : State) : Result :=
  let s1 := s.advance dt
  .next (if s1.clk.switching.contains (muxOf mux.val) then ((s1.takeInput (muxOf mux.val)).dropSwitch (muxOf mux.val)).settle else s1)

/-- FORCED_SWITCH (R341, R344, R345): the oldest switch waits on a stopped clock and completes by force. A reference that should go to
a crystal that does not run stays on the IRC with XTAL_FAIL; a reference switched by force while TPLL is in use counts as an unlock. -/
def execForcedSwitch (dt : Nat) (s : State) : Result :=
  let s1 := s.advance dt
  .next (match s1.clk.switching with
    | [] => s1
    | m :: _ =>
      let s2 := ((s1.dropSwitch m).raiseFlag Fld.CLK_STAT_SWITCH_FORCED).irq 6
      (match m with
       | .refToXtal => s2.failXtal
       | .refToIrc => (let s3 := (s2.takeInput m).failXtal; if s3.tclkRuns then s3.unlockTpll else s3)
       | _ => s2.takeInput m).settle)

/-- CLOCK_MISSING (R344, R346, R354): a watched clock has made no edge for 4 IRC cycles; clocks by the codes of CLK_FMC_CTRL. XTAL in use
as the reference makes the device switch to the IRC; the SPLL's output moves SCLK there; a counter of that clock stops with NOCLK. -/
def execClockMissing (dt : Nat) (clock : Fin 8) (s : State) : Result :=
  let k := clock.val
  let s1 := s.advance dt
  let s2 := if k = 0 && !s1.flag Fld.CLK_STAT_REF then s1.beginSwitch .refToIrc
    else if k = 4 && !s1.clk.sclkIrc then s1.beginSwitch .sclkToIrc else s1
  let counted := s2.clk.fmcOpen && (s2.get Fld.CLK_FMC_CTRL_TGT == k || s2.get Fld.CLK_FMC_CTRL_REF == k)
  .next ((if counted then (s2.withClk { s2.clk with fmcOpen := false }).setFlag Fld.CLK_FMC_CTRL_NOCLK true else s2).settle)

-- ── The crystal judge (R339–R341) ─────────────────────────────────────────────────────────────────────────────────

/-- A window passes when its count lies within TOL × 0.5 % of 2^(8 + WIN) × FREQ / 25,000, inclusive (R339). -/
def State.windowPasses (s : State) (count : Nat) : Bool :=
  let e := 2 ^ (8 + s.get Fld.CLK_XCFG_WIN) * s.get Fld.CLK_XCFG_FREQ
  let tol := s.get Fld.CLK_XCFG_TOL
  e * (200 - tol) ≤ 200 * 25000 * count && 200 * 25000 * count ≤ e * (200 + tol)

/-- Whether the judge still runs: THAW, neither judged nor failed. -/
def State.judging (s : State) : Bool :=
  s.st == 2 && !s.pwr.inReset && !s.flag Fld.CLK_STAT_JUDGED && !s.flag Fld.CLK_STAT_XTAL_FAIL

/-- JUDGE_WINDOW_END (R339): eight passes in a row judge the crystal. -/
def execJudgeWindowEnd (dt : Nat) (count : Nat) (s : State) : Result :=
  let s1 := s.advance dt
  .next (if s1.judging && s1.flag Fld.CLK_XCFG_JUDGE then
    let r := if s1.windowPasses count then s1.clk.judgeRun + 1 else 0
    let s2 := s1.withClk { s1.clk with judgeRun := r }
    if 8 ≤ r then ((s2.setFlag Fld.CLK_STAT_JUDGED true).beginSwitch .refToXtal).settle else s2
    else s1)

/-- XTAL_FAIL (R340): not judged 20 ms after THAW began. -/
def execXtalFail (dt : Nat) (s : State) : Result :=
  let s1 := s.advance dt
  .next (if s1.judging && s1.flag Fld.CLK_XCFG_JUDGE && s1.passed s1.clk.thawAt (20 * msTicks) then s1.failXtal.settle else s1)

/-- XTAL_FIXED_DELAY (R341): with JUDGE = 0 the reference switches DLY × 100 µs after THAW began. -/
def execXtalFixedDelay (dt : Nat) (s : State) : Result :=
  let s1 := s.advance dt
  .next (if s1.judging && !s1.flag Fld.CLK_XCFG_JUDGE && s1.flag Fld.CLK_STAT_REF && s1.clk.switching == [] &&
      s1.passed s1.clk.thawAt (100 * usTicks * Nat.max 1 (s1.get Fld.CLK_XDLY_DLY))
    then (s1.beginSwitch .refToXtal).settle else s1)

-- ── Loss of lock (R345–R347) ──────────────────────────────────────────────────────────────────────────────────────

/-- TPLL_UNLOCK (R345). -/
def execTpllUnlock (dt : Nat) (s : State) : Result :=
  let s1 := s.advance dt
  .next (if s1.tclkRuns && !s1.clk.tpllLost then s1.unlockTpll.settle else s1)

/-- TPLL_RELOCK (R345): held for 100 µs; both trackers are resynchronised; a device that reads ARB held takes the drag role, and a cope
that reads it free asserts it again (DEDUCED, log entry 17). -/
def execTpllRelock (dt : Nat) (s : State) : Result :=
  let s1 := s.advance dt
  .next (if s1.clk.tpllLost then
    let s2 := (s1.setFlag Fld.CLK_STAT_TPLL_LOCK true).withClk { s1.clk with tpllLost := false }
    let s3 := (s2.resyncTracker 0).resyncTracker 1
    (if !s3.paired then s3
     else if s3.flag Fld.FLO_PAIRSTAT_ARB_LINE && !s3.flag Fld.FLO_PAIRSTAT_ARB_OWN then s3.setRole 2
     else if s3.isCope then s3.assertArb true else s3).settle
    else s1)

/-- SPLL_UNLOCK (R346): SCLK goes to the IRC. -/
def execSpllUnlock (dt : Nat) (s : State) : Result :=
  let s1 := s.advance dt
  .next (if s1.flag Fld.CLK_STAT_SPLL_LOCK then
    let s2 := (s1.setFlag Fld.CLK_STAT_SPLL_LOCK false).irq 6
    (if s2.clk.sclkIrc then s2 else s2.beginSwitch .sclkToIrc).settle
    else s1)

/-- SPLL_RELOCK (R346): lock held for 100 µs; SCLK goes back. -/
def execSpllRelock (dt : Nat) (s : State) : Result :=
  let s1 := s.advance dt
  .next (if s1.tclkRuns && !s1.flag Fld.CLK_STAT_SPLL_LOCK then
    (((s1.setFlag Fld.CLK_STAT_SPLL_LOCK true).dropSwitch .sclkToIrc).beginSwitch .sclkToSpll).settle
    else s1)

/-- FPLL_UNLOCK (R346): every Floe port goes DOWN. -/
def execFpllUnlock (dt : Nat) (s : State) : Result :=
  let s1 := s.advance dt
  .next (if s1.flag Fld.CLK_STAT_FPLL_LOCK then
    ((List.range 4).foldl (fun s p => s.portDown p) ((s1.setFlag Fld.CLK_STAT_FPLL_LOCK false).irq 6)).settle
    else s1)

/-- FPLL_RELOCK (R336, R340, R346): only from XTAL. -/
def execFpllRelock (dt : Nat) (s : State) : Result :=
  let s1 := s.advance dt
  .next (if s1.tclkRuns && !s1.flag Fld.CLK_STAT_REF && !s1.flag Fld.CLK_STAT_XTAL_FAIL then (s1.setFlag Fld.CLK_STAT_FPLL_LOCK true).sweepPorts.settle
    else s1)

/-- LF_FAIL (R347): XLF silent for 2 ms; the always-on domain runs from the LFRC. -/
def execLfFail (dt : Nat) (s : State) : Result :=
  let s1 := s.advance dt
  .next (if s1.flag Fld.CLK_XCFG_LF_XTAL && !s1.flag Fld.CLK_STAT_LF_FAIL then
    (((s1.withClk { s1.clk with onXlf := false }).raiseFlag Fld.CLK_STAT_LF_FAIL).irq 6).settle
    else s1)

-- ── DVFS, spread, gates, counter ──────────────────────────────────────────────────────────────────────────────────

/-- DVFS_STEP (R349, R350). -/
def execDvfsStep (dt : Nat) (s : State) : Result := .next ((s.advance dt).dvfsStep.settle)

/-- SPREAD_APPLY (R348): the next minimum of the triangle. -/
def execSpreadApply (dt : Nat) (s : State) : Result :=
  let s1 := s.advance dt
  .next (s1.withClk { s1.clk with spreadNow := s1.word Reg.CLK_SPREAD })

/-- GATE_FORCED (R352): an access was still outstanding 16 cycles after its block's gate was closed; it ends in a bus error. -/
def execGateForced (dt : Nat) (s : State) : Result :=
  .next (((((s.advance dt).raiseFlag Fld.CLK_STAT_GATE_FORCED).irq 6).busError).settle)

/-- A window's count in CLK_FMC_CNT, and in CLK_FMC_MM with CONT (R354); counts saturate. -/
def State.fmcCount (s : State) (count : Nat) : State :=
  let s1 := s.set Fld.CLK_FMC_CNT_COUNT (satField 32 count)
  let c := satField 16 count
  let s2 := if !s.flag Fld.CLK_FMC_CTRL_CONT then s1.withClk { s1.clk with fmcOpen := false }
    else
      let lo := if s1.clk.fmcFirst then c else Nat.min c (s1.get Fld.CLK_FMC_MM_MIN)
      let hi := if s1.clk.fmcFirst then c else Nat.max c (s1.get Fld.CLK_FMC_MM_MAX)
      ((s1.set Fld.CLK_FMC_MM_MIN lo).set Fld.CLK_FMC_MM_MAX hi).withClk { s1.clk with fmcFirst := false }
  (s2.raiseFlag Fld.CLK_FMC_CTRL_DONE).irq 7

/-- FMC_WINDOW_END (R354). -/
def execFmcWindowEnd (dt : Nat) (count : Nat) (s : State) : Result :=
  let s1 := s.advance dt
  .next (if s1.clk.fmcOpen then (s1.fmcCount count).settle else s1)

end Sys2Proof.Machine
end

