-- ==== Sys2Proof/Machine/Packet.lean ====
section
/-! DEFINITION. Yelvy packets (R264–R271): receiving and checking a packet, replies, the sequence window, fragments, jobs and presence
(R284, R285), and how a firmware-handled or fast-path packet is taken from its queue. -/

namespace Sys2Proof.Machine

-- ── Status codes (R266) ───────────────────────────────────────────────────────────────────────────────────────────

def stPending : Nat := 0x01
def stAwait : Nat := 0x02
def stBadCrc : Nat := 0x10
def stBadLength : Nat := 0x11
def stUnknown : Nat := 0x12
def stBadSeq : Nat := 0x13
def stSealRequired : Nat := 0x20
def stSealTimeout : Nat := 0x21
def stBusy : Nat := 0x30
def stQueueFull : Nat := 0x31
def stCapacity : Nat := 0x50
def stVerify : Nat := 0x60

-- ── The opcode table (R282) ───────────────────────────────────────────────────────────────────────────────────────

/-- What the fast path takes, reserved codes among them (R124). -/
def isFast (op : Nat) : Bool := inRange 0x3F0 0x3FF op
def isSealed (op : Nat) : Bool :=
  [0x107, 0x200, 0x201, 0x202, 0x205, 0x207, 0x300, 0x400, 0x402, 0x403, 0x404, 0x407, 0x508, 0x509, 0x600, 0x606, 0x703, 0x704,
   0x705, 0x706].contains op
def takesFragments (op : Nat) : Bool := op == 0x702 || op == 0x704 || op == 0x705
def isKnown (op : Nat) : Bool :=
  inRange 0x100 0x10A op || inRange 0x200 0x207 op || inRange 0x300 0x302 op || inRange 0x3F0 0x3F4 op || inRange 0x400 0x407 op ||
  (inRange 0x500 0x509 op && op != 0x502) || inRange 0x600 0x606 op || inRange 0x700 0x706 op || op == 0x800 || op == 0x801 ||
  inRange 0x900 0x902 op
/-- What the boot ROM answers while no verified image runs (R446). -/
def isBootOp (op : Nat) : Bool := [0x100, 0x101, 0x106, 0x700, 0x702, 0x703].contains op

-- ── Packets and replies (R264, R265) ──────────────────────────────────────────────────────────────────────────────

def packetBytes (flags seq op : Nat) (payload : List Byte) : List Byte :=
  let b := leBytes 1 0xC7 ++ leBytes 1 flags ++ leBytes 2 seq ++ leBytes 2 op ++ leBytes 2 payload.length ++ payload
  b ++ leBytes 4 (crc32c b).toNat

def Packet.rreq (p : Packet) : Bool := p.flags.testBit 0
def Packet.more (p : Packet) : Bool := p.flags.testBit 2

/-- The reply to a packet: its SEQ and OPCODE, REPLY, SEALED as in the request. -/
def replyBytes (p : Packet) (status : Nat) (rest : List Byte) : List Byte :=
  packetBytes (0x80 + (if p.flags.testBit 1 then 2 else 0)) p.seq p.opcode (leBytes 1 status ++ rest)

/-- Whether a reply is sent (R265). -/
def replies (p : Packet) (status : Nat) : Bool := p.rreq || status != 0

/-- Whether an interface is the one that a request arrived on: by its port, and for Floe by the route back to its node. -/
def State.carries (s : State) (port : Nat) (source : List Byte) (iface inst : Nat) : Bool :=
  if iface = 0 then port == 0 else if iface = 1 then port == inst + 1 else if iface = 2 then port == 3
  else port == 4 && s.routeOf (leAt source 0 2) == inst

/-- Whether a run of the test block has taken an interface out of service (R398, R404): 0 SPI, 1 CAN, 2 10BASE-T1S, 3 Floe,
and the instance. SELFTEST leaves the interface that carries its request. -/
def State.loopedAt (s : State) (iface inst : Nat) : Bool :=
  let run := s.get Fld.TST_STAT_RUN
  (run == 1 && s.get Fld.TST_STAT_DEPTH < 2 && s.get Fld.TST_STAT_IF == iface && s.tst.inst == inst) ||
  (run == 3 && !(s.hst.jobs.any (fun j => j.opcode == 0x902 && s.carries j.port j.source iface inst)))

/-- Whether a port is in service: its clock, its EN, calving (R287), no loop-back on it (R398) and, for 10BASE-T1S, the
crystal (R340). -/
def State.portServed (s : State) (p : Nat) : Bool :=
  s.tclkRuns &&
  !(if p = 0 then s.loopedAt 0 0 else if p = 1 then s.loopedAt 1 0 else if p = 2 then s.loopedAt 1 1 else if p = 3 then s.loopedAt 2 0 else false) &&
  (if p = 0 then s.flag Fld.CLK_GATE0_HST_SPI && s.flag Fld.HST_SPI_CFG_EN
   else if p = 1 then s.flag Fld.CLK_GATE0_HST_CAN0 && s.flag (Fld.HST_CAN_CFG_EN 0)
   else if p = 2 then s.flag Fld.CLK_GATE0_HST_CAN1 && s.flag (Fld.HST_CAN_CFG_EN 1) && s.get Fld.PWR_STAT_STAGE < 2
   else if p = 3 then s.flag Fld.CLK_GATE0_HST_T1S && s.flag Fld.HST_T1S_CFG_EN && s.get Fld.PWR_STAT_STAGE < 2 &&
     !s.flag Fld.CLK_STAT_XTAL_FAIL
   else s.floeOn)

/-- A packet enters a port's outbound queue of 16 (R271); a port that is out of service sends nothing (R287). -/
def State.post (s : State) (port : Nat) (dest : List Byte) (bytes : List Byte) : State :=
  let x := s.hst.port port
  if !s.portServed port || 16 ≤ x.outq.length then s
  else (s.setPort port { x with outq := x.outq ++ [(dest, bytes)] }).refreshLevels

/-- Replies that need wait for no packet before them enter the outbound queue while it has room; none overtakes the reply of an output
self-test (R271). -/
def State.flushLate (s : State) (port : Nat) : State :=
  let x := s.hst.port port
  let n := if s.tst.otPkt.isSome && s.tst.otPort == port then 0
    else Nat.min (16 - x.outq.length) (x.late.takeWhile (fun e => e.1 == 0)).length
  if n = 0 then s
  else (s.setPort port { x with outq := x.outq ++ (x.late.take n).map Prod.snd, late := x.late.drop n }).refreshLevels

/-- The reply to a packet that COM has handled leaves before those of later packets (R271); it waits where there is no room (log
entry 18). -/
def State.postReply (s : State) (port : Nat) (dest bytes : List Byte) : State :=
  let x := s.hst.port port
  if s.portServed port && 16 ≤ x.outq.length then s.setPort port { x with late := (0, dest, bytes) :: x.late } else s.post port dest bytes

/-- The reply to a packet that is answered on arrival waits for the replies of the packets before it (R271). -/
def State.postLate (s : State) (port : Nat) (dest bytes : List Byte) : State :=
  let x := s.hst.port port
  if !s.portServed port then s
  else (s.setPort port { x with late := x.late ++ [(x.inq.length, dest, bytes)] }).flushLate port

/-- The port once COM has taken its oldest packet. -/
def HostPort.pop (x : HostPort) : HostPort := { x with inq := x.inq.drop 1, late := x.late.map (fun e => (e.1 - 1, e.2)) }

/-- PKT_STAT counts the packets answered BAD_CRC and BAD_LENGTH. -/
def State.countStatus (s : State) (status : Nat) : State :=
  if status = stBadCrc then s.addWrap Fld.PKT_STAT_BADCRC 1
  else if status = stBadLength then s.addWrap Fld.PKT_STAT_BADLEN 1 else s

/-- Writes the stored reply of a SEQ into the port's window (R268). -/
def State.keepReply (s : State) (port seq : Nat) (r : Option (List Byte)) : State :=
  let x := s.hst.port port
  s.setPort port { x with window := x.window.map (fun e => if e.seq = seq then { e with reply := r } else e) }

/-- The reply to a firmware-handled packet: kept with its SEQ, and sent by R265. -/
def State.answerTo (s : State) (port : Nat) (p : Packet) (status : Nat) (rest : List Byte) : State :=
  let b := replyBytes p status rest
  let s1 := (s.countStatus status).keepReply port p.seq (if replies p status then some b else none)
  (if replies p status then s1.postReply port p.source b else s1).flushLate port

/-- A firmware-handled packet is refused on arrival: its reply is kept with its SEQ and leaves in its turn (R268, R271). -/
def State.answerEarly (s : State) (port : Nat) (p : Packet) (status : Nat) : State :=
  let b := replyBytes p status []
  ((s.countStatus status).keepReply port p.seq (some b)).postLate port p.source b

/-- The reply to a fast-path packet (R124, R271): SCH_FPQ.ERR and source 71 for a status other than OK; a reply that finds the outbound
queue full is discarded and counted. -/
def State.answerFast (s : State) (port : Nat) (p : Packet) (status : Nat) (rest : List Byte) : State :=
  let s1 := s.countStatus status
  let s2 := if status = 0 then s1 else (s1.addWrap Fld.SCH_FPQ_ERR 1).irq 71
  if !replies p status then s2
  else if 16 ≤ (s2.hst.port port).outq.length then s2.addWrap Fld.PKT_STAT_RPL_DROP 1
  else s2.post port p.source (replyBytes p status rest)

/-- A packet dropped without reply (R267, R273): counted, source 245. -/
def State.dropPacket (s : State) : State := (s.addWrap Fld.PKT_STAT_DROPPED 1).irq 245

-- ── Receiving (R267, R268) ────────────────────────────────────────────────────────────────────────────────────────

/-- SEQ lies behind the newest of the window, by R8 modulo 2^16. -/
def seqBehind (newest seq : Nat) : Bool := 32768 ≤ (seq + (65536 - newest % 65536)) % 65536

/-- The refusal of a packet before it is handled. -/
def State.refusePacket (s : State) (port : Nat) (p : Packet) (status : Nat) : State :=
  if isFast p.opcode then s.answerFast port p status [] else s.answerEarly port p status

/-- Checks 4 to 6, and the queue that takes the packet (R267, R271, R124). -/
def State.admitPacket (s : State) (port : Nat) (p : Packet) : State :=
  if !isKnown p.opcode then s.refusePacket port p stUnknown
  else if p.flags &&& 0x78 != 0 || (p.flags.testBit 1) != isSealed p.opcode || (p.more && !takesFragments p.opcode) then
    s.refusePacket port p stOutOfRange
  else if isFast p.opcode then
    (if 16 ≤ s.hst.fpq.length then ((s.addWrap Fld.SCH_FPQ_QFULL 1).irq 72).refusePacket port p stQueueFull
     else s.withHst { s.hst with fpq := s.hst.fpq ++ [(port, p)] })
  else if 8 ≤ (s.hst.port port).inq.length then s.refusePacket port p stQueueFull
  else s.setPort port { s.hst.port port with inq := (s.hst.port port).inq ++ [p] }

/-- Check 3: the port's window of 8 (R268). -/
def State.sequencePacket (s : State) (port : Nat) (p : Packet) : State :=
  let x := s.hst.port port
  match x.window.find? (fun e => e.seq == p.seq) with
  | some e => (match e.reply with | some r => s.postLate port p.source r | none => s)
  | none =>
    match x.window with
    | n :: _ =>
      if seqBehind n.seq p.seq then
        (let s1 := s.countStatus stBadSeq; s1.postLate port p.source (replyBytes p stBadSeq []))
      else (s.setPort port { x with window := ({ seq := p.seq } :: x.window).take 8 }).admitPacket port p
    | [] => (s.setPort port { x with window := [{ seq := p.seq }] }).admitPacket port p

/-- A packet arrives on a port (R267): `b` are the bytes received. Bytes after the packet's 12 + LEN are ignored. -/
def State.receivePacket (s : State) (port : Nat) (source b : List Byte) : State :=
  if b.length < 8 || byteAt b 0 != 0xC7 || (byteAt b 1).testBit 7 then s.dropPacket
  else
    let len := leAt b 6 2
    let p : Packet := { flags := byteAt b 1, seq := leAt b 2 2, opcode := leAt b 4 2, payload := (b.drop 8).take len, source := source }
    let early (st : Nat) : State :=
      if isFast p.opcode then s.answerFast port p st [] else (s.countStatus st).postLate port source (replyBytes p st [])
    if 1024 < len || b.length < 12 + len then early stBadLength
    else if (crc32c (b.take (8 + len))).toNat != leAt b (8 + len) 4 then early stBadCrc
    else if isFast p.opcode then s.hostPacket.admitPacket port p
    else s.hostPacket.sequencePacket port p

-- ── Handling (R267 checks 7–10, R270, R271) ───────────────────────────────────────────────────────────────────────

/-- The answer that handling a packet gives: its status, reply bytes from byte 1, and the state. -/
structure Answer where
  status : Nat
  rest : List Byte := []
  state : State
  /-- The reply comes later. -/
  later : Bool := false

/-- Refused with no effect. -/
def State.no (s : State) (status : Nat) : Answer := { status := status, state := s }
/-- Done, with reply bytes from byte 1. -/
def State.done (s : State) (rest : List Byte := []) : Answer := { status := stOk, rest := rest, state := s }

/-- Reply data that start at byte 4. -/
def from4 (l : List Byte) : List Byte := zeros 3 ++ l

def State.sealOpen (s : State) : Bool := s.flag Fld.SEC_STAT_SEAL_OPEN

/-- The packet that COM handles next on a port, when its opcode is `op` (R271): COM takes none while the outbound queue is full, nor while the
reply of an output self-test on that port is due. A packet that arrived during a COM restart is handled after it (DESIGN CHOICE, log entry
79). -/
def State.nextPacket (s : State) (port op : Nat) : Option (Packet × State) :=
  let x := s.hst.port port
  if (s.tst.otPkt.isSome && s.tst.otPort == port) || s.sys.comDown || s.st < 3 || s.pwr.inReset || 16 ≤ x.outq.length then none
  else match x.inq with
    | p :: _ => if p.opcode = op then some (p, s.setPort port x.pop) else none
    | [] => none

/-- COM handles the packet at the head of a port's queue when its opcode is `op`: checks 7 and R446, then the opcode's own checks and
effect `f`. -/
def State.handle (s : State) (port op : Nat) (f : Packet → State → Answer) : State :=
  match s.nextPacket port op with
  | none => s
  | some (p, s1) =>
    let a := if isSealed op && !s1.sealOpen then s1.no stSealRequired
      else if !s1.sys.verified && !isBootOp op then s1.no stForbids
      else f p s1
    if a.later then a.state.settle else (a.state.answerTo port p a.status a.rest).settle

/-- The fast path handles its oldest packet when its opcode is `op` (R124): nothing in SAFE (R18), nothing without an image (R446). -/
def State.handleFast (s : State) (op : Nat) (f : Packet → State → Answer) : State :=
  match s.hst.fpq with
  | (port, p) :: r =>
    if p.opcode ≠ op then s
    else
      let s1 := s.withHst { s.hst with fpq := r }
      let a := if s1.st = 8 || !s1.sys.verified then s1.no stForbids else f p s1
      (a.state.answerFast port p a.status a.rest).settle
  | [] => s

-- ── Jobs (R270, R285) ─────────────────────────────────────────────────────────────────────────────────────────────

/-- Whether a presence job waits (R285). -/
def State.presenceWaits (s : State) : Bool := s.hst.jobs.any (fun j => j.presence != 0)

/-- PKT_JOBS shows the presence job that waits. -/
def State.showPresence (s : State) : State :=
  match s.hst.jobs.find? (fun j => j.presence != 0) with
  | some j => (s.setFlag Fld.PKT_JOBS_PRES_WAIT true).set Fld.PKT_JOBS_PRES_ID j.id
  | none => (s.setFlag Fld.PKT_JOBS_PRES_WAIT false).set Fld.PKT_JOBS_PRES_ID 0

/-- The next job ID, 1 to 255, not in use. -/
def State.nextJob (s : State) : Nat :=
  (((List.range 5).map (fun k => (s.hst.lastJob + k) % 255 + 1)).find? (fun i => s.hst.jobs.all (fun j => j.id != i))).getD 1

/-- A job opens (R270): PENDING or, with presence, AWAIT_PRESENCE and source 247 (R285); BUSY with four jobs running, or with another
presence job waiting. -/
def State.openJob (s : State) (port : Nat) (p : Packet) (data : List Byte) (presence : Bool) : Answer :=
  if 4 ≤ s.hst.jobs.length || (presence && s.presenceWaits) then s.no stBusy
  else
    let i := s.nextJob
    let j : Job := { id := i, opcode := p.opcode, seq := p.seq, flags := p.flags, port := port, source := p.source, data := data
                     startAt := s.now, presence := if presence then 1 else 0 }
    let s1 := s.withHst { s.hst with jobs := s.hst.jobs ++ [j], lastJob := i, ended := spPut (fun _ => 0) s.hst.ended i 0 }
    let s2 := if presence then s1.showPresence.irq 247 else s1
    { status := if presence then stAwait else stPending, rest := leBytes 1 i, state := s2 }

/-- The oldest running job of an opcode that does not wait for presence. -/
def State.runningJob (s : State) (op : Nat) : Option Job := s.hst.jobs.find? (fun j => j.opcode == op && j.presence == 0)

/-- A job ends (R270): its second reply, whatever RREQ said (DEDUCED, log entry 81), with status, job ID and result from byte 4; source
250. -/
def State.endJob (s : State) (j : Job) (status : Nat) (result : List Byte) : State :=
  let s1 := s.withHst { s.hst with jobs := s.hst.jobs.filter (fun k => k.id != j.id)
                                   ended := spPut (fun _ => 0) s.hst.ended j.id (status + 1) }
  let p : Packet := { flags := j.flags ||| 1, seq := j.seq, opcode := j.opcode, source := j.source }
  ((s1.answerTo j.port p status (leBytes 1 j.id ++ (if result = [] then [] else zeros 2 ++ result))).irq 250).showPresence

/-- Whether a job's final reply can be queued (R271, R287). -/
def State.jobMayEnd (s : State) (j : Job) : Bool := !s.portServed j.port || (s.hst.port j.port).outq.length < 16

/-- A change of the seal moves the presence jobs: closed, then open again within 30 s (R285). -/
def State.movePresence (s : State) (open_ : Bool) : State :=
  let step (j : Job) : Job :=
    if j.presence = 1 && !open_ then { j with presence := 2 }
    else if j.presence = 2 && open_ && s.now ≤ j.startAt + 30000 * msTicks then { j with presence := 0, startAt := s.now } else j
  let s1 := (s.withHst { s.hst with jobs := s.hst.jobs.map step }).showPresence
  if s.presenceWaits && !s1.presenceWaits then s1.irq 247 else s1

-- ── Fragments (R269, R284) ────────────────────────────────────────────────────────────────────────────────────────

/-- A packet of a fragmented transfer (R269): a wrong OFFSET discards the transfer, data beyond `limit` bytes are refused, `put` stores a fragment's data as it comes, `last` handles the whole
transfer; a last fragment that finds no job free has no effect. -/
def State.fragment (s : State) (port : Nat) (p : Packet) (limit : Nat) (put : Nat → List Byte → State → State)
    (last : List Byte → State → Answer) : Answer :=
  let x := s.hst.port port
  let off := leAt p.payload 0 4
  let d := p.payload.drop 4
  let t := x.transfer.getD { opcode := p.opcode }
  if p.payload.length < 4 then s.no stBadLength
  else if t.opcode ≠ p.opcode then s.no stBusy
  else if off ≠ t.data.length then { s.no stOutOfRange with state := s.setPort port { x with transfer := none } }
  else if limit < off + d.length then s.no stOutOfRange
  else
    let s1 := put off d s
    if p.more then
      (s1.setPort port { s1.hst.port port with transfer := some { opcode := p.opcode, data := t.data ++ d, since := s1.now } }).done
    else
      let a := last (t.data ++ d) (s1.setPort port { s1.hst.port port with transfer := none })
      if a.status = stBusy then s.no stBusy else a

/-- Sealed transfers are discarded when the seal closes (R284). -/
def State.dropSealed (s : State) : State :=
  (List.range 5).foldl (fun s p => match (s.hst.port p).transfer with
    | some t => if isSealed t.opcode then s.setPort p { s.hst.port p with transfer := none } else s
    | none => s) s

-- ── Discarding (R14, R287) ────────────────────────────────────────────────────────────────────────────────────────

/-- A port's packets not yet handled are discarded without reply, and so are the replies that wait behind them; their SEQ values leave the
window (R14, R268, R287). -/
def State.discardInbound (s : State) (port : Nat) : State :=
  let x := s.hst.port port
  let gone := x.inq.map (·.seq) ++ (x.late.filter (fun e => e.1 != 0)).map (fun e => leAt e.2.2 2 2)
  s.setPort port { x with inq := [], late := x.late.filter (fun e => e.1 == 0), window := x.window.filter (fun e => !gone.contains e.seq) }

/-- A COM restart discards the request of a running output self-test too: the test goes on, but gets no reply (R14, R268). -/
def State.discardHandled (s : State) : State :=
  match s.tst.otPkt with
  | none => s
  | some p =>
    let x := s.hst.port s.tst.otPort
    (s.setPort s.tst.otPort { x with window := x.window.filter (fun e => e.seq != p.seq) }).withTst { s.tst with otPkt := none }

end Sys2Proof.Machine
end

