-- ==== Sys2Proof/Machine/Signature.lean ====
section
/-! DEFINITION. The two signature schemes of R290: RSASSA-PSS over RSA-3072, and SLH-DSA-SHA2-128s. R290 names them and FIPS 205, R306
RFC 8017; the encodings inside a scheme are those documents' (PRESUMED, log entry 89). -/

namespace Sys2Proof.Machine

/-- A big-endian number. -/
def beNat (l : List Byte) : Nat := l.foldl (fun a b => 256 * a + b.toNat) 0

/-- The bytes of a list from one place on, `n` of them. -/
def slice (at_ n : Nat) (l : List Byte) : List Byte := (l.drop at_).take n

/-- A list cut into `n` pieces of `size` bytes. -/
def pieces (size n : Nat) (l : List Byte) : List (List Byte) := (List.range n).map (fun i => slice (size * i) size l)

/-- MGF1 over a hash whose values are `size` bytes long: `n` bytes. -/
def mgf1 (hash : List Byte → List Byte) (size : Nat) (seed : List Byte) (n : Nat) : List Byte :=
  ((List.range ((n + size - 1) / size)).flatMap (fun c => hash (seed ++ beBytes 4 c))).take n

-- ── RSASSA-PSS (RSA-3072, e = 65,537, SHA-384, MGF1 with SHA-384, salt of 48 bytes) ───────────────────────────────

/-- `x` squared `k` times modulo `n`. -/
def squarings (n : Nat) : Nat → Nat → Nat
  | 0, x => x
  | k + 1, x => squarings n k (x * x % n)

/-- x to the power 65,537 modulo n. -/
def power65537 (n x : Nat) : Nat := squarings n 16 (x % n) * x % n

/-- Whether the 384-byte encoded message fits the message: its top bit 0, 286 zero bytes and a 1 before the salt, the hash over the salt, and
0xBC last. -/
def pssFits (msg em : List Byte) : Bool :=
  let masked := em.take 335
  let h := slice 335 48 em
  let db := List.zipWith (· ^^^ ·) masked (mgf1 sha384 48 h 335)
  let db0 := (beNat db % 2 ^ 2679)
  byteAt em 383 == 0xBC && byteAt em 0 < 128 && db0 / 2 ^ 384 == 1 &&
    h == sha384 (zeros 8 ++ sha384 msg ++ beBytes 48 (db0 % 2 ^ 384))

/-- A signature of 384 bytes by the key of modulus `n`, 384 bytes, over a message. -/
def rsaVerify (n msg sig : List Byte) : Bool :=
  sig.length == 384 && decide (beNat sig < beNat n) && pssFits msg (beBytes 384 (power65537 (beNat n) (beNat sig)))

/-- The encoded message of 384 bytes over a message, with a salt of 48 bytes. -/
def pssEncode (salt msg : List Byte) : List Byte :=
  let h := sha384 (zeros 8 ++ sha384 msg ++ salt)
  let db := zeros 286 ++ [1] ++ salt
  beBytes 335 (beNat (List.zipWith (· ^^^ ·) db (mgf1 sha384 48 h 335)) % 2 ^ 2679) ++ h ++ [0xBC]

/-- x to the power `e` modulo n, `e` of at most `k` bits. -/
def powerMod (n : Nat) : Nat → Nat → Nat → Nat
  | 0, _, _ => 1 % n
  | k + 1, e, x =>
    let y := powerMod n k (e / 2) (x * x % n)
    if e % 2 = 1 then x * y % n else y

/-- The signature of 384 bytes by the key of modulus `n` and private exponent `d`. -/
def rsaSign (n d : Nat) (salt msg : List Byte) : List Byte := beBytes 384 (powerMod n 3072 d (beNat (pssEncode salt msg) % n))

-- ── SLH-DSA-SHA2-128s (n 16, h 63, d 7, h' 9, a 12, k 14, w 16) ───────────────────────────────────────────────────

/-- An address: the layer, the tree, the type (0 WOTS hash, 1 WOTS key, 2 tree, 3 FORS tree, 4 FORS roots) and its three words. -/
structure SlhAdrs where
  layer : Nat := 0
  tree : Nat := 0
  typ : Nat
  w1 : Nat := 0
  w2 : Nat := 0
  w3 : Nat := 0

/-- The compressed address, 22 bytes. -/
def SlhAdrs.bytes (a : SlhAdrs) : List Byte :=
  beBytes 1 a.layer ++ beBytes 8 a.tree ++ beBytes 1 a.typ ++ beBytes 4 a.w1 ++ beBytes 4 a.w2 ++ beBytes 4 a.w3

/-- The tweakable hash F, H or T over a message: 16 bytes. -/
def slhHash (seed : List Byte) (a : SlhAdrs) (m : List Byte) : List Byte :=
  (sha256 (seed ++ zeros 48 ++ a.bytes ++ m)).take 16

/-- The root reached from a node along its authentication path; `hash` takes the height and the index of the node it makes. -/
def slhClimb (hash : Nat → Nat → List Byte → List Byte) : Nat → Nat → List Byte → List (List Byte) → List Byte
  | _, _, node, [] => node
  | k, i, node, a :: r => slhClimb hash (k + 1) (i / 2) (hash (k + 1) (i / 2) (if i % 2 = 0 then node ++ a else a ++ node)) r

/-- A WOTS+ chain: `n` steps from step `j` on. -/
def slhChain (seed : List Byte) (a : SlhAdrs) : Nat → Nat → List Byte → List Byte
  | 0, _, x => x
  | n + 1, j, x => slhChain seed a n (j + 1) (slhHash seed { a with w3 := j } x)

/-- The 35 digits of a WOTS+ message: 32 of the message, 3 of the checksum. -/
def wotsDigits (m : List Byte) : List Nat :=
  let ds := (List.range 32).map (fun i => beNat m / 16 ^ (31 - i) % 16)
  let c := ds.foldl (fun a d => a + (15 - d)) 0
  ds ++ [c / 256 % 16, c / 16 % 16, c % 16]

/-- The WOTS+ public key from a signature of 560 bytes. -/
def wotsKey (seed : List Byte) (layer tree leaf : Nat) (sig m : List Byte) : List Byte :=
  let ends := ((wotsDigits m).zip (pieces 16 35 sig)).zipIdx.flatMap (fun e =>
    slhChain seed { layer := layer, tree := tree, typ := 0, w1 := leaf, w2 := e.2 } (15 - e.1.1) e.1.1 e.1.2)
  slhHash seed { layer := layer, tree := tree, typ := 1, w1 := leaf } ends

/-- The root of one XMSS tree from a signature of 704 bytes over a message. -/
def xmssRoot (seed : List Byte) (layer tree leaf : Nat) (sig m : List Byte) : List Byte :=
  slhClimb (fun k i => slhHash seed { layer := layer, tree := tree, typ := 2, w2 := k, w3 := i }) 0 leaf
    (wotsKey seed layer tree leaf (sig.take 560) m) (pieces 16 9 (sig.drop 560))

/-- The root of the hypertree, from its signatures layer by layer. -/
def hyperRoot (seed : List Byte) : Nat → Nat → Nat → List Byte → List (List Byte) → List Byte
  | _, _, _, m, [] => m
  | layer, tree, leaf, m, sig :: r =>
    hyperRoot seed (layer + 1) (tree / 512) (tree % 512) (xmssRoot seed layer tree leaf sig m) r

/-- The FORS public key from a signature of 2,912 bytes over a digest of 21 bytes. -/
def forsKey (seed : List Byte) (tree leaf : Nat) (sig md : List Byte) : List Byte :=
  let roots := (pieces 208 14 sig).zipIdx.flatMap (fun e =>
    let i := e.2 * 4096 + beNat md / 4096 ^ (13 - e.2) % 4096
    let hash (k i : Nat) := slhHash seed { tree := tree, typ := 3, w1 := leaf, w2 := k, w3 := i }
    slhClimb hash 0 i (hash 0 i (e.1.take 16)) (pieces 16 12 (e.1.drop 16)))
  slhHash seed { tree := tree, typ := 4, w1 := leaf } roots

/-- The digest of 30 bytes over a message and a signature's first 16 bytes: pure mode, the context string empty. -/
def slhDigest (r pk msg : List Byte) : List Byte := mgf1 sha256 32 (r ++ pk.take 16 ++ sha256 (r ++ pk.take 32 ++ zeros 2 ++ msg)) 30

/-- A signature of 7,856 bytes by the key `pk`, 32 bytes, over a message. -/
def slhVerify (pk msg sig : List Byte) : Bool :=
  let seed := pk.take 16
  let digest := slhDigest (sig.take 16) pk msg
  let tree := beNat (slice 21 7 digest) % 2 ^ 54
  let leaf := beNat (slice 28 2 digest) % 2 ^ 9
  sig.length == 7856 &&
    hyperRoot seed 0 tree leaf (forsKey seed tree leaf (slice 16 2912 sig) (digest.take 21)) (pieces 704 7 (sig.drop 2928)) == slice 16 16 pk

/-- The node `i` at height `z` of a tree over its leaves. -/
def slhNode (hash : Nat → Nat → List Byte → List Byte) (leaf : Nat → List Byte) : Nat → Nat → List Byte
  | 0, i => leaf i
  | z + 1, i => hash (z + 1) i (slhNode hash leaf z (2 * i) ++ slhNode hash leaf z (2 * i + 1))

/-- The authentication path of leaf `i` over `h` heights. -/
def slhPath (hash : Nat → Nat → List Byte → List Byte) (leaf : Nat → List Byte) (h i : Nat) : List Byte :=
  (List.range h).flatMap (fun z => slhNode hash leaf z ((i / 2 ^ z) ^^^ 1))

/-- The start of WOTS+ chain `i`, from the secret seed (type 5). -/
def wotsSecret (sk seed : List Byte) (layer tree leaf i : Nat) : List Byte :=
  slhHash seed { layer := layer, tree := tree, typ := 5, w1 := leaf, w2 := i } sk

/-- The 35 chains of a WOTS+ key, each walked as many steps as `ds` says. -/
def wotsChains (sk seed : List Byte) (layer tree leaf : Nat) (ds : List Nat) : List Byte :=
  ds.zipIdx.flatMap (fun e => slhChain seed { layer := layer, tree := tree, typ := 0, w1 := leaf, w2 := e.2 } e.1 0
    (wotsSecret sk seed layer tree leaf e.2))

/-- The WOTS+ public key of a leaf. -/
def wotsPublic (sk seed : List Byte) (layer tree leaf : Nat) : List Byte :=
  slhHash seed { layer := layer, tree := tree, typ := 1, w1 := leaf } (wotsChains sk seed layer tree leaf (List.replicate 35 15))

/-- The signature of one XMSS tree over a message: 704 bytes. -/
def xmssSign (sk seed : List Byte) (layer tree leaf : Nat) (m : List Byte) : List Byte :=
  wotsChains sk seed layer tree leaf (wotsDigits m) ++
    slhPath (fun k i => slhHash seed { layer := layer, tree := tree, typ := 2, w2 := k, w3 := i }) (wotsPublic sk seed layer tree) 9 leaf

/-- The signatures of `n` layers of the hypertree from `layer` on. -/
def hyperSign (sk seed : List Byte) : Nat → Nat → Nat → Nat → List Byte → List Byte
  | 0, _, _, _, _ => []
  | n + 1, layer, tree, leaf, m =>
    let sig := xmssSign sk seed layer tree leaf m
    sig ++ hyperSign sk seed n (layer + 1) (tree / 512) (tree % 512) (xmssRoot seed layer tree leaf sig m)

/-- The FORS signature over a digest of 21 bytes: 2,912 bytes. The secrets have type 6. -/
def forsSign (sk seed : List Byte) (tree leaf : Nat) (md : List Byte) : List Byte :=
  let hash (k i : Nat) := slhHash seed { tree := tree, typ := 3, w1 := leaf, w2 := k, w3 := i }
  let secret (i : Nat) := slhHash seed { tree := tree, typ := 6, w1 := leaf, w3 := i } sk
  (List.range 14).flatMap (fun j =>
    let i := j * 4096 + beNat md / 4096 ^ (13 - j) % 4096
    secret i ++ slhPath hash (fun i => hash 0 i (secret i)) 12 i)

/-- HMAC with SHA-256, the key of at most 64 bytes. -/
def hmac256 (key msg : List Byte) : List Byte :=
  let k := (key ++ zeros 64).take 64
  sha256 (k.map (· ^^^ 0x5C) ++ sha256 (k.map (· ^^^ 0x36) ++ msg))

/-- The signature by the private key `sk`, 64 bytes (its seed, its PRF key, then the public key), with the 16 random bytes of the hedged
form. -/
def slhSign (sk random msg : List Byte) : List Byte :=
  let seed := slice 32 16 sk
  let r := (hmac256 (slice 16 16 sk) (random ++ zeros 2 ++ msg)).take 16
  let digest := slhDigest r (slice 32 32 sk) msg
  let tree := beNat (slice 21 7 digest) % 2 ^ 54
  let leaf := beNat (slice 28 2 digest) % 2 ^ 9
  let fors := forsSign (sk.take 16) seed tree leaf (digest.take 21)
  r ++ fors ++ hyperSign (sk.take 16) seed 7 0 tree leaf (forsKey seed tree leaf fors (digest.take 21))

/-- The device's signature block over a message (R290, R298): 8,240 bytes. The salt and the random bytes are free values. -/
def identitySign (salt random msg : List Byte) : List Byte :=
  rsaSign (beNat Config.identityRsaN) Config.identityRsaD salt msg ++ slhSign Config.identitySlh random msg

end Sys2Proof.Machine
end

