-- ==== Sys2Proof/Machine/Calib.lean ====
section
/-! DEFINITION. The calibration (R302–R305): register values carried by opcodes and records (R282), the records, the stored package, and
signature blocks (R290). -/

namespace Sys2Proof.Machine

-- ── Register values carried by an opcode (R282) ───────────────────────────────────────────────────────────────────

/-- The bits of the word at `a` that no field holds; all of them where no register stands. -/
def reservedBits (a : Nat) : Word :=
  match regRow a with
  | none => 0xFFFFFFFF
  | some r => ~~~ (BitVec.ofNat 32 (r.rw ||| r.w1c ||| r.w1s ||| r.wo ||| r.rc ||| r.rwh ||| r.ro))

/-- What an opcode's register values must satisfy, `old` being the device as it stands and `s` the one the values are tried on: the
state (STATE_FORBIDS), the ranges and the reserved bits (OUT_OF_RANGE), and that the block's clock runs. -/
def State.checkRegs (old s : State) (l : List (Nat × Word)) : Nat :=
  let try_ := l.foldl (fun t e => t.putRw e.1 e.2) s
  let st := l.map (fun e => old.checkReg try_ e.1)
  if st.any (· == stForbids) then stForbids
  else if st.any (· != 0) || l.any (fun e => e.2 &&& reservedBits e.1 != 0) then stOutOfRange
  else if l.any (fun e => regRow e.1 != none && !s.regUp e.1) then stBusError
  else stOk

/-- The registers take their words. -/
def State.putRegs (s : State) (l : List (Nat × Word)) : State :=
  l.foldl (fun s e => if regRow e.1 = none then s else s.regEffect e.1 e.2) s

/-- The payload of an opcode that sets registers: an index in byte 0 (bytes 1–3 are 0) when `indexed`, from `first`, `count` of them; then
the registers' words. -/
structure SetForm where
  indexed : Bool
  first : Nat
  count : Nat
  regs : Nat → List Nat

/-- The forms of R282 that a calibration record may carry. -/
def setForm (op : Nat) : Option SetForm :=
  if op = 0x200 then some ⟨true, 0, 4, fun n => [Reg.WHL_CFG n, Reg.WHL_FILT n, Reg.WHL_WIN n, Reg.WHL_PW n]⟩
  else if op = 0x201 then some ⟨true, 0, 2, fun x => (List.range 48).map (fun k => Reg.WHL_WD_CFG x + 4 * k)⟩
  else if op = 0x202 then some ⟨true, 0, 2, fun x => [Reg.TRK_CTRL x, Reg.TRK_SYNC x, Reg.TRK_PRED x, Reg.TRK_LEARN x, Reg.TRK_LSPD x,
    Reg.TRK_STOP x, Reg.TRK_REVOFS x]⟩
  else if op = 0x207 then some ⟨false, 0, 1, fun _ => [Reg.TRK_VOTE, Reg.TRK_VSEL]⟩
  else if op = 0x300 then some ⟨true, 1, 24, fun c => [Reg.SCH_CYL_A (c - 1), Reg.SCH_CYL_B (c - 1), Reg.SCH_CYL_C (c - 1),
    Reg.SCH_CYL_D (c - 1)]⟩
  else if op = 0x400 then some ⟨true, 0, 16, fun p => [Reg.PRF_CFG p, Reg.PRF_REG p, Reg.PRF_BOOST p, Reg.PRF_PEAK p, Reg.PRF_DROP p,
    Reg.PRF_HOLD p, Reg.PRF_END p, Reg.PRF_BATT p]⟩
  else if op = 0x402 then some ⟨false, 0, 1, fun _ => [Reg.DRV_BCFG, Reg.DRV_BLIM, Reg.DRV_VBOOSTMIN, Reg.DRV_DIAG, Reg.DRV_STBY,
    Reg.DRV_DIELIM] ++ (List.range 8).map Reg.DRV_BANK⟩
  else if op = 0x403 then some ⟨true, 0, 48, fun n => [Reg.DRV_CH_CFG n, Reg.WIT_CH_CFG n]⟩
  else if op = 0x404 then some ⟨true, 0, 4, fun m => [Reg.DRV_TMODEL_R m, Reg.DRV_TMODEL_G m, Reg.DRV_TMODEL_C m, Reg.DRV_TMODEL_T m]⟩
  else if op = 0x508 then some ⟨false, 0, 1, fun _ => [Reg.WIT_CTRL, Reg.WIT_CORR, Reg.WIT_OBS]⟩
  else if op = 0x509 then some ⟨true, 0, 16, fun p => [Reg.WIT_DET_OW p, Reg.WIT_DET_OP p, Reg.WIT_DET_CW p, Reg.WIT_DET_CP p]⟩
  else if op = 0x600 then some ⟨false, 0, 1, fun _ => [Reg.FLO_CTRL, Reg.FLO_NODE, Reg.FLO_DOM, Reg.FLO_PAIR, Reg.FLO_PAIRT,
    Reg.FLO_PAIR_CNT, Reg.FLO_SYS] ++ (List.range 4).map Reg.FLO_PORT_CTRL⟩
  else if op = 0x606 then some ⟨false, 0, 1, fun _ => (List.range 8).map Reg.FLO_VLIST⟩
  else none

/-- The register values in a payload of a form. -/
def SetForm.values (f : SetForm) (l : List Byte) : List (Nat × Word) :=
  let r := f.regs (if f.indexed then byteAt l 0 else 0)
  r.zip (wordsOf (if f.indexed then l.drop 4 else l) r.length)

def SetForm.size (f : SetForm) : Nat := 4 * (f.regs f.first).length + (if f.indexed then 4 else 0)

/-- The profile that a PRF_SET payload gives. -/
def payloadProfile (l : List Byte) : Profile :=
  match wordsOf (l.drop 4) 8 with
  | [a, b, c, d, e, f, g, h] => { cfg := a, reg := b, boost := c, peak := d, drop := e, hold := f, fin := g, batt := h }
  | _ => {}

/-- The check of an opcode that sets registers: its payload's size, its index, its values. -/
def State.checkSet (old s : State) (op : Nat) (f : SetForm) (l : List Byte) : Nat :=
  if l.length ≠ f.size then stBadLength
  else if f.indexed && (byteAt l 0 < f.first || f.first + f.count ≤ byteAt l 0 || leAt l 1 3 != 0) then stOutOfRange
  else
    let c := old.checkRegs s (f.values l)
    if c ≠ 0 then c else if op = 0x400 && !(payloadProfile l).ok then stOutOfRange else stOk

/-- Its effect; a PRF_SET is applied at once (R193). -/
def State.applySet (s : State) (op : Nat) (f : SetForm) (l : List Byte) : State :=
  let s1 := s.putRegs (f.values l)
  if op = 0x400 then s1.applyProfile (byteAt l 0) else s1

-- ── Records (R302) ────────────────────────────────────────────────────────────────────────────────────────────────

/-- Breakpoints rise strictly. -/
def rises (l : List Nat) : Bool := (l.zip (l.drop 1)).all (fun p => p.1 < p.2)

/-- A map's layout (R130). -/
def mapOk (l : List Byte) : Bool :=
  l.length == 584 && inRange 1 63 (byteAt l 0) && inRange 1 4 (mapKind l) && inRange 2 16 (mapNX l) && inRange 2 16 (mapNY l) &&
  mapOwner l ≤ 24 && leAt l 5 3 == 0 && rises ((List.range (mapNX l)).map (mapX l)) && rises ((List.range (mapNY l)).map (mapY l))

/-- The rows of a shot plan (R131). -/
def planOf (l : List Byte) : List (List Byte) := (List.range (l.length / 8)).map (fun k => (l.drop (8 * k)).take 8)

/-- A shot plan (R131, R132): whole rows, at most 10, reserved bits 0, at most one enabled injector row that takes the remainder. -/
def planOk (l : List Byte) : Bool :=
  l.length % 8 == 0 && l.length ≤ 80 && (planOf l).all (fun r => byteAt r 3 < 4) &&
  ((planOf l).filter (fun r => byteAt r 3 % 2 == 1 && !rowValve r && byteAt r 2 == 0)).length ≤ 1

/-- The governor record (R134). -/
def govOk (l : List Byte) : Bool := l.length == 16 && leAt l 4 2 ≤ 1000

/-- A pressure record (R133). -/
def pressOk (l : List Byte) : Bool :=
  l.length == 20 && inRange 1 2 (byteAt l 0) && byteAt l 1 < 16 && leAt l 2 2 == 0 && leAt l 12 2 < 4096 && leAt l 14 2 < 4096 &&
  leAt l 12 2 < leAt l 14 2 && leAt l 18 2 == 0

def State.withCal (s : State) (x : CalState) : State := { s with cal := x }

/-- The check of a record, as its opcode would be checked. The first shot plan of a calibration is the diesel plan, the second the
dual-fuel plan (log entry 19). -/
def State.checkRecord (old s : State) (typ : Nat) (l : List Byte) : Nat :=
  match setForm typ with
  | some f => old.checkSet s typ f l
  | none =>
    let ok :=
      if typ = 0x310 then mapOk l
      else if typ = 0x311 then planOk l && s.cal.plans.length < 2
      else if typ = 0x312 then govOk l
      else if typ = 0x313 then pressOk l && !(s.cal.press.any (fun e => e.1 == byteAt l 0))
      else false
    if ok then stOk else stOutOfRange

/-- A record is applied. -/
def State.applyRecord (s : State) (typ : Nat) (l : List Byte) : State :=
  match setForm typ with
  | some f => s.applySet typ f l
  | none =>
    if typ = 0x310 then s.withCal { s.cal with maps := spPut (fun _ => []) s.cal.maps (byteAt l 0) l }
    else if typ = 0x311 then s.withCal { s.cal with plans := s.cal.plans ++ [(s.cal.plans.length, l)] }
    else if typ = 0x312 then s.withCal { s.cal with gov := l }
    else if typ = 0x313 then s.withCal { s.cal with press := spPut (fun _ => []) s.cal.press (byteAt l 0) l }
    else s

/-- A calibration record: TYPE and payload. -/
structure CalRec where
  typ : Nat
  data : List Byte
  deriving DecidableEq, Repr

/-- A length rounded up to a multiple of 4. -/
def pad4 (n : Nat) : Nat := (n + 3) / 4 * 4

/-- The record as it stands in a body. -/
def CalRec.bytes (r : CalRec) : List Byte :=
  leBytes 2 r.typ ++ leBytes 2 r.data.length ++ r.data ++ zeros (pad4 r.data.length - r.data.length)

/-- The records of a body, `fuel` bounding their number; `none` where the body is not a sequence of records. -/
def recordsOf : Nat → List Byte → Option (List CalRec)
  | _, [] => some []
  | 0, _ => none
  | fuel + 1, l =>
    let n := leAt l 2 2
    if l.length < 4 + pad4 n then none
    else if (l.drop (4 + n)).take (pad4 n - n) ≠ zeros (pad4 n - n) then none
    else (recordsOf fuel (l.drop (4 + pad4 n))).map (fun r => { typ := leAt l 0 2, data := (l.drop 4).take n } :: r)

-- ── The stored package (R302, R305) ───────────────────────────────────────────────────────────────────────────────

def calMagic : Nat := 0x3143564E
def calLimit : Nat := 1040272

/-- Whether the current half holds a package. -/
def State.calStored (s : State) : Bool := s.memWord (calAddr s.sec.calHalf) == calMagic
/-- The stored body; nothing from a blank store (R307). -/
def State.calBody (s : State) : List Byte :=
  if s.calStored then s.bytes (calAddr s.sec.calHalf + 64) (Nat.min calLimit (s.memWord (calAddr s.sec.calHalf + 8))) else []
def State.calVer (s : State) : Nat := if s.calStored then s.memWord (calAddr s.sec.calHalf + 12) else 0
/-- KEY_SLOT of the stored package: 0xFF unsigned. -/
def State.calKey (s : State) : Nat := if s.calStored then (s.byte (calAddr s.sec.calHalf + 6)).toNat else 0xFF
def State.calRecords (s : State) : List CalRec := (recordsOf s.calBody.length s.calBody).getD []

/-- The configuration hash (R305). -/
def configHash (l : List CalRec) : List Byte :=
  sha256 ((l.filter (fun r => r.typ != 0x600)).flatMap (fun r => leBytes 2 r.typ ++ leBytes 2 r.data.length ++ r.data))

/-- SEC_CFGk, SEC_CALVER and CAL_KEY show the stored calibration. -/
def State.showCal (s : State) : State :=
  let h := configHash s.calRecords
  let s1 := (List.range 8).foldl (fun s k => s.setWord (Reg.SEC_CFG k) (BitVec.ofNat 32 (leAt h (4 * k) 4))) s
  (s1.setWord Reg.SEC_CALVER (BitVec.ofNat 32 s.calVer)).set Fld.SEC_STAT_CAL_KEY (s.calKey % 4)

/-- The header of a package with format 1. -/
def calHeader (key ver : Nat) (body : List Byte) : List Byte :=
  leBytes 4 calMagic ++ leBytes 2 1 ++ leBytes 1 key ++ [0] ++ leBytes 4 body.length ++ leBytes 4 ver ++ sha384 body

/-- A package goes into the other half, which then becomes the current one (R302). -/
def State.storeCal (s : State) (package : List Byte) : State :=
  let h := 1 - s.sec.calHalf
  let s1 := s.setBytes (calAddr h) package
  (s1.withSec { s1.sec with calHalf := h }).showCal

/-- An accepted opcode's record is appended (R304), unsigned, with CAL_VER unchanged; `none` where the body would be too long. -/
def State.appendRecord (s : State) (r : CalRec) : Option State :=
  let body := s.calBody ++ r.bytes
  if calLimit < body.length then none else some (s.storeCal (calHeader 0xFF s.calVer body ++ body))

-- ── Keys and signature blocks (R290, R306) ────────────────────────────────────────────────────────────────────────

def State.keyRec (s : State) (k : Nat) : List Byte := spGet (fun _ => []) s.sec.keys k
def State.enrolled (s : State) (k : Nat) : Bool := decide (s.keyRec k ≠ [])
def State.anyKey (s : State) : Bool := s.enrolled 0 || s.enrolled 1

/-- A signature block over a message by a pair of keys: RSA first, then SLH-DSA (R290). -/
def verifyBlock (rsa slh msg block : List Byte) : Bool :=
  block.length == 8240 && rsaVerify rsa msg (block.take 384) && slhVerify slh msg (block.drop 384)

/-- A signature block by the customer key of a slot. -/
def State.verifyByKey (s : State) (k : Nat) (msg block : List Byte) : Bool :=
  k ≤ 1 && s.enrolled k && verifyBlock (((s.keyRec k).drop 4).take 384) (((s.keyRec k).drop 388).take 32) msg block

-- ── Loading (R302, R303) ──────────────────────────────────────────────────────────────────────────────────────────

/-- The registers that records set, but for those of FLO_SET unless `flo`. -/
def calRegs (flo : Bool) : List Nat :=
  ([0x200, 0x201, 0x202, 0x207, 0x300, 0x400, 0x402, 0x403, 0x404, 0x508, 0x509, 0x606] ++ (if flo then [0x600] else [])).flatMap
    (fun op => match setForm op with
      | some f => (List.range f.count).flatMap (fun i => f.regs (f.first + i))
      | none => [])

/-- The configuration at its reset values. -/
def State.calReset (s : State) (flo : Bool) : State :=
  let s1 := (calRegs flo).foldl (fun s a => s.putRw a (regReset a)) s
  let s2 := (List.range 16).foldl (fun s p => s.putActive p (s.shadowProfile p)) s1
  s2.withCal {}

/-- The records applied in order; one that fails its check is left out, and the answer says so. -/
def State.loadRecords (s : State) (l : List CalRec) : Bool × State :=
  l.foldl (fun a r => if a.2.checkRecord a.2 r.typ r.data = 0 then (a.1, a.2.applyRecord r.typ r.data) else (false, a.2)) (true, s)

/-- Whether a GASQTY map comes with a gas-pressure record (R133). -/
def gasOk (c : CalState) : Bool := !(c.maps.any (fun e => mapKind e.2 == 4)) || c.press.any (fun e => e.1 == 2)

/-- In BOOT: the stored records are applied in order (R302); one that fails sets SYS_FAULT.CALIB. A blank store is no fault (R307). -/
def State.loadCalibration (s : State) : State :=
  let r := s.loadRecords s.calRecords
  let bad := !r.1 || !gasOk r.2.cal || recordsOf s.calBody.length s.calBody == none
  let s1 := (r.2.withSys { r.2.sys with calibBad := bad }).showCal
  if bad then s1.raiseFault Fld.SYS_FAULT_CALIB else s1

/-- The package's own checks (R303): header, body hash, and the signature while a key is enrolled. -/
def State.packageOk (s : State) (l : List Byte) : Bool :=
  let n := leAt l 8 4
  let body := (l.drop 64).take n
  let key := byteAt l 6
  leAt l 0 4 == calMagic && leAt l 4 2 == 1 && (key == 0 || key == 1 || key == 0xFF) && byteAt l 7 == 0 && n ≤ calLimit &&
  l.length == 64 + n + (if key = 0xFF then 0 else 8240) && (l.drop 16).take 48 == sha384 body &&
  (!s.anyKey || (key != 0xFF && s.verifyByKey key (l.take 64) (l.drop (64 + n))))

/-- Under a tracker that is not STOPPED a package keeps the description and the guarded settings of every input that it names (R51); what
the package does not carry is at its reset value. -/
def State.keepsWheels (s new : State) : Bool :=
  [0, 1].all (fun x => s.trkState x == 0 ||
    ((List.range 48).all (fun k => s.word (Reg.WHL_WD_CFG x + 4 * k) == new.word (Reg.WHL_WD_CFG x + 4 * k)) &&
     (List.range 4).all (fun n => !s.descNames x n ||
       ((s.word (Reg.WHL_CFG n) ^^^ new.word (Reg.WHL_CFG n)) &&& guardedCfg) == 0)))

/-- Every record of a package, as its opcode would be checked (R303): tried on the configuration at reset values. -/
def State.packageRecordsOk (s : State) (l : List CalRec) : Bool :=
  let start := s.calReset (l.any (fun r => r.typ == 0x600))
  let r := l.foldl (fun a r =>
    (a.1 && s.checkRecord a.2 r.typ r.data == 0, if s.checkRecord a.2 r.typ r.data = 0 then a.2.applyRecord r.typ r.data else a.2)) (true, start)
  r.1 && gasOk r.2.cal && s.keepsWheels r.2 && !(l.any (fun r => r.typ == 0x600 && s.pairForbids (BitVec.ofNat 32 (leAt r.data 12 4))))

/-- The CAL_LOAD job's checks and effect (R303): its status, and the device. Stored FLO_SET records stay when the package carries
none. -/
def State.calJob (s : State) (l : List Byte) : Nat × State :=
  let n := leAt l 8 4
  let body := (l.drop 64).take n
  if !s.packageOk l then (stVerify, s.irq 12)
  else match recordsOf body.length body with
    | none => (stOutOfRange, s.irq 12)
    | some rs =>
      if !s.packageRecordsOk rs then (stOutOfRange, s.irq 12)
      else
        let flo := rs.any (fun r => r.typ == 0x600)
        let kept := if flo then [] else s.calRecords.filter (fun r => r.typ == 0x600)
        let body2 := body ++ kept.flatMap CalRec.bytes
        let s1 := if kept = [] then s.storeCal l else s.storeCal (calHeader (byteAt l 6) (leAt l 12 4) body2 ++ body2)
        let s2 := ((s1.calReset flo).loadRecords rs).2
        (stOk, (s2.withSys { s2.sys with calibBad := false }).showCal)

/-- An opcode of R302 (R304): with a customer key enrolled it is refused outside BENCH, but for FLO_SET; with none its record is
appended to the stored calibration. -/
def State.calibOpcode (s : State) (op : Nat) (l : List Byte) : Answer :=
  if s.anyKey && s.st != 9 && op != 0x600 then s.no stForbids
  else if op = 0x600 && 16 ≤ l.length && s.pairForbids (BitVec.ofNat 32 (leAt l 12 4)) then s.no stForbids
  else
    let c := s.checkRecord s op l
    if c ≠ 0 then s.no c
    else if s.anyKey then (s.applyRecord op l).done
    else match s.appendRecord { typ := op, data := l } with
      | none => s.no stCapacity
      | some s1 => (s1.applyRecord op l).done

/-- The erased calibration store (R307). -/
def State.eraseCal (s : State) : State :=
  { s with mem := s.mem.filter (fun e => e.1 < calAddr 0 || calAddr 2 ≤ e.1) }

end Sys2Proof.Machine
end

