-- ==== Sys2Proof/Machine/Bench.lean ====
section
/-! DEFINITION. The test block's shared operations (R397–R403) and the exit from BENCH (R396). -/

namespace Sys2Proof.Machine

-- ── Loop-back (R397–R400) ─────────────────────────────────────────────────────────────────────────────────────────

/-- A run of the test block is in progress: 1 loop-back, 2 output test, 3 SELFTEST. -/
def State.tstRun (s : State) : Nat := s.get Fld.TST_STAT_RUN

/-- PRBS-31 (x^31 + x^28 + 1): `n` steps of its state (R399). -/
def prbsNext (v : Nat) : Nat := (2 * v + ((v / 2 ^ 30 + v / 2 ^ 27) % 2)) % 2 ^ 31
def prbsSteps : Nat → Nat → Nat
  | 0, v => v
  | n + 1, v => prbsSteps n (prbsNext v)

/-- Conversions of one unit with IF = ADC (R400): the three references, or each of four inputs without and with the current. -/
def State.convPerUnit (s : State) : Nat := if s.get Fld.TST_STAT_IF ≠ 4 then 1 else if s.get Fld.TST_STAT_DEPTH = 0 then 3 else 8

/-- A unit is sent (R399). -/
def State.sendUnit (s : State) : State :=
  (s.set Fld.TST_LBCNT_SENT (s.get Fld.TST_LBCNT_SENT + 1)).withTst
    { s.tst with unitAt := s.now, sub := 0, waiting := true, prbs := prbsSteps (8 * s.tst.len) s.tst.prbs }

/-- A Floe port that a run takes out of service leaves UP (R398). -/
def State.takeInterface (s : State) : State :=
  (List.range 4).foldl (fun s p => if s.loopedAt 3 p then s.portDown p else s) s

/-- The loop-back ends: its final reply by R399, source 252. -/
def State.endLoop (s : State) (aborted : Bool) : State :=
  let rest := leBytes 4 (s.get Fld.TST_LBCNT_SENT) ++ leBytes 4 (s.get Fld.TST_LBCNT_GOOD) ++ leBytes 4 (s.get Fld.TST_LBERR_BAD) ++
    leBytes 4 (s.get Fld.TST_LBERR_RTT) ++ [if aborted then 1 else 0]
  let s1 := (s.set Fld.TST_STAT_RUN 0).irq 252
  match s1.hst.jobs.find? (fun j => j.opcode == 0x900) with
  | some j => s1.endJob j stOk rest
  | none => s1

-- ── Output self-test (R401–R403) ──────────────────────────────────────────────────────────────────────────────────

/-- Field of the OUTPUT_TEST payload. -/
def State.otArg (s : State) (off : Nat) : Nat := leAt s.tst.otArgs off 2

/-- The first result of R403 that applies, given R in mΩ and L in µH. -/
def State.otVerdict (s : State) (r l : Nat) : Nat :=
  if r < s.otArg 8 then 1 else if s.otArg 10 < r then 2 else if l < s.otArg 12 then 3 else if s.otArg 14 < l then 4 else 0

/-- R and L as reported, where the test gave them, and the ramp time, where the ramp has ended; what a test that ended before reports for
them is a free value (log entry 28). -/
def State.otValues (s : State) (rl : Option (Nat × Nat)) (ramp : Option Nat) : Nat × Nat × Nat × State :=
  let w := s.takeFree
  let u := w.2.takeFree
  let v : Nat × Nat := rl.getD (w.1.toNat % 65536, w.1.toNat / 65536)
  (v.1, v.2, ramp.getD (u.1.toNat % 131072), u.2)

/-- The test ends (R402, R403): END with FAST decay, TST_OTRES and the reply, source 253; the channel is in standby again. -/
def State.otEnd_ (s : State) (result : Nat) (rl : Option (Nat × Nat)) (ramp : Option Nat) : State :=
  if s.tst.otCh = 0 then s else
  let val := s.otValues rl ramp
  let r := val.1
  let l := val.2.1
  let ramp := val.2.2.1
  let s := val.2.2.2
  let n := s.tst.otCh - 1
  let s1 := s.setChan n { s.chan n with held := false }
  let s2 := if s1.occupies n then s1.enterEnd n else s1
  let s3 := (((((s2.set Fld.TST_OTRES0_L l).set Fld.TST_OTRES0_R r).set Fld.TST_OTRES1_RESULT result).set Fld.TST_OTRES1_CH n).set
    Fld.TST_OTRES1_TRAMP ramp).set Fld.TST_STAT_RUN 0
  let s4 := ((s3.withTst { s3.tst with otCh := 0, otPkt := none, otTrip := false, otHold := none }).irq 253).maskForeign (bankOf n)
  match s.tst.otPkt with
  | some p => s4.answerTo s.tst.otPort p stOk (leBytes 1 result ++ zeros 2 ++ leBytes 2 r ++ leBytes 2 l ++ leBytes 4 ramp)
  | none => s4

/-- The seal closes, or BENCH ends, during the test (R403). -/
def State.otAbort (s : State) : State := s.otEnd_ 7 none (if s.tst.otHold.isSome then some s.tst.otRamp else none)

-- ── SELFTEST (R404) ───────────────────────────────────────────────────────────────────────────────────────────────

/-- The item of R404 that a SELFTEST does not run: the interface that carries the request. -/
def State.skipMask (s : State) (j : Job) : Nat := if j.port = 4 then 2 ^ (4 + s.routeOf (leAt j.source 0 2)) else 2 ^ j.port

/-- SELFTEST ends with the mask of the items that failed and of those not run, source 254. -/
def State.endSelf (s : State) (failed skipped : Nat) : State :=
  let s1 := ((s.set Fld.TST_SELF_FAIL failed).set Fld.TST_STAT_RUN 0).irq 254
  match s1.hst.jobs.find? (fun j => j.opcode == 0x902) with
  | some j => s1.endJob j stOk (leBytes 4 failed ++ leBytes 4 skipped)
  | none => s1

/-- Every run of the test block stops (R396 step 1). A SELFTEST that is stopped reports no item (log entry 20). -/
def State.stopTests (s : State) : State :=
  if s.tstRun = 1 then s.endLoop true
  else if s.tstRun = 2 then s.otAbort
  else if s.tstRun = 3 then s.endSelf 0 0xFFFFF
  else s

-- ── The store's copies (R420) ─────────────────────────────────────────────────────────────────────────────────────

/-- The settings that are saved at BENCH exit and reloaded after a loss of the always-on domain (R88, R318, R342). -/
def savedAtExit : List Nat :=
  [Reg.PWR_CALVA, Reg.PWR_CALVB, Reg.PWR_CALVCFG, Reg.PWR_SUPCFG, Reg.PWR_WAKEEN, Reg.PWR_WAKECFG, Reg.PWR_AONTMR,
   Reg.CLK_XCFG, Reg.CLK_XDLY, Reg.TRK_FROST]

/-- The tracker tables, trained bits and corrections come back from the store (R81, R205). -/
def State.loadTables (s : State) : State :=
  let s1 := (List.range 48).foldl (fun s n => s.loadReg (Reg.WIT_CH_CORR n)) s
  (List.range 2).foldl (fun s x =>
    (s.setTrk x { s.trk x with kTab := untagKeys x s.sec.kSaved, profile := untagKeys x s.sec.profSaved }).set (Fld.TRK_LOAD_TRAINED x)
      (spGet (fun _ => 0) s.sec.trainSaved x)) s1

-- ── BENCH exit (R396) ─────────────────────────────────────────────────────────────────────────────────────────────

/-- A firmware-owned register that a calibration record does not carry and the exit does not save takes back the RW fields it had at
BENCH entry. Gate bits of the host stand. -/
def State.restoreReg (s : State) (bench : Sparse Word) (cal : List Nat) (a : Nat) : State :=
  if hostOwned a || cal.contains a || savedAtExit.contains a then s
  else match regRow a with
    | none => s
    | some r =>
      let host : Nat := if a = Reg.CLK_GATE0 then gateHostMask 0 else if a = Reg.CLK_GATE1 then gateHostMask 1 else 0
      let m := BitVec.ofNat 32 r.rw &&& ~~~ (BitVec.ofNat 32 host)
      s.setWord a ((s.word a &&& ~~~ m) ||| (spGet regReset bench a &&& m))

/-- Every register that either the device or its copy of BENCH entry lists. -/
def State.restoreRegs (s : State) : State :=
  let bench := s.sys.benchRegs
  (bench.map Prod.fst ++ s.regs.map Prod.fst).foldl (fun s' a => s'.restoreReg bench (calRegs true) a) s

/-- What follows when the configuration as a whole has been replaced: Floe ports, pair settings, authority, standby, cylinder ranges, and
trackers whose description is disabled (R61). -/
def State.configChanged (s old : State) : State :=
  ((((((s.sweepPorts).pairChanged old).judgeAuthority).standbyAll old).relatchAll)).stopDisabled

/-- The exit from BENCH, in the order of R396. -/
def State.benchExit (s : State) : State :=
  let s1 := s.stopTests.simOff
  let s2 := savedAtExit.foldl State.saveReg s1
  let s3 := s2.restoreRegs
  let s4 := ((s3.calReset true).loadCalibration).loadTables
  let s5 := (s4.configChanged s2).dvfsKick
  ((s5.withSys { s5.sys with benchRegs := [] }).enterState 4).irq 255

end Sys2Proof.Machine
end

