-- ==== Sys2Proof/Machine/SysRows.lean ====
section
/-! DEFINITION. Rows of the device-wide rules: the discrete inputs (R15, R17, R288), GPIO edges, the seal (R300), loss of host (R22, R23),
restarts of the processors (R13, R14). -/

namespace Sys2Proof.Machine

/-- The device is awake: neither in reset nor in Frost. -/
def State.awake (s : State) : Bool := !s.pwr.inReset && s.st != 1

/-- Between the acceptance of SLEEP and its commit an asserted level wake source counts as pending (R320, R323). -/
def State.noteWake (s : State) (bit : Nat) : State :=
  if s.pwr.sleepReq && s.get Fld.PWR_WAKEEN_EN &&& bit != 0 then s.withPwr { s.pwr with wakeSeen := s.pwr.wakeSeen ||| bit } else s

/-- A filtered discrete input takes a level (R288): source 249. -/
def State.discrete (s : State) (f : FReg) (level : Bool) (wake : Nat) : State :=
  if s.flag f = level then s
  else
    let s1 := (s.setFlag f level).irq 249
    if level && wake != 0 then s1.noteWake wake else s1

/-- The level reported at a discrete input, kept also while the device is not awake: 0 KEY, 1 STOPREQ, 2 START, 3 WAKE. -/
def State.setDiscPin (s : State) (k : Nat) (level : Bool) : State :=
  if s.hst.discExt.testBit k = level then s else s.withHst { s.hst with discExt := s.hst.discExt ^^^ 2 ^ k }

/-- The levels that stand outside show in SYS_STAT once the device wakes or leaves reset (log entry 34). -/
def State.showDiscrete (s : State) : State :=
  (((s.setFlag Fld.SYS_STAT_KEY (s.hst.discExt.testBit 0)).setFlag Fld.SYS_STAT_STOPREQ (s.hst.discExt.testBit 1)).setFlag
    Fld.SYS_STAT_START (s.hst.discExt.testBit 2)).setFlag Fld.SYS_STAT_WAKE (s.hst.discExt.testBit 3)

/-- KEY_CHANGE (R15, R17). -/
def execKeyChange (dt : Nat) (level : Bool) (s : State) : Result :=
  let s1 := (s.advance dt).setDiscPin 0 level
  .next (if !s1.awake || s1.key = level then s1
    else
      let s2 := s1.discrete Fld.SYS_STAT_KEY level 1
      (s2.withSys { s2.sys with keyOffAt := if level then none else some s2.now }).settle)

/-- STOPREQ_CHANGE (R15). -/
def execStopreqChange (dt : Nat) (level : Bool) (s : State) : Result :=
  let s1 := (s.advance dt).setDiscPin 1 level
  .next (if s1.awake then (s1.discrete Fld.SYS_STAT_STOPREQ level 0).settle else s1)

/-- DISCRETE_INPUT_CHANGE (R288): START, or WAKE. -/
def execDiscreteInputChange (dt : Nat) (wake level : Bool) (s : State) : Result :=
  let s1 := (s.advance dt).setDiscPin (if wake then 3 else 2) level
  .next (if s1.awake then
    (s1.discrete (if wake then Fld.SYS_STAT_WAKE else Fld.SYS_STAT_START) level (if wake then 4 else 2)).settle else s1)

/-- REARM_WAIT_CLEAR (R17): KEY read released for 10 ms since the later of its release and the setting. -/
def execRearmWaitClear (dt : Nat) (s : State) : Result :=
  let s1 := s.advance dt
  .next (match s1.sys.keyOffAt with
    | some t => if s1.flag Fld.SYS_STAT_REARM_WAIT && !s1.key && s1.passed (Nat.max t s1.sys.rearmAt) (10 * msTicks)
        then (s1.setFlag Fld.SYS_STAT_REARM_WAIT false).settle else s1
    | none => s1)

/-- GPIO_EDGE (R357): the level outside on a pin changes; an enabled edge sets its flag, and source 248 holds. -/
def execGpioEdge (dt : Nat) (pin : Fin 32) (level : Bool) (s : State) : Result :=
  let s1 := s.advance dt
  let g := s1.hst.gpioExt
  let g1 := if level then g ||| 2 ^ pin.val else g - (if g.testBit pin.val then 2 ^ pin.val else 0)
  .next (((s1.withHst { s1.hst with gpioExt := g1 }).samplePins).refreshLevels.settle)

-- ── The seal (R284, R285, R300, R301) ─────────────────────────────────────────────────────────────────────────────

/-- The seal has opened or closed: source 8; presence moves; a close drops sealed transfers and ends BENCH. -/
def State.sealMoves (s : State) (open_ : Bool) : State :=
  let s1 := ((s.setFlag Fld.SEC_STAT_SEAL_OPEN open_).irq 8).movePresence open_
  if open_ then s1
  else
    let s2 := s1.dropSealed
    if s2.st = 9 then s2.otAbort.benchExit else s2

/-- SEAL_CHANGE (R300): the filtered levels of SEAL_A and SEAL_B. There is none before the first filter period after THAW has passed
(DEDUCED, log entry 91). -/
def execSealChange (dt : Nat) (sealA sealB : Bool) (s : State) : Result :=
  let s1 := s.advance dt
  .next (if s1.pwr.inReset || s1.st < 3 || s1.tclk < 20 * msTicks then s1
    else
      let s2 := (s1.setFlag Fld.SEC_STAT_SEAL_A sealA).setFlag Fld.SEC_STAT_SEAL_B sealB
      let eq : Option Nat := if sealA != sealB then none else match s2.sys.sealEqAt with
        | some t => some t
        | none => some s2.now
      let s3 := s2.withSys { s2.sys with sealEqAt := eq }
      let now := sealA && !sealB
      if s3.sealOpen = now then s3 else (s3.sealMoves now).settle)

/-- SEAL_INVALID (R300): SEAL_A and SEAL_B have read equal for 1 s. -/
def execSealInvalid (dt : Nat) (s : State) : Result :=
  let s1 := s.advance dt
  .next (match s1.sys.sealEqAt with
    | some t => if s1.passed t (1000 * msTicks) && !s1.flag Fld.SEC_STAT_SEAL_INVALID
        then ((s1.raiseFlag Fld.SEC_STAT_SEAL_INVALID).irq 9).settle else s1
    | none => s1)

-- ── Loss of host (R22, R23) ───────────────────────────────────────────────────────────────────────────────────────

/-- HOST_LOST (R22, R286): no valid host packet for PKT_HOSTTIMEOUT. -/
def execHostLost (dt : Nat) (s : State) : Result :=
  let s1 := s.advance dt
  .next (if s1.awake && 4 ≤ s1.st && !s1.flag Fld.SYS_STAT_HOST_LOST &&
      s1.passed s1.sys.hostAt (s1.get Fld.PKT_HOSTTIMEOUT_TIMEOUT * msTicks) then
    let s2 := ((s1.setFlag Fld.SYS_STAT_HOST_LOST true).irq 246).anom 8
    (s2.withSys { s2.sys with lostAt := s2.now }).settle
    else s1)

/-- HOST_RAMP (R23): HOLD after HOST_LOST the ramp or withdrawal begins, unless the governor keeps the speed. -/
def execHostRamp (dt : Nat) (s : State) : Result :=
  let s1 := s.advance dt
  .next (if s1.flag Fld.SYS_STAT_HOST_LOST && !s1.flag Fld.SYS_STAT_HOST_RAMP && !s1.sys.rampDone &&
      s1.passed s1.sys.lostAt (s1.get Fld.SYS_HOSTLOSS_HOLD * msTicks) && !(s1.flag Fld.SYS_HOSTLOSS_GOV_AUTO && s1.governs) then
    let s2 := s1.setFlag Fld.SYS_STAT_HOST_RAMP true
    let s3 := (s2.withSys { s2.sys with rampCycles := 0, rampFrom := s2.out + if s2.voter.outWrap then cycleAu else 0 }).withSch { s2.sch with withdrawn := 0 }
    s3.checkRamp.settle
    else s1)

-- ── Restarts (R13, R14) ───────────────────────────────────────────────────────────────────────────────────────────

/-- SUP_LOCKSTEP_FAIL (R13): SUP restarts; a second mismatch within 1 s is a fault. -/
def execSupLockstepFail (dt : Nat) (s : State) : Result :=
  let s1 := s.advance dt
  .next (if !s1.awake || s1.st < 3 then s1
    else
      let again := match s1.sys.supAt with
        | some t => !s1.passed (t + 1) (1000 * msTicks)
        | none => false
      let s2 := ((s1.raiseFlag Fld.SYS_STAT_SUP_RESTART).incSat Fld.SYS_STAT_SUP_RESTARTS).withSys
        { s1.sys with supAt := some s1.now, supDown := true }
      (if again then s2.raiseFault Fld.SYS_FAULT_SUP_LOCKSTEP else s2).settle)

/-- SUP_RESTART_DONE (R13): SUP resumes from its retained state. -/
def execSupRestartDone (dt : Nat) (s : State) : Result :=
  let s1 := s.advance dt
  .next (s1.withSys { s1.sys with supDown := false }).settle

/-- COM_LOCKSTEP_FAIL (R14): COM restarts; received packets not yet answered are discarded without reply. -/
def execComLockstepFail (dt : Nat) (s : State) : Result :=
  let s1 := s.advance dt
  .next (if !s1.awake || s1.st < 3 then s1
    else
      let s2 := ((List.range 5).foldl State.discardInbound (s1.raiseFlag Fld.SYS_STAT_COM_RESTART)).discardHandled
      (s2.withSys { s2.sys with comDown := true }).settle)

/-- COM_RESTART_DONE (R14): COM resumes. -/
def execComRestartDone (dt : Nat) (s : State) : Result :=
  let s1 := s.advance dt
  .next (s1.withSys { s1.sys with comDown := false }).settle

end Sys2Proof.Machine
end

