-- ==== Sys2Proof/Machine/PowerRows.lean ====
section
/-! DEFINITION. Supplies and reset (R311–R317), THAW and BOOT (R291–R297, R313, R337), Frost and wake (R319–R328), calving
(R329–R334). Voltages are in 10 mV but for the rails, in mV; durations in TCLK ticks; temperatures in °C. -/

namespace Sys2Proof.Machine

-- ── Resets (R312–R315) ────────────────────────────────────────────────────────────────────────────────────────────

/-- The always-on supply as PWR_STAT and PWR_VMON show it (R311). -/
def State.showVaon (s : State) : State :=
  let ok := 250 ≤ s.pwr.vaon
  ((s.set Fld.PWR_VMON_VAON s.pwr.vaon).setFlag Fld.PWR_STAT_VAON_OK ok).setFlag Fld.PWR_STAT_AON_SRC ok

/-- BROWN_OUT (R314): VBAT below 5.5 V for 5 µs. -/
def execBrownOut (dt : Nat) (below : Nat) (s : State) : Result :=
  let s1 := s.advance dt
  .next (if 5 * usTicks ≤ below then s1.doReset Fld.PWR_RSTC_BOR else s1)

/-- POWER_ON (R314, R318): the always-on supply was lost and has returned. -/
def execPowerOn (dt : Nat) (s : State) : Result := .next (s.advance dt).powerOnReset

/-- NRST_ASSERT (R312): NRST low for 10 µs. -/
def execNrstAssert (dt : Nat) (low : Nat) (s : State) : Result :=
  let s1 := s.advance dt
  .next (if 10 * usTicks ≤ low then s1.doReset Fld.PWR_RSTC_PIN else s1)

/-- VCORE against which the supervisor checks: the lower of the old and the new voltage while VCORE moves (R315). -/
def State.vcoreRef (s : State) : Nat :=
  match s.clk.phase with
  | .ramp mv => Nat.min s.clk.vcore mv
  | _ => s.clk.vcore

/-- Whether a rail has stood outside its window for its filter time (R315): 0 V5, 1 V33, 2 V18, 3 VTI, 4 VCORE. -/
def State.railOut (s : State) (rail mv outside : Nat) : Bool :=
  if rail = 0 then !inRange 4500 5500 mv && 10 * usTicks ≤ outside
  else if rail = 1 then !inRange 3000 3600 mv && 10 * usTicks ≤ outside
  else if rail = 2 then !inRange 1650 1950 mv && 10 * usTicks ≤ outside
  else if rail = 3 then !inRange 760 840 mv && 2 * usTicks ≤ outside
  else (100 * mv < 94 * s.vcoreRef || 110 * s.vcoreRef < 100 * mv) && 2 * usTicks ≤ outside

/-- RAIL_FAULT (R315). -/
def execRailFault (dt : Nat) (rail : Fin 5) (millivolts outside : Nat) (s : State) : Result :=
  let s1 := s.advance dt
  .next (if s1.awake && s1.railOut rail.val millivolts outside
    then (s1.doReset Fld.PWR_RSTC_RAIL).set Fld.PWR_RSTC_RAIL_ID (rail.val + 1) else s1)

/-- OVER_TEMPERATURE (R312): the control die at 175 °C. -/
def execOverTemperature (dt : Nat) (temperature : Int) (s : State) : Result :=
  let s1 := s.advance dt
  .next (if 175 ≤ temperature then (s1.withPwr { s1.pwr with tsd := true }).doReset Fld.PWR_RSTC_TSD else s1)

/-- VBAT_OV (R315): above the threshold for 1 ms. -/
def execVbatOv (dt : Nat) (vbat above : Nat) (s : State) : Result :=
  let s1 := s.advance dt
  .next (if s1.awake && 10 * s1.get Fld.PWR_SUPCFG_VBAT_OV < vbat && msTicks ≤ above then
    let s2 := (s1.withPwr { s1.pwr with vbatOver := true }).set Fld.PWR_VMON_VBAT vbat
    let s3 := if s2.flag Fld.PWR_SUPV_VBAT_OV then s2.raiseFlag Fld.PWR_SUPV_VBAT_OV else (s2.raiseFlag Fld.PWR_SUPV_VBAT_OV).irq 3
    (s3.raiseFault Fld.SYS_FAULT_PWR).settle
    else s1)

/-- VBAT_OV_ENDED (R444): at or below the threshold for 1 ms. -/
def execVbatOvEnded (dt : Nat) (vbat below : Nat) (s : State) : Result :=
  let s1 := s.advance dt
  .next (if vbat ≤ 10 * s1.get Fld.PWR_SUPCFG_VBAT_OV && msTicks ≤ below
    then (s1.withPwr { s1.pwr with vbatOver := false }).set Fld.PWR_VMON_VBAT vbat else s1)

/-- VAON_LOST (R315): below 2.40 V for 10 ms. -/
def execVaonLost (dt : Nat) (vaon below : Nat) (s : State) : Result :=
  let s1 := s.advance dt
  .next (if s1.awake && vaon < 240 && 10 * msTicks ≤ below then
    let s2 := (s1.withPwr { s1.pwr with vaonLow := true, vaon := vaon }).showVaon
    let again := s1.flag Fld.PWR_SUPV_VAON_LOST && !s1.flag Fld.PWR_STAT_AON_SRC
    (if again then s2.raiseFlag Fld.PWR_SUPV_VAON_LOST else (s2.raiseFlag Fld.PWR_SUPV_VAON_LOST).irq 5).settle
    else s1)

/-- AON_SOURCE_CHANGE (R311, R335): the always-on domain runs from VAON at 2.5 V or more, else from VBAT. -/
def execAonSourceChange (dt : Nat) (vaon : Nat) (s : State) : Result :=
  let s1 := s.advance dt
  let s2 := s1.withPwr { s1.pwr with vaon := vaon, vaonLow := s1.pwr.vaonLow && vaon < 240 }
  .next (if !s2.awake then s2
    else
      let was := s2.flag Fld.PWR_STAT_AON_SRC
      let s3 := s2.showVaon
      (if s3.flag Fld.PWR_STAT_AON_SRC = was then s3 else s3.irq 5).settle)

/-- RESET_RELEASE (R312, R313): every cause of R312 has ended; THAW begins. After a loss of the always-on domain the boot ROM reads the
saved crystal settings (R342). -/
def execResetRelease (dt : Nat) (vbat above nrstHigh : Nat) (temperature : Int) (s : State) : Result :=
  let s1 := s.advance dt
  let vbatOk := 10 * (s1.get Fld.PWR_CALVB_C6 + s1.get Fld.PWR_CALVCFG_HYST) < vbat && msTicks ≤ above
  let tempOk := if s1.pwr.tsd then temperature < 160 else temperature < 175
  .next (if s1.pwr.inReset && vbatOk && 10 * usTicks ≤ nrstHigh && tempOk then
    let s2 := s1.withPwr { s1.pwr with inReset := false, tsd := false, vbatHeld := true, stageAt := s1.now }
    let s3 := (s2.withClk { s2.clk with thawAt := s2.now }).withSys { s2.sys with hostAt := s2.now }
    let s4 := if s3.pwr.aonLost then (s3.loadReg Reg.CLK_XCFG).loadReg Reg.CLK_XDLY else s3
    (s4.showVaon.showDiscrete).set Fld.PWR_VMON_VBAT vbat
    else s1)

-- ── THAW to BOOT (R15, R313, R337) ────────────────────────────────────────────────────────────────────────────────

/-- The reference is settled: the judge has passed or failed, or the fixed delay has switched it (R339–R341). -/
def State.clockJudged (s : State) : Bool :=
  s.clk.switching == [] && (s.flag Fld.CLK_STAT_JUDGED || s.flag Fld.CLK_STAT_XTAL_FAIL ||
    (!s.flag Fld.CLK_XCFG_JUDGE && !s.flag Fld.CLK_STAT_REF))

-- ── BOOT: the image (R291–R294) ───────────────────────────────────────────────────────────────────────────────────

/-- BODY_LEN of the image in a slot; the firmware measurement (R291). -/
def State.imgLen (s : State) (k : Nat) : Nat := s.memWord (slotAddr k + 8)
def State.imgBody (s : State) (k : Nat) : List Byte := s.bytes (slotAddr k + 256) (s.imgLen k)
def State.measure_ (s : State) (k : Nat) : List Byte := sha384 (s.bytes (slotAddr k) 256 ++ s.imgBody k)

/-- Step 1 of R292: 7 without MAGIC, 1 for any other failure, else 0. -/
def State.headerCode (s : State) (k : Nat) : Nat :=
  let h := s.bytes (slotAddr k) 256
  if leAt h 0 4 ≠ 0x3159564E then 7
  else if leAt h 4 2 ≠ 1 || leAt h 6 2 ≠ 0 || leAt h 8 4 % 4 ≠ 0 || 2088656 < leAt h 8 4 || leAt h 17 3 ≠ 0 || leAt h 22 2 ≠ 0 ||
      (h.drop 72).any (· != 0) || (s.word Reg.SYS_REV).toNat % 65536 < leAt h 20 2 then 1
  else 0

/-- The code of an image's verification (R292): 0, or the number of the first step that fails. -/
def State.imageCode (s : State) (k : Nat) : Nat :=
  let h := s.bytes (slotAddr k) 256
  let sig := s.bytes (slotAddr k + 256 + s.imgLen k) 8240
  if s.headerCode k ≠ 0 then s.headerCode k
  else if 64 < s.slotRollback k || s.slotRollback k < s.sec.fuses then 2
  else if sha384 (s.imgBody k) ≠ (h.drop 24).take 48 then 3
  else if !rsaVerify Config.nimvisRsa h (sig.take 384) then 4
  else if !slhVerify Config.nimvisSlh h (sig.drop 384) then 5
  else 0

/-- Verifies a slot (R292): SEC_BOOT takes its code, a failure raises source 10 (R293). -/
def State.verifySlot (s : State) (k : Nat) : Bool × State :=
  let c := s.imageCode k
  let s1 := s.set (if k = 0 then Fld.SEC_BOOT_FAIL_A else Fld.SEC_BOOT_FAIL_B) c
  (c == 0, if c = 0 then s1 else s1.irq 10)

/-- TRIAL_FAIL or FALLBACK sets: source 11. -/
def State.bootFlag (s : State) (f : FReg) : State := (s.raiseFlag f).irq 11

/-- An image runs: its version and measurement are shown, the measurement is retained (R293, R446). -/
def State.runImage (s : State) (k : Nat) : State :=
  let m := s.measure_ k
  let s1 := s.withSec { s.sec with active := k, retained := m }
  let s2 := (List.range 12).foldl (fun s i => s.setWord (Reg.SEC_MEAS i) (BitVec.ofNat 32 (leAt m (4 * i) 4))) s1
  ((s2.setWord Reg.SEC_FWVER (BitVec.ofNat 32 (s2.slotFwVer k))).withSys { s2.sys with verified := true }).showBoot

/-- The choice of R293: whether an image runs, and the device. Its last two lines hold also where neither slot verifies: the slot chosen first
stays active and its measurement is retained (DEDUCED, log entry 90). -/
def State.chooseImage (s : State) : Bool × State :=
  let b := s.sec
  let failed := b.trial && b.attempt
  let slot := if failed then 1 - b.active else b.active
  let s1 := if failed then (s.withSec { b with trial := false, attempt := false }).bootFlag Fld.SEC_STAT_TRIAL_FAIL
    else if b.trial then s.withSec { b with attempt := true } else s
  let v := s1.verifySlot slot
  if v.1 then (true, v.2.runImage slot)
  else
    let w := v.2.verifySlot (1 - slot)
    if w.1 then (true, (((w.2.withSec { w.2.sec with trial := false, attempt := false }).bootFlag Fld.SEC_STAT_FALLBACK)).runImage (1 - slot))
    else (false, (w.2.withSec { w.2.sec with active := slot, retained := w.2.measure_ slot }).showBoot)

/-- The shortcut of R294, after a wake: step 1 passes and the measurement equals the retained one; never with TRIAL set. -/
def State.mayskip (s : State) : Bool :=
  s.pwr.woke && !s.sec.trial && decide (s.sec.retained ≠ []) && s.headerCode s.sec.active == 0 &&
  s.measure_ s.sec.active == s.sec.retained

/-- The firmware opens the blocks it owns (R351): all but the host's TIM, PAT0, PAT1 and DMA_HI. -/
def State.openBlocks (s : State) : State := ((s.putGate 0 0x31FFF).putGate 1 0x1F).sweepPorts

/-- The image of this boot (R293, R294): a wake takes the shortcut where it may. With none SYS_FAULT.IMAGE sets, and SAFE follows. -/
def State.selectImage (s : State) : State :=
  if s.mayskip then (s.setFlag Fld.SEC_STAT_THAW_SKIP true).runImage s.sec.active
  else if s.chooseImage.1 then s.chooseImage.2
  else s.chooseImage.2.openBlocks.raiseFault Fld.SYS_FAULT_IMAGE

/-- THAW_COMPLETE (R15): the PLLs lock, FPLL only on the crystal (R340); TCLK counts from 0 (R337); SCLK changes over to the SPLL;
BOOT asks for OP3 (R313), and the boot ROM chooses the image (R293). SEC_STAT shows both seal levels low, so their second of R300 begins
(DEDUCED, log entry 91). -/
def execThawComplete (dt : Nat) (s : State) : Result :=
  let s1 := s.advance dt
  .next (if s1.st == 2 && !s1.pwr.inReset && s1.clockJudged then
    let s2 := ((s1.setFlag Fld.CLK_STAT_TPLL_LOCK true).setFlag Fld.CLK_STAT_SPLL_LOCK true).setFlag Fld.CLK_STAT_FPLL_LOCK
      (!s1.flag Fld.CLK_STAT_REF)
    let s3 := ({ s2 with tclk := 0 }.enterState 3).beginSwitch .sclkToSpll
    let s4 := (s3.set Fld.CLK_OPREQ_REQ 3).dvfsKick
    (s4.withSys { s4.sys with sealEqAt := some s4.now }).selectImage.settle
    else s1)

-- ── BOOT: what the firmware loads (R88, R167, R215, R318, R327) ───────────────────────────────────────────────────

/-- The latest checkpoint of the present epoch: its index and chain value (R214). -/
def State.lastCheckpoint (s : State) : Option (Nat × List Byte) :=
  (List.range 256).foldl (fun best c =>
    let b := s.bytes (0x60FFC000 + 64 * c) 64
    let i := leAt b 0 8
    if i = 0 || leAt b 40 4 ≠ s.sec.epoch || (crc32c (b.take 60)).toNat ≠ leAt b 60 4 then best
    else match best with
      | some (j, _) => if j < i then some (i, (b.drop 8).take 32) else best
      | none => some (i, (b.drop 8).take 32)) none

/-- Re-hashes forward while the next slot holds the next index (R215). -/
def State.rehash (s : State) : Nat → Nat → List Byte → Nat × List Byte
  | 0, i, h => (i, h)
  | n + 1, i, h =>
    let d := s.bytes (digestAddr (i + 1)) 64
    if leAt d 0 8 = i + 1 then s.rehash n (i + 1) (sha256 (h ++ d)) else (i, h)

/-- COM recovers the chain's head (R215). -/
def State.recoverChain (s : State) : State :=
  let start := (s.lastCheckpoint).getD (0, s.genesis)
  let r := s.rehash 163584 start.1 start.2
  (s.withWit { s.wit with index := r.1, head := if r.1 = 0 then [] else r.2, resumed := false }).setWord Reg.WIT_EPOCH
    (BitVec.ofNat 32 s.sec.epoch)

/-- The coil temperatures start at Ta, after a wake at the higher of Ta and the saved values (R167). -/
def State.startCoils (s : State) : State :=
  let ta := s.ambient * 1000000000
  let pick (v : Int) : Int := if s.pwr.woke && ta < v then v else ta
  (List.range 48).foldl (fun s n => s.setChan n { s.chan n with tw := pick (s.chan n).savedTw, tb := pick (s.chan n).savedTb })
    (s.withDrv { s.drv with coilAt := s.now })

/-- N advanced by teeth of a description, backward for `back`. -/
def State.stepTeeth (s : State) (x : Nat) (back : Bool) : Nat → Nat → Nat
  | 0, n => n
  | k + 1, n => s.stepTeeth x back k (if back then s.prevTooth x n else s.nextTooth x n)

/-- A tracker takes the preset: STOPPED at the corrected angle of the tooth before N (R89). -/
def State.takePreset (s : State) (x n : Nat) : State :=
  let s1 := s.set (Fld.TRK_POS_NEXT x) n
  s1.setTrk x { s1.trk x with preset := true, acc := s1.theta x (s1.prevTooth x n) * fracOne }

/-- The preset (R88). The frost count advances N only after a wake (DEDUCED, log entry 21). -/
def State.formPreset (s : State) : State :=
  let s1 := if s.pwr.aonLost then
      (if s.flag Fld.TRK_FROST_MRAM_OK && s.sec.savedKeys.contains Reg.TRK_STOPA then
        (s.loadReg Reg.TRK_STOPA).setFlag Fld.TRK_STOPA_FROM_MRAM true else s) else s
  let x := s1.get Fld.TRK_STOPA_WD
  let c := if s1.pwr.woke then toSigned 16 (s1.get Fld.TRK_FCNT_COUNT) else 0
  let n := if s1.descOn x then s1.stepTeeth x (c < 0) c.natAbs (s1.get Fld.TRK_STOPA_NEXT) else s1.get Fld.TRK_STOPA_NEXT
  let bad := s1.flag Fld.TRK_FCNT_NODIR || s1.flag Fld.TRK_FCNT_OVF
  let s2 := (s1.set Fld.TRK_STOPA_NEXT n).setFlag Fld.TRK_STOPA_VALID (s1.flag Fld.TRK_STOPA_VALID && !bad)
  if !s2.flag Fld.TRK_STOPA_VALID then s2
  else (List.range 2).foldl (fun s y =>
    if s.descOn y && s.get (Fld.TRK_CTRL_SRC y) == 0 && s.sameWheel x y then s.takePreset y n else s) s2

/-- HST_T1S_MACL and MACH take the device identity's MAC address, locally administered: bit 1 of its first byte is 1 and bit 0, the group
bit, is 0 (R279). -/
def State.loadMac (s : State) : State :=
  let m := Config.identityMac s.sec.serial
  (s.setWord Reg.HST_T1S_MACL ((m.1 ||| 2) &&& ~~~ (1 : Word))).set Fld.HST_T1S_MACH_MAC_HI m.2.toNat

/-- What BOOT loads once an image runs. -/
def State.loadFirmware (s : State) : State :=
  let s1 := if s.pwr.aonLost then savedAtExit.foldl State.loadReg s else s
  let s2 := ((s1.setFlag Fld.SEC_STAT_KEY0 (s1.enrolled 0)).setFlag Fld.SEC_STAT_KEY1 (s1.enrolled 1)).set Fld.SEC_ROLLBACK_COUNT s1.sec.fuses
  let s3 := ((s2.loadCalibration).loadTables).recoverChain
  let s4 := ((s3.startCoils).formPreset).loadMac
  s4.withPwr { s4.pwr with aonLost := false, woke := false }

/-- BOOT_COMPLETE (R15, R446): with the image running the calibration is loaded and IDLE entered. -/
def execBootComplete (dt : Nat) (s : State) : Result :=
  let s1 := s.advance dt
  .next (if s1.st != 3 || !s1.sys.verified then s1
    else
      let s2 := s1.openBlocks.loadFirmware
      (if s2.safeFault then s2 else s2.enterState 4).settle)

-- ── Frost and wake (R319–R328) ────────────────────────────────────────────────────────────────────────────────────

/-- SLEEP_COMMIT (R320): PWR_SLEEP.COMMIT is written. -/
def execSleepCommit (dt : Nat) (s : State) : Result := .next ((s.advance dt).fwWrite Reg.PWR_SLEEP 1)

/-- A Thaw starts (R323, R327): the sources are recorded, the reset cause is FROST. -/
def State.startThaw (s : State) (src : Nat) : State :=
  let s1 := (s.setWord Reg.PWR_WAKESRC (BitVec.ofNat 32 src)).setFlag Fld.PWR_RSTC_FROST true
  let s2 := s1.withPwr { s1.pwr with woke := true, wakeHeld := 0, frostFromC6 := false, vbatHeld := true, stageAt := s1.now }
  let s3 := (s2.withClk { s2.clk with thawAt := s2.now }).withSys { s2.sys with hostAt := s2.now }
  (s3.enterState 2).showVaon.showDiscrete

/-- Whether enough teeth were counted to wake (R323). -/
def State.toothWakes (s : State) : Bool :=
  Nat.max 1 (s.get Fld.PWR_WAKECFG_TOOTH_N) ≤ (toSigned 16 (s.get Fld.TRK_FCNT_COUNT)).natAbs

/-- Enabled wake sources fire in Frost: a Thaw, or held until VBAT has returned (R323, R326). -/
def State.wakeBy (s : State) (src : Nat) (vbatOk : Bool) : State :=
  let e := src &&& s.get Fld.PWR_WAKEEN_EN
  if s.st != 1 || s.pwr.inReset || e = 0 then s
  else if vbatOk then s.startThaw (e ||| s.pwr.wakeHeld)
  else s.withPwr { s.pwr with wakeHeld := s.pwr.wakeHeld ||| e, vbatHeld := false }

/-- The CAN wake pattern (R324): a dominant, a recessive and a dominant phase in a row, each of CAN_T at least, together within 1 ms
(DEDUCED, log entry 85). -/
def State.canWakes (s : State) : List Nat → Bool
  | a :: b :: c :: r =>
    let t := usTicks * Nat.max 1 (s.get Fld.PWR_WAKECFG_CAN_T)
    (decide (t ≤ a) && decide (t ≤ b) && decide (t ≤ c) && decide (a + b + c ≤ msTicks)) || s.canWakes (c :: r)
  | _ => false

/-- The ports whose signal detector serves as a wake source (R220): while awake as FLO_PORTp_CTRL stands. -/
def State.wakePorts (s : State) : Nat :=
  if s.st = 1 then s.pwr.floWake else bitsWhere 4 (fun p => s.flag (Fld.FLO_PORT_CTRL_WAKE_EN p))

/-- The three sources that the wake watcher can see in Frost (R364). -/
def State.watcherWakes (s : State) (w : WakeLines) : Bool :=
  (w.vaonLost && s.watched 5) || (w.sealMoved && s.watched 8) ||
  (((w.rise.toNat &&& s.pwr.gpioRise) ||| (w.fall.toNat &&& s.pwr.gpioFall)) != 0 && s.watched 248)

/-- The wake sources that fire, as bits of PWR_WAKESRC (R220, R323, R324); the timer and the return of VBAT have rows of their own. TOOTH and
WATCHER are Frost's. -/
def State.wakeBits (s : State) (w : WakeLines) : Nat :=
  bitsWhere 11 (fun k =>
    if k = 0 then msTicks ≤ w.key else if k = 1 then msTicks ≤ w.start else if k = 2 then msTicks ≤ w.wake
    else if k = 3 then s.canWakes w.can0 else if k = 4 then s.canWakes w.can1
    else if k = 5 then 10 * usTicks * Nat.max 1 (s.get Fld.PWR_WAKECFG_T1S_T) ≤ w.t1s
    else if k = 6 then (List.range 4).any (fun p => s.wakePorts.testBit p && decide (10 * usTicks ≤ w.flo.getD p 0))
    else if k = 7 then s.st == 1 && s.toothWakes
    else if k = 10 then s.st == 1 && s.watcherWakes w else false)

/-- WAKE_SOURCE (R323): in Frost what has fired starts a Thaw. Awake, between the acceptance of SLEEP and its commit, it counts as pending
(R320). -/
def execWakeSource (dt : Nat) (lines : WakeLines) (vbatOk : Bool) (s : State) : Result :=
  let s1 := s.advance dt
  let src := s1.wakeBits lines
  .next (if s1.st = 1 then s1.wakeBy src vbatOk
    else if s1.pwr.sleepReq then s1.withPwr { s1.pwr with wakeSeen := s1.pwr.wakeSeen ||| (src &&& s1.get Fld.PWR_WAKEEN_EN) }
    else s1)

/-- WAKE_HELD_RELEASE (R326): VBAT has stayed above C6 + HYST for 1 ms; VBAT_RET fires after a Frost entered at C6. -/
def execWakeHeldRelease (dt : Nat) (s : State) : Result :=
  let s1 := s.advance dt
  let ret := if s1.pwr.frostFromC6 then 512 &&& s1.get Fld.PWR_WAKEEN_EN else 0
  .next (if s1.st = 1 && !s1.pwr.inReset && (s1.pwr.wakeHeld ||| ret) != 0 then s1.startThaw (s1.pwr.wakeHeld ||| ret) else s1)

/-- AON_TIMER_EXPIRY (R325): PERIOD seconds of the LFRC, ±3 %, after the commit tick. -/
def execAonTimerExpiry (dt : Nat) (vbatOk : Bool) (s : State) : Result :=
  let s1 := s.advance dt
  let p := s1.get Fld.PWR_AONTMR_PERIOD
  .next (if s1.st = 1 && p != 0 && s1.passed s1.pwr.frostAt (p * 388000000) then s1.wakeBy 256 vbatOk else s1)

-- ── Calving (R329–R334) ───────────────────────────────────────────────────────────────────────────────────────────

/-- The threshold of a stage in 0.1 V. -/
def State.calvThr (s : State) (k : Nat) : Nat :=
  if k = 1 then s.get Fld.PWR_CALVA_C1 else if k = 2 then s.get Fld.PWR_CALVA_C2 else if k = 3 then s.get Fld.PWR_CALVA_C3
  else if k = 4 then s.get Fld.PWR_CALVB_C4 else if k = 5 then s.get Fld.PWR_CALVB_C5 else s.get Fld.PWR_CALVB_C6

def State.stage (s : State) : Nat := s.get Fld.PWR_STAT_STAGE

/-- What entry to a stage sheds beyond what follows from PWR_STAT.STAGE by itself (R332). -/
def State.shed (s : State) (k : Nat) : State :=
  if k = 1 then
    let s1 := s.setFlag Fld.WIT_STAT_STREAM_HELD true
    if s1.wit.capturing.isSome && s1.wit.waveCut.isNone then
      ((s1.withWit { s1.wit with waveCut := some s1.now }).raiseFlag Fld.WIT_WAVE_DONE).irq 152
    else s1
  else if k = 2 then
    (((s.discardInbound 2).discardInbound 3).set (Fld.HST_CAN_STAT_STATE 1) 3).setFlag Fld.HST_T1S_STAT_SUSPENDED true
  else if k = 4 then
    (List.range 48).foldl (fun s n =>
      if s.occupies n && ((s.chan n).shot.map (·.cls)).getD 0 == 2 then s.enterEnd n else s) s
  else s

/-- What leaving a stage restores (R332): streaming goes on with the next closed record; those before it go on waiting (R208, R210; DEDUCED,
log entry 83). -/
def State.restore (s : State) (k : Nat) : State :=
  if k = 1 then (s.setFlag Fld.WIT_STAT_STREAM_HELD false).withWit { s.wit with passedOver := s.wit.unsent }
  else if k = 2 then (s.set (Fld.HST_CAN_STAT_STATE 1) 0).setFlag Fld.HST_T1S_STAT_SUSPENDED false
  else s

/-- PWR_STAT takes a stage (R317, R330): source 2, the history, the operating point's cap. -/
def State.setStage (s : State) (k : Nat) : State :=
  let s1 := if s.stage = 0 && k != 0 then s.addWrap Fld.PWR_CALVCNT_ENTRIES 1 else s
  let s2 := if s1.get Fld.PWR_CALVCNT_PEAK < k then
      { s1.set Fld.PWR_CALVCNT_PEAK k with fresh := (Reg.PWR_CALVCNT, FReg.mask Fld.PWR_CALVCNT_PEAK) :: s1.fresh } else s1
  let s3 := (s2.set Fld.PWR_STAT_STAGE k).setFlag Fld.PWR_STAT_OP_CAPPED (2 ≤ k)
  ((s3.withPwr { s3.pwr with stageAt := s3.now, cycleStage := Nat.max s3.pwr.cycleStage k }).dvfsKick).irq 2

/-- Step 2 of R333: quench, the stop angle and the coil temperatures saved, the boost converter off. -/
def State.c6Stop (s : State) : State :=
  let s1 := ((s.quench).saveStop (s.trkState s.sel)).saveCoils
  let s2 := s1.set Fld.DRV_STAT_CHARGING 0
  s2.withPwr { s2.pwr with c6Wait := none, c6Quench := some s2.now }

/-- Entry to C6 (R248, R333): a cope asks for a handover, and waits for it unless its drag is not ready. -/
def State.enterC6 (s : State) : State :=
  let s1 := s.requestHandover 5
  if s1.isCope && s1.flo.handover.isSome then
    let wait := 40 * s1.get Fld.FLO_PAIR_HO_LEAD + 4 * s1.get Fld.FLO_PAIRT_HO_OVL + 40
    s1.withPwr { s1.pwr with c6Wait := some (s1.now + wait) }
  else s1.c6Stop

/-- The wait of step 1 is over: the handover has been made or refused, or its time has passed. -/
def State.c6Goes (s : State) : State :=
  match s.pwr.c6Wait with
  | some t => if s.flo.handover.isNone || t ≤ s.now then s.c6Stop else s
  | none => s

/-- CALVING_ENTRY (R330): the mean has lain below the threshold of a higher stage for ENTRY_T: the highest such stage is entered. -/
def execCalvingEntry (dt : Nat) (vbat lasted : Nat) (s : State) : Result :=
  let s1 := s.advance dt
  let up := (List.range 7).filter (fun k => s1.stage < k && vbat < 10 * s1.calvThr k)
  .next (match up.getLast? with
    | none => s1
    | some k =>
      if !s1.awake || lasted < usTicks * s1.get Fld.PWR_CALVCFG_ENTRY_T then s1
      else
        let old := s1.stage
        let s2 := ((List.range 7).filter (fun j => old < j && j ≤ k)).foldl State.shed ((s1.set Fld.PWR_VMON_VBAT vbat).setStage k)
        let s3 := if k = 6 then s2.enterC6
          else if k = 5 && s2.get Fld.FLO_PAIRSTAT_P_CALV < 5 then s2.requestHandover 4 else s2
        s3.settle)

/-- CALVING_EXIT (R331): the mean has lain above the threshold of the present stage plus HYST for 1 ms; one stage is left. -/
def execCalvingExit (dt : Nat) (vbat lasted : Nat) (s : State) : Result :=
  let s1 := s.advance dt
  let k := s1.stage
  .next (if s1.awake && 1 ≤ k && k ≤ 5 && 10 * (s1.calvThr k + s1.get Fld.PWR_CALVCFG_HYST) < vbat && msTicks ≤ lasted &&
      s1.passed s1.pwr.stageAt msTicks
    then (((s1.set Fld.PWR_VMON_VBAT vbat).setStage (k - 1)).restore k).settle else s1)

/-- C6_FINISH (R333 step 3): every channel has completed END, or 2 ms after the quench: Frost with VAON present, else a reset with
CALV6. -/
def execC6Finish (dt : Nat) (s : State) : Result :=
  let s1 := (s.advance dt).c6Goes
  .next (match s1.pwr.c6Quench with
    | none => s1
    | some t =>
      if s1.stage != 6 || !((List.range 48).all (fun n => s1.phase n == 0) || s1.passed t (2 * msTicks)) then s1
      else if 250 ≤ s1.pwr.vaon then (s1.withPwr { s1.pwr with frostFromC6 := true }).enterFrost
      else s1.doReset Fld.PWR_RSTC_CALV6)

end Sys2Proof.Machine
end

