-- ==== Sys2Proof/Machine/FloeRows.lean ====
section
/-! DEFINITION. Floe rows: ports and links (R218–R220, R230), cells (R221–R226), domain time and the shared angle (R229–R235). The rows of
pairs and of the voters follow in PairRows. -/

namespace Sys2Proof.Machine

-- ── Ports (R219, R230) ────────────────────────────────────────────────────────────────────────────────────────────

def State.portState (s : State) (p : Nat) : Nat := s.get (Fld.FLO_PORT_STAT_STATE p)
def State.setPortState (s : State) (p n : Nat) : State := s.set (Fld.FLO_PORT_STAT_STATE p) n

/-- A port may train: it is enabled and clocked, and no run of the test block holds it (R219, R398). -/
def State.portTrains (s : State) (p : Nat) : Bool := s.portMay p && !s.loopedAt 3 p

/-- PORT_ALIGN (R219): comma alignment. -/
def execPortAlign (dt : Nat) (link : Fin 4) (s : State) : Result :=
  let p := link.val
  let s1 := s.advance dt
  .next (if s1.portTrains p && s1.portState p == 1 then (s1.setPortState p 2).settle else s1)

/-- PORT_TRAIN (R219): 64 consecutive valid code groups; the delay is measured anew. -/
def execPortTrain (dt : Nat) (link : Fin 4) (s : State) : Result :=
  let p := link.val
  let s1 := s.advance dt
  .next (if s1.portTrains p && s1.portState p == 2 then
    ((s1.setPortState p 3).setFloPort p { s1.floPort p with delays := [] }).settle else s1)

/-- PORT_UP (R219): both ends have finished TRAIN, in which the delay was measured and the node IDs exchanged. -/
def execPortUp (dt : Nat) (link : Fin 4) (peer : Fin 4096) (s : State) : Result :=
  let p := link.val
  let s1 := s.advance dt
  .next (if s1.portTrains p && s1.portState p == 3 && (s1.floPort p).delays != [] then
    ((((s1.setPortState p 4).set (Fld.FLO_PORT_STAT_PEER p) peer.val).setBit Fld.FLO_STAT_UP p true).irq (224 + p)).settle else s1)

/-- PORT_DOWN (R219): signal loss, code errors or a changed peer; a port that may run trains again from DETECT. -/
def execPortDown (dt : Nat) (link : Fin 4) (s : State) : Result :=
  let p := link.val
  let s1 := s.advance dt
  .next (if s1.portUp p then (s1.portDown p).sweepPorts.settle else s1)

/-- DELAY_EXCHANGE (R230): four exchanges, in TRAIN and then every 100 ms; `r1` to `r4` are (t4 − t1) − (t3 − t2) of each, in 156.25 ps. -/
def execDelayExchange (dt : Nat) (link : Fin 4) (r1 r2 r3 r4 : Nat) (s : State) : Result :=
  let p := link.val
  let s1 := s.advance dt
  let x := s1.floPort p
  .next (if s1.portState p == 3 || (s1.portUp p && s1.passed x.exchAt (100 * msTicks)) then
    ((s1.setFloPort p { x with delays := [r1, r2, r3, r4], exchAt := s1.now }).set (Fld.FLO_PORT_DLY_DELAY p)
      (Nat.min 0xFFFFF (divRound (r1 + r2 + r3 + r4) 8))).settle
    else s1)

-- ── Cells (R223–R226) ─────────────────────────────────────────────────────────────────────────────────────────────

def isSyncCell (c : Cell) : Bool := c.typ == 1 && cellSub c == 1

/-- CORR of a SYNC cell, moved by a signed time in 1/16 tick. A cell held by the device keeps CORR less the count at which it was taken
in; when it leaves, the count is added again, so that CORR gains the residence time (R230). -/
def moveCorr (c : Cell) (d : Int) : Cell :=
  if !isSyncCell c || c.payload.length < 20 then c
  else { c with payload := c.payload.take 16 ++ leBytes 4 (((leAt c.payload 16 4 : Nat) + d) % 4294967296).toNat ++ c.payload.drop 20 }

/-- The BC entry of a source, while it has not aged (R226): its last SEQ. -/
def State.bcEntry (s : State) (src : Nat) : Option Nat :=
  match spGet (fun _ => (0, 0)) s.flo.bcSeen src with
  | (0, _) => none
  | (q + 1, t) => if t + 100 * msTicks ≤ s.now then none else some q

/-- The rule on the SEQ of a BC cell (R226). -/
def State.bcAccepts (s : State) (c : Cell) : Bool :=
  match s.bcEntry c.src with
  | none => true
  | some q => inRange 1 32767 ((c.seq + 65536 - q) % 65536)

/-- The ports on which a cell that came by `link` leaves (R225, R226). -/
def State.outPorts (s : State) (link : Nat) (c : Cell) : List Nat :=
  (List.range 4).filter (fun p => s.portUp p &&
    (if c.bc then p != link else if c.mc then p != link && (s.maskOf c.dst).testBit p
     else c.dst != s.get Fld.FLO_NODE_NODE_ID && s.routeOf c.dst == p))

/-- Whether a cell that came by `link` is to leave on another port (R225, R226). -/
def State.forwards (s : State) (link : Nat) (c : Cell) : Bool :=
  if c.bc || c.mc then s.outPorts link c != [] else c.dst != s.get Fld.FLO_NODE_NODE_ID

/-- Forwarding would take HOPS above HOP_MAX (R223); 0 acts as 1. -/
def State.hopLimit (s : State) (c : Cell) : Bool := Nat.max 1 (s.get Fld.FLO_CTRL_HOP_MAX) < c.hops + 1

/-- A cell that has passed the checks of R223 and R226: it leaves on its ports and is delivered here, as its addressing says. -/
def State.routeCell (s : State) (link : Nat) (c : Cell) : State :=
  let out := { c with hops := c.hops + 1 }
  let s1 := if c.bc then s.withFlo { s.flo with bcSeen := spPut (fun _ => (0, 0)) s.flo.bcSeen c.src (c.seq + 1, s.now) } else s
  let s2 := if c.bc then s1.sendMask 15 link out else if c.mc then s1.sendMask (s1.maskOf c.dst) link out
    else if c.dst = s1.get Fld.FLO_NODE_NODE_ID then s1 else s1.sendUnicast out
  let here := c.bc || (if c.mc then c.dst == s1.get Fld.FLO_NODE_DOMAIN else c.dst == s1.get Fld.FLO_NODE_NODE_ID)
  if here && s2.takes c then s2.deliver link c else s2

/-- What its header already forbids to forward: a LEN above 52, a reserved type, HOPS at the limit, an old BC cell, a delay exchange. -/
def State.staysHere (s : State) (c : Cell) (len : Nat) : Bool :=
  52 < len || c.typ == 0 || 8 ≤ c.typ || s.hopLimit c || (c.bc && !s.bcAccepts c) || linkLocal c

/-- A cell whose CRC proves bad: on the output ports that stood idle it has been started, and each ends it with an invalid code group
(R223, R224; DEDUCED, log entry 84). -/
def State.endCut (s : State) (link : Nat) (c : Cell) (len : Nat) : State :=
  if s.staysHere c len then s
  else (s.outPorts link c).foldl (fun s p =>
    let x := s.floPort p
    if x.queue = [] && x.busyUntil ≤ s.now then s.setFloPort p { x with ended := x.ended + 1 } else s) s

/-- A cell that arrives on an UP port (R223), of LEN `len`. -/
def State.receiveCell (s : State) (link : Nat) (c0 : Cell) (len : Nat) (crcOk : Bool) : State :=
  let c := moveCorr c0 ((s.get (Fld.FLO_PORT_DLY_DELAY link) : Int) - (16 * s.now : Nat))
  if !crcOk then ((s.endCut link c len).addWrap (Fld.FLO_PORT_ERR_CRC link) 1).dropCell Fld.FLO_DROP_CRC
  else if 52 < len then s.dropCell Fld.FLO_DROP_CRC
  else if c.typ = 0 || 8 ≤ c.typ then s.dropCell Fld.FLO_DROP_HOPS
  else if linkLocal c then s
  else if c.bc && !s.bcAccepts c then s
  else if s.forwards link c && s.hopLimit c then s.dropCell Fld.FLO_DROP_HOPS
  else s.routeCell link c

/-- CELL_ARRIVAL (R221, R223–R226): the 60 bytes received and the CRC behind them. -/
def execCellArrival (dt : Nat) (link : Fin 4) (body : List Byte) (crc : BitVec 32) (s : State) : Result :=
  let s1 := s.advance dt
  let bytes := body ++ leBytes 4 crc.toNat
  .next (if s1.floeOn && s1.portUp link.val then (s1.receiveCell link.val (readCell bytes) (cellLen bytes) (cellCrcOk bytes)).settle else s1)

/-- The place of the cell that leaves a queue next: the oldest of the highest priority (R224). -/
def nextOut (q : List Cell) : Option Nat :=
  let top := q.foldl (fun m c => Nat.max m c.prio) 0
  (q.zipIdx.find? (fun c => c.1.prio == top)).map Prod.snd

/-- One entry of the full copy as a MIRROR payload of the state in which it leaves: SLOT and ACTIVE cells carry the slots named, CORR,
THERM and DEM cells the present values (R245). -/
def State.copyPayload (s : State) (e : List Byte) : List Byte :=
  let sub := byteAt e 0
  if sub = 1 ∨ sub = 0xC then
    let c := byteAt e 1 - 1
    ((s.slotCells (sub == 0xC) c (leAt e 2 2) (Nat.min 3 (s.slotCnt c - leAt e 2 2))).head?).getD e
  else if sub = 5 then s.corrCell (byteAt e 1)
  else if sub = 6 then s.thermCell (byteAt e 1)
  else if sub = 7 then s.demCell
  else if sub = 0xD then [0xD, 0, 0, 0] ++ leBytes 4 s.flo.copySent
  else e

/-- Cells of a full copy enter the port's queue while it has room for others (R245). -/
def State.pumpCopy (s : State) : Nat → State
  | 0 => s
  | n + 1 =>
    match s.flo.copyQ with
    | [] => s
    | e :: r =>
      if 24 ≤ (s.floPort (s.routeOf s.partner)).queue.length then s
      else ((s.withFlo { s.flo with copyQ := r }).mirrorIf (s.copyPayload e)).pumpCopy n

/-- CELL_FORWARD (R224): a queued cell leaves its port; it occupies the wire for 512 ns (R218). -/
def execCellForward (dt : Nat) (link : Fin 4) (s : State) : Result :=
  let p := link.val
  let s1 := s.advance dt
  let x := s1.floPort p
  .next (if s1.floeOn && s1.portUp p && x.busyUntil ≤ s1.now then
    (match nextOut x.queue with
     | none => s1
     | some k =>
       ((s1.setFloPort p { x with queue := x.queue.eraseIdx k, busyUntil := s1.now + 205
                                  sent := (x.queue[k]?.map (fun c => cellBytes (moveCorr c (16 * s1.now : Nat)))).getD [] }).pumpCopy 24).settle)
    else s1)

/-- BC_ENTRY_AGE (R226). -/
def execBcEntryAge (dt : Nat) (node : Fin 4096) (s : State) : Result :=
  let n := node.val
  let s1 := s.advance dt
  .next (if s1.bcEntry n = none then s1.withFlo { s1.flo with bcSeen := spPut (fun _ => (0, 0)) s1.flo.bcSeen n (0, 0) } else s1)

/-- The oldest cell of a type that waits for this node, and the state without it. -/
def State.takeCell (s : State) (typ : Nat) (p : Cell → Bool) : Option (Cell × State) :=
  match s.flo.inq.find? (fun e => e.2.typ == typ) with
  | none => none
  | some e => if p e.2 then some (e.2, s.withFlo { s.flo with inq := s.flo.inq.eraseP (fun f => f.2.typ == typ) }) else none

-- ── Domain time (R229–R232) ───────────────────────────────────────────────────────────────────────────────────────

/-- SYNC_P in ticks. -/
def State.syncPeriod (s : State) : Nat := 40000 * s.get Fld.FLO_DOM_SYNC_P

/-- SYNC_SEND (R230). -/
def execSyncSend (dt : Nat) (s : State) : Result :=
  let s1 := s.advance dt
  .next (if s1.domMaster && s1.floeOn && s1.passed s1.flo.syncSentAt s1.syncPeriod then
    ((s1.withFlo { s1.flo with syncSentAt := s1.now }).emitCell 1 (s1.get Fld.FLO_NODE_DOMAIN) true false
      (leBytes 8 1 ++ leBytes 8 s1.domTime ++ leBytes 4 (-(16 * s1.now : Nat) % 4294967296 : Int).toNat)).settle
    else s1)

/-- Every tracker that follows the domain, by R234. -/
def State.eachFollower (s : State) (f : State → Nat → State) : State :=
  [0, 1].foldl (fun s x => if s.get (Fld.TRK_CTRL_SRC x) = 1 then f s x else s) s

/-- The master is known by another node's ID, or by none (FLO_DMASTER): source 229 at a change. -/
def State.nameMaster (s : State) (node : Nat) : State :=
  if s.flag Fld.FLO_DMASTER_VALID && s.get Fld.FLO_DMASTER_MASTER == node then s
  else ((s.set Fld.FLO_DMASTER_MASTER node).setFlag Fld.FLO_DMASTER_VALID true).irq 229

/-- The frequency ratio that two SYNC cells give: the master's time against the own (R229); 1 where they give none, or one beyond what
crystals within ±50 ppm can show (DESIGN CHOICE, log entry 24). -/
def syncRatio (dm down : Int) (first : Bool) : Nat × Nat :=
  if first || dm ≤ 0 || down ≤ 0 || down < 10000 * (dm - down).natAbs then (1, 1) else (dm.toNat, down.toNat)

/-- A SYNC cell of the master (R230, R231): the base of domain time, its ratio and offset, DOM_LOCK. -/
def State.takeSync (s : State) (src m : Nat) : State :=
  let own := 16 * s.tclk
  let good := ((m : Int) - s.domTime).natAbs ≤ 12
  let n := if good then Nat.min 4 (s.flo.syncGood + 1) else 0
  let r := syncRatio ((m : Int) - s.flo.syncMaster) ((own : Int) - s.flo.syncOwn) (s.flo.ratioDen == 0)
  let s1 := s.withFlo { s.flo with
    syncOwn := own, syncMaster := m, ratioNum := r.1, ratioDen := r.2, syncAt := s.now, syncGood := n }
  let s2 := (s1.set Fld.FLO_DOFS_OFS (ofSigned 32 (clampInt (-2147483648) 2147483647 ((m : Int) - own)))).nameMaster src
  if n = 4 then s2.setFlag Fld.FLO_STAT_DOM_LOCK true else s2

/-- SYNC_CELL_RX (R230–R232). The master's time is T_TX + CORR + the delay of the input link. A master that hears a lower ID stops. -/
def execSyncCellRx (dt : Nat) (s : State) : Result :=
  let s1 := s.advance dt
  .next (match s1.takeCell 1 isSyncCell with
    | none => s1
    | some (c, s2) =>
      let m := leAt c.payload 8 8 + leAt (moveCorr c (16 * s2.now : Nat)).payload 16 4
      let lower := c.src < s2.get Fld.FLO_NODE_NODE_ID
      let s3 := if lower then (s2.withFlo { s2.flo with lowerAt := s2.now }).setFlag Fld.FLO_STAT_DOM_MASTER false else s2
      (if s3.domMaster then s3
       else if s3.flag Fld.FLO_DMASTER_VALID && s3.get Fld.FLO_DMASTER_MASTER < c.src then s3
       else s3.takeSync c.src m).settle)

/-- DOM_LOCK_LOSS (R231, R234): no SYNC cell for 10 × SYNC_P. -/
def execDomLockLoss (dt : Nat) (s : State) : Result :=
  let s1 := s.advance dt
  .next (if s1.passed s1.flo.syncAt (10 * s1.syncPeriod) && (s1.flag Fld.FLO_STAT_DOM_LOCK || (s1.flag Fld.FLO_DMASTER_VALID && !s1.domMaster)) then
    let s2 := (s1.setFlag Fld.FLO_STAT_DOM_LOCK false).withFlo { s1.flo with syncGood := 0 }
    let s3 := if s2.domMaster then s2 else s2.setFlag Fld.FLO_DMASTER_VALID false
    ((s3.irq 229).eachFollower State.loseFollower).settle
    else s1)

/-- MASTER_CLAIM (R232): domain time goes on from the count held. -/
def execMasterClaim (dt : Nat) (s : State) : Result :=
  let s1 := s.advance dt
  .next (if s1.candidateMaster && !s1.domMaster && s1.passed s1.flo.lowerAt (3 * s1.syncPeriod) then
    let f := s1.flo
    let s2 := if f.ratioDen = 0 then s1
      else s1.withFlo { f with syncOwn := 16 * s1.tclk, syncMaster := s1.domTime, ratioNum := 1, ratioDen := 1 }
    (((s2.withFlo { s2.flo with syncSentAt := 0 }).setFlag Fld.FLO_STAT_DOM_MASTER true).nameMaster (s2.get Fld.FLO_NODE_NODE_ID)).settle
    else s1)

-- ── The shared angle (R233–R235) ──────────────────────────────────────────────────────────────────────────────────

/-- The master's angle now, from an EDGE cell (R234). -/
def State.masterAngle (s : State) (p : List Byte) : Nat :=
  (((leAt p 16 7 : Int) + (leAt p 24 5 : Int) * ((s.domTime : Int) - (leAt p 8 8 : Int)) / 16) % 72057594037927936).toNat

/-- The comparison of R235. -/
def State.compareDomain (s : State) (am : Nat) : State :=
  if s.domMaster || !s.outOk then s
  else
    let d := angDist s.out (am / fracOne)
    let s1 := s.setWord Reg.FLO_DDIFF (BitVec.ofInt 32 d)
    if s.get Fld.FLO_DOM_DAGREE < d.natAbs then
      let s2 := s1.withFlo { s1.flo with disRun := s1.flo.disRun + 1, agrRun := 0 }
      if 3 ≤ s2.flo.disRun && !s2.flag Fld.FLO_STAT_DOM_DIS then (s2.setFlag Fld.FLO_STAT_DOM_DIS true).irq 230 else s2
    else
      let s2 := s1.withFlo { s1.flo with disRun := 0, agrRun := s1.flo.agrRun + 1 }
      if 3 ≤ s2.flo.agrRun then s2.setFlag Fld.FLO_STAT_DOM_DIS false else s2

/-- A follower's angle and rate (R234): loaded at once while STOPPED or far off, else drawn in over 1,024 ticks. -/
def State.followAngle (s : State) (x am rate : Nat) : State :=
  let t := s.trk x
  let d := accDist t.acc am
  if s.trkState x = 0 || 65536 * fracOne < d.natAbs then s.setTrk x { t with acc := am, rate := rate, corrLeft := 0, corrRate := 0 }
  else
    let c := Nat.min (d.natAbs / 1024) (rate / 2)
    s.setTrk x { t with rate := rate, corrRate := c, corrLeft := if d < 0 then -((1024 * c : Nat) : Int) else ((1024 * c : Nat) : Int) }

/-- A follower takes an EDGE cell (R234): angle, rate, STATE, DIR and SHOT_OK, with NEXT and CYCLE (DEDUCED, log entry 23). -/
def State.followEdge (s : State) (p : List Byte) (am : Nat) (x : Nat) : State :=
  let old := s.trkState x
  let st := byteAt p 0 / 16
  let s0 := ((s.followAngle x am (leAt p 24 5)).showRate x).setTrkState x (if st ≤ 6 then st else 6)
  let s1 := if st = 5 && old != 5 then s0.irq (33 + 8 * x) else s0
  let s2 := s1.setTrk x { s1.trk x with rate := leAt p 24 5, cellOk := (byteAt p 1).testBit 1, cycle := leAt p 4 4, edgeAt := s.now }
  let s3 := ((s2.setFlag (Fld.TRK_STAT_DIR x) ((byteAt p 1).testBit 0)).set (Fld.TRK_POS_NEXT x) (leAt p 2 2 % 1024)).set
    (Fld.TRK_STAT_COAST_N x) 0
  s3.afterTracker s x false (resynced old (s3.trkState x) false) false

/-- EDGE_CELL_RX (R234, R235): a cell of the domain's master; a follower without DOM_LOCK only reports LOST. -/
def execEdgeCellRx (dt : Nat) (s : State) : Result :=
  let s1 := s.advance dt
  .next (match s1.takeCell 1 (fun c => cellSub c == 0) with
    | none => s1
    | some (c, s2) =>
      if s2.domMaster || !s2.flag Fld.FLO_DMASTER_VALID || s2.get Fld.FLO_DMASTER_MASTER != c.src then s2
      else
        let am := s2.masterAngle c.payload
        let s3 := (s2.compareDomain am).withFlo { (s2.compareDomain am).flo with
          edgeTA := leAt c.payload 8 8, edgeTNext := leAt c.payload 32 4, edgeSeen := true, edgeMissed := 0 }
        (s3.eachFollower (fun s x => if s.flag Fld.FLO_STAT_DOM_LOCK then s.followEdge c.payload am x else s.loseFollower x)).settle)

/-- EDGE_CELL_MISSING (R234): domain time has passed T_A + 1.25 × T_NEXT, and each further T_NEXT, without a new cell. -/
def execEdgeCellMissing (dt : Nat) (s : State) : Result :=
  let s1 := s.advance dt
  let f := s1.flo
  .next (if f.edgeSeen && 4 * f.edgeTA + 16 * (5 + 4 * f.edgeMissed) * f.edgeTNext < 4 * s1.domTime then
    ((s1.withFlo { f with edgeMissed := f.edgeMissed + 1 }).eachFollower (fun s x =>
      if inSync (s.trkState x) then (s.missEdge x).afterTracker s x false false false else s)).settle
    else s1)

end Sys2Proof.Machine
end

