-- ==== Sys2Proof/Machine/PairRows.lean ====
section
/-! DEFINITION. Floe rows of the pair: heartbeat, ARB, mirroring, handovers (R236–R258), of the voters (R259–R262), and of packets in
cells (R280, R281). -/

namespace Sys2Proof.Machine

-- ── Heartbeat (R239–R242, R258) ───────────────────────────────────────────────────────────────────────────────────

/-- HEART_SEND (R241): every HB_P. -/
def execHeartSend (dt : Nat) (s : State) : Result :=
  let s1 := s.advance dt
  .next (if s1.paired && s1.floeOn && s1.passed s1.flo.hbSentAt (200 * s1.get Fld.FLO_PAIRT_HB_P) then
    let s2 := (s1.withFlo { s1.flo with hbSentAt := s1.now }).emitCell 3 s1.partner false false s1.heartCell
    (s2.withFlo { s2.flo with hostOk := false }).settle
    else s1)

/-- The partner's report (R241). -/
def State.takeHeart (s : State) (p : List Byte) : State :=
  let b0 := byteAt p 0
  let b1 := byteAt p 1
  let cfg := leAt p 4 4
  let same := cfg == (s.word (Reg.SEC_CFG 0)).toNat
  let s1 := ((((s.set Fld.FLO_PAIRSTAT_P_ROLE (b0 % 4)).set Fld.FLO_PAIRSTAT_P_STATE (b0 / 16)).set Fld.FLO_PAIRSTAT_P_CALV (b1 % 16)).setFlag
    Fld.FLO_PAIRSTAT_P_READY (b1.testBit 4)).setFlag Fld.FLO_PAIRSTAT_CFG_MATCH same
  s1.withFlo { s1.flo with
    hbAt := s.now, pArbOwn := b0.testBit 2, pFaultCh := leAt p 8 6, pFaultBank := byteAt p 14
    cfgBadAt := if same || s.flag Fld.FLO_PAIRSTAT_CFG_MATCH then s.now else s.flo.cfgBadAt }

/-- The ARB line against the members' assertions, for three HEART periods (R239). -/
def State.judgeArb (s : State) : State :=
  let any := s.flag Fld.FLO_PAIRSTAT_ARB_OWN || s.flo.pArbOwn
  if s.flag Fld.FLO_PAIRSTAT_ARB_LINE = any then s.withFlo { s.flo with arbBad := 0 }
  else
    let s1 := s.withFlo { s.flo with arbBad := Nat.min 3 (s.flo.arbBad + 1) }
    if s1.flo.arbBad < 3 || s1.flag Fld.FLO_PAIRSTAT_ARB_FAULT then s1
    else ((s1.raiseFlag Fld.FLO_PAIRSTAT_ARB_FAULT).irq 236).raiseFault Fld.SYS_FAULT_FLO

/-- No channel is driven. -/
def State.drivesNothing (s : State) : Bool := (List.range 48).all (fun n => s.phase n == 0)

/-- Both members are cope (R240, R258): each takes its part of R250, the higher node ID giving up the drive, from a time T_H one HO_LEAD ahead; a
higher member that drives nothing gives it up at once (DEDUCED, log entry 25). -/
def State.bothCope (s : State) : State :=
  let both := s.get Fld.FLO_PAIRSTAT_P_ROLE == 1 || s.flag Fld.FLO_PAIRSTAT_ARB_OWN && s.flo.pArbOwn
  if !(s.isCope && both) || s.flo.handover.isSome then s
  else if s.drivesNothing then (if s.higherNode then (s.setRole 2).assertArb false else s)
  else
    let h : Handover :=
      { reason := 0, th := s.domTime + 640 * s.get Fld.FLO_PAIR_HO_LEAD, accepted := true, step := 0, giving := s.higherNode }
    s.withFlo { s.flo with handover := some h }

/-- HB_LOST clears (R241, R245): source 235, and a drag asks for a copy; the observed-drive rule ends (R256). -/
def State.heartBack (s : State) : State :=
  if !s.flag Fld.FLO_PAIRSTAT_HB_LOST then s
  else
    let s1 := (s.clearExpected.setFlag Fld.FLO_PAIRSTAT_HB_LOST false).irq 235
    if s1.isDrag then s1.askCopy else s1

/-- A HEART cell with HOST_OK counts on a drag as a valid host packet (R242). -/
def State.heartHost (s : State) (p : List Byte) : State :=
  if s.isDrag && (byteAt p 1).testBit 5 then s.hostPacket.withFlo { s.hostPacket.flo with hostOk := s.flo.hostOk } else s

/-- HEART_RX (R239–R242, R258). -/
def execHeartRx (dt : Nat) (s : State) : Result :=
  let s1 := s.advance dt
  .next (match s1.takeCell 3 (fun _ => true) with
    | none => s1
    | some (c, s2) =>
      let s3 := (((s2.takeHeart c.payload).heartBack).judgeArb).heartHost c.payload
      let s4 := if s3.mayForm && s3.get Fld.FLO_PAIRSTAT_P_ROLE == 1 then s3.setRole 2 else s3
      s4.bothCope.settle)

/-- HB_LOST (R241): no HEART cell for HB_MISS × HB_P; the periods of R239 are no longer consecutive. -/
def execHbLost (dt : Nat) (s : State) : Result :=
  let s1 := s.advance dt
  .next (if s1.paired && !s1.flag Fld.FLO_PAIRSTAT_HB_LOST &&
      s1.passed s1.flo.hbAt (200 * s1.get Fld.FLO_PAIRT_HB_P * s1.get Fld.FLO_PAIRT_HB_MISS) then
    ((((s1.withFlo { s1.flo with arbBad := 0 }).setFlag Fld.FLO_PAIRSTAT_HB_LOST true).irq 234).raiseFault Fld.SYS_FAULT_FLO).settle
    else s1)

/-- CFG_MATCH_TIMEOUT (R258): CFG_MATCH has been 0 for more than 1 s. -/
def execCfgMatchTimeout (dt : Nat) (s : State) : Result :=
  let s1 := s.advance dt
  .next (if s1.paired && !s1.flag Fld.FLO_PAIRSTAT_CFG_MATCH && s1.passed s1.flo.cfgBadAt (1000 * msTicks + 1) then
    (s1.raiseFault Fld.SYS_FAULT_FLO).settle else s1)

-- ── The ARB line (R237, R238, R240, R252) ─────────────────────────────────────────────────────────────────────────

/-- OBS_DRIVE of a channel in an earlier tick, from its last rise and fall. -/
def State.drivenAt (s : State) (n t : Nat) : Bool :=
  let c := s.chan n
  let rose := match c.obsRise with | some r => decide (r ≤ t) | none => false
  let fellAfter := match c.obsFall with | some f => decide (t < f) | none => false
  if s.flag (Fld.DRV_CH_STAT_OBS_DRIVE n) then rose || fellAfter else rose && fellAfter

/-- ARB_LINE_CHANGE (R237): the filtered line now reads held or free; it went free ARB_FILT ago, and R252 takes the paths of the tick before.
 A member without a role that reads it held becomes drag; a drag that reads it free takes over, in
`settle`. -/
def execArbLineChange (dt : Nat) (line : ArbReading) (s : State) : Result :=
  let s1 := s.advance dt
  .next (if s1.tclkRuns then
    let s2 := s1.setFlag Fld.FLO_PAIRSTAT_ARB_LINE line.level
    let before := s2.now - 4 * s2.get Fld.FLO_PAIR_ARB_FILT - 1
    let s3 := if line.level then s2 else s2.withFlo { s2.flo with
      arbFreeAt := s2.now, freeLow := bitsWhere 48 (fun n => s2.drivenAt n before), freeAbove := line.above.toNat }
    (if line.level && s3.mayForm then s3.setRole 2 else s3).settle
    else s1)

/-- ARB_WATCHDOG_EXPIRY (R238): the timing island has not refreshed ARB for 1 µs. -/
def execArbWatchdogExpiry (dt : Nat) (s : State) : Result := .next (((s.advance dt).assertArb false).settle)

/-- COPE_CLAIM (R240): ARB has read free for 2 ms with PREF_COPE, else 4 ms. -/
def execCopeClaim (dt : Nat) (s : State) : Result :=
  let s1 := s.advance dt
  .next (if s1.mayForm && !s1.flag Fld.FLO_PAIRSTAT_ARB_LINE &&
      s1.passed s1.flo.arbFreeAt ((if s1.flag Fld.FLO_PAIR_PREF_COPE then 2 else 4) * msTicks) then
    ((s1.setRole 1).assertArb true).settle
    else s1)

-- ── Mirroring (R243–R246) ─────────────────────────────────────────────────────────────────────────────────────────

/-- The oldest MIRROR cell of a subtype on a drag; a gap in SEQ makes the drag ask for a copy (R245). -/
def State.takeMirror (s : State) (sub : Nat) : Option (List Byte × State) :=
  match s.takeCell 2 (fun c => byteAt c.payload 0 == sub) with
  | none => none
  | some (c, s1) =>
    if !s1.isDrag then some ([], s1)
    else
      let gap := s1.flo.mirrorNext != 0 && s1.flo.mirrorNext != c.seq + 1
      let s2 := if gap then s1.askCopy else s1
      some (c.payload, s2.withFlo { s2.flo with
        mirrorNext := (c.seq + 1) % 65536 + 1
        copyCount := if copySubs.contains sub then s2.flo.copyCount + 1 else s2.flo.copyCount })

/-- A MIRROR row: what a drag does with the payload. -/
def State.onMirror (s : State) (sub : Nat) (f : List Byte → State → State) : State :=
  match s.takeMirror sub with
  | none => s
  | some ([], s1) => s1
  | some (p, s1) => (f p s1).settle

/-- The descriptors of a SLOT or ACTIVE cell, written to the cylinder's range (R243). -/
def State.mirrorDescs (s : State) (active : Bool) (p : List Byte) : State :=
  let c := byteAt p 1 - 1
  (List.range (Nat.min 3 ((p.length - 4) / 16))).foldl (fun s j =>
    let n := s.slotBase c + leAt p 2 2 + j
    if byteAt p 1 = 0 ∨ 24 < byteAt p 1 ∨ s.slotCnt c ≤ leAt p 2 2 + j ∨ 2048 ≤ n then s
    else (List.range 4).foldl (fun s w => s.setWord (if active then Reg.SCH_ACTIVE n w else Reg.SCH_SHADOW n w)
      (BitVec.ofNat 32 (leAt p (4 + 16 * j + 4 * w) 4))) s) s

/-- MIRROR_SLOT (R243). -/
def execMirrorSlot (dt : Nat) (s : State) : Result := .next ((s.advance dt).onMirror 1 (fun p s => s.mirrorDescs false p))

/-- MIRROR_ACTIVE (R243, R245). -/
def execMirrorActive (dt : Nat) (s : State) : Result := .next ((s.advance dt).onMirror 0xC (fun p s => s.mirrorDescs true p))

/-- MIRROR_TXN (R243): the drag's transactions open, close or abort; a close was checked by the cope. -/
def execMirrorTxn (dt : Nat) (s : State) : Result :=
  .next ((s.advance dt).onMirror 2 (fun p s =>
    let m := leAt p 4 3
    let op := byteAt p 1
    if op = 0 then s.openTxns m
    else if op = 1 then (cylsOf m).foldl (fun s c => s.setBit Fld.SCH_TXN_OPEN c false) s
    else if op = 2 then s.abortTxns m else s))

/-- The mirror no longer matches (R244): source 238, and the drag asks for a copy. -/
def State.mirrorMismatch (s : State) : State := ((s.raiseFlag Fld.FLO_PAIRSTAT_MIRROR_MISMATCH).irq 238).askCopy

/-- The cell's commit (R244): an ordinary one comes before or after the drag's own latch of that cylinder. -/
def State.cellCommit (s : State) (c : Nat) (restart : Bool) (crc : Nat) : State :=
  let w := spGet (fun _ => none) s.flo.latchWait c
  let s1 := if w.isSome then s.putLatchWait c none
    else if !restart && 0 < angDist s.out (s.get (Fld.SCH_CYL_E_LATCH c)) then s.putLatchWait c (some 0) else s
  let s2 := s1.commitCyl restart c
  if (s2.activeCrc c).toNat = crc then s2 else s2.mirrorMismatch

/-- MIRROR_COMMIT (R244). -/
def execMirrorCommit (dt : Nat) (s : State) : Result :=
  .next ((s.advance dt).onMirror 3 (fun p s =>
    if s.commitsByCell && inRange 1 24 (byteAt p 1) && s.flag Fld.CLK_GATE0_SCH && s.flag Fld.SCH_CTRL_EN then
      (s.cellCommit (byteAt p 1 - 1) ((byteAt p 2).testBit 0) (leAt p 8 4)).checkRamp
    else s))

/-- CMT_WAIT_EXPIRY (R244): CMT_WAIT after the own latch no COMMIT cell has come; the drag commits by R108 and R112. -/
def execCmtWaitExpiry (dt : Nat) (cyl : Fin 24) (s : State) : Result :=
  let c := cyl.val
  let s1 := s.advance dt
  .next (match spGet (fun _ => none) s1.flo.latchWait c with
    | some (t + 1) =>
      if s1.isDrag && s1.passed t (usTicks * Nat.max 1 (s1.get Fld.FLO_PAIRT_CMT_WAIT)) then
        ((((s1.putLatchWait c none).raiseFlag Fld.FLO_PAIRSTAT_COMMIT_LOCAL).commitCyl false c).checkRamp).settle
      else s1
    | _ => s1)

/-- MIRROR_SHOT (R243, R246): the cope's channel state; while its shot runs, it occupies the drag's bank. -/
def execMirrorShot (dt : Nat) (s : State) : Result :=
  .next ((s.advance dt).onMirror 4 (fun p s =>
    let n := byteAt p 1
    let ph := byteAt p 4 / 16
    if 48 ≤ n then s
    else if ph = 0 then s.putShotCell n none
    else s.putShotCell n (some
      { slot := leAt p 2 2, profile := byteAt p 4 % 16, phase := ph, outcome := byteAt p 5 % 16, batt := (byteAt p 5).testBit 4
        timeEnd := (byteAt p 5).testBit 5, sp := leAt p 6 2, tStart := leAt p 8 8, tPhase := leAt p 16 8, endVal := leAt p 24 4 })))

/-- MIRROR_CORR (R243). -/
def execMirrorCorr (dt : Nat) (s : State) : Result :=
  .next ((s.advance dt).onMirror 5 (fun p s => if byteAt p 1 < 48 then s.set (Fld.WIT_CH_CORR_D (byteAt p 1)) (leAt p 2 2) else s))

/-- MIRROR_THERM (R243): coil temperatures of six channels, in 0.1 °C. -/
def execMirrorTherm (dt : Nat) (s : State) : Result :=
  .next ((s.advance dt).onMirror 6 (fun p s =>
    (List.range 6).foldl (fun s k =>
      let n := byteAt p 1 + k
      if 48 ≤ n then s
      else s.putCoil n (toSigned 16 (leAt p (4 + 4 * k) 2) * 100000000, toSigned 16 (leAt p (6 + 4 * k) 2) * 100000000)) s))

/-- MIRROR_DEM (R243): the demand words and the governor's integrator. -/
def execMirrorDem (dt : Nat) (s : State) : Result :=
  .next ((s.advance dt).onMirror 7 (fun p s =>
    let w (k : Nat) : Word := BitVec.ofNat 32 (leAt p (4 + 4 * k) 4)
    let s1 := (((s.setWord Reg.SCH_DEM0 (w 0)).setWord Reg.SCH_DEM1 (w 1)).setWord Reg.SCH_DEM2 (w 2)).setWord Reg.SCH_DEM3 (w 3)
    s1.withSch { s1.sch with govI := toSigned 32 (leAt p 20 4) }))

/-- The THERM set: 8 cells. -/
def State.thermSet : List (List Byte) := (List.range 8).map (fun k => [6, BitVec.ofNat 8 (6 * k)])

/-- THERM_MIRROR_SEND (R243): every 100 ms. -/
def execThermMirrorSend (dt : Nat) (s : State) : Result :=
  let s1 := s.advance dt
  .next (if s1.isCope && s1.passed s1.flo.thermAt (100 * msTicks) then
    ((State.thermSet.foldl (fun s e => s.mirror (s.copyPayload e)) (s1.withFlo { s1.flo with thermAt := s1.now }))).settle
    else s1)

/-- The cells of a full copy (R245): the shadow and active ranges of every enabled cylinder, every D, the THERM set, a DEM cell. -/
def State.copyCells (s : State) : List (List Byte) :=
  let slots (active : Bool) (c : Nat) : List (List Byte) := (List.range ((s.slotCnt c + 2) / 3)).map (fun k =>
    leBytes 1 (if active then 0xC else 1) ++ leBytes 1 (c + 1) ++ leBytes 2 (3 * k))
  s.enabledCyls.flatMap (slots false) ++ s.enabledCyls.flatMap (slots true) ++ (List.range 48).map (fun n => [5, BitVec.ofNat 8 n]) ++
    State.thermSet ++ [[7]]

/-- SYNC_REQ (R245): the cope sends a full copy; a copy in progress starts again. SYNC_END counts the cells sent since the request that a copy is made of (log entry 26). -/
def execSyncReq (dt : Nat) (s : State) : Result :=
  let s1 := s.advance dt
  .next (match s1.takeCell 2 (fun c => byteAt c.payload 0 == 0xB) with
    | none => s1
    | some (_, s2) =>
      if !s2.isCope then s2
      else
        ((s2.withFlo { s2.flo with copyQ := s2.copyCells ++ [[0xD]], copySent := 0 }).pumpCopy 24).settle)

/-- SYNC_END (R245): with the count of cells received it completes the mirror; with another, the drag asks again. -/
def execSyncEnd (dt : Nat) (s : State) : Result :=
  .next ((s.advance dt).onMirror 0xD (fun p s =>
    if leAt p 4 4 = s.flo.copyCount then (s.setFlag Fld.FLO_PAIRSTAT_MIRROR_SYNC true).irq 238 else s.askCopy))

-- ── Planned handovers (R248–R250, R254) ───────────────────────────────────────────────────────────────────────────

/-- What a drag answers to HO_REQ (R249, R254): 3 holdoff, 1 not ready, 2 T_H too near; 0 accepts. -/
def State.judgeRequest (s : State) (th : Nat) : Nat :=
  if s.now < s.flo.holdoffUntil then 3 else if !s.takeReady then 1 else if th < s.domTime + 1280 then 2 else 0

/-- HO_REQ (R249). -/
def execHoReq (dt : Nat) (s : State) : Result :=
  .next ((s.advance dt).onMirror 8 (fun p s =>
    let th := leAt p 8 8
    let r := s.judgeRequest th
    if r ≠ 0 then s.mirror [0xA, BitVec.ofNat 8 r]
    else
      let h : Handover := { reason := byteAt p 1, th := th, accepted := true, step := 0, giving := false }
      (s.withFlo { s.flo with handover := some h }).mirror ([9, 0, 0, 0, 0, 0, 0, 0] ++ leBytes 8 th)))

/-- The cope's request in progress. -/
def State.openRequest (s : State) : Option Handover :=
  match s.flo.handover with
  | some h => if h.giving && !h.accepted then some h else none
  | none => none

/-- HO_ACC (R249): received before T_H, it completes the handover. -/
def execHoAcc (dt : Nat) (s : State) : Result :=
  let s1 := s.advance dt
  .next (match s1.takeCell 2 (fun c => byteAt c.payload 0 == 9) with
    | none => s1
    | some (c, s2) =>
      match s2.openRequest with
      | some h =>
        if h.th = leAt c.payload 8 8 && s2.domTime < h.th then (s2.withFlo { s2.flo with handover := some { h with accepted := true } }).settle
        else s2
      | none => s2)

/-- A handover is refused or not accepted (R249): the cope keeps the drive; SAFE and C6 quench (R248). -/
def State.keepDrive (s : State) : State :=
  let s1 := ((s.withFlo { s.flo with handover := none }).countRefused).irq 233
  let s2 := if s1.st = 8 then s1.quench else s1
  s2.c6Goes.settle

/-- HO_REF (R249). -/
def execHoRef (dt : Nat) (s : State) : Result :=
  let s1 := s.advance dt
  .next (match s1.takeCell 2 (fun c => byteAt c.payload 0 == 0xA) with
    | none => s1
    | some (c, s2) =>
      match s2.openRequest with
      | some _ => (s2.set Fld.FLO_HOLAST_REF (byteAt c.payload 1)).keepDrive
      | none => s2)

/-- HANDOVER_NOT_ACCEPTED (R249): T_H has come without HO_ACC. -/
def execHandoverNotAccepted (dt : Nat) (s : State) : Result :=
  let s1 := s.advance dt
  .next (match s1.openRequest with
    | some h => if h.th ≤ s1.domTime then s1.keepDrive else s1
    | none => s1)

/-- Every running channel holds its switch states (R250). -/
def State.holdAll (s : State) : State :=
  (List.range 48).foldl (fun s n => if s.phase n = 0 then s else s.setChan n { s.chan n with held := true }) s

/-- The accepted handover, when its step is `k` and domain time has reached `t` units after T_H. -/
def State.handoverAt (s : State) (giving : Bool) (k : Nat) (t : Int) : Option Handover :=
  match s.flo.handover with
  | some h => if h.accepted && h.giving == giving && h.step == k && decide ((h.th : Int) + t ≤ s.domTime) then some h else none
  | none => none

def State.handoverStep (s : State) (h : Handover) (k : Nat) : State := s.withFlo { s.flo with handover := some { h with step := k } }

/-- HO_OVL in 1/16 tick. -/
def State.overlap (s : State) : Int := (64 * s.get Fld.FLO_PAIRT_HO_OVL : Nat)

/-- HANDOVER_HOLD (R250): from T_H − 0.1 µs both members hold; the drag leaves standby and takes the paths it observes. A cope to which another cope gives way drives on (R258). -/
def execHandoverHold (moment : HoldMoment) (s : State) : Result :=
  let s1 := s.advance moment.dt
  .next (match s1.handoverAt true 0 (-640), s1.handoverAt false 0 (-640) with
    | some h, _ => ((s1.handoverStep h 1).holdAll).settle
    | none, some h =>
      (if s1.isCope then (s1.handoverStep h 1).holdAll
       else ((s1.handoverStep h 1).writeStby false).continueAll true ⟨s1.drivenNow, some moment.above.toNat⟩).settle
    | none, none => s1)

/-- HANDOVER_ASSERT (R250): at T_H the drag asserts ARB. -/
def execHandoverAssert (dt : Nat) (s : State) : Result :=
  let s1 := s.advance dt
  .next (match s1.handoverAt false 1 0 with
    | some h => ((s1.handoverStep h 2).assertArb true).settle
    | none => s1)

/-- A handover is complete (R250): source 232; HANDOVERS and the reason. -/
def State.handoverDone (s : State) (h : Handover) : State :=
  let s1 := ((s.withFlo { s.flo with handover := none }).addWrap Fld.FLO_PAIR_CNT_HANDOVERS 1).irq 232
  if h.reason = 0 then s1 else s1.set Fld.FLO_HOLAST_REASON h.reason

/-- HANDOVER_RELEASE (R250, R254): at T_H + HO_OVL the cope enters standby, releases ARB and becomes drag; the holdoff starts. -/
def execHandoverRelease (dt : Nat) (s : State) : Result :=
  let s1 := s.advance dt
  .next (match s1.handoverAt true 1 s1.overlap with
    | some h =>
      let s2 := (((s1.writeStby true).assertArb false).handoverDone h).setRole 2
      let s3 := if inRange 1 5 h.reason then
          s2.withFlo { s2.flo with holdoffUntil := s2.now + 100 * msTicks * s2.get Fld.FLO_PAIR_CNT_HOLDOFF } else s2
      s3.c6Goes.settle
    | none => s1)

/-- HANDOVER_REGULATE (R250): from T_H + HO_OVL + 0.2 µs the new cope regulates. -/
def execHandoverRegulate (dt : Nat) (s : State) : Result :=
  let s1 := s.advance dt
  .next (match s1.handoverAt false 2 (s1.overlap + 1280) with
    | some h =>
      ((s1.releaseAll.handoverDone h).setRole 1).settle
    | none => s1)

/-- HOLDOFF_EXPIRY (R254). -/
def execHoldoffExpiry (dt : Nat) (s : State) : Result :=
  let s1 := s.advance dt
  .next (if s1.flo.holdoffUntil ≤ s1.now then s1.withFlo { s1.flo with holdoffUntil := 0 } else s1)

-- ── Voters and settings (R259–R262) ───────────────────────────────────────────────────────────────────────────────

/-- VOTE_P in ticks; 0 acts as 1 ms. -/
def State.votePeriod (s : State) : Nat := msTicks * Nat.max 1 (s.get Fld.FLO_SYS_VOTE_P)

/-- VOTE_SEND (R259). -/
def execVoteSend (dt : Nat) (s : State) : Result :=
  let s1 := s.advance dt
  .next (if s1.floeOn && s1.comRuns && s1.flag Fld.FLO_SYS_VOTER && s1.passed s1.flo.voteSentAt s1.votePeriod then
    ((s1.withFlo { s1.flo with voteSentAt := s1.now }).emitCell 7 0 false true
      (leBytes 1 (s1.get Fld.FLO_SYS_VSLOT + (if s1.flag Fld.FLO_SYSSTAT_AUTHORITY then 16 else 0)) ++ [0] ++
       leBytes 2 (s1.get Fld.FLO_REACH_REACH) ++ leBytes 4 (s1.word Reg.FLO_EPOCH).toNat)).settle
    else s1)

/-- VOTE_CELL_RX (R260): a voter of the list, in its own slot, is reached. -/
def execVoteCellRx (dt : Nat) (s : State) : Result :=
  let s1 := s.advance dt
  .next (if !s1.comRuns then s1 else
    match s1.takeCell 7 (fun _ => true) with
    | none => s1
    | some (c, s2) =>
      let k := byteAt c.payload 0 % 16
      if s2.get Fld.FLO_SYS_NVOTER ≤ k || s2.voterId k != c.src then s2
      else
        let f := s2.flo
        let was := f.voteAuth.testBit k
        let auth := (byteAt c.payload 0).testBit 4
        ((s2.withFlo { f with
          voteSrc := spPut (fun _ => 0) f.voteSrc k c.src
          voteAt := spPut (fun _ => none) f.voteAt k (some s2.now), voteEpoch := spPut (fun _ => 0) f.voteEpoch k (leAt c.payload 4 4)
          voteAuth := if auth && !was then f.voteAuth + 2 ^ k else if !auth && was then f.voteAuth - 2 ^ k else f.voteAuth }).judgeAuthority).settle)

/-- VOTER_REACH_TIMEOUT (R260): not heard for 3 × VOTE_P. -/
def execVoterReachTimeout (dt : Nat) (slot : Fin 16) (s : State) : Result :=
  let k := slot.val
  let s1 := s.advance dt
  .next (match spGet (fun _ => none) s1.flo.voteAt k with
    | some t =>
      if s1.passed t (3 * s1.votePeriod) then
        ((s1.withFlo { s1.flo with voteAt := spPut (fun _ => none) s1.flo.voteAt k none }).judgeAuthority).settle
      else s1
    | none => s1)

/-- The epoch that a node with authority reports (R261). -/
def State.epochOf (s : State) (node : Nat) : Option Nat :=
  ((List.range 16).find? (fun k => s.voterId k == node && s.voterHeard k && s.flo.voteAuth.testBit k)).map
    (fun k => spGet (fun _ => 0) s.flo.voteEpoch k)

/-- The setting that a ROUTE cell names: the manual gives the cell no layout, so which word of the routing tables, masks or trim it
changes, and to what, are free values (log entry 27). -/
def State.routeSetting (s : State) : (Nat × Word) × State :=
  let a := s.takeFree
  let b := a.2.takeFree
  let k := a.1.toNat % 321
  ((if k < 256 then Reg.FLO_RT k else if k < 320 then Reg.FLO_MC (k - 256) else Reg.FLO_LTRIM, b.1), b.2)

/-- The epoch that a voter reports, whatever its authority (R259). -/
def State.reportedEpoch (s : State) (node : Nat) : Option Nat :=
  ((List.range 16).find? (fun k => s.voterId k == node && s.voterHeard k)).map (fun k => spGet (fun _ => 0) s.flo.voteEpoch k)

/-- ROUTE_CELL_RX (R261, R262), on a node with authority: settings of a node that reports AUTH = 1 and carries a higher epoch. A cell from a
voter of a lower epoch asks for this node's settings, which go out in a ROUTE cell (log entry 27). -/
def execRouteCellRx (dt : Nat) (s : State) : Result :=
  let s1 := s.advance dt
  .next (if !s1.comRuns then s1 else
    match s1.takeCell 6 (fun _ => true) with
    | none => s1
    | some (c, s2) =>
      let own := (s2.word Reg.FLO_EPOCH).toNat
      if !s2.flag Fld.FLO_SYSSTAT_AUTHORITY then s2
      else if ((s2.reportedEpoch c.src).map (fun e => decide (e < own))).getD false then (s2.routeCellTo c.src).settle
      else match s2.epochOf c.src with
      | none => s2
      | some e =>
        if e ≤ own then s2
        else
          let r := s2.routeSetting
          let s3 := r.2.withFlo { r.2.flo with adopt := r.2.flo.adopt ++ [r.1], adoptEpoch := e }
          (if s3.flag Fld.FLO_SYSSTAT_ADOPT_PEND && !s3.stopped then s3 else s3.adoptNow).settle)

-- ── Packets in cells (R280, R281) ─────────────────────────────────────────────────────────────────────────────────

def State.putReasm (s : State) (l : List Reasm) : State := s.withFlo { s.flo with reasm := l }

/-- A discarded partial packet: source 245. -/
def State.dropReasm (s : State) (l : List Reasm) : State := (s.putReasm l).irq 245

/-- A segment joins its packet (R280): the packet once it is whole, and the state. A SEG gap discards the partial packet. -/
def State.takeSegment (s : State) (c : Cell) : Option (List Byte) × State :=
  let log := c.typ == 5
  let tag := leAt c.payload 2 2
  let seg := byteAt c.payload 0
  let same (r : Reasm) : Bool := r.src == c.src && r.tag == tag && r.log == log
  let rest := s.flo.reasm.filter (fun r => !same r)
  let old := s.flo.reasm.find? same
  let d := c.payload.drop 4
  let whole := (byteAt c.payload 1).testBit 0
  let go (b : List Byte) (t : State) : Option (List Byte) × State :=
    if whole then (some b, t.putReasm rest)
    else (none, t.putReasm (rest ++ [{ src := c.src, tag := tag, log := log, next := seg + 1, bytes := b, since := s.now }]))
  match old with
  | none => if seg = 0 then go d s else (none, s)
  | some r =>
    if seg = r.next then go (r.bytes ++ d) s
    else if seg = 0 then go d (s.dropReasm rest)
    else (none, s.dropReasm rest)

/-- The FORWARD job that a reply from a node answers: the inner packet's SEQ and OPCODE (R281). -/
def State.forwardJob (s : State) (node : Nat) (b : List Byte) : Option Job :=
  s.hst.jobs.find? (fun j => j.opcode == 0x605 && leAt j.data 0 2 % 4096 == node && leAt j.data 6 4 == leAt b 2 4)

/-- A reply as a packet over Floe carries it: byte 0 is 0xC7, and REPLY is 1 (R264). -/
def isReply (b : List Byte) : Bool := 8 ≤ b.length && byteAt b 0 == 0xC7 && (byteAt b 1).testBit 7

/-- CMD_CELL_RX (R267, R280, R281): a whole packet is handled on port 4, or ends the FORWARD job it answers; a reply that answers none is
dropped. -/
def execCmdCellRx (dt : Nat) (s : State) : Result :=
  let s1 := s.advance dt
  .next (if !s1.comRuns then s1 else
    match s1.takeCell 4 (fun _ => true) with
    | none => s1
    | some (c, s2) =>
      match s2.takeSegment c with
      | (none, s3) => s3.settle
      | (some b, s3) =>
        if isReply b then
          (match s3.forwardJob c.src b with
           | some j => if s3.jobMayEnd j then (s3.endJob j stOk b).settle else s1
           | none => s3.dropPacket.settle)
        else (s3.receivePacket 4 (leBytes 2 c.src) b).settle)

/-- LOG_CELL_RX (R280): stream notices and digest transfers of another device. A transfer that answers a FORWARD job ends it (R281; DEDUCED, log
entry 88); with the others the manual gives the receiver nothing to do. -/
def execLogCellRx (dt : Nat) (s : State) : Result :=
  let s1 := s.advance dt
  .next (if !s1.comRuns then s1 else
    match s1.takeCell 5 (fun _ => true) with
    | none => s1
    | some (c, s2) =>
      match s2.takeSegment c with
      | (some b, s3) =>
        (match (if isReply b then s3.forwardJob c.src b else none) with
         | some j => if s3.jobMayEnd j then (s3.endJob j stOk b).settle else s1
         | none => s3.settle)
      | (none, s3) => s3.settle)

/-- FLOE_REASM_TIMEOUT (R280): 10 ms without a segment. -/
def execFloeReasmTimeout (dt : Nat) (s : State) : Result :=
  let s1 := s.advance dt
  let live_ := s1.flo.reasm.filter (fun r => !s1.passed r.since (10 * msTicks))
  .next (if live_.length = s1.flo.reasm.length then s1 else (s1.dropReasm live_).settle)

end Sys2Proof.Machine
end

