-- ==== Sys2Proof/Machine/OpcodesSys.lean ====
section
/-! DEFINITION. Opcodes of the device-wide family and register access (R282, R283; R15, R319, R444, R447). Each row is COM handling the
packet at the head of a port's queue; the checks come in the order of R267: state, payload size, values. -/

namespace Sys2Proof.Machine

/-- An opcode without payload. -/
def bare (p : Packet) (s : State) (a : Answer) : Answer := if p.payload ≠ [] then s.no stBadLength else a

/-- PING (R282): SYS_STATE, SYS_STAT, SYS_FAULT. -/
def execPing (port : Fin 5) (s : State) : Result :=
  .next (s.handle port.val 0x100 (fun p s => bare p s
    (s.done (leBytes 3 (s.shown Reg.SYS_STATE).toNat ++ wordBytes [s.shown Reg.SYS_STAT, s.shown Reg.SYS_FAULT]))))

/-- The serial number's 16 bytes. -/
def State.serialBytes (s : State) : List Byte := (s.sec.serial ++ zeros 16).take 16

/-- INFO (R282, R446). -/
def execInfo (port : Fin 5) (s : State) : Result :=
  .next (s.handle port.val 0x101 (fun p s => bare p s
    (s.done (from4 (wordBytes [s.shown Reg.SYS_ID, s.shown Reg.SYS_REV, s.shown Reg.SEC_FWVER] ++ s.serialBytes)))))

/-- SLEEP is accepted (R319): IDLE, the selected tracker STOPPED, no enabled level wake source asserted. -/
def State.maySleep (s : State) : Bool := s.st == 4 && s.stopped && s.levelWakes == 0

/-- SLEEP (R319, R320): from here wake sources count as pending; the firmware prepares the entry. -/
def execSleep (port : Fin 5) (s : State) : Result :=
  .next (s.handle port.val 0x102 (fun p s =>
    if !s.maySleep then s.no stForbids
    else bare p s (if s.pwr.sleepReq then s.done
      else ((s.withPwr { s.pwr with sleepReq := true, wakeSeen := 0 }).frostPrepare).done)))

/-- The stop opcode's effect (R447). -/
def State.stopCommand (s : State) : Answer :=
  if s.st = 6 then (s.enterState 7).done
  else if s.st = 5 then (s.setRearm.enterState 4).done
  else if s.st = 7 then s.done
  else s.no stForbids

/-- STOP (R447). -/
def execStop (port : Fin 5) (s : State) : Result :=
  .next (s.handle port.val 0x103 (fun p s => if s.st < 5 || 7 < s.st then s.no stForbids else bare p s s.stopCommand))

/-- SAFE (R282): SYS_FAULT.CMD. -/
def execSafe (port : Fin 5) (s : State) : Result :=
  .next (s.handle port.val 0x104 (fun p s =>
    if p.payload.length ≠ 1 then s.no stBadLength
    else if byteAt p.payload 0 ≠ 0x5A then s.no stOutOfRange
    else (s.raiseFault Fld.SYS_FAULT_CMD).done))

/-- The bits given clear where R444 lets them; from SAFE the device then returns to IDLE when R15 allows. -/
def State.clearCommand (s : State) (v : Word) : State :=
  let s1 := s.clearFaults v
  if s1.st = 8 && !s1.safeFault && s1.stopped && !s1.key then s1.enterState 4 else s1

/-- CLEAR_FAULT (R15, R282, R444). -/
def execClearFault (port : Fin 5) (s : State) : Result :=
  .next (s.handle port.val 0x105 (fun p s =>
    if p.payload.length ≠ 4 then s.no stBadLength
    else if 2048 ≤ leAt p.payload 0 4 then s.no stOutOfRange
    else
      let s1 := s.clearCommand (BitVec.ofNat 32 (leAt p.payload 0 4))
      s1.done (from4 (wordBytes [s1.word Reg.SYS_FAULT]))))

/-- JOB_STATUS (R270, R282): running, ended with a status, or unknown. -/
def execJobStatus (port : Fin 5) (s : State) : Result :=
  .next (s.handle port.val 0x106 (fun p s =>
    if p.payload.length ≠ 1 then s.no stBadLength
    else
      let i := byteAt p.payload 0
      let e := spGet (fun _ => 0) s.hst.ended i
      let r : Nat × Nat := if s.hst.jobs.any (fun j => j.id == i) then (0, 0) else if e = 0 then (2, 0) else (1, e - 1)
      s.done (leBytes 1 i ++ leBytes 1 r.1 ++ leBytes 1 r.2)))

/-- BENCH_ENTER (R15): IDLE, the selected tracker STOPPED. -/
def execBenchEnter (port : Fin 5) (s : State) : Result :=
  .next (s.handle port.val 0x107 (fun p s =>
    if s.st != 4 || !s.stopped then s.no stForbids else bare p s (((s.enterState 9).irq 255).done)))

/-- BENCH_EXIT (R15, R396). -/
def execBenchExit (port : Fin 5) (s : State) : Result :=
  .next (s.handle port.val 0x108 (fun p s => if s.st != 9 then s.no stForbids else bare p s s.benchExit.done))

/-- HOST_TIMEOUT (R286). -/
def execHostTimeout (port : Fin 5) (s : State) : Result :=
  .next (s.handle port.val 0x109 (fun p s =>
    if p.payload.length ≠ 2 then s.no stBadLength
    else if leAt p.payload 0 2 < 10 then s.no stOutOfRange
    else (s.set Fld.PKT_HOSTTIMEOUT_TIMEOUT (leAt p.payload 0 2)).done))

/-- An opcode whose payload is the words of fixed registers (R282). -/
def State.setWords (s : State) (regs : List Nat) (p : Packet) : Answer :=
  let l := regs.zip (wordsOf p.payload regs.length)
  let c := s.checkRegs s l
  if p.payload.length ≠ 4 * regs.length then s.no stBadLength
  else if c ≠ 0 then s.no c else (s.putRegs l).done

/-- SYS_SET (R282). -/
def execSysSet (port : Fin 5) (s : State) : Result :=
  .next (s.handle port.val 0x10A (fun p s => s.setWords [Reg.SYS_FAULTCFG, Reg.SYS_HOSTLOSS] p))

-- ── Register access (R283, R424, R425) ────────────────────────────────────────────────────────────────────────────

/-- REG_READ (R283): an access that stops at a bus error answers the words read before it (DEDUCED, log entry 33). -/
def execRegRead (port : Fin 5) (s : State) : Result :=
  .next (s.handle port.val 0x800 (fun p s =>
    let a := leAt p.payload 0 4
    let n := leAt p.payload 4 2
    if p.payload.length ≠ 6 then s.no stBadLength
    else if n = 0 || 255 < n || !hostRange a n then s.no stOutOfRange
    else
      let r := s.hostReads n a
      if r.2.bus.err then { status := stBusError, rest := from4 (wordBytes r.1), state := r.2 } else r.2.done (from4 (wordBytes r.1))))

/-- REG_WRITE (R267, R283): a word of a firmware-owned block is forbidden before the sizes and values are checked; bytes 1–2 of the reply give the words written. -/
def execRegWrite (port : Fin 5) (s : State) : Result :=
  .next (s.handle port.val 0x801 (fun p s =>
    let a := leAt p.payload 0 4
    let n := leAt p.payload 4 2
    let l := wordsOf (p.payload.drop 8) n
    if hostRange a n && s.hostRefuses a l != 0 then { status := stForbids, rest := leBytes 2 0, state := s }
    else if p.payload.length ≠ 8 + 4 * n then s.no stBadLength
    else if n = 0 || 254 < n || leAt p.payload 6 2 != 0 || !hostRange a n then s.no stOutOfRange
    else
      let r := s.hostWrites .host a l
      { status := r.2.bus.status, rest := leBytes 2 r.1, state := r.2 }))

end Sys2Proof.Machine
end

