-- ==== Sys2Proof/Machine/OpcodesSet.lean ====
section
/-! DEFINITION. Opcodes that set the wheel inputs, trackers, cylinders, profiles and the output stage, and those that read tables and slots
(R282, R304). Sealed ones carry calibration (R302). -/

namespace Sys2Proof.Machine

/-- A row of the calibration opcodes on a port. -/
def State.handleSet (s : State) (port : Fin 5) (op : Nat) : State := s.handle port.val op (fun p s => s.calibOpcode op p.payload)

/-- WHL_SET (R39, R51, R282). -/
def execWhlSet (port : Fin 5) (s : State) : Result := .next (s.handleSet port 0x200)
/-- WD_SET (R50, R51). -/
def execWdSet (port : Fin 5) (s : State) : Result := .next (s.handleSet port 0x201)
/-- TRK_SET (R282). -/
def execTrkSet (port : Fin 5) (s : State) : Result := .next (s.handleSet port 0x202)
/-- VOTE_SET (R282). -/
def execVoteSet (port : Fin 5) (s : State) : Result := .next (s.handleSet port 0x207)
/-- CYL_SET (R99). -/
def execCylSet (port : Fin 5) (s : State) : Result := .next (s.handleSet port 0x300)
/-- PRF_SET (R193). -/
def execPrfSet (port : Fin 5) (s : State) : Result := .next (s.handleSet port 0x400)
/-- DRV_SET (R149, R162). -/
def execDrvSet (port : Fin 5) (s : State) : Result := .next (s.handleSet port 0x402)
/-- CH_SET (R282). -/
def execChSet (port : Fin 5) (s : State) : Result := .next (s.handleSet port 0x403)
/-- THERM_SET (R282). -/
def execThermSet (port : Fin 5) (s : State) : Result := .next (s.handleSet port 0x404)

/-- LOAD_BUCKET (R79). -/
def execLoadBucket (port : Fin 5) (s : State) : Result :=
  .next (s.handle port.val 0x203 (fun p s =>
    let b := byteAt p.payload 0
    let m := byteAt p.payload 1
    if p.payload.length ≠ 2 then s.no stBadLength
    else if 7 < b || 3 < m then s.no stOutOfRange
    else ([0, 1].foldl (fun s x => if m.testBit x then s.set (Fld.TRK_LOAD_BUCKET x) b else s) s).done))

/-- The header of TBL_READ and TBL_WRITE: tracker, TABLE, BUCKET, first index, count; the status of its check. -/
def tblHeader (l : List Byte) (max : Nat) : Nat :=
  let n := leAt l 6 2
  if 1 < byteAt l 0 || 1 < byteAt l 1 || 7 < byteAt l 2 || byteAt l 3 != 0 || n = 0 || max < n || 1024 < leAt l 4 2 + n then stOutOfRange
  else stOk

/-- An entry of a tracker's table: TABLE 0 the profile, 1 the speed model (R71, R77; TRK_x_TBLA). -/
def State.tblEntry (s : State) (x table bucket i : Nat) : Nat :=
  if table = 0 then spGet (fun _ => 0) (s.trk x).profile i % 65536 else (s.trk x).kOf bucket i

/-- TBL_READ (R83). -/
def execTblRead (port : Fin 5) (s : State) : Result :=
  .next (s.handle port.val 0x204 (fun p s =>
    let l := p.payload
    if l.length ≠ 8 then s.no stBadLength
    else if tblHeader l 510 ≠ 0 then s.no stOutOfRange
    else s.done (from4 ((List.range (leAt l 6 2)).flatMap (fun k =>
      leBytes 2 (s.tblEntry (byteAt l 0) (byteAt l 1) (byteAt l 2) (leAt l 4 2 + k)))))))

/-- Writes one entry of a tracker's table. -/
def State.putEntry (s : State) (x table bucket i v : Nat) : State :=
  if table = 0 then s.setTrk x { s.trk x with profile := spPut (fun _ => 0) (s.trk x).profile i v }
  else s.setTrk x { s.trk x with kTab := spPut (fun _ => 0x4000) (s.trk x).kTab (1024 * bucket + i) v }

/-- TBL_WRITE (R83): while the table learns, the write is dropped and TBL_DROP sets. -/
def execTblWrite (port : Fin 5) (s : State) : Result :=
  .next (s.handle port.val 0x205 (fun p s =>
    let l := p.payload
    let x := byteAt l 0
    let n := leAt l 6 2
    if l.length < 8 || l.length ≠ 8 + 2 * n then s.no stBadLength
    else if tblHeader l 508 ≠ 0 then s.no stOutOfRange
    else if s.flag (if byteAt l 1 = 0 then Fld.TRK_LEARN_PROF_LEARN x else Fld.TRK_LEARN_MODEL_LEARN x) then
      (s.raiseFlag (Fld.TRK_STAT_TBL_DROP x)).done
    else ((List.range n).foldl (fun s k =>
      s.putEntry x (byteAt l 1) (byteAt l 2) (leAt l 4 2 + k) (leAt l (8 + 2 * k) 2)) s).done))

/-- RESYNC (R61): each tracker named that is not STOPPED enters SEEK. -/
def execResync (port : Fin 5) (s : State) : Result :=
  .next (s.handle port.val 0x206 (fun p s =>
    let m := byteAt p.payload 0
    if p.payload.length ≠ 1 then s.no stBadLength
    else if 3 < m then s.no stOutOfRange
    else ([0, 1].foldl (fun s x => if m.testBit x then s.resyncTracker x else s) s).done))

/-- SCH_SET (R282). -/
def execSchSet (port : Fin 5) (s : State) : Result :=
  .next (s.handle port.val 0x301 (fun p s => s.setWords [Reg.SCH_CTRL, Reg.SCH_PREP] p))

/-- SLOT_READ (R282): descriptors of a cylinder's shadow or active range. -/
def execSlotRead (port : Fin 5) (s : State) : Result :=
  .next (s.handle port.val 0x302 (fun p s =>
    let l := p.payload
    let c := byteAt l 0
    let n := leAt l 4 2
    if l.length ≠ 6 then s.no stBadLength
    else if c = 0 || 24 < c || 1 < byteAt l 1 || n = 0 || 63 < n || s.slotCnt (c - 1) < leAt l 2 2 + n then s.no stOutOfRange
    else s.done (from4 ((List.range n).flatMap (fun k =>
      s.slotBytes (byteAt l 1 == 1) (s.slotBase (c - 1) + leAt l 2 2 + k))))))

/-- DRV_CTRL (R282). -/
def execDrvCtrl (port : Fin 5) (s : State) : Result :=
  .next (s.handle port.val 0x401 (fun p s => s.setWords [Reg.DRV_CTRL] p))

/-- The latched fault flags of the channels and banks of two masks, and of DRV_STAT, clear (R154, R5). -/
def State.clearDrive (s : State) (chans banks : Nat) (stat : Bool) : State :=
  let s1 := (List.range 48).foldl (fun s n => if chans.testBit n then s.clearBits (Reg.DRV_CH_STAT n) 0xF else s) s
  let s2 := (List.range 8).foldl (fun s k => if banks.testBit k then s.clearBits (Reg.DRV_BANKSTAT k) 0x0F000000 else s) s1
  if stat then s2.clearBits Reg.DRV_STAT 0x18 else s2

/-- DRV_CLEAR (R154). -/
def execDrvClear (port : Fin 5) (s : State) : Result :=
  .next (s.handle port.val 0x405 (fun p s =>
    let l := p.payload
    if l.length ≠ 8 then s.no stBadLength
    else if 1 < byteAt l 7 then s.no stOutOfRange
    else (s.clearDrive (leAt l 0 6) (byteAt l 6) (byteAt l 7 == 1)).done))

/-- AMB (R168). -/
def execAmb (port : Fin 5) (s : State) : Result :=
  .next (s.handle port.val 0x406 (fun p s =>
    if p.payload.length ≠ 1 then s.no stBadLength
    else (s.writeAmb (withField Fld.DRV_AMB_AMB (s.word Reg.DRV_AMB) (byteAt p.payload 0))).done))

end Sys2Proof.Machine
end

