-- ==== Sys2Proof/Machine/FastPath.lean ====
section
/-! DEFINITION. The fast path (R124–R128, R246). -/

namespace Sys2Proof.Machine

/-- What refuses every fast-path write of sets: demand mode, and the drag's role (R124, R246). -/
def State.setsForbidden (s : State) : Bool := s.flag Fld.SCH_CTRL_DEMAND || s.isDrag

/-- The descriptor at an offset of a payload. -/
def descAt (l : List Byte) (off : Nat) : Desc := ⟨leAt l off 4, leAt l (off + 4) 4, leAt l (off + 8) 4, leAt l (off + 12) 4⟩

/-- The slots of a SET_WRITE: the transaction opens, with REPLACE the other slots of the range lose EN, the descriptors are written, and
the cope mirrors what has changed (R125, R243). -/
def State.writeSlots (s : State) (c first : Nat) (replace : Bool) (ds : List Desc) : State :=
  let s1 := if s.txnOpen c then s else s.openTxns (2 ^ c)
  let s2 := if !replace then s1 else (s1.slotsOf c).foldl (fun s n =>
    if s.slotBase c + first ≤ n && n < s.slotBase c + first + ds.length then s
    else s.setWord (Reg.SCH_SHADOW n 0) (s.word (Reg.SCH_SHADOW n 0) &&& 0x7FFFFFFF)) s1
  let s3 := ds.zipIdx.foldl (fun s e => s.putDesc (s.slotBase c + first + e.2) e.1) s2
  if replace then s3.mirrorSlots c 0 (s3.slotCnt c) else s3.mirrorSlots c first ds.length

/-- SET_WRITE (R125). -/
def execSetWrite (s : State) : Result :=
  .next (s.handleFast 0x3F0 (fun p s =>
    let l := p.payload
    let n := (l.length - 4) / 16
    let c := byteAt l 0
    let ds := (List.range n).map (fun k => descAt l (4 + 16 * k))
    if s.setsForbidden then s.no stForbids
    else if l.length % 16 != 4 || n = 0 || 63 < n then s.no stBadLength
    else if ds.any s.testOutside then s.no stForbids
    else if c = 0 || 24 < c || 3 < byteAt l 1 || ds.any (fun d => !s.descOk d || (d.en && d.reserved)) then s.no stOutOfRange
    else if s.slotCnt (c - 1) < leAt l 2 2 + n then s.no stCapacity
    else
      let s1 := s.writeSlots (c - 1) (leAt l 2 2) ((byteAt l 1).testBit 1) ds
      if !(byteAt l 1).testBit 0 then s1.done
      else
        let s2 := s1.closeTxn (c - 1)
        if s2.txnOpen (c - 1) then s2.no stOutOfRange else s2.done))

/-- SET_CLOSE (R126): the mask of the cylinders left open. -/
def execSetClose (s : State) : Result :=
  .next (s.handleFast 0x3F1 (fun p s =>
    let m := leAt p.payload 0 3
    if s.setsForbidden then s.no stForbids
    else if p.payload.length ≠ 4 then s.no stBadLength
    else if byteAt p.payload 3 ≠ 0 then s.no stOutOfRange
    else
      let s1 := s.closeTxns m
      let left := m &&& s1.get Fld.SCH_TXN_OPEN
      if left = 0 then s1.done else { status := stOutOfRange, rest := leBytes 3 left, state := s1 }))

/-- SET_ABORT (R126). -/
def execSetAbort (s : State) : Result :=
  .next (s.handleFast 0x3F2 (fun p s =>
    if s.setsForbidden then s.no stForbids
    else if p.payload.length ≠ 4 then s.no stBadLength
    else if byteAt p.payload 3 ≠ 0 then s.no stOutOfRange
    else (s.abortTxns (leAt p.payload 0 3)).done))

/-- Armed slots of a cylinder named by a mask end cancelled (R127). -/
def State.cancelMask (s : State) (c first mask : Nat) : State :=
  (List.range 32).foldl (fun s k =>
    let n := s.slotBase c + first + k
    if mask.testBit k && first + k < s.slotCnt c && s.armed n then s.cancelSlot c n else s) s

/-- SHOT_CANCEL (R127). -/
def execShotCancel (s : State) : Result :=
  .next (s.handleFast 0x3F3 (fun p s =>
    let l := p.payload
    if s.setsForbidden then s.no stForbids
    else if l.length ≠ 8 then s.no stBadLength
    else if byteAt l 0 = 0 || 24 < byteAt l 0 || byteAt l 1 != 0 then s.no stOutOfRange
    else (s.cancelMask (byteAt l 0 - 1) (leAt l 2 2) (leAt l 4 4)).done))

/-- The demand words take a payload; UPD counts (R128). -/
def State.takeDemand (s : State) (l : List Byte) : State :=
  let upd := (s.get Fld.SCH_DEM3_UPD + 1) % 256
  let s1 := ((s.setWord Reg.SCH_DEM0 (BitVec.ofNat 32 (leAt l 0 4))).setWord Reg.SCH_DEM1 (BitVec.ofNat 32 (leAt l 4 4))).setWord
    Reg.SCH_DEM2 (BitVec.ofNat 32 (leAt l 8 4))
  (((s1.set Fld.SCH_DEM3_CYL_OFF (leAt l 12 3)).set Fld.SCH_DEM3_UPD upd).irq 73).mirrorDem

/-- A DEMAND payload asks for the measured rail pressure and no rail-pressure record is stored (R133). -/
def State.railUnknown (s : State) (l : List Byte) : Bool := leAt l 10 2 == 0xFFFF && !s.cal.press.any (fun e => e.1 == 1)

/-- DEMAND (R128, R133). -/
def execDemand (s : State) : Result :=
  .next (s.handleFast 0x3F4 (fun p s =>
    let l := p.payload
    if s.isDrag then s.no stForbids
    else if l.length ≠ 16 then s.no stBadLength
    else if 1 < byteAt l 0 || 1 < byteAt l 1 || byteAt l 15 != 0 || s.railUnknown l then s.no stOutOfRange
    else (s.takeDemand l).done))

end Sys2Proof.Machine
end

