-- ==== Sys2Proof/Machine/OpcodesWit.lean ====
section
/-! DEFINITION. Opcodes of the witness and the moraine log (R208–R216, R282). -/

namespace Sys2Proof.Machine

/-- STREAM (R209, R282): the requesting port takes the stream. -/
def execStream (port : Fin 5) (s : State) : Result :=
  .next (s.handle port.val 0x500 (fun p s =>
    let l := p.payload
    if l.length ≠ 4 then s.no stBadLength
    else if 1 < byteAt l 0 || byteAt l 1 != 0 then s.no stOutOfRange
    else
      let s1 := s.regEffect Reg.WIT_STREAM (BitVec.ofNat 32 (byteAt l 0 + 65536 * leAt l 2 2))
      (s1.withHst { s1.hst with streamPort := port.val, streamTo := p.source }).done))

/-- The records of the ring with sequence numbers from `first`, at most `n`, in sequence; those no longer held are left out. -/
def State.recordsFrom (s : State) (first n : Nat) : List (Nat × List Byte) :=
  (List.range n).filterMap (fun k => s.wit.ring.find? (fun e => e.1 == (first + k) % 4294967296))

/-- The body of a stream notice and of a REC_READ reply from byte 1: count, first sequence, records (R282). -/
def recordsBody (first : Nat) (l : List (Nat × List Byte)) : List Byte :=
  leBytes 1 l.length ++ zeros 2 ++ leBytes 4 ((l.map Prod.fst).headD first) ++ l.flatMap Prod.snd

/-- REC_READ (R209). -/
def execRecRead (port : Fin 5) (s : State) : Result :=
  .next (s.handle port.val 0x501 (fun p s =>
    let l := p.payload
    let n := byteAt l 4
    if l.length ≠ 5 then s.no stBadLength
    else if n = 0 || 21 < n then s.no stOutOfRange
    else s.done (recordsBody (leAt l 0 4) (s.recordsFrom (leAt l 0 4) n))))

/-- WAVE_ARM (R211). -/
def execWaveArm (port : Fin 5) (s : State) : Result :=
  .next (s.handle port.val 0x503 (fun p s =>
    if p.payload.length ≠ 1 then s.no stBadLength
    else if 48 ≤ byteAt p.payload 0 then s.no stOutOfRange
    else (s.regEffect Reg.WIT_WAVE (BitVec.ofNat 32 (0x40000000 + byteAt p.payload 0))).done))

/-- A captured pair as WAVE_READ gives it. -/
def pairBytes (x : Sample) : List Byte := leBytes 4 (ofSigned 12 x.i + 65536 * ofSigned 12 x.v)

/-- WAVE_READ (R211, R282): the pairs that exist from the first one named. -/
def execWaveRead (port : Fin 5) (s : State) : Result :=
  .next (s.handle port.val 0x504 (fun p s =>
    let l := p.payload
    let n := leAt l 2 2
    if l.length ≠ 4 then s.no stBadLength
    else if n = 0 || 255 < n then s.no stOutOfRange
    else s.done (from4 (((s.wit.wave.drop (leAt l 0 2)).take n).flatMap pairBytes))))

/-- Whether the store still holds digest `i` (R214). -/
def State.holdsDigest (s : State) (i : Nat) : Bool := 1 ≤ i && i ≤ s.wit.index && s.wit.index < i + 163584

/-- DIGEST_READ (R214, R282): the digests held. -/
def execDigestRead (port : Fin 5) (s : State) : Result :=
  .next (s.handle port.val 0x505 (fun p s =>
    let l := p.payload
    let n := byteAt l 8
    if l.length ≠ 9 then s.no stBadLength
    else if n = 0 || 15 < n then s.no stOutOfRange
    else s.done (from4 (((List.range n).map (leAt l 0 8 + ·)).flatMap (fun i =>
      if s.holdsDigest i then s.bytes (digestAddr i) 64 else [])))))

/-- CHAIN_HEAD (R216). -/
def execChainHead (port : Fin 5) (s : State) : Result :=
  .next (s.handle port.val 0x506 (fun p s => bare p s
    (s.done (from4 (leBytes 8 s.wit.index ++ leBytes 4 s.sec.epoch ++ s.chainHead)))))

/-- WIT_SET (R282, R304). -/
def execWitSet (port : Fin 5) (s : State) : Result := .next (s.handleSet port 0x508)
/-- DET_SET (R282, R304). -/
def execDetSet (port : Fin 5) (s : State) : Result := .next (s.handleSet port 0x509)

end Sys2Proof.Machine
end

