-- ==== Sys2Proof/Machine/OpcodesSec.lean ====
section
/-! DEFINITION. Opcodes of the SEC block: seal, certificates, images, calibration packages, keys, decommission, attestation
(R295–R308). Those that run as jobs end in Jobs.lean. -/

namespace Sys2Proof.Machine

/-- SEAL_STATUS (R301). -/
def execSealStatus (port : Fin 5) (s : State) : Result :=
  .next (s.handle port.val 0x700 (fun p s => bare p s
    (let b (f : FReg) (n : Nat) : Nat := if s.flag f then n else 0
     s.done (leBytes 1 (b Fld.SEC_STAT_SEAL_OPEN 1 + b Fld.SEC_STAT_SEAL_A 2 + b Fld.SEC_STAT_SEAL_B 4 + b Fld.SEC_STAT_SEAL_INVALID 8) ++
       zeros 2 ++ leBytes 4 (s.word Reg.SEC_STAT).toNat))))

/-- The objects of CERT_READ (R299). -/
def State.certObject (s : State) (n : Nat) : Option (List Byte) :=
  if n ≤ 3 then some (spGet (fun _ => []) s.sec.certs n)
  else if n = 4 || n = 5 then some (s.keyRec (n - 4))
  else if n = 16 then some s.sec.report
  else none

/-- CERT_READ (R299). -/
def execCertRead (port : Fin 5) (s : State) : Result :=
  .next (s.handle port.val 0x701 (fun p s =>
    let l := p.payload
    let n := leAt l 8 2
    if l.length ≠ 10 then s.no stBadLength
    else if leAt l 1 3 != 0 || n = 0 || 1000 < n then s.no stOutOfRange
    else match s.certObject (byteAt l 0) with
      | none => s.no stOutOfRange
      | some o => s.done (from4 (leBytes 4 o.length ++ (o.drop (leAt l 4 4)).take n))))

/-- The slot that is not active, and its code in SEC_BOOT (R292). -/
def State.otherSlot (s : State) : Nat := 1 - s.sec.active
def slotCode (k : Nat) : FReg := if k = 0 then Fld.SEC_BOOT_FAIL_A else Fld.SEC_BOOT_FAIL_B

/-- Image bytes go into the inactive slot, which is then not checked (R292, R295). -/
def State.putImage (s : State) (off : Nat) (d : List Byte) : State :=
  (s.setBytes (slotAddr s.otherSlot + off) d).set (slotCode s.otherSlot) 6

/-- IMAGE_LOAD (R295). -/
def execImageLoad (port : Fin 5) (s : State) : Result :=
  .next (s.handle port.val 0x702 (fun p s =>
    s.fragment port.val p 2097152 (fun off d s => s.putImage off d) (fun _ s => s.openJob port.val p [] false)))

/-- IMAGE_ACTIVATE is accepted in IDLE and SAFE, and on the drag (R296). -/
def State.mayActivate (s : State) : Bool := s.st == 4 || s.st == 8 || (s.paired && s.isDrag)

/-- IMAGE_ACTIVATE (R296). -/
def execImageActivate (port : Fin 5) (s : State) : Result :=
  .next (s.handle port.val 0x703 (fun p s =>
    if !s.mayActivate then s.no stForbids
    else if p.payload.length ≠ 4 then s.no stBadLength
    else if s.slotFwVer s.otherSlot ≠ leAt p.payload 0 4 || s.get (slotCode s.otherSlot) ≠ 0 then s.no stOutOfRange
    else s.openJob port.val p [] true))

/-- Package bytes go into the half that is not current (R302). -/
def State.putPackage (s : State) (off : Nat) (d : List Byte) : State := s.setBytes (calAddr (1 - s.sec.calHalf) + off) d

/-- CAL_LOAD (R303). -/
def execCalLoad (port : Fin 5) (s : State) : Result :=
  .next (s.handle port.val 0x704 (fun p s =>
    if s.st != 4 && s.st != 8 && s.st != 9 then s.no stForbids
    else s.fragment port.val p (64 + calLimit + 8240) (fun off d s => s.putPackage off d) (fun l s => s.openJob port.val p l false)))

/-- A key record's layout (R306). AUTH = 0xFF stands without a signature block. -/
def keyRecordCheck (l : List Byte) : Nat :=
  let a := byteAt l 2
  if l.length ≠ 420 + (if a = 0xFF then 0 else 8240) then stBadLength
  else if 1 < byteAt l 0 || 1 < byteAt l 1 || (1 < a && a != 0xFF) || byteAt l 3 != 0 then stOutOfRange
  else stOk

/-- KEY_ENROL (R285, R306). -/
def execKeyEnrol (port : Fin 5) (s : State) : Result :=
  .next (s.handle port.val 0x705 (fun p s =>
    if 4 ≤ p.payload.length && s.presenceWaits then s.no stBusy
    else s.fragment port.val p 8660 (fun _ _ s => s) (fun l s =>
      if keyRecordCheck l ≠ 0 then s.no (keyRecordCheck l) else s.openJob port.val p l true)))

/-- DECOMMISSION (R307). -/
def execDecommission (port : Fin 5) (s : State) : Result :=
  .next (s.handle port.val 0x706 (fun p s =>
    if s.st != 4 && s.st != 8 then s.no stForbids else bare p s (s.openJob port.val p [] true)))

/-- The 192 bytes of a report body over a nonce (R308). -/
def State.reportBody (s : State) (nonce : List Byte) : List Byte :=
  leBytes 4 0x3141564E ++ leBytes 2 1 ++ leBytes 1 s.st ++ leBytes 1 (s.role + (if s.sealOpen then 4 else 0)) ++
  s.serialBytes ++ nonce ++
  wordBytes ((List.range 12).map (fun k => s.word (Reg.SEC_MEAS k))) ++ wordBytes ((List.range 8).map (fun k => s.word (Reg.SEC_CFG k))) ++
  leBytes 8 s.wit.index ++ leBytes 4 s.sec.epoch ++ s.chainHead ++ leBytes 4 (s.word Reg.SEC_FWVER).toNat ++
  leBytes 1 (s.get Fld.SEC_ROLLBACK_COUNT) ++ leBytes 1 ((if s.enrolled 0 then 1 else 0) + (if s.enrolled 1 then 2 else 0)) ++ zeros 2 ++
  leBytes 4 (s.word Reg.SEC_CALVER).toNat

/-- ATTEST (R308): the head is taken by a read of WIT_MORL; one job at a time. -/
def execAttest (port : Fin 5) (s : State) : Result :=
  .next (s.handle port.val 0x507 (fun p s =>
    if p.payload.length ≠ 32 then s.no stBadLength
    else if s.hst.jobs.any (fun j => j.opcode == 0x507) then s.no stBusy
    else
      let a := s.openJob port.val p (s.reportBody p.payload) false
      if a.status = stBusy then a else { a with state := a.state.readMorl.2 }))

end Sys2Proof.Machine
end

