-- ==== Sys2Proof/Machine/OpcodesFlo.lean ====
section
/-! DEFINITION. Opcodes of the Floe block (R248, R261, R262, R280–R282), and the cells that carry a packet. -/

namespace Sys2Proof.Machine

/-- FLO_SET (R282, R304). -/
def execFloSet (port : Fin 5) (s : State) : Result := .next (s.handleSet port 0x600)
/-- VLIST_SET (R259, R282). -/
def execVlistSet (port : Fin 5) (s : State) : Result := .next (s.handleSet port 0x606)

/-- HANDOVER (R248): reason 6, on the cope only. -/
def execHandover (port : Fin 5) (s : State) : Result :=
  .next (s.handle port.val 0x601 (fun p s =>
    if !s.isCope then s.no stForbids
    else if p.payload.length ≠ 1 then s.no stBadLength
    else if byteAt p.payload 0 ≠ 0xA5 then s.no stOutOfRange
    else (s.requestHandover 6).done))

/-- A change of system-level settings raises FLO_EPOCH by 1 (R261). -/
def State.nextEpoch (s : State) : State := s.addWrap Fld.FLO_EPOCH_EPOCH 1

def State.minority (s : State) : Bool := s.flag Fld.FLO_SYSSTAT_MINORITY

/-- A change of system-level settings is refused on a node that is MINORITY, and where a CMD cell brings it from a node that does not report
AUTH = 1 with a higher epoch (R261). -/
def State.settingsForbid (s : State) (port : Nat) (p : Packet) : Bool :=
  s.minority || (port == 4 && !((s.epochOf (leAt p.source 0 2)).map (fun e => decide (s.get Fld.FLO_EPOCH_EPOCH < e))).getD false)

/-- ROUTE_SET and MC_SET: `size` words, `most` at a time; reg k is word k of the table. -/
def State.setTable (s : State) (port size most : Nat) (reg : Nat → Nat) (p : Packet) : Answer :=
  let l := p.payload
  let first := leAt l 0 2
  let n := leAt l 2 2
  if s.settingsForbid port p then s.no stForbids
  else if l.length < 4 || l.length ≠ 4 + 4 * n then s.no stBadLength
  else if n = 0 || most < n || size < first + n then s.no stOutOfRange
  else (((wordsOf (l.drop 4) n).zipIdx.foldl (fun s e => s.setWord (reg (first + e.2)) e.1) s).nextEpoch).done

/-- ROUTE_SET (R224, R261). -/
def execRouteSet (port : Fin 5) (s : State) : Result :=
  .next (s.handle port.val 0x602 (fun p s => s.setTable port.val 256 255 Reg.FLO_RT p))

/-- MC_SET (R225, R261). -/
def execMcSet (port : Fin 5) (s : State) : Result :=
  .next (s.handle port.val 0x603 (fun p s => s.setTable port.val 64 64 Reg.FLO_MC p))

/-- The load-share trim of this node's own domain waits for the next forward wrap, or is applied at once while the selected tracker is
STOPPED (R262). -/
def State.setTrim (s : State) (v : Word) : State :=
  let e := (s.get Fld.FLO_EPOCH_EPOCH + 1) % 4294967296
  let s1 := s.withFlo { s.flo with adopt := s.flo.adopt ++ [(Reg.FLO_LTRIM, v)], adoptEpoch := e }
  let s2 := s1.nextEpoch
  if s2.stopped then s2.adoptNow else s2.setFlag Fld.FLO_SYSSTAT_ADOPT_PEND true

/-- LTRIM (R261, R262). -/
def execLtrim (port : Fin 5) (s : State) : Result :=
  .next (s.handle port.val 0x604 (fun p s =>
    let l := p.payload
    if s.settingsForbid port.val p then s.no stForbids
    else if l.length ≠ 4 then s.no stBadLength
    else if 512 ≤ leAt l 0 2 then s.no stOutOfRange
    else if leAt l 0 2 = s.get Fld.FLO_NODE_DOMAIN then (s.setTrim (BitVec.ofNat 32 (leAt l 2 2))).done
    else s.nextEpoch.done))

-- ── Packets in cells (R280, R281) ─────────────────────────────────────────────────────────────────────────────────

/-- A packet leaves in CMD (type 4) or LOG (type 5) cells of up to 48 bytes, under the next tag (R280). -/
def State.sendPacketCells (s : State) (typ dst : Nat) (b : List Byte) : State :=
  let n := (b.length + 47) / 48
  let tag := s.hst.tag
  let s1 := s.withHst { s.hst with tag := (tag + 1) % 65536 }
  (List.range n).foldl (fun s k =>
    s.emitCell typ dst false false (leBytes 1 k ++ [if k + 1 = n then 1 else 0] ++ leBytes 2 tag ++ (b.drop (48 * k)).take 48)) s1

/-- Whether a packet changes system-level settings: ROUTE_SET, MC_SET, LTRIM (R261). -/
def setsSystem (b : List Byte) : Bool := inRange 0x602 0x604 (leAt b 4 2)

/-- FORWARD (R281); only a node with authority sends the CMD cells that change system-level settings (R261). -/
def execForward (port : Fin 5) (s : State) : Result :=
  .next (s.handle port.val 0x605 (fun p s =>
    let l := p.payload
    if setsSystem (l.drop 4) && !s.flag Fld.FLO_SYSSTAT_AUTHORITY then s.no stForbids
    else if l.length < 16 then s.no stBadLength
    else if 4096 ≤ leAt l 0 2 || leAt l 2 2 != 0 then s.no stOutOfRange
    else
      let a := s.openJob port.val p l false
      if a.status = stBusy then a else { a with state := a.state.sendPacketCells 4 (leAt l 0 2) (l.drop 4) }))

end Sys2Proof.Machine
end

