-- ==== Sys2Proof/Machine/TestRows.lean ====
section
/-! DEFINITION. Rows of the test block: loop-backs (R397–R400), the simulator's opcode (R53), the output self-test (R401–R403), SELFTEST
(R404). -/

namespace Sys2Proof.Machine

-- ── LOOPBACK (R397–R399) ──────────────────────────────────────────────────────────────────────────────────────────

/-- Whether the interface offers the depth, and has the instance (R397). -/
def loopOffered (iface inst depth : Nat) : Bool :=
  if iface = 0 then inst = 0 && (depth = 0 || depth = 2)
  else if iface = 1 then inst < 2 && depth < 3
  else if iface = 2 then inst = 0 && depth < 3
  else if iface = 3 then inst < 4 && depth < 3
  else iface = 4 && (depth = 0 && inst < 12 || depth = 1 && inst < 4)

/-- R398: depths 0 and 1 only in BENCH and not on the interface of the request; depth 2 not on one that calving suspends. -/
def State.loopForbidden (s : State) (port : Nat) (source l : List Byte) : Bool :=
  let iface := byteAt l 0
  let inst := byteAt l 1
  if byteAt l 2 < 2 then s.st != 9 || (iface < 4 && s.carries port source iface inst)
  else s.st < 4 || (2 ≤ s.get Fld.PWR_STAT_STAGE && (iface == 2 || (iface == 1 && inst == 1)))

/-- The values of a LOOPBACK payload (R399). -/
def loopValues (l : List Byte) : Bool :=
  loopOffered (byteAt l 0) (byteAt l 1) (byteAt l 2) && byteAt l 3 == 0 && inRange 1 1000 (leAt l 4 2) &&
  (byteAt l 0 == 4 || inRange 1 48 (leAt l 6 2)) && leAt l 8 4 != 0 && leAt l 18 2 == 0

/-- The run begins: its registers, its first unit, and the interface it takes. -/
def State.beginLoop (s : State) (l : List Byte) : State :=
  let s1 := (((s.set Fld.TST_STAT_RUN 1).set Fld.TST_STAT_DEPTH (byteAt l 2)).set Fld.TST_STAT_IF (byteAt l 0))
  let s2 := (s1.setWord Reg.TST_LBCNT 0).setWord Reg.TST_LBERR 0
  let s3 := s2.withTst { s2.tst with inst := byteAt l 1, count := leAt l 4 2, len := leAt l 6 2, prbs := leAt l 8 4 % 2 ^ 31 }
  (s3.sendUnit).takeInterface

/-- LOOPBACK (R397–R399). On SPI at depth 2 the reply echoes the pattern, whose bit order the manual does not give:
free values (log entry 29). -/
def execLoopback (port : Fin 5) (s : State) : Result :=
  .next (s.handle port.val 0x900 (fun p s =>
    let l := p.payload
    if l.length ≠ 20 then s.no stBadLength
    else if s.loopForbidden port.val p.source l then s.no stForbids
    else if !loopValues l then s.no stOutOfRange
    else if byteAt l 0 = 0 && byteAt l 2 = 2 then
      (let b := s.freeBytes (leAt l 6 2); b.2.done (from4 b.1))
    else if s.tstRun ≠ 0 then s.no stBusy
    else
      let a := s.openJob port.val p l false
      if a.status = stBusy then a else { a with state := a.state.beginLoop l }))

/-- The next unit leaves, while fewer than COUNT have been sent. -/
def State.nextUnit (s : State) : State :=
  let s1 := s.withTst { s.tst with waiting := false }
  if s.get Fld.TST_LBCNT_SENT < s.tst.count then s1.sendUnit else s1

/-- One unit, or conversion, has come back right or wrong. -/
def State.countUnit (s : State) (good : Bool) : State :=
  if good then s.set Fld.TST_LBCNT_GOOD (s.get Fld.TST_LBCNT_GOOD + 1) else s.set Fld.TST_LBERR_BAD (s.get Fld.TST_LBERR_BAD + 1)

/-- The longest round trip, in 10 ns, saturating. -/
def State.countTrip (s : State) : State :=
  s.set Fld.TST_LBERR_RTT (Nat.max (s.get Fld.TST_LBERR_RTT) (Nat.min 65535 ((s.now - s.tst.unitAt) / 4)))

/-- The code that the reference check expects of conversion `k`, and its limits (R400). -/
def refGood (k code : Nat) : Bool :=
  let e := if k = 0 then 0 else if k = 1 then 0x800 else 0xFFF
  e ≤ code + 8 && code ≤ e + 8

/-- The source resistance of a pin: the code's rise by 20 µA, in Ω at VREF = 3.0 V, saturating; OPEN above 100 kΩ (R400). -/
def State.showSource (s : State) (pin before after : Nat) : State :=
  let r := divRound ((after - before) * 150000) 4096
  (s.set (Fld.TST_ADC_RSRC pin) (Nat.min 131071 r)).setFlag (Fld.TST_ADC_OPEN pin) (decide (100000 < r))

/-- A conversion of a unit with IF = ADC (R400): at depth 0 it is judged; at depth 1 every second one gives a resistance. -/
def State.convert (s : State) (code : Nat) : State :=
  let k := s.tst.sub
  let s1 :=
    if s.get Fld.TST_STAT_DEPTH = 0 then s.countUnit (refGood k code)
    else (if k % 2 = 1 then s.showSource (4 * s.tst.inst + k / 2) s.tst.prev code else s).countUnit true
  let s2 := s1.withTst { s1.tst with sub := k + 1, prev := code }
  if k + 1 < s.convPerUnit then s2 else s2.countTrip.nextUnit

/-- A unit of the loop-back is on its way. -/
def State.unitOut (s : State) : Bool := s.tstRun == 1 && s.tst.waiting

/-- LOOPBACK_UNIT_RETURN (R399, R400): within 10 ms. With IF = ADC `reading` is the code of one conversion. -/
def execLoopbackUnitReturn (dt : Nat) (good : Bool) (reading : Nat) (s : State) : Result :=
  let s1 := s.advance dt
  .next (if s1.unitOut && !s1.passed s1.tst.unitAt (10 * msTicks) then
    (if s1.get Fld.TST_STAT_IF = 4 then s1.convert reading else ((s1.countUnit good).countTrip).nextUnit).settle
    else s1)

/-- LOOPBACK_UNIT_TIMEOUT (R399). -/
def execLoopbackUnitTimeout (dt : Nat) (s : State) : Result :=
  let s1 := s.advance dt
  .next (if s1.unitOut && s1.passed s1.tst.unitAt (10 * msTicks) then ((s1.countUnit false).nextUnit).settle else s1)

/-- LOOPBACK_DONE (R399). -/
def execLoopbackDone (dt : Nat) (s : State) : Result :=
  let s1 := s.advance dt
  .next (if s1.tstRun == 1 && !s1.tst.waiting && (s1.hst.jobs.find? (fun j => j.opcode == 0x900)).all s1.jobMayEnd then
    (s1.endLoop false).settle else s1)

-- ── SIM (R53) ─────────────────────────────────────────────────────────────────────────────────────────────────────

/-- The seven words of SIM. -/
def simWords : List Nat :=
  [Reg.WHL_SIM_CTRL, Reg.WHL_SIM_ANG, Reg.WHL_SIM_RATE, Reg.WHL_SIM_TGT, Reg.WHL_SIM_ACC, Reg.WHL_SIM_AMP, Reg.WHL_SIM_FLT]

/-- SIM (R53, R54): only in BENCH. The angle is taken by RUN as it stood before the packet. -/
def execSim (port : Fin 5) (s : State) : Result :=
  .next (s.handle port.val 0x901 (fun p s =>
    let a := s.setWords simWords p
    if s.st ≠ 9 then s.no stForbids
    else if a.status ≠ 0 then a
    else (s.regEffect Reg.WHL_SIM_ANG (BitVec.ofNat 32 (leAt p.payload 4 4))).setWords simWords p))

-- ── SELFTEST (R404) ───────────────────────────────────────────────────────────────────────────────────────────────

/-- SELFTEST (R404): a job, only in BENCH. -/
def execSelftest (port : Fin 5) (s : State) : Result :=
  .next (s.handle port.val 0x902 (fun p s =>
    if s.st ≠ 9 then s.no stForbids
    else if p.payload ≠ [] then s.no stBadLength
    else if s.tstRun ≠ 0 then s.no stBusy
    else
      let a := s.openJob port.val p [] false
      if a.status = stBusy then a else { a with state := (a.state.set Fld.TST_STAT_RUN 3).takeInterface }))

/-- SELFTEST_DONE (R404): an item that was not run reads 0. -/
def execSelftestDone (dt : Nat) (failed : BitVec 20) (s : State) : Result :=
  let s1 := s.advance dt
  .next (match s1.runningJob 0x902 with
    | some j =>
      if s1.tstRun == 3 && s1.jobMayEnd j then
        (let m := s1.skipMask j
         (s1.endSelf (failed &&& ~~~ (BitVec.ofNat 20 m)).toNat m).settle)
      else s1
    | none => s1)

-- ── Output self-test (R401–R403) ──────────────────────────────────────────────────────────────────────────────────

/-- The partner may be driving the coil (R401). -/
def State.partnerDrives (s : State) : Bool :=
  s.paired && (s.get Fld.FLO_PAIRSTAT_P_STATE == 5 || s.get Fld.FLO_PAIRSTAT_P_STATE == 6 || s.flag Fld.FLO_PAIRSTAT_HB_LOST)

/-- The values of an OUTPUT_TEST payload (R401). -/
def State.otOk (s : State) (l : List Byte) : Bool :=
  byteAt l 0 < 48 && byteAt l 1 == 0 && inRange 1 102 (leAt l 2 2) && inRange 1 1000 (leAt l 4 2) && inRange 10 500 (leAt l 6 2) &&
  !s.oddOfPair (byteAt l 0)

/-- How the test regulates: about ITEST with BAND 4, minimum times of 1 µs, SLOW decay, and FAST decay at the end (R402). -/
def testProfile (itest : Nat) : Profile :=
  { reg := withField (Fld.PRF_REG_BAND 0) (withField (Fld.PRF_REG_MIN_ON 0) (withField (Fld.PRF_REG_MIN_OFF 0) 0 100) 100) 4
    hold := withField (Fld.PRF_HOLD_SP 0) 0 itest }

/-- Step 1 and the ramp (R402): both switches stay on, the current is not regulated. -/
def State.beginOutputTest (s : State) (port : Nat) (p : Packet) : State :=
  let l := p.payload
  let n := byteAt l 0
  let s1 := (s.abortOffTest (bankOf n)).set Fld.TST_STAT_RUN 2
  let s2 := s1.withTst { s1.tst with otCh := n + 1, otArgs := l, otPort := port, otPkt := some p, otAt := s1.now, otHold := none
                                     otTrip := false }
  let s3 := s2.setChan n { s2.chan n with
    shot := none, prof := testProfile (leAt l 2 2), startAt := s2.now, gridAt := s2.now, endAt := none, openDone := true, outcome := 0 }
  let s4 := ((s3.enterPhase n 2).setLow n true false).maskForeign (bankOf n)
  s4.setChan n { s4.chan n with held := true }

/-- OUTPUT_TEST (R401): its reply comes when the test ends. -/
def execOutputTest (port : Fin 5) (s : State) : Result :=
  .next (s.handle port.val 0x407 (fun p s =>
    if s.st ≠ 9 || s.partnerDrives then s.no stForbids
    else if p.payload.length ≠ 16 then s.no stBadLength
    else if !s.otOk p.payload then s.no stOutOfRange
    else if s.tstRun ≠ 0 || s.phase (byteAt p.payload 0) ≠ 0 then s.no stBusy
    else { status := stOk, state := s.beginOutputTest port.val p, later := true }))

/-- The hold begins (R402): ∫v dt in 62.5 mV ticks, ∫i dt in 15.625 mA ticks and the current in 15.625 mA at the end of the ramp. -/
def State.beginHold (s : State) (v i c : Nat) : State :=
  let n := s.tst.otCh - 1
  let s1 := s.withTst { s.tst with otHold := some s.now, otV := v, otI := i, otEnd := c
                                   otRamp := Nat.min 131071 ((s.now - s.tst.otAt) / 4) }
  (s1.setChan n { s1.chan n with held := false }).enterPhase n 4

/-- OUTPUT_TEST_RAMP_END (R402). -/
def execOutputTestRampEnd (dt : Nat) (reached : Bool) (vdt idt current : Nat) (s : State) : Result :=
  let s1 := s.advance dt
  let late := s1.passed s1.tst.otAt (usTicks * s1.otArg 4)
  .next (if s1.tstRun != 2 || s1.tst.otHold.isSome then s1
    else if s1.st ≠ 9 then s1.otAbort.settle
    else if s1.tst.otTrip then (s1.otEnd_ 6 none none).settle
    else if reached && s1.now ≤ s1.tst.otAt + usTicks * s1.otArg 4 then (s1.beginHold vdt idt current).settle
    else if late then (s1.otEnd_ 5 none (some (100 * s1.otArg 4))).settle
    else s1)

/-- R in mΩ from the means over the hold, in mV and mA, rounded to nearest; L in µH over the ramp (R403); `none` where a divisor is 0 or a value does
not fit its field. -/
def State.otCompute (s : State) (mv ma : Nat) : Option (Nat × Nat) :=
  if ma = 0 || s.tst.otEnd = 0 then none
  else
    let r := divRound (1000 * mv) ma
    let l := divRoundInt (4 * s.tst.otV * ma - mv * s.tst.otI : Int) (400 * s.tst.otEnd * ma)
    if 65535 < r || l < 0 || 65535 < l then none else some (r, l.toNat)

/-- OUTPUT_TEST_HOLD_END (R403): values that do not fit are free, and the result follows from them. -/
def execOutputTestHoldEnd (dt : Nat) (meanV meanI : Nat) (s : State) : Result :=
  let s1 := s.advance dt
  .next (match s1.tst.otHold with
    | none => s1
    | some h =>
      let ramp := some s1.tst.otRamp
      if s1.tstRun != 2 then s1
      else if s1.st ≠ 9 then s1.otAbort.settle
      else if s1.tst.otTrip then (s1.otEnd_ 6 none ramp).settle
      else if !s1.passed h (usTicks * s1.otArg 6) then s1
      else
        let v := s1.otValues (s1.otCompute meanV meanI) ramp
        (v.2.2.2.otEnd_ (s1.otVerdict v.1 v.2.1) (some (v.1, v.2.1)) ramp).settle)

end Sys2Proof.Machine
end

