-- ==== Sys2Proof/Machine/Transport.lean ====
section
/-! DEFINITION. Rows of the transports: SPI (R272–R275), CAN FD (R276–R278), 10BASE-T1S (R279, R289), stream notices (R209), and what
leaves a port (R271). -/

namespace Sys2Proof.Machine

-- ── SPI (R272–R275) ───────────────────────────────────────────────────────────────────────────────────────────────

/-- The status byte that the device shifts out beside the command byte (R272). -/
def State.spiStatus (s : State) : Byte :=
  let b (c : Bool) (n : Nat) : Nat := if c then n else 0
  BitVec.ofNat 8 (128 + b s.hst.regErr 8 + b (decide (8 ≤ (s.hst.port 0).inq.length)) 4 + b s.readyLine 2 +
    b (decide ((s.hst.port 0).outq ≠ [])) 1)

/-- A transfer begins: the mode is found, the status byte goes out, then `out` (R272). -/
def State.spiBegin (s : State) (mode3 : Bool) (out : List Byte) : State :=
  (s.setFlag Fld.HST_SPI_STAT_MODE mode3).withHst { s.hst with spiOut := s.spiStatus :: out }

/-- SPI_PACKET_WRITE (R273): `bytes` are the packet's, from command byte 0xC7 on, of which `clocked` went over before CS rose; a packet cut
short is dropped. -/
def execSpiPacketWrite (dt : Nat) (bytes : List Byte) (clocked : Nat) (mode3 : Bool) (s : State) : Result :=
  let s1 := s.advance dt
  let b := bytes.take clocked
  .next (if s1.portServed 0 && byteAt b 0 == 0xC7 then
    let s2 := s1.spiBegin mode3 []
    (if b.length < 8 || b.length < 12 + leAt b 6 2 then s2.dropPacket else s2.receivePacket 0 [] b).settle
    else s1)

/-- The packet at the head of a port's outbound queue has left (R271, R273). -/
def State.popOut (s : State) (port : Nat) : State :=
  ((s.setPort port { s.hst.port port with outq := (s.hst.port port).outq.drop 1 }).refreshLevels).flushLate port

/-- SPI_PACKET_READ (R273): `clocks` bytes are clocked after the command byte 0x3C. -/
def execSpiPacketRead (dt clocks : Nat) (mode3 : Bool) (s : State) : Result :=
  let s1 := s.advance dt
  .next (if s1.portServed 0 then
    let p := (((s1.hst.port 0).outq.head?).map Prod.snd).getD []
    let s2 := s1.spiBegin mode3 ((p ++ zeros (clocks - p.length)).take clocks)
    (if p ≠ [] && p.length ≤ clocks then s2.popOut 0 else s2).settle
    else s1)

/-- The device shifts out more bytes of the transfer. -/
def State.spiAnswer (s : State) (out : List Byte) : State := s.withHst { s.hst with spiOut := s.hst.spiOut ++ out }

/-- Whether the SPI target answers: from THAW on, the port enabled and in service (R272, R426). The bridge of register mode runs before COM
opens the gate of the SPI port. -/
def State.spiLive (s : State) : Bool :=
  !s.pwr.inReset && 2 ≤ s.st && s.flag Fld.HST_SPI_CFG_EN && (s.st < 4 || s.flag Fld.CLK_GATE0_HST_SPI) && !s.loopedAt 0 0
/-- Whether a register-mode command is acted on: a whole one of code `cmd`, with REGMODE set (R274). -/
def State.regMode (s : State) (cmd n : Nat) (b : List Byte) : Bool :=
  s.flag Fld.HST_SPI_CFG_REGMODE && byteAt b 0 == cmd && n ≤ b.length

/-- The status of a register-mode request before its access: the request's CRC, the end of THAW, the address (R274, R424, R426). -/
def State.regRequest (s : State) (b : List Byte) (n : Nat) : Nat :=
  if s.st < 3 then stBusy
  else if (crc32c (b.take n)).toNat ≠ leAt b n 4 then stBadCrc
  else if !hostRange (leAt b 1 4) 1 then stOutOfRange
  else stOk

/-- The answer of a register-mode read: status, data, CRC over both. -/
def regAnswer (status : Nat) (data : Word) : List Byte :=
  let b := leBytes 1 status ++ leBytes 4 data.toNat
  b ++ leBytes 4 (crc32c b).toNat

/-- SPI_REG_READ (R272, R274): `bytes` are the 9 request bytes, from command byte 0xA1 on. The transfer begins whatever REGMODE; a request cut
short makes no access. -/
def execSpiRegRead (dt : Nat) (bytes : List Byte) (mode3 : Bool) (s : State) : Result :=
  let s1 := s.advance dt
  .next (if !s1.spiLive then s1
    else
      let s2 := s1.spiBegin mode3 []
      let c := s2.regRequest bytes 5
      (if !s2.regMode 0xA1 9 bytes then s2
       else if c ≠ 0 then s2.spiAnswer (regAnswer c 0)
       else
         let s3 := s2.busRead .host 4 (leAt bytes 1 4)
         s3.spiAnswer (regAnswer s3.bus.status s3.bus.data)).settle)

/-- The status of a register-mode write is recorded. -/
def State.regStatus (s : State) (st : Nat) : State :=
  (s.set Fld.HST_SPI_STAT_REG_STATUS st).withHst { s.hst with regErr := st != 0 }

/-- SPI_REG_WRITE (R272, R274): `bytes` are the 13 request bytes, from command byte 0xA2 on. The transfer begins whatever REGMODE; a request cut
short writes nothing. -/
def execSpiRegWrite (dt : Nat) (bytes : List Byte) (mode3 : Bool) (s : State) : Result :=
  let s1 := s.advance dt
  .next (if !s1.spiLive then s1
    else
      let s2 := s1.spiBegin mode3 []
      let c := s2.regRequest bytes 9
      (if !s2.regMode 0xA2 13 bytes then s2
       else if c ≠ 0 then s2.regStatus c
       else
         let s3 := s2.busWrite .host 4 (leAt bytes 1 4) (BitVec.ofNat 32 (leAt bytes 5 4))
         s3.regStatus s3.bus.status).settle)

/-- SPI_UNKNOWN_COMMAND (R272): counted, source 241. -/
def execSpiUnknownCommand (dt : Nat) (command : Byte) (mode3 : Bool) (s : State) : Result :=
  let s1 := s.advance dt
  .next (if s1.portServed 0 && !([0xC7, 0x3C, 0xA1, 0xA2].contains command) then
    (((s1.spiBegin mode3 []).addWrap Fld.HST_SPI_STAT_FRAME 1).irq 241).settle
    else s1)

-- ── CAN FD (R276–R278) ────────────────────────────────────────────────────────────────────────────────────────────

def State.canPart (s : State) (x : Nat) : Option CanPart := spGet (fun _ => none) s.hst.canPart x
def State.setCanPart (s : State) (x : Nat) (p : Option CanPart) : State :=
  s.withHst { s.hst with canPart := spPut (fun _ => none) s.hst.canPart x p }

/-- A partial packet is discarded (R277): REASM_DROP, source 245. -/
def State.dropCan (s : State) (x : Nat) : State :=
  ((s.setCanPart x none).addWrap (Fld.HST_CAN_STAT_REASM_DROP x) 1).irq 245

/-- Whether a controller takes a frame: its own BASE and NODE, DIR = 0, bit 12 = 0, 29 bits (R276); not bus-off. -/
def State.canAccepts (s : State) (x : Nat) (extended : Bool) (ident : Nat) : Bool :=
  s.portServed (x + 1) && s.get (Fld.HST_CAN_STAT_STATE x) < 2 && extended && ident / 65536 == s.get (Fld.HST_CAN_ID_BASE x) &&
  !ident.testBit 15 && !ident.testBit 12 && ident % 4096 == s.get (Fld.HST_CAN_ID_NODE x)

/-- The packet of a run of frames ends where its LEN says; the rest is padding. -/
def packetPart (b : List Byte) : List Byte := if b.length < 8 then b else b.take (12 + leAt b 6 2)

/-- A first or only frame (R277): reassembly restarts from it. -/
def State.canStart (s : State) (x : Nat) (only : Bool) (data : List Byte) : State :=
  let s1 := if (s.canPart x).isSome then s.dropCan x else s
  if data = [] || byteAt data 0 ≠ 0 then s1.dropCan x
  else if only then s1.receivePacket (x + 1) [] (data.drop 1)
  else s1.setCanPart x (some { bytes := data.drop 1, next := 1, since := s1.now })

/-- A middle or last frame (R277). -/
def State.canNext (s : State) (x : Nat) (last : Bool) (data : List Byte) : State :=
  match s.canPart x with
  | none => s
  | some p =>
    let b := p.bytes ++ data.drop 1
    if s.passed p.since (100 * msTicks) || data = [] || byteAt data 0 ≠ p.next then s.dropCan x
    else if 1036 < (if last then packetPart b else b).length then s.dropCan x
    else if last then (s.setCanPart x none).receivePacket (x + 1) [] (packetPart b)
    else s.setCanPart x (some { bytes := b, next := (p.next + 1) % 256, since := s.now })

/-- CAN_FRAME_RX (R276, R277). -/
def execCanFrameRx (dt : Nat) (ctl : Fin 2) (extended : Bool) (ident : BitVec 29) (data : List Byte) (s : State) : Result :=
  let s1 := s.advance dt
  let kind := ident.toNat / 8192 % 4
  .next (if s1.canAccepts ctl.val extended ident.toNat && data.length ≤ 64 then
    (if kind < 2 then s1.canStart ctl.val (kind == 0) data else s1.canNext ctl.val (kind == 3) data).settle
    else s1)

/-- CAN_REASM_TIMEOUT (R277). -/
def execCanReasmTimeout (dt : Nat) (ctl : Fin 2) (s : State) : Result :=
  let s1 := s.advance dt
  .next (match s1.canPart ctl.val with
    | some p => if s1.passed p.since (100 * msTicks) then (s1.dropCan ctl.val).settle else s1
    | none => s1)

/-- CAN_ERROR_STATE (R278): 0 error active, 1 error passive, 2 bus-off; a change raises source 242 + x. A controller that calving has
suspended stays so. -/
def execCanErrorState (dt : Nat) (ctl : Fin 2) (state : Fin 3) (tec rec : Byte) (s : State) : Result :=
  let x := ctl.val
  let s1 := s.advance dt
  .next (if s1.portServed (x + 1) then
    let s2 := ((s1.set (Fld.HST_CAN_STAT_STATE x) state.val).set (Fld.HST_CAN_STAT_TEC x) tec.toNat).set (Fld.HST_CAN_STAT_REC x) rec.toNat
    (if s1.get (Fld.HST_CAN_STAT_STATE x) = state.val then s2 else s2.irq (242 + x)).settle
    else s1)

-- ── 10BASE-T1S (R279, R289) ───────────────────────────────────────────────────────────────────────────────────────

/-- The device's MAC address in the order of transmission. -/
def State.macBytes (s : State) : List Byte := leBytes 4 (s.word Reg.HST_T1S_MACL).toNat ++ leBytes 2 (s.get Fld.HST_T1S_MACH_MAC_HI)

/-- T1S_FRAME_RX (R279). -/
def execT1sFrameRx (dt : Nat) (dest source : List Byte) (etherType : Nat) (fcsOk : Bool) (payload : List Byte) (s : State) : Result :=
  let s1 := s.advance dt
  .next (if !s1.portServed 3 then s1
    else if !fcsOk then s1.addWrap Fld.HST_T1S_STAT_FCS_ERR 1
    else if dest = s1.macBytes && etherType == 0x88B5 then (s1.receivePacket 3 source payload).settle
    else s1)

/-- PLCA_STATUS (R289): beacons start or cease; source 244. -/
def execPlcaStatus (dt : Nat) (active : Bool) (s : State) : Result :=
  let s1 := s.advance dt
  .next (if s1.portServed 3 && (s1.flag Fld.HST_T1S_CFG_PLCA_EN || !active) && s1.flag Fld.HST_T1S_STAT_PLCA_ACTIVE != active then
    ((s1.setFlag Fld.HST_T1S_STAT_PLCA_ACTIVE active).irq 244).settle else s1)

-- ── What leaves the device (R209, R271, R280) ─────────────────────────────────────────────────────────────────────

/-- FRAGMENT_TIMEOUT (R269): 1 s without a fragment. -/
def execFragmentTimeout (dt : Nat) (port : Fin 5) (s : State) : Result :=
  let p := port.val
  let s1 := s.advance dt
  .next (match (s1.hst.port p).transfer with
    | some t => if s1.passed t.since (1000 * msTicks) then s1.setPort p { s1.hst.port p with transfer := none } else s1
    | none => s1)

/-- The records of a notice: a run of consecutive sequence numbers at the head of the waiting ones, at most `n`. -/
def runOf : Nat → List Nat → List Nat
  | 0, _ => []
  | _, [] => []
  | n + 1, q :: l => q :: (match l with
    | r :: _ => if r = (q + 1) % 4294967296 then runOf n l else []
    | [] => [])

/-- Whether stream notices may go (R209, R210, R271): the port has room beside replies, which COM makes. -/
def State.mayStream (s : State) : Bool :=
  let p := s.hst.streamPort
  s.comRuns && s.sys.verified && s.flag Fld.WIT_STREAM_EN && !s.flag Fld.WIT_STAT_STREAM_HELD && s.get Fld.PWR_STAT_STAGE == 0 &&
  s.portServed p && decide ((s.hst.port p).outq.length < 16)

/-- The records that await streaming and closed since calving last let the stream go on (R210). -/
def State.streamable (s : State) : List Nat := s.wit.unsent.filter (fun q => !s.wit.passedOver.contains q)

/-- STREAM_NOTICE (R209, R265, R282): SEQ from the port's notice counter. -/
def execStreamNotice (dt : Nat) (s : State) : Result :=
  let s1 := s.advance dt
  .next (if s1.mayStream && s1.streamable ≠ [] then
    let p := s1.hst.streamPort
    let q := runOf 21 s1.streamable
    let recs := q.filterMap (fun i => s1.wit.ring.find? (fun e => e.1 == i))
    let x := s1.hst.port p
    let b := packetBytes 0x80 x.notice 0x502 (leBytes 1 stOk ++ recordsBody (q.headD 0) recs)
    let s2 := (s1.setUnsent (s1.wit.unsent.filter (fun i => !q.contains i))).setPort p { x with notice := (x.notice + 1) % 65536 }
    (s2.post p s2.hst.streamTo b).settle
    else s1)

/-- The shortest data field that a frame may have for `n` bytes (R277). -/
def canField (n : Nat) : Nat := if n ≤ 8 then n else ([12, 16, 20, 24, 32, 48].find? (fun k => n ≤ k)).getD 64

/-- The frames that carry a packet on controller `x` (R276–R278): FD frames of up to 63 packet bytes, or classic ones of 7; byte 0 counts;
zeros pad the data field. -/
def State.canFrames (s : State) (x : Nat) (b : List Byte) : List CanFrame :=
  let fd := s.flag (Fld.HST_CAN_CFG_FD x)
  let size := if fd then 63 else 7
  let m := (b.length + size - 1) / size
  (List.range m).map (fun k =>
    let d := BitVec.ofNat 8 k :: (b.drop (size * k)).take size
    let kind := if m = 1 then 0 else if k = 0 then 1 else if k + 1 = m then 3 else 2
    { ident := s.get (Fld.HST_CAN_ID_BASE x) * 65536 + 32768 + kind * 8192 + s.get (Fld.HST_CAN_ID_NODE x), fd := fd
      brs := fd && s.flag (Fld.HST_CAN_CFG_BRS x), data := d ++ zeros (canField d.length - d.length) })

/-- A packet that carries records as LOG cells do: a stream notice, or digests that a DIGEST_READ transfers (R280; DEDUCED, log entry 88). -/
def isNotice (b : List Byte) : Bool := leAt b 4 2 == 0x502
def inLogCells (b : List Byte) : Bool := isNotice b || (leAt b 4 2 == 0x505 && byteAt b 8 == 0)

/-- The packet that leaves a port next: the oldest; from calving stage C1 on notices are held on the Floe port (R332). -/
def State.nextToLeave (s : State) (p : Nat) : Option (List Byte × List Byte) :=
  (s.hst.port p).outq.find? (fun e => !(p == 4 && 1 ≤ s.get Fld.PWR_STAT_STAGE && isNotice e.2))

/-- PACKET_TRANSMIT_DONE (R271, R276–R280): the next packet of a CAN, 10BASE-T1S or Floe port's outbound queue has left: on CAN in its frames,
over Floe in CMD cells or LOG cells. -/
def execPacketTransmitDone (dt : Nat) (port : Fin 5) (s : State) : Result :=
  let p := port.val
  let s1 := s.advance dt
  .next (match s1.nextToLeave p with
    | some (dest, b) =>
      if p = 0 || !s1.portServed p || (p < 3 && 2 ≤ s1.get (Fld.HST_CAN_STAT_STATE (p - 1))) then s1
      else
        let s2 := ((s1.setPort p { s1.hst.port p with outq := (s1.hst.port p).outq.erase (dest, b) }).refreshLevels).flushLate p
        (if p = 4 then s2.sendPacketCells (if inLogCells b then 5 else 4) (leAt dest 0 2) b
         else if p < 3 then s2.withHst { s2.hst with canOut := spPut (fun _ => []) s2.hst.canOut (p - 1) (s2.canFrames (p - 1) b) }
         else s2).settle
    | none => s1)

end Sys2Proof.Machine
end

