-- ==== Sys2Proof/Machine/Jobs.lean ====
section
/-! DEFINITION. How jobs end (R270, R285): presence, FORWARD (R281), attestation (R308), images (R295, R296), calibration packages (R303), keys
(R306), decommission (R307). -/

namespace Sys2Proof.Machine

/-- The oldest job of an opcode that may end now: COM runs and the final reply has room. -/
def State.endingJob (s : State) (op : Nat) : Option Job :=
  if !s.comRuns then none
  else match s.runningJob op with
    | some j => if s.jobMayEnd j then some j else none
    | none => none

/-- PRESENCE_TIMEOUT (R285): more than 30 s; a reopening at 30 s exactly would have counted. -/
def execPresenceTimeout (dt : Nat) (s : State) : Result :=
  let s1 := s.advance dt
  .next (match s1.hst.jobs.find? (fun j => j.presence != 0) with
    | some j =>
      if s1.comRuns && s1.jobMayEnd j && j.startAt + 30000 * msTicks < s1.now then
        (((s1.endJob j stSealTimeout []).showPresence).irq 247).settle
      else s1
    | none => s1)

/-- FORWARD_TIMEOUT (R281): 100 ms without a remote reply. -/
def execForwardTimeout (dt : Nat) (job : Fin 256) (s : State) : Result :=
  let s1 := s.advance dt
  .next (match s1.hst.jobs.find? (fun j => j.id == job.val && j.opcode == 0x605) with
    | some j =>
      if s1.comRuns && s1.jobMayEnd j && s1.passed j.startAt (100 * msTicks) then (s1.endJob j stBusy []).settle else s1
    | none => s1)

/-- ATTEST_DONE (R308): the report, its body and its signature block, is object 16. -/
def execAttestDone (dt : Nat) (s : State) : Result :=
  let s1 := s.advance dt
  .next (match s1.endingJob 0x507 with
    | some j =>
      let f := s1.freeBytes 64
      let sig := identitySign (f.1.take 48) (f.1.drop 48) j.data
      let s2 := ((f.2.withSec { f.2.sec with report := j.data ++ sig }).addWrap Fld.SEC_ATTCNT_COUNT 1).irq 14
      (s2.endJob j stOk j.data).settle
    | none => s1)

/-- IMAGE_LOAD_DONE (R292, R295). -/
def execImageLoadDone (dt : Nat) (s : State) : Result :=
  let s1 := s.advance dt
  .next (match s1.endingJob 0x702 with
    | some j =>
      let v := s1.verifySlot s1.otherSlot
      (if v.1 then v.2.endJob j stOk [] else v.2.endJob j stVerify (leBytes 1 (s1.imageCode s1.otherSlot))).settle
    | none => s1)

/-- ACTIVATE_DONE (R296): the slot is verified again, the boot record written; the reset follows 10 ms after the reply. -/
def execActivateDone (dt : Nat) (s : State) : Result :=
  let s1 := s.advance dt
  .next (match s1.endingJob 0x703 with
    | some j =>
      let v := s1.verifySlot s1.otherSlot
      (if !v.1 then v.2.endJob j stVerify []
       else
         let s2 := (v.2.withSec { v.2.sec with active := s1.otherSlot, trial := true, attempt := false }).showBoot
         let s3 := s2.endJob j stOk []
         s3.withHst { s3.hst with resetAt := some (s3.now + 10 * msTicks) }).settle
    | none => s1)

/-- UPDATE_RESET (R296, R314). -/
def execUpdateReset (dt : Nat) (s : State) : Result :=
  let s1 := s.advance dt
  .next (match s1.hst.resetAt with
    | some t => if t ≤ s1.now then s1.doReset Fld.PWR_RSTC_UPDATE else s1
    | none => s1)

/-- CAL_LOAD_DONE (R303). -/
def execCalLoadDone (dt : Nat) (s : State) : Result :=
  let s1 := s.advance dt
  .next (match s1.endingJob 0x704 with
    | some j =>
      let r := s1.calJob j.data
      ((if r.1 = 0 then r.2.configChanged s1 else r.2).endJob j r.1 []).settle
    | none => s1)

/-- The key slots as SEC_STAT shows them. -/
def State.showKeys (s : State) : State :=
  (s.setFlag Fld.SEC_STAT_KEY0 (s.enrolled 0)).setFlag Fld.SEC_STAT_KEY1 (s.enrolled 1)

/-- Whether a key record is authorised (R306): with a key enrolled, by a signature block of an enrolled key. -/
def State.keyAuthorised (s : State) (l : List Byte) : Bool := !s.anyKey || s.verifyByKey (byteAt l 2) (l.take 420) (l.drop 420)

/-- KEY_ENROL_DONE (R306): enrolled or replaced, or removed; source 13. -/
def execKeyEnrolDone (dt : Nat) (s : State) : Result :=
  let s1 := s.advance dt
  .next (match s1.endingJob 0x705 with
    | some j =>
      if !s1.keyAuthorised j.data then (s1.endJob j stVerify []).settle
      else
        let k := if byteAt j.data 1 = 1 then [] else j.data.take 420
        let s2 := (s1.withSec { s1.sec with keys := spPut (fun _ => []) s1.sec.keys (byteAt j.data 0) k }).showKeys
        ((s2.irq 13).endJob j stOk []).settle
    | none => s1)

/-- DECOMMISSION_DONE (R213, R307): keys and calibration are erased, the configuration is at its reset values, the epoch rises and the
chain starts again; source 15. -/
def execDecommissionDone (dt : Nat) (s : State) : Result :=
  let s1 := s.advance dt
  .next (match s1.endingJob 0x706 with
    | some j =>
      let e := (s1.sec.epoch + 1) % 4294967296
      let s2 := ((s1.withSec { s1.sec with keys := [], epoch := e }).showKeys).eraseCal
      let s3 := ((s2.calReset true).configChanged s1).showCal
      let s4 := ((s3.withSys { s3.sys with calibBad := false }).withWit { s3.wit with index := 0, head := [] }).setWord Reg.WIT_EPOCH (BitVec.ofNat 32 e)
      ((s4.irq 15).endJob j stOk []).settle
    | none => s1)

end Sys2Proof.Machine
end

