-- ==== Sys2Proof/Machine/Dispatch.lean ====
section
/-! DEFINITION. One arm for each command: a direct call of its meaning. -/

namespace Sys2Proof.Machine

/-- The effect of a command on everything but the queue. -/
def exec (i : Instr) (s : State) : Host.Outcome State Fault Refusal :=
  match i with
  | .ping port => Sys2Proof.Machine.execPing port s
  | .info port => Sys2Proof.Machine.execInfo port s
  | .sleep port => Sys2Proof.Machine.execSleep port s
  | .stop port => Sys2Proof.Machine.execStop port s
  | .safe port => Sys2Proof.Machine.execSafe port s
  | .clearFault port => Sys2Proof.Machine.execClearFault port s
  | .jobStatus port => Sys2Proof.Machine.execJobStatus port s
  | .benchEnter port => Sys2Proof.Machine.execBenchEnter port s
  | .benchExit port => Sys2Proof.Machine.execBenchExit port s
  | .hostTimeout port => Sys2Proof.Machine.execHostTimeout port s
  | .sysSet port => Sys2Proof.Machine.execSysSet port s
  | .whlSet port => Sys2Proof.Machine.execWhlSet port s
  | .wdSet port => Sys2Proof.Machine.execWdSet port s
  | .trkSet port => Sys2Proof.Machine.execTrkSet port s
  | .loadBucket port => Sys2Proof.Machine.execLoadBucket port s
  | .tblRead port => Sys2Proof.Machine.execTblRead port s
  | .tblWrite port => Sys2Proof.Machine.execTblWrite port s
  | .resync port => Sys2Proof.Machine.execResync port s
  | .voteSet port => Sys2Proof.Machine.execVoteSet port s
  | .cylSet port => Sys2Proof.Machine.execCylSet port s
  | .schSet port => Sys2Proof.Machine.execSchSet port s
  | .slotRead port => Sys2Proof.Machine.execSlotRead port s
  | .setWrite => Sys2Proof.Machine.execSetWrite s
  | .setClose => Sys2Proof.Machine.execSetClose s
  | .setAbort => Sys2Proof.Machine.execSetAbort s
  | .shotCancel => Sys2Proof.Machine.execShotCancel s
  | .demand => Sys2Proof.Machine.execDemand s
  | .prfSet port => Sys2Proof.Machine.execPrfSet port s
  | .drvCtrl port => Sys2Proof.Machine.execDrvCtrl port s
  | .drvSet port => Sys2Proof.Machine.execDrvSet port s
  | .chSet port => Sys2Proof.Machine.execChSet port s
  | .thermSet port => Sys2Proof.Machine.execThermSet port s
  | .drvClear port => Sys2Proof.Machine.execDrvClear port s
  | .amb port => Sys2Proof.Machine.execAmb port s
  | .outputTest port => Sys2Proof.Machine.execOutputTest port s
  | .stream port => Sys2Proof.Machine.execStream port s
  | .recRead port => Sys2Proof.Machine.execRecRead port s
  | .waveArm port => Sys2Proof.Machine.execWaveArm port s
  | .waveRead port => Sys2Proof.Machine.execWaveRead port s
  | .digestRead port => Sys2Proof.Machine.execDigestRead port s
  | .chainHead port => Sys2Proof.Machine.execChainHead port s
  | .attest port => Sys2Proof.Machine.execAttest port s
  | .witSet port => Sys2Proof.Machine.execWitSet port s
  | .detSet port => Sys2Proof.Machine.execDetSet port s
  | .floSet port => Sys2Proof.Machine.execFloSet port s
  | .handover port => Sys2Proof.Machine.execHandover port s
  | .routeSet port => Sys2Proof.Machine.execRouteSet port s
  | .mcSet port => Sys2Proof.Machine.execMcSet port s
  | .ltrim port => Sys2Proof.Machine.execLtrim port s
  | .forward port => Sys2Proof.Machine.execForward port s
  | .vlistSet port => Sys2Proof.Machine.execVlistSet port s
  | .sealStatus port => Sys2Proof.Machine.execSealStatus port s
  | .certRead port => Sys2Proof.Machine.execCertRead port s
  | .imageLoad port => Sys2Proof.Machine.execImageLoad port s
  | .imageActivate port => Sys2Proof.Machine.execImageActivate port s
  | .calLoad port => Sys2Proof.Machine.execCalLoad port s
  | .keyEnrol port => Sys2Proof.Machine.execKeyEnrol port s
  | .decommission port => Sys2Proof.Machine.execDecommission port s
  | .regRead port => Sys2Proof.Machine.execRegRead port s
  | .regWrite port => Sys2Proof.Machine.execRegWrite port s
  | .loopback port => Sys2Proof.Machine.execLoopback port s
  | .sim port => Sys2Proof.Machine.execSim port s
  | .selftest port => Sys2Proof.Machine.execSelftest port s
  | .spiPacketWrite dt bytes clocked mode3 => Sys2Proof.Machine.execSpiPacketWrite dt bytes clocked mode3 s
  | .spiPacketRead dt clocks mode3 => Sys2Proof.Machine.execSpiPacketRead dt clocks mode3 s
  | .spiRegRead dt bytes mode3 => Sys2Proof.Machine.execSpiRegRead dt bytes mode3 s
  | .spiRegWrite dt bytes mode3 => Sys2Proof.Machine.execSpiRegWrite dt bytes mode3 s
  | .spiUnknownCommand dt command mode3 => Sys2Proof.Machine.execSpiUnknownCommand dt command mode3 s
  | .canFrameRx dt ctl extended ident data => Sys2Proof.Machine.execCanFrameRx dt ctl extended ident data s
  | .canReasmTimeout dt ctl => Sys2Proof.Machine.execCanReasmTimeout dt ctl s
  | .t1sFrameRx dt dest source etherType fcsOk payload => Sys2Proof.Machine.execT1sFrameRx dt dest source etherType fcsOk payload s
  | .fragmentTimeout dt port => Sys2Proof.Machine.execFragmentTimeout dt port s
  | .presenceTimeout dt => Sys2Proof.Machine.execPresenceTimeout dt s
  | .forwardTimeout dt job => Sys2Proof.Machine.execForwardTimeout dt job s
  | .streamNotice dt => Sys2Proof.Machine.execStreamNotice dt s
  | .attestDone dt => Sys2Proof.Machine.execAttestDone dt s
  | .imageLoadDone dt => Sys2Proof.Machine.execImageLoadDone dt s
  | .activateDone dt => Sys2Proof.Machine.execActivateDone dt s
  | .updateReset dt => Sys2Proof.Machine.execUpdateReset dt s
  | .calLoadDone dt => Sys2Proof.Machine.execCalLoadDone dt s
  | .keyEnrolDone dt => Sys2Proof.Machine.execKeyEnrolDone dt s
  | .decommissionDone dt => Sys2Proof.Machine.execDecommissionDone dt s
  | .loopbackUnitReturn dt good reading => Sys2Proof.Machine.execLoopbackUnitReturn dt good reading s
  | .loopbackUnitTimeout dt => Sys2Proof.Machine.execLoopbackUnitTimeout dt s
  | .loopbackDone dt => Sys2Proof.Machine.execLoopbackDone dt s
  | .selftestDone dt failed => Sys2Proof.Machine.execSelftestDone dt failed s
  | .outputTestRampEnd dt reached vdt idt current => Sys2Proof.Machine.execOutputTestRampEnd dt reached vdt idt current s
  | .outputTestHoldEnd dt meanV meanI => Sys2Proof.Machine.execOutputTestHoldEnd dt meanV meanI s
  | .registerWrite host address value => Sys2Proof.Machine.execRegisterWrite host address value s
  | .sysFaultClear mask => Sys2Proof.Machine.execSysFaultClear mask s
  | .txnOpen cyl => Sys2Proof.Machine.execTxnOpen cyl s
  | .txnClose cyl => Sys2Proof.Machine.execTxnClose cyl s
  | .txnAbort cyl => Sys2Proof.Machine.execTxnAbort cyl s
  | .refresh => Sys2Proof.Machine.execRefresh s
  | .shadowSlotWrite slot word value => Sys2Proof.Machine.execShadowSlotWrite slot word value s
  | .tblDataAccess trk write value => Sys2Proof.Machine.execTblDataAccess trk write value s
  | .bucketUntrain trk buckets => Sys2Proof.Machine.execBucketUntrain trk buckets s
  | .trkCtrlResync trk => Sys2Proof.Machine.execTrkCtrlResync trk s
  | .prfApply profile => Sys2Proof.Machine.execPrfApply profile s
  | .quench => Sys2Proof.Machine.execQuench s
  | .standbyChange channel standby => Sys2Proof.Machine.execStandbyChange channel standby s
  | .witCorrWrite channel value => Sys2Proof.Machine.execWitCorrWrite channel value s
  | .witWaveArm channel => Sys2Proof.Machine.execWitWaveArm channel s
  | .simCtrlWrite value => Sys2Proof.Machine.execSimCtrlWrite value s
  | .simDrop count => Sys2Proof.Machine.execSimDrop count s
  | .simExtra => Sys2Proof.Machine.execSimExtra s
  | .simFlip => Sys2Proof.Machine.execSimFlip s
  | .sleepCommit dt => Sys2Proof.Machine.execSleepCommit dt s
  | .opRequest point => Sys2Proof.Machine.execOpRequest point s
  | .gateWrite register value host => Sys2Proof.Machine.execGateWrite register value host s
  | .fmcStart value => Sys2Proof.Machine.execFmcStart value s
  | .acknowledge target => Sys2Proof.Machine.execAcknowledge target s
  | .eoi target => Sys2Proof.Machine.execEoi target s
  | .hostAcknowledge line => Sys2Proof.Machine.execHostAcknowledge line s
  | .groupWrite group value => Sys2Proof.Machine.execGroupWrite group value s
  | .dmaEnRise channel => Sys2Proof.Machine.execDmaEnRise channel s
  | .dmaEnClear channel => Sys2Proof.Machine.execDmaEnClear channel s
  | .shadowValid channel => Sys2Proof.Machine.execShadowValid channel s
  | .shadowWrite channel word value => Sys2Proof.Machine.execShadowWrite channel word value s
  | .timGstart value => Sys2Proof.Machine.execTimGstart value s
  | .timGstop value => Sys2Proof.Machine.execTimGstop value s
  | .timEnWrite channel value => Sys2Proof.Machine.execTimEnWrite channel value s
  | .timPerWrite channel value => Sys2Proof.Machine.execTimPerWrite channel value s
  | .timCmpWrite channel value => Sys2Proof.Machine.execTimCmpWrite channel value s
  | .timCntRead channel => Sys2Proof.Machine.execTimCntRead channel s
  | .timCapRead channel => Sys2Proof.Machine.execTimCapRead channel s
  | .contextEn engine context value => Sys2Proof.Machine.execContextEn engine context value s
  | .contextRestart engine context => Sys2Proof.Machine.execContextRestart engine context s
  | .fifoFlush engine context => Sys2Proof.Machine.execFifoFlush engine context s
  | .patTrig engine mask => Sys2Proof.Machine.execPatTrig engine mask s
  | .patTxWrite engine context value => Sys2Proof.Machine.execPatTxWrite engine context value s
  | .patRxRead engine context => Sys2Proof.Machine.execPatRxRead engine context s
  | .imemWrite engine index value => Sys2Proof.Machine.execImemWrite engine index value s
  | .adcFifoRead conv => Sys2Proof.Machine.execAdcFifoRead conv s
  | .whlTsRead input => Sys2Proof.Machine.execWhlTsRead input s
  | .trkAngleRead trk => Sys2Proof.Machine.execTrkAngleRead trk s
  | .witMorlRead => Sys2Proof.Machine.execWitMorlRead s
  | .floDtRead => Sys2Proof.Machine.execFloDtRead s
  | .calvPeakRead => Sys2Proof.Machine.execCalvPeakRead s
  | .keyChange dt level => Sys2Proof.Machine.execKeyChange dt level s
  | .stopreqChange dt level => Sys2Proof.Machine.execStopreqChange dt level s
  | .discreteInputChange dt wake level => Sys2Proof.Machine.execDiscreteInputChange dt wake level s
  | .rearmWaitClear dt => Sys2Proof.Machine.execRearmWaitClear dt s
  | .gpioEdge dt pin level => Sys2Proof.Machine.execGpioEdge dt pin level s
  | .sealChange dt sealA sealB => Sys2Proof.Machine.execSealChange dt sealA sealB s
  | .sealInvalid dt => Sys2Proof.Machine.execSealInvalid dt s
  | .hostLost dt => Sys2Proof.Machine.execHostLost dt s
  | .hostRamp dt => Sys2Proof.Machine.execHostRamp dt s
  | .supLockstepFail dt => Sys2Proof.Machine.execSupLockstepFail dt s
  | .supRestartDone dt => Sys2Proof.Machine.execSupRestartDone dt s
  | .comLockstepFail dt => Sys2Proof.Machine.execComLockstepFail dt s
  | .comRestartDone dt => Sys2Proof.Machine.execComRestartDone dt s
  | .inputEdge dt input subtick level held peak => Sys2Proof.Machine.execInputEdge dt input subtick level held peak s
  | .pulseWidthTimeout dt input => Sys2Proof.Machine.execPulseWidthTimeout dt input s
  | .vrPeakReset dt input => Sys2Proof.Machine.execVrPeakReset dt input s
  | .vrShortDetect dt input commonMode lasted => Sys2Proof.Machine.execVrShortDetect dt input commonMode lasted s
  | .vrOpenTest dt input millivolts => Sys2Proof.Machine.execVrOpenTest dt input millivolts s
  | .simEdge dt => Sys2Proof.Machine.execSimEdge dt s
  | .simRateStep dt => Sys2Proof.Machine.execSimRateStep dt s
  | .crankEdgeAccepted dt trk => Sys2Proof.Machine.execCrankEdgeAccepted dt trk s
  | .camEdge dt trk => Sys2Proof.Machine.execCamEdge dt trk s
  | .crankEdgeMissing dt trk => Sys2Proof.Machine.execCrankEdgeMissing dt trk s
  | .camMissing dt trk => Sys2Proof.Machine.execCamMissing dt trk s
  | .trackerStop dt trk => Sys2Proof.Machine.execTrackerStop dt trk s
  | .stopAngleCopy dt => Sys2Proof.Machine.execStopAngleCopy dt s
  | .tableStore dt => Sys2Proof.Machine.execTableStore dt s
  | .frostTooth dt partner width => Sys2Proof.Machine.execFrostTooth dt partner width s
  | .prepareEvent dt cyl => Sys2Proof.Machine.execPrepareEvent dt cyl s
  | .commit dt cyl => Sys2Proof.Machine.execCommit dt cyl s
  | .slotFire dt slot vboost => Sys2Proof.Machine.execSlotFire dt slot vboost s
  | .boostGrant dt bank => Sys2Proof.Machine.execBoostGrant dt bank s
  | .bankWaitTimeout dt channel => Sys2Proof.Machine.execBankWaitTimeout dt channel s
  | .shotAngleEnd dt channel => Sys2Proof.Machine.execShotAngleEnd dt channel s
  | .shotTimeEnd dt channel => Sys2Proof.Machine.execShotTimeEnd dt channel s
  | .cycleWrap dt => Sys2Proof.Machine.execCycleWrap dt s
  | .adcBurstConversion dt conv code => Sys2Proof.Machine.execAdcBurstConversion dt conv code s
  | .adcScan dt conv code => Sys2Proof.Machine.execAdcScan dt conv code s
  | .phaseTimeLimit dt channel => Sys2Proof.Machine.execPhaseTimeLimit dt channel s
  | .boostSetpointReached dt channel current => Sys2Proof.Machine.execBoostSetpointReached dt channel current s
  | .endComplete dt channel current => Sys2Proof.Machine.execEndComplete dt channel current s
  | .endOver dt channel current => Sys2Proof.Machine.execEndOver dt channel current s
  | .overcurrentTrip dt channel current => Sys2Proof.Machine.execOvercurrentTrip dt channel current s
  | .hsOvercurrentTrip dt bank boost current => Sys2Proof.Machine.execHsOvercurrentTrip dt bank boost current s
  | .currentMismatchTrip dt channel node excess => Sys2Proof.Machine.execCurrentMismatchTrip dt channel node excess s
  | .openLoadCheck dt channel current => Sys2Proof.Machine.execOpenLoadCheck dt channel current s
  | .foreignMaskEnd dt bank => Sys2Proof.Machine.execForeignMaskEnd dt bank s
  | .offStateTest dt bank => Sys2Proof.Machine.execOffStateTest dt bank s
  | .offStateStepEnd dt bank readings => Sys2Proof.Machine.execOffStateStepEnd dt bank readings s
  | .boostChargeStart dt vboost => Sys2Proof.Machine.execBoostChargeStart dt vboost s
  | .boostChargeStop dt vboost => Sys2Proof.Machine.execBoostChargeStop dt vboost s
  | .vboostLow dt vboost => Sys2Proof.Machine.execVboostLow dt vboost s
  | .boostOv dt vboost => Sys2Proof.Machine.execBoostOv dt vboost s
  | .clampSlow dt milliwatts => Sys2Proof.Machine.execClampSlow dt milliwatts s
  | .boostPhaseFail dt phase => Sys2Proof.Machine.execBoostPhaseFail dt phase s
  | .boostFail dt => Sys2Proof.Machine.execBoostFail dt s
  | .coilModelUpdate dt energies => Sys2Proof.Machine.execCoilModelUpdate dt energies s
  | .ambStale dt => Sys2Proof.Machine.execAmbStale dt s
  | .dieThermalChange dt die temperature pavg => Sys2Proof.Machine.execDieThermalChange dt die temperature pavg s
  | .recordClose dt channel samples => Sys2Proof.Machine.execRecordClose dt channel samples s
  | .closeWindowEnd dt channel samples => Sys2Proof.Machine.execCloseWindowEnd dt channel samples s
  | .obsDriveRise dt channel => Sys2Proof.Machine.execObsDriveRise dt channel s
  | .obsDriveFall dt channel => Sys2Proof.Machine.execObsDriveFall dt channel s
  | .obsWindowExpiry dt shot => Sys2Proof.Machine.execObsWindowExpiry dt shot s
  | .digestStore dt digest checkpoint => Sys2Proof.Machine.execDigestStore dt digest checkpoint s
  | .portAlign dt link => Sys2Proof.Machine.execPortAlign dt link s
  | .portTrain dt link => Sys2Proof.Machine.execPortTrain dt link s
  | .portUp dt link peer => Sys2Proof.Machine.execPortUp dt link peer s
  | .portDown dt link => Sys2Proof.Machine.execPortDown dt link s
  | .delayExchange dt link r1 r2 r3 r4 => Sys2Proof.Machine.execDelayExchange dt link r1 r2 r3 r4 s
  | .cellForward dt link => Sys2Proof.Machine.execCellForward dt link s
  | .syncSend dt => Sys2Proof.Machine.execSyncSend dt s
  | .syncCellRx dt => Sys2Proof.Machine.execSyncCellRx dt s
  | .domLockLoss dt => Sys2Proof.Machine.execDomLockLoss dt s
  | .masterClaim dt => Sys2Proof.Machine.execMasterClaim dt s
  | .edgeCellRx dt => Sys2Proof.Machine.execEdgeCellRx dt s
  | .edgeCellMissing dt => Sys2Proof.Machine.execEdgeCellMissing dt s
  | .heartSend dt => Sys2Proof.Machine.execHeartSend dt s
  | .heartRx dt => Sys2Proof.Machine.execHeartRx dt s
  | .hbLost dt => Sys2Proof.Machine.execHbLost dt s
  | .arbLineChange dt line => Sys2Proof.Machine.execArbLineChange dt line s
  | .arbWatchdogExpiry dt => Sys2Proof.Machine.execArbWatchdogExpiry dt s
  | .copeClaim dt => Sys2Proof.Machine.execCopeClaim dt s
  | .mirrorSlot dt => Sys2Proof.Machine.execMirrorSlot dt s
  | .mirrorTxn dt => Sys2Proof.Machine.execMirrorTxn dt s
  | .mirrorCommit dt => Sys2Proof.Machine.execMirrorCommit dt s
  | .mirrorShot dt => Sys2Proof.Machine.execMirrorShot dt s
  | .mirrorCorr dt => Sys2Proof.Machine.execMirrorCorr dt s
  | .mirrorTherm dt => Sys2Proof.Machine.execMirrorTherm dt s
  | .mirrorDem dt => Sys2Proof.Machine.execMirrorDem dt s
  | .thermMirrorSend dt => Sys2Proof.Machine.execThermMirrorSend dt s
  | .cmtWaitExpiry dt cyl => Sys2Proof.Machine.execCmtWaitExpiry dt cyl s
  | .hoReq dt => Sys2Proof.Machine.execHoReq dt s
  | .hoAcc dt => Sys2Proof.Machine.execHoAcc dt s
  | .hoRef dt => Sys2Proof.Machine.execHoRef dt s
  | .handoverNotAccepted dt => Sys2Proof.Machine.execHandoverNotAccepted dt s
  | .handoverHold moment => Sys2Proof.Machine.execHandoverHold moment s
  | .handoverAssert dt => Sys2Proof.Machine.execHandoverAssert dt s
  | .handoverRelease dt => Sys2Proof.Machine.execHandoverRelease dt s
  | .handoverRegulate dt => Sys2Proof.Machine.execHandoverRegulate dt s
  | .holdoffExpiry dt => Sys2Proof.Machine.execHoldoffExpiry dt s
  | .syncReq dt => Sys2Proof.Machine.execSyncReq dt s
  | .mirrorActive dt => Sys2Proof.Machine.execMirrorActive dt s
  | .syncEnd dt => Sys2Proof.Machine.execSyncEnd dt s
  | .voteSend dt => Sys2Proof.Machine.execVoteSend dt s
  | .voteCellRx dt => Sys2Proof.Machine.execVoteCellRx dt s
  | .voterReachTimeout dt slot => Sys2Proof.Machine.execVoterReachTimeout dt slot s
  | .bcEntryAge dt node => Sys2Proof.Machine.execBcEntryAge dt node s
  | .routeCellRx dt => Sys2Proof.Machine.execRouteCellRx dt s
  | .cmdCellRx dt => Sys2Proof.Machine.execCmdCellRx dt s
  | .logCellRx dt => Sys2Proof.Machine.execLogCellRx dt s
  | .floeReasmTimeout dt => Sys2Proof.Machine.execFloeReasmTimeout dt s
  | .brownOut dt below => Sys2Proof.Machine.execBrownOut dt below s
  | .powerOn dt => Sys2Proof.Machine.execPowerOn dt s
  | .nrstAssert dt low => Sys2Proof.Machine.execNrstAssert dt low s
  | .railFault dt rail millivolts outside => Sys2Proof.Machine.execRailFault dt rail millivolts outside s
  | .overTemperature dt temperature => Sys2Proof.Machine.execOverTemperature dt temperature s
  | .vbatOv dt vbat above => Sys2Proof.Machine.execVbatOv dt vbat above s
  | .vaonLost dt vaon below => Sys2Proof.Machine.execVaonLost dt vaon below s
  | .aonSourceChange dt vaon => Sys2Proof.Machine.execAonSourceChange dt vaon s
  | .resetRelease dt vbat above nrstHigh temperature => Sys2Proof.Machine.execResetRelease dt vbat above nrstHigh temperature s
  | .thawComplete dt => Sys2Proof.Machine.execThawComplete dt s
  | .bootComplete dt => Sys2Proof.Machine.execBootComplete dt s
  | .wakeSource dt lines vbatOk => Sys2Proof.Machine.execWakeSource dt lines vbatOk s
  | .wakeHeldRelease dt => Sys2Proof.Machine.execWakeHeldRelease dt s
  | .aonTimerExpiry dt vbatOk => Sys2Proof.Machine.execAonTimerExpiry dt vbatOk s
  | .calvingEntry dt vbat lasted => Sys2Proof.Machine.execCalvingEntry dt vbat lasted s
  | .c6Finish dt => Sys2Proof.Machine.execC6Finish dt s
  | .calvingExit dt vbat lasted => Sys2Proof.Machine.execCalvingExit dt vbat lasted s
  | .judgeWindowEnd dt count => Sys2Proof.Machine.execJudgeWindowEnd dt count s
  | .xtalFail dt => Sys2Proof.Machine.execXtalFail dt s
  | .xtalFixedDelay dt => Sys2Proof.Machine.execXtalFixedDelay dt s
  | .muxSwitchDone dt mux => Sys2Proof.Machine.execMuxSwitchDone dt mux s
  | .forcedSwitch dt => Sys2Proof.Machine.execForcedSwitch dt s
  | .clockMissing dt clock => Sys2Proof.Machine.execClockMissing dt clock s
  | .tpllUnlock dt => Sys2Proof.Machine.execTpllUnlock dt s
  | .tpllRelock dt => Sys2Proof.Machine.execTpllRelock dt s
  | .spllUnlock dt => Sys2Proof.Machine.execSpllUnlock dt s
  | .spllRelock dt => Sys2Proof.Machine.execSpllRelock dt s
  | .fpllUnlock dt => Sys2Proof.Machine.execFpllUnlock dt s
  | .lfFail dt => Sys2Proof.Machine.execLfFail dt s
  | .dvfsStep dt => Sys2Proof.Machine.execDvfsStep dt s
  | .spreadApply dt => Sys2Proof.Machine.execSpreadApply dt s
  | .fmcWindowEnd dt count => Sys2Proof.Machine.execFmcWindowEnd dt count s
  | .gateForced dt => Sys2Proof.Machine.execGateForced dt s
  | .irqGroupDelivery dt group => Sys2Proof.Machine.execIrqGroupDelivery dt group s
  | .dmaTrigger dt channel => Sys2Proof.Machine.execDmaTrigger dt channel s
  | .dmaBlockComplete dt channel => Sys2Proof.Machine.execDmaBlockComplete dt channel s
  | .dmaDescriptorFetch dt channel => Sys2Proof.Machine.execDmaDescriptorFetch dt channel s
  | .timCompareMatch dt channel => Sys2Proof.Machine.execTimCompareMatch dt channel s
  | .timReload dt channel => Sys2Proof.Machine.execTimReload dt channel s
  | .timTop dt channel => Sys2Proof.Machine.execTimTop dt channel s
  | .timCapture dt channel => Sys2Proof.Machine.execTimCapture dt channel s
  | .nop dt engine context => Sys2Proof.Machine.execNop dt engine context s
  | .halt dt engine context => Sys2Proof.Machine.execHalt dt engine context s
  | .sig dt engine context => Sys2Proof.Machine.execSig dt engine context s
  | .clrsh dt engine context => Sys2Proof.Machine.execClrsh dt engine context s
  | .br dt engine context => Sys2Proof.Machine.execBr dt engine context s
  | .dbnz dt engine context => Sys2Proof.Machine.execDbnz dt engine context s
  | .waitPin dt engine context => Sys2Proof.Machine.execWaitPin dt engine context s
  | .waitTime dt engine context => Sys2Proof.Machine.execWaitTime dt engine context s
  | .waitAngle dt engine context => Sys2Proof.Machine.execWaitAngle dt engine context s
  | .waitTrig dt engine context => Sys2Proof.Machine.execWaitTrig dt engine context s
  | .ldi dt engine context => Sys2Proof.Machine.execLdi dt engine context s
  | .lds dt engine context => Sys2Proof.Machine.execLds dt engine context s
  | .alu dt engine context => Sys2Proof.Machine.execAlu dt engine context s
  | .get dt engine context => Sys2Proof.Machine.execGet dt engine context s
  | .put dt engine context => Sys2Proof.Machine.execPut dt engine context s
  | .shin dt engine context => Sys2Proof.Machine.execShin dt engine context s
  | .shout dt engine context => Sys2Proof.Machine.execShout dt engine context s
  | .send dt engine context => Sys2Proof.Machine.execSend dt engine context s
  | .recv dt engine context => Sys2Proof.Machine.execRecv dt engine context s
  | .setp dt engine context => Sys2Proof.Machine.execSetp dt engine context s
  | .illegal dt engine context => Sys2Proof.Machine.execIllegal dt engine context s
  | .thresholdCrossing dt channel current => Sys2Proof.Machine.execThresholdCrossing dt channel current s
  | .pulseTrailingEdge dt input subtick => Sys2Proof.Machine.execPulseTrailingEdge dt input subtick s
  | .cellArrival dt link body crc => Sys2Proof.Machine.execCellArrival dt link body crc s
  | .packetTransmitDone dt port => Sys2Proof.Machine.execPacketTransmitDone dt port s
  | .canErrorState dt ctl state tec rec => Sys2Proof.Machine.execCanErrorState dt ctl state tec rec s
  | .plcaStatus dt active => Sys2Proof.Machine.execPlcaStatus dt active s
  | .fpllRelock dt => Sys2Proof.Machine.execFpllRelock dt s
  | .vboostRecovered dt vboost => Sys2Proof.Machine.execVboostRecovered dt vboost s
  | .vbatOvEnded dt vbat below => Sys2Proof.Machine.execVbatOvEnded dt vbat below s
  | .cfgMatchTimeout dt => Sys2Proof.Machine.execCfgMatchTimeout dt s

end Sys2Proof.Machine
end

