-- ==== Sys2Proof/Safety.lean ====
section
/-! DEFINITION. What the claims speak of: forms of the state that every step keeps, outcomes that are not a stop, what a command changes and
what it leaves, and when COM and the fast path take a packet. -/

namespace Sys2Proof.Machine

/-- Memory and the register table stand in their canonical forms, so that equal contents are equal data. -/
def State.canonical (s : State) : Bool := Memory.wf s.mem && spWf regReset s.regs

/-- An outcome that is a next state. -/
def goesOn (o : Result) : Bool := match o with
  | .next _ => true
  | .fault _ => false
  | .refused _ => false

/-- The next state, where there is one. -/
def nextState (o : Result) : Option State := match o with
  | .next t => some t
  | .fault _ => none
  | .refused _ => none

/-- The interrupt controller's registers (R421). -/
def inIrqBlock (a : Nat) : Bool := decide (0x40030000 ≤ a) && decide (a < 0x40040000)

-- ── What a command does ───────────────────────────────────────────────────────────────────────────────────────────

/-- The command answers a next state: the one that a state with the property `q` settles to, by the transition of R15 that its effect may
cause. -/
def State.does (s : State) (c : Instr) (q : State → Prop) : Prop := ∃ u, exec c s = .next u.settle ∧ q u

/-- The command answers a next state, and it has the property `q`. -/
def State.leaves (s : State) (c : Instr) (q : State → Prop) : Prop := ∃ t, exec c s = .next t ∧ q t

/-- Every register outside the list, and outside the interrupt controller's pending and group registers, holds in `t` what it holds in `s`;
so does every byte of memory. -/
def State.sameBut (s t : State) (l : List Nat) : Prop :=
  (∀ a, a ∉ l → inIrqBlock a = false → t.word a = s.word a) ∧ ∀ a, t.byte a = s.byte a

-- ── Packets that are handled (R124, R267, R271) ───────────────────────────────────────────────────────────────────

/-- COM may handle `p`, the oldest of the packets `p :: r` that wait on a port, with the opcode `op`: it runs, the port's outbound queue has
room, no reply of an output self-test is due, a verified image runs, and the seal is open where the opcode needs it. -/
def State.comTakes (s : State) (port : Fin 5) (op : Nat) (p : Packet) (r : List Packet) : Prop :=
  (s.hst.port port).inq = p :: r ∧ p.opcode = op ∧ (s.hst.port port).outq.length < 16 ∧ s.tst.otPkt = none ∧
  s.sys.comDown = false ∧ s.pwr.inReset = false ∧ 3 ≤ s.st ∧ s.sys.verified = true ∧ (isSealed op = true → s.sealOpen = true)

/-- The device with the oldest packet of a port's inbound queue taken. -/
def State.taken (s : State) (port : Fin 5) : State :=
  s.setPort port (s.hst.port port).pop

/-- The command answers the packet: its reply, with a status and bytes from byte 1, is made on a state with the property `q` (R265). -/
def State.answers (s : State) (c : Instr) (port : Fin 5) (p : Packet) (status : Nat) (rest : List Byte) (q : State → Prop) : Prop :=
  s.does c (fun v => ∃ u, v = u.answerTo port p status rest ∧ q u)

/-- In `u` a job has opened that `s` did not have: under an ID not in use, for the packet `p` of a port, with its data; it waits for presence
or does not (R270, R285). -/
def State.opensJob (s u : State) (port : Fin 5) (p : Packet) (data : List Byte) (presence : Bool) (i : Nat) : Prop :=
  ∃ j, u.hst.jobs = s.hst.jobs ++ [j] ∧ j.id = i ∧ 1 ≤ i ∧ i ≤ 255 ∧ (∀ k, k ∈ s.hst.jobs → k.id ≠ i) ∧ j.opcode = p.opcode ∧
    j.seq = p.seq ∧ j.port = port.val ∧ j.source = p.source ∧ j.data = data ∧ j.startAt = s.now ∧
    j.presence = (if presence then 1 else 0)

/-- The command opens a job for the packet, with an ID, where fewer than four jobs run and no other presence job waits beside one that needs
presence: PENDING or AWAIT_PRESENCE, in a state with the property `q`; else it is refused with BUSY and has no effect (R270, R285). -/
def State.startsJob (s : State) (c : Instr) (port : Fin 5) (p : Packet) (data : List Byte) (presence : Bool) (q : Nat → State → Prop) : Prop :=
  (s.hst.jobs.length < 4 → (presence = true → s.presenceWaits = false) →
    ∃ i, s.answers c port p (if presence then stAwait else stPending) (leBytes 1 i) (fun u => s.opensJob u port p data presence i ∧ q i u)) ∧
  (4 ≤ s.hst.jobs.length ∨ (presence = true ∧ s.presenceWaits = true) → s.answers c port p stBusy [] (fun u => u = s.taken port))

/-- The fragments of a transfer with the opcode `op` that a port has taken so far carry the bytes `l` (R269). -/
def State.hasPart (s : State) (port : Nat) (op : Nat) (l : List Byte) : Prop :=
  ((s.hst.port port).transfer = none ∧ l = []) ∨ ∃ since, (s.hst.port port).transfer = some { opcode := op, data := l, since := since }

/-- The fast path may handle `p`, its oldest packet, which came by `port`, with the opcode `op`: the device is not in SAFE, and a verified
image runs. -/
def State.fastTakes (s : State) (op : Nat) (port : Nat) (p : Packet) : Prop :=
  s.hst.fpq.head? = some (port, p) ∧ p.opcode = op ∧ s.st ≠ 8 ∧ s.sys.verified = true

/-- The device with the oldest packet of the fast path taken. -/
def State.fastTaken (s : State) : State := s.withHst { s.hst with fpq := s.hst.fpq.drop 1 }

/-- The fast path answers the packet: its reply is made on a state with the property `q` (R124, R265). -/
def State.answersFast (s : State) (c : Instr) (port : Nat) (p : Packet) (status : Nat) (rest : List Byte) (q : State → Prop) : Prop :=
  s.does c (fun v => ∃ u, v = u.answerFast port p status rest ∧ q u)

/-- The register at `a` can be reached by a write of the firmware, or of the host in BENCH, and takes `v` (R422–R425). -/
def State.takesWrite (s : State) (a : Nat) (v : Word) : Prop := s.regUp a = true ∧ s.writeStatus a v false = 0

end Sys2Proof.Machine
end

