-- ==== Sys2Proof/Certificates/Slice0/Obligations.lean ====
section
/-! DEFINITION. The statements for the provers. "does" and "leaves" say that a command answers a next state, and what holds there: `does` of the
state before the transition of R15 that the command's effect may cause, `leaves` of the state itself. -/

open Sys2Proof Sys2Proof.Machine

-- ── The block as a whole ──────────────────────────────────────────────────────────────────────────────────────────

/-- A step runs the command at the front of the queue, with the queue's rest. On an empty queue it is one tick of TCLK (the model's choice, log
entry 4): time moves on by one unit of 2.5 ns, the queue stays empty, and memory is as before. -/
def Obligations.StepRunsTheFront : Prop :=
  (∀ (s : State) (c : Instr) (r : List Instr), s.pending = c :: r → step s = exec c { s with pending := r }) ∧
  ∀ s : State, s.pending = [] → step s = .next s.tick ∧ s.tick.now = s.now + 1 ∧ s.tick.pending = [] ∧ ∀ a, s.tick.byte a = s.byte a

/-- What reset leaves: SYS_STATE shows THAW, no SYS_FAULT bit is set, the cause is POR, no channel has a phase, the wheel pins and host queues
are idle, no byte of memory is listed, and no command waits. READY is low and FAULT released. Memory and registers stand in canonical form. -/
def Obligations.ResetState : Prop :=
  State.reset.st = 2 ∧ State.reset.word Reg.SYS_FAULT = 0 ∧ State.reset.flag Fld.PWR_RSTC_POR = true ∧
  (∀ n : Fin 48, State.reset.phase n = 0) ∧ State.reset.hst.fpq = [] ∧ (∀ p : Fin 5, (State.reset.hst.port p).inq = []) ∧
  State.reset.mem = [] ∧ State.reset.pending = [] ∧ State.reset.readyLine = false ∧ State.reset.faultLine = true ∧
  State.reset.canonical = true

/-- Every step keeps memory and registers in canonical form (addresses rising, no entry that reads the same unlisted), whatever the command, from
any state where they stand in it. -/
def Obligations.StepKeepsCanonical : Prop :=
  ∀ s t : State, s.canonical = true → step s = .next t → t.canonical = true

/-- The blown fuses never fall, whatever command or tick comes (R297: COUNT never decreases); and the device's identity stands: its serial
number and its certificates. -/
def Obligations.FusesNeverFall : Prop :=
  ∀ s t : State, step s = .next t → s.sec.fuses ≤ t.sec.fuses ∧ t.sec.serial = s.sec.serial ∧ t.sec.certs = s.sec.certs

/-- No command of the table stops the machine: each has its effect, or is turned away by a status, in a next state; and none runs another command or
puts one into the queue. -/
def Obligations.EveryCommandGoesOn : Prop :=
  ∀ (c : Instr) (s : State), ∃ t : State, exec c s = .next t ∧ t.pending = s.pending

/-- Faults. The transition that a cycle makes is the one of R15's table whose row stands nearest the top: an enabled fault goes before every other
condition, and none is made in reset. Outside Frost FAULT is released in reset, in THAW and in BOOT, and whenever a SYS_FAULT bit enabled for
the line is set; else the device pulls it low (R21). -/
def Obligations.FaultsComeFirst : Prop :=
  (∀ s : State, s.pwr.inReset = false → 3 ≤ s.st → s.st ≠ 8 →
    ((s.word Reg.SYS_FAULT).toNat &&& (s.get Fld.SYS_FAULTCFG_SAFE ||| 3) ≠ 0) →
    s.transition = some 8 ∧ s.settle.st = 8 ∧ s.settle.get Fld.SYS_STATE_PREV = s.st) ∧
  (∀ s : State, s.st ≠ 1 →
    (s.faultLine = true ↔ s.pwr.inReset = true ∨ s.st = 2 ∨ s.st = 3 ∨
      ∃ k, k < 32 ∧ (s.word Reg.SYS_FAULT).getLsbD k = true ∧ (s.get Fld.SYS_FAULTCFG_LINE ||| 3).testBit k = true))

/-- READY is high in IDLE, ARMED and RUNNING and low in every other state, and low while reset is asserted (R20). -/
def Obligations.ReadyLine : Prop :=
  ∀ s : State, s.readyLine = true ↔ s.pwr.inReset = false ∧ (s.st = 4 ∨ s.st = 5 ∨ s.st = 6)

/-- The distance from one angle to another (R8): adding it to the first gives the second, and it lies in −2^23 to 2^23 − 1. -/
def Obligations.AngleDistance : Prop :=
  ∀ a b : Nat, a < 2 ^ 24 → b < 2 ^ 24 →
    angAdd a (angDist a b) = b ∧ -2 ^ 23 ≤ angDist a b ∧ angDist a b ≤ 2 ^ 23 - 1 ∧ ((b : Int) - a - angDist a b) % 2 ^ 24 = 0

-- ── Registers, the bus, ownership ─────────────────────────────────────────────────────────────────────────────────

/-- A write by the firmware to a plain register of SYS, CLK or PWR acts bit by bit by access type (R4, R5): an RW bit takes the written
bit; a W1C bit clears on 1 unless the hardware has set it in this cycle; a W1S bit sets on 1; every other bit, and every other register and
byte, keeps what it holds. Registers whose writes do more are named and left out. -/
def Obligations.WritesByAccessType : Prop :=
  ∀ (s : State) (a : BitVec 32) (v : Word) (r : RegRow),
    a.toNat < 0x40030000 → inRegs a.toNat = true → a.toNat % 4 = 0 → regRow a.toNat = some r →
    a.toNat ∉ [Reg.SYS_FAULT, Reg.SYS_FAULTCFG, Reg.CLK_OPREQ, Reg.CLK_GATE0, Reg.CLK_GATE1, Reg.CLK_FMC_CTRL, Reg.PWR_SLEEP] →
    s.takesWrite a.toNat v →
    s.does (.registerWrite false a v) (fun u =>
      (∀ k, k < 32 → (u.word a.toNat).getLsbD k =
        ((((if (r.rw ||| r.rwh).testBit k then v.getLsbD k else (s.word a.toNat).getLsbD k) &&
          !(v.getLsbD k && r.w1c.testBit k && !(s.freshMask a.toNat).getLsbD k)) || (v.getLsbD k && r.w1s.testBit k)))) ∧
      (∀ b, b ≠ a.toNat → u.word b = s.word b) ∧ (∀ b, u.byte b = s.byte b) ∧ u.bus.err = false ∧ u.bus.status = 0)

/-- An access that R423 lists ends in a bus error and writes nothing: a write by the firmware that is misaligned, to the boot ROM or a reserved
address, to MRAM (which COM alone writes), to a reserved place of register space, or to a block whose clock gate is closed. -/
def Obligations.BusErrorsWriteNothing : Prop :=
  ∀ (s : State) (a : BitVec 32) (v : Word),
    (a.toNat % 4 ≠ 0 ∨ (inSram a.toNat = false ∧ inRegs a.toNat = false) ∨ (inRegs a.toNat = true ∧ s.regUp a.toNat = false)) →
    s.does (.registerWrite false a v) (fun u =>
      u.bus.err = true ∧ u.bus.status = stBusError ∧ u.bus.data = 0 ∧ (∀ b, u.word b = s.word b) ∧ ∀ b, u.byte b = s.byte b)

/-- Outside BENCH a host's write to a register that is neither host-owned nor a gate register, and that is no write of 1 bits to W1C fields of SYS,
PWR, CLK or SEC alone, is refused with STATE_FORBIDS and writes nothing (R425). -/
def Obligations.HostWritesWithinItsOwn : Prop :=
  ∀ (s : State) (a : BitVec 32) (v : Word) (r : RegRow),
    s.st ≠ 9 → inRegs a.toNat = true → a.toNat % 4 = 0 → s.regUp a.toNat = true → regRow a.toNat = some r →
    hostOwned a.toNat = false → a.toNat ≠ Reg.CLK_GATE0 → a.toNat ≠ Reg.CLK_GATE1 →
    (clearable a.toNat = false ∨ v &&& ~~~ (BitVec.ofNat 32 r.w1c) ≠ 0) →
    s.does (.registerWrite true a v) (fun u =>
      u.bus.status = stForbids ∧ (∀ b, u.word b = s.word b) ∧ ∀ b, u.byte b = s.byte b)

/-- REG_WRITE puts words into the host area, little-endian, and REG_READ reads the words that stand there (R6, R283, R424): after the
write the area reads as the words written, every byte outside it and every register is as before, and the reply gives the count. -/
def Obligations.HostAreaRoundTrip : Prop :=
  (∀ (s : State) (port : Fin 5) (p : Packet) (r : List Packet) (a : Nat) (l : List Word),
    s.comTakes port 0x801 p r → a % 4 = 0 → inHostArea a = true → inHostArea (a + 4 * l.length - 4) = true → l ≠ [] → l.length ≤ 254 →
    p.payload = leBytes 4 a ++ leBytes 2 l.length ++ [0, 0] ++ wordBytes l →
    s.answers (.regWrite port) port p 0 (leBytes 2 l.length) (fun u =>
      u.bytes a (4 * l.length) = wordBytes l ∧ (u.hostReads l.length a).1 = l ∧ (∀ b, u.word b = s.word b) ∧
      ∀ b, b < a ∨ a + 4 * l.length ≤ b → u.byte b = s.byte b)) ∧
  ∀ (s : State) (port : Fin 5) (p : Packet) (r : List Packet) (a n : Nat),
    s.comTakes port 0x800 p r → a % 4 = 0 → inHostArea a = true → inHostArea (a + 4 * n - 4) = true → 0 < n → n ≤ 255 →
    p.payload = leBytes 4 a ++ leBytes 2 n →
    s.answers (.regRead port) port p 0 (zeros 3 ++ s.bytes a (4 * n)) (fun u => s.sameBut u [])

-- ── Interrupts ────────────────────────────────────────────────────────────────────────────────────────────────────

/-- An event of a source sets both its pending bits, whatever the enable bits say (R356); a pulse source that a delivery names a coalescing
group for is held there and counted in place of that bit (R362), and a level source ignores the group (R357). -/
def Obligations.EventsPend : Prop :=
  ∀ (s : State) (n : Nat) (host : Bool), n < 256 →
    ((isLevelSource n = true ∨ s.get (srcCgrp host n) = 0) → (s.irq n).isPend host n = true) ∧
    (isLevelSource n = false → 0 < s.get (srcCgrp host n) →
      n ∈ (s.irq n).heldOf (s.get (srcCgrp host n) - 1) ∧ (s.irq n).isPend host n = s.isPend host n)

/-- The winner of a target is pending and enabled for it, and no other source that is so ranks ahead of it: lowest group, then lowest
sub-priority, then lowest number (R358). There is none exactly when no source is pending and enabled for the target. Group and sub-priority are PRIO shifted by SPLIT and
its low SPLIT bits; SPLIT is IRQ_PRIGROUP's for SUP and COM and 0 for the host lines. -/
def Obligations.WinnerRanksFirst : Prop :=
  (∀ (s : State) (t : Nat), t < 4 →
    (∀ n, s.winner t = some n → n < 256 ∧ s.candidate t n = true ∧
      ∀ m, m < 256 → s.candidate t m = true → m = n ∨ s.ranksAhead t n m = true) ∧
    (s.winner t = none ↔ ∀ m, m < 256 → s.candidate t m = false)) ∧
  ∀ (s : State) (t n p : Nat), t < 4 → p = s.get (if t < 2 then Fld.IRQ_SRC_PRIO n else Fld.IRQ_HSRC_PRIO n) →
    p < 16 ∧ s.groupOf t n = p >>> s.splitOf t ∧ s.subOf t n = p &&& (2 ^ s.splitOf t - 1) ∧ (2 ≤ t → s.splitOf t = 0) ∧
    s.splitOf 0 = s.get Fld.IRQ_PRIGROUP_SUP_SPLIT ∧ s.splitOf 1 = s.get Fld.IRQ_PRIGROUP_COM_SPLIT

/-- An acknowledge by SUP or COM, and by a host line (R359–R361): with a latched winner that is still pending and enabled it answers the source
number plus 1, clears the pending bit of a pulse source and, for SUP and COM, sets the bit of its group in the active set; else it answers
0 and counts as spurious, and no pending bit changes. A write to EOI clears the most urgent set bit of the active set, and with an empty
set it sets EOI_ERR; a target requests service while its latched winner's group goes before every group of its active set (R360). -/
def Obligations.InterruptHandshake : Prop :=
  ((∀ (s : State) (t : Fin 2) (l : Nat), s.latchOf t.val = l + 1 → l < 256 → s.candidate t.val l = true →
    s.does (.acknowledge t) (fun u => u.bus.data = BitVec.ofNat 32 (l + 1) ∧ u.bus.err = false ∧
      (isLevelSource l = false → u.isPend false l = false) ∧ u.bit (Fld.IRQ_ACT_ACTIVE t.val) (s.groupOf t.val l) = true ∧
      s.sameBut u [])) ∧
  (∀ (s : State) (t : Fin 2), (s.latchOf t.val = 0 ∨ s.candidate t.val (s.latchOf t.val - 1) = false) →
    s.does (.acknowledge t) (fun u => u.bus.data = 0 ∧
      u.get Fld.IRQ_STAT_SPURIOUS = (s.get Fld.IRQ_STAT_SPURIOUS + 1) % 2 ^ Fld.IRQ_STAT_SPURIOUS.w ∧
      (∀ n, n < 256 → u.isPend false n = s.isPend false n) ∧ s.sameBut u [])) ∧
  ∀ (s : State) (h : Fin 2) (l : Nat), s.latchOf (2 + h.val) = l + 1 → l < 256 → s.candidate (2 + h.val) l = true →
    s.does (.hostAcknowledge h) (fun u => u.bus.data.toNat % 512 = l + 1 ∧ (isLevelSource l = false → u.isPend true l = false) ∧
      s.sameBut u [])) ∧
  (∀ (s : State) (t : Fin 2),
    (∀ g, g < 16 → s.bit (Fld.IRQ_ACT_ACTIVE t.val) g = true → (∀ j, j < g → s.bit (Fld.IRQ_ACT_ACTIVE t.val) j = false) →
      s.does (.eoi t) (fun u => ∀ j, j < 16 → u.bit (Fld.IRQ_ACT_ACTIVE t.val) j = (s.bit (Fld.IRQ_ACT_ACTIVE t.val) j && j != g))) ∧
    (s.get (Fld.IRQ_ACT_ACTIVE t.val) = 0 → s.does (.eoi t) (fun u => u.flag Fld.IRQ_STAT_EOI_ERR = true ∧ s.sameBut u []))) ∧
  ∀ (s : State) (t : Fin 2), s.requestsService t.val = true ↔
    s.latchOf t.val ≠ 0 ∧ ∀ g, g < 16 → s.bit (Fld.IRQ_ACT_ACTIVE t.val) g = true → s.groupOf t.val (s.latchOf t.val - 1) < g

/-- A coalescing group delivers once a threshold is met: every source it holds becomes pending, it holds none, and N is 0 (R362). A
write to IRQ_GRPg first delivers what the group holds and then takes the new COUNT and TIME (R363). -/
def Obligations.GroupsDeliver : Prop :=
  (∀ (s : State) (dt : Nat) (g : Fin 16), (s.advance dt).groupDue g.val = true →
    (∀ n, n ∈ (s.advance dt).heldOf g.val → n < 256) →
    s.does (.irqGroupDelivery dt g) (fun u =>
      (∀ n, n ∈ (s.advance dt).heldOf g.val → u.isPend (decide (8 ≤ g.val)) n = true) ∧ u.heldOf g.val = [] ∧
      u.get (Fld.IRQ_GRP_N g.val) = 0 ∧ (s.advance dt).sameBut u [])) ∧
  ∀ (s : State) (g : Fin 16) (v : Word), s.writeStatus (Reg.IRQ_GRP g.val) v (decide (8 ≤ g.val)) = 0 →
    (∀ n, n ∈ s.heldOf g.val → n < 256) →
    s.does (.groupWrite g v) (fun u =>
      (∀ n, n ∈ s.heldOf g.val → u.isPend (decide (8 ≤ g.val)) n = true) ∧ u.heldOf g.val = [] ∧
      u.get (Fld.IRQ_GRP_COUNT g.val) = fieldOf (Fld.IRQ_GRP_COUNT g.val) v ∧
      u.get (Fld.IRQ_GRP_TIME g.val) = fieldOf (Fld.IRQ_GRP_TIME g.val) v ∧ s.sameBut u [])

-- ── Opcodes that COM handles (R282, R283) ─────────────────────────────────────────────────────────────────────────

/-- The reply to a request enters its port's outbound queue when RREQ is 1 or the status is not OK, and there is room (R265): SEQ and OPCODE of
the request, REPLY, SEALED as in the request, the status in byte 0. A request without RREQ that is done gets none. No reply that could go now
waits behind it; those of packets answered on arrival wait for the packets before them. -/
def Obligations.RepliesAreQueued : Prop :=
  ∀ (s : State) (port : Fin 5) (p : Packet) (status : Nat) (rest : List Byte), status ≠ stBadCrc → status ≠ stBadLength →
    s.portServed port = true → (s.hst.port port).outq.length < 16 → (∀ e, e ∈ (s.hst.port port).late → e.1 ≠ 0) →
    ((p.flags.testBit 0 = true ∨ status ≠ 0) →
      ((s.answerTo port p status rest).hst.port port).outq = (s.hst.port port).outq ++
        [(p.source, packetBytes (128 + (if p.flags.testBit 1 then 2 else 0)) p.seq p.opcode (leBytes 1 status ++ rest))]) ∧
    ((p.flags.testBit 0 = false ∧ status = 0) → ((s.answerTo port p status rest).hst.port port).outq = (s.hst.port port).outq)

/-- A packet whose SEQ stands in its port's window is a repeat (R268): nothing is handled a second time, in either queue, and the stored reply
is sent again; a SEQ behind the newest that is not in the window is refused with BAD_SEQUENCE and is not handled. -/
def Obligations.RepeatsAreNotHandled : Prop :=
  ∀ (s : State) (port : Fin 5) (p : Packet) (e : WinEntry), e ∈ (s.hst.port port).window →
    (e.seq = p.seq ∨ (∀ f, (s.hst.port port).window.head? = some f → seqBehind f.seq p.seq = true) ∧
      ∀ f, f ∈ (s.hst.port port).window → f.seq ≠ p.seq) →
    ((s.sequencePacket port p).hst.port port).inq = (s.hst.port port).inq ∧ (s.sequencePacket port p).hst.fpq = s.hst.fpq ∧
    ((s.sequencePacket port p).hst.port port).window = (s.hst.port port).window

/-- Opcodes that only read (R270, R282, R299, R301): PING, INFO and JOB_STATUS answer what the device shows and what became of a job; the others
answer what stands in tables, slots, records, waveforms, digests, the chain's head, the seal and the certificates. None changes anything else. -/
def Obligations.ReadingOpcodes : Prop :=
  (∀ (s : State) (port : Fin 5) (p : Packet) (r : List Packet),
    (s.comTakes port 0x100 p r → p.payload = [] →
      s.answers (.ping port) port p 0
        (leBytes 3 ((s.taken port).shown Reg.SYS_STATE).toNat ++
          wordBytes [(s.taken port).shown Reg.SYS_STAT, (s.taken port).shown Reg.SYS_FAULT]) (fun u => u = s.taken port)) ∧
    (s.comTakes port 0x101 p r → p.payload = [] →
      s.answers (.info port) port p 0
        (zeros 3 ++ wordBytes [(s.taken port).shown Reg.SYS_ID, (s.taken port).shown Reg.SYS_REV, (s.taken port).shown Reg.SEC_FWVER] ++
          s.serialBytes) (fun u => u = s.taken port)) ∧
    (s.comTakes port 0x106 p r → ∀ i : Byte, p.payload = [i] →
      ((∃ j ∈ s.hst.jobs, j.id = i.toNat) → s.answers (.jobStatus port) port p 0 [i, 0, 0] (fun u => u = s.taken port)) ∧
      ((∀ j ∈ s.hst.jobs, j.id ≠ i.toNat) → ∀ e, e < 256 → spGet (fun _ => 0) s.hst.ended i.toNat = e + 1 →
        s.answers (.jobStatus port) port p 0 [i, 1, BitVec.ofNat 8 e] (fun u => u = s.taken port)) ∧
      ((∀ j ∈ s.hst.jobs, j.id ≠ i.toNat) → spGet (fun _ => 0) s.hst.ended i.toNat = 0 →
        s.answers (.jobStatus port) port p 0 [i, 2, 0] (fun u => u = s.taken port)))) ∧
  (∀ (s : State) (port : Fin 5) (p : Packet) (r : List Packet),
    (s.comTakes port 0x204 p r → p.payload.length = 8 → tblHeader p.payload 510 = 0 →
      s.answers (.tblRead port) port p 0
        (zeros 3 ++ (List.range (leAt p.payload 6 2)).flatMap (fun k => leBytes 2
          (s.tblEntry (byteAt p.payload 0) (byteAt p.payload 1) (byteAt p.payload 2) (leAt p.payload 4 2 + k)))) (fun u => u = s.taken port)) ∧
    (s.comTakes port 0x302 p r → ∀ (cyl : Fin 24) (active : Bool) (first n : Nat), 0 < n → n ≤ 63 → first < 65536 →
      first + n ≤ s.slotCnt cyl.val → p.payload = [BitVec.ofNat 8 (cyl.val + 1), if active then 1 else 0] ++ leBytes 2 first ++ leBytes 2 n →
      s.answers (.slotRead port) port p 0
        (zeros 3 ++ (List.range n).flatMap (fun k => s.slotBytes active (s.slotBase cyl.val + first + k))) (fun u => u = s.taken port)) ∧
    (s.comTakes port 0x501 p r → ∀ first n : Nat, 0 < n → n ≤ 21 → first < 4294967296 → p.payload = leBytes 4 first ++ leBytes 1 n →
      s.answers (.recRead port) port p 0 (recordsBody first (s.recordsFrom first n)) (fun u => u = s.taken port)) ∧
    (s.comTakes port 0x504 p r → ∀ first n : Nat, 0 < n → n ≤ 255 → first < 65536 → p.payload = leBytes 2 first ++ leBytes 2 n →
      s.answers (.waveRead port) port p 0 (zeros 3 ++ ((s.wit.wave.drop first).take n).flatMap pairBytes) (fun u => u = s.taken port)) ∧
    (s.comTakes port 0x505 p r → ∀ first n : Nat, 0 < n → n ≤ 15 → first < 2 ^ 64 → p.payload = leBytes 8 first ++ leBytes 1 n →
      s.answers (.digestRead port) port p 0
        (zeros 3 ++ ((List.range n).map (first + ·)).flatMap (fun i => if s.holdsDigest i then s.bytes (digestAddr i) 64 else []))
        (fun u => u = s.taken port)) ∧
    (s.comTakes port 0x506 p r → p.payload = [] →
      s.answers (.chainHead port) port p 0 (zeros 3 ++ (leBytes 8 s.wit.index ++ leBytes 4 s.sec.epoch ++ s.chainHead))
        (fun u => u = s.taken port)) ∧
    (s.comTakes port 0x700 p r → p.payload = [] →
      s.answers (.sealStatus port) port p 0
        (leBytes 1 ((if s.flag Fld.SEC_STAT_SEAL_OPEN then 1 else 0) + (if s.flag Fld.SEC_STAT_SEAL_A then 2 else 0) +
          (if s.flag Fld.SEC_STAT_SEAL_B then 4 else 0) + (if s.flag Fld.SEC_STAT_SEAL_INVALID then 8 else 0)) ++ zeros 2 ++
          leBytes 4 (s.word Reg.SEC_STAT).toNat) (fun u => u = s.taken port)) ∧
    (s.comTakes port 0x701 p r → ∀ (k off n : Nat) (o : List Byte), k < 256 → s.certObject k = some o → 0 < n → n ≤ 1000 → off < 2 ^ 32 →
      p.payload = leBytes 1 k ++ zeros 3 ++ leBytes 4 off ++ leBytes 2 n →
      s.answers (.certRead port) port p 0 (zeros 3 ++ (leBytes 4 o.length ++ (o.drop off).take n)) (fun u => u = s.taken port)))

/-- Opcodes that change the operating state (R15, R282, R319, R444, R447). SLEEP is accepted in IDLE with the selected tracker stopped and no level wake
source asserted; STOP leads from RUNNING to SHUTDOWN, and from ARMED to IDLE with REARM_WAIT; SAFE sets SYS_FAULT.CMD; CLEAR_FAULT clears
the bits given whose condition has ended; BENCH is entered from IDLE and left for IDLE. -/
def Obligations.StateOpcodes : Prop :=
  ∀ (s : State) (port : Fin 5) (p : Packet) (r : List Packet),
    (s.comTakes port 0x102 p r → p.payload = [] → s.st = 4 → s.stopped = true → s.levelWakes = 0 → s.pwr.sleepReq = false →
      s.answers (.sleep port) port p 0 [] (fun u => u.pwr.sleepReq = true ∧ u.flag Fld.DRV_CTRL_STBY = true ∧
        u.flag Fld.DRV_CTRL_BOOST_EN = false)) ∧
    (s.comTakes port 0x103 p r → p.payload = [] →
      (s.st = 6 → s.answers (.stop port) port p 0 [] (fun u => u.st = 7 ∧ u.flag Fld.SYS_STAT_REARM_WAIT = true)) ∧
      (s.st = 5 → s.answers (.stop port) port p 0 [] (fun u => u.st = 4 ∧ u.flag Fld.SYS_STAT_REARM_WAIT = true)) ∧
      (s.st = 7 → s.answers (.stop port) port p 0 [] (fun u => u = s.taken port))) ∧
    (s.comTakes port 0x104 p r → p.payload = [0x5A] →
      s.answers (.safe port) port p 0 [] (fun u => u.flag Fld.SYS_FAULT_CMD = true ∧ s.sameBut u [Reg.SYS_FAULT])) ∧
    (s.comTakes port 0x105 p r → ∀ v : Word, p.payload = leBytes 4 v.toNat → v.toNat < 2048 → s.st ≠ 8 →
      ∃ w : Word, (∀ k, k < 32 → w.getLsbD k = ((s.word Reg.SYS_FAULT).getLsbD k &&
          !(v.getLsbD k && !s.faultHolds k && !(s.freshMask Reg.SYS_FAULT).getLsbD k))) ∧
        s.answers (.clearFault port) port p 0 (zeros 3 ++ leBytes 4 w.toNat)
          (fun u => u.word Reg.SYS_FAULT = w ∧ s.sameBut u [Reg.SYS_FAULT])) ∧
    (s.comTakes port 0x105 p r → ∀ v : Word, p.payload = leBytes 4 v.toNat → v.toNat < 2048 → s.st = 8 →
      ((s.taken port).clearFaults v).safeFault = false → s.stopped = true → s.key = false →
      ∃ rest, s.answers (.clearFault port) port p 0 rest (fun u => u.st = 4)) ∧
    (s.comTakes port 0x107 p r → p.payload = [] → s.st = 4 → s.stopped = true →
      s.answers (.benchEnter port) port p 0 [] (fun u => u.st = 9 ∧ u.flag Fld.DRV_CTRL_STBY = true ∧ u.get Fld.SYS_STATE_PREV = 4)) ∧
    (s.comTakes port 0x108 p r → p.payload = [] → s.st = 9 →
      s.answers (.benchExit port) port p 0 [] (fun u => u.st = 4)) ∧
    (s.comTakes port 0x109 p r → ∀ v : Nat, 10 ≤ v → v < 65536 → p.payload = leBytes 2 v →
      s.answers (.hostTimeout port) port p 0 [] (fun u => u.get Fld.PKT_HOSTTIMEOUT_TIMEOUT = v ∧ s.sameBut u [Reg.PKT_HOSTTIMEOUT]))

/-- Opcodes whose payload is the words of registers, and those that act on one register's field, tracker or channel (R282): what each leaves. -/
def Obligations.RegisterOpcodes : Prop :=
  ∀ (s : State) (port : Fin 5) (p : Packet) (r : List Packet),
    (s.comTakes port 0x10A p r → ∀ a b : Word, p.payload = wordBytes [a, b] →
      s.checkRegs s [(Reg.SYS_FAULTCFG, a), (Reg.SYS_HOSTLOSS, b)] = 0 →
      s.answers (.sysSet port) port p 0 [] (fun u =>
        u.get Fld.SYS_FAULTCFG_SAFE = fieldOf Fld.SYS_FAULTCFG_SAFE a ||| 3 ∧
        u.get Fld.SYS_FAULTCFG_LINE = fieldOf Fld.SYS_FAULTCFG_LINE a ||| 3 ∧
        u.get Fld.SYS_HOSTLOSS_HOLD = fieldOf Fld.SYS_HOSTLOSS_HOLD b ∧ u.get Fld.SYS_HOSTLOSS_RAMP = fieldOf Fld.SYS_HOSTLOSS_RAMP b ∧
        u.get Fld.SYS_HOSTLOSS_GOV_AUTO = fieldOf Fld.SYS_HOSTLOSS_GOV_AUTO b ∧ s.sameBut u [Reg.SYS_FAULTCFG, Reg.SYS_HOSTLOSS])) ∧
    (s.comTakes port 0x203 p r → ∀ (b : Fin 8) (m : Fin 4), p.payload = [BitVec.ofNat 8 b.val, BitVec.ofNat 8 m.val] →
      s.answers (.loadBucket port) port p 0 [] (fun u =>
        (∀ x : Fin 2, u.get (Fld.TRK_LOAD_BUCKET x) = if m.val.testBit x then b.val else s.get (Fld.TRK_LOAD_BUCKET x)) ∧
        s.sameBut u [Reg.TRK_LOAD 0, Reg.TRK_LOAD 1])) ∧
    (s.comTakes port 0x205 p r → ∀ (x table : Fin 2) (bucket : Fin 8) (i : Nat) (l : List (BitVec 16)), l ≠ [] → l.length ≤ 508 →
      i + l.length ≤ 1024 →
      p.payload = [BitVec.ofNat 8 x.val, BitVec.ofNat 8 table.val, BitVec.ofNat 8 bucket.val, 0] ++ leBytes 2 i ++ leBytes 2 l.length ++
        l.flatMap (fun v => leBytes 2 v.toNat) →
      (s.flag (if table = 0 then Fld.TRK_LEARN_PROF_LEARN x else Fld.TRK_LEARN_MODEL_LEARN x) = false →
        s.answers (.tblWrite port) port p 0 [] (fun u =>
          (∀ k, k < l.length → u.tblEntry x table bucket (i + k) = (l.getD k 0).toNat) ∧
          (∀ k, k < 1024 → (k < i ∨ i + l.length ≤ k) → u.tblEntry x table bucket k = s.tblEntry x table bucket k) ∧ s.sameBut u [])) ∧
      (s.flag (if table = 0 then Fld.TRK_LEARN_PROF_LEARN x else Fld.TRK_LEARN_MODEL_LEARN x) = true →
        s.answers (.tblWrite port) port p 0 [] (fun u => u.trks = s.trks ∧ u.flag (Fld.TRK_STAT_TBL_DROP x) = true ∧
          s.sameBut u [Reg.TRK_STAT x]))) ∧
    (s.comTakes port 0x206 p r →
      (p.payload = [0] → s.answers (.resync port) port p 0 [] (fun u => u = s.taken port)) ∧
      (∀ x : Fin 2, p.payload = [BitVec.ofNat 8 (2 ^ x.val)] →
        (s.trkState x = 0 → s.answers (.resync port) port p 0 [] (fun u => u = s.taken port)) ∧
        (s.trkState x = 2 → s.answers (.resync port) port p 0 []
          (fun u => u = (((s.taken port).restartSearch x).setBefore x none).afterTracker (s.taken port) x false true false)) ∧
        (s.trkState x ≠ 0 → s.trkState x ≠ 2 → s.answers (.resync port) port p 0 []
          (fun u => u = ((((s.taken port).setTrkState x 2).restartSearch x).setBefore x none).afterTracker (s.taken port) x false true false))) ∧
      (p.payload = [3] → s.answers (.resync port) port p 0 [] (fun u => u = ((s.taken port).resyncTracker 0).resyncTracker 1))) ∧
    (s.comTakes port 0x301 p r → ∀ a b : Word, p.payload = wordBytes [a, b] → s.checkRegs s [(Reg.SCH_CTRL, a), (Reg.SCH_PREP, b)] = 0 →
      s.answers (.schSet port) port p 0 [] (fun u =>
        u = ((((s.taken port).plainWrite Reg.SCH_CTRL a).afterTracker (s.taken port) s.sel false false false).plainWrite Reg.SCH_PREP b) ∧
        u.get Fld.SCH_PREP_PREP_LEAD = fieldOf Fld.SCH_PREP_PREP_LEAD b ∧
        (fieldOf Fld.SCH_CTRL_FIRE_ON_PRESET a = s.get Fld.SCH_CTRL_FIRE_ON_PRESET → s.choice false = s.sel → s.transition = none →
          s.paired = false → s.isCope = false → s.flag Fld.SYS_STAT_HOST_RAMP = false → s.domMaster = false →
          s.flag Fld.FLO_SYSSTAT_ADOPT_PEND = false →
          u.get Fld.SCH_CTRL_EN = fieldOf Fld.SCH_CTRL_EN a ∧ u.get Fld.SCH_CTRL_DEMAND = fieldOf Fld.SCH_CTRL_DEMAND a ∧
          u.get Fld.SCH_CTRL_GOV = fieldOf Fld.SCH_CTRL_GOV a ∧ u.get Fld.SCH_CTRL_AUTONOMY = fieldOf Fld.SCH_CTRL_AUTONOMY a ∧
          s.sameBut u [Reg.SCH_CTRL, Reg.SCH_PREP]))) ∧
    (s.comTakes port 0x401 p r → ∀ a : Word, p.payload = wordBytes [a] → s.checkRegs s [(Reg.DRV_CTRL, a)] = 0 →
      s.answers (.drvCtrl port) port p 0 [] (fun u =>
        u.get Fld.DRV_CTRL_EN = fieldOf Fld.DRV_CTRL_EN a ∧ u.get Fld.DRV_CTRL_BOOST_EN = fieldOf Fld.DRV_CTRL_BOOST_EN a ∧
        u.get Fld.DRV_CTRL_DIAG_EN = fieldOf Fld.DRV_CTRL_DIAG_EN a ∧
        (s.st = 9 → u.flag Fld.DRV_CTRL_STBY = true) ∧
        (s.st ≠ 9 → s.paired = false → u.get Fld.DRV_CTRL_STBY = fieldOf Fld.DRV_CTRL_STBY a))) ∧
    (s.comTakes port 0x405 p r → ∀ (c b : Nat), c < 2 ^ 48 → b < 256 → s.fresh = [] → p.payload = leBytes 6 c ++ leBytes 1 b ++ [0] →
      s.answers (.drvClear port) port p 0 [] (fun u =>
        (∀ n : Fin 48, (u.word (Reg.DRV_CH_STAT n)).toNat % 16 = if c.testBit n then 0 else (s.word (Reg.DRV_CH_STAT n)).toNat % 16) ∧
        (∀ k : Fin 8, (u.word (Reg.DRV_BANKSTAT k)).toNat / 2 ^ 24 % 16 =
          if b.testBit k then 0 else (s.word (Reg.DRV_BANKSTAT k)).toNat / 2 ^ 24 % 16) ∧ u.word Reg.DRV_STAT = s.word Reg.DRV_STAT)) ∧
    (s.comTakes port 0x406 p r → ∀ t : Byte, p.payload = [t] →
      s.answers (.amb port) port p 0 [] (fun u => u.get Fld.DRV_AMB_AMB = t.toNat ∧ u.flag Fld.DRV_AMB_STALE = false ∧
        u.drv.ambAt = s.now ∧ u.get Fld.DRV_AMB_FAIL_T = s.get Fld.DRV_AMB_FAIL_T ∧ s.sameBut u [Reg.DRV_AMB])) ∧
    (s.comTakes port 0x500 p r → ∀ (en : Bool) (m : Nat), m < 65536 → p.payload = [if en then 1 else 0, 0] ++ leBytes 2 m →
      s.answers (.stream port) port p 0 [] (fun u => u.flag Fld.WIT_STREAM_EN = en ∧ u.get Fld.WIT_STREAM_OMASK = m ∧
        u.hst.streamPort = port.val ∧ u.hst.streamTo = p.source)) ∧
    (s.comTakes port 0x503 p r → ∀ n : Fin 48, p.payload = [BitVec.ofNat 8 n.val] →
      ((s.wit.capturing = none ∨ s.wit.waveCut.isSome = true) → s.answers (.waveArm port) port p 0 [] (fun u => u.flag Fld.WIT_WAVE_ARM = true ∧ u.get Fld.WIT_WAVE_CH = n.val ∧
        s.sameBut u [Reg.WIT_WAVE])) ∧
      (s.wit.capturing.isSome = true → s.wit.waveCut = none → s.answers (.waveArm port) port p 0 [] (fun u => s.sameBut u [])))

-- ── Calibration, pairs, jobs ──────────────────────────────────────────────────────────────────────────────────────

/-- The opcodes that carry calibration (R302, R304): while a customer key is enrolled each is refused outside BENCH, but for FLO_SET; in BENCH it
sets its registers and stores nothing; with no key enrolled its record is appended to the stored calibration, and its registers are set.
A PRF_SET is applied at once: the active copy holds what the shadow holds (R193). -/
def Obligations.CalibrationOpcodes : Prop :=
  ∀ (s : State) (port : Fin 5) (p : Packet) (r : List Packet) (op : Nat) (c : Instr),
    (op, c) ∈ [(0x200, Instr.whlSet port), (0x201, .wdSet port), (0x202, .trkSet port), (0x207, .voteSet port), (0x300, .cylSet port),
      (0x400, .prfSet port), (0x402, .drvSet port), (0x403, .chSet port), (0x404, .thermSet port), (0x508, .witSet port),
      (0x509, .detSet port), (0x600, .floSet port), (0x606, .vlistSet port)] →
    s.comTakes port op p r →
    (s.anyKey = true → s.st ≠ 9 → op ≠ 0x600 → s.answers c port p stForbids [] (fun u => u = s.taken port)) ∧
    ((s.anyKey = false ∨ s.st = 9 ∨ op = 0x600) → (op = 0x600 → s.pairForbids (BitVec.ofNat 32 (leAt p.payload 12 4)) = false) →
      (s.taken port).checkRecord (s.taken port) op p.payload = 0 →
      (s.anyKey = true → s.answers c port p 0 [] (fun u => u = (s.taken port).applyRecord op p.payload ∧
        (op = 0x400 → ∀ q : Fin 16, byteAt p.payload 0 = q.val → u.shadowProfile q.val =
          { cfg := u.word (Reg.PRF_ACT_CFG q), reg := u.word (Reg.PRF_ACT_REG q), boost := u.word (Reg.PRF_ACT_BOOST q)
            peak := u.word (Reg.PRF_ACT_PEAK q), drop := u.word (Reg.PRF_ACT_DROP q), hold := u.word (Reg.PRF_ACT_HOLD q)
            fin := u.word (Reg.PRF_ACT_END q), batt := u.word (Reg.PRF_ACT_BATT q) }))) ∧
      (s.anyKey = false → s.calBody.length + (CalRec.bytes ⟨op, p.payload⟩).length ≤ calLimit →
        s.answers c port p 0 [] (fun u => ∃ w, (s.taken port).appendRecord ⟨op, p.payload⟩ = some w ∧ u = w.applyRecord op p.payload)))

/-- An accepted record is appended to the stored calibration, unsigned, with CAL_VER unchanged (R304): the records of the store are those
before it and it, in this order. -/
def Obligations.StoredCalibrationGrows : Prop :=
  ∀ (s w : State) (c : CalRec) (l : List CalRec), s.sec.calHalf < 2 → c.typ < 65536 → c.data.length < 65536 →
    recordsOf s.calBody.length s.calBody = some l → s.calVer < 2 ^ 32 → s.appendRecord c = some w →
    w.calRecords = s.calRecords ++ [c] ∧ w.calVer = s.calVer ∧ w.calKey = 0xFF ∧ w.calStored = true

/-- Opcodes of the pair and of the system's tables (R248, R261, R262, R282). HANDOVER on the cope asks its drag with reason 6, or counts the case
where the drag's HEART shows READY = 0; a request in progress is joined. ROUTE_SET and MC_SET write words of their tables, LTRIM the trim of the
node's own domain, at the next forward wrap or at once while the tracker is STOPPED, and each change raises FLO_EPOCH by 1; on a node that is MINORITY, and from a
CMD cell whose sender does not report AUTH = 1 with a higher epoch, the three are refused. -/
def Obligations.PairOpcodes : Prop :=
  ∀ (s : State) (port : Fin 5) (p : Packet) (r : List Packet),
    (s.comTakes port 0x601 p r → s.isCope = false → s.answers (.handover port) port p stForbids [] (fun u => u = s.taken port)) ∧
    (s.comTakes port 0x601 p r → s.isCope = true → p.payload = [0xA5] → s.flo.handover.isSome = true →
      s.answers (.handover port) port p 0 [] (fun u => u = s.taken port)) ∧
    (s.comTakes port 0x601 p r → s.isCope = true → p.payload = [0xA5] → s.flo.handover = none →
      (s.flag Fld.FLO_PAIRSTAT_P_READY = true → s.answers (.handover port) port p 0 [] (fun u =>
        u.flo.handover = some { reason := 6, th := s.domTime + 640 * s.get Fld.FLO_PAIR_HO_LEAD, giving := true })) ∧
      (s.flag Fld.FLO_PAIRSTAT_P_READY = false → s.answers (.handover port) port p 0 [] (fun u =>
        u.flo.handover = none ∧ u.get Fld.FLO_PAIR_CNT_REFUSED = (s.get Fld.FLO_PAIR_CNT_REFUSED + 1) % 256 ∧
        s.sameBut u [Reg.FLO_PAIR_CNT]))) ∧
    (∀ c op, (op, c) ∈ [(0x602, Instr.routeSet port), (0x603, .mcSet port), (0x604, .ltrim port)] → s.comTakes port op p r →
      s.settingsForbid port p = true → s.answers c port p stForbids [] (fun u => u = s.taken port)) ∧
    (∀ (first : Nat) (l : List Word), l ≠ [] → s.settingsForbid port p = false → p.payload = leBytes 2 first ++ leBytes 2 l.length ++ wordBytes l →
      (s.comTakes port 0x602 p r → l.length ≤ 255 → first + l.length ≤ 256 → s.answers (.routeSet port) port p 0 [] (fun u =>
        (∀ k, k < l.length → u.word (Reg.FLO_RT (first + k)) = l.getD k 0) ∧
        u.get Fld.FLO_EPOCH_EPOCH = (s.get Fld.FLO_EPOCH_EPOCH + 1) % 2 ^ 32 ∧
        s.sameBut u (Reg.FLO_EPOCH :: (List.range l.length).map (fun k => Reg.FLO_RT (first + k))))) ∧
      (s.comTakes port 0x603 p r → first + l.length ≤ 64 → s.answers (.mcSet port) port p 0 [] (fun u =>
        (∀ k, k < l.length → u.word (Reg.FLO_MC (first + k)) = l.getD k 0) ∧
        u.get Fld.FLO_EPOCH_EPOCH = (s.get Fld.FLO_EPOCH_EPOCH + 1) % 2 ^ 32 ∧
        s.sameBut u (Reg.FLO_EPOCH :: (List.range l.length).map (fun k => Reg.FLO_MC (first + k)))))) ∧
    (s.comTakes port 0x604 p r → s.settingsForbid port p = false → ∀ d v : Nat, d < 512 → v < 65536 → p.payload = leBytes 2 d ++ leBytes 2 v →
      (d = s.get Fld.FLO_NODE_DOMAIN → s.stopped = false → s.answers (.ltrim port) port p 0 [] (fun u =>
        u.flo.adopt = s.flo.adopt ++ [(Reg.FLO_LTRIM, BitVec.ofNat 32 v)] ∧ u.flag Fld.FLO_SYSSTAT_ADOPT_PEND = true ∧
        u.get Fld.FLO_EPOCH_EPOCH = (s.get Fld.FLO_EPOCH_EPOCH + 1) % 2 ^ 32 ∧ s.sameBut u [Reg.FLO_EPOCH, Reg.FLO_SYSSTAT])) ∧
      (d = s.get Fld.FLO_NODE_DOMAIN → s.stopped = true → s.flo.adopt = [] → s.answers (.ltrim port) port p 0 [] (fun u =>
        u.get Fld.FLO_LTRIM_TRIM = v ∧ u.flo.adopt = [])) ∧
      (d ≠ s.get Fld.FLO_NODE_DOMAIN → s.answers (.ltrim port) port p 0 [] (fun u =>
        u.get Fld.FLO_EPOCH_EPOCH = (s.get Fld.FLO_EPOCH_EPOCH + 1) % 2 ^ 32 ∧ s.sameBut u [Reg.FLO_EPOCH])))

/-- Opcodes that open a job, which is the effect of the opcode's own row (R270, 95_what_each_step_holds.md): ATTEST, FORWARD, IMAGE_LOAD,
IMAGE_ACTIVATE, CAL_LOAD, KEY_ENROL, DECOMMISSION, LOOPBACK and SELFTEST. Each is answered PENDING, or AWAIT_PRESENCE where the opcode needs presence
(R285), with the job's ID; with four jobs running, or with another presence job waiting, it is refused with BUSY and has no effect. A fragment of an
image goes into the slot that is not active as it comes, and one of a calibration package into the half that is not current (R295, R302);
FORWARD's packet leaves in CMD cells (R280, R281); a report body is made when ATTEST is handled (R308); a run of the test block begins (R399, R404). -/
def Obligations.JobOpcodes : Prop :=
  ∀ (s : State) (port : Fin 5) (p : Packet) (r : List Packet),
    (s.comTakes port 0x702 p r → ∀ t d : List Byte, s.hasPart port 0x702 t → p.payload = leBytes 4 t.length ++ d → t.length + d.length ≤ 2097152 →
      s.sec.active < 2 →
      (p.flags.testBit 2 = true → s.answers (.imageLoad port) port p 0 [] (fun u =>
        u.bytes (slotAddr (1 - s.sec.active) + t.length) d.length = d ∧
        (u.hst.port port).transfer = some { opcode := 0x702, data := t ++ d, since := s.now } ∧ u.hst.jobs = s.hst.jobs)) ∧
      (p.flags.testBit 2 = false → s.startsJob (.imageLoad port) port p [] false (fun _ u =>
        u.bytes (slotAddr (1 - s.sec.active) + t.length) d.length = d ∧ (u.hst.port port).transfer = none))) ∧
    (s.comTakes port 0x704 p r → ∀ t d : List Byte, (s.st = 4 ∨ s.st = 8 ∨ s.st = 9) → s.hasPart port 0x704 t →
      p.payload = leBytes 4 t.length ++ d → t.length + d.length ≤ 64 + calLimit + 8240 →
      (p.flags.testBit 2 = true → s.answers (.calLoad port) port p 0 [] (fun u =>
        u.bytes (calAddr (1 - s.sec.calHalf) + t.length) d.length = d ∧
        (u.hst.port port).transfer = some { opcode := 0x704, data := t ++ d, since := s.now } ∧ u.hst.jobs = s.hst.jobs)) ∧
      (p.flags.testBit 2 = false → s.startsJob (.calLoad port) port p (t ++ d) false (fun _ u =>
        u.bytes (calAddr (1 - s.sec.calHalf) + t.length) d.length = d ∧ (u.hst.port port).transfer = none))) ∧
    (s.comTakes port 0x703 p r → s.mayActivate = true → ∀ v : Nat, v < 2 ^ 32 → p.payload = leBytes 4 v → s.slotFwVer s.otherSlot = v →
      s.get (slotCode s.otherSlot) = 0 → s.startsJob (.imageActivate port) port p [] true (fun i u =>
        u.flag Fld.PKT_JOBS_PRES_WAIT = true ∧ u.get Fld.PKT_JOBS_PRES_ID = i)) ∧
    (s.comTakes port 0x705 p r → ∀ t d : List Byte, s.hasPart port 0x705 t → p.payload = leBytes 4 t.length ++ d → t.length + d.length ≤ 8660 →
      (p.flags.testBit 2 = true → s.presenceWaits = false → s.answers (.keyEnrol port) port p 0 [] (fun u =>
        (u.hst.port port).transfer = some { opcode := 0x705, data := t ++ d, since := s.now } ∧ u.hst.jobs = s.hst.jobs ∧ s.sameBut u [])) ∧
      (p.flags.testBit 2 = false → keyRecordCheck (t ++ d) = 0 → s.startsJob (.keyEnrol port) port p (t ++ d) true (fun i u =>
        u.flag Fld.PKT_JOBS_PRES_WAIT = true ∧ u.get Fld.PKT_JOBS_PRES_ID = i))) ∧
    (s.comTakes port 0x706 p r → (s.st = 4 ∨ s.st = 8) → p.payload = [] → s.startsJob (.decommission port) port p [] true (fun i u =>
      u.flag Fld.PKT_JOBS_PRES_WAIT = true ∧ u.get Fld.PKT_JOBS_PRES_ID = i)) ∧
    (s.comTakes port 0x507 p r → p.payload.length = 32 →
      ((∀ j ∈ s.hst.jobs, j.opcode ≠ 0x507) → s.startsJob (.attest port) port p (s.reportBody p.payload) false (fun _ u =>
        ∀ k, k < 8 → u.word (Reg.WIT_MORHK k) = BitVec.ofNat 32 (leAt s.chainHead (4 * k) 4))) ∧
      ((∃ j ∈ s.hst.jobs, j.opcode = 0x507) → s.answers (.attest port) port p stBusy [] (fun u => u = s.taken port))) ∧
    (s.comTakes port 0x605 p r → ∀ (dst : Nat) (b : List Byte), dst < 4096 → 12 ≤ b.length → p.payload = leBytes 2 dst ++ [0, 0] ++ b →
      (setsSystem b = true → s.flag Fld.FLO_SYSSTAT_AUTHORITY = true) →
      s.startsJob (.forward port) port p p.payload false (fun _ u => s.floeOn = true → dst ≠ s.get Fld.FLO_NODE_NODE_ID →
        s.portUp (s.routeOf dst) = true → (s.floPort (s.routeOf dst)).queue.length + (b.length + 47) / 48 ≤ 32 →
        ∃ l, (u.floPort (s.routeOf dst)).queue = (s.floPort (s.routeOf dst)).queue ++ l ∧ l.length = (b.length + 47) / 48 ∧
          ∀ k c, l[k]? = some c → c.typ = 4 ∧ c.dst = dst ∧ c.src = s.get Fld.FLO_NODE_NODE_ID ∧ c.hops = 0 ∧
            c.payload = leBytes 1 k ++ [if k + 1 = (b.length + 47) / 48 then 1 else 0] ++ leBytes 2 s.hst.tag ++ (b.drop (48 * k)).take 48)) ∧
    (s.comTakes port 0x902 p r → s.st = 9 → p.payload = [] → s.tstRun = 0 →
      s.startsJob (.selftest port) port p [] false (fun _ u => u.tstRun = 3)) ∧
    (s.comTakes port 0x900 p r → p.payload.length = 20 → s.loopForbidden port p.source p.payload = false → loopValues p.payload = true →
      (¬(byteAt p.payload 0 = 0 ∧ byteAt p.payload 2 = 2) → s.tstRun = 0 →
        s.startsJob (.loopback port) port p p.payload false (fun _ u => u.tstRun = 1 ∧ u.get Fld.TST_STAT_IF = byteAt p.payload 0 ∧
          u.get Fld.TST_STAT_DEPTH = byteAt p.payload 2 ∧ u.get Fld.TST_LBCNT_SENT = 1 ∧ u.get Fld.TST_LBCNT_GOOD = 0 ∧
          u.get Fld.TST_LBERR_BAD = 0)) ∧
      (byteAt p.payload 0 = 0 → byteAt p.payload 2 = 2 → ∃ l : List Byte, l.length = leAt p.payload 6 2 ∧
        s.answers (.loopback port) port p 0 (zeros 3 ++ l) (fun u => s.sameBut u [])))

/-- SIM in BENCH sets the simulator's registers (R53), and OUTPUT_TEST in BENCH starts the test of a channel that no shot drives: the
channel is on at its ramp, and the reply comes when the test ends (R401, R402). Outside BENCH both are refused. -/
def Obligations.BenchOpcodes : Prop :=
  ∀ (s : State) (port : Fin 5) (p : Packet) (r : List Packet),
    (s.comTakes port 0x901 p r → s.st ≠ 9 → s.answers (.sim port) port p stForbids [] (fun u => u = s.taken port)) ∧
    (s.comTakes port 0x901 p r → s.st = 9 → ∀ l : List Word, l.length = 7 → p.payload = wordBytes l →
      (s.taken port).checkRegs (s.taken port) (simWords.zip l) = 0 →
      ((s.taken port).regEffect Reg.WHL_SIM_ANG (l.getD 1 0)).checkRegs ((s.taken port).regEffect Reg.WHL_SIM_ANG (l.getD 1 0))
        (simWords.zip l) = 0 →
      s.answers (.sim port) port p 0 [] (fun u => u.word Reg.WHL_SIM_CTRL = (l.getD 0 0) &&& 0x3F ∧
        (s.flag Fld.WHL_SIM_CTRL_RUN = false → u.get Fld.WHL_SIM_ANG_ANGLE = fieldOf Fld.WHL_SIM_ANG_ANGLE (l.getD 1 0)) ∧
        u.get Fld.WHL_SIM_FLT_DROP_N = fieldOf Fld.WHL_SIM_FLT_DROP_N (l.getD 6 0) ∧
        u.get Fld.WHL_SIM_FLT_CAM_OFF = fieldOf Fld.WHL_SIM_FLT_CAM_OFF (l.getD 6 0) ∧
        (∀ f, f ∈ [Fld.WHL_SIM_FLT_DROP, Fld.WHL_SIM_FLT_EXTRA, Fld.WHL_SIM_FLT_FLIP] → u.flag f = (s.flag f || fieldOf f (l.getD 6 0) != 0)) ∧
        u.get Fld.WHL_SIM_RATE_RATE = (l.getD 2 0).toNat ∧
        u.get Fld.WHL_SIM_TGT_TGT = (l.getD 3 0).toNat ∧ u.get Fld.WHL_SIM_ACC_ACC = (l.getD 4 0).toNat ∧
        u.get Fld.WHL_SIM_AMP_AMP = fieldOf Fld.WHL_SIM_AMP_AMP (l.getD 5 0))) ∧
    (s.comTakes port 0x407 p r → s.st ≠ 9 → s.answers (.outputTest port) port p stForbids [] (fun u => u = s.taken port)) ∧
    (s.comTakes port 0x407 p r → s.st = 9 → s.partnerDrives = false → p.payload.length = 16 → s.otOk p.payload = true → s.tstRun = 0 →
      s.phase (byteAt p.payload 0) = 0 →
      s.does (.outputTest port) (fun u => u.tstRun = 2 ∧ u.tst.otPkt = some p ∧ u.tst.otPort = port.val ∧ u.tst.otAt = s.now ∧
        u.phase (byteAt p.payload 0) = 2 ∧ (u.chan (byteAt p.payload 0)).lowSide = true ∧
        ∀ q, (u.hst.port q).outq = (s.hst.port q).outq))

/-- The fast path (R124–R128): SET_WRITE puts descriptors into the shadow slots of a cylinder whose transaction is then open, or with
CLOSE closed where its set passes; with REPLACE the other slots of the range lose EN. SET_CLOSE and SET_ABORT end transactions, and SET_CLOSE
answers which stay open; SHOT_CANCEL cancels armed slots; DEMAND takes the demand words and counts the update. In SAFE every one is refused
with STATE_FORBIDS (R18), and with demand mode on, or on a drag, those that write sets are (R124, R246). -/
def Obligations.FastPathOpcodes : Prop :=
  ∀ (s : State) (port : Nat) (p : Packet),
    (∀ c op, (op, c) ∈ [(0x3F0, Instr.setWrite), (0x3F1, .setClose), (0x3F2, .setAbort), (0x3F3, .shotCancel), (0x3F4, .demand)] →
      (s.hst.fpq.head? = some (port, p) → p.opcode = op → s.st = 8 → s.answersFast c port p stForbids [] (fun u => u = s.fastTaken)) ∧
      (op ≠ 0x3F4 → s.fastTakes op port p → s.setsForbidden = true → s.answersFast c port p stForbids [] (fun u => u = s.fastTaken))) ∧
    (s.fastTakes 0x3F0 port p → s.setsForbidden = false →
      ∀ (cyl : Fin 24) (close replace : Bool) (first n : Nat) (l : List Word), 0 < n → n ≤ 63 → l.length = 4 * n →
      p.payload = [BitVec.ofNat 8 (cyl.val + 1), (if close then 1 else 0) + (if replace then 2 else 0)] ++ leBytes 2 first ++ wordBytes l →
      (∀ k d, k < n → d = (⟨(l.getD (4 * k) 0).toNat, (l.getD (4 * k + 1) 0).toNat, (l.getD (4 * k + 2) 0).toNat, (l.getD (4 * k + 3) 0).toNat⟩ : Desc) →
        s.testOutside d = false ∧ s.descOk d = true ∧ (d.en = true → d.reserved = false)) →
      first + n ≤ s.slotCnt cyl.val → s.slotBase cyl.val + s.slotCnt cyl.val ≤ 2048 → first < 65536 →
      ∃ st, (st = 0 ∨ (close = true ∧ st = stOutOfRange)) ∧ s.answersFast .setWrite port p st [] (fun u =>
        (u.txnOpen cyl.val = true ↔ close = false ∨ st ≠ 0) ∧
        (∀ k, k < 4 * n → u.word (Reg.SCH_SHADOW (s.slotBase cyl.val + first + k / 4) (k % 4)) = l.getD k 0) ∧
        (∀ m w, m < 2048 → w < 4 → (m < s.slotBase cyl.val + first ∨ s.slotBase cyl.val + first + n ≤ m) →
          u.word (Reg.SCH_SHADOW m w) = (if replace && w == 0 && decide (m ∈ s.slotsOf cyl.val) then s.word (Reg.SCH_SHADOW m w) &&& 0x7FFFFFFF
            else s.word (Reg.SCH_SHADOW m w))))) ∧
    (s.fastTakes 0x3F1 port p → s.setsForbidden = false → ∀ m : Nat, m < 2 ^ 24 → p.payload = leBytes 4 m →
      (m &&& (s.fastTaken.closeTxns m).get Fld.SCH_TXN_OPEN = 0 →
        s.answersFast .setClose port p 0 [] (fun u => u = s.fastTaken.closeTxns m ∧
          ∀ c : Fin 24, m.testBit c.val = true → u.txnOpen c.val = false)) ∧
      (m &&& (s.fastTaken.closeTxns m).get Fld.SCH_TXN_OPEN ≠ 0 →
        s.answersFast .setClose port p stOutOfRange (leBytes 3 (m &&& (s.fastTaken.closeTxns m).get Fld.SCH_TXN_OPEN))
          (fun u => u = s.fastTaken.closeTxns m))) ∧
    (s.fastTakes 0x3F2 port p → s.setsForbidden = false → ∀ m : Nat, m < 2 ^ 24 → p.payload = leBytes 4 m →
      s.answersFast .setAbort port p 0 [] (fun u => ∀ c : Fin 24, m.testBit c.val = true → u.txnOpen c.val = false)) ∧
    (s.fastTakes 0x3F3 port p → s.setsForbidden = false → ∀ (cyl : Fin 24) (first m : Nat), first < 65536 → m < 2 ^ 32 →
      s.slotBase cyl.val + s.slotCnt cyl.val ≤ 2048 →
      p.payload = [BitVec.ofNat 8 (cyl.val + 1), 0] ++ leBytes 2 first ++ leBytes 4 m →
      s.answersFast .shotCancel port p 0 [] (fun u =>
        ∀ k, k < 32 → m.testBit k = true → first + k < s.slotCnt cyl.val →
          u.armed (s.slotBase cyl.val + first + k) = false ∧
          (s.armed (s.slotBase cyl.val + first + k) = true → u.fired (s.slotBase cyl.val + first + k) = true))) ∧
    (s.fastTakes 0x3F4 port p → s.isDrag = false → ∀ (w0 w1 w2 : Word) (off : Nat), off < 2 ^ 24 →
      p.payload = wordBytes [w0, w1, w2] ++ leBytes 3 off ++ [0] → w0.toNat % 256 ≤ 1 → w0.toNat / 256 % 256 ≤ 1 →
      (w2.toNat / 65536 ≠ 0xFFFF ∨ ∃ e, e ∈ s.cal.press ∧ e.1 = 1) →
      s.answersFast .demand port p 0 [] (fun u => u.word Reg.SCH_DEM0 = w0 ∧ u.word Reg.SCH_DEM1 = w1 ∧ u.word Reg.SCH_DEM2 = w2 ∧
        u.get Fld.SCH_DEM3_CYL_OFF = off ∧ u.get Fld.SCH_DEM3_UPD = (s.get Fld.SCH_DEM3_UPD + 1) % 256))

-- ── Transports (R272–R281, R289) ──────────────────────────────────────────────────────────────────────────────────

/-- SPI transfers (R272–R274): a packet write that is cut short is dropped and counted, and one whole goes to the port; a packet read shifts
out the packet at the head of the outbound queue, which leaves once all its bytes have gone; register-mode reads answer status, data and CRC;
register-mode writes record their status, and write the host area; with REGMODE = 0 neither is acted on; every transfer shows its mode and shifts out the status byte; a command byte of another code counts in FRAME. -/
def Obligations.SpiTransfers : Prop :=
  ∀ (s : State) (dt : Nat) (mode3 : Bool),
    (∀ (bytes : List Byte) (n : Nat), (s.advance dt).portServed 0 = true → bytes.head? = some 0xC7 → 0 < n → n ≤ bytes.length →
      ((n < 8 ∨ n < 12 + leAt bytes 6 2) → s.does (.spiPacketWrite dt bytes n mode3) (fun u =>
        u.get Fld.PKT_STAT_DROPPED = ((s.advance dt).get Fld.PKT_STAT_DROPPED + 1) % 2 ^ Fld.PKT_STAT_DROPPED.w ∧
        u.hst.ports = (s.advance dt).hst.ports ∧ u.hst.fpq = (s.advance dt).hst.fpq)) ∧
      (8 ≤ n → 12 + leAt bytes 6 2 ≤ n → s.does (.spiPacketWrite dt bytes n mode3) (fun u =>
        u = ((s.advance dt).spiBegin mode3 []).receivePacket 0 [] (bytes.take n)))) ∧
    (∀ (clocks : Nat) (d b : List Byte) (r : List (List Byte × List Byte)), (s.advance dt).portServed 0 = true →
      ((s.advance dt).hst.port 0).outq = (d, b) :: r → b ≠ [] →
      (b.length ≤ clocks → s.does (.spiPacketRead dt clocks mode3) (fun u =>
        u.hst.spiOut = (s.advance dt).spiStatus :: (b ++ zeros (clocks - b.length)) ∧
        ∃ l, (u.hst.port 0).outq = r ++ l ∧ ((∀ e, e ∈ ((s.advance dt).hst.port 0).late → e.1 ≠ 0) → l = []))) ∧
      (clocks < b.length → s.does (.spiPacketRead dt clocks mode3) (fun u =>
        u.hst.spiOut = (s.advance dt).spiStatus :: b.take clocks ∧ u.hst.ports = (s.advance dt).hst.ports))) ∧
    (∀ clocks : Nat, (s.advance dt).portServed 0 = true → ((s.advance dt).hst.port 0).outq = [] →
      s.does (.spiPacketRead dt clocks mode3) (fun u => u.hst.spiOut = (s.advance dt).spiStatus :: zeros clocks ∧
        u.hst.ports = (s.advance dt).hst.ports)) ∧
    (∀ (a : Nat), (s.advance dt).spiLive = true → (s.advance dt).flag Fld.HST_SPI_CFG_REGMODE = true → 3 ≤ (s.advance dt).st →
      hostRange a 1 = true → inHostArea a = true →
      s.does (.spiRegRead dt (let b := leBytes 1 0xA1 ++ leBytes 4 a; b ++ leBytes 4 (crc32c b).toNat) mode3) (fun u =>
        u.hst.spiOut = (s.advance dt).spiStatus :: (let b := [0] ++ (s.advance dt).bytes a 4; b ++ leBytes 4 (crc32c b).toNat))) ∧
    (∀ (a : Nat) (v : Word), (s.advance dt).spiLive = true → (s.advance dt).flag Fld.HST_SPI_CFG_REGMODE = true → 3 ≤ (s.advance dt).st →
      hostRange a 1 = true → inHostArea a = true →
      s.does (.spiRegWrite dt (let b := leBytes 1 0xA2 ++ leBytes 4 a ++ leBytes 4 v.toNat; b ++ leBytes 4 (crc32c b).toNat) mode3) (fun u =>
        u.bytes a 4 = leBytes 4 v.toNat ∧ u.get Fld.HST_SPI_STAT_REG_STATUS = 0 ∧ u.hst.spiOut = [(s.advance dt).spiStatus] ∧
        ∀ b, b < a ∨ a + 4 ≤ b → u.byte b = (s.advance dt).byte b)) ∧
    (∀ (b : List Byte) (st : Nat), (s.advance dt).spiLive = true → st ≠ 0 →
      ((s.advance dt).regMode 0xA1 9 b = true → (s.advance dt).regRequest b 5 = st → s.does (.spiRegRead dt b mode3) (fun u =>
        u.hst.spiOut = (s.advance dt).spiStatus :: regAnswer st 0 ∧ (s.advance dt).sameBut u [Reg.HST_SPI_STAT])) ∧
      ((s.advance dt).regMode 0xA2 13 b = true → (s.advance dt).regRequest b 9 = st → s.does (.spiRegWrite dt b mode3) (fun u =>
        u.get Fld.HST_SPI_STAT_REG_STATUS = st ∧ (s.advance dt).sameBut u [Reg.HST_SPI_STAT]))) ∧
    (∀ b : List Byte, (s.advance dt).spiLive = true → (s.advance dt).flag Fld.HST_SPI_CFG_REGMODE = false →
      ∀ c, c ∈ [Instr.spiRegRead dt b mode3, .spiRegWrite dt b mode3] → s.does c (fun u =>
        u.hst.spiOut = [(s.advance dt).spiStatus] ∧ u.flag Fld.HST_SPI_STAT_MODE = mode3 ∧ (s.advance dt).sameBut u [Reg.HST_SPI_STAT])) ∧
    (∀ (c : Byte), (s.advance dt).portServed 0 = true → c ∉ [0xC7, 0x3C, 0xA1, 0xA2] →
      s.does (.spiUnknownCommand dt c mode3) (fun u =>
        u.get Fld.HST_SPI_STAT_FRAME = ((s.advance dt).get Fld.HST_SPI_STAT_FRAME + 1) % 2 ^ Fld.HST_SPI_STAT_FRAME.w ∧
        (s.advance dt).sameBut u [Reg.HST_SPI_STAT]))

/-- Frames and what leaves a port (R209, R269, R271, R276–R279, R289). A first CAN frame starts a reassembly, in place of a part that stands; an only frame is a packet; frames in sequence add to the
part, and the last one makes the packet; a frame out of sequence discards the part, and a part that stands for 100 ms is discarded; changes of the error state and of PLCA are shown; a frame for
another address does nothing. A fragmented transfer of 1 s is discarded; the next packet of a queue leaves, on
CAN in its frames, over Floe in cells of type CMD or LOG; a stream notice takes
the port's notice counter and the records that await streaming. -/
def Obligations.TransportFrames : Prop :=
  (∀ (s : State) (dt : Nat),
    (∀ (x : Fin 2) (ident : BitVec 29) (d : List Byte), (s.advance dt).canAccepts x true ident.toNat = true → d.length ≤ 64 →
      (ident.toNat / 8192 % 4 = 1 → d.head? = some 0 → (s.advance dt).canPart x = none →
        s.does (.canFrameRx dt x true ident d) (fun u =>
          u.canPart x = some { bytes := d.drop 1, next := 1, since := (s.advance dt).now } ∧ (s.advance dt).sameBut u [])) ∧
      (ident.toNat / 8192 % 4 = 0 → d.head? = some 0 → (s.advance dt).canPart x = none →
        s.does (.canFrameRx dt x true ident d) (fun u => u = (s.advance dt).receivePacket (x + 1) [] (d.drop 1))) ∧
      (ident.toNat / 8192 % 4 = 1 → d.head? = some 0 → (s.advance dt).canPart x ≠ none →
        s.does (.canFrameRx dt x true ident d) (fun u =>
          u.canPart x = some { bytes := d.drop 1, next := 1, since := (s.advance dt).now } ∧
          u.get (Fld.HST_CAN_STAT_REASM_DROP x) = ((s.advance dt).get (Fld.HST_CAN_STAT_REASM_DROP x) + 1) %
            2 ^ (Fld.HST_CAN_STAT_REASM_DROP x).w)) ∧
      (∀ part : CanPart, (s.advance dt).canPart x = some part → (s.advance dt).passed part.since (100 * msTicks) = false → d ≠ [] →
        byteAt d 0 = part.next → part.bytes.length + d.length ≤ 1037 →
        (ident.toNat / 8192 % 4 = 2 → s.does (.canFrameRx dt x true ident d) (fun u =>
          u.canPart x = some { bytes := part.bytes ++ d.drop 1, next := (part.next + 1) % 256, since := (s.advance dt).now } ∧
          (s.advance dt).sameBut u [])) ∧
        (ident.toNat / 8192 % 4 = 3 → s.does (.canFrameRx dt x true ident d) (fun u =>
          u = ((s.advance dt).setCanPart x none).receivePacket (x + 1) [] (packetPart (part.bytes ++ d.drop 1))))) ∧
      (2 ≤ ident.toNat / 8192 % 4 → (s.advance dt).canPart x = none → s.does (.canFrameRx dt x true ident d) (fun u => u = s.advance dt)) ∧
      (2 ≤ ident.toNat / 8192 % 4 → ∀ part : CanPart, (s.advance dt).canPart x = some part → byteAt d 0 ≠ part.next →
        s.does (.canFrameRx dt x true ident d) (fun u => u.canPart x = none ∧
          u.get (Fld.HST_CAN_STAT_REASM_DROP x) = ((s.advance dt).get (Fld.HST_CAN_STAT_REASM_DROP x) + 1) %
            2 ^ (Fld.HST_CAN_STAT_REASM_DROP x).w))) ∧
    (∀ (x : Fin 2) (ext : Bool) (ident : BitVec 29) (d : List Byte), (s.advance dt).canAccepts x ext ident.toNat = false →
      s.leaves (.canFrameRx dt x ext ident d) (fun t => t = s.advance dt)) ∧
    (∀ (x : Fin 2) (part : CanPart), (s.advance dt).canPart x = some part → (s.advance dt).passed part.since (100 * msTicks) = true →
      s.does (.canReasmTimeout dt x) (fun u => u.canPart x = none ∧ (s.advance dt).sameBut u [Reg.HST_CAN_STAT x])) ∧
    (∀ (x : Fin 2) (st : Fin 3) (tec rec : Byte), (s.advance dt).portServed (x.val + 1) = true →
      s.does (.canErrorState dt x st tec rec) (fun u => u.get (Fld.HST_CAN_STAT_STATE x) = st ∧ u.get (Fld.HST_CAN_STAT_TEC x) = tec.toNat ∧
        u.get (Fld.HST_CAN_STAT_REC x) = rec.toNat ∧ (s.advance dt).sameBut u [Reg.HST_CAN_STAT x])) ∧
    (∀ (src b : List Byte), (s.advance dt).portServed 3 = true →
      s.does (.t1sFrameRx dt (s.advance dt).macBytes src 0x88B5 true b) (fun u => u = (s.advance dt).receivePacket 3 src b)) ∧
    (∀ (src dst b : List Byte) (ty : Nat), (s.advance dt).portServed 3 = true → (dst ≠ (s.advance dt).macBytes ∨ ty ≠ 0x88B5) →
      s.leaves (.t1sFrameRx dt dst src ty true b) (fun t => t = s.advance dt)) ∧
    (∀ (src dst b : List Byte) (ty : Nat), (s.advance dt).portServed 3 = true →
      s.leaves (.t1sFrameRx dt dst src ty false b) (fun t =>
        t.get Fld.HST_T1S_STAT_FCS_ERR = ((s.advance dt).get Fld.HST_T1S_STAT_FCS_ERR + 1) % 2 ^ Fld.HST_T1S_STAT_FCS_ERR.w ∧
        (s.advance dt).sameBut t [Reg.HST_T1S_STAT])) ∧
    (∀ (b : Bool), (s.advance dt).portServed 3 = true → ((s.advance dt).flag Fld.HST_T1S_CFG_PLCA_EN = true ∨ b = false) →
      (s.advance dt).flag Fld.HST_T1S_STAT_PLCA_ACTIVE = !b →
      s.does (.plcaStatus dt b) (fun u => u.flag Fld.HST_T1S_STAT_PLCA_ACTIVE = b ∧ (s.advance dt).sameBut u [Reg.HST_T1S_STAT]))) ∧
  (∀ (s : State) (dt : Nat),
    (∀ (port : Fin 5) (t : Transfer), ((s.advance dt).hst.port port).transfer = some t → (s.advance dt).passed t.since (1000 * msTicks) = true →
      s.leaves (.fragmentTimeout dt port) (fun u => (u.hst.port port).transfer = none ∧
        (u.hst.port port).inq = ((s.advance dt).hst.port port).inq ∧ (s.advance dt).sameBut u [])) ∧
    (∀ (port : Fin 5) (d b : List Byte) (r : List (List Byte × List Byte)), ((s.advance dt).hst.port port).outq = (d, b) :: r →
      0 < port.val → port.val < 4 → (s.advance dt).portServed port = true →
      (port.val < 3 → (s.advance dt).get (Fld.HST_CAN_STAT_STATE (port.val - 1)) < 2) →
      s.does (.packetTransmitDone dt port) (fun u =>
        (∃ l, (u.hst.port port).outq = r ++ l ∧ ((∀ e, e ∈ ((s.advance dt).hst.port port).late → e.1 ≠ 0) → l = [])) ∧
        (port.val < 3 → spGet (fun _ => []) u.hst.canOut (port.val - 1) = (s.advance dt).canFrames (port.val - 1) b) ∧
        (s.advance dt).sameBut u [])) ∧
    (∀ d b : List Byte, (s.advance dt).nextToLeave 4 = some (d, b) → (s.advance dt).portServed 4 = true →
      s.does (.packetTransmitDone dt 4) (fun u =>
        (∃ l, (u.hst.port 4).outq = ((s.advance dt).hst.port 4).outq.erase (d, b) ++ l ∧
          ((∀ e, e ∈ ((s.advance dt).hst.port 4).late → e.1 ≠ 0) → l = [])) ∧ u.hst.tag = ((s.advance dt).hst.tag + 1) % 65536 ∧
        ((s.advance dt).routeOf (leAt d 0 2) < 4 → leAt d 0 2 ≠ (s.advance dt).get Fld.FLO_NODE_NODE_ID →
          (s.advance dt).portUp ((s.advance dt).routeOf (leAt d 0 2)) = true →
          ((s.advance dt).floPort ((s.advance dt).routeOf (leAt d 0 2))).queue.length + (b.length + 47) / 48 ≤ 32 →
          ∃ l, (u.floPort ((s.advance dt).routeOf (leAt d 0 2))).queue = ((s.advance dt).floPort ((s.advance dt).routeOf (leAt d 0 2))).queue ++ l ∧
            l.length = (b.length + 47) / 48 ∧ ∀ c, c ∈ l → c.typ = if inLogCells b then 5 else 4))) ∧
    ((s.advance dt).mayStream = true → (s.advance dt).streamable ≠ [] →
      s.does (.streamNotice dt) (fun u =>
        u.wit.unsent = (s.advance dt).wit.unsent.filter (fun i => !(runOf 21 (s.advance dt).streamable).contains i) ∧
        (u.hst.port (s.advance dt).hst.streamPort).notice =
          (((s.advance dt).hst.port (s.advance dt).hst.streamPort).notice + 1) % 65536 ∧
        (u.hst.port (s.advance dt).hst.streamPort).outq = ((s.advance dt).hst.port (s.advance dt).hst.streamPort).outq ++
          [((s.advance dt).hst.streamTo, packetBytes 0x80 ((s.advance dt).hst.port (s.advance dt).hst.streamPort).notice 0x502
            (leBytes 1 stOk ++ recordsBody ((runOf 21 (s.advance dt).streamable).headD 0)
              ((runOf 21 (s.advance dt).streamable).filterMap (fun i => (s.advance dt).wit.ring.find? (fun e => e.1 == i)))))])))

-- ── Jobs end (R270, R281, R285, R295–R308) ────────────────────────────────────────────────────────────────────────

/-- How the jobs of ATTEST, IMAGE_LOAD, IMAGE_ACTIVATE, CAL_LOAD, KEY_ENROL, DECOMMISSION and FORWARD end: the job is gone, JOB_STATUS knows its final status, and what the opcode gives has happened. -/
def Obligations.JobsEnd : Prop :=
  ∀ (s : State) (dt : Nat) (j : Job),
    (∀ op, (s.advance dt).endingJob op = some j → j.id < 256 →
      (op = 0x507 → s.does (.attestDone dt) (fun u => (∀ k ∈ u.hst.jobs, k.id ≠ j.id) ∧ spGet (fun _ => 0) u.hst.ended j.id = 1 ∧
        u.sec.report.take j.data.length = j.data)) ∧
      (op = 0x702 → s.does (.imageLoadDone dt) (fun u => (∀ k ∈ u.hst.jobs, k.id ≠ j.id) ∧
        spGet (fun _ => 0) u.hst.ended j.id = 1 + (if ((s.advance dt).verifySlot (s.advance dt).otherSlot).1 then 0 else stVerify) ∧
        u.get (slotCode (s.advance dt).otherSlot) = (s.advance dt).imageCode (s.advance dt).otherSlot % 2 ^ (slotCode (s.advance dt).otherSlot).w)) ∧
      (op = 0x703 → s.does (.activateDone dt) (fun u => (∀ k ∈ u.hst.jobs, k.id ≠ j.id) ∧
        (((s.advance dt).verifySlot (s.advance dt).otherSlot).1 = true → u.sec.active = 1 - (s.advance dt).sec.active ∧ u.sec.trial = true ∧
          u.sec.attempt = false ∧ spGet (fun _ => 0) u.hst.ended j.id = 1 ∧
          u.hst.resetAt = some ((s.advance dt).now + 10 * msTicks)) ∧
        (((s.advance dt).verifySlot (s.advance dt).otherSlot).1 = false → u.sec.active = (s.advance dt).sec.active ∧
          spGet (fun _ => 0) u.hst.ended j.id = 1 + stVerify))) ∧
      (op = 0x704 → s.does (.calLoadDone dt) (fun u => (∀ k ∈ u.hst.jobs, k.id ≠ j.id) ∧
        spGet (fun _ => 0) u.hst.ended j.id = 1 + ((s.advance dt).calJob j.data).1 ∧
        (((s.advance dt).calJob j.data).1 = 0 → u.sec.calHalf = 1 - (s.advance dt).sec.calHalf))) ∧
      (op = 0x705 → s.does (.keyEnrolDone dt) (fun u => (∀ k ∈ u.hst.jobs, k.id ≠ j.id) ∧
        spGet (fun _ => 0) u.hst.ended j.id = 1 + (if (s.advance dt).keyAuthorised j.data then 0 else stVerify) ∧
        ((s.advance dt).keyAuthorised j.data = true → byteAt j.data 1 = 0 → u.keyRec (byteAt j.data 0) = j.data.take 420) ∧
        ((s.advance dt).keyAuthorised j.data = true → byteAt j.data 1 = 1 → u.keyRec (byteAt j.data 0) = []) ∧
        ((s.advance dt).keyAuthorised j.data = false → u.sec.keys = (s.advance dt).sec.keys))) ∧
      (op = 0x706 → s.does (.decommissionDone dt) (fun u => (∀ k ∈ u.hst.jobs, k.id ≠ j.id) ∧
        spGet (fun _ => 0) u.hst.ended j.id = 1 ∧ u.sec.keys = [] ∧
        u.sec.epoch = ((s.advance dt).sec.epoch + 1) % 2 ^ 32 ∧ u.wit.index = 0 ∧ u.wit.head = [] ∧
        (∀ a, calAddr 0 ≤ a → a < calAddr 2 → u.byte a = 0) ∧ u.sec.fuses = (s.advance dt).sec.fuses))) ∧
    ((s.advance dt).hst.jobs.find? (fun k => k.presence != 0) = some j → (s.advance dt).comRuns = true → (s.advance dt).jobMayEnd j = true →
      j.startAt + 30000 * msTicks < (s.advance dt).now → j.id < 256 →
      s.does (.presenceTimeout dt) (fun u => (∀ k ∈ u.hst.jobs, k.id ≠ j.id) ∧ spGet (fun _ => 0) u.hst.ended j.id = 1 + stSealTimeout)) ∧
    (∀ i : Fin 256, (s.advance dt).hst.jobs.find? (fun k => k.id == i.val && k.opcode == 0x605) = some j → (s.advance dt).comRuns = true →
      (s.advance dt).jobMayEnd j = true → (s.advance dt).passed j.startAt (100 * msTicks) = true →
      s.does (.forwardTimeout dt i) (fun u => (∀ k ∈ u.hst.jobs, k.id ≠ i.val) ∧ spGet (fun _ => 0) u.hst.ended i.val = 1 + stBusy)) ∧
    (∀ t, (s.advance dt).hst.resetAt = some t → t ≤ (s.advance dt).now →
      s.leaves (.updateReset dt) (fun u => u.pwr.inReset = true ∧ u.flag Fld.PWR_RSTC_UPDATE = true ∧ u.st = 2))

-- ── The test block (R397–R404) ────────────────────────────────────────────────────────────────────────────────────

/-- The loop-back counts its units (R399); SELFTEST shows the items that failed (R404); the output self-test ends its ramp with the hold, and
without the current in time with result 5, after an overcurrent trip with result 6, and after the hold with the verdict on R and L (R402, R403). -/
def Obligations.TestRows : Prop :=
  ∀ (s : State) (dt : Nat),
    (∀ (good : Bool) (code : Nat), (s.advance dt).unitOut = true → (s.advance dt).passed (s.advance dt).tst.unitAt (10 * msTicks) = false →
      (s.advance dt).get Fld.TST_STAT_IF ≠ 4 → s.does (.loopbackUnitReturn dt good code) (fun u =>
        u.get Fld.TST_LBCNT_GOOD = ((s.advance dt).get Fld.TST_LBCNT_GOOD + (if good then 1 else 0)) % 2 ^ Fld.TST_LBCNT_GOOD.w ∧
        u.get Fld.TST_LBERR_BAD = ((s.advance dt).get Fld.TST_LBERR_BAD + (if good then 0 else 1)) % 2 ^ Fld.TST_LBERR_BAD.w ∧
        (s.advance dt).sameBut u [Reg.TST_LBCNT, Reg.TST_LBERR])) ∧
    (∀ (good : Bool) (code : Nat), (s.advance dt).unitOut = true → (s.advance dt).passed (s.advance dt).tst.unitAt (10 * msTicks) = false →
      (s.advance dt).get Fld.TST_STAT_IF = 4 → (s.advance dt).get Fld.TST_STAT_DEPTH = 0 → s.does (.loopbackUnitReturn dt good code) (fun u =>
        u.get Fld.TST_LBCNT_GOOD = ((s.advance dt).get Fld.TST_LBCNT_GOOD + (if refGood (s.advance dt).tst.sub code then 1 else 0)) %
          2 ^ Fld.TST_LBCNT_GOOD.w ∧
        u.get Fld.TST_LBERR_BAD = ((s.advance dt).get Fld.TST_LBERR_BAD + (if refGood (s.advance dt).tst.sub code then 0 else 1)) %
          2 ^ Fld.TST_LBERR_BAD.w ∧ (s.advance dt).sameBut u [Reg.TST_LBCNT, Reg.TST_LBERR])) ∧
    ((s.advance dt).unitOut = true → (s.advance dt).passed (s.advance dt).tst.unitAt (10 * msTicks) = true →
      s.does (.loopbackUnitTimeout dt) (fun u =>
        u.get Fld.TST_LBERR_BAD = ((s.advance dt).get Fld.TST_LBERR_BAD + 1) % 2 ^ Fld.TST_LBERR_BAD.w ∧
        (s.advance dt).sameBut u [Reg.TST_LBCNT, Reg.TST_LBERR])) ∧
    ((s.advance dt).tstRun = 1 → (s.advance dt).tst.waiting = false →
      (∀ j, (s.advance dt).hst.jobs.find? (fun j => j.opcode == 0x900) = some j → (s.advance dt).jobMayEnd j = true) →
      s.does (.loopbackDone dt) (fun u => u.tstRun = 0 ∧ u.get Fld.TST_LBCNT_GOOD = (s.advance dt).get Fld.TST_LBCNT_GOOD ∧
        ∀ j, (s.advance dt).hst.jobs.find? (fun j => j.opcode == 0x900) = some j → j.id < 256 →
          (∀ k ∈ u.hst.jobs, k.id ≠ j.id) ∧ spGet (fun _ => 0) u.hst.ended j.id = 1)) ∧
    (∀ (m : BitVec 20) (j : Job), (s.advance dt).runningJob 0x902 = some j → (s.advance dt).tstRun = 3 → (s.advance dt).jobMayEnd j = true →
      s.does (.selftestDone dt m) (fun u => u.tstRun = 0 ∧ u.get Fld.TST_SELF_FAIL =
        (m &&& ~~~ (BitVec.ofNat 20 ((s.advance dt).skipMask j))).toNat % 2 ^ Fld.TST_SELF_FAIL.w)) ∧
    (∀ (v i c : Nat), (s.advance dt).tstRun = 2 → (s.advance dt).tst.otHold = none → (s.advance dt).st = 9 → (s.advance dt).tst.otTrip = false →
      0 < (s.advance dt).tst.otCh → (s.advance dt).tst.otCh ≤ 48 →
      ((s.advance dt).now ≤ (s.advance dt).tst.otAt + usTicks * (s.advance dt).otArg 4 →
        s.does (.outputTestRampEnd dt true v i c) (fun u => u.tst.otHold = some (s.advance dt).now ∧ u.tst.otV = v ∧ u.tst.otI = i ∧
          u.tst.otEnd = c ∧ u.phase ((s.advance dt).tst.otCh - 1) = 4)) ∧
      ((s.advance dt).passed (s.advance dt).tst.otAt (usTicks * (s.advance dt).otArg 4) = true →
        s.does (.outputTestRampEnd dt false v i c) (fun u => u.tstRun = 0 ∧ u.get Fld.TST_OTRES1_RESULT = 5 ∧ u.tst.otPkt = none))) ∧
    (∀ (reached : Bool) (v i c : Nat), (s.advance dt).tstRun = 2 → (s.advance dt).st = 9 → (s.advance dt).tst.otTrip = true →
      0 < (s.advance dt).tst.otCh → ∀ w, w ∈ [Instr.outputTestRampEnd dt reached v i c, .outputTestHoldEnd dt v i] →
      ((s.advance dt).tst.otHold = none ↔ w = .outputTestRampEnd dt reached v i c) →
      s.does w (fun u => u.tstRun = 0 ∧ u.get Fld.TST_OTRES1_RESULT = 6 ∧ u.tst.otPkt = none)) ∧
    (∀ (h mv ma r l : Nat), (s.advance dt).tstRun = 2 → (s.advance dt).tst.otHold = some h → (s.advance dt).st = 9 →
      (s.advance dt).tst.otTrip = false → 0 < (s.advance dt).tst.otCh → (s.advance dt).tst.otCh ≤ 48 →
      (s.advance dt).passed h (usTicks * (s.advance dt).otArg 6) = true → (s.advance dt).otCompute mv ma = some (r, l) →
      s.does (.outputTestHoldEnd dt mv ma) (fun u => u.tstRun = 0 ∧ u.get Fld.TST_OTRES0_R = r % 65536 ∧ u.get Fld.TST_OTRES0_L = l % 65536 ∧
        u.get Fld.TST_OTRES1_RESULT = (if r < (s.advance dt).otArg 8 then 1 else if (s.advance dt).otArg 10 < r then 2
          else if l < (s.advance dt).otArg 12 then 3 else if (s.advance dt).otArg 14 < l then 4 else 0)))

-- ── Accesses of the firmware and the host to single registers ─────────────────────────────────────────────────────

/-- Rows that write one register of the system, the clocks, the trackers and the wheel: what each leaves (R53, R56, R61, R81, R83, R349–R354, R444).
A bit of SYS_FAULT clears when its condition has ended; a gate register takes its value; a tracker that is not stopped enters SEEK; a
bucket loses its training and its count; a table entry is written, or dropped while the table learns, and the index goes on with AUTOINC; the simulator's control takes its bits in BENCH
alone, and where its EN falls the inputs show their pins again; a fault request of the simulator stands. The rows: SYS_FAULT_CLEAR, OP_REQUEST, GATE_WRITE,
FMC_START, BUCKET_UNTRAIN, TRK_CTRL_RESYNC, TBL_DATA_ACCESS, SIM_CTRL_WRITE, SIM_DROP, SIM_EXTRA, SIM_FLIP. -/
def Obligations.SystemRegisterRows : Prop :=
  ∀ s : State,
    (∀ mask : Word, s.does (.sysFaultClear mask) (fun u => (∀ k, k < 32 → (u.word Reg.SYS_FAULT).getLsbD k =
        ((s.word Reg.SYS_FAULT).getLsbD k && !(mask.getLsbD k && decide (k < 11) && !s.faultHolds k &&
          !(s.freshMask Reg.SYS_FAULT).getLsbD k))) ∧ s.sameBut u [Reg.SYS_FAULT])) ∧
    (∀ p : Fin 4, s.does (.opRequest p) (fun u => u.get Fld.CLK_OPREQ_REQ = p.val ∧
      (s.clk.phase = .idle → s.get Fld.PWR_STAT_STAGE < 2 → s.clk.d ≠ opDiv p → u.flag Fld.CLK_STAT_DVFS_BUSY = true))) ∧
    (∀ (i : Fin 2) (v : Word) (host : Bool), s.gateRefused i.val v.toNat host = 0 →
      s.does (.gateWrite i v host) (fun u => (u.word (gateReg i.val)).toNat = v.toNat &&& gateMask i.val)) ∧
    (∀ (i : Fin 2) (v : Word) (host : Bool), s.gateRefused i.val v.toNat host = 0x41 →
      s.does (.gateWrite i v host) (fun u => u.bus.status = stForbids ∧ s.sameBut u [])) ∧
    (∀ v : Word, s.takesWrite Reg.CLK_FMC_CTRL (v ||| 0x1000000) → s.flag Fld.CLK_GATE1_FMC = true →
      s.does (.fmcStart v) (fun u => u.clk.fmcOpen = true ∧ u.clk.fmcFirst = true ∧ u.flag Fld.CLK_FMC_CTRL_NOCLK = false ∧
        u.get Fld.CLK_FMC_CTRL_REF = fieldOf Fld.CLK_FMC_CTRL_REF v ∧ u.get Fld.CLK_FMC_CTRL_TGT = fieldOf Fld.CLK_FMC_CTRL_TGT v ∧
        s.sameBut u [Reg.CLK_FMC_CTRL])) ∧
    (∀ (x : Fin 2) (b : BitVec 8), s.flag Fld.CLK_GATE0_TRK = true →
      s.does (.bucketUntrain x b) (fun u => (∀ k, k < 8 → (u.get (Fld.TRK_LOAD_TRAINED x)).testBit k =
          ((s.get (Fld.TRK_LOAD_TRAINED x)).testBit k && !(b.getLsbD k && !(s.freshMask (Reg.TRK_LOAD x)).getLsbD (16 + k)))) ∧
        (∀ k, k < 8 → spGet (fun _ => 0) (u.trk x).trainCnt k = if b.getLsbD k then 0 else spGet (fun _ => 0) (s.trk x).trainCnt k) ∧
        u.get (Fld.TRK_LOAD_BUCKET x) = s.get (Fld.TRK_LOAD_BUCKET x) ∧ s.sameBut u [Reg.TRK_LOAD x])) ∧
    (∀ x : Fin 2, s.flag Fld.CLK_GATE0_TRK = true → s.get (Fld.TRK_CTRL_SRC x) ≤ 1 →
      (∃ v : State, v.trks = s.trks ∧ s.sameBut v [] ∧ s.does (.trkCtrlResync x) (fun u => u = (v.stopDisabled.resyncTracker x).answer 0)) ∧
      ((∀ y : Fin 2, s.posRev y ≠ 0 ∨ s.get (Fld.TRK_CTRL_SRC y) = 1 ∨ s.trkState y = 0) →
        (s.trkState x = 0 → s.does (.trkCtrlResync x) (fun u => s.sameBut u [] ∧ u.trks = s.trks)) ∧
        (s.trkState x = 2 → ∃ v : State, v.trks = s.trks ∧ s.sameBut v [] ∧ s.does (.trkCtrlResync x) (fun u =>
          u = (((v.restartSearch x).setBefore x none).afterTracker v x false true false).answer 0)) ∧
        (s.trkState x ≠ 0 → s.trkState x ≠ 2 → ∃ v : State, v.trks = s.trks ∧ s.sameBut v [] ∧ s.does (.trkCtrlResync x) (fun u =>
          u = ((((v.setTrkState x 2).restartSearch x).setBefore x none).afterTracker v x false true false).answer 0)))) ∧
    (∀ (x : Fin 2) (v : Word), s.flag Fld.CLK_GATE0_TRK = true →
      (s.flag (Fld.TRK_TBLA_TABLE x) = false → s.flag (Fld.TRK_LEARN_PROF_LEARN x) = false →
        s.does (.tblDataAccess x true v) (fun u =>
          spGet (fun _ => 0) (u.trk x).profile (s.get (Fld.TRK_TBLA_INDEX x)) = v.toNat % 65536 ∧
          (∀ i, i ≠ s.get (Fld.TRK_TBLA_INDEX x) → spGet (fun _ => 0) (u.trk x).profile i = spGet (fun _ => 0) (s.trk x).profile i) ∧
          (u.trk x).kTab = (s.trk x).kTab ∧
          u.get (Fld.TRK_TBLA_INDEX x) = (s.get (Fld.TRK_TBLA_INDEX x) + s.get (Fld.TRK_TBLA_AUTOINC x)) % 1024 ∧
          s.sameBut u [Reg.TRK_TBLA x])) ∧
      (s.flag (Fld.TRK_TBLA_TABLE x) = true → s.flag (Fld.TRK_LEARN_MODEL_LEARN x) = false →
        s.does (.tblDataAccess x true v) (fun u =>
          (u.trk x).kOf (s.get (Fld.TRK_TBLA_BUCKET x)) (s.get (Fld.TRK_TBLA_INDEX x)) = v.toNat % 65536 ∧
          (u.trk x).profile = (s.trk x).profile ∧
          u.get (Fld.TRK_TBLA_INDEX x) = (s.get (Fld.TRK_TBLA_INDEX x) + s.get (Fld.TRK_TBLA_AUTOINC x)) % 1024 ∧
          s.sameBut u [Reg.TRK_TBLA x])) ∧
      (s.flag (if s.flag (Fld.TRK_TBLA_TABLE x) then Fld.TRK_LEARN_MODEL_LEARN x else Fld.TRK_LEARN_PROF_LEARN x) = true →
        s.does (.tblDataAccess x true v) (fun u => u.flag (Fld.TRK_STAT_TBL_DROP x) = true ∧ u.trks = s.trks ∧
          s.sameBut u [Reg.TRK_TBLA x, Reg.TRK_STAT x])) ∧
      s.does (.tblDataAccess x false v) (fun u => u.bus.data = BitVec.ofNat 32 (s.tblRead x) ∧ u.trks = s.trks ∧
        u.get (Fld.TRK_TBLA_INDEX x) = (s.get (Fld.TRK_TBLA_INDEX x) + s.get (Fld.TRK_TBLA_AUTOINC x)) % 1024 ∧
        s.sameBut u [Reg.TRK_TBLA x])) ∧
    (∀ v : Word, s.flag Fld.CLK_GATE0_WHL = true →
      (s.st = 9 → s.does (.simCtrlWrite v) (fun u => u.word Reg.WHL_SIM_CTRL = v &&& 0x3F ∧
        (s.flag Fld.WHL_SIM_CTRL_EN = false ∨ fieldOf Fld.WHL_SIM_CTRL_EN v = 1 → s.sameBut u [Reg.WHL_SIM_CTRL]) ∧
        (s.flag Fld.WHL_SIM_CTRL_EN = true → fieldOf Fld.WHL_SIM_CTRL_EN v = 0 →
          (∀ k : Fin 4, s.frontEnd k ≠ 0 → u.flag (Fld.WHL_STAT_LEVEL k) = (s.wheelPin k != s.flag (Fld.WHL_CFG_POL k))) ∧
          s.sameBut u (Reg.WHL_SIM_CTRL :: (List.range 4).map Reg.WHL_STAT)))) ∧
      (s.st ≠ 9 → s.does (.simCtrlWrite v) (fun u => s.sameBut u []))) ∧
    (∀ n : BitVec 8, s.flag Fld.CLK_GATE0_WHL = true → s.does (.simDrop n) (fun u => u.flag Fld.WHL_SIM_FLT_DROP = true ∧
      u.get Fld.WHL_SIM_FLT_DROP_N = n.toNat % 16 ∧ s.sameBut u [Reg.WHL_SIM_FLT])) ∧
    (s.flag Fld.CLK_GATE0_WHL = true → s.does .simExtra (fun u => u.flag Fld.WHL_SIM_FLT_EXTRA = true ∧
      u.get Fld.WHL_SIM_FLT_DROP_N = s.get Fld.WHL_SIM_FLT_DROP_N ∧ s.sameBut u [Reg.WHL_SIM_FLT])) ∧
    (s.flag Fld.CLK_GATE0_WHL = true → s.does .simFlip (fun u => u.flag Fld.WHL_SIM_FLT_FLIP = true ∧
      u.get Fld.WHL_SIM_FLT_DROP_N = s.get Fld.WHL_SIM_FLT_DROP_N ∧ s.sameBut u [Reg.WHL_SIM_FLT]))

/-- Rows that write one register of the scheduler, the profiles, the output stage and the witness (R103, R109, R110, R135, R158, R173, R193,
R204, R211): what each leaves. A change that a cope mirrors may count in FLO_DROP, where the MIRROR cell finds no way (R223–R225, R243). The rows: TXN_OPEN,
TXN_CLOSE, TXN_ABORT, REFRESH, SHADOW_SLOT_WRITE, PRF_APPLY, QUENCH, STANDBY_CHANGE, WIT_CORR_WRITE, WIT_WAVE_ARM. -/
def Obligations.ShotRegisterRows : Prop :=
  ∀ s : State,
    (∀ c : Fin 24, s.flag Fld.CLK_GATE0_SCH = true →
      s.does (.txnOpen c) (fun u => u.txnOpen c = true ∧ (∀ d : Fin 24, d ≠ c → u.txnOpen d = s.txnOpen d) ∧
        s.sameBut u [Reg.SCH_TXN, Reg.FLO_DROP]) ∧
      (s.txnOpen c = true → s.setOk c = true → s.does (.txnClose c) (fun u => u.txnOpen c = false ∧
        (∀ d : Fin 24, d ≠ c → u.txnOpen d = s.txnOpen d) ∧ s.sameBut u [Reg.SCH_TXN, Reg.FLO_DROP])) ∧
      (s.txnOpen c = true → s.setOk c = false → s.does (.txnClose c) (fun u => u.txnOpen c = true ∧
        u.flag Fld.SCH_STAT_CLOSE_REFUSED = true ∧ s.sameBut u [Reg.SCH_STAT, Reg.SCH_CNT])) ∧
      (s.txnOpen c = false → s.does (.txnClose c) (fun u => s.sameBut u [])) ∧
      (s.slotBase c + s.slotCnt c ≤ 2048 → s.does (.txnAbort c) (fun u => u.txnOpen c = false ∧
        (∀ d : Fin 24, d ≠ c → u.txnOpen d = s.txnOpen d) ∧ (∀ n ∈ s.slotsOf c, u.shadowDesc n = s.activeDesc n) ∧
        ∀ n, n < 2048 → n ∉ s.slotsOf c → u.shadowDesc n = s.shadowDesc n))) ∧
    (s.flag Fld.CLK_GATE0_SCH = true → s.does .refresh (fun u => u.get Fld.SCH_STAT_AUTO_CNT = 0 ∧ u.sch.refreshed = true ∧
      s.sameBut u [Reg.SCH_STAT])) ∧
    (∀ (n : Fin 2048) (k : Fin 4) (v : Word), s.flag Fld.CLK_GATE0_SCH = true →
      (s.st = 9 → s.does (.shadowSlotWrite n k v) (fun u => u.word (Reg.SCH_SHADOW n k) = v ∧
        s.sameBut u [Reg.SCH_SHADOW n k, Reg.FLO_DROP])) ∧
      (s.st ≠ 9 → s.does (.shadowSlotWrite n k v) (fun u => u.bus.status = stForbids ∧ s.sameBut u []))) ∧
    (∀ p : Fin 16, s.flag Fld.CLK_GATE0_PRF = true →
      ((s.shadowProfile p).ok = true → s.does (.prfApply p) (fun u =>
        u.word (Reg.PRF_ACT_CFG p) = s.word (Reg.PRF_CFG p) ∧ u.word (Reg.PRF_ACT_REG p) = s.word (Reg.PRF_REG p) ∧
        u.word (Reg.PRF_ACT_BOOST p) = s.word (Reg.PRF_BOOST p) ∧ u.word (Reg.PRF_ACT_PEAK p) = s.word (Reg.PRF_PEAK p) ∧
        u.word (Reg.PRF_ACT_DROP p) = s.word (Reg.PRF_DROP p) ∧ u.word (Reg.PRF_ACT_HOLD p) = s.word (Reg.PRF_HOLD p) ∧
        u.word (Reg.PRF_ACT_END p) = s.word (Reg.PRF_END p) ∧ u.word (Reg.PRF_ACT_BATT p) = s.word (Reg.PRF_BATT p) ∧
        s.sameBut u [Reg.PRF_ACT_CFG p, Reg.PRF_ACT_REG p, Reg.PRF_ACT_BOOST p, Reg.PRF_ACT_PEAK p, Reg.PRF_ACT_DROP p,
          Reg.PRF_ACT_HOLD p, Reg.PRF_ACT_END p, Reg.PRF_ACT_BATT p])) ∧
      ((s.shadowProfile p).ok = false → s.does (.prfApply p) (fun u => u.bit Fld.PRF_STAT_APPLY_REF p = true ∧
        s.sameBut u [Reg.PRF_STAT]))) ∧
    (s.flag Fld.CLK_GATE0_DRV = true → (s.st = 9 → s.flag Fld.DRV_CTRL_STBY = true) → s.does .quench (fun u =>
      (∀ n : Fin 48, s.phase n ≠ 0 → u.phase n = 5) ∧ (∀ n : Fin 48, s.phase n = 0 → u.phase n = 0) ∧
      u.get Fld.DRV_CTRL_EN = s.get Fld.DRV_CTRL_EN ∧ u.get Fld.DRV_CTRL_STBY = s.get Fld.DRV_CTRL_STBY ∧
      u.get Fld.DRV_CTRL_BOOST_EN = s.get Fld.DRV_CTRL_BOOST_EN)) ∧
    (∀ (n : Fin 48) (b : Bool), s.flag Fld.CLK_GATE0_DRV = true → s.get (Fld.DRV_CH_CFG_ICLAIM n) ≤ 80 →
      s.does (.standbyChange (some n) b) (fun u => u.flag (Fld.DRV_CH_CFG_STBY n) = b ∧
        u.get (Fld.DRV_CH_CFG_ICLAIM n) = s.get (Fld.DRV_CH_CFG_ICLAIM n) ∧ (b = true → s.inStandby n = false → s.underTest n = false → u.phase n = 0))) ∧
    (∀ b : Bool, s.flag Fld.CLK_GATE0_DRV = true → s.st ≠ 9 → s.paired = false →
      s.does (.standbyChange none b) (fun u => u.flag Fld.DRV_CTRL_STBY = b ∧ u.get Fld.DRV_CTRL_EN = s.get Fld.DRV_CTRL_EN ∧
        u.get Fld.DRV_CTRL_BOOST_EN = s.get Fld.DRV_CTRL_BOOST_EN ∧
        (b = true → ∀ n : Fin 48, s.inStandby n = false → s.underTest n = false → u.phase n = 0))) ∧
    (∀ (n : Fin 48) (v : BitVec 16), s.flag Fld.CLK_GATE0_WIT = true →
      s.does (.witCorrWrite n v) (fun u => u.get (Fld.WIT_CH_CORR_D n) = v.toNat ∧
        s.sameBut u [Reg.WIT_CH_CORR n, Reg.FLO_DROP])) ∧
    (∀ n : Fin 48, s.flag Fld.CLK_GATE0_WIT = true →
      ((s.wit.capturing = none ∨ s.wit.waveCut.isSome = true) → s.does (.witWaveArm n) (fun u => u.flag Fld.WIT_WAVE_ARM = true ∧ u.get Fld.WIT_WAVE_CH = n.val ∧
        s.sameBut u [Reg.WIT_WAVE])) ∧
      (s.wit.capturing.isSome = true → s.wit.waveCut = none → s.does (.witWaveArm n) (fun u => s.sameBut u [])))

-- ── DMA (R365–R374) ───────────────────────────────────────────────────────────────────────────────────────────────

/-- DMA channels (R365–R367, R369–R372, R374). A rise of EN checks the active set and runs the channel, or stops it with ALIGN and the offending
value; EN written 0 drops a running channel and makes SRC, DST and CNT open values; SH_VALID makes the shadow ready; a shadow field takes a
value only while SH_VALID = 0, and is dropped with SHADOW_DROP otherwise. A due burst of SRAM that no channel before it
delays (PRIO first, then the channel number, R366) moves its elements, steps the addresses that increment, and counts the bytes off, and no
other byte of memory changes; at the end of a block the shadow set becomes
active, or the channel stops with DONE, or with HOPS where the chain's limit forbids its link; a descriptor is fetched from the link's
address into the shadow set. -/
def Obligations.DmaRows : Prop :=
  (∀ (s : State) (n : Fin 16), s.flag Fld.CLK_GATE0_DMA = true → (8 ≤ n.val → s.flag Fld.CLK_GATE1_DMA_HI = true) →
    (trigOk (s.get (Fld.DMA_CH_CTRL_TRIG n)) = true → s.get (Fld.DMA_CH_CTRL_DINC n) ≤ 1 → s.get (Fld.DMA_CH_CTRL_SINC n) ≤ 1 →
      s.get (Fld.DMA_CH_CTRL_WIDTH n) ≤ 2 →
      (s.flag (Fld.DMA_CH_CTRL_EN n) = false → s.word (Reg.DMA_CH_ERR n) = 0 →
        (s.dmaMisfit n = none → s.does (.dmaEnRise n) (fun u => u.flag (Fld.DMA_CH_CTRL_EN n) = true ∧ u.get (Fld.DMA_CH_HOPS_COUNT n) = 0 ∧
          u.flag (Fld.DMA_CH_STAT_BUSY n) = (s.get (Fld.DMA_CH_CTRL_TRIG n) == 0 || s.flag (Fld.DMA_CH_STAT_BUSY n)) ∧
          s.sameBut u [Reg.DMA_CH_CTRL n, Reg.DMA_CH_HOPS n, Reg.DMA_CH_STAT n])) ∧
        (∀ x, s.dmaMisfit n = some x → s.does (.dmaEnRise n) (fun u => u.flag (Fld.DMA_CH_CTRL_EN n) = false ∧
          u.flag (Fld.DMA_CH_ERR_ALIGN n) = true ∧ u.word (Reg.DMA_CH_ERRADDR n) = BitVec.ofNat 32 x))) ∧
      (s.word (Reg.DMA_CH_ERR n) ≠ 0 → s.flag (Fld.DMA_CH_CTRL_EN n) = false →
        s.does (.dmaEnRise n) (fun u => u.flag (Fld.DMA_CH_CTRL_EN n) = false ∧ s.sameBut u [])) ∧
      (s.flag (Fld.DMA_CH_CTRL_EN n) = true → s.does (.dmaEnClear n) (fun u => u.flag (Fld.DMA_CH_CTRL_EN n) = false ∧
        u.flag (Fld.DMA_CH_STAT_BUSY n) = false ∧
        s.sameBut u [Reg.DMA_CH_CTRL n, Reg.DMA_CH_STAT n, Reg.DMA_CH_SRC n, Reg.DMA_CH_DST n, Reg.DMA_CH_CNT n])) ∧
      (s.flag (Fld.DMA_CH_CTRL_EN n) = false → s.does (.dmaEnClear n) (fun u => s.sameBut u []))) ∧
    s.does (.shadowValid n) (fun u => u.flag (Fld.DMA_CH_SHV_SH_VALID n) = true ∧ s.sameBut u [Reg.DMA_CH_SHV n]) ∧
    (∀ (k : Fin 4) (v : Word),
      (s.flag (Fld.DMA_CH_SHV_SH_VALID n) = false → s.does (.shadowWrite n k v) (fun u =>
        u.word (shadowReg n k) &&& (if k = 2 then 0x01FFFFFF else 0xFFFFFFFF) = v &&& (if k = 2 then 0x01FFFFFF else 0xFFFFFFFF) ∧
        s.sameBut u [shadowReg n k])) ∧
      (s.flag (Fld.DMA_CH_SHV_SH_VALID n) = true → s.does (.shadowWrite n k v) (fun u =>
        u.flag (Fld.DMA_CH_STAT_SHADOW_DROP n) = true ∧ s.sameBut u [Reg.DMA_CH_STAT n])))) ∧
  (∀ (s v : State) (dt : Nat) (n : Fin 16), s.advance dt = v → v.flag (Fld.DMA_CH_CTRL_EN n) = true →
    (∀ a b w : Nat, v.dmaDue n = true → (∀ m, m ∈ v.dmaOrder n → m ≠ n → v.dmaDue m = false) → v.get (Fld.DMA_CH_CTRL_WIDTH n) ≤ 2 →
      w = v.dmaWidth n → v.dmaBurst n = 1 → (v.word (Reg.DMA_CH_SRC n)).toNat = a →
      (v.word (Reg.DMA_CH_DST n)).toNat = b → a % w = 0 → b % w = 0 → inHostArea a = true → inHostArea b = true →
      s.does (.dmaTrigger dt n) (fun u => u.bytes b w = v.bytes a w ∧ (∀ x, x < b ∨ b + w ≤ x → u.byte x = v.byte x) ∧
        (u.word (Reg.DMA_CH_SRC n)).toNat = (if v.get (Fld.DMA_CH_CTRL_SINC n) = 1 then a + w else a) ∧
        (u.word (Reg.DMA_CH_DST n)).toNat = (if v.get (Fld.DMA_CH_CTRL_DINC n) = 1 then b + w else b) ∧
        u.get (Fld.DMA_CH_CNT_CNT n) = v.get (Fld.DMA_CH_CNT_CNT n) - w ∧
        u.get (Fld.DMA_CH_CNT_IE n) = v.get (Fld.DMA_CH_CNT_IE n))) ∧
    (∀ a b w k : Nat, v.dmaDue n = true → (∀ m, m ∈ v.dmaOrder n → m ≠ n → v.flag (Fld.DMA_CH_CTRL_EN m) = false) →
      v.get (Fld.DMA_CH_CTRL_WIDTH n) ≤ 2 → w = v.dmaWidth n → k = v.dmaBurst n → 0 < k → v.get (Fld.DMA_CH_CTRL_SINC n) = 1 →
      v.get (Fld.DMA_CH_CTRL_DINC n) = 1 → (v.word (Reg.DMA_CH_SRC n)).toNat = a → (v.word (Reg.DMA_CH_DST n)).toNat = b → a % w = 0 →
      b % w = 0 → inHostArea a = true → inHostArea (a + k * w - 1) = true → inHostArea b = true → inHostArea (b + k * w - 1) = true →
      (a + k * w ≤ b ∨ b + k * w ≤ a) →
      s.does (.dmaTrigger dt n) (fun u => u.bytes b (k * w) = v.bytes a (k * w) ∧ (∀ x, x < b ∨ b + k * w ≤ x → u.byte x = v.byte x) ∧
        (u.word (Reg.DMA_CH_SRC n)).toNat = a + k * w ∧ (u.word (Reg.DMA_CH_DST n)).toNat = b + k * w ∧
        u.get (Fld.DMA_CH_CNT_CNT n) = v.get (Fld.DMA_CH_CNT_CNT n) - k * w)) ∧
    (v.get (Fld.DMA_CH_CNT_CNT n) = 0 →
      (v.flag (Fld.DMA_CH_SHV_SH_VALID n) = true → s.does (.dmaBlockComplete dt n) (fun u =>
        u.word (Reg.DMA_CH_SRC n) = v.word (Reg.DMA_CH_SH_SRC n) ∧ u.word (Reg.DMA_CH_DST n) = v.word (Reg.DMA_CH_SH_DST n) ∧
        u.word (Reg.DMA_CH_CNT n) = v.word (Reg.DMA_CH_SH_CNT n) ∧ u.word (Reg.DMA_CH_LINK n) = v.word (Reg.DMA_CH_SH_LINK n) ∧
        u.flag (Fld.DMA_CH_SHV_SH_VALID n) = false ∧ ∀ a, u.byte a = v.byte a)) ∧
      (v.flag (Fld.DMA_CH_SHV_SH_VALID n) = false → v.word (Reg.DMA_CH_LINK n) = 0 → s.does (.dmaBlockComplete dt n) (fun u =>
        u.flag (Fld.DMA_CH_CTRL_EN n) = false ∧ u.flag (Fld.DMA_CH_STAT_DONE n) = true ∧ ∀ a, u.byte a = v.byte a)) ∧
      (v.flag (Fld.DMA_CH_SHV_SH_VALID n) = false → v.word (Reg.DMA_CH_LINK n) ≠ 0 → v.hopsOut n = true →
        s.does (.dmaBlockComplete dt n) (fun u => u.flag (Fld.DMA_CH_CTRL_EN n) = false ∧ u.flag (Fld.DMA_CH_ERR_HOPS n) = true ∧
          ∀ a, u.byte a = v.byte a))) ∧
    (∀ a : Nat, (v.word (Reg.DMA_CH_LINK n)).toNat = a → a ≠ 0 → v.flag (Fld.DMA_CH_SHV_SH_VALID n) = false → v.hopsOut n = false →
      (a % 16 = 0 → inHostArea a = true → s.does (.dmaDescriptorFetch dt n) (fun u =>
        (u.word (Reg.DMA_CH_SH_SRC n)).toNat = leNat (v.bytes a 4) ∧ (u.word (Reg.DMA_CH_SH_DST n)).toNat = leNat (v.bytes (a + 4) 4) ∧
        (u.word (Reg.DMA_CH_SH_CNT n)).toNat = leNat (v.bytes (a + 8) 4) % 2 ^ 25 ∧
        (u.word (Reg.DMA_CH_SH_LINK n)).toNat = leNat (v.bytes (a + 12) 4) ∧ u.flag (Fld.DMA_CH_SHV_SH_VALID n) = true ∧
        u.word (Reg.DMA_CH_LINK n) = 0 ∧ u.get (Fld.DMA_CH_HOPS_COUNT n) = Nat.min 65535 (v.get (Fld.DMA_CH_HOPS_COUNT n) + 1) ∧
        v.sameBut u [Reg.DMA_CH_SH_SRC n, Reg.DMA_CH_SH_DST n, Reg.DMA_CH_SH_CNT n, Reg.DMA_CH_SH_LINK n, Reg.DMA_CH_SHV n,
          Reg.DMA_CH_LINK n, Reg.DMA_CH_HOPS n])) ∧
      (a % 16 ≠ 0 → s.does (.dmaDescriptorFetch dt n) (fun u => u.flag (Fld.DMA_CH_CTRL_EN n) = false ∧
        u.flag (Fld.DMA_CH_ERR_ALIGN n) = true ∧ (u.word (Reg.DMA_CH_ERRADDR n)).toNat = a ∧ ∀ a, u.byte a = v.byte a))))

-- ── Timers (R375–R384) ────────────────────────────────────────────────────────────────────────────────────────────

/-- Control of the timers by the host (R375, R378–R383). A group start sets the counter to PHASE and EN on its unlinked channels, a stop clears EN;
EN alone restarts the prescaler as it rises; a period waits for the reload point, or is in force at once with IMM; the halves of a
linked pair are taken together with the high one; reads of a counter and of a capture latch the high half. -/
def Obligations.TimerControl : Prop :=
  ∀ s : State, s.flag Fld.CLK_GATE0_TIM = true →
    (∀ (v : Word) (n : Fin 16), s.linked n = false → s.linkedOdd n = false →
      (v.toNat < 65536 → v.toNat.testBit n = true → s.upDown n = false → s.does (.timGstart v) (fun u =>
        u.flag (Fld.TIM_CH_CFG_EN n) = true ∧ u.word (Reg.TIM_CH_CNT n) = s.word (Reg.TIM_CH_PHASE n) ∧ (u.tim n).presc = 0)) ∧
      (v.toNat.testBit n = false → s.does (.timGstart v) (fun u => u.flag (Fld.TIM_CH_CFG_EN n) = s.flag (Fld.TIM_CH_CFG_EN n) ∧
        u.word (Reg.TIM_CH_CNT n) = s.word (Reg.TIM_CH_CNT n))) ∧
      s.does (.timGstop v) (fun u => u.flag (Fld.TIM_CH_CFG_EN n) = (s.flag (Fld.TIM_CH_CFG_EN n) && !v.toNat.testBit n) ∧
        u.word (Reg.TIM_CH_CNT n) = s.word (Reg.TIM_CH_CNT n)) ∧
      (s.flag (Fld.TIM_CH_CFG_IMM n) = false → s.does (.timPerWrite n v) (fun u => u.word (Reg.TIM_CH_PER n) = v ∧
        u.flag (Fld.TIM_CH_STAT_PER_PEND n) = true ∧ u.timPer n = s.timPer n ∧ s.sameBut u [Reg.TIM_CH_PER n, Reg.TIM_CH_STAT n])) ∧
      (s.flag (Fld.TIM_CH_CFG_IMM n) = true → s.does (.timPerWrite n v) (fun u => u.word (Reg.TIM_CH_PER n) = v ∧
        u.flag (Fld.TIM_CH_STAT_PER_PEND n) = false ∧ u.timPer n = v.toNat ∧
        u.flag (Fld.TIM_CH_STAT_TOP_CLIP n) = (s.flag (Fld.TIM_CH_STAT_TOP_CLIP n) || decide (v.toNat < s.timCnt n)) ∧
        s.sameBut u [Reg.TIM_CH_PER n, Reg.TIM_CH_STAT n])) ∧
      s.does (.timCmpWrite n v) (fun u => u.word (Reg.TIM_CH_CMP n) = v ∧ s.sameBut u [Reg.TIM_CH_CMP n]) ∧
      s.does (.timCntRead n) (fun u => u.bus.data = s.word (Reg.TIM_CH_CNT n) ∧ s.sameBut u []) ∧
      (∀ c r, (s.tim n).queue = c :: r → c < 2 ^ 32 → s.does (.timCapRead n) (fun u => u.bus.data.toNat = c ∧ (u.tim n).queue = r ∧
        s.sameBut u [Reg.TIM_CH_STAT n])) ∧
      ((s.tim n).queue = [] → s.does (.timCapRead n) (fun u => u.bus.data = 0 ∧ s.sameBut u []))) ∧
    (∀ (n : Fin 16) (b : Bool), s.get (Fld.TIM_CH_CFG_CLKSEL n) < 4 → (n.val % 2 = 1 → s.flag (Fld.TIM_CH_CFG_LINK n) = false) →
      s.does (.timEnWrite n b) (fun u => u.flag (Fld.TIM_CH_CFG_EN n) = b ∧
        (b = true → s.flag (Fld.TIM_CH_CFG_EN n) = false → (u.tim n).presc = 0) ∧ s.sameBut u [Reg.TIM_CH_CFG n])) ∧
    (∀ (n : Fin 16) (v : Word), s.linked n = true →
      s.does (.timCmpWrite n v) (fun u => (u.tim n).lowCmp = some v ∧ s.sameBut u []) ∧
      s.does (.timPerWrite n v) (fun u => (u.tim n).lowPer = some v ∧ s.sameBut u []) ∧
      s.does (.timCntRead n) (fun u => u.bus.data = s.word (Reg.TIM_CH_CNT n) ∧
        u.word (Reg.TIM_CH_HOLD n) = s.word (Reg.TIM_CH_CNT (n + 1)) ∧ s.sameBut u [Reg.TIM_CH_HOLD n])) ∧
    (∀ (n : Fin 16) (v w : Word), s.linkedOdd n = true → (s.tim (n - 1)).lowCmp = some w →
      s.does (.timCmpWrite n v) (fun u => u.word (Reg.TIM_CH_CMP (n - 1)) = w ∧ u.word (Reg.TIM_CH_CMP n) = v ∧
        (u.tim (n - 1)).lowCmp = none ∧ s.sameBut u [Reg.TIM_CH_CMP (n - 1), Reg.TIM_CH_CMP n]))

/-- Timer events (R377, R378, R380, R384): a match, a reload or a top that the counter has made is taken, and its source is pending when its IE bit
is set; a capture enters the queue with the counter's value, and a full queue drops it with CAP_OVR. -/
def Obligations.TimerEvents : Prop :=
  ∀ (s v : State) (dt : Nat) (n : Fin 16), s.advance dt = v →
    (∀ k : Fin 3, ∀ c : Nat, (if k = 0 then (v.tim n).matched else if k = 1 then (v.tim n).reloads else (v.tim n).tops) = c + 1 →
      s.does (if k = 0 then .timCompareMatch dt n else if k = 1 then .timReload dt n else .timTop dt n) (fun u =>
        (if k = 0 then (u.tim n).matched else if k = 1 then (u.tim n).reloads else (u.tim n).tops) = c ∧
        (v.bit (Fld.TIM_CH_CFG_IE n) k = true → v.get (srcCgrp false (192 + n)) = 0 → u.isPend false (192 + n) = true) ∧
        (v.bit (Fld.TIM_CH_CFG_IE n) k = false → v.get (Fld.TIM_CH_CFG_EVSEL n) ≠ k → u.regs = v.regs) ∧
        ∀ a, u.byte a = v.byte a)) ∧
    (∀ c : Nat, (v.tim n).caps = c + 1 → v.linked n = false →
      ((v.tim n).queue.length < 4 → s.does (.timCapture dt n) (fun u => (u.tim n).caps = c ∧
        (u.tim n).queue = (v.tim n).queue ++ [v.get (Fld.TIM_CH_CNT_CNT n)] ∧
        u.get (Fld.TIM_CH_STAT_CAP_LVL n) = (v.tim n).queue.length + 1)) ∧
      (4 ≤ (v.tim n).queue.length → s.does (.timCapture dt n) (fun u => (u.tim n).caps = c ∧ (u.tim n).queue = (v.tim n).queue ∧
        u.flag (Fld.TIM_CH_STAT_CAP_OVR n) = true)))

-- ── Reads with an effect (R33, R34, R58, R138, R216, R229) ────────────────────────────────────────────────────────

/-- Registers whose read does something: the FIFO gives up its oldest result, or answers 0 when empty; a stamp, an angle, the chain and the domain
time latch the words that belong to them; PWR_CALVCNT answers PEAK and clears it. The host's own reads are in `PatternHost` and `TimerControl`. -/
def Obligations.LatchingReads : Prop :=
  ∀ s : State,
    (∀ c : Fin 4, s.flag Fld.CLK_GATE0_ADC = true →
      (∀ w r, s.adcFifo c = w :: r → s.does (.adcFifoRead c) (fun u => u.bus.data = w ∧ u.adcFifo c = r ∧ s.sameBut u [])) ∧
      (s.adcFifo c = [] → s.does (.adcFifoRead c) (fun u => u.bus.data = 0 ∧ s.sameBut u []))) ∧
    (∀ n : Fin 4, s.flag Fld.CLK_GATE0_WHL = true → s.does (.whlTsRead n) (fun u =>
      u.bus.data.toNat + 2 ^ 32 * (u.word (Reg.WHL_TSH n)).toNat = (s.whl n).stamp % 2 ^ 64 ∧ s.sameBut u [Reg.WHL_TSH n])) ∧
    (∀ x : Fin 2, s.flag Fld.CLK_GATE0_TRK = true → s.does (.trkAngleRead x) (fun u => u.bus.data = BitVec.ofNat 32 (s.trkAngle x) ∧
      u.get (Fld.TRK_FRAC_FRAC x) = (s.trk x).acc % fracOne ∧ u.get (Fld.TRK_RATEL_RATE_F x) = (s.trk x).rate % fracOne ∧
      u.get (Fld.TRK_RATEH_RATE_I x) = (s.trk x).rate / fracOne % 2 ^ (Fld.TRK_RATEH_RATE_I x).w ∧
      u.get (Fld.TRK_CYCLE_CYCLE x) = (s.trk x).cycle % 2 ^ (Fld.TRK_CYCLE_CYCLE x).w ∧
      s.sameBut u [Reg.TRK_FRAC x, Reg.TRK_RATEL x, Reg.TRK_RATEH x, Reg.TRK_CYCLE x])) ∧
    (s.flag Fld.CLK_GATE0_WIT = true → s.does .witMorlRead (fun u =>
      u.bus.data.toNat + 2 ^ 32 * (u.word Reg.WIT_MORH).toNat = s.wit.index % 2 ^ 64 ∧
      (∀ i : Fin 8, u.word (Reg.WIT_MORHK i) = BitVec.ofNat 32 (leAt s.chainHead (4 * i) 4)) ∧
      s.sameBut u (Reg.WIT_MORH :: (List.range 8).map Reg.WIT_MORHK))) ∧
    (s.flag Fld.CLK_GATE0_FLO = true → s.does .floDtRead (fun u =>
      u.bus.data.toNat + 2 ^ 32 * (u.word Reg.FLO_DTH).toNat = s.domTime % 2 ^ 64 ∧ s.sameBut u [Reg.FLO_DTH])) ∧
    (s.fresh = [] → s.does .calvPeakRead (fun u => u.bus.data = s.word Reg.PWR_CALVCNT ∧ u.get Fld.PWR_CALVCNT_PEAK = 0 ∧
      s.sameBut u [Reg.PWR_CALVCNT]))

-- ── Pattern engines (R385–R394) ───────────────────────────────────────────────────────────────────────────────────

/-- The host's control of a pattern-engine context (R389, R390, R392, R393): EN, RESTART, FLUSH, triggers, the FIFOs and the instruction memory. -/
def Obligations.PatternHost : Prop :=
  ∀ (s : State) (e : Fin 2) (c : Fin 16), s.flag (patGate e) = true →
    (∀ b : Bool, s.does (.contextEn e c b) (fun u => u.flag (Fld.PAT_CTX_CTRL_EN e c) = b ∧
      (b = false → s.flag (Fld.PAT_CTX_STAT_ILLEGAL e c) = false → (u.patCtx e c).stopped = false) ∧
      (b = true → (u.patCtx e c).stopped = (s.patCtx e c).stopped) ∧ s.sameBut u [Reg.PAT_CTX_CTRL e c])) ∧
    s.does (.contextRestart e c) (fun u => u.patPc e c = s.get (Fld.PAT_CTX_CFG_START e c) ∧ u.patShr e c = 0 ∧ u.patShc e c = 0 ∧
      u.flag (Fld.PAT_CTX_SHC_Z e c) = false ∧ u.flag (Fld.PAT_CTX_SHC_N e c) = false ∧ (u.patCtx e c).trig = false ∧
      u.flag (Fld.PAT_CTX_STAT_TRIG e c) = false ∧ (u.patCtx e c).last = none ∧ (u.patCtx e c).tx = (s.patCtx e c).tx ∧
      (u.patCtx e c).rx = (s.patCtx e c).rx ∧ u.flag (Fld.PAT_CTX_CTRL_EN e c) = s.flag (Fld.PAT_CTX_CTRL_EN e c) ∧
      s.sameBut u [Reg.PAT_CTX_STAT e c, Reg.PAT_CTX_SHR e c, Reg.PAT_CTX_SHC e c]) ∧
    s.does (.fifoFlush e c) (fun u => (u.patCtx e c).tx = [] ∧ (u.patCtx e c).rx = [] ∧ u.get (Fld.PAT_CTX_STAT_TX_LVL e c) = 0 ∧
      u.get (Fld.PAT_CTX_STAT_RX_LVL e c) = 0 ∧ u.flag (Fld.PAT_CTX_CTRL_EN e c) = s.flag (Fld.PAT_CTX_CTRL_EN e c) ∧
      s.sameBut u [Reg.PAT_CTX_STAT e c]) ∧
    (∀ m : BitVec 16, s.does (.patTrig e m) (fun u =>
      (m.getLsbD c = true → (u.patCtx e c).trig = true ∧
        ((s.patCtx e c).trig = true → u.flag (Fld.PAT_CTX_STAT_TRIG_LOST e c) = true)) ∧
      (m.getLsbD c = false → u.patCtx e c = s.patCtx e c))) ∧
    (∀ v : Word,
      ((s.patCtx e c).tx.length < 4 → s.does (.patTxWrite e c v) (fun u => (u.patCtx e c).tx = (s.patCtx e c).tx ++ [v] ∧
        u.get (Fld.PAT_CTX_STAT_TX_LVL e c) = (s.patCtx e c).tx.length + 1 ∧ s.sameBut u [Reg.PAT_CTX_STAT e c])) ∧
      (4 ≤ (s.patCtx e c).tx.length → s.does (.patTxWrite e c v) (fun u => u.patCtx e c = s.patCtx e c ∧
        u.flag (Fld.PAT_CTX_STAT_TX_OVF e c) = true ∧ s.sameBut u [Reg.PAT_CTX_STAT e c]))) ∧
    (∀ v r, (s.patCtx e c).rx = v :: r → s.does (.patRxRead e c) (fun u => u.bus.data = v ∧ (u.patCtx e c).rx = r ∧
      s.sameBut u [Reg.PAT_CTX_STAT e c])) ∧
    ((s.patCtx e c).rx = [] → s.does (.patRxRead e c) (fun u => u.bus.data = 0 ∧ u.flag (Fld.PAT_CTX_STAT_RX_UNF e c) = true ∧
      s.sameBut u [Reg.PAT_CTX_STAT e c])) ∧
    (∀ (i : Fin 512) (v : BitVec 16), s.does (.imemWrite e i v) (fun u => u.get (Fld.PAT_IMEM_INSTR e i) = v.toNat ∧
      s.sameBut u [Reg.PAT_IMEM e i]))

/-- Pattern instructions that compute and branch (R387): one turn of a context that runs, with the word that its PC names written out from the
table of R387. PC goes to the next address modulo 512 but where the instruction branches, and nothing but the named registers of the
context changes. -/
def Obligations.PatternComputes : Prop :=
  ∀ (s v : State) (dt : Nat) (e : Fin 2) (c : Fin 16), s.advance dt = v → v.patRuns e c = true →
    (v.patFetch e c = 0 → s.does (.nop dt e c) (fun u => u.patPc e c = (v.patPc e c + 1) % 512 ∧ v.sameBut u [Reg.PAT_CTX_STAT e c])) ∧
    (v.patFetch e c = 0x0100 → s.does (.halt dt e c) (fun u => u.patPc e c = (v.patPc e c + 1) % 512 ∧ (u.patCtx e c).stopped = true ∧
      u.patRuns e c = false ∧ (v.get (srcCgrp false (214 + 8 * e)) = 0 → u.isPend false (214 + 8 * e) = true) ∧
      v.sameBut u [Reg.PAT_CTX_STAT e c])) ∧
    (∀ l : Fin 6, v.patFetch e c = 0x0200 + l → s.does (.sig dt e c) (fun u => u.patPc e c = (v.patPc e c + 1) % 512 ∧
      (v.get (srcCgrp false (208 + 8 * e + l)) = 0 → u.isPend false (208 + 8 * e + l) = true) ∧ v.sameBut u [Reg.PAT_CTX_STAT e c])) ∧
    (v.patFetch e c = 0x0300 → s.does (.clrsh dt e c) (fun u => u.patPc e c = (v.patPc e c + 1) % 512 ∧ u.patShr e c = 0 ∧ u.patShc e c = 0 ∧
      v.sameBut u [Reg.PAT_CTX_STAT e c, Reg.PAT_CTX_SHR e c, Reg.PAT_CTX_SHC e c])) ∧
    (∀ (k : Fin 8) (a : Fin 512), v.patFetch e c = 0x1000 + 512 * k + a → s.does (.br dt e c) (fun u =>
      u.patPc e c = (if [true, v.flag (Fld.PAT_CTX_SHC_Z e c), !v.flag (Fld.PAT_CTX_SHC_Z e c), v.flag (Fld.PAT_CTX_SHC_N e c),
          !v.flag (Fld.PAT_CTX_SHC_N e c), v.pinLevels.testBit (v.get (Fld.PAT_CTX_PINS_IN_BASE e c)),
          !v.pinLevels.testBit (v.get (Fld.PAT_CTX_PINS_IN_BASE e c)), decide (v.patFill e c ≤ v.patShc e c)].getD k false
        then a.val else (v.patPc e c + 1) % 512) ∧ v.sameBut u [Reg.PAT_CTX_STAT e c])) ∧
    (∀ (r : Fin 4) (a : Fin 512), v.patFetch e c = 0x2000 + 1024 * r + a → s.does (.dbnz dt e c) (fun u =>
      u.patW e c r = v.patW e c r - 1 ∧ u.patPc e c = (if v.patW e c r = 1 then (v.patPc e c + 1) % 512 else a.val) ∧
      v.sameBut u [Reg.PAT_CTX_STAT e c, Reg.PAT_CTX_W e c r])) ∧
    (∀ (r : Fin 4) (i : Fin 1024),
      (v.patFetch e c = 0x4000 + 1024 * r + i → s.does (.ldi dt e c) (fun u => u.patPc e c = (v.patPc e c + 1) % 512 ∧
        (u.patW e c r).toNat = i ∧ v.sameBut u [Reg.PAT_CTX_STAT e c, Reg.PAT_CTX_W e c r])) ∧
      (v.patFetch e c = 0x5000 + 1024 * r + i → s.does (.lds dt e c) (fun u => u.patPc e c = (v.patPc e c + 1) % 512 ∧
        (u.patW e c r).toNat = ((v.patW e c r).toNat * 1024 + i) % 2 ^ 32 ∧ v.sameBut u [Reg.PAT_CTX_STAT e c, Reg.PAT_CTX_W e c r]))) ∧
    (∀ (d a : Fin 4) (op : Fin 8) (r : Word), v.patFetch e c = 0x6000 + 1024 * d + 256 * a + 32 * op →
      r = [v.patW e c a, v.patW e c d + v.patW e c a, v.patW e c d - v.patW e c a, v.patW e c d &&& v.patW e c a,
        v.patW e c d ^^^ v.patW e c a, ~~~ (v.patW e c a), (v.patW e c a).reverse, v.patW e c d - v.patW e c a].getD op 0 →
      s.does (.alu dt e c) (fun u => u.patPc e c = (v.patPc e c + 1) % 512 ∧
        u.patW e c d = (if op = 7 then v.patW e c d else r) ∧ u.flag (Fld.PAT_CTX_SHC_Z e c) = decide (r = 0) ∧
        u.flag (Fld.PAT_CTX_SHC_N e c) = r.getLsbD 31 ∧ u.patShc e c = v.patShc e c ∧
        v.sameBut u [Reg.PAT_CTX_STAT e c, Reg.PAT_CTX_SHC e c, Reg.PAT_CTX_W e c d])) ∧
    (∀ (d : Fin 4) (k : Fin 6), v.patFetch e c = 0x7000 + 1024 * d + 128 * k → s.does (.get dt e c) (fun u =>
      u.patPc e c = (v.patPc e c + 1) % 512 ∧
      u.patW e c d = [BitVec.ofNat 32 (v.readPins (v.get (Fld.PAT_CTX_PINS_IN_BASE e c))), BitVec.ofNat 32 v.tclk, BitVec.ofNat 32 v.out,
        (v.patCtx e c).edget, v.patShr e c, BitVec.ofNat 32 (v.patShc e c)].getD k 0 ∧
      v.sameBut u [Reg.PAT_CTX_STAT e c, Reg.PAT_CTX_W e c d])) ∧
    (∀ (d : Fin 3) (a : Fin 4), v.patFetch e c = 0x8000 + 512 * d + 128 * a → s.does (.put dt e c) (fun u =>
      (d = 0 → u.patPc e c = (v.patPc e c + 1) % 512 ∧ (∀ k, k < zeroIs32 (v.get (Fld.PAT_CTX_PINS_OUT_N e c)) →
        (u.patPin e).testBit ((v.get (Fld.PAT_CTX_PINS_OUT_BASE e c) + k) % 32) = (v.patW e c a).getLsbD k) ∧
        v.sameBut u [Reg.PAT_CTX_STAT e c]) ∧
      (d = 1 → u.patPc e c = (v.patPc e c + 1) % 512 ∧ u.patShr e c = v.patW e c a ∧ u.patShc e c = 32 ∧
        v.sameBut u [Reg.PAT_CTX_STAT e c, Reg.PAT_CTX_SHR e c, Reg.PAT_CTX_SHC e c]) ∧
      (d = 2 → u.patPc e c = (v.patW e c a).toNat % 512 ∧ v.sameBut u [Reg.PAT_CTX_STAT e c]))) ∧
    (∀ m x : Fin 64, v.patFetch e c = 0xD000 + 64 * m + x → s.does (.setp dt e c) (fun u => u.patPc e c = (v.patPc e c + 1) % 512 ∧
      (∀ k, k < 6 → m.val.testBit k = true →
        (u.patPin e).testBit ((v.get (Fld.PAT_CTX_PINS_SET_BASE e c) + k) % 32) = x.val.testBit k) ∧
      (∀ p, (∀ k, k < 6 → m.val.testBit k = true → p ≠ (v.get (Fld.PAT_CTX_PINS_SET_BASE e c) + k) % 32) →
        (u.patPin e).testBit p = (v.patPin e).testBit p) ∧ v.sameBut u [Reg.PAT_CTX_STAT e c])) ∧
    ((0xE000 ≤ v.patFetch e c ∨ (0x0400 ≤ v.patFetch e c ∧ v.patFetch e c < 0x1000) ∨ (0x8600 ≤ v.patFetch e c ∧ v.patFetch e c < 0x9000)) →
      s.does (.illegal dt e c) (fun u => u.patPc e c = v.patPc e c ∧ u.flag (Fld.PAT_CTX_STAT_ILLEGAL e c) = true ∧ u.patRuns e c = false ∧
        v.sameBut u [Reg.PAT_CTX_STAT e c]))

/-- Pattern instructions that wait, shift and use the FIFOs (R387–R389): what each does when it completes, and that a stall leaves PC and every
register as they were. -/
def Obligations.PatternWaitsAndShifts : Prop :=
  ∀ (s v : State) (dt : Nat) (e : Fin 2) (c : Fin 16), s.advance dt = v → v.patRuns e c = true →
    (∀ (p : Fin 2) (i : Fin 32), v.patFetch e c = 0x3000 + 512 * p + i →
      (v.pinLevels.testBit i = (p == 1) → s.does (.waitPin dt e c) (fun u => u.patPc e c = (v.patPc e c + 1) % 512 ∧
        (u.patCtx e c).edget = BitVec.ofNat 32 v.tclk ∧ v.sameBut u [Reg.PAT_CTX_STAT e c])) ∧
      (v.pinLevels.testBit i = (p == 0) → s.does (.waitPin dt e c) (fun u => (u.patCtx e c).sampling = true ∧ v.sameBut u []))) ∧
    (∀ i : Fin 512, v.patFetch e c = 0x3400 + i →
      ((v.patCtx e c).left = none → s.does (.waitTime dt e c) (fun u => (u.patCtx e c).left = some (i + 1) ∧ v.sameBut u [])) ∧
      (∀ k, (v.patCtx e c).left = some (k + 2) → s.does (.waitTime dt e c) (fun u => (u.patCtx e c).left = some (k + 1) ∧ v.sameBut u [])) ∧
      ((v.patCtx e c).left = some 1 → s.does (.waitTime dt e c) (fun u => (u.patCtx e c).left = none ∧
        u.patPc e c = (v.patPc e c + 1) % 512 ∧ v.sameBut u [Reg.PAT_CTX_STAT e c]))) ∧
    (∀ r : Fin 4, v.patFetch e c = 0x3600 + r → (v.patCtx e c).left = none →
      (v.patW e c r = 0 → s.does (.waitTime dt e c) (fun u => u.patPc e c = (v.patPc e c + 1) % 512 ∧ v.sameBut u [Reg.PAT_CTX_STAT e c])) ∧
      (v.patW e c r ≠ 0 → s.does (.waitTime dt e c) (fun u => (u.patCtx e c).left = some (v.patW e c r).toNat ∧ v.sameBut u []))) ∧
    (∀ r : Fin 4, v.patFetch e c = 0x3800 + r →
      (v.outOk = true → v.outReverse = false → angDist v.out ((v.patW e c r).toNat % 2 ^ 24) ≤ 0 → s.does (.waitAngle dt e c) (fun u =>
        u.patPc e c = (v.patPc e c + 1) % 512 ∧ v.sameBut u [Reg.PAT_CTX_STAT e c])) ∧
      ((v.outOk = false ∨ v.outReverse = true ∨ 0 < angDist v.out ((v.patW e c r).toNat % 2 ^ 24)) → s.does (.waitAngle dt e c) (fun u =>
        v.sameBut u []))) ∧
    (v.patFetch e c = 0x3C00 →
      ((v.patCtx e c).trig = true → s.does (.waitTrig dt e c) (fun u => u.patPc e c = (v.patPc e c + 1) % 512 ∧ (u.patCtx e c).trig = false ∧
        u.flag (Fld.PAT_CTX_STAT_TRIG e c) = false ∧ v.sameBut u [Reg.PAT_CTX_STAT e c])) ∧
      ((v.patCtx e c).trig = false → s.does (.waitTrig dt e c) (fun u => v.sameBut u []))) ∧
    (∀ (k : Fin 5) (n : Nat) (q x : Word), 1 ≤ n → n ≤ 32 → v.patFetch e c = 0x9000 + 512 * k + 16 * (n % 32) →
      q = [BitVec.ofNat 32 (v.readPins (v.get (Fld.PAT_CTX_PINS_IN_BASE e c))), v.patW e c 0, v.patW e c 1, 0, 0xFFFFFFFF].getD k 0 →
      x = (if v.flag (Fld.PAT_CTX_CFG_SHDIR e c) then (v.patShr e c <<< n) ||| (q &&& BitVec.ofNat 32 (2 ^ n - 1))
        else (v.patShr e c >>> n) ||| (q <<< (32 - n))) →
      ((v.flag (Fld.PAT_CTX_CFG_AUTOSEND e c) = false ∨ Nat.min 32 (v.patShc e c + n) < v.patFill e c) → s.does (.shin dt e c) (fun u =>
        u.patPc e c = (v.patPc e c + 1) % 512 ∧ u.patShr e c = x ∧ u.patShc e c = Nat.min 32 (v.patShc e c + n) ∧
        v.sameBut u [Reg.PAT_CTX_STAT e c, Reg.PAT_CTX_SHR e c, Reg.PAT_CTX_SHC e c])) ∧
      (v.flag (Fld.PAT_CTX_CFG_AUTOSEND e c) = true → v.patFill e c ≤ Nat.min 32 (v.patShc e c + n) →
        ((v.patCtx e c).rx.length < 4 → s.does (.shin dt e c) (fun u => u.patPc e c = (v.patPc e c + 1) % 512 ∧
          (u.patCtx e c).rx = (v.patCtx e c).rx ++ [x] ∧ u.patShr e c = 0 ∧ u.patShc e c = 0)) ∧
        (4 ≤ (v.patCtx e c).rx.length → s.does (.shin dt e c) (fun u => (u.patCtx e c).rx = (v.patCtx e c).rx ∧ v.sameBut u [])))) ∧
    (∀ (d : Fin 4) (n : Nat) (x y : Word), 1 ≤ n → n ≤ 32 → v.patFetch e c = 0xA000 + 512 * d + 16 * (n % 32) →
      (v.flag (Fld.PAT_CTX_CFG_AUTORECV e c) = false ∨ n ≤ v.patShc e c) →
      x = (if v.flag (Fld.PAT_CTX_CFG_SHDIR e c) then v.patShr e c >>> (32 - n) else v.patShr e c &&& BitVec.ofNat 32 (2 ^ n - 1)) →
      y = (if v.flag (Fld.PAT_CTX_CFG_SHDIR e c) then v.patShr e c <<< n else v.patShr e c >>> n) →
      s.does (.shout dt e c) (fun u => u.patPc e c = (v.patPc e c + 1) % 512 ∧ u.patShr e c = y ∧ u.patShc e c = v.patShc e c - n ∧
        (d = 0 → ∀ k, k < n → (u.patPin e).testBit ((v.get (Fld.PAT_CTX_PINS_OUT_BASE e c) + k) % 32) = x.getLsbD k) ∧
        u.patW e c 0 = (if d = 1 then x else v.patW e c 0) ∧ u.patW e c 1 = (if d = 2 then x else v.patW e c 1))) ∧
    (∀ (b f : Fin 2) (r : Fin 4), v.patFetch e c = 0xB000 + 2048 * b + 1024 * f + 256 * r →
      ((v.patCtx e c).rx.length < 4 → s.does (.send dt e c) (fun u => u.patPc e c = (v.patPc e c + 1) % 512 ∧
        (u.patCtx e c).rx = (v.patCtx e c).rx ++ [if f = 1 then v.patW e c r else v.patShr e c] ∧
        u.patShr e c = (if f = 1 then v.patShr e c else 0) ∧ u.patW e c r = v.patW e c r)) ∧
      (4 ≤ (v.patCtx e c).rx.length → b = 1 → s.does (.send dt e c) (fun u => (u.patCtx e c).rx = (v.patCtx e c).rx ∧ v.sameBut u [])) ∧
      (4 ≤ (v.patCtx e c).rx.length → b = 0 → s.does (.send dt e c) (fun u => u.patPc e c = (v.patPc e c + 1) % 512 ∧
        (u.patCtx e c).rx = (v.patCtx e c).rx ∧
        u.get (Fld.PAT_CTX_STAT_DROPS e c) = (v.get (Fld.PAT_CTX_STAT_DROPS e c) + 1) % 256))) ∧
    (∀ (b f : Fin 2) (r : Fin 4), v.patFetch e c = 0xC000 + 2048 * b + 1024 * f + 256 * r →
      (∀ x l, (v.patCtx e c).tx = x :: l → s.does (.recv dt e c) (fun u => u.patPc e c = (v.patPc e c + 1) % 512 ∧
        (u.patCtx e c).tx = l ∧ (u.patCtx e c).last = some x ∧ (f = 1 → u.patW e c r = x ∧ u.patShr e c = v.patShr e c) ∧
        (f = 0 → u.patShr e c = x ∧ u.patShc e c = 32 ∧ u.patW e c r = v.patW e c r))) ∧
      ((v.patCtx e c).tx = [] → b = 1 → s.does (.recv dt e c) (fun u => v.sameBut u [])) ∧
      ((v.patCtx e c).tx = [] → b = 0 → s.does (.recv dt e c) (fun u => u.patPc e c = (v.patPc e c + 1) % 512 ∧
        u.flag (Fld.PAT_CTX_STAT_STALE e c) = true ∧ (f = 1 → u.patW e c r = (v.patCtx e c).last.getD 0) ∧
        (f = 0 → u.patShr e c = (v.patCtx e c).last.getD 0 ∧ u.patShc e c = 32))))

-- ── Discrete inputs, the seal, loss of host, restarts, sleep (R13–R17, R22, R23, R288, R300, R319, R320, R357) ───

/-- Events outside the engine's running: a filtered input shows its level and may make a transition of R15 due; KEY released for 10 ms clears
REARM_WAIT; a GPIO edge that is enabled sets its flag and source 248; the seal's levels
show and open or close it, but not in the first 20 ms of TCLK (the model's reading, log entry 91), and 1 s of equal levels sets SEAL_INVALID;
loss of host is noted, and after HOLD its ramp starts; a processor that differs restarts; the commit of a sleep enters Frost, or a pending
wake source aborts it. -/
def Obligations.SystemEvents : Prop :=
  ∀ (s v : State) (dt : Nat), s.advance dt = v →
    (∀ b : Bool, v.awake = true → v.key = !b → s.does (.keyChange dt b) (fun u => u.key = b ∧
      u.sys.keyOffAt = (if b then none else some v.now) ∧ v.sameBut u [Reg.SYS_STAT] ∧
      (b = true → v.st = 4 → v.stopReq = false → v.flag Fld.SYS_STAT_REARM_WAIT = false → v.safeFault = false → u.transition = some 5) ∧
      (b = false → v.st = 6 → v.safeFault = false → u.transition = some 7) ∧
      (b = false → v.st = 5 → v.safeFault = false → u.transition = some 4))) ∧
    (∀ b : Bool, v.awake = true → s.does (.stopreqChange dt b) (fun u => u.stopReq = b ∧ v.sameBut u [Reg.SYS_STAT] ∧
      (b = true → v.st = 6 → v.safeFault = false → u.transition = some 7))) ∧
    (∀ w b : Bool, v.awake = true → s.does (.discreteInputChange dt w b) (fun u =>
      u.flag (if w then Fld.SYS_STAT_WAKE else Fld.SYS_STAT_START) = b ∧ u.key = v.key ∧ v.sameBut u [Reg.SYS_STAT])) ∧
    (∀ t : Nat, v.sys.keyOffAt = some t → v.flag Fld.SYS_STAT_REARM_WAIT = true → v.key = false →
      v.passed (Nat.max t v.sys.rearmAt) (10 * msTicks) = true →
      s.does (.rearmWaitClear dt) (fun u => u.flag Fld.SYS_STAT_REARM_WAIT = false ∧ v.sameBut u [Reg.SYS_STAT])) ∧
    (∀ (n : Fin 32) (b : Bool), v.get Fld.HST_GPIO_FUNC_AOUT = 0 → v.get (Fld.PAT_PINOUT_OUT 0) = 0 → v.get (Fld.PAT_PINOUT_OUT 1) = 0 →
      v.bit Fld.HST_GPIO_DIR_DIR n = false → v.hst.gpioSeen.testBit n = !b →
      v.bit (if b then Fld.HST_GPIO_IRQR_RISE else Fld.HST_GPIO_IRQF_FALL) n = true →
      s.does (.gpioEdge dt n b) (fun u => u.hst.gpioExt.testBit n = b ∧ u.bit Fld.HST_GPIO_IFLAG_FLAG n = true ∧ u.isPend false 248 = true)) ∧
    (∀ a b : Bool, v.pwr.inReset = false → 3 ≤ v.st → v.tclk < 20 * msTicks → s.leaves (.sealChange dt a b) (fun u => u = v)) ∧
    (∀ a b : Bool, v.pwr.inReset = false → 3 ≤ v.st → 20 * msTicks ≤ v.tclk → (v.sealOpen = (a && !b) → s.leaves (.sealChange dt a b) (fun u =>
        u.flag Fld.SEC_STAT_SEAL_A = a ∧ u.flag Fld.SEC_STAT_SEAL_B = b ∧ u.sealOpen = v.sealOpen ∧ v.sameBut u [Reg.SEC_STAT])) ∧
      (v.sealOpen = !(a && !b) → v.st ≠ 9 → s.does (.sealChange dt a b) (fun u => u.flag Fld.SEC_STAT_SEAL_A = a ∧
        u.flag Fld.SEC_STAT_SEAL_B = b ∧ u.sealOpen = !v.sealOpen))) ∧
    (∀ t : Nat, v.sys.sealEqAt = some t → v.passed t (1000 * msTicks) = true → v.flag Fld.SEC_STAT_SEAL_INVALID = false →
      s.does (.sealInvalid dt) (fun u => u.flag Fld.SEC_STAT_SEAL_INVALID = true ∧ v.sameBut u [Reg.SEC_STAT])) ∧
    (v.awake = true → 4 ≤ v.st → v.flag Fld.SYS_STAT_HOST_LOST = false →
      v.passed v.sys.hostAt (v.get Fld.PKT_HOSTTIMEOUT_TIMEOUT * msTicks) = true →
      s.does (.hostLost dt) (fun u => u.flag Fld.SYS_STAT_HOST_LOST = true ∧ u.sys.lostAt = v.now ∧ v.sameBut u [Reg.SYS_STAT])) ∧
    (v.flag Fld.SYS_STAT_HOST_LOST = true → v.flag Fld.SYS_STAT_HOST_RAMP = false → v.sys.rampDone = false →
      v.passed v.sys.lostAt (v.get Fld.SYS_HOSTLOSS_HOLD * msTicks) = true → (v.flag Fld.SYS_HOSTLOSS_GOV_AUTO = false ∨ v.governs = false) →
      v.flag Fld.SCH_CTRL_DEMAND = true → v.stopped = false →
      s.does (.hostRamp dt) (fun u => u.flag Fld.SYS_STAT_HOST_RAMP = true ∧ u.sys.rampCycles = 0 ∧ v.sameBut u [Reg.SYS_STAT])) ∧
    (v.awake = true → 3 ≤ v.st →
      ((v.sys.supAt = none ∨ ∃ t, v.sys.supAt = some t ∧ t + 1 + 1000 * msTicks ≤ v.now) →
        s.does (.supLockstepFail dt) (fun u => u.flag Fld.SYS_STAT_SUP_RESTART = true ∧ u.sys.supDown = true ∧ u.sys.supAt = some v.now ∧
          v.sameBut u [Reg.SYS_STAT])) ∧
      (∀ t, v.sys.supAt = some t → v.now < t + 1 + 1000 * msTicks → s.does (.supLockstepFail dt) (fun u =>
        u.flag Fld.SYS_STAT_SUP_RESTART = true ∧ u.sys.supDown = true ∧ u.flag Fld.SYS_FAULT_SUP_LOCKSTEP = true ∧
        v.sameBut u [Reg.SYS_STAT, Reg.SYS_FAULT])) ∧
      s.does (.comLockstepFail dt) (fun u => u.flag Fld.SYS_STAT_COM_RESTART = true ∧ u.sys.comDown = true ∧
        (∀ p : Fin 5, (u.hst.port p).inq = [] ∧ (u.hst.port p).outq = (v.hst.port p).outq) ∧ v.sameBut u [Reg.SYS_STAT])) ∧
    s.does (.supRestartDone dt) (fun u => u.sys.supDown = false ∧ u.regs = v.regs) ∧
    s.does (.comRestartDone dt) (fun u => u.sys.comDown = false ∧ u.regs = v.regs) ∧
    (v.pwr.sleepReq = true → v.st = 4 →
      (v.pwr.wakeSeen &&& v.get Fld.PWR_WAKEEN_EN = 0 → v.levelWakes = 0 → s.does (.sleepCommit dt) (fun u => u.st = 1 ∧
        u.get Fld.SYS_STATE_PREV = 4 ∧ u.pwr.frostAt = v.now ∧ u.pwr.sleepReq = false ∧ u.get Fld.TRK_FCNT_COUNT = 0)) ∧
      ((v.pwr.wakeSeen &&& v.get Fld.PWR_WAKEEN_EN ≠ 0 ∨ v.levelWakes ≠ 0) → s.does (.sleepCommit dt) (fun u => u.st = 4 ∧
        u.flag Fld.SYS_STAT_SLEEP_ABORT = true ∧ u.pwr.sleepReq = false ∧ v.sameBut u [Reg.SYS_STAT])))

-- ── Supplies, reset, wake, calving (R311–R334) ────────────────────────────────────────────────────────────────────

/-- What a reset leaves (R312–R314): the device is in reset, in the state THAW; the cause stands in PWR_RSTC beside those before it, a
rail's fault with the rail's number; every register is at its reset value but those of the always-on domain, which stand; MRAM stands, and no SRAM byte does. -/
def Obligations.ResetsKeepTheAlwaysOn : Prop :=
  ∀ (s v : State) (dt : Nat), s.advance dt = v → v.canonical = true →
    (∀ (c : Instr) (f : FReg),
      (∃ n, 5 * usTicks ≤ n ∧ c = .brownOut dt n ∧ f = Fld.PWR_RSTC_BOR) ∨ (∃ n, 10 * usTicks ≤ n ∧ c = .nrstAssert dt n ∧ f = Fld.PWR_RSTC_PIN) ∨
      (∃ t : Int, 175 ≤ t ∧ c = .overTemperature dt t ∧ f = Fld.PWR_RSTC_TSD) ∨
      (∃ (r : Fin 5) (mv n : Nat), v.awake = true ∧ v.railOut r mv n = true ∧ c = .railFault dt r mv n ∧ f = Fld.PWR_RSTC_RAIL) →
      s.leaves c (fun t => t.pwr.inReset = true ∧ t.flag f = true ∧ t.st = 2 ∧ t.pending = v.pending ∧
        (∀ k, k < 8 → k ≠ f.lo → (t.word Reg.PWR_RSTC).getLsbD k = (v.word Reg.PWR_RSTC).getLsbD k) ∧
        (∀ r mv n, c = .railFault dt r mv n → t.get Fld.PWR_RSTC_RAIL_ID = r.val + 1) ∧
        (∀ a, a ∉ aonRegs → t.word a = regReset a) ∧ (∀ a, a ∈ aonRegs → a ≠ Reg.PWR_RSTC → t.word a = v.word a) ∧
        (∀ a, 0x60000000 ≤ a → t.byte a = v.byte a) ∧ (∀ a, a < 0x60000000 → t.byte a = 0))) ∧
    s.leaves (.powerOn dt) (fun t => t.pwr.inReset = true ∧ (∀ a, t.word a = regReset a) ∧
      (∀ a, 0x60000000 ≤ a → t.byte a = v.byte a) ∧ (∀ a, a < 0x60000000 → t.byte a = 0))

/-- Supplies and the way to IDLE (R311–R315, R337, R340, R293): supervisor faults set their flag; a reset whose causes have ended is released into
THAW; THAW ends with the PLLs locked, in BOOT, where an image is chosen at once: after a wake without a new check where the shortcut holds, else the active
one, the other one after a trial that failed or where the active one does not verify, and with neither SYS_FAULT.IMAGE sets, the slot chosen
first staying active and its measurement retained (log entry 90, the model's reading); BOOT ends in IDLE once an image runs and the calibration
is loaded. -/
def Obligations.SuppliesAndBoot : Prop :=
  ∀ (s v : State) (dt : Nat), s.advance dt = v →
    (∀ x n : Nat, v.awake = true → 10 * v.get Fld.PWR_SUPCFG_VBAT_OV < x → msTicks ≤ n → s.does (.vbatOv dt x n) (fun u =>
      u.flag Fld.PWR_SUPV_VBAT_OV = true ∧ u.flag Fld.SYS_FAULT_PWR = true ∧ u.pwr.vbatOver = true ∧ u.faultHolds 4 = true ∧
      v.sameBut u [Reg.PWR_VMON, Reg.PWR_SUPV, Reg.SYS_FAULT])) ∧
    (∀ x n : Nat, x ≤ 10 * v.get Fld.PWR_SUPCFG_VBAT_OV → msTicks ≤ n → s.leaves (.vbatOvEnded dt x n) (fun u =>
      u.faultHolds 4 = false ∧ v.sameBut u [Reg.PWR_VMON])) ∧
    (∀ x n : Nat, v.awake = true → x < 240 → 10 * msTicks ≤ n → s.does (.vaonLost dt x n) (fun u => u.flag Fld.PWR_SUPV_VAON_LOST = true ∧
      u.flag Fld.PWR_STAT_VAON_OK = false ∧ u.flag Fld.PWR_STAT_AON_SRC = false ∧ v.sameBut u [Reg.PWR_VMON, Reg.PWR_STAT, Reg.PWR_SUPV])) ∧
    (∀ x : Nat, v.awake = true → s.does (.aonSourceChange dt x) (fun u => u.flag Fld.PWR_STAT_AON_SRC = decide (250 ≤ x) ∧
      u.flag Fld.PWR_STAT_VAON_OK = decide (250 ≤ x) ∧ v.sameBut u [Reg.PWR_VMON, Reg.PWR_STAT])) ∧
    (∀ (x n l : Nat) (t : Int), v.pwr.inReset = true → 10 * (v.get Fld.PWR_CALVB_C6 + v.get Fld.PWR_CALVCFG_HYST) < x → msTicks ≤ n →
      10 * usTicks ≤ l → t < (if v.pwr.tsd then 160 else 175) → s.leaves (.resetRelease dt x n l t) (fun u => u.pwr.inReset = false ∧
        u.clk.thawAt = v.now ∧ u.key = v.hst.discExt.testBit 0 ∧ u.stopReq = v.hst.discExt.testBit 1 ∧
        v.sameBut u [Reg.PWR_VMON, Reg.PWR_STAT, Reg.SYS_STAT, Reg.CLK_XCFG, Reg.CLK_XDLY])) ∧
    (v.st = 2 → v.pwr.inReset = false → v.clockJudged = true → ∃ w : State, exec (.thawComplete dt) s = .next w.selectImage.settle ∧
      w.st = 3 ∧ w.get Fld.SYS_STATE_PREV = 2 ∧ w.tclk = 0 ∧ w.flag Fld.CLK_STAT_TPLL_LOCK = true ∧ w.flag Fld.CLK_STAT_SPLL_LOCK = true ∧
      w.flag Fld.CLK_STAT_FPLL_LOCK = !v.flag Fld.CLK_STAT_REF ∧ w.get Fld.CLK_OPREQ_REQ = 3 ∧ w.sec = v.sec ∧ w.mem = v.mem ∧ w.pwr.woke = v.pwr.woke) ∧
    (∀ (w : State) (k : Nat), w.mayskip = false → k = w.sec.active → k ≤ 1 → w.sys.verified = false →
      (w.sec.trial = false → w.imageCode k = 0 → w.selectImage.sys.verified = true ∧ w.selectImage.sec.active = k ∧
        w.selectImage.sec.trial = false ∧ w.selectImage.sec.retained = w.measure_ k) ∧
      (w.sec.trial = true → w.sec.attempt = false → w.imageCode k = 0 → w.selectImage.sys.verified = true ∧ w.selectImage.sec.active = k ∧
        w.selectImage.sec.trial = true ∧ w.selectImage.sec.attempt = true) ∧
      (w.sec.trial = true → w.sec.attempt = true → w.imageCode (1 - k) = 0 → w.selectImage.sys.verified = true ∧
        w.selectImage.sec.active = 1 - k ∧ w.selectImage.sec.trial = false ∧ w.selectImage.sec.attempt = false ∧
        w.selectImage.flag Fld.SEC_STAT_TRIAL_FAIL = true) ∧
      ((w.sec.trial = false ∨ w.sec.attempt = false) → w.imageCode k ≠ 0 → w.imageCode (1 - k) = 0 → w.selectImage.sys.verified = true ∧
        w.selectImage.sec.active = 1 - k ∧ w.selectImage.sec.trial = false ∧ w.selectImage.sec.attempt = false ∧
        w.selectImage.flag Fld.SEC_STAT_FALLBACK = true) ∧
      (w.imageCode k ≠ 0 → w.imageCode (1 - k) ≠ 0 → w.selectImage.sys.verified = false ∧ w.selectImage.flag Fld.SYS_FAULT_IMAGE = true ∧
        w.selectImage.sec.active = (if w.sec.trial && w.sec.attempt then 1 - k else k) ∧
        w.selectImage.sec.retained = w.measure_ w.selectImage.sec.active)) ∧
    (∀ w : State, w.mayskip = true → w.selectImage.flag Fld.SEC_STAT_THAW_SKIP = true ∧ w.selectImage.sys.verified = true ∧
      w.selectImage.sec.active = w.sec.active) ∧
    (v.st = 3 → (v.sys.verified = false → s.leaves (.bootComplete dt) (fun u => u = v)) ∧
      (∀ w : State, v.sys.verified = true → w = v.openBlocks.loadFirmware →
        (w.safeFault = false → s.does (.bootComplete dt) (fun u => u.st = 4 ∧ u.get Fld.SYS_STATE_PREV = 3)) ∧
        (w.safeFault = true → s.does (.bootComplete dt) (fun u => u = w))))

/-- Wake and calving (R323, R325, R326, R330, R331, R333): an enabled source starts a Thaw and is recorded, or is held while VBAT has not returned (the
CAN pattern's order of phases is the model's reading, log entry 85), and one between the acceptance of SLEEP and its commit is pending; a stage is
entered when the mean lies below its threshold and left one by one, with the streaming, CAN1 and the bus that it sheds and restores; at the end of C6 the device enters Frost with VAON present,
and is reset with CALV6 without. -/
def Obligations.WakeAndCalving : Prop :=
  ∀ (s v : State) (dt : Nat), s.advance dt = v →
    (∀ (w : WakeLines) (k : Fin 11), (v.wakeBits w).testBit k =
      [decide (msTicks ≤ w.key), decide (msTicks ≤ w.start), decide (msTicks ≤ w.wake), v.canWakes w.can0, v.canWakes w.can1,
       decide (10 * usTicks * Nat.max 1 (v.get Fld.PWR_WAKECFG_T1S_T) ≤ w.t1s),
       (List.range 4).any (fun p => v.wakePorts.testBit p && decide (10 * usTicks ≤ w.flo.getD p 0)), v.st == 1 && v.toothWakes, false, false,
       v.st == 1 && v.watcherWakes w].getD k false) ∧
    (∀ (a b c t : Nat), t = usTicks * Nat.max 1 (v.get Fld.PWR_WAKECFG_CAN_T) →
      (v.canWakes [a, b, c] = true ↔ t ≤ a ∧ t ≤ b ∧ t ≤ c ∧ a + b + c ≤ msTicks)) ∧
    (∀ (w : WakeLines) (e : Nat), v.pwr.inReset = false → e = v.wakeBits w &&& v.get Fld.PWR_WAKEEN_EN → v.st ≠ 1 → v.pwr.sleepReq = true →
      s.leaves (.wakeSource dt w true) (fun u => u.pwr.wakeSeen = v.pwr.wakeSeen ||| e ∧ u.st = v.st ∧ v.sameBut u [])) ∧
    (∀ (w : WakeLines) (e : Nat), v.st = 1 → v.pwr.inReset = false → e = v.wakeBits w &&& v.get Fld.PWR_WAKEEN_EN → e ≠ 0 →
      s.leaves (.wakeSource dt w true) (fun u => u.st = 2 ∧ u.get Fld.SYS_STATE_PREV = 1 ∧ u.flag Fld.PWR_RSTC_FROST = true ∧
        u.word Reg.PWR_WAKESRC = BitVec.ofNat 32 (e ||| v.pwr.wakeHeld) ∧ u.pwr.woke = true ∧ u.clk.thawAt = v.now) ∧
      s.leaves (.wakeSource dt w false) (fun u => u.st = 1 ∧ u.pwr.wakeHeld = v.pwr.wakeHeld ||| e ∧ v.sameBut u [])) ∧
    (v.st = 1 → v.pwr.inReset = false → v.get Fld.PWR_AONTMR_PERIOD ≠ 0 → (v.get Fld.PWR_WAKEEN_EN).testBit 8 = true →
      v.passed v.pwr.frostAt (v.get Fld.PWR_AONTMR_PERIOD * 388000000) = true →
      s.leaves (.aonTimerExpiry dt true) (fun u => u.st = 2 ∧ (u.word Reg.PWR_WAKESRC).getLsbD 8 = true) ∧
      s.leaves (.aonTimerExpiry dt false) (fun u => u.st = 1 ∧ u.pwr.wakeHeld = v.pwr.wakeHeld ||| 256 ∧ v.sameBut u [])) ∧
    (v.st = 1 → v.pwr.inReset = false → v.pwr.wakeHeld ≠ 0 → s.leaves (.wakeHeldRelease dt) (fun u => u.st = 2 ∧
      u.flag Fld.PWR_RSTC_FROST = true ∧ u.pwr.wakeHeld = 0)) ∧
    (v.st = 1 → v.pwr.inReset = false → v.pwr.frostFromC6 = true → (v.get Fld.PWR_WAKEEN_EN).testBit 9 = true →
      s.leaves (.wakeHeldRelease dt) (fun u => u.st = 2 ∧ (u.word Reg.PWR_WAKESRC).getLsbD 9 = true)) ∧
    (∀ x n k : Nat, v.awake = true → v.stage < k → k ≤ 6 → x < 10 * v.calvThr k → (∀ j, k < j → j ≤ 6 → 10 * v.calvThr j ≤ x) →
      usTicks * v.get Fld.PWR_CALVCFG_ENTRY_T ≤ n → s.does (.calvingEntry dt x n) (fun u => u.stage = k ∧
        (2 ≤ k → u.flag Fld.PWR_STAT_OP_CAPPED = true) ∧ (v.stage < 1 → u.flag Fld.WIT_STAT_STREAM_HELD = true) ∧
        (v.stage < 2 → 2 ≤ k → u.get (Fld.HST_CAN_STAT_STATE 1) = 3 ∧ u.flag Fld.HST_T1S_STAT_SUSPENDED = true ∧
          (u.hst.port 2).inq = [] ∧ (u.hst.port 3).inq = []) ∧ (k = 6 → v.isCope = false → u.pwr.c6Quench = some v.now))) ∧
    (∀ x n : Nat, v.awake = true → 1 ≤ v.stage → v.stage ≤ 5 → 10 * (v.calvThr v.stage + v.get Fld.PWR_CALVCFG_HYST) < x → msTicks ≤ n →
      v.passed v.pwr.stageAt msTicks = true → s.does (.calvingExit dt x n) (fun u => u.stage = v.stage - 1 ∧
        u.flag Fld.PWR_STAT_OP_CAPPED = decide (3 ≤ v.stage) ∧ (v.stage = 1 → u.flag Fld.WIT_STAT_STREAM_HELD = false) ∧
        (v.stage = 2 → u.get (Fld.HST_CAN_STAT_STATE 1) = 0 ∧ u.flag Fld.HST_T1S_STAT_SUSPENDED = false))) ∧
    (∀ t : Nat, v.pwr.c6Quench = some t → v.pwr.c6Wait = none → v.stage = 6 → (∀ n : Fin 48, v.phase n = 0) →
      (250 ≤ v.pwr.vaon → s.leaves (.c6Finish dt) (fun u => u.st = 1 ∧ u.pwr.frostFromC6 = true ∧ u.get Fld.SYS_STATE_PREV = v.st)) ∧
      (v.pwr.vaon < 250 → s.leaves (.c6Finish dt) (fun u => u.pwr.inReset = true ∧ u.flag Fld.PWR_RSTC_CALV6 = true ∧ u.st = 2)))

-- ── Clocks (R339–R350, R352, R354) ────────────────────────────────────────────────────────────────────────────────

/-- Clock events: the eighth window in a row that passes judges the crystal and starts the switch to it, a window that fails starts the run again;
20 ms without a judgement is XTAL_FAIL; a mux takes its input, or is switched by force; a missing clock moves its mux; TPLL losing lock
raises SYS_FAULT.CLK, and locking again resynchronises the trackers and takes the pair's role up (log entry 17, the model's reading); SPLL and FPLL losing lock move SCLK to the IRC and take the Floe ports down; the operating point goes on step by
step; a counter's window shows its count. -/
def Obligations.ClockEvents : Prop :=
  ∀ (s v : State) (dt : Nat), s.advance dt = v →
    (∀ n : Nat, v.judging = true → v.flag Fld.CLK_XCFG_JUDGE = true →
      (v.windowPasses n = true → 7 ≤ v.clk.judgeRun → s.does (.judgeWindowEnd dt n) (fun u => u.flag Fld.CLK_STAT_JUDGED = true ∧
        MuxSwitch.refToXtal ∈ u.clk.switching ∧ u.flag Fld.CLK_STAT_SW_BUSY = true ∧ v.sameBut u [Reg.CLK_STAT])) ∧
      (v.windowPasses n = true → v.clk.judgeRun < 7 → s.leaves (.judgeWindowEnd dt n) (fun u => u.clk.judgeRun = v.clk.judgeRun + 1 ∧
        v.sameBut u [])) ∧
      (v.windowPasses n = false → s.leaves (.judgeWindowEnd dt n) (fun u => u.clk.judgeRun = 0 ∧ v.sameBut u []))) ∧
    (v.judging = true → v.flag Fld.CLK_XCFG_JUDGE = true → v.passed v.clk.thawAt (20 * msTicks) = true →
      s.does (.xtalFail dt) (fun u => u.flag Fld.CLK_STAT_XTAL_FAIL = true ∧ v.sameBut u [Reg.CLK_STAT])) ∧
    (v.judging = true → v.flag Fld.CLK_XCFG_JUDGE = false → v.flag Fld.CLK_STAT_REF = true → v.clk.switching = [] →
      v.passed v.clk.thawAt (100 * usTicks * Nat.max 1 (v.get Fld.CLK_XDLY_DLY)) = true →
      s.does (.xtalFixedDelay dt) (fun u => u.clk.switching = [.refToXtal] ∧ u.flag Fld.CLK_STAT_SW_BUSY = true ∧
        v.sameBut u [Reg.CLK_STAT])) ∧
    (∀ k : Fin 4, muxOf k ∈ v.clk.switching → s.does (.muxSwitchDone dt k) (fun u => muxOf k ∉ u.clk.switching ∧
      u.flag Fld.CLK_STAT_REF = (if k = 0 then false else if k = 1 then true else v.flag Fld.CLK_STAT_REF) ∧
      u.clk.sclkIrc = (if k = 2 then false else if k = 3 then true else v.clk.sclkIrc) ∧ v.sameBut u [Reg.CLK_STAT])) ∧
    (∀ (m : MuxSwitch) (r : List MuxSwitch), v.clk.switching = m :: r → s.does (.forcedSwitch dt) (fun u => m ∉ u.clk.switching ∧
      u.flag Fld.CLK_STAT_SWITCH_FORCED = true ∧
      (m = .refToXtal → u.flag Fld.CLK_STAT_XTAL_FAIL = true ∧ u.flag Fld.CLK_STAT_REF = v.flag Fld.CLK_STAT_REF) ∧
      (m = .refToIrc → u.flag Fld.CLK_STAT_XTAL_FAIL = true ∧ u.flag Fld.CLK_STAT_REF = true) ∧
      (m = .sclkToSpll → u.clk.sclkIrc = false) ∧ (m = .sclkToIrc → u.clk.sclkIrc = true))) ∧
    (∀ k : Fin 8, s.does (.clockMissing dt k) (fun u =>
      (k = 0 → v.flag Fld.CLK_STAT_REF = false → MuxSwitch.refToIrc ∈ u.clk.switching) ∧
      (k = 4 → v.clk.sclkIrc = false → MuxSwitch.sclkToIrc ∈ u.clk.switching) ∧
      (v.clk.fmcOpen = true → (v.get Fld.CLK_FMC_CTRL_TGT = k ∨ v.get Fld.CLK_FMC_CTRL_REF = k) → u.clk.fmcOpen = false ∧ u.flag Fld.CLK_FMC_CTRL_NOCLK = true) ∧
      v.sameBut u [Reg.CLK_STAT, Reg.CLK_FMC_CTRL])) ∧
    (v.tclkRuns = true → v.clk.tpllLost = false → s.does (.tpllUnlock dt) (fun u => u.flag Fld.CLK_STAT_TPLL_LOCK = false ∧
      u.flag Fld.CLK_STAT_TPLL_UNLOCK = true ∧ u.flag Fld.SYS_FAULT_CLK = true ∧ u.clk.tpllLost = true ∧ u.faultHolds 3 = true)) ∧
    (v.clk.tpllLost = true → ∃ w x : State, w.clk.tpllLost = false ∧ w.flag Fld.CLK_STAT_TPLL_LOCK = true ∧ v.sameBut w [Reg.CLK_STAT] ∧
      x = (w.resyncTracker 0).resyncTracker 1 ∧ (x.paired = false → s.does (.tpllRelock dt) (fun u => u = x)) ∧
      (x.paired = true → x.flag Fld.FLO_PAIRSTAT_ARB_LINE = true → x.flag Fld.FLO_PAIRSTAT_ARB_OWN = false →
        s.does (.tpllRelock dt) (fun u => u = x.setRole 2)) ∧
      (x.paired = true → (x.flag Fld.FLO_PAIRSTAT_ARB_LINE = false ∨ x.flag Fld.FLO_PAIRSTAT_ARB_OWN = true) →
        s.does (.tpllRelock dt) (fun u => u = if x.isCope then x.assertArb true else x))) ∧
    (v.flag Fld.CLK_STAT_SPLL_LOCK = true → s.does (.spllUnlock dt) (fun u => u.flag Fld.CLK_STAT_SPLL_LOCK = false ∧
      (v.clk.sclkIrc = false → MuxSwitch.sclkToIrc ∈ u.clk.switching) ∧ v.sameBut u [Reg.CLK_STAT])) ∧
    (v.tclkRuns = true → v.flag Fld.CLK_STAT_SPLL_LOCK = false → s.does (.spllRelock dt) (fun u => u.flag Fld.CLK_STAT_SPLL_LOCK = true ∧
      MuxSwitch.sclkToSpll ∈ u.clk.switching ∧ MuxSwitch.sclkToIrc ∉ u.clk.switching ∧ v.sameBut u [Reg.CLK_STAT])) ∧
    (v.flag Fld.CLK_STAT_FPLL_LOCK = true → s.does (.fpllUnlock dt) (fun u => u.flag Fld.CLK_STAT_FPLL_LOCK = false ∧
      ∀ p : Fin 4, u.get (Fld.FLO_PORT_STAT_STATE p) = 0)) ∧
    (v.tclkRuns = true → v.flag Fld.CLK_STAT_REF = false → v.flag Fld.CLK_STAT_XTAL_FAIL = false →
      s.does (.fpllRelock dt) (fun u => u.flag Fld.CLK_STAT_FPLL_LOCK = true)) ∧
    (v.flag Fld.CLK_XCFG_LF_XTAL = true → v.flag Fld.CLK_STAT_LF_FAIL = false → s.does (.lfFail dt) (fun u =>
      u.flag Fld.CLK_STAT_LF_FAIL = true ∧ u.clk.onXlf = false ∧ v.sameBut u [Reg.CLK_STAT])) ∧
    (∀ mv : Nat, v.clk.phase = .ramp mv → v.passed v.clk.stepAt v.dvfsTime = true → s.does (.dvfsStep dt) (fun u => u.clk.vcore = mv ∧
      u.clk.phase = .settle ∧ u.clk.d = v.clk.d ∧ v.sameBut u [])) ∧
    ((v.clk.phase = .dwell ∨ v.clk.phase = .settle) → v.passed v.clk.stepAt v.dvfsTime = true →
      (opDiv v.opTarget < v.clk.d → opVolt v.opTarget ≤ v.clk.vcore → s.does (.dvfsStep dt) (fun u => u.clk.phase = .dwell ∧
        u.clk.d = v.clk.d - 1 ∧ v.sameBut u [Reg.CLK_STAT])) ∧
      (opDiv v.opTarget < v.clk.d → v.clk.vcore < opVolt v.opTarget → s.does (.dvfsStep dt) (fun u =>
        u.clk.phase = .ramp (opVolt v.opTarget) ∧ u.clk.d = v.clk.d ∧ v.sameBut u [Reg.CLK_STAT])) ∧
      (v.clk.d < opDiv v.opTarget → s.does (.dvfsStep dt) (fun u => u.clk.phase = .dwell ∧ u.clk.d = v.clk.d + 1 ∧
        v.sameBut u [Reg.CLK_STAT])) ∧
      (v.clk.d = opDiv v.opTarget → v.clk.vcore ≠ opVolt v.opTarget → s.does (.dvfsStep dt) (fun u =>
        u.clk.phase = .ramp (opVolt v.opTarget) ∧ u.clk.d = v.clk.d ∧ v.sameBut u [Reg.CLK_STAT])) ∧
      (v.clk.d = opDiv v.opTarget → v.clk.vcore = opVolt v.opTarget →
        s.does (.dvfsStep dt) (fun u => u.clk.phase = .idle ∧ u.get Fld.PWR_STAT_OP = v.opTarget ∧ u.flag Fld.CLK_STAT_DVFS_BUSY = false ∧
          v.sameBut u [Reg.CLK_STAT, Reg.PWR_STAT]))) ∧
    s.leaves (.spreadApply dt) (fun u => u.clk.spreadNow = v.word Reg.CLK_SPREAD ∧ u.regs = v.regs) ∧
    (∀ n : Nat, v.clk.fmcOpen = true → s.does (.fmcWindowEnd dt n) (fun u => u.get Fld.CLK_FMC_CNT_COUNT = Nat.min n (2 ^ 32 - 1) ∧
      u.flag Fld.CLK_FMC_CTRL_DONE = true ∧ u.clk.fmcOpen = v.flag Fld.CLK_FMC_CTRL_CONT ∧
      v.sameBut u [Reg.CLK_FMC_CNT, Reg.CLK_FMC_MM, Reg.CLK_FMC_CTRL])) ∧
    s.does (.gateForced dt) (fun u => u.flag Fld.CLK_STAT_GATE_FORCED = true ∧ u.bus.err = true ∧ u.bus.status = stBusError ∧
      v.sameBut u [Reg.CLK_STAT])

-- ── Wheel inputs and the simulator (R30–R43, R52–R56) ─────────────────────────────────────────────────────────────

/-- Wheel inputs and the simulator (R30–R43, R52–R56). An active edge of a digital input that passes the filters is stamped, counted and queued for the
trackers that use the input, with the direction by DIR_MODE; so is the downward crossing of a VR input that has armed, which arms at its
threshold; a glitch is dropped with its return; the ratio filter rejects; an input that is off delivers nothing; a pulse's width gives the
direction; an edge that does not come sets PW_INVALID, and NODIR in Frost; a VR input's peak memory clears after 200 ms, and its shorts and
opens are reported. A crossing that lies behind the simulated angle produces its edge at the crank or cam input, which DROP omits; every 2^16 ticks
the simulator's rate moves by ACC toward TGT. -/
def Obligations.WheelRows : Prop :=
  (∀ (s v : State) (dt : Nat) (n : Fin 4), s.advance dt = v →
    (∀ (k : Fin 16) (l : Bool) (held peak : Nat), v.wheelPin n = !l → v.flag Fld.CLK_GATE0_WHL = true → v.simulated n = false →
      v.isReturn n = false →
      (held < 4 * Nat.max 1 (v.get (Fld.WHL_FILT_MIN_TIME n)) → v.frontEnd n ≠ 0 → s.does (.inputEdge dt n k l held peak) (fun u =>
        u.get (Fld.WHL_CNT_GLITCH n) = (v.get (Fld.WHL_CNT_GLITCH n) + 2) % 2 ^ (Fld.WHL_CNT_GLITCH n).w ∧
        (u.whl n).stamp = (v.whl n).stamp ∧ u.trks = v.trks)) ∧
      (4 * Nat.max 1 (v.get (Fld.WHL_FILT_MIN_TIME n)) ≤ held →
        ((2 ≤ v.frontEnd n ∧ v.isActive n (l != v.flag (Fld.WHL_CFG_POL n)) = true) ∨
          (v.frontEnd n = 1 ∧ (l != v.flag (Fld.WHL_CFG_POL n)) = false ∧ v.flag (Fld.WHL_STAT_ARMED n) = true)) →
        (v.frontEnd n = 1 → s.does (.inputEdge dt n k l held peak) (fun u => u.flag (Fld.WHL_STAT_ARMED n) = false ∧
          u.get (Fld.WHL_STAT_PEAK n) = Nat.min 65535 peak ∧ (u.whl n).prevPeak = peak)) ∧
        (v.ratioRejects n (16 * v.tclk + k) = true → s.does (.inputEdge dt n k l held peak) (fun u =>
          u.get (Fld.WHL_CNT_RATIO n) = (v.get (Fld.WHL_CNT_RATIO n) + 1) % 2 ^ (Fld.WHL_CNT_RATIO n).w ∧
          (u.whl n).stamp = (v.whl n).stamp ∧ u.trks = v.trks)) ∧
        (v.ratioRejects n (16 * v.tclk + k) = false → s.does (.inputEdge dt n k l held peak) (fun u =>
          (u.whl n).stamp = 16 * v.tclk + k ∧
          u.get (Fld.WHL_CNT_ACCEPTED n) = (v.get (Fld.WHL_CNT_ACCEPTED n) + 1) % 2 ^ (Fld.WHL_CNT_ACCEPTED n).w ∧
          (v.get (Fld.WHL_CFG_DIR_MODE n) = 0 → u.flag (Fld.WHL_STAT_DIR n) = false) ∧
          (v.get (Fld.WHL_CFG_DIR_MODE n) = 1 → (n = 0 ∨ n = 2) → (v.whl (n.val + 1)).levelAt ≠ v.tclk →
            u.flag (Fld.WHL_STAT_DIR n) = (!v.flag (Fld.WHL_STAT_LEVEL (n.val + 1)) != v.flag (Fld.WHL_CFG_DIR_INV n))) ∧
          (v.get (Fld.WHL_CFG_DIR_MODE n) = 2 → u.flag (Fld.WHL_STAT_DIR n) = v.flag (Fld.WHL_STAT_DIR n) ∧ (u.whl n).measuring = true) ∧
          u.flag (Fld.WHL_STAT_LEVEL n) = (l != v.flag (Fld.WHL_CFG_POL n)) ∧
          ∀ x : Fin 2, v.edgesPass = true → v.posRev x ≠ 0 → v.get (Fld.WHL_WD_CFG_CRANK_IN x) = n →
            ∃ e : WheelEdge, (u.trk x).crankQ = (v.trk x).crankQ ++ [e] ∧ e.stamp = 16 * v.tclk + k ∧ e.relabel = false ∧
              e.reverse = u.flag (Fld.WHL_STAT_DIR (v.get (Fld.WHL_WD_CFG_DIR_SRC x))) ∧ e.win = v.get (Fld.WHL_WIN_WIN n) ∧
              e.avail = v.tclk + 64 + 4 * v.get (Fld.WHL_FILT_MIN_TIME n)))) ∧
      (4 * Nat.max 1 (v.get (Fld.WHL_FILT_MIN_TIME n)) ≤ held → 2 ≤ v.frontEnd n → (v.whl n).measuring = false →
        v.isActive n (l != v.flag (Fld.WHL_CFG_POL n)) = false → s.does (.inputEdge dt n k l held peak) (fun u =>
          (u.whl n).stamp = (v.whl n).stamp ∧ u.trks = v.trks ∧ v.sameBut u [Reg.WHL_STAT n]))) ∧
    (∀ (k : Fin 16) (l : Bool) (held peak : Nat), v.wheelPin n = !l → v.flag Fld.CLK_GATE0_WHL = true → v.frontEnd n ≠ 0 →
      v.simulated n = false → v.isReturn n = true → s.does (.inputEdge dt n k l held peak) (fun u => u.trks = v.trks ∧
        v.sameBut u [Reg.WHL_STAT n])) ∧
    (∀ (k : Fin 16) (l : Bool) (held peak : Nat), (v.flag Fld.CLK_GATE0_WHL = false ∨ v.frontEnd n = 0) →
      s.does (.inputEdge dt n k l held peak) (fun u => u.wheelPin n = l ∧ u.trks = v.trks ∧ u.regs = v.regs)) ∧
    (∀ (k : Fin 16) (l : Bool) (held peak : Nat), v.wheelPin n = l → (v.frontEnd n ≠ 1 → s.does (.inputEdge dt n k l held peak) (fun u => u = v)) ∧
      (v.frontEnd n = 1 → v.flag Fld.CLK_GATE0_WHL = true → v.simulated n = false → (l != v.flag (Fld.WHL_CFG_POL n)) = true →
        v.flag (Fld.WHL_STAT_ARMED n) = false → v.vrMin n < peak → v.get (Fld.WHL_CFG_THR_PCT n) * (v.whl n).prevPeak < 100 * peak →
        s.does (.inputEdge dt n k l held peak) (fun u => u.flag (Fld.WHL_STAT_ARMED n) = true ∧ (u.whl n).armedAt = v.now ∧
          u.trks = v.trks ∧ v.sameBut u [Reg.WHL_STAT n]))) ∧
    (∀ k : Fin 16, v.wheelPin n ≠ ((v.get (Fld.WHL_CFG_EDGE n) == 1) != v.flag (Fld.WHL_CFG_POL n)) → v.flag Fld.CLK_GATE0_WHL = true →
      v.frontEnd n ≠ 0 → v.simulated n = false → (v.whl n).measuring = true → v.get (Fld.WHL_CFG_DIR_MODE n) = 2 →
      (16 * v.tclk + k - (v.whl n).stamp ≤ 6400 * v.get (Fld.WHL_PW_PW_MAX n) → s.does (.pulseTrailingEdge dt n k) (fun u =>
        u.flag (Fld.WHL_STAT_DIR n) = (decide (6400 * v.get (Fld.WHL_PW_PW_SPLIT n) ≤ 16 * v.tclk + k - (v.whl n).stamp) !=
          v.flag (Fld.WHL_CFG_DIR_INV n)) ∧ u.flag (Fld.WHL_STAT_DIR_VALID n) = true ∧ (u.whl n).measuring = false)) ∧
      (6400 * v.get (Fld.WHL_PW_PW_MAX n) < 16 * v.tclk + k - (v.whl n).stamp → s.does (.pulseTrailingEdge dt n k) (fun u =>
        u.flag (Fld.WHL_STAT_PW_INVALID n) = true ∧ (u.whl n).measuring = false ∧
        u.flag (Fld.WHL_STAT_DIR n) = v.flag (Fld.WHL_STAT_DIR n)))) ∧
    (v.flag Fld.CLK_GATE0_WHL = true → v.frontEnd n ≠ 0 → v.simulated n = false → v.get (Fld.WHL_CFG_DIR_MODE n) = 2 →
      (v.whl n).measuring = true → 6400 * fieldOf (Fld.WHL_PW_PW_MAX n) (v.whl n).pw < 16 * v.tclk - (v.whl n).stamp →
      s.does (.pulseWidthTimeout dt n) (fun u => u.flag (Fld.WHL_STAT_PW_INVALID n) = true ∧ (u.whl n).measuring = false ∧
        v.sameBut u [Reg.WHL_STAT n])) ∧
    (v.st = 1 → v.flag Fld.CLK_GATE0_WHL = false → v.flag Fld.TRK_FROST_EN = true → v.get Fld.TRK_FROST_IN = n →
      fieldOf (Fld.WHL_CFG_FE 0) v.pwr.frostCfg ≠ 0 → fieldOf (Fld.WHL_CFG_DIR_MODE 0) v.pwr.frostCfg = 2 →
      s.leaves (.pulseWidthTimeout dt n) (fun u => u.flag Fld.TRK_FCNT_NODIR = true ∧ v.sameBut u [Reg.TRK_FCNT])) ∧
    (v.frontEnd n = 1 → v.flag Fld.CLK_GATE0_WHL = true →
      (v.passed (v.whl n).armedAt (200 * msTicks) = true → s.does (.vrPeakReset dt n) (fun u => (u.whl n).prevPeak = 0 ∧ u.regs = v.regs)) ∧
      (∀ mv long : Nat,
        (msTicks ≤ long → mv < 500 → s.does (.vrShortDetect dt n mv long) (fun u => u.flag (Fld.WHL_STAT_SHORT_GND n) = true ∧
          v.sameBut u [Reg.WHL_STAT n])) ∧
        (msTicks ≤ long → 3000 < mv → s.does (.vrShortDetect dt n mv long) (fun u => u.flag (Fld.WHL_STAT_SHORT_BAT n) = true ∧
          v.sameBut u [Reg.WHL_STAT n])) ∧
        ((500 ≤ mv ∧ mv ≤ 3000) ∨ long < msTicks → s.does (.vrShortDetect dt n mv long) (fun u => u.regs = v.regs))) ∧
      (∀ mv : Nat, v.passed (v.whl n).crossedAt (200 * msTicks) = true →
        (1500 < mv → s.does (.vrOpenTest dt n mv) (fun u => u.flag (Fld.WHL_STAT_VR_OPEN n) = true ∧ v.sameBut u [Reg.WHL_STAT n])) ∧
        (mv ≤ 1500 → s.does (.vrOpenTest dt n mv) (fun u => u.regs = v.regs))))) ∧
  (∀ (s v : State) (dt : Nat), s.advance dt = v → v.simRuns = true →
    (v.simNext = none → s.does (.simEdge dt) (fun u => u = v)) ∧
    (∀ (d n : Nat) (m : SimMark), v.simNext = some d → v.simHere d = [m] →
      ((∃ i, m = .tooth i ∧ v.flag Fld.WHL_SIM_FLT_DROP = false ∧ v.flag Fld.WHL_SIM_FLT_EXTRA = false ∧ v.flag Fld.WHL_SIM_FLT_FLIP = false) ∨
        m = .extraTooth) ∧ n = v.get (Fld.WHL_WD_CFG_CRANK_IN v.simX) ∧ v.get (Fld.WHL_CFG_EDGE n) ≤ 2 ∨
        (∃ f, m = .cam f ∧ v.isActive n (!f) = true) ∧ n = v.get (Fld.WHL_WD_CFG_CAM_IN v.simX) →
      v.simulated n = true → 2 ≤ v.frontEnd n → v.glitches n v.simPulse = false →
      v.ratioRejects n (16 * v.tclk - (if v.simRate = 0 then 0 else divRound (16 * d) v.simRate)) = false →
      s.does (.simEdge dt) (fun u => u.sim.behind = d ∧
        u.get (Fld.WHL_CNT_ACCEPTED n) = (v.get (Fld.WHL_CNT_ACCEPTED n) + 1) % 2 ^ (Fld.WHL_CNT_ACCEPTED n).w ∧
        (u.whl n).stamp = 16 * v.tclk - (if v.simRate = 0 then 0 else divRound (16 * d) v.simRate) ∧
        u.flag (Fld.WHL_STAT_DIR n) = v.simRev)) ∧
    (∀ d i : Nat, v.simNext = some d → v.simHere d = [.tooth i] → v.flag Fld.WHL_SIM_FLT_DROP = true → v.flag Fld.WHL_SIM_FLT_EXTRA = false →
      v.flag Fld.WHL_SIM_FLT_FLIP = false → s.does (.simEdge dt) (fun u => u.sim.behind = d ∧ u.whls = v.whls ∧ u.trks = v.trks ∧
        v.sameBut u [Reg.WHL_SIM_FLT]))) ∧
  (∀ (s v : State) (dt : Nat), s.advance dt = v → v.simOn = true → v.sim.stepAt + 65536 ≤ v.tclk →
    s.does (.simRateStep dt) (fun u => u.sim.stepAt = v.sim.stepAt + 65536 ∧
      u.get Fld.WHL_SIM_RATE_RATE = (if v.get Fld.WHL_SIM_RATE_RATE < v.get Fld.WHL_SIM_TGT_TGT
        then Nat.min (v.get Fld.WHL_SIM_TGT_TGT) (v.get Fld.WHL_SIM_RATE_RATE + v.get Fld.WHL_SIM_ACC_ACC)
        else Nat.max (v.get Fld.WHL_SIM_TGT_TGT) (v.get Fld.WHL_SIM_RATE_RATE - v.get Fld.WHL_SIM_ACC_ACC)) ∧
      v.sameBut u [Reg.WHL_SIM_RATE]))

-- ── Trackers (R61–R92) ────────────────────────────────────────────────────────────────────────────────────────────

/-- Edges at a tracker. The oldest crank edge that is due leaves the queue: a stopped tracker goes to SEEK, or takes its preset; in
synchronisation a forward edge is tooth N, and N moves to the next tooth; a reverse edge steps N back and stops the angle; while searching a
reverse edge drops the search; an edge outside the window is counted and dropped; a direction change has the last edge act again as it should
have come, or is dropped. A cam edge is recorded while searching, fixes the revolution in CRANK_SYNC and is judged in CYCLE_SYNC; two cycles
without one set CAM_MISSING. A missing edge sends the tracker to COAST, or to LOST past its limit. STOP_MS without an edge stops it. The outcome
is the state that the voter and the transitions of R15 make of it. -/
def Obligations.TrackerEdges : Prop :=
  ∀ (s v w : State) (dt : Nat) (x : Fin 2), s.advance dt = v →
    (∀ (e : WheelEdge) (r : List WheelEdge), (v.trk x).crankQ = e :: r → e.avail ≤ v.tclk → v.edgesPass = true →
      v.posRev x ≠ 0 → v.get (Fld.TRK_CTRL_SRC x) = 0 → w = v.setTrk x { v.trk x with crankQ := r } → e.relabel = false →
      (v.trkState x = 0 → (v.trk x).preset = false → ∃ u : State, exec (.crankEdgeAccepted dt x) s = .next (u.afterTracker w x false false true) ∧
        u.trkState x = 2 ∧ (u.trk x).stamp = e.stamp ∧ (u.trk x).crankQ = r ∧ (u.trk x).edges = (if e.reverse then 0 else 1) ∧
        u.trkReverse x = e.reverse) ∧
      (v.trkState x = 0 → w.presetApplies x = true → ∃ u : State, exec (.crankEdgeAccepted dt x) s = .next (u.afterTracker w x false true true) ∧
        u.trkState x = 1 ∧ (u.trk x).stamp = e.stamp ∧ (u.trk x).crankQ = r ∧ (u.trk x).preset = false ∧
        (u.trk x).lastIdx = (if e.reverse then v.prevTooth x (v.nextN x) else v.nextN x) ∧ u.trkReverse x = e.reverse) ∧
      (v.trkState x = 1 → (w.nextExtra x).isSome = false → (v.trk x).extras = 0 → ∃ (u : State) (a b : Bool),
        exec (.crankEdgeAccepted dt x) s = .next (u.afterTracker w x a b true) ∧ (u.trk x).stamp = e.stamp ∧ (u.trk x).crankQ = r ∧
        (u.trk x).wasReverse = e.reverse) ∧
      ((v.trkState x = 2 ∨ v.trkState x = 6) → ∃ (u : State) (a b : Bool),
        exec (.crankEdgeAccepted dt x) s = .next (u.afterTracker w x a b true) ∧ (u.trk x).stamp = e.stamp ∧ (u.trk x).crankQ = r ∧
        (u.trk x).wasReverse = e.reverse ∧ (e.reverse = true → (u.trk x).edges = 0 ∧ (u.trk x).marks = [] ∧ (u.trk x).cams = [])) ∧
      (e.reverse = false → (v.trk x).wasReverse = false → (v.trkState x = 3 ∨ v.trkState x = 4) → w.windowOpen x e = true →
        w.isExtraEdge x e.stamp = false → ∃ (u : State) (a b : Bool),
        exec (.crankEdgeAccepted dt x) s = .next (u.afterTracker w x a b true) ∧ (u.trk x).stamp = e.stamp ∧ (u.trk x).crankQ = r ∧
        (u.trk x).lastIdx = v.nextN x ∧ u.nextN x = v.nextTooth x (v.nextN x) % 1024 ∧ u.trkReverse x = false) ∧
      (e.reverse = true → (v.trkState x = 3 ∨ v.trkState x = 4) → (v.trk x).extras = 0 → w.windowOpen x e = true → ∃ (u : State) (a b : Bool),
        exec (.crankEdgeAccepted dt x) s = .next (u.afterTracker w x a b true) ∧ (u.trk x).wasReverse = true ∧ (u.trk x).crankQ = r ∧
        (u.trk x).rate = 0 ∧ u.nextN x = v.prevTooth x (v.nextN x) % 1024 ∧ u.trkReverse x = true ∧ u.flag (Fld.TRK_STAT_CRAWL x) = true) ∧
      (w.windowOpen x e = false → ∃ (u : State) (a b : Bool),
        exec (.crankEdgeAccepted dt x) s = .next (u.afterTracker w x a b false) ∧ (u.trk x).crankQ = r ∧ u.nextN x = v.nextN x ∧
        (u.trk x).healthNow = (v.trk x).healthNow + 1)) ∧
    (∀ (e : WheelEdge) (r : List WheelEdge), (v.trk x).crankQ = e :: r → e.avail ≤ v.tclk → v.edgesPass = true →
      v.posRev x ≠ 0 → v.get (Fld.TRK_CTRL_SRC x) = 0 → w = v.setTrk x { v.trk x with crankQ := r } → e.relabel = true →
      (w.staleLabel x e = true → exec (.crankEdgeAccepted dt x) s = .next (w.afterTracker w x false false false)) ∧
      (∀ (b : TrkBefore) (y : State), w.staleLabel x e = false → v.before x = some b → b.edge.relabel = false → y = w.undoEdge x b →
        y.posRev x ≠ 0 → y.get (Fld.TRK_CTRL_SRC x) = 0 → ∃ a c : Bool, exec (.crankEdgeAccepted dt x) s =
          .next ((y.crankEdge x { b.edge with reverse := e.reverse }).afterTracker w x a c true))) ∧
    (∀ (e : WheelEdge) (r : List WheelEdge) (a : Nat), (v.trk x).camQ = e :: r → e.avail ≤ v.tclk → v.edgesPass = true → v.crankFirst x e = false →
      v.posRev x ≠ 0 → v.get (Fld.TRK_CTRL_SRC x) = 0 → v.flag (Fld.WHL_WD_CFG_CAM_EN x) = true → w = v.setTrk x { v.trk x with camQ := r } →
      a = w.angleAt x e.stamp / fracOne →
      (v.trkState x = 2 → v.byCam x = false → ∃ u : State, exec (.camEdge dt x) s = .next (u.afterTracker w x false false false) ∧
        (u.trk x).camQ = r ∧ (u.trk x).camRot = 0 ∧
        (u.trk x).cams.getLast? = some { edges := (v.trk x).edges, since := e.stamp - (v.trk x).stamp, falling := e.falling, interval := 0 }) ∧
      (v.trkState x = 3 → v.revs x = 2 → w.camMatches x a e.falling = !w.camMatches x (a + 8388608) e.falling → ∃ u : State,
        exec (.camEdge dt x) s = .next (u.afterTracker w x false false false) ∧ u.trkState x = 4 ∧ (u.trk x).camQ = r ∧
        u.nextN x = (if w.camMatches x a e.falling then v.nextN x else (v.nextN x + v.posRev x) % v.posCyc x % 1024)) ∧
      (v.trkState x = 4 → w.camMatches x a e.falling = true → ∃ u : State, exec (.camEdge dt x) s = .next (u.afterTracker w x false false false) ∧
        (u.trk x).camQ = r ∧ (u.trk x).flips = 0 ∧ u.flag (Fld.TRK_STAT_CAM_MISSING x) = false ∧ u.trkState x = 4) ∧
      (v.trkState x = 4 → w.camMatches x a e.falling = false → (v.revs x ≠ 2 ∨ w.camMatches x (a + 8388608) e.falling = false) → ∃ u : State,
        exec (.camEdge dt x) s = .next (u.afterTracker w x false false false) ∧ (u.trk x).camQ = r ∧ u.trkState x = 4 ∧
        u.get (Fld.TRK_CNT_CAMERR x) = (v.get (Fld.TRK_CNT_CAMERR x) + 1) % 2 ^ (Fld.TRK_CNT_CAMERR x).w)) ∧
    (v.edgeMissing x = true → ∃ u : State, exec (.crankEdgeMissing dt x) s = .next (u.afterTracker v x false false true) ∧
      u.get (Fld.TRK_CNT_MISS x) = (v.get (Fld.TRK_CNT_MISS x) + 1) % 2 ^ (Fld.TRK_CNT_MISS x).w ∧
      u.nextN x = v.nextTooth x (v.nextN x) % 1024 ∧
      u.trkState x = (if v.trkState x = 5 then (if v.get (Fld.TRK_SYNC_COAST_LIM x) < v.get (Fld.TRK_STAT_COAST_N x) + 1 then 6 else 5)
        else if v.get (Fld.TRK_SYNC_COAST_LIM x) = 0 then 6 else 5)) ∧
    ((v.trkState x = 4 ∨ (v.trkState x = 5 ∧ (v.trk x).coastFrom = 4)) → v.flag (Fld.WHL_WD_CFG_CAM_EN x) = true →
      v.get (Fld.TRK_CTRL_SRC x) = 0 → 2 * cycleAu * fracOne ≤ (v.trk x).camRot →
      v.flag (Fld.TRK_STAT_CAM_MISSING x) = false → s.does (.camMissing dt x) (fun u => u.flag (Fld.TRK_STAT_CAM_MISSING x) = true ∧
        v.sameBut u [Reg.TRK_STAT x])) ∧
    (v.trkState x ≠ 0 → v.get (Fld.TRK_CTRL_SRC x) = 0 → v.flag Fld.CLK_GATE0_TRK = true →
      v.passed (v.trk x).edgeAt (Nat.max 1 (v.get (Fld.TRK_STOP_STOP_MS x)) * msTicks) = true →
      ∃ u : State, exec (.trackerStop dt x) s = .next (u.afterTracker v x false false false) ∧ u.trkState x = 0 ∧ (u.trk x).rate = 0 ∧
        u.get (Fld.TRK_SPEED_SPEED x) = 0)

/-- What the system store keeps of the trackers, and the tooth count of Frost (R81, R86, R87): up or down by the direction of DIR_MODE, held with OVF at
its limits, with NODIR where no direction is measured. -/
def Obligations.TrackerStores : Prop :=
  ∀ (s v : State) (dt : Nat), s.advance dt = v →
    s.leaves (.stopAngleCopy dt) (fun u => spGet (fun _ => 0) u.sec.saved Reg.TRK_STOPA = v.word Reg.TRK_STOPA ∧
      Reg.TRK_STOPA ∈ u.sec.savedKeys ∧ u.regs = v.regs ∧ u.mem = v.mem) ∧
    ((v.st = 6 ∨ v.st = 7) → s.leaves (.tableStore dt) (fun u => u.sec.kSaved = tagKeys 0 (v.trk 0).kTab ++ tagKeys 1 (v.trk 1).kTab ∧
      u.sec.profSaved = tagKeys 0 (v.trk 0).profile ++ tagKeys 1 (v.trk 1).profile ∧
      u.sec.trainSaved = [(0, v.get (Fld.TRK_LOAD_TRAINED 0)), (1, v.get (Fld.TRK_LOAD_TRAINED 1))] ∧
      (∀ n : Fin 48, spGet (fun _ => 0) u.sec.saved (Reg.WIT_CH_CORR n) = v.word (Reg.WIT_CH_CORR n)) ∧ u.regs = v.regs ∧ u.mem = v.mem)) ∧
    (∀ (p : Bool) (n : Nat), v.st = 1 → v.flag Fld.TRK_FROST_EN = true → fieldOf (Fld.WHL_CFG_FE 0) v.pwr.frostCfg ≠ 0 →
      (∀ (mode : Nat) (inv rev nodir : Bool) (c : Int), mode = fieldOf (Fld.WHL_CFG_DIR_MODE 0) v.pwr.frostCfg →
        inv = (fieldOf (Fld.WHL_CFG_DIR_INV 0) v.pwr.frostCfg == 1) →
        ((mode = 0 ∧ rev = false ∧ nodir = true) ∨ (mode = 1 ∧ rev = (!p != inv) ∧ nodir = false) ∨
          (mode = 2 ∧ n ≤ 2 * fieldOf (Fld.WHL_PW_PW_MAX 0) v.pwr.frostPw ∧
            rev = (decide (2 * fieldOf (Fld.WHL_PW_PW_SPLIT 0) v.pwr.frostPw ≤ n) != inv) ∧ nodir = false)) →
        c = toSigned 16 (v.get Fld.TRK_FCNT_COUNT) + (if rev then -1 else 1) →
        (-32767 ≤ c → c ≤ 32767 → s.leaves (.frostTooth dt p n) (fun u => toSigned 16 (u.get Fld.TRK_FCNT_COUNT) = c ∧
          u.flag Fld.TRK_FCNT_NODIR = (nodir || v.flag Fld.TRK_FCNT_NODIR) ∧ v.sameBut u [Reg.TRK_FCNT])) ∧
        ((c < -32767 ∨ 32767 < c) → s.leaves (.frostTooth dt p n) (fun u => u.get Fld.TRK_FCNT_COUNT = v.get Fld.TRK_FCNT_COUNT ∧
          u.flag Fld.TRK_FCNT_OVF = true ∧ v.sameBut u [Reg.TRK_FCNT]))) ∧
      (fieldOf (Fld.WHL_CFG_DIR_MODE 0) v.pwr.frostCfg = 2 → 2 * fieldOf (Fld.WHL_PW_PW_MAX 0) v.pwr.frostPw < n →
        s.leaves (.frostTooth dt p n) (fun u => u.flag Fld.TRK_FCNT_NODIR = true ∧ u.get Fld.TRK_FCNT_COUNT = v.get Fld.TRK_FCNT_COUNT ∧
          v.sameBut u [Reg.TRK_FCNT])))

-- ── Scheduler and converters (R106–R123, R129, R136–R139) ─────────────────────────────────────────────────────────

/-- The scheduler's events and the converters. A prepare event is marked and raises source 64. A commit of a cylinder whose slots are at rest and lie
ahead makes the shadow set active and arms what is enabled; an open transaction keeps the active set and counts as stale. A wrap of a tracker
takes the bucket that waits and closes its HEALTH; a wrap of TRK_OUT clears the fired bits. A conversion writes ADC_LAST and enters the FIFO, or sets
OVR: a SAMPLE that waits goes first and takes a burst's place, a burst ends at BURST_MAX, where its next conversion would begin at or after its window's
end at the present rate (log entry 80, the model's reading), or at that end; a scan writes ADC_LAST alone. -/
def Obligations.SchedulerEvents : Prop :=
  ∀ (s v : State) (dt : Nat), s.advance dt = v →
    (∀ c : Fin 24, v.schOn = true → v.cylEn c = true → v.sch.prepPend.testBit c = true →
      s.does (.prepareEvent dt c) (fun u => ∃ w : State, u = w.checkRamp ∧ w.bit Fld.SCH_PREPPEND_PEND c = true ∧ w.isPend false 64 = true ∧
        w.isPend true 64 = true ∧ w.sch.prepPend.testBit c = false ∧ w.sch.prepAt = v.now ∧ w.sch.prepAngle = v.out ∧
        (v.flag Fld.SCH_CTRL_DEMAND = false → v.sameBut w [Reg.SCH_PREPPEND, Reg.FLO_DROP]))) ∧
    (∀ c : Fin 24, v.schOn = true → v.cylEn c = true → v.sch.latchPend.testBit c = true → v.isDrag = false → v.autonomyOut = false →
      v.withdrawing = false → v.slotBase c + v.slotCnt c ≤ 2048 →
      (∀ n, n ∈ v.slotsOf c → v.armed n = false ∧ v.fired n = false ∧ 0 < angDist v.out (v.shadowDesc n).start ∧
        0 < angDist v.out (v.activeDesc n).start) →
      (v.txnOpen c = false → v.setOk c = true → s.does (.commit dt c) (fun u => ∃ w : State, u = w.checkRamp ∧
        (∀ n k, n ∈ v.slotsOf c → k < 4 → w.word (Reg.SCH_ACTIVE n k) = v.word (Reg.SCH_SHADOW n k)) ∧
        (∀ n, n ∈ v.slotsOf c → w.armed n = (v.shadowDesc n).en ∧ w.fired n = false) ∧
        w.get Fld.SCH_CNT_COMMITS = (v.get Fld.SCH_CNT_COMMITS + 1) % 2 ^ Fld.SCH_CNT_COMMITS.w ∧
        w.get (Fld.SCH_CYL_E_LATCH c) = w.latchFor c ∧ w.sch.latchPend.testBit c = false)) ∧
      (v.txnOpen c = true → s.does (.commit dt c) (fun u => ∃ w : State, u = w.checkRamp ∧
        (∀ n k, n ∈ v.slotsOf c → k < 4 → w.word (Reg.SCH_ACTIVE n k) = v.word (Reg.SCH_ACTIVE n k)) ∧
        (∀ n, n ∈ v.slotsOf c → w.armed n = (v.activeDesc n).en) ∧
        w.get Fld.SCH_STAT_STALE_COMMITS = (v.get Fld.SCH_STAT_STALE_COMMITS + 1) % 2 ^ Fld.SCH_STAT_STALE_COMMITS.w ∧
        w.txnOpen c = true))) ∧
    (((v.trk 0).wrapPend = true ∨ (v.trk 1).wrapPend = true) → v.voter.outWrap = false →
      ∃ (w : State) (b : Bool), exec (.cycleWrap dt) s = .next (w.afterTracker v w.sel b false false) ∧
        ∀ x : Fin 2, (v.trk x).wrapPend = true → (w.trk x).wrapPend = false ∧
          (w.trk x).wrapAt = 16 * v.tclk ∧ (w.trk x).prevDur = 16 * v.tclk - (v.trk x).wrapAt ∧
          (w.trk x).stamps = (v.splitCycle x (v.trk x).stamps).1 ∧ (w.trk x).healthNow = 0 ∧
          (w.trk x).health = Nat.min 255 (v.trk x).healthNow ∧ w.get (Fld.TRK_LOAD_ACTIVE x) = v.get (Fld.TRK_LOAD_BUCKET x)) ∧
    ((v.trk 0).wrapPend = false → (v.trk 1).wrapPend = false → v.voter.outWrap = true → v.flag Fld.FLO_SYSSTAT_ADOPT_PEND = false →
      (∀ n, n ∈ v.sch.heldBack → n < 2048) → s.does (.cycleWrap dt) (fun u => ∃ w : State, u = w.checkRamp.snapshot false ∧
        (∀ n, n < 2048 → w.fired n = false) ∧ w.sch.heldBack = [] ∧ w.voter.outWrap = false ∧ w.sch.refreshed = false ∧
        (v.sch.refreshed = true → w.get Fld.SCH_STAT_AUTO_CNT = 0))) ∧
    (∀ (a : Fin 4) (code : BitVec 12), v.flag Fld.CLK_GATE0_ADC = true → (v.adc a).ovrNext = false →
      (∀ (ain : Nat) (r : List Nat), ain < 16 → (v.adc a).samples = ain :: r → (∀ i, i ∈ ain :: r → v.inputServed i = true) →
        ((v.adc a).burst = none → (v.adcFifo a).length < 64 → s.does (.adcBurstConversion dt a code) (fun u =>
          u.adcFifo a = v.adcFifo a ++ [BitVec.ofNat 32 (code.toNat + 4096 * ain)] ∧ (u.adc a).samples = r ∧
          u.word (Reg.ADC_LAST (ain / 4) (ain % 4)) = BitVec.ofNat 32 (2 ^ 15 + code.toNat) ∧
          v.sameBut u [Reg.ADC_LAST (ain / 4) (ain % 4)])) ∧
        ((v.adc a).burst = none → 64 ≤ (v.adcFifo a).length → s.does (.adcBurstConversion dt a code) (fun u => u.adcFifo a = v.adcFifo a ∧
          u.flag (Fld.ADC_STAT_OVR a) = true ∧ (u.adc a).ovrNext = true ∧ (u.adc a).samples = r)) ∧
        (∀ b wend period n : Nat, (v.adc a).burst = some (b, wend, period, n) → (v.adc a).burstAt ≤ v.now →
          ((v.adc a).begun = false ∨ v.atOrBeyond wend = false) → s.does (.adcBurstConversion dt a code) (fun u =>
          (u.adc a).samples = r ∧ (u.adc a).burst = some (b, wend, period, n) ∧ (u.adc a).burstAt = (v.adc a).burstAt + period ∧
          u.get (Fld.ADC_STAT_SKIP a) = (v.get (Fld.ADC_STAT_SKIP a) + 1) % 2 ^ (Fld.ADC_STAT_SKIP a).w ∧
          u.word (Reg.ADC_LAST (ain / 4) (ain % 4)) = BitVec.ofNat 32 (2 ^ 15 + code.toNat)))) ∧
      (∀ ain wend period n next : Nat, ain < 16 → (v.adc a).samples = [] → (v.adc a).burst = some (ain, wend, period, n) →
        (v.adc a).burstAt ≤ v.now → next = (v.outAcc + v.outRate * period) / fracOne % cycleAu →
        (((v.adc a).begun = false ∨ v.atOrBeyond wend = false) → v.inputServed ain = true → (v.adc a).skipNext = false →
          (v.adcFifo a).length < 64 →
          ((Nat.max 1 (v.get (Fld.ADC_CFG_BURST_MAX a)) ≤ n + 1 ∨ angDist next wend ≤ 0) → s.does (.adcBurstConversion dt a code) (fun u =>
            u.adcFifo a = v.adcFifo a ++ [BitVec.ofNat 32 (code.toNat + 4096 * ain + 2 ^ 16)] ∧ (u.adc a).burst = none ∧
            u.flag (Fld.ADC_STAT_BURST a) = false ∧ u.word (Reg.ADC_LAST (ain / 4) (ain % 4)) = BitVec.ofNat 32 (2 ^ 15 + code.toNat))) ∧
          (n + 1 < Nat.max 1 (v.get (Fld.ADC_CFG_BURST_MAX a)) → 0 < angDist next wend → s.does (.adcBurstConversion dt a code) (fun u =>
            u.adcFifo a = v.adcFifo a ++ [BitVec.ofNat 32 (code.toNat + 4096 * ain)] ∧
            (u.adc a).burst = some (ain, wend, period, n + 1) ∧ (u.adc a).burstAt = (v.adc a).burstAt + period ∧
            u.word (Reg.ADC_LAST (ain / 4) (ain % 4)) = BitVec.ofNat 32 (2 ^ 15 + code.toNat)))) ∧
        ((v.adc a).begun = true → v.atOrBeyond wend = true → s.does (.adcBurstConversion dt a code) (fun u => (u.adc a).burst = none ∧
          u.flag (Fld.ADC_STAT_BURST a) = false ∧ (u.adcFifo a).length = (v.adcFifo a).length))) ∧
      (∀ (i : Nat) (first : Bool), (v.adc a).samples = [] → (v.adc a).burst = none → v.scanInput a = some (i, first) →
        (v.inputServed (4 * a.val + i) = true → s.does (.adcScan dt a code) (fun u =>
          u.word (Reg.ADC_LAST a i) = BitVec.ofNat 32 (2 ^ 15 + code.toNat) ∧ u.adcFifo a = v.adcFifo a ∧
          v.sameBut u [Reg.ADC_LAST a i])) ∧
        (v.inputServed (4 * a.val + i) = false → s.does (.adcScan dt a code) (fun u => u.adcFifo a = v.adcFifo a ∧
          u.get (Fld.ADC_STAT_CALV_SKIP a) = (v.get (Fld.ADC_STAT_CALV_SKIP a) + 1) % 2 ^ (Fld.ADC_STAT_CALV_SKIP a).w))))

/-- Firing, grants and ends (R114, R118, R120–R122). A slot that fires, after those of its tick that act before it, is no longer armed and has fired: an
event acts; on a drag a shot opens a standby record; elsewhere it is refused by a fault, by calving, by a thermal model, by a low boost rail or
by a claim that can never fit, waits for the boost phase of its bank, or starts with the first phase of its profile. A grant starts the first-ranked waiting shot; one that
has waited too long, or whose angle end has passed, leaves the queue; an end that is reached, by angle or by time, brings END at a decision of the
channel. -/
def Obligations.FiringAndShots : Prop :=
  (∀ (s v : State) (dt vb : Nat) (n : Fin 2048) (c : Nat), (s.advance dt).seeVboost vb = v → v.cylOf n = some c → v.armed n = true →
    v.mayFire n = true → v.sch.firePend.contains n.val = true →
    s.does (.slotFire dt n vb) (fun u => u = (v.fireAll (fun m => v.actsBefore m n)).fireDue n) ∧
    ((∀ m, m ∈ v.sch.firePend → v.actsBefore m n = false) →
    ((v.activeDesc n).isEvent = true → s.does (.slotFire dt n vb) (fun u => ∃ w : State, u = w.eventAction (v.activeDesc n) ∧ w.fired n = true ∧
        w.armed n = false ∧ v.sameBut w [Reg.SCH_ARMED (n.val / 32), Reg.SCH_FIRED (n.val / 32)]) ∧
      ((v.activeDesc n).act = 5 → s.does (.slotFire dt n vb) (fun u => u.fired n = true ∧ u.armed n = false ∧
        u.drv.aout.testBit (v.activeDesc n).target = true ∧ v.sameBut u [Reg.SCH_ARMED (n.val / 32), Reg.SCH_FIRED (n.val / 32)])) ∧
      ((v.activeDesc n).act = 6 → s.does (.slotFire dt n vb) (fun u => u.fired n = true ∧ u.armed n = false ∧
        u.drv.aout.testBit (v.activeDesc n).target = false ∧ v.sameBut u [Reg.SCH_ARMED (n.val / 32), Reg.SCH_FIRED (n.val / 32)])) ∧
      ((v.activeDesc n).act = 7 → s.does (.slotFire dt n vb) (fun u => u.fired n = true ∧ u.armed n = false ∧
        u.drv.aout.testBit (v.activeDesc n).target = !v.drv.aout.testBit (v.activeDesc n).target)) ∧
      ((v.activeDesc n).act = 8 → v.get (srcCgrp false (48 + (v.activeDesc n).target)) = 0 → s.does (.slotFire dt n vb) (fun u =>
        u.fired n = true ∧ u.armed n = false ∧ u.isPend false (48 + (v.activeDesc n).target) = true))) ∧
    (∀ ch : Fin 48, (v.activeDesc n).isEvent = false → v.isDrag = false → (v.activeDesc n).channel = ch.val →
      (v.faultRefuses ch = true → s.does (.slotFire dt n vb) (fun u => u.fired n = true ∧ u.armed n = false ∧
        u.get (Fld.WIT_CH_STAT_LAST_OUT ch) = 0xD ∧ u.phase ch = v.phase ch ∧
        u.get Fld.WIT_RECSEQ_SEQ = (v.get Fld.WIT_RECSEQ_SEQ + 1) % 2 ^ 32)) ∧
      (v.faultRefuses ch = false → v.calvingSheds (v.shotOf c n false) = true → s.does (.slotFire dt n vb) (fun u =>
        u.fired n = true ∧ u.get (Fld.WIT_CH_STAT_LAST_OUT ch) = 0xC ∧ u.phase ch = v.phase ch)) ∧
      (v.faultRefuses ch = false → v.calvingSheds (v.shotOf c n false) = false → v.thermalRefuses (v.shotOf c n false) = true →
        s.does (.slotFire dt n vb) (fun u => u.fired n = true ∧ u.get (Fld.WIT_CH_STAT_LAST_OUT ch) = 0xB ∧ u.phase ch = v.phase ch)) ∧
      (v.faultRefuses ch = false → v.calvingSheds (v.shotOf c n false) = false → v.thermalRefuses (v.shotOf c n false) = false →
        (v.boostShort = true → (v.activeDesc n).cls ≠ 0 → s.does (.slotFire dt n vb) (fun u => u.fired n = true ∧
          u.get (Fld.WIT_CH_STAT_LAST_OUT ch) = 0xA ∧ u.phase ch = v.phase ch)) ∧
        (v.boostShort = false → claimMax < v.startClaim (v.shotOf c n false) → s.does (.slotFire dt n vb) (fun u => u.fired n = true ∧
          u.get (Fld.WIT_CH_STAT_LAST_OUT ch) = 0x8 ∧ u.flag (Fld.DRV_BANKSTAT_CLAIM_OVER (bankOf ch)) = true ∧ u.phase ch = v.phase ch)) ∧
        (v.boostShort = false → v.startClaim (v.shotOf c n false) ≤ claimMax →
        ((v.startProfile (v.activeDesc n).profile).needsBoost false = true → s.does (.slotFire dt n vb) (fun u => u.fired n = true ∧
          u.queue (bankOf ch) = v.queue (bankOf ch) ++ [v.shotOf c n false] ∧ u.phase ch = v.phase ch)) ∧
        ((v.startProfile (v.activeDesc n).profile).needsBoost false = false →
          (v.bankAdmits ch (v.startClaim (v.shotOf c n false)) = true → s.does (.slotFire dt n vb) (fun u => u.fired n = true ∧
            (u.chan ch).shot = some (v.shotOf c n false) ∧ (u.chan ch).startAt = v.now ∧ (u.chan ch).outcome = 0 ∧
            u.phase ch = (v.startProfile (v.activeDesc n).profile).after false 0)) ∧
          (v.bankAdmits ch (v.startClaim (v.shotOf c n false)) = false → s.does (.slotFire dt n vb) (fun u => u.fired n = true ∧
            u.get (Fld.WIT_CH_STAT_LAST_OUT ch) = 0x8 ∧ u.phase ch = v.phase ch)))))) ∧
    (∀ ch : Fin 48, (v.activeDesc n).isEvent = false → v.isDrag = true → (v.activeDesc n).channel = ch.val → v.observing = false →
      s.does (.slotFire dt n vb) (fun u => u.fired n = true ∧ u.armed n = false ∧ u.phase ch = v.phase ch ∧
        (u.openRecs ch).getLast?.map (fun r => (r.standby, r.slot, r.firedAt)) = some (true, n.val, v.now))))) ∧
  ∀ (s v : State) (dt : Nat), s.advance dt = v →
    (∀ k : Fin 8, (∀ m, m ∈ v.sch.firePend → (v.activeDesc m).isEvent = true) →
      (v.grantable k = none → s.does (.boostGrant dt k) (fun u => u = v)) ∧
      (∀ w : Shot, v.grantable k = some w → bankOf w.ch = k →
        (v.isDrag = false → s.does (.boostGrant dt k) (fun u =>
          (u.chan w.ch).shot = some w ∧ u.queue k = (v.queue k).filter (fun x => x.slot ≠ w.slot) ∧
          (u.chan w.ch).outcome = (if w.late then 2 else if w.firedAt < v.now then 1 else 0) ∧
          u.phase w.ch = (v.startProfile w.profile).after w.batt 0)) ∧
        (v.isDrag = true → s.does (.boostGrant dt k) (fun u => u = v.virtualEnd w true)))) ∧
    (∀ n : Fin 48, v.isDrag = false → s.does (.bankWaitTimeout dt n) (fun u => ∀ x, x ∈ u.queue (bankOf n) →
      x ∈ v.queue (bankOf n) ∧ (x.ch = n.val → v.now ≤ x.firedAt + v.get (Fld.DRV_BANK_TOL (bankOf n)) * 400))) ∧
    (∀ n : Fin 48, v.isDrag = false → s.does (.shotAngleEnd dt n) (fun u => ∀ x, x ∈ u.queue (bankOf n) →
      x ∈ v.queue (bankOf n) ∧ (x.ch = n.val → v.endReached x = false))) ∧
    (∀ (n : Fin 48) (sh : Shot), (v.chan n).shot = some sh → v.occupies n = true →
      (v.decides n = true → v.waitingOn (bankOf n) = [] → (v.chan n).endAt = none → v.endReached sh = true →
        s.does (.shotAngleEnd dt n) (fun u => u.phase n = 5 ∧ (u.chan n).phaseAt = v.now ∧ (u.chan n).lowSide = false)) ∧
      (∀ e : Nat, (v.chan n).endAt = some e →
        (e ≤ v.now → v.decides n = true → s.does (.shotTimeEnd dt n) (fun u => u.phase n = 5 ∧ (u.chan n).phaseAt = v.now ∧
          (u.chan n).lowSide = false)) ∧
        ((v.now < e ∨ v.decides n = false) → s.leaves (.shotTimeEnd dt n) (fun t => t = v))))

-- ── Output stage (R148–R190) ──────────────────────────────────────────────────────────────────────────────────────

/-- The phases of a profile and their regulation (R175–R188), at a channel's decisions (R179) and in their order within one (R180). The end of the shot
comes first; a time limit, or BOOST at its setpoint, leads to the next phase whose limit is not 0, and to END after the last; a BOOST that
times out marks PEAK_MISS. At or above the upper threshold the low-side switch turns off and at or below the lower one on, once its minimum
time is over. END is complete when the current lies below END_I. -/
def Obligations.ProfilePhases : Prop :=
  ∀ (s v : State) (dt : Nat) (n : Fin 48), s.advance dt = v →
    (v.decides n = false → ∀ (cur : Nat) (c : Instr), c = .phaseTimeLimit dt n ∨ c = .boostSetpointReached dt n cur ∨
      c = .thresholdCrossing dt n cur ∨ c = .endComplete dt n cur ∨ c = .endOver dt n cur → s.leaves c (fun u => u = v)) ∧
    (v.decides n = true →
      (∀ (sh : Shot) (t : Nat), (v.chan n).shot = some sh → v.occupies n = true → (v.chan n).prof.limit sh.batt (v.phase n) = some t →
        (v.passed (v.chan n).phaseAt t = true → v.endDue n = false → s.does (.phaseTimeLimit dt n) (fun u =>
          u.phase n = (v.chan n).prof.after sh.batt (v.phase n) ∧ (u.chan n).phaseAt = v.now ∧
          (v.phase n = 1 → u.flag (Fld.PRF_CH_STAT_PEAK_MISS n) = true))) ∧
        (v.passed (v.chan n).phaseAt t = true → v.endDue n = true → s.does (.phaseTimeLimit dt n) (fun u =>
          u.phase n = 5 ∧ (u.chan n).phaseAt = v.now ∧ u.flag (Fld.PRF_CH_STAT_PEAK_MISS n) = v.flag (Fld.PRF_CH_STAT_PEAK_MISS n))) ∧
        (v.passed (v.chan n).phaseAt t = false → s.leaves (.phaseTimeLimit dt n) (fun u => u = v))) ∧
      (∀ (sh : Shot) (cur : Nat), (v.chan n).shot = some sh → v.phase n = 1 →
        (codeLe ((v.chan n).prof.sp 1) (v.share n) cur = true → s.does (.boostSetpointReached dt n cur) (fun u =>
          u.phase n = (if v.endDue n then 5 else (v.chan n).prof.after sh.batt 1) ∧ (u.chan n).phaseAt = v.now ∧
          u.get (Fld.PRF_CH_STAT_PEAK_MISS n) = v.get (Fld.PRF_CH_STAT_PEAK_MISS n))) ∧
        (codeLe ((v.chan n).prof.sp 1) (v.share n) cur = false → s.leaves (.boostSetpointReached dt n cur) (fun u => u = v))) ∧
      (∀ (sh : Shot) (cur : Nat), (v.chan n).shot = some sh → v.occupies n = true →
        (v.endDue n = true → s.does (.thresholdCrossing dt n cur) (fun u => u.phase n = 5 ∧ (u.chan n).lowSide = false)) ∧
        (v.endDue n = false → v.limitDue n = true → s.does (.thresholdCrossing dt n cur) (fun u =>
          u.phase n = (v.chan n).prof.after sh.batt (v.phase n)))) ∧
      (∀ (cur sp band : Nat), 2 ≤ v.phase n → v.phase n ≤ 4 → v.endDue n = false → v.limitDue n = false →
        sp = v.get (Fld.PRF_CH_STAT_SP n) → band = (v.chan n).prof.band →
        (v.mayswitch n = true → 625 * (sp + band) * v.share n ≤ 16 * cur → (v.chan n).lowSide = true →
          s.does (.thresholdCrossing dt n cur) (fun u => (u.chan n).lowSide = false ∧ (u.chan n).lowAt = v.now ∧
            u.phase n = v.phase n ∧ v.sameBut u [])) ∧
        (v.mayswitch n = true → 16 * cur < 625 * (sp + band) * v.share n → 16 * cur ≤ 625 * (sp - band) * v.share n →
          (v.chan n).lowSide = false → s.does (.thresholdCrossing dt n cur) (fun u => (u.chan n).lowSide = true ∧
            (u.chan n).lowAt = v.now ∧ (u.chan n).chopping = true ∧ v.sameBut u [])) ∧
        (v.mayswitch n = false → s.does (.thresholdCrossing dt n cur) (fun u => (u.chan n).lowSide = (v.chan n).lowSide ∧
          (u.chan n).lowAt = (v.chan n).lowAt ∧ v.sameBut u [])) ∧
        (16 * cur < 625 * (sp + band) * v.share n → 625 * (sp - band) * v.share n < 16 * cur →
          s.does (.thresholdCrossing dt n cur) (fun u => u = v))) ∧
      (∀ cur : Nat, v.phase n = 5 →
        (16 * cur < 625 * (v.chan n).prof.endI * v.share n → s.does (.endComplete dt n cur) (fun u => u.phase n = 0 ∧ (u.chan n).shot = none ∧
          (u.chan n).lowSide = false ∧ v.sameBut u [Reg.DRV_CH_STAT n])) ∧
        (625 * (v.chan n).prof.endI * v.share n ≤ 16 * cur →
          s.leaves (.endComplete dt n cur) (fun u => u = v) ∧
          ((v.chan n).prof.endT ≠ 0 → (v.chan n).phaseAt + 4 * (v.chan n).prof.endT < v.now → s.does (.endOver dt n cur) (fun u =>
            u.flag (Fld.PRF_CH_STAT_END_OVER n) = true ∧ u.chans = v.chans ∧ v.sameBut u [Reg.PRF_CH_STAT n])))))

/-- Protections and off-state tests (R149, R152–R156, R160). A trip sets its flag, a new one SYS_FAULT.DRV, and brings END to what drives; in pair
mode a mismatch sets FOREIGN unless it is masked. An off-state test takes two steps and classifies each channel by the table of R155. -/
def Obligations.Protections : Prop :=
  ∀ (s v : State) (dt : Nat), s.advance dt = v →
    (∀ (n : Fin 48) (cur : Nat),
      (45000 < cur → s.does (.overcurrentTrip dt n cur) (fun u => u.flag (Fld.DRV_CH_STAT_OC (v.lead n)) = true ∧
        (v.inPair n = true → u.flag (Fld.DRV_CH_STAT_OC (v.lead n + 1)) = true) ∧
        (v.occupies (v.lead n) = true → u.phase (v.lead n) = 5) ∧
        (v.flag (Fld.DRV_CH_STAT_OC (v.lead n)) = false → u.flag Fld.SYS_FAULT_DRV = true))) ∧
      (cur ≤ 45000 → s.leaves (.overcurrentTrip dt n cur) (fun u => u = v))) ∧
    (∀ (k : Fin 8) (boost : Bool) (cur : Nat), (if boost then 110000 else 50000) < cur →
      s.does (.hsOvercurrentTrip dt k boost cur) (fun u => u.flag (Fld.DRV_BANKSTAT_HS_OC k) = true ∧
        (∀ n : Fin 48, bankOf n = k → v.occupies n = true → u.phase n = 5) ∧ (∀ w, w ∈ u.queue k → bankOf w.ch ≠ k) ∧
        (v.flag (Fld.DRV_BANKSTAT_HS_OC k) = false → u.flag Fld.SYS_FAULT_DRV = true))) ∧
    (∀ (n : Fin 48) (node : Bool) (excess : Int), ((100 * v.get Fld.DRV_STBY_FOREIGN_THR : Nat) : Int) ≤ excess →
      (v.flag Fld.DRV_CTRL_PAIR_MODE = false → node = true → s.does (.currentMismatchTrip dt n node excess) (fun u =>
        u.flag (Fld.DRV_BANKSTAT_SHORT_GND (bankOf n)) = true ∧ (v.occupies n = true → u.phase n = 5))) ∧
      (v.flag Fld.DRV_CTRL_PAIR_MODE = false → node = false → s.does (.currentMismatchTrip dt n node excess) (fun u =>
        u.flag (Fld.DRV_CH_STAT_SHORT_BAT n) = true ∧ (v.occupies (v.lead n) = true → u.phase (v.lead n) = 5))) ∧
      (v.flag Fld.DRV_CTRL_PAIR_MODE = true → v.isCope = true → (v.bank (bankOf n)).maskUntil ≤ v.now →
        s.does (.currentMismatchTrip dt n node excess) (fun u => u.flag (Fld.DRV_BANKSTAT_FOREIGN (bankOf n)) = true)) ∧
      (v.flag Fld.DRV_CTRL_PAIR_MODE = true → v.isCope = false →
        (v.now < (v.bank (bankOf n)).maskUntil → s.does (.currentMismatchTrip dt n node excess) (fun u => u = v)) ∧
        ((v.bank (bankOf n)).maskUntil ≤ v.now → s.does (.currentMismatchTrip dt n node excess) (fun u =>
          u.flag (Fld.DRV_BANKSTAT_FOREIGN (bankOf n)) = true ∧ u.chans = v.chans ∧ v.sameBut u [Reg.DRV_BANKSTAT (bankOf n)])))) ∧
    (∀ (n : Fin 48) (cur : Nat), v.occupies n = true → (v.chan n).openDone = false →
      v.passed (v.chan n).startAt (4000 * v.get (Fld.DRV_CH_CFG_OPEN_T n)) = true →
      (cur < 100 * v.get Fld.DRV_DIAG_OPEN_I → s.does (.openLoadCheck dt n cur) (fun u => u.flag (Fld.DRV_CH_STAT_OPEN n) = true ∧
        u.phase n = 5)) ∧
      (100 * v.get Fld.DRV_DIAG_OPEN_I ≤ cur → s.does (.openLoadCheck dt n cur) (fun u => (u.chan n).openDone = true ∧ u.regs = v.regs))) ∧
    (∀ k : Fin 8, (v.bank k).maskUntil ≤ v.now → s.leaves (.foreignMaskEnd dt k) (fun u => (u.bank k).maskUntil = 0 ∧ u.regs = v.regs)) ∧
    (∀ k : Fin 8, v.testDue k = true → s.does (.offStateTest dt k) (fun u => (u.bank k).testStep = 1 ∧ (u.bank k).testAt = v.now ∧
      (u.bank k).lastTest = some v.now ∧ u.flag (Fld.DRV_BANKSTAT_DIAG_RUN k) = true ∧ v.sameBut u [Reg.DRV_BANKSTAT k])) ∧
    ∀ (k : Fin 8) (l : List Nat), v.passed (v.bank k).testAt (200 * usTicks) = true →
      ((v.bank k).testStep = 1 → s.does (.offStateStepEnd dt k l) (fun u => (u.bank k).testStep = 2 ∧ (u.bank k).reads = l ∧
        (u.bank k).testAt = v.now ∧ u.regs = v.regs)) ∧
      ((v.bank k).testStep = 2 → s.does (.offStateStepEnd dt k l) (fun u => (u.bank k).testStep = 0 ∧
        u.flag (Fld.DRV_BANKSTAT_DIAG_RUN k) = false ∧
        ∀ (i : Fin 6) (r : OffResult), v.flag (Fld.DRV_CH_CFG_DIAG (6 * k.val + i.val)) = true →
          r = offResult ((v.bank k).reads.getD i 0) (l.getD i 0) →
          (r = .openLoad → u.flag (Fld.DRV_CH_STAT_OPEN (6 * k.val + i.val)) = true) ∧
          (r = .shortGnd → u.flag (Fld.DRV_CH_STAT_SHORT_GND (6 * k.val + i.val)) = true) ∧
          (r = .shortBat → u.flag (Fld.DRV_CH_STAT_SHORT_BAT (6 * k.val + i.val)) = true)))

/-- The boost converter and the thermal models (R161–R172). Charging starts below VSET − BAND and stops at VSET; a low rail, an overvoltage, a slow
clamp and a failing phase are reported, a failing boost once. Each enabled coil steps by R167, without current where the channel was not active; a die's power and temperature set its flags, and a die that stops
ends its channels. -/
def Obligations.BoostAndHeat : Prop :=
  (∀ (s v : State) (dt vb : Nat), (s.advance dt).seeVboost vb = v →
    (v.converterOn = true → v.flag Fld.DRV_STAT_CHARGING = false →
      10 * vb + 25 * Nat.max 1 (v.get Fld.DRV_BCFG_BAND) < 10 * v.get Fld.DRV_BCFG_VSET →
      s.does (.boostChargeStart dt vb) (fun u => u.flag Fld.DRV_STAT_CHARGING = true ∧ u.drv.chargeAt = v.now ∧ v.sameBut u [Reg.DRV_STAT])) ∧
    (v.get Fld.DRV_BCFG_VSET ≤ vb → s.does (.boostChargeStop dt vb) (fun u => u.flag Fld.DRV_STAT_CHARGING = false ∧
      v.sameBut u [Reg.DRV_STAT])) ∧
    (vb < v.get Fld.DRV_VBOOSTMIN_VMIN → v.flag Fld.DRV_STAT_BOOST_LOW = false → s.does (.vboostLow dt vb) (fun u =>
      u.flag Fld.DRV_STAT_BOOST_LOW = true ∧ u.drv.lowAt = v.now ∧ v.sameBut u [Reg.DRV_STAT])) ∧
    (v.get Fld.DRV_VBOOSTMIN_VMIN ≤ vb → s.does (.vboostRecovered dt vb) (fun u => u.flag Fld.DRV_STAT_BOOST_LOW = false ∧
      v.sameBut u [Reg.DRV_STAT])) ∧
    (Nat.min 1100 (v.get Fld.DRV_BCFG_VSET + 10 * v.get Fld.DRV_BCFG_OV_MARGIN) ≤ vb → s.does (.boostOv dt vb) (fun u =>
      u.flag Fld.DRV_STAT_BOOST_OV = true ∧ u.flag Fld.DRV_STAT_CHARGING = false ∧ v.sameBut u [Reg.DRV_STAT]))) ∧
  ∀ (s v : State) (dt : Nat), s.advance dt = v →
    (∀ mw : Nat,
      (15000 < mw → s.does (.clampSlow dt mw) (fun u => u.flag Fld.DRV_STAT_CLAMP_SLOW = true ∧ v.sameBut u [Reg.DRV_STAT])) ∧
      (mw < 10000 → s.does (.clampSlow dt mw) (fun u => u.flag Fld.DRV_STAT_CLAMP_SLOW = false ∧ v.sameBut u [Reg.DRV_STAT])) ∧
      (10000 ≤ mw → mw ≤ 15000 → s.leaves (.clampSlow dt mw) (fun u => u = v))) ∧
    (∀ (p : Fin 2) (f : FReg), f = (if p = 0 then Fld.DRV_STAT_PH0_FAIL else Fld.DRV_STAT_PH1_FAIL) →
      v.flag Fld.DRV_STAT_CHARGING = true → v.flag f = false → v.passed v.drv.chargeAt (40 * usTicks) = true →
      s.does (.boostPhaseFail dt p) (fun u => u.flag f = true ∧ u.flag Fld.DRV_STAT_BOOST_FAIL = true ∧ u.flag Fld.SYS_FAULT_DRV = true ∧
        v.sameBut u [Reg.DRV_STAT, Reg.SYS_FAULT])) ∧
    (v.flag Fld.DRV_STAT_CHARGING = true → v.flag Fld.DRV_STAT_BOOST_LOW = true → v.passed v.drv.chargeAt (50 * msTicks) = true →
      v.passed v.drv.lowAt (50 * msTicks) = true → v.drv.failTold = false → s.does (.boostFail dt) (fun u => u.flag Fld.DRV_STAT_BOOST_FAIL = true ∧
        u.flag Fld.SYS_FAULT_DRV = true ∧ v.sameBut u [Reg.DRV_STAT, Reg.SYS_FAULT])) ∧
    (∀ l : List Nat, v.tclkRuns = true → v.passed v.drv.coilAt msTicks = true →
      (v.isDrag = true → s.leaves (.coilModelUpdate dt l) (fun u => u.chans = v.chans ∧ u.regs = v.regs ∧ u.drv.coilAt = v.now)) ∧
      (v.isDrag = false → s.does (.coilModelUpdate dt l) (fun u => u.drv.coilAt = v.now ∧
        (∀ (n : Fin 48) (e : Nat), v.flag (Fld.DRV_CH_CFG_EN n) = true → v.oddOfPair n = false →
          e = (if v.drv.wasActive.testBit n then l.getD n 0 else 0) → ((u.chan n).tw, (u.chan n).tb) = v.coilStep n e ∧
          u.get (Fld.DRV_CH_STAT_TSTEP n) = v.thermalStep n (v.coilStep n e).1) ∧
        (∀ n : Fin 48, (v.flag (Fld.DRV_CH_CFG_EN n) = false ∨ v.oddOfPair n = true) → u.chan n = v.chan n)))) ∧
    (v.passed v.drv.ambAt (10000 * msTicks) = true → v.flag Fld.DRV_AMB_STALE = false → s.does (.ambStale dt) (fun u =>
      u.flag Fld.DRV_AMB_STALE = true ∧ v.sameBut u [Reg.DRV_AMB])) ∧
    ∀ (d : Fin 2) (t : Int) (p : Nat), s.does (.dieThermalChange dt d t p) (fun u =>
      u.get (Fld.DRV_DIE_TEMP d) = ofSigned 8 t ∧ u.get (Fld.DRV_DIE_PAVG d) = Nat.min 65535 p ∧
      (u.flag (Fld.DRV_DIE_PWR_OVER d) = true ↔ v.get Fld.DRV_DIELIM_PLIM < p ∨
        v.flag (Fld.DRV_DIE_PWR_OVER d) = true ∧ 9 * v.get Fld.DRV_DIELIM_PLIM ≤ 10 * p) ∧
      (u.flag (Fld.DRV_DIE_HOT d) = true ↔ (v.get Fld.DRV_DIELIM_DIE_T1 : Int) ≤ t ∨
        v.flag (Fld.DRV_DIE_HOT d) = true ∧ (v.get Fld.DRV_DIELIM_DIE_T1 : Int) - 5 < t) ∧
      (u.flag (Fld.DRV_DIE_STOP d) = true ↔ 165 ≤ t ∨ v.flag (Fld.DRV_DIE_STOP d) = true ∧ 150 < t) ∧
      (165 ≤ t → v.flag (Fld.DRV_DIE_STOP d) = false → u.flag Fld.SYS_FAULT_DRV = true ∧
        ∀ n : Fin 48, dieOf n = d → v.occupies n = true → u.phase n = 5))

-- ── Witness (R199–R215) ───────────────────────────────────────────────────────────────────────────────────────────

/-- The witness's events (R199, R202, R203, R213–R215). A due record closes into the ring under the next SEQ and shows as the channel's last; the edges
of an observed drive fill the standby record nearest to them, and one without a rise closes ABSENT after WIN; a digest that is stored extends
the chain by one, with a checkpoint every 1,024, and one of which a write failed twice, or its checkpoint, is reported. -/
def Obligations.WitnessEvents : Prop :=
  ∀ (s v : State) (dt : Nat), s.advance dt = v →
    (∀ (n : Fin 48) (l : List Sample),
      (∀ r : OpenRec, (v.openRecs n).find? v.recordDue = some r → r.ch = n.val → s.does (.recordClose dt n l) (fun u => ∃ y : State,
        u = (if r.standby then y.observeRule r false else y) ∧
        y.openRecs n = (v.openRecs n).erase r ∧ y.get Fld.WIT_RECSEQ_SEQ = (v.get Fld.WIT_RECSEQ_SEQ + 1) % 2 ^ 32 ∧
        (∃ f : Nat, y.wit.ring.head? = some (v.get Fld.WIT_RECSEQ_SEQ, recordBytes { r with fault := f } (v.measure r l))) ∧
        y.get (Fld.WIT_CH_STAT_LAST_OUT n) = r.outcome % 16 ∧ y.get (Fld.WIT_CH_LAST_OPEN_T n) = (v.measure r l).openT % 2 ^ 20 ∧
        y.get (Fld.WIT_CH_STAT_LAST_CONF n) = (v.measure r l).openConf % 2 ^ 8)) ∧
      ((v.openRecs n).find? v.recordDue = none → s.does (.recordClose dt n l) (fun u => u = v)) ∧
      ((∀ r, r ∈ (v.endWindows n).openRecs n → v.recordDue r = false) → s.does (.closeWindowEnd dt n l) (fun u => u.regs = v.regs ∧
        u.openRecs n = (v.openRecs n).map (fun r => match r.endAt with
          | some e => if e + v.closeEnd r ≤ v.now then { r with windowOver := true } else r
          | none => r))) ∧
      (∀ r : OpenRec, ((v.endWindows n).openRecs n).find? v.recordDue = some r → r.ch = n.val → s.does (.closeWindowEnd dt n l) (fun u =>
        ∃ y : State, u = (if r.standby then y.observeRule r false else y) ∧ y.openRecs n = ((v.endWindows n).openRecs n).erase r ∧
          y.get Fld.WIT_RECSEQ_SEQ = (v.get Fld.WIT_RECSEQ_SEQ + 1) % 2 ^ 32))) ∧
    (∀ n : Fin 48, (v.inStandby n = false → s.leaves (.obsDriveRise dt n) (fun u => u = v)) ∧
      (v.flag (Fld.DRV_CH_STAT_OBS_DRIVE n) = false → s.leaves (.obsDriveFall dt n) (fun u => u = v)) ∧
      ∀ l : List Sample, (∀ r, r ∈ v.openRecs n → r.standby = false ∨ r.seen = true ∨ v.passed r.firedAt v.obsWin = false) →
        s.leaves (.obsWindowExpiry dt ⟨n, l⟩) (fun u => u = v)) ∧
    (∀ (n : Fin 48) (r : OpenRec), v.openRecs n = [r] → r.standby = true → r.endAt = none →
      (v.inStandby n = true → s.does (.obsDriveRise dt n) (fun u =>
        u.flag (Fld.DRV_CH_STAT_OBS_DRIVE n) = true ∧ (u.chan n).obsRise = some v.now ∧ (u.chan n).obsAngle = v.out ∧
        v.sameBut u [Reg.DRV_CH_STAT n] ∧
        (v.now ≤ r.firedAt + v.obsWin → r.seen = false → u.openRecs n =
          [{ r with seen := true, startedAt := v.now, startTime := v.tclk, actStart := v.out }]) ∧
        (r.firedAt + v.obsWin < v.now → u.openRecs n = [r]) ∧
        (r.seen = true → r.firedAt - r.startedAt ≤ v.now - r.firedAt → u.openRecs n = [r]) ∧
        (v.now ≤ r.firedAt + v.obsWin → r.seen = true → v.now - r.firedAt < r.firedAt - r.startedAt → u.openRecs n =
          [{ r with startedAt := v.now, startTime := v.tclk, actStart := v.out, doneAt := none, endTime := 0 }]))) ∧
      (v.flag (Fld.DRV_CH_STAT_OBS_DRIVE n) = true → s.does (.obsDriveFall dt n) (fun u =>
        u.flag (Fld.DRV_CH_STAT_OBS_DRIVE n) = false ∧ (u.chan n).obsFall = some v.now ∧ v.sameBut u [Reg.DRV_CH_STAT n] ∧
        (r.seen = false → u.openRecs n = [r]) ∧
        (r.seen = true → u.openRecs n =
          [{ r with endTime := Nat.min 0xFFFFFF ((v.now - r.startedAt) / 4), endAt := some v.now, doneAt := some v.now }]))) ∧
      (r.seen = false → r.ch = n.val → v.passed r.firedAt v.obsWin = true → ∀ l : List Sample, s.does (.obsWindowExpiry dt ⟨n, l⟩) (fun u =>
        ∃ y : State, u = y.observeRule r true ∧ y.openRecs n = [] ∧ y.get Fld.WIT_RECSEQ_SEQ = (v.get Fld.WIT_RECSEQ_SEQ + 1) % 2 ^ 32 ∧
          y.get (Fld.WIT_CH_STAT_LAST_OUT n) = r.outcome % 16 ∧ (v.get (srcCgrp false 154) = 0 → y.isPend false 154 = true)))) ∧
    (v.wit.snap = none → ∀ a b : WriteTries, s.leaves (.digestStore dt a b) (fun u => u = v)) ∧
    ∀ (c : CycleCounts) (i : Nat) (d : List Byte), v.wit.snap = some c → i = v.wit.index + 1 → d = v.digestBytes c i → d.length = 64 →
      ∀ a b : WriteTries, s.does (.digestStore dt a b) (fun u => u.wit.index = i ∧ u.chainHead = sha256 (v.chainHead ++ d) ∧
        u.wit.snap = none ∧ (a.held = true → u.bytes (digestAddr i) 64 = d) ∧
        (i % 1024 = 1023 → b.held = true → u.bytes (checkAddr i + 8) 32 = sha256 (v.chainHead ++ d)) ∧
        (∀ x, (x < digestAddr i ∨ digestAddr i + 64 ≤ x) → (i % 1024 ≠ 1023 ∨ x < checkAddr i ∨ checkAddr i + 64 ≤ x) →
          u.byte x = v.byte x) ∧
        (a.held = true → (i % 1024 ≠ 1023 ∨ b.held = true) → u.wit.gap = false ∧
          ∀ x, inIrqBlock x = false → u.word x = v.word x) ∧
        (a.held = false ∨ (i % 1024 = 1023 ∧ b.held = false) → u.wit.gap = true ∧ u.flag Fld.WIT_STAT_CHAIN_FAIL = true ∧
          u.flag Fld.SYS_FAULT_WIT = true))

-- ── Floe (R218–R235) ──────────────────────────────────────────────────────────────────────────────────────────────

/-- Ports and cells of the Floe block (R219, R221, R223–R226, R230). A port trains from DETECT through ALIGN and TRAIN to UP, in which it knows its peer
and its delay, and from DOWN it trains again; the oldest cell of the highest priority leaves; a cell that fails its check is dropped and counted,
one for this node is taken in, one for another node joins its output port's queue with one hop more, and one for all leaves by every other port. -/
def Obligations.FloeLinks : Prop :=
  ∀ (s v : State) (dt : Nat) (p : Fin 4), s.advance dt = v →
    (v.portTrains p = true →
      (v.portState p = 1 → s.does (.portAlign dt p) (fun u => u.portState p = 2 ∧ v.sameBut u [Reg.FLO_PORT_STAT p])) ∧
      (v.portState p = 2 → s.does (.portTrain dt p) (fun u => u.portState p = 3 ∧ (u.floPort p).delays = [] ∧
        v.sameBut u [Reg.FLO_PORT_STAT p])) ∧
      (v.portState p = 3 → (v.floPort p).delays ≠ [] → ∀ peer : Fin 4096, s.does (.portUp dt p peer) (fun u => u.portState p = 4 ∧
        u.get (Fld.FLO_PORT_STAT_PEER p) = peer.val ∧ u.bit Fld.FLO_STAT_UP p = true ∧
        v.sameBut u [Reg.FLO_PORT_STAT p, Reg.FLO_STAT]))) ∧
    (v.portTrains p = false ∨ v.portState p ≠ 1 → s.leaves (.portAlign dt p) (fun u => u = v)) ∧
    (v.portTrains p = false ∨ v.portState p ≠ 2 → s.leaves (.portTrain dt p) (fun u => u = v)) ∧
    (v.portTrains p = false ∨ v.portState p ≠ 3 ∨ (v.floPort p).delays = [] → ∀ peer : Fin 4096,
      s.leaves (.portUp dt p peer) (fun u => u = v)) ∧
    (v.portUp p = true → s.does (.portDown dt p) (fun u => u.portState p = (if v.portMay p then 1 else 0) ∧
      u.bit Fld.FLO_STAT_UP p = false ∧
      v.sameBut u [Reg.FLO_PORT_STAT 0, Reg.FLO_PORT_STAT 1, Reg.FLO_PORT_STAT 2, Reg.FLO_PORT_STAT 3, Reg.FLO_STAT])) ∧
    (v.portUp p = false → s.leaves (.portDown dt p) (fun u => u = v)) ∧
    (∀ r1 r2 r3 r4 : Nat,
      ((v.portState p = 3 ∨ v.portUp p = true ∧ v.passed (v.floPort p).exchAt (100 * msTicks) = true) →
        s.does (.delayExchange dt p r1 r2 r3 r4) (fun u =>
          u.get (Fld.FLO_PORT_DLY_DELAY p) = Nat.min 0xFFFFF (divRound (r1 + r2 + r3 + r4) 8) ∧
          (u.floPort p).exchAt = v.now ∧ v.sameBut u [Reg.FLO_PORT_DLY p])) ∧
      (v.portState p ≠ 3 → (v.portUp p = false ∨ v.passed (v.floPort p).exchAt (100 * msTicks) = false) →
        s.leaves (.delayExchange dt p r1 r2 r3 r4) (fun u => u = v))) ∧
    (∀ (k : Nat) (c : Cell), v.floeOn = true → v.portUp p = true → (v.floPort p).busyUntil ≤ v.now → nextOut (v.floPort p).queue = some k →
      (v.floPort p).queue[k]? = some c → s.does (.cellForward dt p) (fun u => ∃ y : State, u = y.pumpCopy 24 ∧
        (y.floPort p).queue = (v.floPort p).queue.eraseIdx k ∧ (y.floPort p).busyUntil = v.now + 205 ∧
        (y.floPort p).sent = cellBytes (moveCorr c (16 * v.now : Nat)) ∧ y.regs = v.regs)) ∧
    ((v.floeOn = false ∨ v.portUp p = false ∨ v.now < (v.floPort p).busyUntil ∨ nextOut (v.floPort p).queue = none) →
      s.leaves (.cellForward dt p) (fun u => u = v)) ∧
    (∀ (n : Fin 4096) (q t : Nat), spGet (fun _ => (0, 0)) v.flo.bcSeen n = (q + 1, t) →
      (t + 100 * msTicks ≤ v.now → s.leaves (.bcEntryAge dt n) (fun u => spGet (fun _ => (0, 0)) u.flo.bcSeen n = (0, 0) ∧ u.regs = v.regs ∧
        ∀ c : Cell, c.src = n.val → u.bcAccepts c = true)) ∧
      (v.now < t + 100 * msTicks → s.leaves (.bcEntryAge dt n) (fun u => u = v))) ∧
    ∀ (m b : List Byte) (k : BitVec 32) (c d : Cell), m.length = 60 → b = m ++ leBytes 4 k.toNat → c = readCell b →
      d = moveCorr c ((v.get (Fld.FLO_PORT_DLY_DELAY p) : Int) - (16 * v.now : Nat)) →
      ((v.floeOn = false ∨ v.portUp p = false) → s.leaves (.cellArrival dt p m k) (fun u => u = v)) ∧
      (v.floeOn = true → v.portUp p = true →
        (cellCrcOk b = false → s.does (.cellArrival dt p m k) (fun u =>
          u.get (Fld.FLO_PORT_ERR_CRC p) = (v.get (Fld.FLO_PORT_ERR_CRC p) + 1) % 2 ^ (Fld.FLO_PORT_ERR_CRC p).w ∧
          u.get Fld.FLO_DROP_CRC = (v.get Fld.FLO_DROP_CRC + 1) % 2 ^ Fld.FLO_DROP_CRC.w ∧ u.flo.inq = v.flo.inq)) ∧
        (cellCrcOk b = true → 52 < cellLen b → s.does (.cellArrival dt p m k) (fun u =>
          u.get Fld.FLO_DROP_CRC = (v.get Fld.FLO_DROP_CRC + 1) % 2 ^ Fld.FLO_DROP_CRC.w ∧ u.flo.inq = v.flo.inq)) ∧
        (cellCrcOk b = true → cellLen b ≤ 52 →
          ((c.typ = 0 ∨ 8 ≤ c.typ) → s.does (.cellArrival dt p m k) (fun u =>
            u.get Fld.FLO_DROP_HOPS = (v.get Fld.FLO_DROP_HOPS + 1) % 2 ^ Fld.FLO_DROP_HOPS.w ∧ u.flo.inq = v.flo.inq)) ∧
          (linkLocal c = true → s.does (.cellArrival dt p m k) (fun u => u = v)) ∧
          (0 < c.typ → c.typ < 8 → linkLocal c = false →
            (c.bc = true → v.bcAccepts c = false → s.does (.cellArrival dt p m k) (fun u => u = v)) ∧
            ((c.bc = true → v.bcAccepts c = true) → v.forwards p c = true → v.hopLimit c = true → s.does (.cellArrival dt p m k) (fun u =>
              u.get Fld.FLO_DROP_HOPS = (v.get Fld.FLO_DROP_HOPS + 1) % 2 ^ Fld.FLO_DROP_HOPS.w ∧ u.flo.inq = v.flo.inq ∧
              v.sameBut u [Fld.FLO_DROP_HOPS.addr])) ∧
            (c.bc = false → c.mc = false →
              (c.dst = v.get Fld.FLO_NODE_NODE_ID → s.does (.cellArrival dt p m k) (fun u =>
                u.flo.inq = v.flo.inq ++ (if v.takes d then [(p.val, d)] else []) ∧ u.regs = v.regs)) ∧
              (c.dst ≠ v.get Fld.FLO_NODE_NODE_ID → v.hopLimit c = false → v.portUp (v.routeOf c.dst) = true →
                (v.floPort (v.routeOf c.dst)).queue.length < 32 → s.does (.cellArrival dt p m k) (fun u => u.flo.inq = v.flo.inq ∧
                  (u.floPort (v.routeOf c.dst)).queue = (v.floPort (v.routeOf c.dst)).queue ++ [{ d with hops := c.hops + 1 }] ∧
                  u.regs = v.regs))) ∧
            ((c.bc = true ∨ c.mc = true) → (c.bc = true → v.bcAccepts c = true) → (v.forwards p c = true → v.hopLimit c = false) →
              s.does (.cellArrival dt p m k) (fun u =>
                u.flo.inq = v.flo.inq ++ (if (c.bc || c.dst == v.get Fld.FLO_NODE_DOMAIN) && v.takes d then [(p.val, d)] else []) ∧
                ∀ q : Fin 4, q ≠ p → v.portUp q = true → (c.bc = true ∨ (v.maskOf c.dst).testBit q = true) →
                  (v.floPort q).queue.length < 32 →
                  (u.floPort q).queue = (v.floPort q).queue ++ [{ d with hops := c.hops + 1 }])))))

/-- Domain time and the shared angle (R230–R235). The master sends a SYNC cell every SYNC_P; one that is received sets the base of domain time and names
the master, and a master that hears a lower ID stops; ten periods without one end DOM_LOCK, and three let a candidate claim. An EDGE cell of
the master sets T_A and T_NEXT and is compared with the output angle, and cells that do not come are counted; each follower then takes the cell
while DOM_LOCK stands, loses its lock, or notes the missing edge. -/
def Obligations.DomainTime : Prop :=
  ∀ (s v : State) (dt : Nat), s.advance dt = v →
    (v.domMaster = true → v.floeOn = true → v.passed v.flo.syncSentAt v.syncPeriod = true → s.does (.syncSend dt) (fun u =>
      u.flo.syncSentAt = v.now ∧ spGet (fun _ => 0) u.flo.seqOut 1 = (spGet (fun _ => 0) v.flo.seqOut 1 + 1) % 65536)) ∧
    (v.domMaster = false ∨ v.floeOn = false ∨ v.passed v.flo.syncSentAt v.syncPeriod = false → s.leaves (.syncSend dt) (fun u => u = v)) ∧
    (∀ (c : Cell) (w : State) (m : Nat), v.takeCell 1 isSyncCell = some (c, w) → c.src < 4096 →
      m = leAt c.payload 8 8 + leAt (moveCorr c (16 * v.now : Nat)).payload 16 4 →
      (v.domMaster = true → v.get Fld.FLO_NODE_NODE_ID ≤ c.src → s.does (.syncCellRx dt) (fun u => u = w)) ∧
      (v.domMaster = true → c.src < v.get Fld.FLO_NODE_NODE_ID → s.does (.syncCellRx dt) (fun u => u.domMaster = false ∧
        u.flo.lowerAt = v.now)) ∧
      (v.domMaster = false → v.flag Fld.FLO_DMASTER_VALID = true → v.get Fld.FLO_DMASTER_MASTER < c.src →
        s.does (.syncCellRx dt) (fun u => u.flo.syncMaster = v.flo.syncMaster ∧ v.sameBut u [])) ∧
      ((v.domMaster = true → c.src < v.get Fld.FLO_NODE_NODE_ID) →
        (v.flag Fld.FLO_DMASTER_VALID = false ∨ c.src ≤ v.get Fld.FLO_DMASTER_MASTER) → s.does (.syncCellRx dt) (fun u =>
          u.domMaster = false ∧ u.flo.syncMaster = m ∧ u.flo.syncOwn = 16 * v.tclk ∧ u.flo.syncAt = v.now ∧
          u.flag Fld.FLO_DMASTER_VALID = true ∧ u.get Fld.FLO_DMASTER_MASTER = c.src ∧
          u.word Reg.FLO_DOFS = BitVec.ofNat 32 (ofSigned 32 (clampInt (-2147483648) 2147483647 ((m : Int) - (16 * v.tclk : Nat)))) ∧
          (3 ≤ v.flo.syncGood → ((m : Int) - v.domTime).natAbs ≤ 12 → u.flag Fld.FLO_STAT_DOM_LOCK = true)))) ∧
    (v.passed v.flo.syncAt (10 * v.syncPeriod) = true →
      (v.flag Fld.FLO_STAT_DOM_LOCK = true ∨ v.flag Fld.FLO_DMASTER_VALID = true ∧ v.domMaster = false) → s.does (.domLockLoss dt) (fun u =>
        ∃ y : State, u = y.eachFollower State.loseFollower ∧ y.flag Fld.FLO_STAT_DOM_LOCK = false ∧ y.flo.syncGood = 0 ∧
          (v.domMaster = false → y.flag Fld.FLO_DMASTER_VALID = false) ∧ y.trks = v.trks ∧
          v.sameBut y [Reg.FLO_STAT, Reg.FLO_DMASTER])) ∧
    (v.passed v.flo.syncAt (10 * v.syncPeriod) = false → s.leaves (.domLockLoss dt) (fun u => u = v)) ∧
    (v.candidateMaster = true → v.domMaster = false → v.passed v.flo.lowerAt (3 * v.syncPeriod) = true → s.does (.masterClaim dt) (fun u =>
      u.domMaster = true ∧ u.flag Fld.FLO_DMASTER_VALID = true ∧ u.get Fld.FLO_DMASTER_MASTER = v.get Fld.FLO_NODE_NODE_ID ∧
      v.sameBut u [Reg.FLO_STAT, Reg.FLO_DMASTER])) ∧
    (v.candidateMaster = false ∨ v.domMaster = true ∨ v.passed v.flo.lowerAt (3 * v.syncPeriod) = false →
      s.leaves (.masterClaim dt) (fun u => u = v)) ∧
    (∀ (c : Cell) (w : State), v.takeCell 1 (fun c => cellSub c == 0) = some (c, w) →
      ((v.domMaster = true ∨ v.flag Fld.FLO_DMASTER_VALID = false ∨ v.get Fld.FLO_DMASTER_MASTER ≠ c.src) →
        s.leaves (.edgeCellRx dt) (fun u => u = w)) ∧
      (v.domMaster = false → v.flag Fld.FLO_DMASTER_VALID = true → v.get Fld.FLO_DMASTER_MASTER = c.src →
        s.does (.edgeCellRx dt) (fun u => ∃ y : State,
          u = y.eachFollower (fun s x => if s.flag Fld.FLO_STAT_DOM_LOCK then s.followEdge c.payload (v.masterAngle c.payload) x
            else s.loseFollower x) ∧
          y.flo.edgeTA = leAt c.payload 8 8 ∧ y.flo.edgeTNext = leAt c.payload 32 4 ∧ y.flo.edgeSeen = true ∧ y.flo.edgeMissed = 0 ∧
          y.trks = v.trks ∧ v.sameBut y [Reg.FLO_DDIFF, Reg.FLO_STAT] ∧
          (v.outOk = true → y.word Reg.FLO_DDIFF = BitVec.ofInt 32 (angDist v.out (v.masterAngle c.payload / fracOne))) ∧
          (v.outOk = true → v.get Fld.FLO_DOM_DAGREE < (angDist v.out (v.masterAngle c.payload / fracOne)).natAbs → 2 ≤ v.flo.disRun →
            y.flag Fld.FLO_STAT_DOM_DIS = true) ∧
          (v.outOk = true → (angDist v.out (v.masterAngle c.payload / fracOne)).natAbs ≤ v.get Fld.FLO_DOM_DAGREE → 2 ≤ v.flo.agrRun →
            y.flag Fld.FLO_STAT_DOM_DIS = false)))) ∧
    (v.flo.edgeSeen = true → 4 * v.flo.edgeTA + 16 * (5 + 4 * v.flo.edgeMissed) * v.flo.edgeTNext < 4 * v.domTime →
      s.does (.edgeCellMissing dt) (fun u => ∃ y : State, u = y.eachFollower (fun s x =>
          if inSync (s.trkState x) then (s.missEdge x).afterTracker s x false false false else s) ∧
        y.flo.edgeMissed = v.flo.edgeMissed + 1 ∧ y.trks = v.trks ∧ y.regs = v.regs)) ∧
    (v.flo.edgeSeen = false ∨ 4 * v.domTime ≤ 4 * v.flo.edgeTA + 16 * (5 + 4 * v.flo.edgeMissed) * v.flo.edgeTNext →
      s.leaves (.edgeCellMissing dt) (fun u => u = v))

-- ── The pair (R236–R258) ──────────────────────────────────────────────────────────────────────────────────────────

/-- Heartbeat, the ARB line and roles (R237–R242, R258). A HEART cell leaves every HB_P; one that comes shows the partner's report and ends HB_LOST, a
device without a role becomes drag beside a cope, and of two copes the higher node gives up the drive; no cell for HB_MISS × HB_P sets HB_LOST
and SYS_FAULT.FLO. A device that may form its pair becomes drag when it reads ARB held, and cope when ARB has been free long enough: it asserts
ARB and leaves standby. -/
def Obligations.PairRoles : Prop :=
  ∀ (s v : State) (dt : Nat), s.advance dt = v →
    (v.paired = true → v.floeOn = true → v.passed v.flo.hbSentAt (200 * v.get Fld.FLO_PAIRT_HB_P) = true → s.does (.heartSend dt) (fun u =>
      u.flo.hbSentAt = v.now ∧ u.flo.hostOk = false ∧
      spGet (fun _ => 0) u.flo.seqOut 3 = (spGet (fun _ => 0) v.flo.seqOut 3 + 1) % 65536)) ∧
    (v.paired = false ∨ v.floeOn = false ∨ v.passed v.flo.hbSentAt (200 * v.get Fld.FLO_PAIRT_HB_P) = false →
      s.leaves (.heartSend dt) (fun u => u = v)) ∧
    (∀ (c : Cell) (w : State), v.takeCell 3 (fun _ => true) = some (c, w) → s.does (.heartRx dt) (fun u => u.flo.hbAt = v.now ∧
      u.get Fld.FLO_PAIRSTAT_P_ROLE = byteAt c.payload 0 % 4 ∧ u.get Fld.FLO_PAIRSTAT_P_STATE = byteAt c.payload 0 / 16 ∧
      u.get Fld.FLO_PAIRSTAT_P_CALV = byteAt c.payload 1 % 16 ∧ u.flag Fld.FLO_PAIRSTAT_P_READY = (byteAt c.payload 1).testBit 4 ∧
      u.flag Fld.FLO_PAIRSTAT_CFG_MATCH = (leAt c.payload 4 4 == (v.word (Reg.SEC_CFG 0)).toNat) ∧
      u.flag Fld.FLO_PAIRSTAT_HB_LOST = false ∧ (v.mayForm = true → byteAt c.payload 0 % 4 = 1 → u.role = 2) ∧
      (v.isCope = true → byteAt c.payload 0 % 4 = 1 → v.flo.handover = none →
        (v.drivesNothing = true → v.higherNode = true → u.role = 2 ∧ u.flag Fld.FLO_PAIRSTAT_ARB_OWN = false) ∧
        (v.drivesNothing = true → v.higherNode = false → u.role = 1 ∧ u.flo.handover = none) ∧
        (v.drivesNothing = false → u.role = 1 ∧ u.flo.handover = some
          { reason := 0, th := v.domTime + 640 * v.get Fld.FLO_PAIR_HO_LEAD, accepted := true, step := 0, giving := v.higherNode })))) ∧
    (v.paired = true → v.flag Fld.FLO_PAIRSTAT_HB_LOST = false →
      (v.passed v.flo.hbAt (200 * v.get Fld.FLO_PAIRT_HB_P * v.get Fld.FLO_PAIRT_HB_MISS) = true → s.does (.hbLost dt) (fun u =>
        u.flag Fld.FLO_PAIRSTAT_HB_LOST = true ∧ u.flag Fld.SYS_FAULT_FLO = true ∧ u.flo.arbBad = 0 ∧
        v.sameBut u [Reg.FLO_PAIRSTAT, Reg.SYS_FAULT])) ∧
      (v.passed v.flo.hbAt (200 * v.get Fld.FLO_PAIRT_HB_P * v.get Fld.FLO_PAIRT_HB_MISS) = false →
        s.leaves (.hbLost dt) (fun u => u = v))) ∧
    (v.paired = true → v.flag Fld.FLO_PAIRSTAT_CFG_MATCH = false →
      (v.passed v.flo.cfgBadAt (1000 * msTicks + 1) = true →
        s.does (.cfgMatchTimeout dt) (fun u => u.flag Fld.SYS_FAULT_FLO = true ∧ v.sameBut u [Reg.SYS_FAULT])) ∧
      (v.passed v.flo.cfgBadAt (1000 * msTicks + 1) = false → s.leaves (.cfgMatchTimeout dt) (fun u => u = v))) ∧
    (∀ above : BitVec 48,
      (v.tclkRuns = false → ∀ b : Bool, s.leaves (.arbLineChange dt ⟨b, above⟩) (fun u => u = v)) ∧
      (v.tclkRuns = true →
        s.does (.arbLineChange dt ⟨false, above⟩) (fun u => u.flag Fld.FLO_PAIRSTAT_ARB_LINE = false ∧ u.flo.arbFreeAt = v.now ∧
          u.flo.freeAbove = above.toNat ∧ v.sameBut u [Reg.FLO_PAIRSTAT]) ∧
        s.does (.arbLineChange dt ⟨true, above⟩) (fun u => u.flag Fld.FLO_PAIRSTAT_ARB_LINE = true ∧
          (v.mayForm = true → u.role = 2 ∧ u.flag Fld.DRV_CTRL_STBY = true) ∧
          (v.mayForm = false → v.sameBut u [Reg.FLO_PAIRSTAT])))) ∧
    s.does (.arbWatchdogExpiry dt) (fun u => u.flag Fld.FLO_PAIRSTAT_ARB_OWN = false ∧ v.sameBut u [Reg.FLO_PAIRSTAT]) ∧
    (v.mayForm = true → v.flag Fld.FLO_PAIRSTAT_ARB_LINE = false →
      (v.passed v.flo.arbFreeAt ((if v.flag Fld.FLO_PAIR_PREF_COPE then 2 else 4) * msTicks) = true → s.does (.copeClaim dt) (fun u =>
        u.role = 1 ∧ u.flag Fld.FLO_PAIRSTAT_ARB_OWN = true ∧ u.flag Fld.DRV_CTRL_STBY = false)) ∧
      (v.passed v.flo.arbFreeAt ((if v.flag Fld.FLO_PAIR_PREF_COPE then 2 else 4) * msTicks) = false →
        s.leaves (.copeClaim dt) (fun u => u = v))) ∧
    (v.mayForm = false ∨ v.flag Fld.FLO_PAIRSTAT_ARB_LINE = true → s.leaves (.copeClaim dt) (fun u => u = v))

/-- Mirroring (R243–R246): what a drag does with each MIRROR cell, a full copy, and a commit whose cell has not come. SLOT and ACTIVE cells write the
descriptors of the cylinder's range, TXN cells open and close its transactions, SHOT cells are kept, CORR, THERM and DEM cells set D, the coil
temperatures and the demand; a commit whose CRC differs sets MIRROR_MISMATCH; SYNC_END completes the mirror when the count is right. -/
def Obligations.Mirroring : Prop :=
  ∀ (s v : State) (dt : Nat), s.advance dt = v →
    (∀ (p : List Byte) (w : State), p ≠ [] →
      (∀ j k n : Nat, j < 3 → 16 * (j + 1) + 4 ≤ p.length → k < 4 → 1 ≤ byteAt p 1 → byteAt p 1 ≤ 24 →
        leAt p 2 2 + j < w.slotCnt (byteAt p 1 - 1) → n = w.slotBase (byteAt p 1 - 1) + leAt p 2 2 + j → n < 2048 →
        (v.takeMirror 1 = some (p, w) → s.does (.mirrorSlot dt) (fun u =>
          u.word (Reg.SCH_SHADOW n k) = BitVec.ofNat 32 (leAt p (4 + 16 * j + 4 * k) 4) ∧
          u.word (Reg.SCH_ACTIVE n k) = w.word (Reg.SCH_ACTIVE n k))) ∧
        (v.takeMirror 0xC = some (p, w) → s.does (.mirrorActive dt) (fun u =>
          u.word (Reg.SCH_ACTIVE n k) = BitVec.ofNat 32 (leAt p (4 + 16 * j + 4 * k) 4) ∧
          u.word (Reg.SCH_SHADOW n k) = w.word (Reg.SCH_SHADOW n k)))) ∧
      (v.takeMirror 2 = some (p, w) →
        (byteAt p 1 = 0 → s.does (.mirrorTxn dt) (fun u => (∀ c, c < 24 → u.txnOpen c = (w.txnOpen c || (leAt p 4 3).testBit c)) ∧
          w.sameBut u [Reg.SCH_TXN])) ∧
        (byteAt p 1 = 1 → s.does (.mirrorTxn dt) (fun u => (∀ c, c < 24 → u.txnOpen c = (w.txnOpen c && !(leAt p 4 3).testBit c)) ∧
          w.sameBut u [Reg.SCH_TXN])) ∧
        (byteAt p 1 = 2 → s.does (.mirrorTxn dt) (fun u => u = w.abortTxns (leAt p 4 3))) ∧
        (2 < byteAt p 1 → s.does (.mirrorTxn dt) (fun u => u = w))) ∧
      (v.takeMirror 3 = some (p, w) →
        ((w.commitsByCell = false ∨ w.schOn = false ∨ byteAt p 1 = 0 ∨ 24 < byteAt p 1) → s.does (.mirrorCommit dt) (fun u => u = w)) ∧
        (∀ c : Fin 24, w.commitsByCell = true → w.schOn = true → byteAt p 1 = c.val + 1 → s.does (.mirrorCommit dt) (fun u =>
          ∃ y : State, (y = w ∨ ∃ z, y = w.putLatchWait c z) ∧
            let z := y.commitCyl ((byteAt p 2).testBit 0) c
            ((z.activeCrc c).toNat = leAt p 8 4 → u = z.checkRamp) ∧
            ((z.activeCrc c).toNat ≠ leAt p 8 4 → ∃ x : State, u = x.checkRamp ∧ x.flag Fld.FLO_PAIRSTAT_MIRROR_MISMATCH = true ∧
              x.flag Fld.FLO_PAIRSTAT_MIRROR_SYNC = false ∧ x.flo.copyCount = 0)))) ∧
      (v.takeMirror 4 = some (p, w) → ∀ n : Fin 48, byteAt p 1 = n.val → s.does (.mirrorShot dt) (fun u => u.regs = w.regs ∧
        (byteAt p 4 < 16 → u.shotCellOf n = none) ∧
        (16 ≤ byteAt p 4 → ∃ c, u.shotCellOf n = some c ∧ c.slot = leAt p 2 2 ∧ c.profile = byteAt p 4 % 16 ∧ c.phase = byteAt p 4 / 16 ∧
          c.outcome = byteAt p 5 % 16 ∧ c.batt = (byteAt p 5).testBit 4 ∧ c.timeEnd = (byteAt p 5).testBit 5 ∧ c.sp = leAt p 6 2 ∧
          c.tStart = leAt p 8 8 ∧ c.tPhase = leAt p 16 8 ∧ c.endVal = leAt p 24 4))) ∧
      (v.takeMirror 5 = some (p, w) → ∀ n : Fin 48, byteAt p 1 = n.val → s.does (.mirrorCorr dt) (fun u =>
        u.get (Fld.WIT_CH_CORR_D n) = leAt p 2 2 ∧ w.sameBut u [Reg.WIT_CH_CORR n])) ∧
      (v.takeMirror 6 = some (p, w) → s.does (.mirrorTherm dt) (fun u => ∀ (n : Fin 48) (k : Nat), k < 6 → n.val = byteAt p 1 + k →
        (u.chan n).tw = toSigned 16 (leAt p (4 + 4 * k) 2) * 100000000 ∧ (u.chan n).tb = toSigned 16 (leAt p (6 + 4 * k) 2) * 100000000)) ∧
      (v.takeMirror 7 = some (p, w) → s.does (.mirrorDem dt) (fun u => u.word Reg.SCH_DEM0 = BitVec.ofNat 32 (leAt p 4 4) ∧
        u.word Reg.SCH_DEM1 = BitVec.ofNat 32 (leAt p 8 4) ∧ u.word Reg.SCH_DEM2 = BitVec.ofNat 32 (leAt p 12 4) ∧
        u.word Reg.SCH_DEM3 = BitVec.ofNat 32 (leAt p 16 4) ∧ u.sch.govI = toSigned 32 (leAt p 20 4) ∧
        w.sameBut u [Reg.SCH_DEM0, Reg.SCH_DEM1, Reg.SCH_DEM2, Reg.SCH_DEM3])) ∧
      (v.takeMirror 0xD = some (p, w) → s.does (.syncEnd dt) (fun u =>
        (leAt p 4 4 = w.flo.copyCount → u.flag Fld.FLO_PAIRSTAT_MIRROR_SYNC = true ∧ w.sameBut u [Reg.FLO_PAIRSTAT]) ∧
        (leAt p 4 4 ≠ w.flo.copyCount → u.flag Fld.FLO_PAIRSTAT_MIRROR_SYNC = false ∧ u.flo.copyCount = 0)))) ∧
    (v.isCope = true → v.floeOn = true → v.passed v.flo.thermAt (100 * msTicks) = true → s.does (.thermMirrorSend dt) (fun u =>
      u.flo.thermAt = v.now ∧ spGet (fun _ => 0) u.flo.seqOut 2 = (spGet (fun _ => 0) v.flo.seqOut 2 + 8) % 65536)) ∧
    (∀ (c : Cell) (w : State), v.takeCell 2 (fun c => byteAt c.payload 0 == 0xB) = some (c, w) →
      (w.isCope = false → s.leaves (.syncReq dt) (fun u => u = w)) ∧
      (w.isCope = true → s.does (.syncReq dt) (fun u => ∃ k, k ≤ 24 ∧ u.flo.copyQ = (w.copyCells ++ [[0xD]]).drop k ∧
        u.flo.copySent = Nat.min k w.copyCells.length))) ∧
    ∀ (c : Fin 24) (t : Nat), spGet (fun _ => none) v.flo.latchWait c = some (t + 1) → v.isDrag = true →
      (v.passed t (usTicks * Nat.max 1 (v.get Fld.FLO_PAIRT_CMT_WAIT)) = true → s.does (.cmtWaitExpiry dt c) (fun u => ∃ w : State,
        u = (w.commitCyl false c).checkRamp ∧ w.flag Fld.FLO_PAIRSTAT_COMMIT_LOCAL = true ∧
        spGet (fun _ => none) w.flo.latchWait c = none ∧ v.sameBut w [Reg.FLO_PAIRSTAT])) ∧
      (v.passed t (usTicks * Nat.max 1 (v.get Fld.FLO_PAIRT_CMT_WAIT)) = false → s.leaves (.cmtWaitExpiry dt c) (fun u => u = v))

/-- Planned handovers (R248–R250, R254). A drag answers a request with a refusal code or accepts it; an acceptance before T_H commits the cope, a refusal
or none by T_H ends the request with the drive kept, which SAFE then quenches. At T_H − 0.1 µs both hold, at T_H the drag asserts ARB, at
T_H + HO_OVL the cope releases it and becomes drag, and 0.2 µs later the new cope regulates; each counts the handover. -/
def Obligations.Handovers : Prop :=
  ∀ (s v : State) (dt : Nat), s.advance dt = v →
    (∀ (p : List Byte) (w : State), v.takeMirror 8 = some (p, w) → p ≠ [] →
      (∀ k : Nat, k = w.judgeRequest (leAt p 8 8) → k ≠ 0 → s.does (.hoReq dt) (fun u => u = w.mirror [0xA, BitVec.ofNat 8 k] ∧
        (w.now < w.flo.holdoffUntil → k = 3) ∧ (w.flo.holdoffUntil ≤ w.now → w.takeReady = false → k = 1) ∧
        (w.flo.holdoffUntil ≤ w.now → w.takeReady = true → leAt p 8 8 < w.domTime + 1280 ∧ k = 2) ∧ u.flo.handover = w.flo.handover)) ∧
      (w.judgeRequest (leAt p 8 8) = 0 → s.does (.hoReq dt) (fun u => u.flo.handover =
        some { reason := byteAt p 1, th := leAt p 8 8, accepted := true, step := 0, giving := false }))) ∧
    (∀ (c : Cell) (w : State), v.takeCell 2 (fun c => byteAt c.payload 0 == 9) = some (c, w) →
      (w.openRequest = none → s.leaves (.hoAcc dt) (fun u => u = w)) ∧
      ∀ h : Handover, w.openRequest = some h →
        (h.th = leAt c.payload 8 8 → w.domTime < h.th → s.does (.hoAcc dt) (fun u => u.flo.handover = some { h with accepted := true } ∧
          u.regs = w.regs)) ∧
        (h.th ≠ leAt c.payload 8 8 ∨ h.th ≤ w.domTime → s.leaves (.hoAcc dt) (fun u => u = w))) ∧
    (∀ (c : Cell) (w : State), v.takeCell 2 (fun c => byteAt c.payload 0 == 0xA) = some (c, w) →
      (w.openRequest = none → s.leaves (.hoRef dt) (fun u => u = w)) ∧
      (w.openRequest ≠ none → s.does (.hoRef dt) (fun u => ∃ y : State, u = (if w.st = 8 then y.quench else y).c6Goes ∧
        y.flo.handover = none ∧ y.get Fld.FLO_HOLAST_REF = byteAt c.payload 1 % 2 ^ Fld.FLO_HOLAST_REF.w ∧
        y.get Fld.FLO_PAIR_CNT_REFUSED = (w.get Fld.FLO_PAIR_CNT_REFUSED + 1) % 2 ^ Fld.FLO_PAIR_CNT_REFUSED.w ∧
        w.sameBut y [Reg.FLO_HOLAST, Reg.FLO_PAIR_CNT]))) ∧
    (v.openRequest = none → s.leaves (.handoverNotAccepted dt) (fun u => u = v)) ∧
    (∀ h : Handover, v.openRequest = some h →
      (h.th ≤ v.domTime → s.does (.handoverNotAccepted dt) (fun u => ∃ y : State, u = (if v.st = 8 then y.quench else y).c6Goes ∧
        y.flo.handover = none ∧
        y.get Fld.FLO_PAIR_CNT_REFUSED = (v.get Fld.FLO_PAIR_CNT_REFUSED + 1) % 2 ^ Fld.FLO_PAIR_CNT_REFUSED.w ∧
        v.sameBut y [Reg.FLO_PAIR_CNT])) ∧
      (v.domTime < h.th → s.leaves (.handoverNotAccepted dt) (fun u => u = v))) ∧
    (∀ (h : Handover) (above : BitVec 48),
      (v.handoverAt true 0 (-640) = some h → s.does (.handoverHold ⟨dt, above⟩) (fun u => u.flo.handover = some { h with step := 1 } ∧
        (∀ n : Fin 48, v.phase n ≠ 0 → (u.chan n).held = true) ∧ u.regs = v.regs)) ∧
      (v.handoverAt false 0 (-640) = some h →
        (v.isCope = true → s.does (.handoverHold ⟨dt, above⟩) (fun u => u.flo.handover = some { h with step := 1 } ∧
          (∀ n : Fin 48, v.phase n ≠ 0 → (u.chan n).held = true) ∧ u.regs = v.regs)) ∧
        (v.isCope = false → s.does (.handoverHold ⟨dt, above⟩) (fun u => ∃ y : State,
          u = y.continueAll true ⟨y.drivenNow, some above.toNat⟩ ∧ y = (v.handoverStep h 1).writeStby false ∧
          u.flo.handover = some { h with step := 1 } ∧ u.flo.shotCells = [])))) ∧
    (∀ h : Handover, v.handoverAt false 1 0 = some h → s.does (.handoverAssert dt) (fun u => u.flo.handover = some { h with step := 2 } ∧
      u.flag Fld.FLO_PAIRSTAT_ARB_OWN = true ∧ v.sameBut u [Reg.FLO_PAIRSTAT])) ∧
    (v.handoverAt false 1 0 = none → s.leaves (.handoverAssert dt) (fun u => u = v)) ∧
    (∀ h : Handover, v.handoverAt true 1 v.overlap = some h → s.does (.handoverRelease dt) (fun u => ∃ y : State, u = y.c6Goes ∧
      y.flo.handover = none ∧ y.role = 2 ∧ y.flag Fld.FLO_PAIRSTAT_ARB_OWN = false ∧ y.flag Fld.DRV_CTRL_STBY = true ∧
      y.get Fld.FLO_PAIR_CNT_HANDOVERS = (v.get Fld.FLO_PAIR_CNT_HANDOVERS + 1) % 2 ^ Fld.FLO_PAIR_CNT_HANDOVERS.w ∧
      (h.reason ≠ 0 → y.get Fld.FLO_HOLAST_REASON = h.reason % 2 ^ Fld.FLO_HOLAST_REASON.w) ∧
      (1 ≤ h.reason → h.reason ≤ 5 → y.flo.holdoffUntil = v.now + 100 * msTicks * v.get Fld.FLO_PAIR_CNT_HOLDOFF))) ∧
    (v.handoverAt true 1 v.overlap = none → s.leaves (.handoverRelease dt) (fun u => u = v)) ∧
    (∀ h : Handover, v.handoverAt false 2 (v.overlap + 1280) = some h → s.does (.handoverRegulate dt) (fun u => u.flo.handover = none ∧
      u.role = 1 ∧ (∀ n : Fin 48, (u.chan n).held = false) ∧
      u.get Fld.FLO_PAIR_CNT_HANDOVERS = (v.get Fld.FLO_PAIR_CNT_HANDOVERS + 1) % 2 ^ Fld.FLO_PAIR_CNT_HANDOVERS.w)) ∧
    (v.handoverAt false 2 (v.overlap + 1280) = none → s.leaves (.handoverRegulate dt) (fun u => u = v)) ∧
    (v.flo.holdoffUntil ≤ v.now → s.leaves (.holdoffExpiry dt) (fun u => u.flo.holdoffUntil = 0 ∧ u.regs = v.regs)) ∧
    (v.now < v.flo.holdoffUntil → s.leaves (.holdoffExpiry dt) (fun u => u = v))

/-- Voters and packets in cells (R259–R262, R280, R281). A voter broadcasts every VOTE_P; one that is heard in its own slot is reached, and one not heard
for three periods is not; settings of a higher epoch are taken over, at once while the tracker is stopped, else they wait, and a voter of a
lower epoch is sent this node's (the ROUTE cell's layout is free, log entry 27). The segments of a packet join by SRC and TAG; a whole packet is
received on port 4, a reply ends the FORWARD job it answers or is dropped, and one that waits 10 ms for its next segment is dropped. While COM
does not run, none of these cells is handled. -/
def Obligations.VotersAndPackets : Prop :=
  ∀ (s v : State) (dt : Nat), s.advance dt = v →
    (v.floeOn = true → v.comRuns = true → v.flag Fld.FLO_SYS_VOTER = true → v.passed v.flo.voteSentAt v.votePeriod = true →
      s.does (.voteSend dt) (fun u =>
        u.flo.voteSentAt = v.now ∧ spGet (fun _ => 0) u.flo.seqOut 7 = (spGet (fun _ => 0) v.flo.seqOut 7 + 1) % 65536)) ∧
    (v.floeOn = false ∨ v.comRuns = false ∨ v.flag Fld.FLO_SYS_VOTER = false ∨ v.passed v.flo.voteSentAt v.votePeriod = false →
      s.leaves (.voteSend dt) (fun u => u = v)) ∧
    (v.comRuns = false → s.leaves (.voteCellRx dt) (fun u => u = v) ∧ s.leaves (.routeCellRx dt) (fun u => u = v) ∧
      s.leaves (.cmdCellRx dt) (fun u => u = v) ∧ s.leaves (.logCellRx dt) (fun u => u = v)) ∧
    (∀ (c : Cell) (w : State) (k : Nat), v.comRuns = true → v.takeCell 7 (fun _ => true) = some (c, w) → k = byteAt c.payload 0 % 16 →
      (k < v.get Fld.FLO_SYS_NVOTER → v.voterId k = c.src → s.does (.voteCellRx dt) (fun u =>
        spGet (fun _ => none) u.flo.voteAt k = some v.now ∧ spGet (fun _ => 0) u.flo.voteEpoch k = leAt c.payload 4 4 ∧
        u.flo.voteAuth.testBit k = (byteAt c.payload 0).testBit 4 ∧ (v.flo.adopt = [] → u.bit Fld.FLO_REACH_REACH k = true))) ∧
      ((v.get Fld.FLO_SYS_NVOTER ≤ k ∨ v.voterId k ≠ c.src) → s.leaves (.voteCellRx dt) (fun u => u = w))) ∧
    (∀ (k : Fin 16) (t : Nat), spGet (fun _ => none) v.flo.voteAt k = some t →
      (v.passed t (3 * v.votePeriod) = true → s.does (.voterReachTimeout dt k) (fun u => spGet (fun _ => none) u.flo.voteAt k = none ∧
        (v.flo.adopt = [] → (v.flag Fld.FLO_SYS_VOTER = false ∨ v.get Fld.FLO_SYS_VSLOT ≠ k.val) → u.bit Fld.FLO_REACH_REACH k = false))) ∧
      (v.passed t (3 * v.votePeriod) = false → s.leaves (.voterReachTimeout dt k) (fun u => u = v))) ∧
    (∀ (c : Cell) (w : State), v.comRuns = true → v.takeCell 6 (fun _ => true) = some (c, w) →
      (w.flag Fld.FLO_SYSSTAT_AUTHORITY = false → s.leaves (.routeCellRx dt) (fun u => u = w)) ∧
      (w.flag Fld.FLO_SYSSTAT_AUTHORITY = true →
        (∀ e : Nat, w.reportedEpoch c.src = some e → e < (w.word Reg.FLO_EPOCH).toNat → s.does (.routeCellRx dt) (fun u =>
          u = w.routeCellTo c.src)) ∧
        ((∀ e : Nat, w.reportedEpoch c.src = some e → (w.word Reg.FLO_EPOCH).toNat ≤ e) →
          ((∀ e : Nat, w.epochOf c.src = some e → e ≤ (w.word Reg.FLO_EPOCH).toNat) → s.leaves (.routeCellRx dt) (fun u => u = w)) ∧
          ∀ e : Nat, w.epochOf c.src = some e → e < 2 ^ 32 → (w.word Reg.FLO_EPOCH).toNat < e →
            ((w.stopped = true ∨ w.flag Fld.FLO_SYSSTAT_ADOPT_PEND = false) → w.flo.adopt = [] →
              w.flag Fld.FLO_SYSSTAT_MINORITY = false → s.does (.routeCellRx dt) (fun u =>
                u.flo.adopt = [] ∧ u.word Reg.FLO_EPOCH = BitVec.ofNat 32 e ∧ u.flag Fld.FLO_SYSSTAT_ADOPT_PEND = false ∧
                (∀ a, (a < Reg.FLO_RT 0 ∨ Reg.FLO_RT 255 < a) → (a < Reg.FLO_MC 0 ∨ Reg.FLO_MC 63 < a) →
                  a ∉ [Reg.FLO_LTRIM, Reg.FLO_EPOCH, Reg.FLO_SYSSTAT] → u.word a = w.word a))) ∧
            (w.stopped = false → w.flag Fld.FLO_SYSSTAT_ADOPT_PEND = true → s.does (.routeCellRx dt) (fun u => u.flo.adoptEpoch = e ∧
              (∃ x, u.flo.adopt = w.flo.adopt ++ [x]) ∧ u.regs = w.regs))))) ∧
    (∀ (c : Cell) (w : State) (b : List Byte), v.comRuns = true → w.flo.reasm = [] → byteAt c.payload 0 = 0 → b = c.payload.drop 4 →
      (v.takeCell 4 (fun _ => true) = some (c, w) →
        ((byteAt c.payload 1).testBit 0 = false → s.does (.cmdCellRx dt) (fun u => u.regs = w.regs ∧
          u.flo.reasm = [{ src := c.src, tag := leAt c.payload 2 2, log := c.typ == 5, next := 1, bytes := b, since := v.now }])) ∧
        ((byteAt c.payload 1).testBit 0 = true →
          (isReply b = false → s.does (.cmdCellRx dt) (fun u => u = w.receivePacket 4 (leBytes 2 c.src) b)) ∧
          (isReply b = true → w.forwardJob c.src b = none → s.does (.cmdCellRx dt) (fun u => u = w.dropPacket)) ∧
          (∀ j : Job, isReply b = true → w.forwardJob c.src b = some j →
            (w.jobMayEnd j = true → s.does (.cmdCellRx dt) (fun u => u = w.endJob j stOk b ∧
              (∀ k, k ∈ u.hst.jobs → k.id ≠ j.id) ∧ spGet (fun _ => 0) u.hst.ended j.id = 1)) ∧
            (w.jobMayEnd j = false → s.leaves (.cmdCellRx dt) (fun u => u = v))))) ∧
      (v.takeCell 5 (fun _ => true) = some (c, w) →
        ((byteAt c.payload 1).testBit 0 = false → s.does (.logCellRx dt) (fun u => u.regs = w.regs ∧
          u.flo.reasm = [{ src := c.src, tag := leAt c.payload 2 2, log := c.typ == 5, next := 1, bytes := b, since := v.now }])) ∧
        ((byteAt c.payload 1).testBit 0 = true →
          ((isReply b = false ∨ w.forwardJob c.src b = none) → s.does (.logCellRx dt) (fun u => u = w)) ∧
          ∀ j : Job, isReply b = true → w.forwardJob c.src b = some j →
            (w.jobMayEnd j = true → s.does (.logCellRx dt) (fun u => u = w.endJob j stOk b)) ∧
            (w.jobMayEnd j = false → s.leaves (.logCellRx dt) (fun u => u = v))))) ∧
    ((∀ r, r ∈ v.flo.reasm → v.passed r.since (10 * msTicks) = false) → s.leaves (.floeReasmTimeout dt) (fun u => u = v)) ∧
    ∀ r, r ∈ v.flo.reasm → v.passed r.since (10 * msTicks) = true → s.does (.floeReasmTimeout dt) (fun u =>
      u.flo.reasm = v.flo.reasm.filter (fun x => !v.passed x.since (10 * msTicks)) ∧ v.sameBut u [])
end

