-- ==== Sys2Proof/Laws/State.lean ====
section
/-! SUPPORT. What each named update of the state leaves alone, and what it writes: one lemma per field and update. -/

namespace Sys2Proof.Machine

variable (s : State)

-- setWord
@[simp] theorem State.setWord_pending (a : Nat) (v : Word) : (s.setWord a v).pending = s.pending := rfl
@[simp] theorem State.setWord_now (a : Nat) (v : Word) : (s.setWord a v).now = s.now := rfl
@[simp] theorem State.setWord_tclk (a : Nat) (v : Word) : (s.setWord a v).tclk = s.tclk := rfl
@[simp] theorem State.setWord_free (a : Nat) (v : Word) : (s.setWord a v).free = s.free := rfl
@[simp] theorem State.setWord_mem (a : Nat) (v : Word) : (s.setWord a v).mem = s.mem := rfl
@[simp] theorem State.setWord_fresh (a : Nat) (v : Word) : (s.setWord a v).fresh = s.fresh := rfl
@[simp] theorem State.setWord_bus (a : Nat) (v : Word) : (s.setWord a v).bus = s.bus := rfl
@[simp] theorem State.setWord_sys (a : Nat) (v : Word) : (s.setWord a v).sys = s.sys := rfl
@[simp] theorem State.setWord_pwr (a : Nat) (v : Word) : (s.setWord a v).pwr = s.pwr := rfl
@[simp] theorem State.setWord_clk (a : Nat) (v : Word) : (s.setWord a v).clk = s.clk := rfl
@[simp] theorem State.setWord_irqs (a : Nat) (v : Word) : (s.setWord a v).irqs = s.irqs := rfl
@[simp] theorem State.setWord_dmaHeld (a : Nat) (v : Word) : (s.setWord a v).dmaHeld = s.dmaHeld := rfl
@[simp] theorem State.setWord_dmas (a : Nat) (v : Word) : (s.setWord a v).dmas = s.dmas := rfl
@[simp] theorem State.setWord_tims (a : Nat) (v : Word) : (s.setWord a v).tims = s.tims := rfl
@[simp] theorem State.setWord_pats (a : Nat) (v : Word) : (s.setWord a v).pats = s.pats := rfl
@[simp] theorem State.setWord_patPins (a : Nat) (v : Word) : (s.setWord a v).patPins = s.patPins := rfl
@[simp] theorem State.setWord_whls (a : Nat) (v : Word) : (s.setWord a v).whls = s.whls := rfl
@[simp] theorem State.setWord_sim (a : Nat) (v : Word) : (s.setWord a v).sim = s.sim := rfl
@[simp] theorem State.setWord_trks (a : Nat) (v : Word) : (s.setWord a v).trks = s.trks := rfl
@[simp] theorem State.setWord_trkBefore (a : Nat) (v : Word) : (s.setWord a v).trkBefore = s.trkBefore := rfl
@[simp] theorem State.setWord_voter (a : Nat) (v : Word) : (s.setWord a v).voter = s.voter := rfl
@[simp] theorem State.setWord_sch (a : Nat) (v : Word) : (s.setWord a v).sch = s.sch := rfl
@[simp] theorem State.setWord_adcs (a : Nat) (v : Word) : (s.setWord a v).adcs = s.adcs := rfl
@[simp] theorem State.setWord_chans (a : Nat) (v : Word) : (s.setWord a v).chans = s.chans := rfl
@[simp] theorem State.setWord_banks (a : Nat) (v : Word) : (s.setWord a v).banks = s.banks := rfl
@[simp] theorem State.setWord_drv (a : Nat) (v : Word) : (s.setWord a v).drv = s.drv := rfl
@[simp] theorem State.setWord_shotMirror (a : Nat) (v : Word) : (s.setWord a v).shotMirror = s.shotMirror := rfl
@[simp] theorem State.setWord_wit (a : Nat) (v : Word) : (s.setWord a v).wit = s.wit := rfl
@[simp] theorem State.setWord_flo (a : Nat) (v : Word) : (s.setWord a v).flo = s.flo := rfl
@[simp] theorem State.setWord_hst (a : Nat) (v : Word) : (s.setWord a v).hst = s.hst := rfl
@[simp] theorem State.setWord_sec (a : Nat) (v : Word) : (s.setWord a v).sec = s.sec := rfl
@[simp] theorem State.setWord_cal (a : Nat) (v : Word) : (s.setWord a v).cal = s.cal := rfl
@[simp] theorem State.setWord_tst (a : Nat) (v : Word) : (s.setWord a v).tst = s.tst := rfl

-- setByte
@[simp] theorem State.setByte_pending (a : Nat) (v : Byte) : (s.setByte a v).pending = s.pending := rfl
@[simp] theorem State.setByte_now (a : Nat) (v : Byte) : (s.setByte a v).now = s.now := rfl
@[simp] theorem State.setByte_tclk (a : Nat) (v : Byte) : (s.setByte a v).tclk = s.tclk := rfl
@[simp] theorem State.setByte_free (a : Nat) (v : Byte) : (s.setByte a v).free = s.free := rfl
@[simp] theorem State.setByte_regs (a : Nat) (v : Byte) : (s.setByte a v).regs = s.regs := rfl
@[simp] theorem State.setByte_fresh (a : Nat) (v : Byte) : (s.setByte a v).fresh = s.fresh := rfl
@[simp] theorem State.setByte_bus (a : Nat) (v : Byte) : (s.setByte a v).bus = s.bus := rfl
@[simp] theorem State.setByte_sys (a : Nat) (v : Byte) : (s.setByte a v).sys = s.sys := rfl
@[simp] theorem State.setByte_pwr (a : Nat) (v : Byte) : (s.setByte a v).pwr = s.pwr := rfl
@[simp] theorem State.setByte_clk (a : Nat) (v : Byte) : (s.setByte a v).clk = s.clk := rfl
@[simp] theorem State.setByte_irqs (a : Nat) (v : Byte) : (s.setByte a v).irqs = s.irqs := rfl
@[simp] theorem State.setByte_dmaHeld (a : Nat) (v : Byte) : (s.setByte a v).dmaHeld = s.dmaHeld := rfl
@[simp] theorem State.setByte_dmas (a : Nat) (v : Byte) : (s.setByte a v).dmas = s.dmas := rfl
@[simp] theorem State.setByte_tims (a : Nat) (v : Byte) : (s.setByte a v).tims = s.tims := rfl
@[simp] theorem State.setByte_pats (a : Nat) (v : Byte) : (s.setByte a v).pats = s.pats := rfl
@[simp] theorem State.setByte_patPins (a : Nat) (v : Byte) : (s.setByte a v).patPins = s.patPins := rfl
@[simp] theorem State.setByte_whls (a : Nat) (v : Byte) : (s.setByte a v).whls = s.whls := rfl
@[simp] theorem State.setByte_sim (a : Nat) (v : Byte) : (s.setByte a v).sim = s.sim := rfl
@[simp] theorem State.setByte_trks (a : Nat) (v : Byte) : (s.setByte a v).trks = s.trks := rfl
@[simp] theorem State.setByte_trkBefore (a : Nat) (v : Byte) : (s.setByte a v).trkBefore = s.trkBefore := rfl
@[simp] theorem State.setByte_voter (a : Nat) (v : Byte) : (s.setByte a v).voter = s.voter := rfl
@[simp] theorem State.setByte_sch (a : Nat) (v : Byte) : (s.setByte a v).sch = s.sch := rfl
@[simp] theorem State.setByte_adcs (a : Nat) (v : Byte) : (s.setByte a v).adcs = s.adcs := rfl
@[simp] theorem State.setByte_chans (a : Nat) (v : Byte) : (s.setByte a v).chans = s.chans := rfl
@[simp] theorem State.setByte_banks (a : Nat) (v : Byte) : (s.setByte a v).banks = s.banks := rfl
@[simp] theorem State.setByte_drv (a : Nat) (v : Byte) : (s.setByte a v).drv = s.drv := rfl
@[simp] theorem State.setByte_shotMirror (a : Nat) (v : Byte) : (s.setByte a v).shotMirror = s.shotMirror := rfl
@[simp] theorem State.setByte_wit (a : Nat) (v : Byte) : (s.setByte a v).wit = s.wit := rfl
@[simp] theorem State.setByte_flo (a : Nat) (v : Byte) : (s.setByte a v).flo = s.flo := rfl
@[simp] theorem State.setByte_hst (a : Nat) (v : Byte) : (s.setByte a v).hst = s.hst := rfl
@[simp] theorem State.setByte_sec (a : Nat) (v : Byte) : (s.setByte a v).sec = s.sec := rfl
@[simp] theorem State.setByte_cal (a : Nat) (v : Byte) : (s.setByte a v).cal = s.cal := rfl
@[simp] theorem State.setByte_tst (a : Nat) (v : Byte) : (s.setByte a v).tst = s.tst := rfl

-- withSys
@[simp] theorem State.withSys_pending (x : SysState) : (s.withSys x).pending = s.pending := rfl
@[simp] theorem State.withSys_now (x : SysState) : (s.withSys x).now = s.now := rfl
@[simp] theorem State.withSys_tclk (x : SysState) : (s.withSys x).tclk = s.tclk := rfl
@[simp] theorem State.withSys_free (x : SysState) : (s.withSys x).free = s.free := rfl
@[simp] theorem State.withSys_regs (x : SysState) : (s.withSys x).regs = s.regs := rfl
@[simp] theorem State.withSys_mem (x : SysState) : (s.withSys x).mem = s.mem := rfl
@[simp] theorem State.withSys_fresh (x : SysState) : (s.withSys x).fresh = s.fresh := rfl
@[simp] theorem State.withSys_bus (x : SysState) : (s.withSys x).bus = s.bus := rfl
@[simp] theorem State.withSys_sys (x : SysState) : (s.withSys x).sys = x := rfl
@[simp] theorem State.withSys_pwr (x : SysState) : (s.withSys x).pwr = s.pwr := rfl
@[simp] theorem State.withSys_clk (x : SysState) : (s.withSys x).clk = s.clk := rfl
@[simp] theorem State.withSys_irqs (x : SysState) : (s.withSys x).irqs = s.irqs := rfl
@[simp] theorem State.withSys_dmaHeld (x : SysState) : (s.withSys x).dmaHeld = s.dmaHeld := rfl
@[simp] theorem State.withSys_dmas (x : SysState) : (s.withSys x).dmas = s.dmas := rfl
@[simp] theorem State.withSys_tims (x : SysState) : (s.withSys x).tims = s.tims := rfl
@[simp] theorem State.withSys_pats (x : SysState) : (s.withSys x).pats = s.pats := rfl
@[simp] theorem State.withSys_patPins (x : SysState) : (s.withSys x).patPins = s.patPins := rfl
@[simp] theorem State.withSys_whls (x : SysState) : (s.withSys x).whls = s.whls := rfl
@[simp] theorem State.withSys_sim (x : SysState) : (s.withSys x).sim = s.sim := rfl
@[simp] theorem State.withSys_trks (x : SysState) : (s.withSys x).trks = s.trks := rfl
@[simp] theorem State.withSys_trkBefore (x : SysState) : (s.withSys x).trkBefore = s.trkBefore := rfl
@[simp] theorem State.withSys_voter (x : SysState) : (s.withSys x).voter = s.voter := rfl
@[simp] theorem State.withSys_sch (x : SysState) : (s.withSys x).sch = s.sch := rfl
@[simp] theorem State.withSys_adcs (x : SysState) : (s.withSys x).adcs = s.adcs := rfl
@[simp] theorem State.withSys_chans (x : SysState) : (s.withSys x).chans = s.chans := rfl
@[simp] theorem State.withSys_banks (x : SysState) : (s.withSys x).banks = s.banks := rfl
@[simp] theorem State.withSys_drv (x : SysState) : (s.withSys x).drv = s.drv := rfl
@[simp] theorem State.withSys_shotMirror (x : SysState) : (s.withSys x).shotMirror = s.shotMirror := rfl
@[simp] theorem State.withSys_wit (x : SysState) : (s.withSys x).wit = s.wit := rfl
@[simp] theorem State.withSys_flo (x : SysState) : (s.withSys x).flo = s.flo := rfl
@[simp] theorem State.withSys_hst (x : SysState) : (s.withSys x).hst = s.hst := rfl
@[simp] theorem State.withSys_sec (x : SysState) : (s.withSys x).sec = s.sec := rfl
@[simp] theorem State.withSys_cal (x : SysState) : (s.withSys x).cal = s.cal := rfl
@[simp] theorem State.withSys_tst (x : SysState) : (s.withSys x).tst = s.tst := rfl

-- withPwr
@[simp] theorem State.withPwr_pending (x : PwrState) : (s.withPwr x).pending = s.pending := rfl
@[simp] theorem State.withPwr_now (x : PwrState) : (s.withPwr x).now = s.now := rfl
@[simp] theorem State.withPwr_tclk (x : PwrState) : (s.withPwr x).tclk = s.tclk := rfl
@[simp] theorem State.withPwr_free (x : PwrState) : (s.withPwr x).free = s.free := rfl
@[simp] theorem State.withPwr_regs (x : PwrState) : (s.withPwr x).regs = s.regs := rfl
@[simp] theorem State.withPwr_mem (x : PwrState) : (s.withPwr x).mem = s.mem := rfl
@[simp] theorem State.withPwr_fresh (x : PwrState) : (s.withPwr x).fresh = s.fresh := rfl
@[simp] theorem State.withPwr_bus (x : PwrState) : (s.withPwr x).bus = s.bus := rfl
@[simp] theorem State.withPwr_sys (x : PwrState) : (s.withPwr x).sys = s.sys := rfl
@[simp] theorem State.withPwr_pwr (x : PwrState) : (s.withPwr x).pwr = x := rfl
@[simp] theorem State.withPwr_clk (x : PwrState) : (s.withPwr x).clk = s.clk := rfl
@[simp] theorem State.withPwr_irqs (x : PwrState) : (s.withPwr x).irqs = s.irqs := rfl
@[simp] theorem State.withPwr_dmaHeld (x : PwrState) : (s.withPwr x).dmaHeld = s.dmaHeld := rfl
@[simp] theorem State.withPwr_dmas (x : PwrState) : (s.withPwr x).dmas = s.dmas := rfl
@[simp] theorem State.withPwr_tims (x : PwrState) : (s.withPwr x).tims = s.tims := rfl
@[simp] theorem State.withPwr_pats (x : PwrState) : (s.withPwr x).pats = s.pats := rfl
@[simp] theorem State.withPwr_patPins (x : PwrState) : (s.withPwr x).patPins = s.patPins := rfl
@[simp] theorem State.withPwr_whls (x : PwrState) : (s.withPwr x).whls = s.whls := rfl
@[simp] theorem State.withPwr_sim (x : PwrState) : (s.withPwr x).sim = s.sim := rfl
@[simp] theorem State.withPwr_trks (x : PwrState) : (s.withPwr x).trks = s.trks := rfl
@[simp] theorem State.withPwr_trkBefore (x : PwrState) : (s.withPwr x).trkBefore = s.trkBefore := rfl
@[simp] theorem State.withPwr_voter (x : PwrState) : (s.withPwr x).voter = s.voter := rfl
@[simp] theorem State.withPwr_sch (x : PwrState) : (s.withPwr x).sch = s.sch := rfl
@[simp] theorem State.withPwr_adcs (x : PwrState) : (s.withPwr x).adcs = s.adcs := rfl
@[simp] theorem State.withPwr_chans (x : PwrState) : (s.withPwr x).chans = s.chans := rfl
@[simp] theorem State.withPwr_banks (x : PwrState) : (s.withPwr x).banks = s.banks := rfl
@[simp] theorem State.withPwr_drv (x : PwrState) : (s.withPwr x).drv = s.drv := rfl
@[simp] theorem State.withPwr_shotMirror (x : PwrState) : (s.withPwr x).shotMirror = s.shotMirror := rfl
@[simp] theorem State.withPwr_wit (x : PwrState) : (s.withPwr x).wit = s.wit := rfl
@[simp] theorem State.withPwr_flo (x : PwrState) : (s.withPwr x).flo = s.flo := rfl
@[simp] theorem State.withPwr_hst (x : PwrState) : (s.withPwr x).hst = s.hst := rfl
@[simp] theorem State.withPwr_sec (x : PwrState) : (s.withPwr x).sec = s.sec := rfl
@[simp] theorem State.withPwr_cal (x : PwrState) : (s.withPwr x).cal = s.cal := rfl
@[simp] theorem State.withPwr_tst (x : PwrState) : (s.withPwr x).tst = s.tst := rfl

-- withClk
@[simp] theorem State.withClk_pending (x : ClkState) : (s.withClk x).pending = s.pending := rfl
@[simp] theorem State.withClk_now (x : ClkState) : (s.withClk x).now = s.now := rfl
@[simp] theorem State.withClk_tclk (x : ClkState) : (s.withClk x).tclk = s.tclk := rfl
@[simp] theorem State.withClk_free (x : ClkState) : (s.withClk x).free = s.free := rfl
@[simp] theorem State.withClk_regs (x : ClkState) : (s.withClk x).regs = s.regs := rfl
@[simp] theorem State.withClk_mem (x : ClkState) : (s.withClk x).mem = s.mem := rfl
@[simp] theorem State.withClk_fresh (x : ClkState) : (s.withClk x).fresh = s.fresh := rfl
@[simp] theorem State.withClk_bus (x : ClkState) : (s.withClk x).bus = s.bus := rfl
@[simp] theorem State.withClk_sys (x : ClkState) : (s.withClk x).sys = s.sys := rfl
@[simp] theorem State.withClk_pwr (x : ClkState) : (s.withClk x).pwr = s.pwr := rfl
@[simp] theorem State.withClk_clk (x : ClkState) : (s.withClk x).clk = x := rfl
@[simp] theorem State.withClk_irqs (x : ClkState) : (s.withClk x).irqs = s.irqs := rfl
@[simp] theorem State.withClk_dmaHeld (x : ClkState) : (s.withClk x).dmaHeld = s.dmaHeld := rfl
@[simp] theorem State.withClk_dmas (x : ClkState) : (s.withClk x).dmas = s.dmas := rfl
@[simp] theorem State.withClk_tims (x : ClkState) : (s.withClk x).tims = s.tims := rfl
@[simp] theorem State.withClk_pats (x : ClkState) : (s.withClk x).pats = s.pats := rfl
@[simp] theorem State.withClk_patPins (x : ClkState) : (s.withClk x).patPins = s.patPins := rfl
@[simp] theorem State.withClk_whls (x : ClkState) : (s.withClk x).whls = s.whls := rfl
@[simp] theorem State.withClk_sim (x : ClkState) : (s.withClk x).sim = s.sim := rfl
@[simp] theorem State.withClk_trks (x : ClkState) : (s.withClk x).trks = s.trks := rfl
@[simp] theorem State.withClk_trkBefore (x : ClkState) : (s.withClk x).trkBefore = s.trkBefore := rfl
@[simp] theorem State.withClk_voter (x : ClkState) : (s.withClk x).voter = s.voter := rfl
@[simp] theorem State.withClk_sch (x : ClkState) : (s.withClk x).sch = s.sch := rfl
@[simp] theorem State.withClk_adcs (x : ClkState) : (s.withClk x).adcs = s.adcs := rfl
@[simp] theorem State.withClk_chans (x : ClkState) : (s.withClk x).chans = s.chans := rfl
@[simp] theorem State.withClk_banks (x : ClkState) : (s.withClk x).banks = s.banks := rfl
@[simp] theorem State.withClk_drv (x : ClkState) : (s.withClk x).drv = s.drv := rfl
@[simp] theorem State.withClk_shotMirror (x : ClkState) : (s.withClk x).shotMirror = s.shotMirror := rfl
@[simp] theorem State.withClk_wit (x : ClkState) : (s.withClk x).wit = s.wit := rfl
@[simp] theorem State.withClk_flo (x : ClkState) : (s.withClk x).flo = s.flo := rfl
@[simp] theorem State.withClk_hst (x : ClkState) : (s.withClk x).hst = s.hst := rfl
@[simp] theorem State.withClk_sec (x : ClkState) : (s.withClk x).sec = s.sec := rfl
@[simp] theorem State.withClk_cal (x : ClkState) : (s.withClk x).cal = s.cal := rfl
@[simp] theorem State.withClk_tst (x : ClkState) : (s.withClk x).tst = s.tst := rfl

-- withFlo
@[simp] theorem State.withFlo_pending (x : FloState) : (s.withFlo x).pending = s.pending := rfl
@[simp] theorem State.withFlo_now (x : FloState) : (s.withFlo x).now = s.now := rfl
@[simp] theorem State.withFlo_tclk (x : FloState) : (s.withFlo x).tclk = s.tclk := rfl
@[simp] theorem State.withFlo_free (x : FloState) : (s.withFlo x).free = s.free := rfl
@[simp] theorem State.withFlo_regs (x : FloState) : (s.withFlo x).regs = s.regs := rfl
@[simp] theorem State.withFlo_mem (x : FloState) : (s.withFlo x).mem = s.mem := rfl
@[simp] theorem State.withFlo_fresh (x : FloState) : (s.withFlo x).fresh = s.fresh := rfl
@[simp] theorem State.withFlo_bus (x : FloState) : (s.withFlo x).bus = s.bus := rfl
@[simp] theorem State.withFlo_sys (x : FloState) : (s.withFlo x).sys = s.sys := rfl
@[simp] theorem State.withFlo_pwr (x : FloState) : (s.withFlo x).pwr = s.pwr := rfl
@[simp] theorem State.withFlo_clk (x : FloState) : (s.withFlo x).clk = s.clk := rfl
@[simp] theorem State.withFlo_irqs (x : FloState) : (s.withFlo x).irqs = s.irqs := rfl
@[simp] theorem State.withFlo_dmaHeld (x : FloState) : (s.withFlo x).dmaHeld = s.dmaHeld := rfl
@[simp] theorem State.withFlo_dmas (x : FloState) : (s.withFlo x).dmas = s.dmas := rfl
@[simp] theorem State.withFlo_tims (x : FloState) : (s.withFlo x).tims = s.tims := rfl
@[simp] theorem State.withFlo_pats (x : FloState) : (s.withFlo x).pats = s.pats := rfl
@[simp] theorem State.withFlo_patPins (x : FloState) : (s.withFlo x).patPins = s.patPins := rfl
@[simp] theorem State.withFlo_whls (x : FloState) : (s.withFlo x).whls = s.whls := rfl
@[simp] theorem State.withFlo_sim (x : FloState) : (s.withFlo x).sim = s.sim := rfl
@[simp] theorem State.withFlo_trks (x : FloState) : (s.withFlo x).trks = s.trks := rfl
@[simp] theorem State.withFlo_trkBefore (x : FloState) : (s.withFlo x).trkBefore = s.trkBefore := rfl
@[simp] theorem State.withFlo_voter (x : FloState) : (s.withFlo x).voter = s.voter := rfl
@[simp] theorem State.withFlo_sch (x : FloState) : (s.withFlo x).sch = s.sch := rfl
@[simp] theorem State.withFlo_adcs (x : FloState) : (s.withFlo x).adcs = s.adcs := rfl
@[simp] theorem State.withFlo_chans (x : FloState) : (s.withFlo x).chans = s.chans := rfl
@[simp] theorem State.withFlo_banks (x : FloState) : (s.withFlo x).banks = s.banks := rfl
@[simp] theorem State.withFlo_drv (x : FloState) : (s.withFlo x).drv = s.drv := rfl
@[simp] theorem State.withFlo_shotMirror (x : FloState) : (s.withFlo x).shotMirror = s.shotMirror := rfl
@[simp] theorem State.withFlo_wit (x : FloState) : (s.withFlo x).wit = s.wit := rfl
@[simp] theorem State.withFlo_flo (x : FloState) : (s.withFlo x).flo = x := rfl
@[simp] theorem State.withFlo_hst (x : FloState) : (s.withFlo x).hst = s.hst := rfl
@[simp] theorem State.withFlo_sec (x : FloState) : (s.withFlo x).sec = s.sec := rfl
@[simp] theorem State.withFlo_cal (x : FloState) : (s.withFlo x).cal = s.cal := rfl
@[simp] theorem State.withFlo_tst (x : FloState) : (s.withFlo x).tst = s.tst := rfl

-- withHst
@[simp] theorem State.withHst_pending (x : HstState) : (s.withHst x).pending = s.pending := rfl
@[simp] theorem State.withHst_now (x : HstState) : (s.withHst x).now = s.now := rfl
@[simp] theorem State.withHst_tclk (x : HstState) : (s.withHst x).tclk = s.tclk := rfl
@[simp] theorem State.withHst_free (x : HstState) : (s.withHst x).free = s.free := rfl
@[simp] theorem State.withHst_regs (x : HstState) : (s.withHst x).regs = s.regs := rfl
@[simp] theorem State.withHst_mem (x : HstState) : (s.withHst x).mem = s.mem := rfl
@[simp] theorem State.withHst_fresh (x : HstState) : (s.withHst x).fresh = s.fresh := rfl
@[simp] theorem State.withHst_bus (x : HstState) : (s.withHst x).bus = s.bus := rfl
@[simp] theorem State.withHst_sys (x : HstState) : (s.withHst x).sys = s.sys := rfl
@[simp] theorem State.withHst_pwr (x : HstState) : (s.withHst x).pwr = s.pwr := rfl
@[simp] theorem State.withHst_clk (x : HstState) : (s.withHst x).clk = s.clk := rfl
@[simp] theorem State.withHst_irqs (x : HstState) : (s.withHst x).irqs = s.irqs := rfl
@[simp] theorem State.withHst_dmaHeld (x : HstState) : (s.withHst x).dmaHeld = s.dmaHeld := rfl
@[simp] theorem State.withHst_dmas (x : HstState) : (s.withHst x).dmas = s.dmas := rfl
@[simp] theorem State.withHst_tims (x : HstState) : (s.withHst x).tims = s.tims := rfl
@[simp] theorem State.withHst_pats (x : HstState) : (s.withHst x).pats = s.pats := rfl
@[simp] theorem State.withHst_patPins (x : HstState) : (s.withHst x).patPins = s.patPins := rfl
@[simp] theorem State.withHst_whls (x : HstState) : (s.withHst x).whls = s.whls := rfl
@[simp] theorem State.withHst_sim (x : HstState) : (s.withHst x).sim = s.sim := rfl
@[simp] theorem State.withHst_trks (x : HstState) : (s.withHst x).trks = s.trks := rfl
@[simp] theorem State.withHst_trkBefore (x : HstState) : (s.withHst x).trkBefore = s.trkBefore := rfl
@[simp] theorem State.withHst_voter (x : HstState) : (s.withHst x).voter = s.voter := rfl
@[simp] theorem State.withHst_sch (x : HstState) : (s.withHst x).sch = s.sch := rfl
@[simp] theorem State.withHst_adcs (x : HstState) : (s.withHst x).adcs = s.adcs := rfl
@[simp] theorem State.withHst_chans (x : HstState) : (s.withHst x).chans = s.chans := rfl
@[simp] theorem State.withHst_banks (x : HstState) : (s.withHst x).banks = s.banks := rfl
@[simp] theorem State.withHst_drv (x : HstState) : (s.withHst x).drv = s.drv := rfl
@[simp] theorem State.withHst_shotMirror (x : HstState) : (s.withHst x).shotMirror = s.shotMirror := rfl
@[simp] theorem State.withHst_wit (x : HstState) : (s.withHst x).wit = s.wit := rfl
@[simp] theorem State.withHst_flo (x : HstState) : (s.withHst x).flo = s.flo := rfl
@[simp] theorem State.withHst_hst (x : HstState) : (s.withHst x).hst = x := rfl
@[simp] theorem State.withHst_sec (x : HstState) : (s.withHst x).sec = s.sec := rfl
@[simp] theorem State.withHst_cal (x : HstState) : (s.withHst x).cal = s.cal := rfl
@[simp] theorem State.withHst_tst (x : HstState) : (s.withHst x).tst = s.tst := rfl

-- withSec
@[simp] theorem State.withSec_pending (x : SecState) : (s.withSec x).pending = s.pending := rfl
@[simp] theorem State.withSec_now (x : SecState) : (s.withSec x).now = s.now := rfl
@[simp] theorem State.withSec_tclk (x : SecState) : (s.withSec x).tclk = s.tclk := rfl
@[simp] theorem State.withSec_free (x : SecState) : (s.withSec x).free = s.free := rfl
@[simp] theorem State.withSec_regs (x : SecState) : (s.withSec x).regs = s.regs := rfl
@[simp] theorem State.withSec_mem (x : SecState) : (s.withSec x).mem = s.mem := rfl
@[simp] theorem State.withSec_fresh (x : SecState) : (s.withSec x).fresh = s.fresh := rfl
@[simp] theorem State.withSec_bus (x : SecState) : (s.withSec x).bus = s.bus := rfl
@[simp] theorem State.withSec_sys (x : SecState) : (s.withSec x).sys = s.sys := rfl
@[simp] theorem State.withSec_pwr (x : SecState) : (s.withSec x).pwr = s.pwr := rfl
@[simp] theorem State.withSec_clk (x : SecState) : (s.withSec x).clk = s.clk := rfl
@[simp] theorem State.withSec_irqs (x : SecState) : (s.withSec x).irqs = s.irqs := rfl
@[simp] theorem State.withSec_dmaHeld (x : SecState) : (s.withSec x).dmaHeld = s.dmaHeld := rfl
@[simp] theorem State.withSec_dmas (x : SecState) : (s.withSec x).dmas = s.dmas := rfl
@[simp] theorem State.withSec_tims (x : SecState) : (s.withSec x).tims = s.tims := rfl
@[simp] theorem State.withSec_pats (x : SecState) : (s.withSec x).pats = s.pats := rfl
@[simp] theorem State.withSec_patPins (x : SecState) : (s.withSec x).patPins = s.patPins := rfl
@[simp] theorem State.withSec_whls (x : SecState) : (s.withSec x).whls = s.whls := rfl
@[simp] theorem State.withSec_sim (x : SecState) : (s.withSec x).sim = s.sim := rfl
@[simp] theorem State.withSec_trks (x : SecState) : (s.withSec x).trks = s.trks := rfl
@[simp] theorem State.withSec_trkBefore (x : SecState) : (s.withSec x).trkBefore = s.trkBefore := rfl
@[simp] theorem State.withSec_voter (x : SecState) : (s.withSec x).voter = s.voter := rfl
@[simp] theorem State.withSec_sch (x : SecState) : (s.withSec x).sch = s.sch := rfl
@[simp] theorem State.withSec_adcs (x : SecState) : (s.withSec x).adcs = s.adcs := rfl
@[simp] theorem State.withSec_chans (x : SecState) : (s.withSec x).chans = s.chans := rfl
@[simp] theorem State.withSec_banks (x : SecState) : (s.withSec x).banks = s.banks := rfl
@[simp] theorem State.withSec_drv (x : SecState) : (s.withSec x).drv = s.drv := rfl
@[simp] theorem State.withSec_shotMirror (x : SecState) : (s.withSec x).shotMirror = s.shotMirror := rfl
@[simp] theorem State.withSec_wit (x : SecState) : (s.withSec x).wit = s.wit := rfl
@[simp] theorem State.withSec_flo (x : SecState) : (s.withSec x).flo = s.flo := rfl
@[simp] theorem State.withSec_hst (x : SecState) : (s.withSec x).hst = s.hst := rfl
@[simp] theorem State.withSec_sec (x : SecState) : (s.withSec x).sec = x := rfl
@[simp] theorem State.withSec_cal (x : SecState) : (s.withSec x).cal = s.cal := rfl
@[simp] theorem State.withSec_tst (x : SecState) : (s.withSec x).tst = s.tst := rfl

-- withTst
@[simp] theorem State.withTst_pending (x : TstState) : (s.withTst x).pending = s.pending := rfl
@[simp] theorem State.withTst_now (x : TstState) : (s.withTst x).now = s.now := rfl
@[simp] theorem State.withTst_tclk (x : TstState) : (s.withTst x).tclk = s.tclk := rfl
@[simp] theorem State.withTst_free (x : TstState) : (s.withTst x).free = s.free := rfl
@[simp] theorem State.withTst_regs (x : TstState) : (s.withTst x).regs = s.regs := rfl
@[simp] theorem State.withTst_mem (x : TstState) : (s.withTst x).mem = s.mem := rfl
@[simp] theorem State.withTst_fresh (x : TstState) : (s.withTst x).fresh = s.fresh := rfl
@[simp] theorem State.withTst_bus (x : TstState) : (s.withTst x).bus = s.bus := rfl
@[simp] theorem State.withTst_sys (x : TstState) : (s.withTst x).sys = s.sys := rfl
@[simp] theorem State.withTst_pwr (x : TstState) : (s.withTst x).pwr = s.pwr := rfl
@[simp] theorem State.withTst_clk (x : TstState) : (s.withTst x).clk = s.clk := rfl
@[simp] theorem State.withTst_irqs (x : TstState) : (s.withTst x).irqs = s.irqs := rfl
@[simp] theorem State.withTst_dmaHeld (x : TstState) : (s.withTst x).dmaHeld = s.dmaHeld := rfl
@[simp] theorem State.withTst_dmas (x : TstState) : (s.withTst x).dmas = s.dmas := rfl
@[simp] theorem State.withTst_tims (x : TstState) : (s.withTst x).tims = s.tims := rfl
@[simp] theorem State.withTst_pats (x : TstState) : (s.withTst x).pats = s.pats := rfl
@[simp] theorem State.withTst_patPins (x : TstState) : (s.withTst x).patPins = s.patPins := rfl
@[simp] theorem State.withTst_whls (x : TstState) : (s.withTst x).whls = s.whls := rfl
@[simp] theorem State.withTst_sim (x : TstState) : (s.withTst x).sim = s.sim := rfl
@[simp] theorem State.withTst_trks (x : TstState) : (s.withTst x).trks = s.trks := rfl
@[simp] theorem State.withTst_trkBefore (x : TstState) : (s.withTst x).trkBefore = s.trkBefore := rfl
@[simp] theorem State.withTst_voter (x : TstState) : (s.withTst x).voter = s.voter := rfl
@[simp] theorem State.withTst_sch (x : TstState) : (s.withTst x).sch = s.sch := rfl
@[simp] theorem State.withTst_adcs (x : TstState) : (s.withTst x).adcs = s.adcs := rfl
@[simp] theorem State.withTst_chans (x : TstState) : (s.withTst x).chans = s.chans := rfl
@[simp] theorem State.withTst_banks (x : TstState) : (s.withTst x).banks = s.banks := rfl
@[simp] theorem State.withTst_drv (x : TstState) : (s.withTst x).drv = s.drv := rfl
@[simp] theorem State.withTst_shotMirror (x : TstState) : (s.withTst x).shotMirror = s.shotMirror := rfl
@[simp] theorem State.withTst_wit (x : TstState) : (s.withTst x).wit = s.wit := rfl
@[simp] theorem State.withTst_flo (x : TstState) : (s.withTst x).flo = s.flo := rfl
@[simp] theorem State.withTst_hst (x : TstState) : (s.withTst x).hst = s.hst := rfl
@[simp] theorem State.withTst_sec (x : TstState) : (s.withTst x).sec = s.sec := rfl
@[simp] theorem State.withTst_cal (x : TstState) : (s.withTst x).cal = s.cal := rfl
@[simp] theorem State.withTst_tst (x : TstState) : (s.withTst x).tst = x := rfl

-- withWit
@[simp] theorem State.withWit_pending (x : WitState) : (s.withWit x).pending = s.pending := rfl
@[simp] theorem State.withWit_now (x : WitState) : (s.withWit x).now = s.now := rfl
@[simp] theorem State.withWit_tclk (x : WitState) : (s.withWit x).tclk = s.tclk := rfl
@[simp] theorem State.withWit_free (x : WitState) : (s.withWit x).free = s.free := rfl
@[simp] theorem State.withWit_regs (x : WitState) : (s.withWit x).regs = s.regs := rfl
@[simp] theorem State.withWit_mem (x : WitState) : (s.withWit x).mem = s.mem := rfl
@[simp] theorem State.withWit_fresh (x : WitState) : (s.withWit x).fresh = s.fresh := rfl
@[simp] theorem State.withWit_bus (x : WitState) : (s.withWit x).bus = s.bus := rfl
@[simp] theorem State.withWit_sys (x : WitState) : (s.withWit x).sys = s.sys := rfl
@[simp] theorem State.withWit_pwr (x : WitState) : (s.withWit x).pwr = s.pwr := rfl
@[simp] theorem State.withWit_clk (x : WitState) : (s.withWit x).clk = s.clk := rfl
@[simp] theorem State.withWit_irqs (x : WitState) : (s.withWit x).irqs = s.irqs := rfl
@[simp] theorem State.withWit_dmaHeld (x : WitState) : (s.withWit x).dmaHeld = s.dmaHeld := rfl
@[simp] theorem State.withWit_dmas (x : WitState) : (s.withWit x).dmas = s.dmas := rfl
@[simp] theorem State.withWit_tims (x : WitState) : (s.withWit x).tims = s.tims := rfl
@[simp] theorem State.withWit_pats (x : WitState) : (s.withWit x).pats = s.pats := rfl
@[simp] theorem State.withWit_patPins (x : WitState) : (s.withWit x).patPins = s.patPins := rfl
@[simp] theorem State.withWit_whls (x : WitState) : (s.withWit x).whls = s.whls := rfl
@[simp] theorem State.withWit_sim (x : WitState) : (s.withWit x).sim = s.sim := rfl
@[simp] theorem State.withWit_trks (x : WitState) : (s.withWit x).trks = s.trks := rfl
@[simp] theorem State.withWit_trkBefore (x : WitState) : (s.withWit x).trkBefore = s.trkBefore := rfl
@[simp] theorem State.withWit_voter (x : WitState) : (s.withWit x).voter = s.voter := rfl
@[simp] theorem State.withWit_sch (x : WitState) : (s.withWit x).sch = s.sch := rfl
@[simp] theorem State.withWit_adcs (x : WitState) : (s.withWit x).adcs = s.adcs := rfl
@[simp] theorem State.withWit_chans (x : WitState) : (s.withWit x).chans = s.chans := rfl
@[simp] theorem State.withWit_banks (x : WitState) : (s.withWit x).banks = s.banks := rfl
@[simp] theorem State.withWit_drv (x : WitState) : (s.withWit x).drv = s.drv := rfl
@[simp] theorem State.withWit_shotMirror (x : WitState) : (s.withWit x).shotMirror = s.shotMirror := rfl
@[simp] theorem State.withWit_wit (x : WitState) : (s.withWit x).wit = x := rfl
@[simp] theorem State.withWit_flo (x : WitState) : (s.withWit x).flo = s.flo := rfl
@[simp] theorem State.withWit_hst (x : WitState) : (s.withWit x).hst = s.hst := rfl
@[simp] theorem State.withWit_sec (x : WitState) : (s.withWit x).sec = s.sec := rfl
@[simp] theorem State.withWit_cal (x : WitState) : (s.withWit x).cal = s.cal := rfl
@[simp] theorem State.withWit_tst (x : WitState) : (s.withWit x).tst = s.tst := rfl

-- withDrv
@[simp] theorem State.withDrv_pending (x : DrvState) : (s.withDrv x).pending = s.pending := rfl
@[simp] theorem State.withDrv_now (x : DrvState) : (s.withDrv x).now = s.now := rfl
@[simp] theorem State.withDrv_tclk (x : DrvState) : (s.withDrv x).tclk = s.tclk := rfl
@[simp] theorem State.withDrv_free (x : DrvState) : (s.withDrv x).free = s.free := rfl
@[simp] theorem State.withDrv_regs (x : DrvState) : (s.withDrv x).regs = s.regs := rfl
@[simp] theorem State.withDrv_mem (x : DrvState) : (s.withDrv x).mem = s.mem := rfl
@[simp] theorem State.withDrv_fresh (x : DrvState) : (s.withDrv x).fresh = s.fresh := rfl
@[simp] theorem State.withDrv_bus (x : DrvState) : (s.withDrv x).bus = s.bus := rfl
@[simp] theorem State.withDrv_sys (x : DrvState) : (s.withDrv x).sys = s.sys := rfl
@[simp] theorem State.withDrv_pwr (x : DrvState) : (s.withDrv x).pwr = s.pwr := rfl
@[simp] theorem State.withDrv_clk (x : DrvState) : (s.withDrv x).clk = s.clk := rfl
@[simp] theorem State.withDrv_irqs (x : DrvState) : (s.withDrv x).irqs = s.irqs := rfl
@[simp] theorem State.withDrv_dmaHeld (x : DrvState) : (s.withDrv x).dmaHeld = s.dmaHeld := rfl
@[simp] theorem State.withDrv_dmas (x : DrvState) : (s.withDrv x).dmas = s.dmas := rfl
@[simp] theorem State.withDrv_tims (x : DrvState) : (s.withDrv x).tims = s.tims := rfl
@[simp] theorem State.withDrv_pats (x : DrvState) : (s.withDrv x).pats = s.pats := rfl
@[simp] theorem State.withDrv_patPins (x : DrvState) : (s.withDrv x).patPins = s.patPins := rfl
@[simp] theorem State.withDrv_whls (x : DrvState) : (s.withDrv x).whls = s.whls := rfl
@[simp] theorem State.withDrv_sim (x : DrvState) : (s.withDrv x).sim = s.sim := rfl
@[simp] theorem State.withDrv_trks (x : DrvState) : (s.withDrv x).trks = s.trks := rfl
@[simp] theorem State.withDrv_trkBefore (x : DrvState) : (s.withDrv x).trkBefore = s.trkBefore := rfl
@[simp] theorem State.withDrv_voter (x : DrvState) : (s.withDrv x).voter = s.voter := rfl
@[simp] theorem State.withDrv_sch (x : DrvState) : (s.withDrv x).sch = s.sch := rfl
@[simp] theorem State.withDrv_adcs (x : DrvState) : (s.withDrv x).adcs = s.adcs := rfl
@[simp] theorem State.withDrv_chans (x : DrvState) : (s.withDrv x).chans = s.chans := rfl
@[simp] theorem State.withDrv_banks (x : DrvState) : (s.withDrv x).banks = s.banks := rfl
@[simp] theorem State.withDrv_drv (x : DrvState) : (s.withDrv x).drv = x := rfl
@[simp] theorem State.withDrv_shotMirror (x : DrvState) : (s.withDrv x).shotMirror = s.shotMirror := rfl
@[simp] theorem State.withDrv_wit (x : DrvState) : (s.withDrv x).wit = s.wit := rfl
@[simp] theorem State.withDrv_flo (x : DrvState) : (s.withDrv x).flo = s.flo := rfl
@[simp] theorem State.withDrv_hst (x : DrvState) : (s.withDrv x).hst = s.hst := rfl
@[simp] theorem State.withDrv_sec (x : DrvState) : (s.withDrv x).sec = s.sec := rfl
@[simp] theorem State.withDrv_cal (x : DrvState) : (s.withDrv x).cal = s.cal := rfl
@[simp] theorem State.withDrv_tst (x : DrvState) : (s.withDrv x).tst = s.tst := rfl

-- withSch
@[simp] theorem State.withSch_pending (x : SchState) : (s.withSch x).pending = s.pending := rfl
@[simp] theorem State.withSch_now (x : SchState) : (s.withSch x).now = s.now := rfl
@[simp] theorem State.withSch_tclk (x : SchState) : (s.withSch x).tclk = s.tclk := rfl
@[simp] theorem State.withSch_free (x : SchState) : (s.withSch x).free = s.free := rfl
@[simp] theorem State.withSch_regs (x : SchState) : (s.withSch x).regs = s.regs := rfl
@[simp] theorem State.withSch_mem (x : SchState) : (s.withSch x).mem = s.mem := rfl
@[simp] theorem State.withSch_fresh (x : SchState) : (s.withSch x).fresh = s.fresh := rfl
@[simp] theorem State.withSch_bus (x : SchState) : (s.withSch x).bus = s.bus := rfl
@[simp] theorem State.withSch_sys (x : SchState) : (s.withSch x).sys = s.sys := rfl
@[simp] theorem State.withSch_pwr (x : SchState) : (s.withSch x).pwr = s.pwr := rfl
@[simp] theorem State.withSch_clk (x : SchState) : (s.withSch x).clk = s.clk := rfl
@[simp] theorem State.withSch_irqs (x : SchState) : (s.withSch x).irqs = s.irqs := rfl
@[simp] theorem State.withSch_dmaHeld (x : SchState) : (s.withSch x).dmaHeld = s.dmaHeld := rfl
@[simp] theorem State.withSch_dmas (x : SchState) : (s.withSch x).dmas = s.dmas := rfl
@[simp] theorem State.withSch_tims (x : SchState) : (s.withSch x).tims = s.tims := rfl
@[simp] theorem State.withSch_pats (x : SchState) : (s.withSch x).pats = s.pats := rfl
@[simp] theorem State.withSch_patPins (x : SchState) : (s.withSch x).patPins = s.patPins := rfl
@[simp] theorem State.withSch_whls (x : SchState) : (s.withSch x).whls = s.whls := rfl
@[simp] theorem State.withSch_sim (x : SchState) : (s.withSch x).sim = s.sim := rfl
@[simp] theorem State.withSch_trks (x : SchState) : (s.withSch x).trks = s.trks := rfl
@[simp] theorem State.withSch_trkBefore (x : SchState) : (s.withSch x).trkBefore = s.trkBefore := rfl
@[simp] theorem State.withSch_voter (x : SchState) : (s.withSch x).voter = s.voter := rfl
@[simp] theorem State.withSch_sch (x : SchState) : (s.withSch x).sch = x := rfl
@[simp] theorem State.withSch_adcs (x : SchState) : (s.withSch x).adcs = s.adcs := rfl
@[simp] theorem State.withSch_chans (x : SchState) : (s.withSch x).chans = s.chans := rfl
@[simp] theorem State.withSch_banks (x : SchState) : (s.withSch x).banks = s.banks := rfl
@[simp] theorem State.withSch_drv (x : SchState) : (s.withSch x).drv = s.drv := rfl
@[simp] theorem State.withSch_shotMirror (x : SchState) : (s.withSch x).shotMirror = s.shotMirror := rfl
@[simp] theorem State.withSch_wit (x : SchState) : (s.withSch x).wit = s.wit := rfl
@[simp] theorem State.withSch_flo (x : SchState) : (s.withSch x).flo = s.flo := rfl
@[simp] theorem State.withSch_hst (x : SchState) : (s.withSch x).hst = s.hst := rfl
@[simp] theorem State.withSch_sec (x : SchState) : (s.withSch x).sec = s.sec := rfl
@[simp] theorem State.withSch_cal (x : SchState) : (s.withSch x).cal = s.cal := rfl
@[simp] theorem State.withSch_tst (x : SchState) : (s.withSch x).tst = s.tst := rfl

-- withCal
@[simp] theorem State.withCal_pending (x : CalState) : (s.withCal x).pending = s.pending := rfl
@[simp] theorem State.withCal_now (x : CalState) : (s.withCal x).now = s.now := rfl
@[simp] theorem State.withCal_tclk (x : CalState) : (s.withCal x).tclk = s.tclk := rfl
@[simp] theorem State.withCal_free (x : CalState) : (s.withCal x).free = s.free := rfl
@[simp] theorem State.withCal_regs (x : CalState) : (s.withCal x).regs = s.regs := rfl
@[simp] theorem State.withCal_mem (x : CalState) : (s.withCal x).mem = s.mem := rfl
@[simp] theorem State.withCal_fresh (x : CalState) : (s.withCal x).fresh = s.fresh := rfl
@[simp] theorem State.withCal_bus (x : CalState) : (s.withCal x).bus = s.bus := rfl
@[simp] theorem State.withCal_sys (x : CalState) : (s.withCal x).sys = s.sys := rfl
@[simp] theorem State.withCal_pwr (x : CalState) : (s.withCal x).pwr = s.pwr := rfl
@[simp] theorem State.withCal_clk (x : CalState) : (s.withCal x).clk = s.clk := rfl
@[simp] theorem State.withCal_irqs (x : CalState) : (s.withCal x).irqs = s.irqs := rfl
@[simp] theorem State.withCal_dmaHeld (x : CalState) : (s.withCal x).dmaHeld = s.dmaHeld := rfl
@[simp] theorem State.withCal_dmas (x : CalState) : (s.withCal x).dmas = s.dmas := rfl
@[simp] theorem State.withCal_tims (x : CalState) : (s.withCal x).tims = s.tims := rfl
@[simp] theorem State.withCal_pats (x : CalState) : (s.withCal x).pats = s.pats := rfl
@[simp] theorem State.withCal_patPins (x : CalState) : (s.withCal x).patPins = s.patPins := rfl
@[simp] theorem State.withCal_whls (x : CalState) : (s.withCal x).whls = s.whls := rfl
@[simp] theorem State.withCal_sim (x : CalState) : (s.withCal x).sim = s.sim := rfl
@[simp] theorem State.withCal_trks (x : CalState) : (s.withCal x).trks = s.trks := rfl
@[simp] theorem State.withCal_trkBefore (x : CalState) : (s.withCal x).trkBefore = s.trkBefore := rfl
@[simp] theorem State.withCal_voter (x : CalState) : (s.withCal x).voter = s.voter := rfl
@[simp] theorem State.withCal_sch (x : CalState) : (s.withCal x).sch = s.sch := rfl
@[simp] theorem State.withCal_adcs (x : CalState) : (s.withCal x).adcs = s.adcs := rfl
@[simp] theorem State.withCal_chans (x : CalState) : (s.withCal x).chans = s.chans := rfl
@[simp] theorem State.withCal_banks (x : CalState) : (s.withCal x).banks = s.banks := rfl
@[simp] theorem State.withCal_drv (x : CalState) : (s.withCal x).drv = s.drv := rfl
@[simp] theorem State.withCal_shotMirror (x : CalState) : (s.withCal x).shotMirror = s.shotMirror := rfl
@[simp] theorem State.withCal_wit (x : CalState) : (s.withCal x).wit = s.wit := rfl
@[simp] theorem State.withCal_flo (x : CalState) : (s.withCal x).flo = s.flo := rfl
@[simp] theorem State.withCal_hst (x : CalState) : (s.withCal x).hst = s.hst := rfl
@[simp] theorem State.withCal_sec (x : CalState) : (s.withCal x).sec = s.sec := rfl
@[simp] theorem State.withCal_cal (x : CalState) : (s.withCal x).cal = x := rfl
@[simp] theorem State.withCal_tst (x : CalState) : (s.withCal x).tst = s.tst := rfl

-- setPort
@[simp] theorem State.setPort_pending (p : Nat) (x : HostPort) : (s.setPort p x).pending = s.pending := rfl
@[simp] theorem State.setPort_now (p : Nat) (x : HostPort) : (s.setPort p x).now = s.now := rfl
@[simp] theorem State.setPort_tclk (p : Nat) (x : HostPort) : (s.setPort p x).tclk = s.tclk := rfl
@[simp] theorem State.setPort_free (p : Nat) (x : HostPort) : (s.setPort p x).free = s.free := rfl
@[simp] theorem State.setPort_regs (p : Nat) (x : HostPort) : (s.setPort p x).regs = s.regs := rfl
@[simp] theorem State.setPort_mem (p : Nat) (x : HostPort) : (s.setPort p x).mem = s.mem := rfl
@[simp] theorem State.setPort_fresh (p : Nat) (x : HostPort) : (s.setPort p x).fresh = s.fresh := rfl
@[simp] theorem State.setPort_bus (p : Nat) (x : HostPort) : (s.setPort p x).bus = s.bus := rfl
@[simp] theorem State.setPort_sys (p : Nat) (x : HostPort) : (s.setPort p x).sys = s.sys := rfl
@[simp] theorem State.setPort_pwr (p : Nat) (x : HostPort) : (s.setPort p x).pwr = s.pwr := rfl
@[simp] theorem State.setPort_clk (p : Nat) (x : HostPort) : (s.setPort p x).clk = s.clk := rfl
@[simp] theorem State.setPort_irqs (p : Nat) (x : HostPort) : (s.setPort p x).irqs = s.irqs := rfl
@[simp] theorem State.setPort_dmaHeld (p : Nat) (x : HostPort) : (s.setPort p x).dmaHeld = s.dmaHeld := rfl
@[simp] theorem State.setPort_dmas (p : Nat) (x : HostPort) : (s.setPort p x).dmas = s.dmas := rfl
@[simp] theorem State.setPort_tims (p : Nat) (x : HostPort) : (s.setPort p x).tims = s.tims := rfl
@[simp] theorem State.setPort_pats (p : Nat) (x : HostPort) : (s.setPort p x).pats = s.pats := rfl
@[simp] theorem State.setPort_patPins (p : Nat) (x : HostPort) : (s.setPort p x).patPins = s.patPins := rfl
@[simp] theorem State.setPort_whls (p : Nat) (x : HostPort) : (s.setPort p x).whls = s.whls := rfl
@[simp] theorem State.setPort_sim (p : Nat) (x : HostPort) : (s.setPort p x).sim = s.sim := rfl
@[simp] theorem State.setPort_trks (p : Nat) (x : HostPort) : (s.setPort p x).trks = s.trks := rfl
@[simp] theorem State.setPort_trkBefore (p : Nat) (x : HostPort) : (s.setPort p x).trkBefore = s.trkBefore := rfl
@[simp] theorem State.setPort_voter (p : Nat) (x : HostPort) : (s.setPort p x).voter = s.voter := rfl
@[simp] theorem State.setPort_sch (p : Nat) (x : HostPort) : (s.setPort p x).sch = s.sch := rfl
@[simp] theorem State.setPort_adcs (p : Nat) (x : HostPort) : (s.setPort p x).adcs = s.adcs := rfl
@[simp] theorem State.setPort_chans (p : Nat) (x : HostPort) : (s.setPort p x).chans = s.chans := rfl
@[simp] theorem State.setPort_banks (p : Nat) (x : HostPort) : (s.setPort p x).banks = s.banks := rfl
@[simp] theorem State.setPort_drv (p : Nat) (x : HostPort) : (s.setPort p x).drv = s.drv := rfl
@[simp] theorem State.setPort_shotMirror (p : Nat) (x : HostPort) : (s.setPort p x).shotMirror = s.shotMirror := rfl
@[simp] theorem State.setPort_wit (p : Nat) (x : HostPort) : (s.setPort p x).wit = s.wit := rfl
@[simp] theorem State.setPort_flo (p : Nat) (x : HostPort) : (s.setPort p x).flo = s.flo := rfl
@[simp] theorem State.setPort_sec (p : Nat) (x : HostPort) : (s.setPort p x).sec = s.sec := rfl
@[simp] theorem State.setPort_cal (p : Nat) (x : HostPort) : (s.setPort p x).cal = s.cal := rfl
@[simp] theorem State.setPort_tst (p : Nat) (x : HostPort) : (s.setPort p x).tst = s.tst := rfl

-- setAdc
@[simp] theorem State.setAdc_pending (k : Nat) (x : AdcState) : (s.setAdc k x).pending = s.pending := rfl
@[simp] theorem State.setAdc_now (k : Nat) (x : AdcState) : (s.setAdc k x).now = s.now := rfl
@[simp] theorem State.setAdc_tclk (k : Nat) (x : AdcState) : (s.setAdc k x).tclk = s.tclk := rfl
@[simp] theorem State.setAdc_free (k : Nat) (x : AdcState) : (s.setAdc k x).free = s.free := rfl
@[simp] theorem State.setAdc_regs (k : Nat) (x : AdcState) : (s.setAdc k x).regs = s.regs := rfl
@[simp] theorem State.setAdc_mem (k : Nat) (x : AdcState) : (s.setAdc k x).mem = s.mem := rfl
@[simp] theorem State.setAdc_fresh (k : Nat) (x : AdcState) : (s.setAdc k x).fresh = s.fresh := rfl
@[simp] theorem State.setAdc_bus (k : Nat) (x : AdcState) : (s.setAdc k x).bus = s.bus := rfl
@[simp] theorem State.setAdc_sys (k : Nat) (x : AdcState) : (s.setAdc k x).sys = s.sys := rfl
@[simp] theorem State.setAdc_pwr (k : Nat) (x : AdcState) : (s.setAdc k x).pwr = s.pwr := rfl
@[simp] theorem State.setAdc_clk (k : Nat) (x : AdcState) : (s.setAdc k x).clk = s.clk := rfl
@[simp] theorem State.setAdc_irqs (k : Nat) (x : AdcState) : (s.setAdc k x).irqs = s.irqs := rfl
@[simp] theorem State.setAdc_dmaHeld (k : Nat) (x : AdcState) : (s.setAdc k x).dmaHeld = s.dmaHeld := rfl
@[simp] theorem State.setAdc_dmas (k : Nat) (x : AdcState) : (s.setAdc k x).dmas = s.dmas := rfl
@[simp] theorem State.setAdc_tims (k : Nat) (x : AdcState) : (s.setAdc k x).tims = s.tims := rfl
@[simp] theorem State.setAdc_pats (k : Nat) (x : AdcState) : (s.setAdc k x).pats = s.pats := rfl
@[simp] theorem State.setAdc_patPins (k : Nat) (x : AdcState) : (s.setAdc k x).patPins = s.patPins := rfl
@[simp] theorem State.setAdc_whls (k : Nat) (x : AdcState) : (s.setAdc k x).whls = s.whls := rfl
@[simp] theorem State.setAdc_sim (k : Nat) (x : AdcState) : (s.setAdc k x).sim = s.sim := rfl
@[simp] theorem State.setAdc_trks (k : Nat) (x : AdcState) : (s.setAdc k x).trks = s.trks := rfl
@[simp] theorem State.setAdc_trkBefore (k : Nat) (x : AdcState) : (s.setAdc k x).trkBefore = s.trkBefore := rfl
@[simp] theorem State.setAdc_voter (k : Nat) (x : AdcState) : (s.setAdc k x).voter = s.voter := rfl
@[simp] theorem State.setAdc_sch (k : Nat) (x : AdcState) : (s.setAdc k x).sch = s.sch := rfl
@[simp] theorem State.setAdc_chans (k : Nat) (x : AdcState) : (s.setAdc k x).chans = s.chans := rfl
@[simp] theorem State.setAdc_banks (k : Nat) (x : AdcState) : (s.setAdc k x).banks = s.banks := rfl
@[simp] theorem State.setAdc_drv (k : Nat) (x : AdcState) : (s.setAdc k x).drv = s.drv := rfl
@[simp] theorem State.setAdc_shotMirror (k : Nat) (x : AdcState) : (s.setAdc k x).shotMirror = s.shotMirror := rfl
@[simp] theorem State.setAdc_wit (k : Nat) (x : AdcState) : (s.setAdc k x).wit = s.wit := rfl
@[simp] theorem State.setAdc_flo (k : Nat) (x : AdcState) : (s.setAdc k x).flo = s.flo := rfl
@[simp] theorem State.setAdc_hst (k : Nat) (x : AdcState) : (s.setAdc k x).hst = s.hst := rfl
@[simp] theorem State.setAdc_sec (k : Nat) (x : AdcState) : (s.setAdc k x).sec = s.sec := rfl
@[simp] theorem State.setAdc_cal (k : Nat) (x : AdcState) : (s.setAdc k x).cal = s.cal := rfl
@[simp] theorem State.setAdc_tst (k : Nat) (x : AdcState) : (s.setAdc k x).tst = s.tst := rfl

-- setTrk
@[simp] theorem State.setTrk_pending (k : Nat) (x : Trk) : (s.setTrk k x).pending = s.pending := rfl
@[simp] theorem State.setTrk_now (k : Nat) (x : Trk) : (s.setTrk k x).now = s.now := rfl
@[simp] theorem State.setTrk_tclk (k : Nat) (x : Trk) : (s.setTrk k x).tclk = s.tclk := rfl
@[simp] theorem State.setTrk_free (k : Nat) (x : Trk) : (s.setTrk k x).free = s.free := rfl
@[simp] theorem State.setTrk_regs (k : Nat) (x : Trk) : (s.setTrk k x).regs = s.regs := rfl
@[simp] theorem State.setTrk_mem (k : Nat) (x : Trk) : (s.setTrk k x).mem = s.mem := rfl
@[simp] theorem State.setTrk_fresh (k : Nat) (x : Trk) : (s.setTrk k x).fresh = s.fresh := rfl
@[simp] theorem State.setTrk_bus (k : Nat) (x : Trk) : (s.setTrk k x).bus = s.bus := rfl
@[simp] theorem State.setTrk_sys (k : Nat) (x : Trk) : (s.setTrk k x).sys = s.sys := rfl
@[simp] theorem State.setTrk_pwr (k : Nat) (x : Trk) : (s.setTrk k x).pwr = s.pwr := rfl
@[simp] theorem State.setTrk_clk (k : Nat) (x : Trk) : (s.setTrk k x).clk = s.clk := rfl
@[simp] theorem State.setTrk_irqs (k : Nat) (x : Trk) : (s.setTrk k x).irqs = s.irqs := rfl
@[simp] theorem State.setTrk_dmaHeld (k : Nat) (x : Trk) : (s.setTrk k x).dmaHeld = s.dmaHeld := rfl
@[simp] theorem State.setTrk_dmas (k : Nat) (x : Trk) : (s.setTrk k x).dmas = s.dmas := rfl
@[simp] theorem State.setTrk_tims (k : Nat) (x : Trk) : (s.setTrk k x).tims = s.tims := rfl
@[simp] theorem State.setTrk_pats (k : Nat) (x : Trk) : (s.setTrk k x).pats = s.pats := rfl
@[simp] theorem State.setTrk_patPins (k : Nat) (x : Trk) : (s.setTrk k x).patPins = s.patPins := rfl
@[simp] theorem State.setTrk_whls (k : Nat) (x : Trk) : (s.setTrk k x).whls = s.whls := rfl
@[simp] theorem State.setTrk_sim (k : Nat) (x : Trk) : (s.setTrk k x).sim = s.sim := rfl
@[simp] theorem State.setTrk_trkBefore (k : Nat) (x : Trk) : (s.setTrk k x).trkBefore = s.trkBefore := rfl
@[simp] theorem State.setTrk_voter (k : Nat) (x : Trk) : (s.setTrk k x).voter = s.voter := rfl
@[simp] theorem State.setTrk_sch (k : Nat) (x : Trk) : (s.setTrk k x).sch = s.sch := rfl
@[simp] theorem State.setTrk_adcs (k : Nat) (x : Trk) : (s.setTrk k x).adcs = s.adcs := rfl
@[simp] theorem State.setTrk_chans (k : Nat) (x : Trk) : (s.setTrk k x).chans = s.chans := rfl
@[simp] theorem State.setTrk_banks (k : Nat) (x : Trk) : (s.setTrk k x).banks = s.banks := rfl
@[simp] theorem State.setTrk_drv (k : Nat) (x : Trk) : (s.setTrk k x).drv = s.drv := rfl
@[simp] theorem State.setTrk_shotMirror (k : Nat) (x : Trk) : (s.setTrk k x).shotMirror = s.shotMirror := rfl
@[simp] theorem State.setTrk_wit (k : Nat) (x : Trk) : (s.setTrk k x).wit = s.wit := rfl
@[simp] theorem State.setTrk_flo (k : Nat) (x : Trk) : (s.setTrk k x).flo = s.flo := rfl
@[simp] theorem State.setTrk_hst (k : Nat) (x : Trk) : (s.setTrk k x).hst = s.hst := rfl
@[simp] theorem State.setTrk_sec (k : Nat) (x : Trk) : (s.setTrk k x).sec = s.sec := rfl
@[simp] theorem State.setTrk_cal (k : Nat) (x : Trk) : (s.setTrk k x).cal = s.cal := rfl
@[simp] theorem State.setTrk_tst (k : Nat) (x : Trk) : (s.setTrk k x).tst = s.tst := rfl

-- setDma
@[simp] theorem State.setDma_pending (k : Nat) (x : DmaChan) : (s.setDma k x).pending = s.pending := rfl
@[simp] theorem State.setDma_now (k : Nat) (x : DmaChan) : (s.setDma k x).now = s.now := rfl
@[simp] theorem State.setDma_tclk (k : Nat) (x : DmaChan) : (s.setDma k x).tclk = s.tclk := rfl
@[simp] theorem State.setDma_free (k : Nat) (x : DmaChan) : (s.setDma k x).free = s.free := rfl
@[simp] theorem State.setDma_regs (k : Nat) (x : DmaChan) : (s.setDma k x).regs = s.regs := rfl
@[simp] theorem State.setDma_mem (k : Nat) (x : DmaChan) : (s.setDma k x).mem = s.mem := rfl
@[simp] theorem State.setDma_fresh (k : Nat) (x : DmaChan) : (s.setDma k x).fresh = s.fresh := rfl
@[simp] theorem State.setDma_bus (k : Nat) (x : DmaChan) : (s.setDma k x).bus = s.bus := rfl
@[simp] theorem State.setDma_sys (k : Nat) (x : DmaChan) : (s.setDma k x).sys = s.sys := rfl
@[simp] theorem State.setDma_pwr (k : Nat) (x : DmaChan) : (s.setDma k x).pwr = s.pwr := rfl
@[simp] theorem State.setDma_clk (k : Nat) (x : DmaChan) : (s.setDma k x).clk = s.clk := rfl
@[simp] theorem State.setDma_irqs (k : Nat) (x : DmaChan) : (s.setDma k x).irqs = s.irqs := rfl
@[simp] theorem State.setDma_dmaHeld (k : Nat) (x : DmaChan) : (s.setDma k x).dmaHeld = s.dmaHeld := rfl
@[simp] theorem State.setDma_tims (k : Nat) (x : DmaChan) : (s.setDma k x).tims = s.tims := rfl
@[simp] theorem State.setDma_pats (k : Nat) (x : DmaChan) : (s.setDma k x).pats = s.pats := rfl
@[simp] theorem State.setDma_patPins (k : Nat) (x : DmaChan) : (s.setDma k x).patPins = s.patPins := rfl
@[simp] theorem State.setDma_whls (k : Nat) (x : DmaChan) : (s.setDma k x).whls = s.whls := rfl
@[simp] theorem State.setDma_sim (k : Nat) (x : DmaChan) : (s.setDma k x).sim = s.sim := rfl
@[simp] theorem State.setDma_trks (k : Nat) (x : DmaChan) : (s.setDma k x).trks = s.trks := rfl
@[simp] theorem State.setDma_trkBefore (k : Nat) (x : DmaChan) : (s.setDma k x).trkBefore = s.trkBefore := rfl
@[simp] theorem State.setDma_voter (k : Nat) (x : DmaChan) : (s.setDma k x).voter = s.voter := rfl
@[simp] theorem State.setDma_sch (k : Nat) (x : DmaChan) : (s.setDma k x).sch = s.sch := rfl
@[simp] theorem State.setDma_adcs (k : Nat) (x : DmaChan) : (s.setDma k x).adcs = s.adcs := rfl
@[simp] theorem State.setDma_chans (k : Nat) (x : DmaChan) : (s.setDma k x).chans = s.chans := rfl
@[simp] theorem State.setDma_banks (k : Nat) (x : DmaChan) : (s.setDma k x).banks = s.banks := rfl
@[simp] theorem State.setDma_drv (k : Nat) (x : DmaChan) : (s.setDma k x).drv = s.drv := rfl
@[simp] theorem State.setDma_shotMirror (k : Nat) (x : DmaChan) : (s.setDma k x).shotMirror = s.shotMirror := rfl
@[simp] theorem State.setDma_wit (k : Nat) (x : DmaChan) : (s.setDma k x).wit = s.wit := rfl
@[simp] theorem State.setDma_flo (k : Nat) (x : DmaChan) : (s.setDma k x).flo = s.flo := rfl
@[simp] theorem State.setDma_hst (k : Nat) (x : DmaChan) : (s.setDma k x).hst = s.hst := rfl
@[simp] theorem State.setDma_sec (k : Nat) (x : DmaChan) : (s.setDma k x).sec = s.sec := rfl
@[simp] theorem State.setDma_cal (k : Nat) (x : DmaChan) : (s.setDma k x).cal = s.cal := rfl
@[simp] theorem State.setDma_tst (k : Nat) (x : DmaChan) : (s.setDma k x).tst = s.tst := rfl

-- setChan
@[simp] theorem State.setChan_pending (k : Nat) (x : Chan) : (s.setChan k x).pending = s.pending := rfl
@[simp] theorem State.setChan_now (k : Nat) (x : Chan) : (s.setChan k x).now = s.now := rfl
@[simp] theorem State.setChan_tclk (k : Nat) (x : Chan) : (s.setChan k x).tclk = s.tclk := rfl
@[simp] theorem State.setChan_free (k : Nat) (x : Chan) : (s.setChan k x).free = s.free := rfl
@[simp] theorem State.setChan_regs (k : Nat) (x : Chan) : (s.setChan k x).regs = s.regs := rfl
@[simp] theorem State.setChan_mem (k : Nat) (x : Chan) : (s.setChan k x).mem = s.mem := rfl
@[simp] theorem State.setChan_fresh (k : Nat) (x : Chan) : (s.setChan k x).fresh = s.fresh := rfl
@[simp] theorem State.setChan_bus (k : Nat) (x : Chan) : (s.setChan k x).bus = s.bus := rfl
@[simp] theorem State.setChan_sys (k : Nat) (x : Chan) : (s.setChan k x).sys = s.sys := rfl
@[simp] theorem State.setChan_pwr (k : Nat) (x : Chan) : (s.setChan k x).pwr = s.pwr := rfl
@[simp] theorem State.setChan_clk (k : Nat) (x : Chan) : (s.setChan k x).clk = s.clk := rfl
@[simp] theorem State.setChan_irqs (k : Nat) (x : Chan) : (s.setChan k x).irqs = s.irqs := rfl
@[simp] theorem State.setChan_dmaHeld (k : Nat) (x : Chan) : (s.setChan k x).dmaHeld = s.dmaHeld := rfl
@[simp] theorem State.setChan_dmas (k : Nat) (x : Chan) : (s.setChan k x).dmas = s.dmas := rfl
@[simp] theorem State.setChan_tims (k : Nat) (x : Chan) : (s.setChan k x).tims = s.tims := rfl
@[simp] theorem State.setChan_pats (k : Nat) (x : Chan) : (s.setChan k x).pats = s.pats := rfl
@[simp] theorem State.setChan_patPins (k : Nat) (x : Chan) : (s.setChan k x).patPins = s.patPins := rfl
@[simp] theorem State.setChan_whls (k : Nat) (x : Chan) : (s.setChan k x).whls = s.whls := rfl
@[simp] theorem State.setChan_sim (k : Nat) (x : Chan) : (s.setChan k x).sim = s.sim := rfl
@[simp] theorem State.setChan_trks (k : Nat) (x : Chan) : (s.setChan k x).trks = s.trks := rfl
@[simp] theorem State.setChan_trkBefore (k : Nat) (x : Chan) : (s.setChan k x).trkBefore = s.trkBefore := rfl
@[simp] theorem State.setChan_voter (k : Nat) (x : Chan) : (s.setChan k x).voter = s.voter := rfl
@[simp] theorem State.setChan_sch (k : Nat) (x : Chan) : (s.setChan k x).sch = s.sch := rfl
@[simp] theorem State.setChan_adcs (k : Nat) (x : Chan) : (s.setChan k x).adcs = s.adcs := rfl
@[simp] theorem State.setChan_banks (k : Nat) (x : Chan) : (s.setChan k x).banks = s.banks := rfl
@[simp] theorem State.setChan_drv (k : Nat) (x : Chan) : (s.setChan k x).drv = s.drv := rfl
@[simp] theorem State.setChan_shotMirror (k : Nat) (x : Chan) : (s.setChan k x).shotMirror = s.shotMirror := rfl
@[simp] theorem State.setChan_wit (k : Nat) (x : Chan) : (s.setChan k x).wit = s.wit := rfl
@[simp] theorem State.setChan_flo (k : Nat) (x : Chan) : (s.setChan k x).flo = s.flo := rfl
@[simp] theorem State.setChan_hst (k : Nat) (x : Chan) : (s.setChan k x).hst = s.hst := rfl
@[simp] theorem State.setChan_sec (k : Nat) (x : Chan) : (s.setChan k x).sec = s.sec := rfl
@[simp] theorem State.setChan_cal (k : Nat) (x : Chan) : (s.setChan k x).cal = s.cal := rfl
@[simp] theorem State.setChan_tst (k : Nat) (x : Chan) : (s.setChan k x).tst = s.tst := rfl

-- setBank
@[simp] theorem State.setBank_pending (k : Nat) (x : Bank) : (s.setBank k x).pending = s.pending := rfl
@[simp] theorem State.setBank_now (k : Nat) (x : Bank) : (s.setBank k x).now = s.now := rfl
@[simp] theorem State.setBank_tclk (k : Nat) (x : Bank) : (s.setBank k x).tclk = s.tclk := rfl
@[simp] theorem State.setBank_free (k : Nat) (x : Bank) : (s.setBank k x).free = s.free := rfl
@[simp] theorem State.setBank_regs (k : Nat) (x : Bank) : (s.setBank k x).regs = s.regs := rfl
@[simp] theorem State.setBank_mem (k : Nat) (x : Bank) : (s.setBank k x).mem = s.mem := rfl
@[simp] theorem State.setBank_fresh (k : Nat) (x : Bank) : (s.setBank k x).fresh = s.fresh := rfl
@[simp] theorem State.setBank_bus (k : Nat) (x : Bank) : (s.setBank k x).bus = s.bus := rfl
@[simp] theorem State.setBank_sys (k : Nat) (x : Bank) : (s.setBank k x).sys = s.sys := rfl
@[simp] theorem State.setBank_pwr (k : Nat) (x : Bank) : (s.setBank k x).pwr = s.pwr := rfl
@[simp] theorem State.setBank_clk (k : Nat) (x : Bank) : (s.setBank k x).clk = s.clk := rfl
@[simp] theorem State.setBank_irqs (k : Nat) (x : Bank) : (s.setBank k x).irqs = s.irqs := rfl
@[simp] theorem State.setBank_dmaHeld (k : Nat) (x : Bank) : (s.setBank k x).dmaHeld = s.dmaHeld := rfl
@[simp] theorem State.setBank_dmas (k : Nat) (x : Bank) : (s.setBank k x).dmas = s.dmas := rfl
@[simp] theorem State.setBank_tims (k : Nat) (x : Bank) : (s.setBank k x).tims = s.tims := rfl
@[simp] theorem State.setBank_pats (k : Nat) (x : Bank) : (s.setBank k x).pats = s.pats := rfl
@[simp] theorem State.setBank_patPins (k : Nat) (x : Bank) : (s.setBank k x).patPins = s.patPins := rfl
@[simp] theorem State.setBank_whls (k : Nat) (x : Bank) : (s.setBank k x).whls = s.whls := rfl
@[simp] theorem State.setBank_sim (k : Nat) (x : Bank) : (s.setBank k x).sim = s.sim := rfl
@[simp] theorem State.setBank_trks (k : Nat) (x : Bank) : (s.setBank k x).trks = s.trks := rfl
@[simp] theorem State.setBank_trkBefore (k : Nat) (x : Bank) : (s.setBank k x).trkBefore = s.trkBefore := rfl
@[simp] theorem State.setBank_voter (k : Nat) (x : Bank) : (s.setBank k x).voter = s.voter := rfl
@[simp] theorem State.setBank_sch (k : Nat) (x : Bank) : (s.setBank k x).sch = s.sch := rfl
@[simp] theorem State.setBank_adcs (k : Nat) (x : Bank) : (s.setBank k x).adcs = s.adcs := rfl
@[simp] theorem State.setBank_chans (k : Nat) (x : Bank) : (s.setBank k x).chans = s.chans := rfl
@[simp] theorem State.setBank_drv (k : Nat) (x : Bank) : (s.setBank k x).drv = s.drv := rfl
@[simp] theorem State.setBank_shotMirror (k : Nat) (x : Bank) : (s.setBank k x).shotMirror = s.shotMirror := rfl
@[simp] theorem State.setBank_wit (k : Nat) (x : Bank) : (s.setBank k x).wit = s.wit := rfl
@[simp] theorem State.setBank_flo (k : Nat) (x : Bank) : (s.setBank k x).flo = s.flo := rfl
@[simp] theorem State.setBank_hst (k : Nat) (x : Bank) : (s.setBank k x).hst = s.hst := rfl
@[simp] theorem State.setBank_sec (k : Nat) (x : Bank) : (s.setBank k x).sec = s.sec := rfl
@[simp] theorem State.setBank_cal (k : Nat) (x : Bank) : (s.setBank k x).cal = s.cal := rfl
@[simp] theorem State.setBank_tst (k : Nat) (x : Bank) : (s.setBank k x).tst = s.tst := rfl

-- setTim
@[simp] theorem State.setTim_pending (k : Nat) (x : TimChan) : (s.setTim k x).pending = s.pending := rfl
@[simp] theorem State.setTim_now (k : Nat) (x : TimChan) : (s.setTim k x).now = s.now := rfl
@[simp] theorem State.setTim_tclk (k : Nat) (x : TimChan) : (s.setTim k x).tclk = s.tclk := rfl
@[simp] theorem State.setTim_free (k : Nat) (x : TimChan) : (s.setTim k x).free = s.free := rfl
@[simp] theorem State.setTim_regs (k : Nat) (x : TimChan) : (s.setTim k x).regs = s.regs := rfl
@[simp] theorem State.setTim_mem (k : Nat) (x : TimChan) : (s.setTim k x).mem = s.mem := rfl
@[simp] theorem State.setTim_fresh (k : Nat) (x : TimChan) : (s.setTim k x).fresh = s.fresh := rfl
@[simp] theorem State.setTim_bus (k : Nat) (x : TimChan) : (s.setTim k x).bus = s.bus := rfl
@[simp] theorem State.setTim_sys (k : Nat) (x : TimChan) : (s.setTim k x).sys = s.sys := rfl
@[simp] theorem State.setTim_pwr (k : Nat) (x : TimChan) : (s.setTim k x).pwr = s.pwr := rfl
@[simp] theorem State.setTim_clk (k : Nat) (x : TimChan) : (s.setTim k x).clk = s.clk := rfl
@[simp] theorem State.setTim_irqs (k : Nat) (x : TimChan) : (s.setTim k x).irqs = s.irqs := rfl
@[simp] theorem State.setTim_dmaHeld (k : Nat) (x : TimChan) : (s.setTim k x).dmaHeld = s.dmaHeld := rfl
@[simp] theorem State.setTim_dmas (k : Nat) (x : TimChan) : (s.setTim k x).dmas = s.dmas := rfl
@[simp] theorem State.setTim_pats (k : Nat) (x : TimChan) : (s.setTim k x).pats = s.pats := rfl
@[simp] theorem State.setTim_patPins (k : Nat) (x : TimChan) : (s.setTim k x).patPins = s.patPins := rfl
@[simp] theorem State.setTim_whls (k : Nat) (x : TimChan) : (s.setTim k x).whls = s.whls := rfl
@[simp] theorem State.setTim_sim (k : Nat) (x : TimChan) : (s.setTim k x).sim = s.sim := rfl
@[simp] theorem State.setTim_trks (k : Nat) (x : TimChan) : (s.setTim k x).trks = s.trks := rfl
@[simp] theorem State.setTim_trkBefore (k : Nat) (x : TimChan) : (s.setTim k x).trkBefore = s.trkBefore := rfl
@[simp] theorem State.setTim_voter (k : Nat) (x : TimChan) : (s.setTim k x).voter = s.voter := rfl
@[simp] theorem State.setTim_sch (k : Nat) (x : TimChan) : (s.setTim k x).sch = s.sch := rfl
@[simp] theorem State.setTim_adcs (k : Nat) (x : TimChan) : (s.setTim k x).adcs = s.adcs := rfl
@[simp] theorem State.setTim_chans (k : Nat) (x : TimChan) : (s.setTim k x).chans = s.chans := rfl
@[simp] theorem State.setTim_banks (k : Nat) (x : TimChan) : (s.setTim k x).banks = s.banks := rfl
@[simp] theorem State.setTim_drv (k : Nat) (x : TimChan) : (s.setTim k x).drv = s.drv := rfl
@[simp] theorem State.setTim_shotMirror (k : Nat) (x : TimChan) : (s.setTim k x).shotMirror = s.shotMirror := rfl
@[simp] theorem State.setTim_wit (k : Nat) (x : TimChan) : (s.setTim k x).wit = s.wit := rfl
@[simp] theorem State.setTim_flo (k : Nat) (x : TimChan) : (s.setTim k x).flo = s.flo := rfl
@[simp] theorem State.setTim_hst (k : Nat) (x : TimChan) : (s.setTim k x).hst = s.hst := rfl
@[simp] theorem State.setTim_sec (k : Nat) (x : TimChan) : (s.setTim k x).sec = s.sec := rfl
@[simp] theorem State.setTim_cal (k : Nat) (x : TimChan) : (s.setTim k x).cal = s.cal := rfl
@[simp] theorem State.setTim_tst (k : Nat) (x : TimChan) : (s.setTim k x).tst = s.tst := rfl

-- setWhl
@[simp] theorem State.setWhl_pending (k : Nat) (x : WhlInput) : (s.setWhl k x).pending = s.pending := rfl
@[simp] theorem State.setWhl_now (k : Nat) (x : WhlInput) : (s.setWhl k x).now = s.now := rfl
@[simp] theorem State.setWhl_tclk (k : Nat) (x : WhlInput) : (s.setWhl k x).tclk = s.tclk := rfl
@[simp] theorem State.setWhl_free (k : Nat) (x : WhlInput) : (s.setWhl k x).free = s.free := rfl
@[simp] theorem State.setWhl_regs (k : Nat) (x : WhlInput) : (s.setWhl k x).regs = s.regs := rfl
@[simp] theorem State.setWhl_mem (k : Nat) (x : WhlInput) : (s.setWhl k x).mem = s.mem := rfl
@[simp] theorem State.setWhl_fresh (k : Nat) (x : WhlInput) : (s.setWhl k x).fresh = s.fresh := rfl
@[simp] theorem State.setWhl_bus (k : Nat) (x : WhlInput) : (s.setWhl k x).bus = s.bus := rfl
@[simp] theorem State.setWhl_sys (k : Nat) (x : WhlInput) : (s.setWhl k x).sys = s.sys := rfl
@[simp] theorem State.setWhl_pwr (k : Nat) (x : WhlInput) : (s.setWhl k x).pwr = s.pwr := rfl
@[simp] theorem State.setWhl_clk (k : Nat) (x : WhlInput) : (s.setWhl k x).clk = s.clk := rfl
@[simp] theorem State.setWhl_irqs (k : Nat) (x : WhlInput) : (s.setWhl k x).irqs = s.irqs := rfl
@[simp] theorem State.setWhl_dmaHeld (k : Nat) (x : WhlInput) : (s.setWhl k x).dmaHeld = s.dmaHeld := rfl
@[simp] theorem State.setWhl_dmas (k : Nat) (x : WhlInput) : (s.setWhl k x).dmas = s.dmas := rfl
@[simp] theorem State.setWhl_tims (k : Nat) (x : WhlInput) : (s.setWhl k x).tims = s.tims := rfl
@[simp] theorem State.setWhl_pats (k : Nat) (x : WhlInput) : (s.setWhl k x).pats = s.pats := rfl
@[simp] theorem State.setWhl_patPins (k : Nat) (x : WhlInput) : (s.setWhl k x).patPins = s.patPins := rfl
@[simp] theorem State.setWhl_sim (k : Nat) (x : WhlInput) : (s.setWhl k x).sim = s.sim := rfl
@[simp] theorem State.setWhl_trks (k : Nat) (x : WhlInput) : (s.setWhl k x).trks = s.trks := rfl
@[simp] theorem State.setWhl_trkBefore (k : Nat) (x : WhlInput) : (s.setWhl k x).trkBefore = s.trkBefore := rfl
@[simp] theorem State.setWhl_voter (k : Nat) (x : WhlInput) : (s.setWhl k x).voter = s.voter := rfl
@[simp] theorem State.setWhl_sch (k : Nat) (x : WhlInput) : (s.setWhl k x).sch = s.sch := rfl
@[simp] theorem State.setWhl_adcs (k : Nat) (x : WhlInput) : (s.setWhl k x).adcs = s.adcs := rfl
@[simp] theorem State.setWhl_chans (k : Nat) (x : WhlInput) : (s.setWhl k x).chans = s.chans := rfl
@[simp] theorem State.setWhl_banks (k : Nat) (x : WhlInput) : (s.setWhl k x).banks = s.banks := rfl
@[simp] theorem State.setWhl_drv (k : Nat) (x : WhlInput) : (s.setWhl k x).drv = s.drv := rfl
@[simp] theorem State.setWhl_shotMirror (k : Nat) (x : WhlInput) : (s.setWhl k x).shotMirror = s.shotMirror := rfl
@[simp] theorem State.setWhl_wit (k : Nat) (x : WhlInput) : (s.setWhl k x).wit = s.wit := rfl
@[simp] theorem State.setWhl_flo (k : Nat) (x : WhlInput) : (s.setWhl k x).flo = s.flo := rfl
@[simp] theorem State.setWhl_hst (k : Nat) (x : WhlInput) : (s.setWhl k x).hst = s.hst := rfl
@[simp] theorem State.setWhl_sec (k : Nat) (x : WhlInput) : (s.setWhl k x).sec = s.sec := rfl
@[simp] theorem State.setWhl_cal (k : Nat) (x : WhlInput) : (s.setWhl k x).cal = s.cal := rfl
@[simp] theorem State.setWhl_tst (k : Nat) (x : WhlInput) : (s.setWhl k x).tst = s.tst := rfl

-- setFloPort
@[simp] theorem State.setFloPort_pending (k : Nat) (x : FloPort) : (s.setFloPort k x).pending = s.pending := rfl
@[simp] theorem State.setFloPort_now (k : Nat) (x : FloPort) : (s.setFloPort k x).now = s.now := rfl
@[simp] theorem State.setFloPort_tclk (k : Nat) (x : FloPort) : (s.setFloPort k x).tclk = s.tclk := rfl
@[simp] theorem State.setFloPort_free (k : Nat) (x : FloPort) : (s.setFloPort k x).free = s.free := rfl
@[simp] theorem State.setFloPort_regs (k : Nat) (x : FloPort) : (s.setFloPort k x).regs = s.regs := rfl
@[simp] theorem State.setFloPort_mem (k : Nat) (x : FloPort) : (s.setFloPort k x).mem = s.mem := rfl
@[simp] theorem State.setFloPort_fresh (k : Nat) (x : FloPort) : (s.setFloPort k x).fresh = s.fresh := rfl
@[simp] theorem State.setFloPort_bus (k : Nat) (x : FloPort) : (s.setFloPort k x).bus = s.bus := rfl
@[simp] theorem State.setFloPort_sys (k : Nat) (x : FloPort) : (s.setFloPort k x).sys = s.sys := rfl
@[simp] theorem State.setFloPort_pwr (k : Nat) (x : FloPort) : (s.setFloPort k x).pwr = s.pwr := rfl
@[simp] theorem State.setFloPort_clk (k : Nat) (x : FloPort) : (s.setFloPort k x).clk = s.clk := rfl
@[simp] theorem State.setFloPort_irqs (k : Nat) (x : FloPort) : (s.setFloPort k x).irqs = s.irqs := rfl
@[simp] theorem State.setFloPort_dmaHeld (k : Nat) (x : FloPort) : (s.setFloPort k x).dmaHeld = s.dmaHeld := rfl
@[simp] theorem State.setFloPort_dmas (k : Nat) (x : FloPort) : (s.setFloPort k x).dmas = s.dmas := rfl
@[simp] theorem State.setFloPort_tims (k : Nat) (x : FloPort) : (s.setFloPort k x).tims = s.tims := rfl
@[simp] theorem State.setFloPort_pats (k : Nat) (x : FloPort) : (s.setFloPort k x).pats = s.pats := rfl
@[simp] theorem State.setFloPort_patPins (k : Nat) (x : FloPort) : (s.setFloPort k x).patPins = s.patPins := rfl
@[simp] theorem State.setFloPort_whls (k : Nat) (x : FloPort) : (s.setFloPort k x).whls = s.whls := rfl
@[simp] theorem State.setFloPort_sim (k : Nat) (x : FloPort) : (s.setFloPort k x).sim = s.sim := rfl
@[simp] theorem State.setFloPort_trks (k : Nat) (x : FloPort) : (s.setFloPort k x).trks = s.trks := rfl
@[simp] theorem State.setFloPort_trkBefore (k : Nat) (x : FloPort) : (s.setFloPort k x).trkBefore = s.trkBefore := rfl
@[simp] theorem State.setFloPort_voter (k : Nat) (x : FloPort) : (s.setFloPort k x).voter = s.voter := rfl
@[simp] theorem State.setFloPort_sch (k : Nat) (x : FloPort) : (s.setFloPort k x).sch = s.sch := rfl
@[simp] theorem State.setFloPort_adcs (k : Nat) (x : FloPort) : (s.setFloPort k x).adcs = s.adcs := rfl
@[simp] theorem State.setFloPort_chans (k : Nat) (x : FloPort) : (s.setFloPort k x).chans = s.chans := rfl
@[simp] theorem State.setFloPort_banks (k : Nat) (x : FloPort) : (s.setFloPort k x).banks = s.banks := rfl
@[simp] theorem State.setFloPort_drv (k : Nat) (x : FloPort) : (s.setFloPort k x).drv = s.drv := rfl
@[simp] theorem State.setFloPort_shotMirror (k : Nat) (x : FloPort) : (s.setFloPort k x).shotMirror = s.shotMirror := rfl
@[simp] theorem State.setFloPort_wit (k : Nat) (x : FloPort) : (s.setFloPort k x).wit = s.wit := rfl
@[simp] theorem State.setFloPort_hst (k : Nat) (x : FloPort) : (s.setFloPort k x).hst = s.hst := rfl
@[simp] theorem State.setFloPort_sec (k : Nat) (x : FloPort) : (s.setFloPort k x).sec = s.sec := rfl
@[simp] theorem State.setFloPort_cal (k : Nat) (x : FloPort) : (s.setFloPort k x).cal = s.cal := rfl
@[simp] theorem State.setFloPort_tst (k : Nat) (x : FloPort) : (s.setFloPort k x).tst = s.tst := rfl

-- setPatCtx
@[simp] theorem State.setPatCtx_pending (e : Nat) (c : Nat) (x : PatCtx) : (s.setPatCtx e c x).pending = s.pending := rfl
@[simp] theorem State.setPatCtx_now (e : Nat) (c : Nat) (x : PatCtx) : (s.setPatCtx e c x).now = s.now := rfl
@[simp] theorem State.setPatCtx_tclk (e : Nat) (c : Nat) (x : PatCtx) : (s.setPatCtx e c x).tclk = s.tclk := rfl
@[simp] theorem State.setPatCtx_free (e : Nat) (c : Nat) (x : PatCtx) : (s.setPatCtx e c x).free = s.free := rfl
@[simp] theorem State.setPatCtx_regs (e : Nat) (c : Nat) (x : PatCtx) : (s.setPatCtx e c x).regs = s.regs := rfl
@[simp] theorem State.setPatCtx_mem (e : Nat) (c : Nat) (x : PatCtx) : (s.setPatCtx e c x).mem = s.mem := rfl
@[simp] theorem State.setPatCtx_fresh (e : Nat) (c : Nat) (x : PatCtx) : (s.setPatCtx e c x).fresh = s.fresh := rfl
@[simp] theorem State.setPatCtx_bus (e : Nat) (c : Nat) (x : PatCtx) : (s.setPatCtx e c x).bus = s.bus := rfl
@[simp] theorem State.setPatCtx_sys (e : Nat) (c : Nat) (x : PatCtx) : (s.setPatCtx e c x).sys = s.sys := rfl
@[simp] theorem State.setPatCtx_pwr (e : Nat) (c : Nat) (x : PatCtx) : (s.setPatCtx e c x).pwr = s.pwr := rfl
@[simp] theorem State.setPatCtx_clk (e : Nat) (c : Nat) (x : PatCtx) : (s.setPatCtx e c x).clk = s.clk := rfl
@[simp] theorem State.setPatCtx_irqs (e : Nat) (c : Nat) (x : PatCtx) : (s.setPatCtx e c x).irqs = s.irqs := rfl
@[simp] theorem State.setPatCtx_dmaHeld (e : Nat) (c : Nat) (x : PatCtx) : (s.setPatCtx e c x).dmaHeld = s.dmaHeld := rfl
@[simp] theorem State.setPatCtx_dmas (e : Nat) (c : Nat) (x : PatCtx) : (s.setPatCtx e c x).dmas = s.dmas := rfl
@[simp] theorem State.setPatCtx_tims (e : Nat) (c : Nat) (x : PatCtx) : (s.setPatCtx e c x).tims = s.tims := rfl
@[simp] theorem State.setPatCtx_patPins (e : Nat) (c : Nat) (x : PatCtx) : (s.setPatCtx e c x).patPins = s.patPins := rfl
@[simp] theorem State.setPatCtx_whls (e : Nat) (c : Nat) (x : PatCtx) : (s.setPatCtx e c x).whls = s.whls := rfl
@[simp] theorem State.setPatCtx_sim (e : Nat) (c : Nat) (x : PatCtx) : (s.setPatCtx e c x).sim = s.sim := rfl
@[simp] theorem State.setPatCtx_trks (e : Nat) (c : Nat) (x : PatCtx) : (s.setPatCtx e c x).trks = s.trks := rfl
@[simp] theorem State.setPatCtx_trkBefore (e : Nat) (c : Nat) (x : PatCtx) : (s.setPatCtx e c x).trkBefore = s.trkBefore := rfl
@[simp] theorem State.setPatCtx_voter (e : Nat) (c : Nat) (x : PatCtx) : (s.setPatCtx e c x).voter = s.voter := rfl
@[simp] theorem State.setPatCtx_sch (e : Nat) (c : Nat) (x : PatCtx) : (s.setPatCtx e c x).sch = s.sch := rfl
@[simp] theorem State.setPatCtx_adcs (e : Nat) (c : Nat) (x : PatCtx) : (s.setPatCtx e c x).adcs = s.adcs := rfl
@[simp] theorem State.setPatCtx_chans (e : Nat) (c : Nat) (x : PatCtx) : (s.setPatCtx e c x).chans = s.chans := rfl
@[simp] theorem State.setPatCtx_banks (e : Nat) (c : Nat) (x : PatCtx) : (s.setPatCtx e c x).banks = s.banks := rfl
@[simp] theorem State.setPatCtx_drv (e : Nat) (c : Nat) (x : PatCtx) : (s.setPatCtx e c x).drv = s.drv := rfl
@[simp] theorem State.setPatCtx_shotMirror (e : Nat) (c : Nat) (x : PatCtx) : (s.setPatCtx e c x).shotMirror = s.shotMirror := rfl
@[simp] theorem State.setPatCtx_wit (e : Nat) (c : Nat) (x : PatCtx) : (s.setPatCtx e c x).wit = s.wit := rfl
@[simp] theorem State.setPatCtx_flo (e : Nat) (c : Nat) (x : PatCtx) : (s.setPatCtx e c x).flo = s.flo := rfl
@[simp] theorem State.setPatCtx_hst (e : Nat) (c : Nat) (x : PatCtx) : (s.setPatCtx e c x).hst = s.hst := rfl
@[simp] theorem State.setPatCtx_sec (e : Nat) (c : Nat) (x : PatCtx) : (s.setPatCtx e c x).sec = s.sec := rfl
@[simp] theorem State.setPatCtx_cal (e : Nat) (c : Nat) (x : PatCtx) : (s.setPatCtx e c x).cal = s.cal := rfl
@[simp] theorem State.setPatCtx_tst (e : Nat) (c : Nat) (x : PatCtx) : (s.setPatCtx e c x).tst = s.tst := rfl

-- setBefore
@[simp] theorem State.setBefore_pending (x : Nat) (b : Option TrkBefore) : (s.setBefore x b).pending = s.pending := rfl
@[simp] theorem State.setBefore_now (x : Nat) (b : Option TrkBefore) : (s.setBefore x b).now = s.now := rfl
@[simp] theorem State.setBefore_tclk (x : Nat) (b : Option TrkBefore) : (s.setBefore x b).tclk = s.tclk := rfl
@[simp] theorem State.setBefore_free (x : Nat) (b : Option TrkBefore) : (s.setBefore x b).free = s.free := rfl
@[simp] theorem State.setBefore_regs (x : Nat) (b : Option TrkBefore) : (s.setBefore x b).regs = s.regs := rfl
@[simp] theorem State.setBefore_mem (x : Nat) (b : Option TrkBefore) : (s.setBefore x b).mem = s.mem := rfl
@[simp] theorem State.setBefore_fresh (x : Nat) (b : Option TrkBefore) : (s.setBefore x b).fresh = s.fresh := rfl
@[simp] theorem State.setBefore_bus (x : Nat) (b : Option TrkBefore) : (s.setBefore x b).bus = s.bus := rfl
@[simp] theorem State.setBefore_sys (x : Nat) (b : Option TrkBefore) : (s.setBefore x b).sys = s.sys := rfl
@[simp] theorem State.setBefore_pwr (x : Nat) (b : Option TrkBefore) : (s.setBefore x b).pwr = s.pwr := rfl
@[simp] theorem State.setBefore_clk (x : Nat) (b : Option TrkBefore) : (s.setBefore x b).clk = s.clk := rfl
@[simp] theorem State.setBefore_irqs (x : Nat) (b : Option TrkBefore) : (s.setBefore x b).irqs = s.irqs := rfl
@[simp] theorem State.setBefore_dmaHeld (x : Nat) (b : Option TrkBefore) : (s.setBefore x b).dmaHeld = s.dmaHeld := rfl
@[simp] theorem State.setBefore_dmas (x : Nat) (b : Option TrkBefore) : (s.setBefore x b).dmas = s.dmas := rfl
@[simp] theorem State.setBefore_tims (x : Nat) (b : Option TrkBefore) : (s.setBefore x b).tims = s.tims := rfl
@[simp] theorem State.setBefore_pats (x : Nat) (b : Option TrkBefore) : (s.setBefore x b).pats = s.pats := rfl
@[simp] theorem State.setBefore_patPins (x : Nat) (b : Option TrkBefore) : (s.setBefore x b).patPins = s.patPins := rfl
@[simp] theorem State.setBefore_whls (x : Nat) (b : Option TrkBefore) : (s.setBefore x b).whls = s.whls := rfl
@[simp] theorem State.setBefore_sim (x : Nat) (b : Option TrkBefore) : (s.setBefore x b).sim = s.sim := rfl
@[simp] theorem State.setBefore_trks (x : Nat) (b : Option TrkBefore) : (s.setBefore x b).trks = s.trks := rfl
@[simp] theorem State.setBefore_voter (x : Nat) (b : Option TrkBefore) : (s.setBefore x b).voter = s.voter := rfl
@[simp] theorem State.setBefore_sch (x : Nat) (b : Option TrkBefore) : (s.setBefore x b).sch = s.sch := rfl
@[simp] theorem State.setBefore_adcs (x : Nat) (b : Option TrkBefore) : (s.setBefore x b).adcs = s.adcs := rfl
@[simp] theorem State.setBefore_chans (x : Nat) (b : Option TrkBefore) : (s.setBefore x b).chans = s.chans := rfl
@[simp] theorem State.setBefore_banks (x : Nat) (b : Option TrkBefore) : (s.setBefore x b).banks = s.banks := rfl
@[simp] theorem State.setBefore_drv (x : Nat) (b : Option TrkBefore) : (s.setBefore x b).drv = s.drv := rfl
@[simp] theorem State.setBefore_shotMirror (x : Nat) (b : Option TrkBefore) : (s.setBefore x b).shotMirror = s.shotMirror := rfl
@[simp] theorem State.setBefore_wit (x : Nat) (b : Option TrkBefore) : (s.setBefore x b).wit = s.wit := rfl
@[simp] theorem State.setBefore_flo (x : Nat) (b : Option TrkBefore) : (s.setBefore x b).flo = s.flo := rfl
@[simp] theorem State.setBefore_hst (x : Nat) (b : Option TrkBefore) : (s.setBefore x b).hst = s.hst := rfl
@[simp] theorem State.setBefore_sec (x : Nat) (b : Option TrkBefore) : (s.setBefore x b).sec = s.sec := rfl
@[simp] theorem State.setBefore_cal (x : Nat) (b : Option TrkBefore) : (s.setBefore x b).cal = s.cal := rfl
@[simp] theorem State.setBefore_tst (x : Nat) (b : Option TrkBefore) : (s.setBefore x b).tst = s.tst := rfl

-- setCanPart
@[simp] theorem State.setCanPart_pending (x : Nat) (p : Option CanPart) : (s.setCanPart x p).pending = s.pending := rfl
@[simp] theorem State.setCanPart_now (x : Nat) (p : Option CanPart) : (s.setCanPart x p).now = s.now := rfl
@[simp] theorem State.setCanPart_tclk (x : Nat) (p : Option CanPart) : (s.setCanPart x p).tclk = s.tclk := rfl
@[simp] theorem State.setCanPart_free (x : Nat) (p : Option CanPart) : (s.setCanPart x p).free = s.free := rfl
@[simp] theorem State.setCanPart_regs (x : Nat) (p : Option CanPart) : (s.setCanPart x p).regs = s.regs := rfl
@[simp] theorem State.setCanPart_mem (x : Nat) (p : Option CanPart) : (s.setCanPart x p).mem = s.mem := rfl
@[simp] theorem State.setCanPart_fresh (x : Nat) (p : Option CanPart) : (s.setCanPart x p).fresh = s.fresh := rfl
@[simp] theorem State.setCanPart_bus (x : Nat) (p : Option CanPart) : (s.setCanPart x p).bus = s.bus := rfl
@[simp] theorem State.setCanPart_sys (x : Nat) (p : Option CanPart) : (s.setCanPart x p).sys = s.sys := rfl
@[simp] theorem State.setCanPart_pwr (x : Nat) (p : Option CanPart) : (s.setCanPart x p).pwr = s.pwr := rfl
@[simp] theorem State.setCanPart_clk (x : Nat) (p : Option CanPart) : (s.setCanPart x p).clk = s.clk := rfl
@[simp] theorem State.setCanPart_irqs (x : Nat) (p : Option CanPart) : (s.setCanPart x p).irqs = s.irqs := rfl
@[simp] theorem State.setCanPart_dmaHeld (x : Nat) (p : Option CanPart) : (s.setCanPart x p).dmaHeld = s.dmaHeld := rfl
@[simp] theorem State.setCanPart_dmas (x : Nat) (p : Option CanPart) : (s.setCanPart x p).dmas = s.dmas := rfl
@[simp] theorem State.setCanPart_tims (x : Nat) (p : Option CanPart) : (s.setCanPart x p).tims = s.tims := rfl
@[simp] theorem State.setCanPart_pats (x : Nat) (p : Option CanPart) : (s.setCanPart x p).pats = s.pats := rfl
@[simp] theorem State.setCanPart_patPins (x : Nat) (p : Option CanPart) : (s.setCanPart x p).patPins = s.patPins := rfl
@[simp] theorem State.setCanPart_whls (x : Nat) (p : Option CanPart) : (s.setCanPart x p).whls = s.whls := rfl
@[simp] theorem State.setCanPart_sim (x : Nat) (p : Option CanPart) : (s.setCanPart x p).sim = s.sim := rfl
@[simp] theorem State.setCanPart_trks (x : Nat) (p : Option CanPart) : (s.setCanPart x p).trks = s.trks := rfl
@[simp] theorem State.setCanPart_trkBefore (x : Nat) (p : Option CanPart) : (s.setCanPart x p).trkBefore = s.trkBefore := rfl
@[simp] theorem State.setCanPart_voter (x : Nat) (p : Option CanPart) : (s.setCanPart x p).voter = s.voter := rfl
@[simp] theorem State.setCanPart_sch (x : Nat) (p : Option CanPart) : (s.setCanPart x p).sch = s.sch := rfl
@[simp] theorem State.setCanPart_adcs (x : Nat) (p : Option CanPart) : (s.setCanPart x p).adcs = s.adcs := rfl
@[simp] theorem State.setCanPart_chans (x : Nat) (p : Option CanPart) : (s.setCanPart x p).chans = s.chans := rfl
@[simp] theorem State.setCanPart_banks (x : Nat) (p : Option CanPart) : (s.setCanPart x p).banks = s.banks := rfl
@[simp] theorem State.setCanPart_drv (x : Nat) (p : Option CanPart) : (s.setCanPart x p).drv = s.drv := rfl
@[simp] theorem State.setCanPart_shotMirror (x : Nat) (p : Option CanPart) : (s.setCanPart x p).shotMirror = s.shotMirror := rfl
@[simp] theorem State.setCanPart_wit (x : Nat) (p : Option CanPart) : (s.setCanPart x p).wit = s.wit := rfl
@[simp] theorem State.setCanPart_flo (x : Nat) (p : Option CanPart) : (s.setCanPart x p).flo = s.flo := rfl
@[simp] theorem State.setCanPart_sec (x : Nat) (p : Option CanPart) : (s.setCanPart x p).sec = s.sec := rfl
@[simp] theorem State.setCanPart_cal (x : Nat) (p : Option CanPart) : (s.setCanPart x p).cal = s.cal := rfl
@[simp] theorem State.setCanPart_tst (x : Nat) (p : Option CanPart) : (s.setCanPart x p).tst = s.tst := rfl

end Sys2Proof.Machine
end

