-- ==== Sys2Proof/Laws/Tables.lean ====
section
/-! SUPPORT. Sparse tables: reading after writing, and that every write keeps the canonical form; then the same for registers, fields and
memory. -/

namespace Sys2Proof.Machine

-- ── Sparse tables ─────────────────────────────────────────────────────────────────────────────────────────────────

section sparse
variable {α : Type} [DecidableEq α] {d : Nat → α}

/-- The head of a canonical table that is not empty lies above `k`. -/
def above (k : Nat) : Sparse α → Prop
  | [] => True
  | (k', _) :: _ => k < k'

theorem spWf_cons {k : Nat} {v : α} {r : Sparse α} : spWf d ((k, v) :: r) = true ↔ v ≠ d k ∧ above k r ∧ spWf d r = true := by
  cases r with
  | nil => simp [spWf, above]
  | cons e r => obtain ⟨k', v'⟩ := e; simp [spWf, above, and_assoc]

omit [DecidableEq α] in
theorem spGet_above {k j : Nat} {r : Sparse α} (h : above k r) (hj : j ≤ k) : spGet d r j = d j := by
  cases r with
  | nil => rfl
  | cons e r =>
    obtain ⟨k', v'⟩ := e
    have h1 : k < k' := h
    have h2 : j ≠ k' := by omega
    have h3 : j < k' := by omega
    simp [spGet, h2, h3]

omit [DecidableEq α] in
theorem above_mono {k j : Nat} {r : Sparse α} (h : above k r) (hj : j ≤ k) : above j r := by
  cases r with
  | nil => trivial
  | cons e r => exact Nat.lt_of_le_of_lt hj h

omit [DecidableEq α] in
theorem above_dropWhile {k : Nat} {r : Sparse α} (h : above k r) : r.dropWhile (fun e => decide (e.1 ≤ k)) = r := by
  cases r with
  | nil => rfl
  | cons e r =>
    have h1 : ¬ e.1 ≤ k := Nat.not_le.mpr h
    simp [h1]

theorem above_spPut {k j : Nat} {v : α} {r : Sparse α} (h : above k r) (hj : k < j) (hw : spWf d r = true) : above k (spPut d r j v) := by
  cases r with
  | nil => by_cases hv : v = d j <;> simp [spPut, hv, above, hj]
  | cons e r =>
    obtain ⟨k', v'⟩ := e
    have h1 : k < k' := h
    have hr : above k r := above_mono (spWf_cons.mp hw).2.1 (Nat.le_of_lt h1)
    by_cases h2 : j < k'
    · by_cases hv : v = d j <;> simp [spPut, h2, hv, above, hj, h1]
    · by_cases h3 : j = k'
      · subst h3
        by_cases hv : v = d j
        · simp only [spPut, Nat.lt_irrefl, if_false, hv, if_true]
          rw [above_dropWhile (spWf_cons.mp hw).2.1]; exact hr
        · simp [spPut, hv, above, hj]
      · simp [spPut, h2, h3, above, h1]

/-- A write keeps the canonical form. -/
theorem spWf_spPut (l : Sparse α) (k : Nat) (v : α) (hw : spWf d l = true) : spWf d (spPut d l k v) = true := by
  induction l with
  | nil => by_cases hv : v = d k <;> simp [spPut, spWf, hv]
  | cons e r ih =>
    obtain ⟨k', v'⟩ := e
    have h0 := spWf_cons.mp hw
    by_cases h2 : k < k'
    · by_cases hv : v = d k
      · simpa [spPut, h2, hv] using hw
      · simp only [spPut, h2, if_true, hv, if_false]
        exact spWf_cons.mpr ⟨hv, h2, hw⟩
    · by_cases h3 : k = k'
      · subst h3
        by_cases hv : v = d k
        · simp only [spPut, Nat.lt_irrefl, if_false, hv, if_true]
          rw [above_dropWhile h0.2.1]; exact h0.2.2
        · simp only [spPut, Nat.lt_irrefl, if_false, hv, if_true]
          exact spWf_cons.mpr ⟨hv, h0.2.1, h0.2.2⟩
      · simp only [spPut, h2, h3, if_false]
        exact spWf_cons.mpr ⟨h0.1, above_spPut h0.2.1 (by omega) h0.2.2, ih h0.2.2⟩

omit [DecidableEq α] in
/-- What `spPut` drops lies at or below its key: keys above it read as before, the others as unlisted. -/
theorem spGet_dropWhile (r : Sparse α) (k j : Nat) :
    spGet d (r.dropWhile (fun e => decide (e.1 ≤ k))) j = if j ≤ k then d j else spGet d r j := by
  induction r with
  | nil => by_cases h : j ≤ k <;> simp [spGet, h]
  | cons e r ih =>
    obtain ⟨k', v'⟩ := e
    by_cases h1 : k' ≤ k
    · rw [List.dropWhile_cons_of_pos (by simpa using h1), ih]
      by_cases h : j ≤ k
      · simp [h]
      · have h2 : j ≠ k' := by omega
        have h3 : ¬ j < k' := by omega
        simp [h, spGet, h2, h3]
    · rw [List.dropWhile_cons_of_neg (by simpa using h1)]
      by_cases h : j ≤ k
      · have h2 : j ≠ k' := by omega
        have h3 : j < k' := by omega
        simp [h, spGet, h2, h3]
      · simp [h]

/-- A read after a write gives the value written; every other key reads as before. -/
theorem spGet_spPut (l : Sparse α) (k j : Nat) (v : α) : spGet d (spPut d l k v) j = if j = k then v else spGet d l j := by
  induction l with
  | nil =>
    by_cases hv : v = d k <;> by_cases hj : j = k <;> simp_all [spPut, spGet]
  | cons e r ih =>
    obtain ⟨k', v'⟩ := e
    by_cases h2 : k < k'
    · by_cases hv : v = d k
      · by_cases hj : j = k
        · subst hj
          have hn : j ≠ k' := by omega
          simp [spPut, h2, hv, spGet, hn]
        · simp [spPut, h2, hv, hj]
      · by_cases hj : j = k
        · subst hj; simp [spPut, h2, hv, spGet]
        · by_cases hlt : j < k
          · have hn : j ≠ k' := by omega
            have hl : j < k' := by omega
            simp [spPut, h2, hv, hj, spGet, hlt, hn, hl]
          · simp [spPut, h2, hv, hj, spGet, hlt]
    · by_cases h3 : k = k'
      · subst h3
        by_cases hv : v = d k
        · simp only [spPut, Nat.lt_irrefl, if_false, hv, if_true]
          rw [spGet_dropWhile]
          by_cases hj : j = k
          · subst hj; simp
          · by_cases hlt : j < k
            · have : j ≤ k := by omega
              simp [hj, spGet, hlt, this]
            · have : ¬ j ≤ k := by omega
              simp [hj, spGet, hlt, this]
        · by_cases hj : j = k <;> simp [spPut, hv, spGet, hj]
      · have hlt : k' < k := by omega
        simp only [spPut, h2, h3, if_false]
        by_cases hj : j = k'
        · subst hj
          have hn : j ≠ k := by omega
          simp [spGet, hn]
        · by_cases hl : j < k'
          · have hn : j ≠ k := by omega
            simp [spGet, hj, hl, hn]
          · simp only [spGet, hj, hl, if_false]
            exact ih

theorem spWf_filter (p : Nat × α → Bool) (l : Sparse α) (hw : spWf d l = true) : spWf d (l.filter p) = true := by
  induction l with
  | nil => rfl
  | cons e r ih =>
    obtain ⟨k, v⟩ := e
    have h0 := spWf_cons.mp hw
    have ha : ∀ r : Sparse α, above k r → spWf d r = true → above k (r.filter p) := by
      intro r
      induction r with
      | nil => intros; trivial
      | cons e' r' ih' =>
        intro h1 h2
        obtain ⟨k', v'⟩ := e'
        have h3 := spWf_cons.mp h2
        by_cases hp : p (k', v') = true
        · simp only [List.filter_cons, hp, if_true]; exact h1
        · simp only [List.filter_cons, hp]
          exact ih' (above_mono h3.2.1 (Nat.le_of_lt h1)) h3.2.2
    by_cases hp : p (k, v) = true
    · simp only [List.filter_cons, hp, if_true]
      exact spWf_cons.mpr ⟨h0.1, ha r h0.2.1 h0.2.2, ih h0.2.2⟩
    · simp only [List.filter_cons, hp]
      exact ih h0.2.2

end sparse

-- ── Registers and fields ──────────────────────────────────────────────────────────────────────────────────────────

variable (s : State)

theorem word_setWord (a b : Nat) (v : Word) : (s.setWord a v).word b = if b = a then v else s.word b := spGet_spPut _ _ _ _

theorem regs_setWord (a : Nat) (v : Word) (h : spWf regReset s.regs = true) : spWf regReset (s.setWord a v).regs = true :=
  spWf_spPut _ _ _ h

theorem regs_set (f : FReg) (v : Nat) (h : spWf regReset s.regs = true) : spWf regReset (s.set f v).regs = true := spWf_spPut _ _ _ h

/-- A field in another register is left alone. -/
theorem get_setWord_other (f : FReg) (a : Nat) (v : Word) (hf : f.addr ≠ a) : (s.setWord a v).get f = s.get f := by
  simp [State.get, word_setWord, hf]

theorem get_set_other (f g : FReg) (v : Nat) (hf : g.addr ≠ f.addr) : (s.set f v).get g = s.get g := get_setWord_other s g _ _ hf

-- ── Fields of a word ──────────────────────────────────────────────────────────────────────────────────────────────

theorem testBit_mask (f : FReg) (h : f.lo + f.w ≤ 32) (i : Nat) :
    (FReg.mask f).toNat.testBit i = (decide (f.lo ≤ i) && decide (i < f.lo + f.w)) := by
  have hw : 2 ^ f.w - 1 < 2 ^ 32 := Nat.lt_of_lt_of_le (Nat.sub_lt (Nat.two_pow_pos _) Nat.one_pos) (Nat.pow_le_pow_right (by omega) (by omega))
  simp only [FReg.mask, BitVec.toNat_shiftLeft, BitVec.toNat_ofNat, Nat.testBit_mod_two_pow, Nat.testBit_shiftLeft, Nat.mod_eq_of_lt hw,
    Nat.testBit_two_pow_sub_one]
  by_cases h1 : f.lo ≤ i <;> by_cases h2 : i < f.lo + f.w <;> simp [h1, h2] <;> omega

theorem testBit_field (f : FReg) (w : Word) (i : Nat) : (fieldOf f w).testBit i = (decide (i < f.w) && w.toNat.testBit (f.lo + i)) := by
  simp [fieldOf, Nat.testBit_mod_two_pow, Nat.testBit_shiftRight, Nat.add_comm]

theorem testBit_withField (f : FReg) (w : Word) (v i : Nat) (h : f.lo + f.w ≤ 32) :
    (withField f w v).toNat.testBit i =
      if f.lo ≤ i ∧ i < f.lo + f.w then v.testBit (i - f.lo) else w.toNat.testBit i := by
  have hv : v % 2 ^ f.w < 2 ^ 32 := Nat.lt_of_lt_of_le (Nat.mod_lt _ (Nat.two_pow_pos _)) (Nat.pow_le_pow_right (by omega) (by omega))
  have hm := testBit_mask f h i
  by_cases hi : i < 32
  · have e : (withField f w v).toNat.testBit i = (withField f w v).getLsbD i := rfl
    have em : (FReg.mask f).getLsbD i = (decide (f.lo ≤ i) && decide (i < f.lo + f.w)) := hm
    have ew : w.toNat.testBit i = w.getLsbD i := rfl
    rw [e, ew]
    simp only [withField, BitVec.getLsbD_or, BitVec.getLsbD_and, BitVec.getLsbD_not, em, BitVec.getLsbD_shiftLeft, BitVec.getLsbD_ofNat,
      Nat.testBit_mod_two_pow]
    by_cases h1 : f.lo ≤ i <;> by_cases h2 : i < f.lo + f.w <;> simp [h1, h2, hi] <;> (try omega)
    · have : i - f.lo < f.w := by omega
      have : i - f.lo < 32 := by omega
      simp [*]
  · have h1 : ¬ (f.lo ≤ i ∧ i < f.lo + f.w) := by omega
    have big : ∀ x : Word, x.toNat.testBit i = false := fun x =>
      Nat.testBit_lt_two_pow (Nat.lt_of_lt_of_le x.isLt (Nat.pow_le_pow_right (by omega) (by omega)))
    simp [h1, big]

theorem fieldOf_withField (f : FReg) (w : Word) (v : Nat) (h : f.lo + f.w ≤ 32) : fieldOf f (withField f w v) = v % 2 ^ f.w := by
  apply Nat.eq_of_testBit_eq
  intro i
  rw [testBit_field, testBit_withField _ _ _ _ h, Nat.testBit_mod_two_pow]
  by_cases hi : i < f.w <;> simp [hi]

theorem fieldOf_withField_other (f g : FReg) (w : Word) (v : Nat) (h : f.lo + f.w ≤ 32)
    (hd : g.lo + g.w ≤ f.lo ∨ f.lo + f.w ≤ g.lo) : fieldOf g (withField f w v) = fieldOf g w := by
  apply Nat.eq_of_testBit_eq
  intro i
  rw [testBit_field, testBit_field, testBit_withField _ _ _ _ h]
  by_cases hi : i < g.w
  · have : ¬ (f.lo ≤ g.lo + i ∧ g.lo + i < f.lo + f.w) := by omega
    simp [hi, this]
  · simp [hi]

theorem get_set (f : FReg) (v : Nat) (hw : f.lo + f.w ≤ 32) : (s.set f v).get f = v % 2 ^ f.w := by
  simp [State.get, State.set, word_setWord, fieldOf_withField _ _ _ hw]

theorem get_set_field (f g : FReg) (v : Nat) (hw : f.lo + f.w ≤ 32)
    (hd : g.lo + g.w ≤ f.lo ∨ f.lo + f.w ≤ g.lo) : (s.set f v).get g = s.get g := by
  by_cases ha : g.addr = f.addr
  · simp [State.get, State.set, word_setWord, ha, fieldOf_withField_other _ _ _ _ hw hd]
  · exact get_set_other s f g v ha

-- ── Memory ────────────────────────────────────────────────────────────────────────────────────────────────────────

theorem memory_setByte (a : Nat) (v : Byte) (h : Memory.wf s.mem = true) : Memory.wf (s.setByte a v).mem = true := spWf_spPut _ _ _ h

theorem byte_setByte (a b : Nat) (v : Byte) : (s.setByte a v).byte b = if b = a then v else s.byte b := spGet_spPut _ _ _ _

theorem memory_setBytes (l : List Byte) : ∀ (s : State) (a : Nat), Memory.wf s.mem = true → Memory.wf (s.setBytes a l).mem = true := by
  induction l with
  | nil => intro s a h; exact h
  | cons b l ih => intro s a h; exact ih _ _ (memory_setByte s a b h)

/-- Every byte outside the stored ones reads as before. -/
theorem byte_setBytes_other (l : List Byte) :
    ∀ (s : State) (a b : Nat), b < a ∨ a + l.length ≤ b → (s.setBytes a l).byte b = s.byte b := by
  induction l with
  | nil => intro s a b _; rfl
  | cons x l ih =>
    intro s a b hb
    have hl : (x :: l).length = l.length + 1 := rfl
    have h1 := ih (s.setByte a x) (a + 1) b (by omega)
    have hn : b ≠ a := by omega
    simpa [State.setBytes, byte_setByte s a b x, hn] using h1

/-- Every stored byte reads as written. -/
theorem byte_setBytes (l : List Byte) :
    ∀ (s : State) (a k : Nat), k < l.length → (s.setBytes a l).byte (a + k) = l.getD k 0 := by
  induction l with
  | nil => intro s a k hk; simp at hk
  | cons x l ih =>
    intro s a k hk
    cases k with
    | zero =>
      have h1 := byte_setBytes_other l (s.setByte a x) (a + 1) a (by omega)
      simpa [State.setBytes, byte_setByte s a a x] using h1
    | succ k =>
      have h1 := ih (s.setByte a x) (a + 1) k (by simpa using hk)
      have e : a + (k + 1) = a + 1 + k := by omega
      rw [e]
      simpa [State.setBytes] using h1

@[simp] theorem setBytes_regs (l : List Byte) : ∀ (s : State) (a : Nat), (s.setBytes a l).regs = s.regs := by
  induction l with
  | nil => intro s a; rfl
  | cons b l ih => intro s a; simp [State.setBytes, ih]

@[simp] theorem setBytes_pending (l : List Byte) : ∀ (s : State) (a : Nat), (s.setBytes a l).pending = s.pending := by
  induction l with
  | nil => intro s a; rfl
  | cons b l ih => intro s a; simp [State.setBytes, ih]

/-- What stands while the rails are off is canonical (R419). -/
theorem memory_kept (h : Memory.wf s.mem = true) : Memory.wf s.keptMem = true := spWf_filter _ _ h

end Sys2Proof.Machine
end

