-- ==== Sys2Proof/Laws/Shared.lean ====
section
/-! SUPPORT. What the shared operations of every meaning can do: raising a source, raising a flag or a fault, entering a count. Each lemma
says what an operation leaves alone. -/

namespace Sys2Proof.Machine

/-- `t` differs from `s` in the interrupt controller's registers and state, in the marks of the present cycle, and in what counts as a
pending wake source; in nothing else. -/
def irqOnly (s t : State) : Prop :=
  t = { s with regs := t.regs, irqs := t.irqs, fresh := t.fresh, pwr := t.pwr } ∧
  { t.pwr with wakeSeen := s.pwr.wakeSeen } = s.pwr ∧ ∀ a, inIrqBlock a = false → t.word a = s.word a

theorem irqOnly_refl (s : State) : irqOnly s s := ⟨rfl, rfl, fun _ _ => rfl⟩

theorem irqOnly_trans {s t u : State} (h : irqOnly s t) (k : irqOnly t u) : irqOnly s u := by
  obtain ⟨h1, h2, h3⟩ := h
  obtain ⟨k1, k2, k3⟩ := k
  refine ⟨?_, ?_, fun a ha => (k3 a ha).trans (h3 a ha)⟩
  · rw [k1, h1]
  · rw [← h2, ← k2]

theorem irqOnly_setWord (s : State) (a : Nat) (v : Word) (h : inIrqBlock a = true) : irqOnly s (s.setWord a v) :=
  ⟨rfl, rfl, fun b hb => by rw [word_setWord, if_neg]; rintro rfl; simp [h] at hb⟩

theorem irqOnly_set (s : State) (f : FReg) (v : Nat) (h : inIrqBlock f.addr = true) : irqOnly s (s.set f v) := irqOnly_setWord s _ _ h

theorem irqOnly_setBit (s : State) (f : FReg) (k : Nat) (b : Bool) (h : inIrqBlock f.addr = true) : irqOnly s (s.setBit f k b) :=
  irqOnly_set s f _ h

theorem pendWord_block (host : Bool) (n : Nat) (h : n < 256) : inIrqBlock (pendWord host n).addr = true := by
  cases host <;> simp [pendWord, Fld.IRQ_HPEND_PEND, Fld.IRQ_PEND_PEND, Reg.IRQ_HPEND, Reg.IRQ_PEND, inIrqBlock] <;> omega

theorem irqOnly_fresh (s : State) (l : List (Nat × Word)) : irqOnly s { s with fresh := l } := ⟨rfl, rfl, fun _ _ => rfl⟩
theorem irqOnly_setLatch (s : State) (t v : Nat) : irqOnly s (s.setLatch t v) := ⟨rfl, rfl, fun _ _ => rfl⟩

theorem irqOnly_pendSource (s : State) (host : Bool) (n : Nat) : irqOnly s (s.pendSource host n) := by
  unfold State.pendSource
  split
  · exact irqOnly_refl s
  have h : n < 256 := by omega
  refine irqOnly_trans (irqOnly_setBit s (pendWord host n) (n % 32) true (pendWord_block host n h)) ?_
  refine irqOnly_trans (irqOnly_fresh _ (((pendWord host n).addr, BitVec.ofNat 32 (1 <<< (n % 32))) ::
    (s.setBit (pendWord host n) (n % 32) true).fresh)) ?_
  dsimp only
  split
  · exact irqOnly_setLatch _ _ _
  · exact irqOnly_refl _

theorem irqOnly_setHeld (s : State) (g : Nat) (l : List Nat) (h : g < 32) : irqOnly s (s.setHeld g l) := by
  unfold State.setHeld
  refine irqOnly_trans (t := { s with irqs := { s.irqs with held := spPut (fun _ => []) s.irqs.held g l } }) ⟨rfl, rfl, fun _ _ => rfl⟩ ?_
  refine irqOnly_set _ _ _ ?_
  have e : (Fld.IRQ_GRP_N g).addr = 0x40030080 + 0x4 * g := rfl
  rw [e, inIrqBlock, Bool.and_eq_true, decide_eq_true_iff, decide_eq_true_iff]
  omega

theorem irqOnly_holdEvent (s : State) (g n : Nat) (h : g < 32) : irqOnly s (s.holdEvent g n) := by
  unfold State.holdEvent
  dsimp only
  refine irqOnly_trans ?_ (irqOnly_setHeld _ g _ h)
  split
  · exact ⟨rfl, rfl, fun _ _ => rfl⟩
  · exact irqOnly_refl _

theorem fieldOf_lt (f : FReg) (w : Word) : fieldOf f w < 2 ^ f.w := Nat.mod_lt _ (Nat.two_pow_pos _)

theorem srcCgrp_lt (s : State) (host : Bool) (n : Nat) : s.get (srcCgrp host n) < 32 := by
  cases host <;> exact fieldOf_lt _ _

theorem irqOnly_deliverSource (s : State) (host : Bool) (n : Nat) : irqOnly s (s.deliverSource host n) := by
  unfold State.deliverSource
  dsimp only
  split
  · exact irqOnly_pendSource s host n
  · exact irqOnly_holdEvent s _ n (by have := srcCgrp_lt s host n; omega)

theorem irqOnly_watch (s : State) (n : Nat) : irqOnly s (s.watch n) := by
  unfold State.watch
  split
  · exact ⟨rfl, rfl, fun _ _ => rfl⟩
  · exact irqOnly_refl _

/-- Everything an event of a source can change (R356, R362, R364). -/
theorem irqOnly_irq (s : State) (n : Nat) : irqOnly s (s.irq n) :=
  irqOnly_trans (irqOnly_trans (irqOnly_deliverSource s false n) (irqOnly_deliverSource _ true n)) (irqOnly_watch _ n)

/-- Everything a level source that persists can change (R357). -/
theorem irqOnly_refreshLevels (s : State) : irqOnly s s.refreshLevels := by
  unfold State.refreshLevels
  have key : ∀ (l : List Nat) (s : State), irqOnly s
      (l.foldl (fun s n => if s.levelHolds n then (s.pendSource false n).pendSource true n else s) s) := by
    intro l
    induction l with
    | nil => intro s; exact irqOnly_refl s
    | cons n l ih =>
      intro s
      refine irqOnly_trans ?_ (ih _)
      dsimp only
      split
      · exact irqOnly_trans (irqOnly_pendSource s false n) (irqOnly_pendSource _ true n)
      · exact irqOnly_refl s
  exact key _ s

theorem word_irq (s : State) (n a : Nat) (ha : inIrqBlock a = false) : (s.irq n).word a = s.word a := (irqOnly_irq s n).2.2 a ha
theorem get_irq (s : State) (n : Nat) (f : FReg) (ha : inIrqBlock f.addr = false) : (s.irq n).get f = s.get f := by
  unfold State.get; rw [word_irq s n _ ha]
theorem flag_irq (s : State) (n : Nat) (f : FReg) (ha : inIrqBlock f.addr = false) : (s.irq n).flag f = s.flag f := by
  unfold State.flag; rw [get_irq s n _ ha]

@[simp] theorem irq_pending (s : State) (n : Nat) : (s.irq n).pending = s.pending := by
  have e := congrArg State.pending (irqOnly_irq s n).1; exact e
@[simp] theorem irq_now (s : State) (n : Nat) : (s.irq n).now = s.now := by
  have e := congrArg State.now (irqOnly_irq s n).1; exact e
@[simp] theorem irq_tclk (s : State) (n : Nat) : (s.irq n).tclk = s.tclk := by
  have e := congrArg State.tclk (irqOnly_irq s n).1; exact e
@[simp] theorem irq_free (s : State) (n : Nat) : (s.irq n).free = s.free := by
  have e := congrArg State.free (irqOnly_irq s n).1; exact e
@[simp] theorem irq_mem (s : State) (n : Nat) : (s.irq n).mem = s.mem := by
  have e := congrArg State.mem (irqOnly_irq s n).1; exact e
@[simp] theorem irq_bus (s : State) (n : Nat) : (s.irq n).bus = s.bus := by
  have e := congrArg State.bus (irqOnly_irq s n).1; exact e
@[simp] theorem irq_sys (s : State) (n : Nat) : (s.irq n).sys = s.sys := by
  have e := congrArg State.sys (irqOnly_irq s n).1; exact e
@[simp] theorem irq_clk (s : State) (n : Nat) : (s.irq n).clk = s.clk := by
  have e := congrArg State.clk (irqOnly_irq s n).1; exact e
@[simp] theorem irq_dmaHeld (s : State) (n : Nat) : (s.irq n).dmaHeld = s.dmaHeld := by
  have e := congrArg State.dmaHeld (irqOnly_irq s n).1; exact e
@[simp] theorem irq_dmas (s : State) (n : Nat) : (s.irq n).dmas = s.dmas := by
  have e := congrArg State.dmas (irqOnly_irq s n).1; exact e
@[simp] theorem irq_tims (s : State) (n : Nat) : (s.irq n).tims = s.tims := by
  have e := congrArg State.tims (irqOnly_irq s n).1; exact e
@[simp] theorem irq_pats (s : State) (n : Nat) : (s.irq n).pats = s.pats := by
  have e := congrArg State.pats (irqOnly_irq s n).1; exact e
@[simp] theorem irq_patPins (s : State) (n : Nat) : (s.irq n).patPins = s.patPins := by
  have e := congrArg State.patPins (irqOnly_irq s n).1; exact e
@[simp] theorem irq_whls (s : State) (n : Nat) : (s.irq n).whls = s.whls := by
  have e := congrArg State.whls (irqOnly_irq s n).1; exact e
@[simp] theorem irq_sim (s : State) (n : Nat) : (s.irq n).sim = s.sim := by
  have e := congrArg State.sim (irqOnly_irq s n).1; exact e
@[simp] theorem irq_trks (s : State) (n : Nat) : (s.irq n).trks = s.trks := by
  have e := congrArg State.trks (irqOnly_irq s n).1; exact e
@[simp] theorem irq_trkBefore (s : State) (n : Nat) : (s.irq n).trkBefore = s.trkBefore := by
  have e := congrArg State.trkBefore (irqOnly_irq s n).1; exact e
@[simp] theorem irq_voter (s : State) (n : Nat) : (s.irq n).voter = s.voter := by
  have e := congrArg State.voter (irqOnly_irq s n).1; exact e
@[simp] theorem irq_sch (s : State) (n : Nat) : (s.irq n).sch = s.sch := by
  have e := congrArg State.sch (irqOnly_irq s n).1; exact e
@[simp] theorem irq_adcs (s : State) (n : Nat) : (s.irq n).adcs = s.adcs := by
  have e := congrArg State.adcs (irqOnly_irq s n).1; exact e
@[simp] theorem irq_chans (s : State) (n : Nat) : (s.irq n).chans = s.chans := by
  have e := congrArg State.chans (irqOnly_irq s n).1; exact e
@[simp] theorem irq_banks (s : State) (n : Nat) : (s.irq n).banks = s.banks := by
  have e := congrArg State.banks (irqOnly_irq s n).1; exact e
@[simp] theorem irq_drv (s : State) (n : Nat) : (s.irq n).drv = s.drv := by
  have e := congrArg State.drv (irqOnly_irq s n).1; exact e
@[simp] theorem irq_shotMirror (s : State) (n : Nat) : (s.irq n).shotMirror = s.shotMirror := by
  have e := congrArg State.shotMirror (irqOnly_irq s n).1; exact e
@[simp] theorem irq_wit (s : State) (n : Nat) : (s.irq n).wit = s.wit := by
  have e := congrArg State.wit (irqOnly_irq s n).1; exact e
@[simp] theorem irq_flo (s : State) (n : Nat) : (s.irq n).flo = s.flo := by
  have e := congrArg State.flo (irqOnly_irq s n).1; exact e
@[simp] theorem irq_hst (s : State) (n : Nat) : (s.irq n).hst = s.hst := by
  have e := congrArg State.hst (irqOnly_irq s n).1; exact e
@[simp] theorem irq_sec (s : State) (n : Nat) : (s.irq n).sec = s.sec := by
  have e := congrArg State.sec (irqOnly_irq s n).1; exact e
@[simp] theorem irq_cal (s : State) (n : Nat) : (s.irq n).cal = s.cal := by
  have e := congrArg State.cal (irqOnly_irq s n).1; exact e
@[simp] theorem irq_tst (s : State) (n : Nat) : (s.irq n).tst = s.tst := by
  have e := congrArg State.tst (irqOnly_irq s n).1; exact e

/-- A flag that the hardware raises: its register alone, and the marks of the present cycle (R5). -/
theorem word_raiseFlag (s : State) (f : FReg) (a : Nat) (ha : a ≠ f.addr) : (s.raiseFlag f).word a = s.word a := by
  simp [State.raiseFlag, State.word, State.set, State.setWord, spGet_spPut, ha]
theorem flag_raiseFlag (s : State) (f : FReg) (hw : f.lo + f.w ≤ 32) (h : 0 < f.w) : (s.raiseFlag f).flag f = true := by
  have : (s.raiseFlag f).get f = (s.set f 1).get f := rfl
  unfold State.flag
  rw [this, get_set s f 1 hw, Nat.mod_eq_of_lt (Nat.one_lt_two_pow (by omega))]; rfl

theorem word_raiseFault (s : State) (f : FReg) (a : Nat) (ha : a ≠ f.addr) (hi : inIrqBlock a = false) : (s.raiseFault f).word a = s.word a := by
  unfold State.raiseFault
  split
  · exact word_raiseFlag s f a ha
  · rw [word_irq _ 1 a hi]; exact word_raiseFlag s f a ha
theorem flag_raiseFault (s : State) (f : FReg) (hw : f.lo + f.w ≤ 32) (h : 0 < f.w) (hi : inIrqBlock f.addr = false) :
    (s.raiseFault f).flag f = true := by
  unfold State.raiseFault
  split
  · exact flag_raiseFlag s f hw h
  · rw [flag_irq _ 1 f hi]; exact flag_raiseFlag s f hw h

/-! Reading a record by its number after one was written. -/

theorem trk_setTrk (s : State) (j k : Nat) (x : Trk) : (s.setTrk k x).trk j = if j = k then x else s.trk j := spGet_spPut _ _ _ _
theorem chan_setChan (s : State) (j k : Nat) (x : Chan) : (s.setChan k x).chan j = if j = k then x else s.chan j := spGet_spPut _ _ _ _
theorem bank_setBank (s : State) (j k : Nat) (x : Bank) : (s.setBank k x).bank j = if j = k then x else s.bank j := spGet_spPut _ _ _ _
theorem whl_setWhl (s : State) (j k : Nat) (x : WhlInput) : (s.setWhl k x).whl j = if j = k then x else s.whl j := spGet_spPut _ _ _ _
theorem adc_setAdc (s : State) (j k : Nat) (x : AdcState) : (s.setAdc k x).adc j = if j = k then x else s.adc j := spGet_spPut _ _ _ _
theorem dma_setDma (s : State) (j k : Nat) (x : DmaChan) : (s.setDma k x).dma j = if j = k then x else s.dma j := spGet_spPut _ _ _ _
theorem tim_setTim (s : State) (j k : Nat) (x : TimChan) : (s.setTim k x).tim j = if j = k then x else s.tim j := spGet_spPut _ _ _ _
theorem before_setBefore (s : State) (j k : Nat) (x : Option TrkBefore) : (s.setBefore k x).before j = if j = k then x else s.before j := spGet_spPut _ _ _ _
theorem floPort_setFloPort (s : State) (j k : Nat) (x : FloPort) : (s.setFloPort k x).floPort j = if j = k then x else s.floPort j := spGet_spPut _ _ _ _

@[simp] theorem regs_anom (s : State) (k : Nat) : (s.anom k).regs = s.regs := rfl
@[simp] theorem mem_anom (s : State) (k : Nat) : (s.anom k).mem = s.mem := rfl

end Sys2Proof.Machine
end

