-- ==== Sys2Proof/Tests/Slice0.lean ====
section
/-! SUPPORT. Tests: ill-formed commands are refused; and for each statement of the obligations states and operands that meet its hypotheses, with
what the command leaves there. The expected values are worked out by hand from the rules that a test's comment names. -/

open Sys2Proof Sys2Proof.Machine

namespace Sys2Proof.Tests

set_option Elab.async false

-- ── States that the tests start from ──────────────────────────────────────────────────────────────────────────────

/-- A device out of reset in state `n`, with a verified image and every clock gate open, and SPI and CAN0 in
service. -/
def up (n : Nat) : State :=
  (((((State.reset.set Fld.SYS_STATE_STATE n).setWord Reg.CLK_GATE0 (BitVec.ofNat 32 (gateMask 0))).setWord Reg.CLK_GATE1
    (BitVec.ofNat 32 (gateMask 1))).set (Fld.HST_CAN_CFG_EN 0) 1).set Fld.HST_SPI_CFG_EN 1).withPwr
    { State.reset.pwr with inReset := false } |>.withSys { State.reset.sys with verified := true }

/-- A state with some fields set. -/
def put (s : State) (l : List (FReg × Nat)) : State := l.foldl (fun s e => s.set e.1 e.2) s

/-- A packet that asks for a reply. -/
def pkt (op : Nat) (pl : List Byte) : Packet := { flags := if isSealed op then 3 else 1, seq := 7, opcode := op, payload := pl, source := [] }

/-- A state in which one packet waits on the CAN0 port, and the seal is open. -/
def waits (s : State) (p : Packet) : State := (s.set Fld.SEC_STAT_SEAL_OPEN 1).setPort 1 { HostPort.reset with inq := [p] }

/-- A state in which one packet waits on the fast path. -/
def fast (s : State) (p : Packet) : State := s.withHst { s.hst with fpq := [(1, p)] }

/-- The state after a command; the state itself where there is none. -/
def after (c : Instr) (s : State) : State := (nextState (exec c s)).getD s

/-- The state at time `t`. -/
def atTime (s : State) (t : Nat) : State := { s with now := t, tclk := t }

-- ── Well-formedness: one command that each check refuses ──────────────────────────────────────────────────────────

theorem illformed_spiPacketWrite : (Instr.spiPacketWrite 0 [0xC8, 1] 2 false).wellFormed = false ∧
    (Instr.spiPacketWrite 0 [0xC7, 1] 3 false).wellFormed = false := by decide +kernel
theorem illformed_spiRegRead : (Instr.spiRegRead 0 [0xA2] false).wellFormed = false ∧
    (Instr.spiRegRead 0 [0xA1, 0, 0, 0, 0, 0, 0, 0, 0, 0] false).wellFormed = false := by decide +kernel
theorem illformed_spiRegWrite : (Instr.spiRegWrite 0 [0xA1] false).wellFormed = false ∧
    (Instr.spiRegWrite 0 (0xA2 :: zeros 13) false).wellFormed = false := by decide +kernel
theorem illformed_spiUnknownCommand : (Instr.spiUnknownCommand 0 0x3C false).wellFormed = false := by decide +kernel
theorem illformed_canFrameRx : (Instr.canFrameRx 0 0 true 0 (zeros 9)).wellFormed = false := by decide +kernel
theorem illformed_t1sFrameRx : (Instr.t1sFrameRx 0 (zeros 5) (zeros 6) 0x88B5 true []).wellFormed = false ∧
    (Instr.t1sFrameRx 0 (zeros 6) (zeros 7) 0x88B5 true []).wellFormed = false ∧
    (Instr.t1sFrameRx 0 (zeros 6) (zeros 6) 65536 true []).wellFormed = false ∧
    (Instr.t1sFrameRx 0 (zeros 6) (zeros 6) 0x88B5 true (zeros 1501)).wellFormed = false := by decide +kernel
theorem illformed_loopbackUnitReturn : (Instr.loopbackUnitReturn 0 true 4096).wellFormed = false := by decide +kernel
theorem illformed_offStateStepEnd : (Instr.offStateStepEnd 0 0 [0, 0, 0, 0, 0]).wellFormed = false := by decide +kernel
theorem illformed_coilModelUpdate : (Instr.coilModelUpdate 0 []).wellFormed = false := by decide +kernel
theorem illformed_recordClose : (Instr.recordClose 0 0 [⟨0, 8191, 0, true⟩]).wellFormed = false ∧
    (Instr.recordClose 0 0 [⟨0, 0, -2049, true⟩]).wellFormed = false ∧ (Instr.recordClose 0 0 [⟨0, 0, 0, true⟩, ⟨21, 0, 0, true⟩]).wellFormed = false ∧
    (Instr.recordClose 0 0 [⟨0, 8190, -2048, true⟩, ⟨120, 0, 2047, true⟩]).wellFormed = true := by decide +kernel
theorem illformed_closeWindowEnd : (Instr.closeWindowEnd 0 0 [⟨0, -1, 0, true⟩]).wellFormed = false ∧
    (Instr.closeWindowEnd 0 0 [⟨0, 0, 2048, true⟩]).wellFormed = false := by decide +kernel
theorem illformed_obsWindowExpiry : (Instr.obsWindowExpiry 0 ⟨0, [⟨0, 0, 2048, true⟩]⟩).wellFormed = false := by decide +kernel
theorem illformed_cellArrival : (Instr.cellArrival 0 0 (zeros 60) 0).wellFormed = true ∧ (Instr.cellArrival 0 0 (zeros 59) 0).wellFormed = false := by
  decide +kernel

-- ── The block as a whole ──────────────────────────────────────────────────────────────────────────────────────────

theorem wit_StepRunsTheFront : ({ up 4 with pending := [Instr.quench] } : State).pending = [Instr.quench] ∧ (up 4).pending = [] := by decide +kernel
theorem wit_StepKeepsCanonical : (up 4).canonical = true ∧ (step (up 4)) = .next (up 4).tick := by
  refine ⟨by decide +kernel, rfl⟩
theorem wit_FusesNeverFall : step State.reset = .next State.reset.tick := rfl
theorem wit_FaultsComeFirst : (put (up 6) [(Fld.SYS_FAULT_CMD, 1), (Fld.SYS_FAULTCFG_SAFE, 0x7FF)]).pwr.inReset = false ∧
    (put (up 6) [(Fld.SYS_FAULT_CMD, 1), (Fld.SYS_FAULTCFG_SAFE, 0x7FF)]).st = 6 ∧
    ((put (up 6) [(Fld.SYS_FAULT_CMD, 1), (Fld.SYS_FAULTCFG_SAFE, 0x7FF)]).word Reg.SYS_FAULT).toNat &&&
      ((put (up 6) [(Fld.SYS_FAULT_CMD, 1), (Fld.SYS_FAULTCFG_SAFE, 0x7FF)]).get Fld.SYS_FAULTCFG_SAFE ||| 3) ≠ 0 ∧
    (put (up 6) [(Fld.SYS_FAULT_CMD, 1), (Fld.SYS_FAULTCFG_SAFE, 0x7FF)]).settle.st = 8 ∧ (up 4).faultLine = false ∧
    (put (up 4) [(Fld.SYS_FAULT_CMD, 1), (Fld.SYS_FAULTCFG_LINE, 0x7FF)]).faultLine = true := by decide +kernel
/-- R8: 5 au lie ahead of the wrap; half a cycle reads as −2^23. -/
theorem wit_AngleDistance : angDist (2 ^ 24 - 2) 3 = 5 ∧ angDist 0 (2 ^ 23) = -2 ^ 23 ∧ angDist (2 ^ 24 - 1) 0 = 1 := by decide +kernel

-- ── Registers, the bus, ownership ─────────────────────────────────────────────────────────────────────────────────

/-- A register of PWR that holds RW fields, and one of CLK with W1C fields: CLK_STAT. -/
theorem wit_WritesByAccessType : inRegs Reg.CLK_STAT = true ∧ Reg.CLK_STAT < 0x40030000 ∧ (regRow Reg.CLK_STAT).isSome = true ∧
    (up 4).regUp Reg.CLK_STAT = true ∧ (up 4).writeStatus Reg.CLK_STAT 0xFFFFFFFF false = 0 ∧
    (after (.registerWrite false (BitVec.ofNat 32 Reg.CLK_STAT) 0xFFFFFFFF) (put (up 4) [(Fld.CLK_STAT_GATE_FORCED, 1), (Fld.CLK_STAT_REF, 1)])).flag
      Fld.CLK_STAT_GATE_FORCED = false ∧
    (after (.registerWrite false (BitVec.ofNat 32 Reg.CLK_STAT) 0xFFFFFFFF) (put (up 4) [(Fld.CLK_STAT_GATE_FORCED, 1), (Fld.CLK_STAT_REF, 1)])).flag
      Fld.CLK_STAT_REF = true := by decide +kernel
theorem wit_BusErrorsWriteNothing : (0x40000002 : BitVec 32).toNat % 4 ≠ 0 ∧ inSram 0x60000000 = false ∧ inRegs 0x60000000 = false ∧
    inRegs Reg.SCH_CTRL = true ∧ (put (up 4) [(Fld.CLK_GATE0_SCH, 0)]).regUp Reg.SCH_CTRL = false ∧
    (after (.registerWrite false (BitVec.ofNat 32 Reg.SCH_CTRL) 1) (put (up 4) [(Fld.CLK_GATE0_SCH, 0)])).bus.err = true ∧
    (after (.registerWrite false 0x60000000 1) (up 4)).bus.status = stBusError := by decide +kernel
theorem wit_HostWritesWithinItsOwn : (up 4).st ≠ 9 ∧ inRegs Reg.DRV_CTRL = true ∧ (up 4).regUp Reg.DRV_CTRL = true ∧
    (regRow Reg.DRV_CTRL).isSome = true ∧ hostOwned Reg.DRV_CTRL = false ∧ clearable Reg.DRV_CTRL = false ∧
    (after (.registerWrite true (BitVec.ofNat 32 Reg.DRV_CTRL) 1) (up 4)).bus.status = stForbids ∧
    (after (.registerWrite true (BitVec.ofNat 32 Reg.DRV_CTRL) 1) (up 4)).flag Fld.DRV_CTRL_EN = false := by decide +kernel
/-- A host-area address: the first. -/
def area : Nat := 0x20380000

/-- The packet waits, and COM may handle it. -/
abbrev com (s : State) (op : Nat) (pl : List Byte) : Prop := (waits s (pkt op pl)).comTakes 1 op (pkt op pl) []
/-- What the opcode's command leaves, with that packet waiting. -/
abbrev ran (c : Instr) (s : State) (op : Nat) (pl : List Byte) : State := after c (waits s (pkt op pl))
/-- The payload of the newest reply of the CAN0 port: status first. -/
def reply (t : State) : List Byte := (((t.hst.port 1).outq.getLast?.map (fun e => (e.2.drop 8).take (e.2.length - 12)))).getD []

theorem wit_HostAreaRoundTrip_write :
    com (up 4) 0x801 (leBytes 4 area ++ leBytes 2 1 ++ [0, 0] ++ wordBytes [0x04030201]) ∧ area % 4 = 0 ∧ inHostArea area = true ∧
    inHostArea (area + 4 * 1 - 4) = true ∧
    (ran (.regWrite 1) (up 4) 0x801 (leBytes 4 area ++ leBytes 2 1 ++ [0, 0] ++ wordBytes [0x04030201])).bytes area 4 = [1, 2, 3, 4] ∧
    reply (ran (.regWrite 1) (up 4) 0x801 (leBytes 4 area ++ leBytes 2 1 ++ [0, 0] ++ wordBytes [0x04030201])) = [0, 1, 0] := by
  unfold com State.comTakes; decide +kernel
/-- The last word of the host area. -/
theorem wit_HostAreaRoundTrip_read :
    com (up 4) 0x800 (leBytes 4 0x203FFFFC ++ leBytes 2 1) ∧ inHostArea 0x203FFFFC = true ∧ inHostArea 0x20400000 = false ∧
    reply (ran (.regRead 1) (up 4) 0x800 (leBytes 4 0x203FFFFC ++ leBytes 2 1)) = [0, 0, 0, 0, 0, 0, 0, 0] := by
  unfold com State.comTakes; decide +kernel

-- ── Interrupts ────────────────────────────────────────────────────────────────────────────────────────────────────

theorem wit_EventsPend : (up 4).get (srcCgrp false 255) = 0 ∧ ((up 4).irq 255).isPend true 255 = true ∧ isLevelSource 240 = true ∧
    0 < (put (up 4) [(srcCgrp false 7, 3)]).get (srcCgrp false 7) ∧
    ((put (up 4) [(srcCgrp false 7, 3)]).irq 7).heldOf 2 = [7] ∧ ((put (up 4) [(srcCgrp false 7, 3)]).irq 7).isPend false 7 = false := by
  decide +kernel
/-- R361's example of the order: of two sources, that of the lower group goes first; in one group, the lower sub-priority. -/
theorem wit_WinnerRanksFirst :
    (((put (up 4) [(srcEn false 9, 1), (srcEn false 5, 1), (Fld.IRQ_SRC_PRIO 9, 2), (Fld.IRQ_SRC_PRIO 5, 3)]).irq 5).irq 9).winner 0 = some 9 ∧
    ((((put (up 4) [(srcEn false 9, 1), (srcEn false 5, 1), (Fld.IRQ_SRC_PRIO 9, 2), (Fld.IRQ_SRC_PRIO 5, 2)]).irq 5).irq 9)).winner 0 = some 5 ∧
    (up 4).winner 3 = none := by decide +kernel
/-- A source of SUP that is pending, enabled and latched. -/
def latched : State := ((put (up 4) [(srcEn false 9, 1), (Fld.IRQ_SRC_PRIO 9, 2)]).irq 9).setLatch 0 10
theorem wit_InterruptHandshake_taken : latched.latchOf 0 = 10 ∧ latched.candidate 0 9 = true ∧ latched.requestsService 0 = true ∧
    (after (.acknowledge 0) latched).bus.data = 10 ∧ (after (.acknowledge 0) latched).isPend false 9 = false ∧
    (after (.acknowledge 0) latched).bit (Fld.IRQ_ACT_ACTIVE 0) 2 = true ∧
    (after (.eoi 0) (after (.acknowledge 0) latched)).get (Fld.IRQ_ACT_ACTIVE 0) = 0 := by decide +kernel
theorem wit_InterruptHandshake_spurious : (up 4).latchOf 1 = 0 ∧ (after (.acknowledge 1) (up 4)).bus.data = 0 ∧
    (after (.acknowledge 1) (up 4)).get Fld.IRQ_STAT_SPURIOUS = 1 ∧ (up 4).get (Fld.IRQ_ACT_ACTIVE 1) = 0 ∧
    (after (.eoi 1) (up 4)).flag Fld.IRQ_STAT_EOI_ERR = true := by decide +kernel
def hostLatched : State := ((put (up 4) [(srcEn true 9, 1), (Fld.IRQ_HSRC_LINE 9, 1)]).irq 9).setLatch 3 10
theorem wit_InterruptHandshake_host : hostLatched.latchOf 3 = 10 ∧ hostLatched.candidate 3 9 = true ∧
    (after (.hostAcknowledge 1) hostLatched).bus.data.toNat % 512 = 10 ∧ (after (.hostAcknowledge 1) hostLatched).isPend true 9 = false := by
  decide +kernel
def holds7 : State := (put (up 4) [(srcCgrp false 7, 3), (Fld.IRQ_GRP_COUNT 2, 1)]).irq 7
theorem wit_GroupsDeliver : (holds7.advance 0).groupDue 2 = true ∧ (holds7.advance 0).heldOf 2 = [7] ∧
    (after (.irqGroupDelivery 0 2) holds7).isPend false 7 = true ∧ (after (.irqGroupDelivery 0 2) holds7).heldOf 2 = [] ∧
    holds7.writeStatus (Reg.IRQ_GRP 2) 0x00050004 false = 0 ∧ (after (.groupWrite 2 0x00050004) holds7).isPend false 7 = true ∧
    (after (.groupWrite 2 0x00050004) holds7).get (Fld.IRQ_GRP_COUNT 2) = 4 ∧
    (after (.groupWrite 2 0x00050004) holds7).get (Fld.IRQ_GRP_TIME 2) = 5 := by decide +kernel

-- ── Opcodes that COM handles ──────────────────────────────────────────────────────────────────────────────────────

theorem wit_RepliesAreQueued : (up 4).portServed 1 = true ∧ ((up 4).hst.port 1).outq.length < 16 ∧ (pkt 0x100 []).flags.testBit 0 = true ∧
    ((up 4).answerTo 1 (pkt 0x100 []) 0 [5]).hst.port 1 = { HostPort.reset with outq := [([], packetBytes 128 7 0x100 [0, 5])] } := by
  decide +kernel
/-- The refusal of a later packet does not overtake the reply to PING (R271). -/
def refusedBehind : State := (waits (up 4) (pkt 0x100 [])).admitPacket 1 { pkt 0xFFF [] with seq := 8 }
theorem test_replies_leave_in_order : (refusedBehind.hst.port 1).outq = [] ∧
    ((after (.ping 1) refusedBehind).hst.port 1).outq.map (fun e => leAt e.2 2 2) = [7, 8] := by decide +kernel
/-- A port whose window holds SEQ 7. -/
def windowed : State := (up 4).setPort 1 { HostPort.reset with window := [{ seq := 7 }] }
theorem wit_RepeatsAreNotHandled : ({ seq := 7 } : WinEntry) ∈ (windowed.hst.port 1).window ∧
    ((windowed.sequencePacket 1 (pkt 0x100 [])).hst.port 1).inq = [] ∧ seqBehind 7 6 = true ∧
    ((windowed.sequencePacket 1 { pkt 0x100 [] with seq := 6 }).hst.port 1).inq = [] ∧ seqBehind 7 8 = false ∧
    ((windowed.sequencePacket 1 { pkt 0x100 [] with seq := 8 }).hst.port 1).inq = [{ pkt 0x100 [] with seq := 8 }] := by decide +kernel
theorem wit_ReadingOpcodes_system : com (up 4) 0x100 [] ∧ (reply (ran (.ping 1) (up 4) 0x100 [])).take 2 = [0, 4] ∧ com (up 4) 0x101 [] ∧
    (reply (ran (.info 1) (up 4) 0x101 [])).head? = some 0 ∧ com (up 4) 0x106 [0] ∧
    reply (ran (.jobStatus 1) (up 4) 0x106 [0]) = [0, 0, 2, 0] := by unfold com State.comTakes; decide +kernel
/-- A device with job 255 open, and job 3 ended with BUSY. -/
def jobbed : State := (up 4).withHst { (up 4).hst with jobs := [{ id := 255, opcode := 0x507 }], ended := [(3, 1 + stBusy)] }
theorem wit_ReadingOpcodes_jobs : com jobbed 0x106 [255] ∧ (∃ j ∈ (waits jobbed (pkt 0x106 [255])).hst.jobs, j.id = 255) ∧
    reply (ran (.jobStatus 1) jobbed 0x106 [255]) = [0, 255, 0, 0] ∧ com jobbed 0x106 [3] ∧
    reply (ran (.jobStatus 1) jobbed 0x106 [3]) = [0, 3, 1, BitVec.ofNat 8 stBusy] := by unfold com State.comTakes; decide +kernel
theorem wit_ReadingOpcodes_tables : com (up 4) 0x204 [1, 1, 7, 0, 0xFF, 3, 1, 0] ∧ tblHeader [1, 1, 7, 0, 0xFF, 3, 1, 0] 510 = 0 ∧
    reply (ran (.tblRead 1) (up 4) 0x204 [1, 1, 7, 0, 0xFF, 3, 1, 0]) = [0, 0, 0, 0, 0x00, 0x40] ∧
    com (put (up 4) [(Fld.SCH_CYL_C_SLOT_CNT 23, 64)]) 0x302 ([24, 1] ++ leBytes 2 63 ++ leBytes 2 1) ∧
    reply (ran (.slotRead 1) (put (up 4) [(Fld.SCH_CYL_C_SLOT_CNT 23, 64)]) 0x302 ([24, 1] ++ leBytes 2 63 ++ leBytes 2 1)) = zeros 20 := by
  unfold com State.comTakes; decide +kernel
theorem wit_ReadingOpcodes_witness : com (up 4) 0x501 (leBytes 4 0 ++ leBytes 1 21) ∧
    com (up 4) 0x504 (leBytes 2 65535 ++ leBytes 2 255) ∧ reply (ran (.waveRead 1) (up 4) 0x504 (leBytes 2 65535 ++ leBytes 2 255)) = zeros 4 ∧
    com (up 4) 0x505 (leBytes 8 0 ++ leBytes 1 15) ∧ com (up 4) 0x506 [] ∧ (reply (ran (.chainHead 1) (up 4) 0x506 [])).length = 48 := by
  unfold com State.comTakes; decide +kernel
theorem wit_ReadingOpcodes_security : com (up 4) 0x700 [] ∧ (reply (ran (.sealStatus 1) (up 4) 0x700 [])).take 2 = [0, 1] ∧
    com (up 4) 0x701 (leBytes 1 0 ++ zeros 3 ++ leBytes 4 0 ++ leBytes 2 1000) ∧ ((up 4).certObject 0).isSome = true ∧
    (reply (ran (.certRead 1) (up 4) 0x701 (leBytes 1 0 ++ zeros 3 ++ leBytes 4 0 ++ leBytes 2 1000))).head? = some 0 := by
  unfold com State.comTakes; decide +kernel

theorem wit_StateOpcodes_sleep : com (up 4) 0x102 [] ∧ (up 4).stopped = true ∧ (up 4).levelWakes = 0 ∧ (up 4).pwr.sleepReq = false ∧
    (ran (.sleep 1) (up 4) 0x102 []).pwr.sleepReq = true ∧ (ran (.sleep 1) (up 4) 0x102 []).flag Fld.DRV_CTRL_STBY = true ∧
    reply (ran (.sleep 1) (up 4) 0x102 []) = [0] := by unfold com State.comTakes; decide +kernel
theorem wit_StateOpcodes_stop : com (up 6) 0x103 [] ∧ com (up 5) 0x103 [] ∧ com (up 7) 0x103 [] ∧ (ran (.stop 1) (up 6) 0x103 []).st = 7 ∧
    (ran (.stop 1) (up 6) 0x103 []).flag Fld.SYS_STAT_REARM_WAIT = true ∧ (ran (.stop 1) (up 5) 0x103 []).st = 4 := by
  unfold com State.comTakes; decide +kernel
theorem wit_StateOpcodes_safe : com (up 4) 0x104 [0x5A] ∧ (ran (.safe 1) (up 4) 0x104 [0x5A]).flag Fld.SYS_FAULT_CMD = true ∧
    reply (ran (.safe 1) (up 4) 0x104 [0x5A]) = [0] := by unfold com State.comTakes; decide +kernel
/-- SYS_FAULT.CMD (bit 10) clears; the device then leaves SAFE. -/
theorem wit_StateOpcodes_clear : com (put (up 8) [(Fld.SYS_FAULT_CMD, 1)]) 0x105 (leBytes 4 0x400) ∧
    com (put (up 4) [(Fld.SYS_FAULT_CMD, 1)]) 0x105 (leBytes 4 0x7FF) ∧
    ((waits (put (up 8) [(Fld.SYS_FAULT_CMD, 1)]) (pkt 0x105 (leBytes 4 0x400))).clearFaults 0x400).safeFault = false ∧
    (up 8).stopped = true ∧ (up 8).key = false ∧ (ran (.clearFault 1) (put (up 8) [(Fld.SYS_FAULT_CMD, 1)]) 0x105 (leBytes 4 0x400)).st = 4 ∧
    reply (ran (.clearFault 1) (put (up 4) [(Fld.SYS_FAULT_CMD, 1)]) 0x105 (leBytes 4 0x7FF)) = zeros 8 := by
  unfold com State.comTakes; decide +kernel
theorem wit_StateOpcodes_bench : com (up 4) 0x107 [] ∧ (ran (.benchEnter 1) (up 4) 0x107 []).st = 9 ∧ com (up 9) 0x108 [] ∧
    (ran (.benchExit 1) (up 9) 0x108 []).st = 4 ∧ com (up 4) 0x109 (leBytes 2 10) ∧
    (ran (.hostTimeout 1) (up 4) 0x109 (leBytes 2 10)).get Fld.PKT_HOSTTIMEOUT_TIMEOUT = 10 ∧
    reply (ran (.hostTimeout 1) (up 4) 0x109 (leBytes 2 9)) = [BitVec.ofNat 8 stOutOfRange] := by unfold com State.comTakes; decide +kernel

theorem wit_RegisterOpcodes_sys : com (up 4) 0x10A (wordBytes [0, 0]) ∧
    (up 4).checkRegs (up 4) [(Reg.SYS_FAULTCFG, 0), (Reg.SYS_HOSTLOSS, 0)] = 0 ∧
    (ran (.sysSet 1) (up 4) 0x10A (wordBytes [0, 0])).get Fld.SYS_FAULTCFG_SAFE = 3 ∧ com (up 4) 0x301 (wordBytes [0, 0]) ∧
    (up 4).checkRegs (up 4) [(Reg.SCH_CTRL, 0), (Reg.SCH_PREP, 0)] = 0 ∧ reply (ran (.schSet 1) (up 4) 0x301 (wordBytes [0, 0])) = [0] ∧
    (up 4).get Fld.SCH_CTRL_FIRE_ON_PRESET = 0 ∧ (up 4).choice false = (up 4).sel ∧ (up 4).transition = none ∧ (up 4).paired = false ∧ (up 4).isCope = false ∧
    com (up 4) 0x401 (wordBytes [1]) ∧ (up 4).checkRegs (up 4) [(Reg.DRV_CTRL, 1)] = 0 ∧
    (ran (.drvCtrl 1) (up 4) 0x401 (wordBytes [1])).flag Fld.DRV_CTRL_EN = true := by unfold com State.comTakes; decide +kernel
theorem wit_RegisterOpcodes_tracker : com (up 4) 0x203 [7, 3] ∧ (ran (.loadBucket 1) (up 4) 0x203 [7, 3]).get (Fld.TRK_LOAD_BUCKET 1) = 7 ∧
    com (up 4) 0x205 [1, 1, 7, 0, 0xFF, 3, 1, 0, 0x34, 0x12] ∧
    (ran (.tblWrite 1) (up 4) 0x205 [1, 1, 7, 0, 0xFF, 3, 1, 0, 0x34, 0x12]).tblEntry 1 1 7 1023 = 0x1234 ∧
    (ran (.tblWrite 1) (put (up 4) [(Fld.TRK_LEARN_MODEL_LEARN 1, 1)]) 0x205 [1, 1, 7, 0, 0xFF, 3, 1, 0, 0x34, 0x12]).flag
      (Fld.TRK_STAT_TBL_DROP 1) = true ∧
    (ran (.tblWrite 1) (put (up 4) [(Fld.TRK_LEARN_MODEL_LEARN 1, 1)]) 0x205 [1, 1, 7, 0, 0xFF, 3, 1, 0, 0x34, 0x12]).tblEntry 1 1 7 1023 =
      0x4000 ∧
    com (up 4) 0x206 [2] ∧ (up 4).trkState 1 = 0 ∧ com (put (up 4) [(Fld.TRK_STAT_STATE 1, 4)]) 0x206 [2] ∧
    (ran (.resync 1) (put (up 4) [(Fld.TRK_STAT_STATE 1, 4)]) 0x206 [2]).trkState 1 = 2 := by unfold com State.comTakes; decide +kernel
/-- The last two entries of a table; trackers in SEARCH, in CYCLE_SYNC, and no tracker at all. -/
theorem wit_RegisterOpcodes_tables : com (up 4) 0x205 [1, 1, 7, 0, 0xFE, 3, 2, 0, 0x34, 0x12, 0x78, 0x56] ∧
    (ran (.tblWrite 1) (up 4) 0x205 [1, 1, 7, 0, 0xFE, 3, 2, 0, 0x34, 0x12, 0x78, 0x56]).tblEntry 1 1 7 1023 = 0x5678 ∧
    (ran (.tblWrite 1) (up 4) 0x205 [1, 1, 7, 0, 0xFE, 3, 2, 0, 0x34, 0x12, 0x78, 0x56]).tblEntry 1 1 7 1022 = 0x1234 ∧
    (ran (.tblWrite 1) (up 4) 0x205 [1, 1, 7, 0, 0xFE, 3, 2, 0, 0x34, 0x12, 0x78, 0x56]).tblEntry 1 1 7 1021 = 0x4000 ∧
    com (up 4) 0x206 [0] ∧ reply (ran (.resync 1) (up 4) 0x206 [0]) = [0] ∧ com (put (up 4) [(Fld.TRK_STAT_STATE 1, 2)]) 0x206 [3] ∧
    (put (up 4) [(Fld.TRK_STAT_STATE 1, 2)]).trkState 1 = 2 ∧
    (ran (.resync 1) (put (up 4) [(Fld.TRK_STAT_STATE 1, 2)]) 0x206 [3]).trkState 1 = 2 ∧
    (ran (.resync 1) (put (up 4) [(Fld.TRK_STAT_STATE 1, 2)]) 0x206 [2]).trkState 1 = 2 := by unfold com State.comTakes; decide +kernel
theorem wit_RegisterOpcodes_drive : com (put (up 4) [(Fld.DRV_CH_STAT_OC 47, 1)]) 0x405 (leBytes 6 (2 ^ 47) ++ leBytes 1 255 ++ [0]) ∧
    (waits (put (up 4) [(Fld.DRV_CH_STAT_OC 47, 1)]) (pkt 0x405 (leBytes 6 (2 ^ 47) ++ leBytes 1 255 ++ [0]))).fresh = [] ∧
    (ran (.drvClear 1) (put (up 4) [(Fld.DRV_CH_STAT_OC 47, 1)]) 0x405 (leBytes 6 (2 ^ 47) ++ leBytes 1 255 ++ [0])).flag
      (Fld.DRV_CH_STAT_OC 47) = false ∧
    com (put (up 4) [(Fld.DRV_AMB_STALE, 1)]) 0x406 [0xF6] ∧
    (ran (.amb 1) (put (up 4) [(Fld.DRV_AMB_STALE, 1)]) 0x406 [0xF6]).get Fld.DRV_AMB_AMB = 0xF6 ∧
    (ran (.amb 1) (put (up 4) [(Fld.DRV_AMB_STALE, 1)]) 0x406 [0xF6]).flag Fld.DRV_AMB_STALE = false := by
  unfold com State.comTakes; decide +kernel
def capturing : State := (up 4).withWit { (up 4).wit with capturing := some 1 }
theorem wit_RegisterOpcodes_witness : com (up 4) 0x500 ([1, 0] ++ leBytes 2 65535) ∧
    (ran (.stream 1) (up 4) 0x500 ([1, 0] ++ leBytes 2 65535)).get Fld.WIT_STREAM_OMASK = 65535 ∧
    (ran (.stream 1) (up 4) 0x500 ([1, 0] ++ leBytes 2 65535)).hst.streamPort = 1 ∧ com (up 4) 0x503 [47] ∧ (up 4).wit.capturing = none ∧
    (ran (.waveArm 1) (up 4) 0x503 [47]).get Fld.WIT_WAVE_CH = 47 ∧ com capturing 0x503 [47] ∧ capturing.wit.capturing.isSome = true ∧
    (ran (.waveArm 1) capturing 0x503 [47]).get Fld.WIT_WAVE_CH = 0 := by unfold com State.comTakes; decide +kernel
/-- A capture that calving has ended still lets a new one be armed. -/
def cutCapture : State := capturing.withWit { capturing.wit with waveCut := some 2 }
theorem wit_RegisterOpcodes_cut : com cutCapture 0x503 [47] ∧ cutCapture.wit.waveCut.isSome = true ∧ capturing.wit.waveCut = none ∧
    (ran (.waveArm 1) cutCapture 0x503 [47]).flag Fld.WIT_WAVE_ARM = true ∧ (up 4).flag Fld.SYS_STAT_HOST_RAMP = false ∧
    (up 4).domMaster = false ∧ (up 4).flag Fld.FLO_SYSSTAT_ADOPT_PEND = false := by unfold com State.comTakes; decide +kernel

-- ── Calibration, pairs, jobs ──────────────────────────────────────────────────────────────────────────────────────

/-- The device with a customer key in slot 0. -/
def keyed (s : State) : State := s.withSec { s.sec with keys := [(0, zeros 420)] }
/-- The words of the vote and of Floe as they stand after reset. -/
def vote : List Byte := wordBytes [regReset Reg.TRK_VOTE, regReset Reg.TRK_VSEL]
def floe : List Byte := wordBytes (([Reg.FLO_CTRL, Reg.FLO_NODE, Reg.FLO_DOM, Reg.FLO_PAIR, Reg.FLO_PAIRT, Reg.FLO_PAIR_CNT, Reg.FLO_SYS] ++
  (List.range 4).map Reg.FLO_PORT_CTRL).map regReset)
theorem wit_CalibrationOpcodes_keyed : com (keyed (up 4)) 0x207 vote ∧ (keyed (up 4)).anyKey = true ∧
    reply (ran (.voteSet 1) (keyed (up 4)) 0x207 vote) = [BitVec.ofNat 8 stForbids] ∧ com (keyed (up 9)) 0x207 vote ∧
    (keyed (up 9)).checkRecord (keyed (up 9)) 0x207 vote = 0 ∧ reply (ran (.voteSet 1) (keyed (up 9)) 0x207 vote) = [0] := by
  unfold com State.comTakes; decide +kernel
theorem wit_CalibrationOpcodes_stored : com (up 4) 0x207 vote ∧ (up 4).anyKey = false ∧ (up 4).checkRecord (up 4) 0x207 vote = 0 ∧
    (up 4).calBody.length + (CalRec.bytes ⟨0x207, vote⟩).length ≤ calLimit ∧ reply (ran (.voteSet 1) (up 4) 0x207 vote) = [0] := by
  unfold com State.comTakes; decide +kernel
theorem wit_CalibrationOpcodes_bench : com (keyed (up 9)) 0x400 (zeros 36) ∧
    (keyed (up 9)).checkRecord (keyed (up 9)) 0x400 (zeros 36) = 0 ∧ byteAt (zeros 36) 0 = 0 ∧
    reply (ran (.prfSet 1) (keyed (up 9)) 0x400 (zeros 36)) = [0] := by unfold com State.comTakes; decide +kernel
theorem wit_CalibrationOpcodes_floe : com (keyed (up 4)) 0x600 floe ∧ (up 4).pairForbids (BitVec.ofNat 32 (leAt floe 12 4)) = false ∧
    (keyed (up 4)).checkRecord (keyed (up 4)) 0x600 floe = 0 ∧ reply (ran (.floSet 1) (keyed (up 4)) 0x600 floe) = [0] := by
  unfold com State.comTakes; decide +kernel
theorem wit_StoredCalibrationGrows : (up 4).sec.calHalf < 2 ∧ recordsOf (up 4).calBody.length (up 4).calBody = some [] ∧ (up 4).calVer = 0 ∧
    (((up 4).appendRecord ⟨0x207, vote⟩).map State.calRecords) = some [⟨0x207, vote⟩] ∧
    ((((up 4).appendRecord ⟨0x207, vote⟩).bind (State.appendRecord · ⟨0x207, [1]⟩)).map State.calRecords) =
      some [⟨0x207, vote⟩, ⟨0x207, [1]⟩] := by decide +kernel
/-- A cope whose partner is ready. -/
def cope : State := put (up 4) [(Fld.FLO_PAIR_EN, 1), (Fld.FLO_PAIRSTAT_ROLE, 1), (Fld.FLO_PAIRSTAT_P_READY, 1)]
theorem wit_PairOpcodes_handover : com cope 0x601 [0xA5] ∧ cope.isCope = true ∧ cope.flo.handover = none ∧
    (ran (.handover 1) cope 0x601 [0xA5]).flo.handover.isSome = true ∧ com (put cope [(Fld.FLO_PAIRSTAT_P_READY, 0)]) 0x601 [0xA5] ∧
    (ran (.handover 1) (put cope [(Fld.FLO_PAIRSTAT_P_READY, 0)]) 0x601 [0xA5]).get Fld.FLO_PAIR_CNT_REFUSED = 1 := by
  unfold com State.comTakes; decide +kernel
theorem wit_PairOpcodes_others : com (up 4) 0x601 [0xA5] ∧ (up 4).isCope = false ∧
    reply (ran (.handover 1) (up 4) 0x601 [0xA5]) = [BitVec.ofNat 8 stForbids] ∧
    com (cope.withFlo { cope.flo with handover := some { giving := true } }) 0x601 [0xA5] ∧
    reply (ran (.handover 1) (cope.withFlo { cope.flo with handover := some { giving := true } }) 0x601 [0xA5]) = [0] := by
  unfold com State.comTakes; decide +kernel
/-- A node with authority, in state `n`. -/
def auth (n : Nat) : State := put (up n) [(Fld.FLO_SYSSTAT_MINORITY, 0)]
/-- The last entries of the two tables. -/
theorem wit_PairOpcodes_tables : (auth 4).minority = false ∧ com (auth 4) 0x602 (leBytes 2 255 ++ leBytes 2 1 ++ wordBytes [5]) ∧
    (ran (.routeSet 1) (auth 4) 0x602 (leBytes 2 255 ++ leBytes 2 1 ++ wordBytes [5])).word (Reg.FLO_RT 255) = 5 ∧
    com (auth 4) 0x603 (leBytes 2 63 ++ leBytes 2 1 ++ wordBytes [5]) ∧
    (ran (.mcSet 1) (auth 4) 0x603 (leBytes 2 63 ++ leBytes 2 1 ++ wordBytes [5])).word (Reg.FLO_MC 63) = 5 ∧
    (ran (.mcSet 1) (auth 4) 0x603 (leBytes 2 63 ++ leBytes 2 1 ++ wordBytes [5])).get Fld.FLO_EPOCH_EPOCH = 1 := by
  unfold com State.comTakes; decide +kernel
theorem wit_PairOpcodes_trim : com (auth 4) 0x604 (leBytes 2 0 ++ leBytes 2 65535) ∧ (auth 4).get Fld.FLO_NODE_DOMAIN = 0 ∧
    (auth 4).stopped = true ∧ (auth 4).flo.adopt = [] ∧ (ran (.ltrim 1) (auth 4) 0x604 (leBytes 2 0 ++ leBytes 2 65535)).get Fld.FLO_LTRIM_TRIM = 65535 ∧
    com (put (auth 4) [(Fld.TRK_STAT_STATE 0, 4)]) 0x604 (leBytes 2 0 ++ leBytes 2 7) ∧ (put (auth 4) [(Fld.TRK_STAT_STATE 0, 4)]).stopped = false ∧
    (ran (.ltrim 1) (put (auth 4) [(Fld.TRK_STAT_STATE 0, 4)]) 0x604 (leBytes 2 0 ++ leBytes 2 7)).flo.adopt = [(Reg.FLO_LTRIM, 7)] ∧
    com (auth 4) 0x604 (leBytes 2 511 ++ leBytes 2 0) ∧ (ran (.ltrim 1) (auth 4) 0x604 (leBytes 2 511 ++ leBytes 2 0)).get Fld.FLO_EPOCH_EPOCH = 1 := by
  unfold com State.comTakes; decide +kernel
/-- A node without authority, and a CMD cell's packet whose sender's epoch is not known. -/
theorem wit_PairOpcodes_forbidden : let s := put (up 4) [(Fld.FLO_SYSSTAT_MINORITY, 1)]
    let l := leBytes 2 0 ++ leBytes 2 1 ++ wordBytes [5]
    com s 0x602 l ∧ s.settingsForbid 1 (pkt 0x602 l) = true ∧ (auth 4).settingsForbid 4 (pkt 0x602 l) = true ∧
    (auth 4).settingsForbid 1 (pkt 0x602 l) = false ∧ reply (ran (.routeSet 1) s 0x602 l) = [BitVec.ofNat 8 stForbids] ∧
    reply (ran (.mcSet 1) s 0x603 l) = [BitVec.ofNat 8 stForbids] ∧ reply (ran (.ltrim 1) s 0x604 (zeros 4)) = [BitVec.ofNat 8 stForbids] := by
  unfold com State.comTakes; decide +kernel

theorem wit_JobOpcodes_image : com (up 4) 0x702 (leBytes 4 0 ++ [1, 2]) ∧ ((up 4).hst.port 1).transfer = none ∧ (up 4).hst.jobs.length < 4 ∧
    (pkt 0x702 (leBytes 4 0 ++ [1, 2])).flags.testBit 2 = false ∧ (ran (.imageLoad 1) (up 4) 0x702 (leBytes 4 0 ++ [1, 2])).hst.jobs.length = 1 ∧
    reply (ran (.imageLoad 1) (up 4) 0x702 (leBytes 4 0 ++ [1, 2])) = [BitVec.ofNat 8 stPending, 1] ∧
    ((ran (.imageLoad 1) (up 4) 0x702 (leBytes 4 0 ++ [1, 2])).hst.port 1).transfer = none := by unfold com State.comTakes; decide +kernel
/-- A fragment: MORE is set. -/
def frag : Packet := { pkt 0x702 (leBytes 4 0 ++ [1, 2]) with flags := 7 }
theorem wit_JobOpcodes_fragment : (waits (up 4) frag).comTakes 1 0x702 frag [] ∧ frag.flags.testBit 2 = true ∧ (waits (up 4) frag).sec.active < 2 ∧
    (after (.imageLoad 1) (waits (up 4) frag)).bytes (slotAddr (1 - (waits (up 4) frag).sec.active)) 2 = [1, 2] ∧
    ((after (.imageLoad 1) (waits (up 4) frag)).hst.port 1).transfer.isSome = true := by unfold State.comTakes; decide +kernel
theorem wit_JobOpcodes_presence : com (up 4) 0x703 (leBytes 4 0) ∧ (up 4).mayActivate = true ∧ (up 4).slotFwVer (up 4).otherSlot = 0 ∧
    (up 4).presenceWaits = false ∧ com (up 4) 0x706 [] ∧ reply (ran (.decommission 1) (up 4) 0x706 []) = [BitVec.ofNat 8 stAwait, 1] ∧
    com (up 4) 0x705 (leBytes 4 0 ++ [0, 0, 0xFF, 0] ++ zeros 416) ∧ keyRecordCheck ([0, 0, 0xFF, 0] ++ zeros 416) = 0 ∧
    reply (ran (.keyEnrol 1) (up 4) 0x705 (leBytes 4 0 ++ [0, 0, 0xFF, 0] ++ zeros 416)) = [BitVec.ofNat 8 stAwait, 1] := by
  unfold com State.comTakes; decide +kernel
/-- The other slot's last check passed. -/
def checked : State := put (up 4) [(slotCode (up 4).otherSlot, 0)]
theorem wit_JobOpcodes_activate : com checked 0x703 (leBytes 4 0) ∧ checked.get (slotCode checked.otherSlot) = 0 ∧
    reply (ran (.imageActivate 1) checked 0x703 (leBytes 4 0)) = [BitVec.ofNat 8 stAwait, 1] := by unfold com State.comTakes; decide +kernel
theorem wit_JobOpcodes_others : com (up 8) 0x704 (leBytes 4 0 ++ [1]) ∧
    reply (ran (.calLoad 1) (up 8) 0x704 (leBytes 4 0 ++ [1])) = [BitVec.ofNat 8 stPending, 1] ∧ com (up 4) 0x507 (zeros 32) ∧
    reply (ran (.attest 1) (up 4) 0x507 (zeros 32)) = [BitVec.ofNat 8 stPending, 1] ∧ com (up 4) 0x605 (leBytes 2 4095 ++ [0, 0] ++ zeros 12) ∧
    reply (ran (.forward 1) (up 4) 0x605 (leBytes 2 4095 ++ [0, 0] ++ zeros 12)) = [BitVec.ofNat 8 stPending, 1] := by
  unfold com State.comTakes; decide +kernel
/-- The second fragment of a transfer, of which 2 bytes have come. -/
def half (op : Nat) : State := (up 4).setPort 1 { HostPort.reset with transfer := some { opcode := op, data := [1, 2], since := 0 } }
def second (op : Nat) (fl : Nat) : Packet := { pkt op (leBytes 4 2 ++ [3]) with flags := fl }
def halved (op fl : Nat) : State := ((half op).set Fld.SEC_STAT_SEAL_OPEN 1).setPort 1 { (half op).hst.port 1 with inq := [second op fl] }
theorem wit_JobOpcodes_parts : (halved 0x702 3).comTakes 1 0x702 (second 0x702 3) [] ∧
    ((halved 0x702 3).hst.port 1).transfer = some { opcode := 0x702, data := [1, 2], since := 0 } ∧
    (after (.imageLoad 1) (halved 0x702 3)).bytes (slotAddr 1 + 2) 1 = [3] ∧ (after (.imageLoad 1) (halved 0x702 3)).hst.jobs.length = 1 ∧
    ((after (.imageLoad 1) (halved 0x702 7)).hst.port 1).transfer.map (·.data) = some [1, 2, 3] ∧
    (halved 0x704 7).comTakes 1 0x704 (second 0x704 7) [] ∧ (halved 0x704 7).sec.calHalf < 2 ∧
    (after (.calLoad 1) (halved 0x704 7)).bytes (calAddr (1 - (halved 0x704 7).sec.calHalf) + 2) 1 = [3] ∧
    (after (.calLoad 1) (halved 0x704 7)).hst.jobs = [] ∧ (halved 0x705 7).comTakes 1 0x705 (second 0x705 7) [] ∧
    ((after (.keyEnrol 1) (halved 0x705 7)).hst.port 1).transfer.map (·.data) = some [1, 2, 3] := by unfold State.comTakes; decide +kernel
/-- An ATTEST while one runs; a FORWARD to node 7 through port 3; a reference loop-back. -/
def ported : State := (put (up 4) [(Fld.FLO_CTRL_EN, 1), (Fld.FLO_NODE_NODE_ID, 5), (Fld.FLO_PORT_STAT_STATE 3, 4)]).setWord (Reg.FLO_RT 0) 0xFFFFFFFF
theorem wit_JobOpcodes_more : com jobbed 0x507 (zeros 32) ∧
    reply (ran (.attest 1) jobbed 0x507 (zeros 32)) = [BitVec.ofNat 8 stBusy] ∧
    com ported 0x605 (leBytes 2 7 ++ [0, 0] ++ zeros 49) ∧ setsSystem (zeros 49) = false ∧ ported.floeOn = true ∧ ported.routeOf 7 = 3 ∧
    ported.portUp 3 = true ∧ ((ran (.forward 1) ported 0x605 (leBytes 2 7 ++ [0, 0] ++ zeros 49)).floPort 3).queue.map (fun c => c.payload.length) = [52, 5] ∧
    setsSystem (zeros 4 ++ leBytes 2 0x602 ++ zeros 6) = true ∧
    reply (ran (.forward 1) (put ported [(Fld.FLO_SYSSTAT_AUTHORITY, 0)]) 0x605 (leBytes 2 7 ++ zeros 6 ++ leBytes 2 0x602 ++ zeros 6)) =
      [BitVec.ofNat 8 stForbids] ∧
    (reply (ran (.loopback 1) (up 9) 0x900 ([0, 0, 2, 0] ++ leBytes 2 1 ++ leBytes 2 48 ++ leBytes 4 1 ++ zeros 8))).length = 52 := by
  unfold com State.comTakes; decide +kernel
/-- A loop-back of SPI, depth 0, one unit of 48 bytes, PRBS seed 1. -/
def loop : List Byte := [0, 0, 0, 0] ++ leBytes 2 1 ++ leBytes 2 48 ++ leBytes 4 1 ++ zeros 8
theorem wit_JobOpcodes_tests : com (up 9) 0x902 [] ∧ (up 9).tstRun = 0 ∧ (ran (.selftest 1) (up 9) 0x902 []).tstRun = 3 ∧ com (up 9) 0x900 loop ∧
    (up 9).loopForbidden 1 [] loop = false ∧ loopValues loop = true ∧ ¬(byteAt loop 0 = 0 ∧ byteAt loop 2 = 2) ∧
    (ran (.loopback 1) (up 9) 0x900 loop).tstRun = 1 ∧ (ran (.loopback 1) (up 9) 0x900 loop).get Fld.TST_LBCNT_SENT = 1 := by
  unfold com State.comTakes; decide +kernel
def busy : State := (up 4).withHst { (up 4).hst with jobs := [{ id := 1 }, { id := 2 }, { id := 3 }, { id := 4 }] }
theorem wit_JobOpcodes_busy : 4 ≤ (waits busy (pkt 0x706 [])).hst.jobs.length ∧ com busy 0x706 [] ∧
    reply (ran (.decommission 1) busy 0x706 []) = [BitVec.ofNat 8 stBusy] := by unfold com State.comTakes; decide +kernel
def simNow : List Byte := wordBytes (simWords.map regReset)
theorem wit_BenchOpcodes_sim : com (up 4) 0x901 simNow ∧ reply (ran (.sim 1) (up 4) 0x901 simNow) = [BitVec.ofNat 8 stForbids] ∧
    com (up 9) 0x901 simNow ∧ (up 9).checkRegs (up 9) (simWords.zip (simWords.map regReset)) = 0 ∧
    ((up 9).regEffect Reg.WHL_SIM_ANG 0).checkRegs ((up 9).regEffect Reg.WHL_SIM_ANG 0) (simWords.zip (simWords.map regReset)) = 0 ∧
    reply (ran (.sim 1) (up 9) 0x901 simNow) = [0] := by unfold com State.comTakes; decide +kernel
theorem wit_BenchOpcodes_words : let words := wordBytes ((simWords.map regReset).set 0 1 |>.set 1 9 |>.set 6 0x100)
    (ran (.sim 1) (up 9) 0x901 words).word Reg.WHL_SIM_CTRL = 1 ∧ (ran (.sim 1) (up 9) 0x901 words).get Fld.WHL_SIM_ANG_ANGLE = 9 ∧
    (ran (.sim 1) (up 9) 0x901 words).flag Fld.WHL_SIM_FLT_DROP = true := by decide +kernel
/-- Channel 46, ITEST 102, TRAMP 1,000 µs, HOLD_T 500 µs. -/
def otPl : List Byte := [46, 0] ++ leBytes 2 102 ++ leBytes 2 1000 ++ leBytes 2 500 ++ zeros 8
theorem wit_BenchOpcodes_output : com (up 4) 0x407 otPl ∧ com (up 9) 0x407 otPl ∧ (up 9).partnerDrives = false ∧ (up 9).otOk otPl = true ∧
    (up 9).tstRun = 0 ∧ (up 9).phase 46 = 0 ∧ otPl.length = 16 ∧ (ran (.outputTest 1) (up 9) 0x407 otPl).tstRun = 2 ∧
    (ran (.outputTest 1) (up 9) 0x407 otPl).phase 46 = 2 ∧
    reply (ran (.outputTest 1) (up 4) 0x407 otPl) = [BitVec.ofNat 8 stForbids] := by unfold com State.comTakes; decide +kernel

/-- The fast path may handle the packet; what its command leaves. -/
abbrev fp (s : State) (op : Nat) (pl : List Byte) : Prop := (fast s (pkt op pl)).fastTakes op 1 (pkt op pl)
abbrev ranFast (c : Instr) (s : State) (op : Nat) (pl : List Byte) : State := after c (fast s (pkt op pl))
/-- Cylinder 24 has slots 2047 and one before it. -/
def cyl24 : State := put (up 6) [(Fld.SCH_CYL_C_SLOT_BASE 23, 2046), (Fld.SCH_CYL_C_SLOT_CNT 23, 2)]
/-- A shot on channel 46 from 100 au to 200 au. -/
def shotPl : List Byte := [24, 0] ++ leBytes 2 1 ++ wordBytes [0x80000064, 200, 46, 0]
theorem wit_FastPathOpcodes_write : fp cyl24 0x3F0 shotPl ∧ cyl24.setsForbidden = false ∧ cyl24.testOutside ⟨0x80000064, 200, 46, 0⟩ = false ∧
    cyl24.descOk ⟨0x80000064, 200, 46, 0⟩ = true ∧ Desc.reserved ⟨0x80000064, 200, 46, 0⟩ = false ∧ 1 + 1 ≤ cyl24.slotCnt 23 ∧
    (ranFast .setWrite cyl24 0x3F0 shotPl).txnOpen 23 = true ∧ (ranFast .setWrite cyl24 0x3F0 shotPl).word (Reg.SCH_SHADOW 2047 0) = 0x80000064 ∧
    reply (ranFast .setWrite cyl24 0x3F0 shotPl) = [0] := by unfold fp State.fastTakes; decide +kernel
/-- Two descriptors with CLOSE and REPLACE: the set passes, and its transaction is closed. A set that does not pass stays open. -/
theorem wit_FastPathOpcodes_sets : let two := [24, 3] ++ leBytes 2 0 ++ wordBytes [0x80000064, 200, 46, 0, 0x80000065, 201, 47, 0]
    let one := [24, 2] ++ leBytes 2 0 ++ wordBytes [0x80000064, 200, 46, 0]
    let bad := [24, 1] ++ leBytes 2 0 ++ wordBytes [0x80000064, 200, 46, 0]
    let set2 := cyl24.setWord (Reg.SCH_SHADOW 2047 0) 0xA0000000
    fp cyl24 0x3F0 two ∧ cyl24.descOk ⟨0x80000065, 201, 47, 0⟩ = true ∧ cyl24.testOutside ⟨0x80000065, 201, 47, 0⟩ = false ∧
    reply (ranFast .setWrite cyl24 0x3F0 two) = [0] ∧ (ranFast .setWrite cyl24 0x3F0 two).txnOpen 23 = false ∧
    (ranFast .setWrite cyl24 0x3F0 two).word (Reg.SCH_SHADOW 2047 0) = 0x80000065 ∧
    (ranFast .setWrite set2 0x3F0 one).word (Reg.SCH_SHADOW 2047 0) = 0x20000000 ∧ (ranFast .setWrite set2 0x3F0 one).txnOpen 23 = true ∧
    reply (ranFast .setWrite set2 0x3F0 bad) = [BitVec.ofNat 8 stOutOfRange] ∧ (ranFast .setWrite set2 0x3F0 bad).txnOpen 23 = true := by
  unfold fp State.fastTakes; decide +kernel
theorem wit_FastPathOpcodes_refused : (fast (up 8) (pkt 0x3F0 shotPl)).hst.fpq.head? = some (1, pkt 0x3F0 shotPl) ∧ (up 8).st = 8 ∧
    reply (ranFast .setWrite (up 8) 0x3F0 shotPl) = [BitVec.ofNat 8 stForbids] ∧ fp (put cyl24 [(Fld.SCH_CTRL_DEMAND, 1)]) 0x3F0 shotPl ∧
    (put cyl24 [(Fld.SCH_CTRL_DEMAND, 1)]).setsForbidden = true ∧
    reply (ranFast .setWrite (put cyl24 [(Fld.SCH_CTRL_DEMAND, 1)]) 0x3F0 shotPl) = [BitVec.ofNat 8 stForbids] := by
  unfold fp State.fastTakes; decide +kernel
def txn24 : State := put cyl24 [(Fld.SCH_TXN_OPEN, 2 ^ 23)]
theorem wit_FastPathOpcodes_ends : fp txn24 0x3F1 (leBytes 4 (2 ^ 23)) ∧
    (2 ^ 23 &&& ((fast txn24 (pkt 0x3F1 (leBytes 4 (2 ^ 23)))).fastTaken.closeTxns (2 ^ 23)).get Fld.SCH_TXN_OPEN) = 0 ∧
    (ranFast .setClose txn24 0x3F1 (leBytes 4 (2 ^ 23))).txnOpen 23 = false ∧ fp txn24 0x3F2 (leBytes 4 (2 ^ 24 - 1)) ∧
    (ranFast .setAbort txn24 0x3F2 (leBytes 4 (2 ^ 24 - 1))).txnOpen 23 = false ∧ fp cyl24 0x3F3 ([24, 0] ++ leBytes 2 0 ++ leBytes 4 2) ∧
    cyl24.slotBase 23 + cyl24.slotCnt 23 ≤ 2048 ∧ reply (ranFast .shotCancel cyl24 0x3F3 ([24, 0] ++ leBytes 2 0 ++ leBytes 4 2)) = [0] := by
  unfold fp State.fastTakes; decide +kernel
theorem wit_FastPathOpcodes_open : let s := txn24.setWord (Reg.SCH_SHADOW 2047 0) 0xA0000000
    (2 ^ 23 &&& ((fast s (pkt 0x3F1 (leBytes 4 (2 ^ 23)))).fastTaken.closeTxns (2 ^ 23)).get Fld.SCH_TXN_OPEN) = 2 ^ 23 ∧
    reply (ranFast .setClose s 0x3F1 (leBytes 4 (2 ^ 23))) = [BitVec.ofNat 8 stOutOfRange, 0, 0, 0x80] ∧
    (put cyl24 [(Fld.SCH_ARMED_ARMED 63, 2 ^ 31)]).armed 2047 = true ∧
    (ranFast .shotCancel (put cyl24 [(Fld.SCH_ARMED_ARMED 63, 2 ^ 31)]) 0x3F3 ([24, 0] ++ leBytes 2 0 ++ leBytes 4 2)).armed 2047 = false ∧
    (ranFast .shotCancel (put cyl24 [(Fld.SCH_ARMED_ARMED 63, 2 ^ 31)]) 0x3F3 ([24, 0] ++ leBytes 2 0 ++ leBytes 4 2)).fired 2047 = true := by
  decide +kernel
theorem wit_FastPathOpcodes_demand : fp (up 6) 0x3F4 (wordBytes [0x0101, 7, 8] ++ leBytes 3 (2 ^ 24 - 1) ++ [0]) ∧ (up 6).isDrag = false ∧
    (8 : Word).toNat / 65536 ≠ 0xFFFF ∧ reply (ranFast .demand (up 6) 0x3F4 (wordBytes [0, 0, 0xFFFF0000] ++ zeros 4)) = [BitVec.ofNat 8 stOutOfRange] ∧
    (ranFast .demand (up 6) 0x3F4 (wordBytes [0x0101, 7, 8] ++ leBytes 3 (2 ^ 24 - 1) ++ [0])).word Reg.SCH_DEM1 = 7 ∧
    (ranFast .demand (up 6) 0x3F4 (wordBytes [0x0101, 7, 8] ++ leBytes 3 (2 ^ 24 - 1) ++ [0])).get Fld.SCH_DEM3_CYL_OFF = 2 ^ 24 - 1 ∧
    (ranFast .demand (up 6) 0x3F4 (wordBytes [0x0101, 7, 8] ++ leBytes 3 (2 ^ 24 - 1) ++ [0])).get Fld.SCH_DEM3_UPD = 1 := by
  unfold fp State.fastTakes; decide +kernel

-- ── Transports ────────────────────────────────────────────────────────────────────────────────────────────────────

theorem wit_SpiTransfers_packets : ((up 4).advance 0).portServed 0 = true ∧ (packetBytes 1 7 0x100 []).head? = some 0xC7 ∧
    (after (.spiPacketWrite 0 (packetBytes 1 7 0x100 []) 8 false) (up 4)).get Fld.PKT_STAT_DROPPED = 1 ∧
    ((after (.spiPacketWrite 0 (packetBytes 1 7 0x100 []) 12 false) (up 4)).hst.port 0).inq = [pkt 0x100 []] ∧
    (((up 4).setPort 0 { HostPort.reset with outq := [([], [9])] }).advance 0).portServed 0 = true ∧
    ((after (.spiPacketRead 0 2 false) ((up 4).setPort 0 { HostPort.reset with outq := [([], [9])] })).hst.spiOut.drop 1) = [9, 0] ∧
    (after (.spiUnknownCommand 0 0 false) (up 4)).get Fld.HST_SPI_STAT_FRAME = 1 := by decide +kernel
def regSpi : State := put (up 4) [(Fld.HST_SPI_CFG_REGMODE, 1)]
theorem wit_SpiTransfers_registers : (regSpi.advance 0).spiLive = true ∧ (regSpi.advance 0).flag Fld.HST_SPI_CFG_REGMODE = true ∧ hostRange area 1 = true ∧ inHostArea area = true ∧
    (after (.spiRegWrite 0 (let b := leBytes 1 0xA2 ++ leBytes 4 area ++ leBytes 4 0x04030201; b ++ leBytes 4 (crc32c b).toNat) false) regSpi).bytes
      area 4 = [1, 2, 3, 4] ∧
    (after (.spiRegRead 0 (let b := leBytes 1 0xA1 ++ leBytes 4 area; b ++ leBytes 4 (crc32c b).toNat) false) regSpi).hst.spiOut.length = 10 := by
  decide +kernel
theorem wit_SpiTransfers_more : let read := leBytes 1 0xA1 ++ leBytes 4 area
    let plain := put (up 4) [(Fld.HST_SPI_CFG_REGMODE, 0)]
    let q := (up 4).setPort 0 { HostPort.reset with outq := [([], [9, 8])] }
    (after (.spiPacketWrite 0 (packetBytes 1 7 0x100 []) 7 false) (up 4)).get Fld.PKT_STAT_DROPPED = 1 ∧
    (after (.spiPacketRead 0 1 false) q).hst.spiOut.drop 1 = [9] ∧ ((after (.spiPacketRead 0 1 false) q).hst.port 0).outq.length = 1 ∧
    (after (.spiPacketRead 0 2 false) (up 4)).hst.spiOut.drop 1 = [0, 0] ∧ regSpi.regMode 0xA1 9 (read ++ zeros 4) = true ∧
    regSpi.regRequest (read ++ zeros 4) 5 = stBadCrc ∧
    ((after (.spiRegRead 0 (read ++ zeros 4) false) regSpi).hst.spiOut.drop 1).head? = some (BitVec.ofNat 8 stBadCrc) ∧
    regSpi.regMode 0xA2 13 (0xA2 :: zeros 12) = true ∧ regSpi.regRequest (0xA2 :: zeros 12) 9 ≠ 0 ∧
    (after (.spiRegWrite 0 (0xA2 :: zeros 12) false) regSpi).get Fld.HST_SPI_STAT_REG_STATUS ≠ 0 ∧ plain.flag Fld.HST_SPI_CFG_REGMODE = false ∧
    (after (.spiRegRead 0 (read ++ zeros 4) true) plain).hst.spiOut.length = 1 ∧
    (after (.spiRegRead 0 (read ++ zeros 4) true) plain).flag Fld.HST_SPI_STAT_MODE = true := by decide +kernel
/-- CAN0 with BASE 0 and NODE 0, a part of a packet received since 0. -/
def base0 : State := put (up 4) [(Fld.HST_CAN_ID_BASE 0, 0), (Fld.HST_CAN_ID_NODE 0, 0)]
def canned (s : State) : State := s.withHst { s.hst with canPart := [(0, some { bytes := [9], next := 1, since := 0 })] }
theorem wit_TransportFrames_can : (base0.advance 0).canAccepts 0 true 8192 = true ∧ (8192 / 8192 % 4 = 1) ∧ (base0.advance 0).canPart 0 = none ∧
    (after (.canFrameRx 0 0 true 8192 [0, 5]) base0).canPart 0 = some { bytes := [5], next := 1, since := 0 } ∧
    (base0.advance 0).canAccepts 0 true 0 = true ∧ ((after (.canFrameRx 0 0 true 0 (0 :: packetBytes 1 7 0x100 [])) base0).hst.port 1).inq =
      [pkt 0x100 []] ∧
    ((canned base0).advance 0).canAccepts 0 true 16384 = true ∧ ((canned base0).advance 0).canPart 0 = some { bytes := [9], next := 1, since := 0 } ∧
    byteAt [2, 6] 0 ≠ 1 ∧ (after (.canFrameRx 0 0 true 16384 [2, 6]) (canned base0)).canPart 0 = none ∧
    (after (.canFrameRx 0 0 true 16384 [2, 6]) (canned base0)).get (Fld.HST_CAN_STAT_REASM_DROP 0) = 1 := by decide +kernel
theorem wit_TransportFrames_parts : let b := packetBytes 1 7 0x100 []
    let mid := base0.withHst { base0.hst with canPart := [(0, some { bytes := b.take 5, next := 1, since := 0 })] }
    (mid.advance 0).canPart 0 = some { bytes := b.take 5, next := 1, since := 0 } ∧ (mid.advance 0).passed 0 (100 * msTicks) = false ∧
    (after (.canFrameRx 0 0 true 16384 (1 :: (b.drop 5).take 2)) mid).canPart 0 = some { bytes := b.take 7, next := 2, since := 0 } ∧
    (base0.advance 0).canAccepts 0 true 24576 = true ∧ ((after (.canFrameRx 0 0 true 24576 (1 :: b.drop 5)) mid).hst.port 1).inq = [pkt 0x100 []] ∧
    (after (.canFrameRx 0 0 true 24576 (1 :: b.drop 5)) base0).canPart 0 = none ∧
    (after (.canFrameRx 0 0 true 8192 [0, 5]) mid).canPart 0 = some { bytes := [5], next := 1, since := 0 } ∧
    (after (.canFrameRx 0 0 true 8192 [0, 5]) mid).get (Fld.HST_CAN_STAT_REASM_DROP 0) = 1 ∧
    (base0.advance 0).canAccepts 0 false 8192 = false ∧ after (.canFrameRx 0 0 false 8192 [0, 5]) mid = mid.advance 0 := by decide +kernel
def t1s : State := put (up 4) [(Fld.HST_T1S_CFG_EN, 1), (Fld.HST_T1S_CFG_PLCA_EN, 1)]
theorem wit_TransportFrames_times : ((canned (atTime (up 4) (100 * msTicks))).advance 0).passed 0 (100 * msTicks) = true ∧
    (after (.canReasmTimeout 0 0) (canned (atTime (up 4) (100 * msTicks)))).canPart 0 = none ∧
    (after (.canReasmTimeout 0 0) (canned (atTime (up 4) (100 * msTicks - 1)))).canPart 0 ≠ none ∧ ((up 4).advance 0).portServed 1 = true ∧
    (after (.canErrorState 0 0 2 0 255) (up 4)).get (Fld.HST_CAN_STAT_STATE 0) = 2 ∧ (t1s.advance 0).portServed 3 = true ∧
    ((after (.t1sFrameRx 0 t1s.macBytes (zeros 6) 0x88B5 true (packetBytes 1 7 0x100 [])) t1s).hst.port 3).inq =
      [{ pkt 0x100 [] with source := zeros 6 }] ∧
    [1, 2, 3, 4, 5, 6] ≠ t1s.macBytes ∧ (t1s.advance 0).flag Fld.HST_T1S_STAT_PLCA_ACTIVE = !true ∧
    (after (.plcaStatus 0 true) t1s).flag Fld.HST_T1S_STAT_PLCA_ACTIVE = true := by decide +kernel
theorem wit_TransportFrames_t1s : (after (.t1sFrameRx 0 t1s.macBytes (zeros 6) 0x88B5 false []) t1s).get Fld.HST_T1S_STAT_FCS_ERR = 1 ∧
    ((after (.t1sFrameRx 0 (zeros 6) (zeros 6) 0x88B6 true (packetBytes 1 7 0x100 [])) t1s).hst.port 3).inq = [] ∧
    ((after (.t1sFrameRx 0 t1s.macBytes (zeros 6) 0x88B6 true (packetBytes 1 7 0x100 [])) t1s).hst.port 3).inq = [] := by decide +kernel
def transferring : State := (atTime (up 4) (1000 * msTicks)).setPort 1 { HostPort.reset with transfer := some { since := 0 }, outq := [([], [9])] }
def streaming : State := (put (up 4) [(Fld.WIT_STREAM_EN, 1)]).withWit { (up 4).wit with unsent := [4294967295, 0], ring := [(0, zeros 48)] }
  |>.withHst { (up 4).hst with streamPort := 1 }
theorem wit_TransportFrames_sends : ((transferring.advance 0).hst.port 1).transfer = some { since := 0 } ∧
    (transferring.advance 0).passed 0 (1000 * msTicks) = true ∧ ((after (.fragmentTimeout 0 1) transferring).hst.port 1).transfer = none ∧
    (transferring.advance 0).portServed 1 = true ∧ (transferring.advance 0).get (Fld.HST_CAN_STAT_STATE 0) < 2 ∧
    ((after (.packetTransmitDone 0 1) transferring).hst.port 1).outq = [] ∧ (streaming.advance 0).mayStream = true ∧
    (streaming.advance 0).wit.unsent ≠ [] ∧ (after (.streamNotice 0) streaming).wit.unsent = [] ∧
    ((after (.streamNotice 0) streaming).hst.port 1).notice = 1 ∧ ((after (.streamNotice 0) streaming).hst.port 1).outq.length = 1 := by
  decide +kernel
/-- A reply to node 7 waits on the Floe port. -/
def sending4 : State := let s := (put (up 4) [(Fld.FLO_CTRL_EN, 1), (Fld.FLO_NODE_NODE_ID, 5), (Fld.FLO_PORT_STAT_STATE 3, 4)]).setWord (Reg.FLO_RT 0) 0xFFFFFFFF
  s.setPort 4 { HostPort.reset with outq := [(leBytes 2 7, zeros 50)] }
theorem wit_TransportFrames_cells : (sending4.advance 0).nextToLeave 4 = some (leBytes 2 7, zeros 50) ∧ (sending4.advance 0).portServed 4 = true ∧
    sending4.routeOf 7 = 3 ∧ sending4.portUp 3 = true ∧ ((after (.packetTransmitDone 0 4) sending4).hst.port 4).outq = [] ∧
    ((after (.packetTransmitDone 0 4) sending4).floPort 3).queue.map (fun c => (c.typ, c.payload.length)) = [(4, 52), (4, 6)] ∧
    spGet (fun _ => []) (after (.packetTransmitDone 0 1) transferring).hst.canOut 0 = (transferring.advance 0).canFrames 0 [9] ∧
    ((transferring.advance 0).canFrames 0 [9]).length = 1 := by decide +kernel

-- ── Jobs end ──────────────────────────────────────────────────────────────────────────────────────────────────────

/-- A device with a job of an opcode, opened at 0 from CAN0. -/
def job (s : State) (op : Nat) (data : List Byte) (presence : Nat) : State :=
  s.withHst { s.hst with jobs := [{ id := 255, opcode := op, port := 1, data := data, presence := presence }] }
theorem wit_JobsEnd_attest : ((job (up 4) 0x507 [1, 2] 0).advance 0).endingJob 0x507 = some { id := 255, opcode := 0x507, port := 1, data := [1, 2] } ∧
    (after (.attestDone 0) (job (up 4) 0x507 [1, 2] 0)).hst.jobs = [] ∧
    spGet (fun _ => 0) (after (.attestDone 0) (job (up 4) 0x507 [1, 2] 0)).hst.ended 255 = 1 := by decide +kernel
theorem wit_JobsEnd_images : ((job (up 4) 0x702 [] 0).advance 0).endingJob 0x702 = some { id := 255, opcode := 0x702, port := 1 } ∧
    (after (.imageLoadDone 0) (job (up 4) 0x702 [] 0)).hst.jobs = [] ∧
    ((job (up 4) 0x703 [] 0).advance 0).endingJob 0x703 = some { id := 255, opcode := 0x703, port := 1 } ∧
    (after (.activateDone 0) (job (up 4) 0x703 [] 0)).hst.jobs = [] ∧
    ((job (up 4) 0x704 [] 0).advance 0).endingJob 0x704 = some { id := 255, opcode := 0x704, port := 1 } ∧
    spGet (fun _ => 0) (after (.calLoadDone 0) (job (up 4) 0x704 [] 0)).hst.ended 255 ≠ 0 := by decide +kernel
/-- An empty slot does not verify; a package of nothing is refused. -/
theorem wit_JobsEnd_statuses : (((job (up 4) 0x702 [] 0).advance 0).verifySlot 1).1 = false ∧
    spGet (fun _ => 0) (after (.imageLoadDone 0) (job (up 4) 0x702 [] 0)).hst.ended 255 = 1 + stVerify ∧
    spGet (fun _ => 0) (after (.activateDone 0) (job (up 4) 0x703 [] 0)).hst.ended 255 = 1 + stVerify ∧
    (after (.activateDone 0) (job (up 4) 0x703 [] 0)).sec.active = (up 4).sec.active ∧
    spGet (fun _ => 0) (after (.decommissionDone 0) (job (keyed (up 4)) 0x706 [] 0)).hst.ended 255 = 1 := by decide +kernel
/-- A key record of slot 1, mode `m`, with no authority. -/
def keyRecord (m : Byte) : List Byte := [1, m, 0xFF, 0] ++ zeros 416
theorem wit_JobsEnd_keys : ((job (up 4) 0x705 (keyRecord 0) 0).advance 0).endingJob 0x705 =
      some { id := 255, opcode := 0x705, port := 1, data := keyRecord 0 } ∧
    ((up 4).advance 0).keyAuthorised (keyRecord 0) = true ∧ (after (.keyEnrolDone 0) (job (up 4) 0x705 (keyRecord 0) 0)).keyRec 1 = keyRecord 0 ∧
    (after (.keyEnrolDone 0) (job (up 4) 0x705 (keyRecord 1) 0)).keyRec 1 = [] ∧
    spGet (fun _ => 0) (after (.keyEnrolDone 0) (job (up 4) 0x705 (keyRecord 0) 0)).hst.ended 255 = 1 ∧
    (after (.decommissionDone 0) (job (keyed (up 4)) 0x706 [] 0)).sec.keys = [] ∧
    (after (.decommissionDone 0) (job (keyed (up 4)) 0x706 [] 0)).sec.epoch = 1 := by decide +kernel
theorem wit_JobsEnd_times :
    ((job (atTime (up 4) (30000 * msTicks + 1)) 0x706 [] 1).advance 0).hst.jobs.find? (fun k => k.presence != 0) =
      some { id := 255, opcode := 0x706, port := 1, presence := 1 } ∧ ((up 4).advance 0).comRuns = true ∧
    (after (.presenceTimeout 0) (job (atTime (up 4) (30000 * msTicks + 1)) 0x706 [] 1)).hst.jobs = [] ∧
    (after (.presenceTimeout 0) (job (atTime (up 4) (30000 * msTicks)) 0x706 [] 1)).hst.jobs ≠ [] ∧
    (after (.forwardTimeout 0 255) (job (atTime (up 4) (100 * msTicks)) 0x605 [] 0)).hst.jobs = [] := by decide +kernel
def resetting : State := (up 4).withHst { (up 4).hst with resetAt := some 0 }
theorem wit_JobsEnd_reset : (resetting.advance 0).hst.resetAt = some 0 ∧ (after (.updateReset 0) resetting).pwr.inReset = true ∧
    (after (.updateReset 0) resetting).flag Fld.PWR_RSTC_UPDATE = true ∧ (after (.updateReset 0) resetting).st = 2 := by decide +kernel

-- ── The test block ────────────────────────────────────────────────────────────────────────────────────────────────

def looping : State := (put (up 9) [(Fld.TST_STAT_RUN, 1)]).withTst { (up 9).tst with waiting := true, count := 5, len := 1 }
theorem wit_TestRows_loop : (looping.advance 0).unitOut = true ∧ (looping.advance 0).passed 0 (10 * msTicks) = false ∧
    (looping.advance 0).get Fld.TST_STAT_IF ≠ 4 ∧ (after (.loopbackUnitReturn 0 true 0) looping).get Fld.TST_LBCNT_GOOD = 1 ∧
    (after (.loopbackUnitReturn 0 false 0) looping).get Fld.TST_LBERR_BAD = 1 ∧ ((atTime looping (10 * msTicks)).advance 0).unitOut = true ∧
    (after (.loopbackUnitTimeout 0) (atTime looping (10 * msTicks))).get Fld.TST_LBERR_BAD = 1 ∧
    (after (.loopbackDone 0) (put (up 9) [(Fld.TST_STAT_RUN, 1), (Fld.TST_LBCNT_GOOD, 3)])).tstRun = 0 := by decide +kernel
def selfing : State := job (put (up 9) [(Fld.TST_STAT_RUN, 3)]) 0x902 [] 0
theorem wit_TestRows_self : (selfing.advance 0).runningJob 0x902 = some { id := 255, opcode := 0x902, port := 1 } ∧
    (selfing.advance 0).jobMayEnd { id := 255, opcode := 0x902, port := 1 } = true ∧ (after (.selftestDone 0 0xFFFFF) selfing).tstRun = 0 ∧
    (after (.selftestDone 0 0xFFFFF) selfing).get Fld.TST_SELF_FAIL = 0xFFFFD := by decide +kernel
/-- An output self-test of channel 0 in its ramp; and 500 µs into its hold of 1 ms, with limits that hold all values. -/
def ramping : State := (put (up 9) [(Fld.TST_STAT_RUN, 2)]).withTst { (up 9).tst with
  otCh := 1, otPort := 1, otPkt := some (pkt 0x407 otPl), otArgs := [0, 0] ++ leBytes 2 102 ++ leBytes 2 1000 ++ leBytes 2 500 ++ [0, 0, 0xFF, 0xFF, 0, 0, 0xFF, 0xFF] }
def holding : State := let s := atTime ramping (500 * usTicks); s.withTst { s.tst with otHold := some 0, otV := 4000, otI := 0, otEnd := 1 }
theorem wit_TestRows_output : (ramping.advance 0).tstRun = 2 ∧ (ramping.advance 0).tst.otHold = none ∧ (ramping.advance 0).st = 9 ∧
    (ramping.advance 0).tst.otTrip = false ∧ (after (.outputTestRampEnd 0 true 5 6 7) ramping).phase 0 = 4 ∧
    ((atTime ramping (usTicks * 1000)).advance 0).passed 0 (usTicks * (ramping.advance 0).otArg 4) = true := by decide +kernel
theorem wit_TestRows_hold : (holding.advance 0).passed 0 (usTicks * (holding.advance 0).otArg 6) = true ∧ (holding.advance 0).otCompute 100 1000 = some (100, 40) ∧
    (after (.outputTestHoldEnd 0 100 1000) holding).tstRun = 0 ∧ (after (.outputTestHoldEnd 0 100 1000) holding).get Fld.TST_OTRES0_R = 100 ∧
    (after (.outputTestHoldEnd 0 100 1000) holding).get Fld.TST_OTRES0_L = 40 ∧
    (after (.outputTestHoldEnd 0 100 1000) holding).get Fld.TST_OTRES1_RESULT = 0 := by decide +kernel
/-- A reference unit at depth 0; a loop-back that a job waits for; a trip in the ramp and in the hold. -/
def refLoop : State := put looping [(Fld.TST_STAT_IF, 4)]
theorem wit_TestRows_more : (refLoop.advance 0).unitOut = true ∧ (refLoop.advance 0).get Fld.TST_STAT_DEPTH = 0 ∧
    (after (.loopbackUnitReturn 0 true 0) refLoop).get Fld.TST_LBCNT_GOOD = (if refGood looping.tst.sub 0 then 1 else 0) ∧
    (after (.loopbackDone 0) (job (put (up 9) [(Fld.TST_STAT_RUN, 1)]) 0x900 [] 0)).hst.jobs = [] ∧
    spGet (fun _ => 0) (after (.loopbackDone 0) (job (put (up 9) [(Fld.TST_STAT_RUN, 1)]) 0x900 [] 0)).hst.ended 255 = 1 ∧
    ((ramping.withTst { ramping.tst with otTrip := true }).advance 0).tstRun = 2 ∧ ((ramping.withTst { ramping.tst with otTrip := true }).advance 0).st = 9 ∧
    ((holding.withTst { holding.tst with otTrip := true }).advance 0).tst.otHold = some 0 ∧ 0 < ramping.tst.otCh := by decide +kernel

-- ── Accesses to single registers ──────────────────────────────────────────────────────────────────────────────────

theorem wit_SystemRegisterRows_system : (after (.sysFaultClear 0x7FF) (put (up 4) [(Fld.SYS_FAULT_CMD, 1)])).word Reg.SYS_FAULT = 0 ∧
    (up 4).clk.phase = .idle ∧ (up 4).get Fld.PWR_STAT_STAGE < 2 ∧ (up 4).clk.d ≠ opDiv 3 ∧
    (after (.opRequest 3) (up 4)).flag Fld.CLK_STAT_DVFS_BUSY = true ∧ (up 4).gateRefused 0 0 false = 0 ∧
    (after (.gateWrite 0 0 false) (up 4)).word Reg.CLK_GATE0 = 0 ∧ (up 4).gateRefused 0 0 true = 0x41 ∧
    (after (.gateWrite 0 0 true) (up 4)).bus.status = stForbids ∧ (up 4).regUp Reg.CLK_FMC_CTRL = true ∧
    (up 4).writeStatus Reg.CLK_FMC_CTRL (0 ||| 0x1000000) false = 0 ∧ (up 4).flag Fld.CLK_GATE1_FMC = true ∧
    (after (.fmcStart 0) (up 4)).clk.fmcOpen = true := by decide +kernel
/-- Tracker 1 in state `n`, on a wheel of 4 positions a revolution. -/
def wheeled (n : Nat) : State := put (up 4) [(Fld.TRK_STAT_STATE 1, n), (Fld.WHL_WD_CFG_POS_REV 1, 4)]
/-- A tracker whose bucket 7 is trained. -/
def trained : State := (put (up 4) [(Fld.TRK_LOAD_TRAINED 1, 0x80)]).setTrk 1 { (up 4).trk 1 with trainCnt := [(7, 3)] }
theorem wit_SystemRegisterRows_tracker : trained.flag Fld.CLK_GATE0_TRK = true ∧
    (after (.bucketUntrain 1 0x80) trained).get (Fld.TRK_LOAD_TRAINED 1) = 0 ∧
    spGet (fun _ => 0) ((after (.bucketUntrain 1 0x80) trained).trk 1).trainCnt 7 = 0 ∧ (up 4).get (Fld.TRK_CTRL_SRC 1) ≤ 1 ∧
    (up 4).trkState 1 = 0 ∧ (after (.trkCtrlResync 1) (up 4)).trkState 1 = 0 ∧ (wheeled 2).trkState 1 = 2 ∧
    (wheeled 4).trkState 1 = 4 ∧ (after (.trkCtrlResync 1) (wheeled 4)).trkState 1 = 2 ∧ (after (.trkCtrlResync 1) (wheeled 2)).trkState 1 = 2 := by
  decide +kernel
/-- Entry 1023 of a table; the index wraps with AUTOINC. -/
def tabled (t : Nat) : State := put (up 4) [(Fld.TRK_TBLA_TABLE 1, t), (Fld.TRK_TBLA_INDEX 1, 1023), (Fld.TRK_TBLA_BUCKET 1, 7), (Fld.TRK_TBLA_AUTOINC 1, 1)]
theorem wit_SystemRegisterRows_table : (tabled 0).flag (Fld.TRK_TBLA_TABLE 1) = false ∧ (tabled 1).flag (Fld.TRK_TBLA_TABLE 1) = true ∧
    spGet (fun _ => 0) ((after (.tblDataAccess 1 true 5) (tabled 0)).trk 1).profile 1023 = 5 ∧
    (after (.tblDataAccess 1 true 5) (tabled 0)).get (Fld.TRK_TBLA_INDEX 1) = 0 ∧
    ((after (.tblDataAccess 1 true 5) (tabled 1)).trk 1).kOf 7 1023 = 5 ∧
    (after (.tblDataAccess 1 true 5) (put (tabled 1) [(Fld.TRK_LEARN_MODEL_LEARN 1, 1)])).flag (Fld.TRK_STAT_TBL_DROP 1) = true ∧
    ((after (.tblDataAccess 1 true 5) (put (tabled 1) [(Fld.TRK_LEARN_MODEL_LEARN 1, 1)])).trk 1).kOf 7 1023 = 0x4000 ∧
    (after (.tblDataAccess 1 false 0) (tabled 1)).bus.data = 0x4000 := by decide +kernel
theorem wit_SystemRegisterRows_simulator : (up 4).flag Fld.CLK_GATE0_WHL = true ∧ (after (.simCtrlWrite 1) (up 9)).flag Fld.WHL_SIM_CTRL_EN = true ∧
    (after (.simCtrlWrite 1) (up 4)).flag Fld.WHL_SIM_CTRL_EN = false ∧ (after (.simDrop 255) (up 9)).get Fld.WHL_SIM_FLT_DROP_N = 15 ∧
    (after .simExtra (up 9)).flag Fld.WHL_SIM_FLT_EXTRA = true ∧ (after .simFlip (up 9)).flag Fld.WHL_SIM_FLT_FLIP = true := by decide +kernel
theorem wit_SystemRegisterRows_simOff : let s := put (up 9) [(Fld.WHL_SIM_CTRL_EN, 1), (Fld.WHL_CFG_FE 3, 2), (Fld.WHL_STAT_LEVEL 3, 1)]
    (after (.simCtrlWrite 0xFFFFFFFF) (up 9)).word Reg.WHL_SIM_CTRL = 0x3F ∧ s.frontEnd 3 = 2 ∧ s.wheelPin 3 = false ∧
    (after (.simCtrlWrite 0) s).flag (Fld.WHL_STAT_LEVEL 3) = false ∧ (∀ y : Fin 2, (wheeled 4).posRev y ≠ 0 ∨ (wheeled 4).trkState y = 0) := by
  decide +kernel
theorem wit_ShotRegisterRows_sets : cyl24.flag Fld.CLK_GATE0_SCH = true ∧ (after (.txnOpen 23) cyl24).txnOpen 23 = true ∧ txn24.txnOpen 23 = true ∧
    txn24.setOk 23 = true ∧ (after (.txnClose 23) txn24).txnOpen 23 = false ∧ (txn24.setWord (Reg.SCH_SHADOW 2047 0) 0xA0000000).setOk 23 = false ∧
    (after (.txnClose 23) (txn24.setWord (Reg.SCH_SHADOW 2047 0) 0xA0000000)).flag Fld.SCH_STAT_CLOSE_REFUSED = true ∧
    (after (.txnClose 23) (txn24.setWord (Reg.SCH_SHADOW 2047 0) 0xA0000000)).txnOpen 23 = true ∧ cyl24.txnOpen 23 = false ∧
    cyl24.slotBase 23 + cyl24.slotCnt 23 ≤ 2048 ∧
    (after (.txnAbort 23) (txn24.setWord (Reg.SCH_SHADOW 2047 0) 7)).word (Reg.SCH_SHADOW 2047 0) = 0 ∧
    (after .refresh (put cyl24 [(Fld.SCH_STAT_AUTO_CNT, 5)])).get Fld.SCH_STAT_AUTO_CNT = 0 := by decide +kernel
theorem wit_ShotRegisterRows_words : (after (.shadowSlotWrite 2047 3 9) (up 9)).word (Reg.SCH_SHADOW 2047 3) = 9 ∧
    (after (.shadowSlotWrite 2047 3 9) (up 4)).bus.status = stForbids ∧ (up 4).flag Fld.CLK_GATE0_PRF = true ∧
    (((up 4).setWord (Reg.PRF_HOLD 15) 5).shadowProfile 15).ok = true ∧
    (after (.prfApply 15) ((up 4).setWord (Reg.PRF_HOLD 15) 5)).word (Reg.PRF_ACT_HOLD 15) = 5 ∧
    ((put (up 4) [(Fld.PRF_HOLD_SP 15, 1000)]).shadowProfile 15).ok = false ∧
    (after (.prfApply 15) (put (up 4) [(Fld.PRF_HOLD_SP 15, 1000)])).bit Fld.PRF_STAT_APPLY_REF 15 = true := by decide +kernel
theorem wit_ShotRegisterRows_drive : (up 4).flag Fld.CLK_GATE0_DRV = true ∧ (put (up 4) [(Fld.DRV_CH_STAT_PHASE 47, 4)]).phase 47 = 4 ∧
    (after .quench (put (up 4) [(Fld.DRV_CH_STAT_PHASE 47, 4)])).phase 47 = 5 ∧ (up 4).get (Fld.DRV_CH_CFG_ICLAIM 47) ≤ 80 ∧
    (after (.standbyChange (some 47) true) (up 4)).flag (Fld.DRV_CH_CFG_STBY 47) = true ∧ (up 4).paired = false ∧ (up 4).isCope = false ∧
    (after (.standbyChange none true) (up 4)).flag Fld.DRV_CTRL_STBY = true ∧ (up 4).flag Fld.CLK_GATE0_WIT = true ∧
    (after (.witCorrWrite 47 0xFFFF) (up 4)).get (Fld.WIT_CH_CORR_D 47) = 65535 ∧
    (after (.witWaveArm 47) (up 4)).get Fld.WIT_WAVE_CH = 47 ∧ (after (.witWaveArm 47) capturing).flag Fld.WIT_WAVE_ARM = false := by
  decide +kernel
theorem wit_ShotRegisterRows_more : let s := put (up 9) [(Fld.DRV_CTRL_STBY, 1), (Fld.DRV_CH_STAT_PHASE 47, 1)]
    let w := capturing.withWit { capturing.wit with waveCut := some 5 }
    (s.phase 47 = 1 ∧ s.flag Fld.DRV_CTRL_STBY = true) ∧ (after .quench s).phase 47 = 5 ∧ (after .quench s).phase 46 = 0 ∧
    (up 4).inStandby 46 = true ∧ (put (up 4) [(Fld.DRV_CTRL_STBY, 0), (Fld.DRV_CH_CFG_STBY 46, 0), (Fld.DRV_CH_STAT_PHASE 46, 4)]).inStandby 46 = false ∧
    (after (.standbyChange none true) (put (up 4) [(Fld.DRV_CTRL_STBY, 0), (Fld.DRV_CH_CFG_STBY 46, 0), (Fld.DRV_CH_STAT_PHASE 46, 4)])).phase 46 = 0 ∧
    w.wit.waveCut = some 5 ∧ (after (.witWaveArm 46) w).flag Fld.WIT_WAVE_ARM = true := by decide +kernel

-- ── DMA and timers ────────────────────────────────────────────────────────────────────────────────────────────────

/-- DMA channel 15: words from `area` to `area + 16`, 4 bytes, addresses rising, trigger 0x10. -/
def dma : State := (((put (up 4) [(Fld.DMA_CH_CTRL_WIDTH 15, 2), (Fld.DMA_CH_CTRL_SINC 15, 1), (Fld.DMA_CH_CTRL_DINC 15, 1),
  (Fld.DMA_CH_CTRL_TRIG 15, 0x10), (Fld.DMA_CH_CTRL_BURST 15, 1), (Fld.DMA_CH_CNT_CNT 15, 4)]).setWord (Reg.DMA_CH_SRC 15) (BitVec.ofNat 32 area)).setWord
  (Reg.DMA_CH_DST 15) (BitVec.ofNat 32 (area + 16))).setBytes area [1, 2, 3, 4]
def dmaOn : State := put dma [(Fld.DMA_CH_CTRL_EN 15, 1)]
theorem wit_DmaRows_enable : dma.flag Fld.CLK_GATE0_DMA = true ∧ dma.flag Fld.CLK_GATE1_DMA_HI = true ∧
    trigOk (dma.get (Fld.DMA_CH_CTRL_TRIG 15)) = true ∧ dma.get (Fld.DMA_CH_CTRL_DINC 15) ≤ 1 ∧ dma.get (Fld.DMA_CH_CTRL_SINC 15) ≤ 1 ∧
    dma.get (Fld.DMA_CH_CTRL_WIDTH 15) ≤ 2 ∧ dma.flag (Fld.DMA_CH_CTRL_EN 15) = false ∧ dma.word (Reg.DMA_CH_ERR 15) = 0 ∧
    dma.dmaMisfit 15 = none ∧ (after (.dmaEnRise 15) dma).flag (Fld.DMA_CH_CTRL_EN 15) = true ∧
    (put dma [(Fld.DMA_CH_CNT_CNT 15, 5)]).dmaMisfit 15 = some 5 ∧
    (after (.dmaEnRise 15) (put dma [(Fld.DMA_CH_CNT_CNT 15, 5)])).flag (Fld.DMA_CH_ERR_ALIGN 15) = true ∧
    (after (.dmaEnRise 15) (put dma [(Fld.DMA_CH_CNT_CNT 15, 5)])).word (Reg.DMA_CH_ERRADDR 15) = 5 := by decide +kernel
theorem wit_DmaRows_error : (put dma [(Fld.DMA_CH_ERR_ALIGN 15, 1)]).word (Reg.DMA_CH_ERR 15) ≠ 0 ∧
    (after (.dmaEnRise 15) (put dma [(Fld.DMA_CH_ERR_ALIGN 15, 1)])).flag (Fld.DMA_CH_CTRL_EN 15) = false ∧
    dmaOn.flag (Fld.DMA_CH_CTRL_EN 15) = true ∧ nextState (exec (.dmaEnClear 15) dmaOn) ≠ none ∧
    (after (.dmaEnClear 15) dma).flag (Fld.DMA_CH_CTRL_EN 15) = false := by decide +kernel
theorem wit_DmaRows_shadow : (after (.shadowValid 15) dma).flag (Fld.DMA_CH_SHV_SH_VALID 15) = true ∧
    dma.flag (Fld.DMA_CH_SHV_SH_VALID 15) = false ∧ (after (.shadowWrite 15 3 8) dma).word (Reg.DMA_CH_SH_LINK 15) = 8 ∧
    (after (.shadowWrite 15 2 0xFFFFFFFF) dma).word (Reg.DMA_CH_SH_CNT 15) &&& 0x01FFFFFF = 0x01FFFFFF ∧
    (after (.shadowWrite 15 3 8) (put dma [(Fld.DMA_CH_SHV_SH_VALID 15, 1)])).word (Reg.DMA_CH_SH_LINK 15) = 0 ∧
    (after (.shadowWrite 15 3 8) (put dma [(Fld.DMA_CH_SHV_SH_VALID 15, 1)])).flag (Fld.DMA_CH_STAT_SHADOW_DROP 15) = true := by decide +kernel
theorem wit_DmaRows_burst : ((put dmaOn [(Fld.DMA_CH_STAT_BUSY 15, 1)]).advance 0).dmaDue 15 = true ∧ 4 ≤ dmaOn.get (Fld.DMA_CH_CNT_CNT 15) ∧
    dmaOn.get (Fld.DMA_CH_CTRL_TRIG 15) ≠ 0 ∧ inHostArea (area + 16) = true ∧
    (after (.dmaTrigger 0 15) (put dmaOn [(Fld.DMA_CH_STAT_BUSY 15, 1)])).bytes (area + 16) 4 = [1, 2, 3, 4] ∧
    (after (.dmaTrigger 0 15) (put dmaOn [(Fld.DMA_CH_STAT_BUSY 15, 1)])).get (Fld.DMA_CH_CNT_CNT 15) = 0 ∧
    ((after (.dmaTrigger 0 15) (put dmaOn [(Fld.DMA_CH_STAT_BUSY 15, 1)])).word (Reg.DMA_CH_SRC 15)).toNat = area + 4 := by decide +kernel
/-- Two elements of 2 bytes in a burst; and channel 14 of higher priority, due in the same tick. -/
def dma2 : State := put dmaOn [(Fld.DMA_CH_STAT_BUSY 15, 1), (Fld.DMA_CH_CTRL_WIDTH 15, 1), (Fld.DMA_CH_CTRL_BURST 15, 2)]
theorem wit_DmaRows_order : (dma2.advance 0).dmaDue 15 = true ∧ (∀ m, m ∈ (dma2.advance 0).dmaOrder 15 → m ≠ 15 → dma2.flag (Fld.DMA_CH_CTRL_EN m) = false) ∧
    dma2.dmaWidth 15 = 2 ∧ dma2.dmaBurst 15 = 2 ∧ (after (.dmaTrigger 0 15) dma2).bytes (area + 16) 4 = [1, 2, 3, 4] ∧
    ((after (.dmaTrigger 0 15) dma2).word (Reg.DMA_CH_DST 15)).toNat = area + 20 ∧ (after (.dmaTrigger 0 15) dma2).get (Fld.DMA_CH_CNT_CNT 15) = 0 := by
  decide +kernel
/-- The block of channel 15 is at its end. -/
def dmaEnd : State := put dmaOn [(Fld.DMA_CH_CNT_CNT 15, 0)]
theorem wit_DmaRows_blockEnd : (dmaEnd.advance 0).get (Fld.DMA_CH_CNT_CNT 15) = 0 ∧
    (after (.dmaBlockComplete 0 15) (put dmaEnd [(Fld.DMA_CH_SHV_SH_VALID 15, 1)])).word (Reg.DMA_CH_SRC 15) = 0 ∧
    (after (.dmaBlockComplete 0 15) (put dmaEnd [(Fld.DMA_CH_SHV_SH_VALID 15, 1)])).flag (Fld.DMA_CH_SHV_SH_VALID 15) = false ∧
    (after (.dmaBlockComplete 0 15) dmaEnd).flag (Fld.DMA_CH_STAT_DONE 15) = true ∧
    ((put (dmaEnd.setWord (Reg.DMA_CH_LINK 15) (BitVec.ofNat 32 area)) [(Fld.DMA_CH_HOPS_LIMIT 15, 1), (Fld.DMA_CH_HOPS_COUNT 15, 1)]).advance 0).hopsOut 15
      = true ∧
    (after (.dmaBlockComplete 0 15) (put (dmaEnd.setWord (Reg.DMA_CH_LINK 15) (BitVec.ofNat 32 area)) [(Fld.DMA_CH_HOPS_LIMIT 15, 1),
      (Fld.DMA_CH_HOPS_COUNT 15, 1)])).flag (Fld.DMA_CH_ERR_HOPS 15) = true := by decide +kernel
/-- A descriptor stands at `area`, and LINK names it, or an address 4 above it. -/
def linking (a : Nat) : State := dmaOn.setWord (Reg.DMA_CH_LINK 15) (BitVec.ofNat 32 a)
theorem wit_DmaRows_fetch : area % 16 = 0 ∧ ((linking area).advance 0).hopsOut 15 = false ∧
    (after (.dmaDescriptorFetch 0 15) (linking area)).word (Reg.DMA_CH_SH_SRC 15) = 0x04030201 ∧
    (after (.dmaDescriptorFetch 0 15) (linking area)).get (Fld.DMA_CH_HOPS_COUNT 15) = 1 ∧ (area + 4) % 16 ≠ 0 ∧
    (after (.dmaDescriptorFetch 0 15) (linking (area + 4))).flag (Fld.DMA_CH_ERR_ALIGN 15) = true ∧
    ((after (.dmaDescriptorFetch 0 15) (linking (area + 4))).word (Reg.DMA_CH_ERRADDR 15)).toNat = area + 4 := by decide +kernel
def phased : State := put (up 4) [(Fld.TIM_CH_PHASE_PHASE 15, 9), (Fld.TIM_CH_CNT_CNT 15, 5)]
theorem wit_TimerControl_groups : phased.flag Fld.CLK_GATE0_TIM = true ∧ phased.linked 15 = false ∧ phased.linkedOdd 15 = false ∧
    phased.upDown 15 = false ∧ (0x8000 : Nat).testBit 15 = true ∧ (after (.timGstart 0x8000) phased).flag (Fld.TIM_CH_CFG_EN 15) = true ∧
    (after (.timGstart 0x8000) phased).word (Reg.TIM_CH_CNT 15) = 9 ∧ (after (.timGstart 0x7FFF) phased).word (Reg.TIM_CH_CNT 15) = 5 ∧
    (after (.timGstop 0x8000) (put phased [(Fld.TIM_CH_CFG_EN 15, 1)])).flag (Fld.TIM_CH_CFG_EN 15) = false ∧
    phased.get (Fld.TIM_CH_CFG_CLKSEL 15) < 4 ∧ phased.flag (Fld.TIM_CH_CFG_LINK 15) = false ∧
    (after (.timEnWrite 15 true) phased).flag (Fld.TIM_CH_CFG_EN 15) = true := by decide +kernel
theorem wit_TimerControl_period : (after (.timPerWrite 15 4) phased).flag (Fld.TIM_CH_STAT_PER_PEND 15) = true ∧
    (after (.timPerWrite 15 4) phased).timPer 15 = phased.timPer 15 ∧
    (after (.timPerWrite 15 4) (put phased [(Fld.TIM_CH_CFG_IMM 15, 1)])).timPer 15 = 4 ∧
    (after (.timPerWrite 15 4) (put phased [(Fld.TIM_CH_CFG_IMM 15, 1)])).flag (Fld.TIM_CH_STAT_TOP_CLIP 15) = true ∧
    (after (.timPerWrite 15 5) (put phased [(Fld.TIM_CH_CFG_IMM 15, 1)])).flag (Fld.TIM_CH_STAT_TOP_CLIP 15) = false ∧
    (after (.timCmpWrite 15 3) phased).word (Reg.TIM_CH_CMP 15) = 3 ∧ (after (.timCntRead 15) phased).bus.data = 5 ∧
    (after (.timCapRead 15) (phased.setTim 15 { queue := [7, 8] })).bus.data = 7 ∧ (phased.tim 15).queue = [] ∧
    (after (.timCapRead 15) phased).bus.data = 0 := by decide +kernel
/-- Channels 14 and 15 as one. -/
def joined : State := put phased [(Fld.TIM_CH_CFG_LINK 14, 1)]
theorem wit_TimerControl_pair : joined.linked 14 = true ∧ joined.linkedOdd 15 = true ∧ ((after (.timCmpWrite 14 3) joined).tim 14).lowCmp = some 3 ∧
    ((after (.timPerWrite 14 3) joined).tim 14).lowPer = some 3 ∧ (after (.timCntRead 14) joined).word (Reg.TIM_CH_HOLD 14) = 5 ∧
    (after (.timCmpWrite 15 2) (joined.setTim 14 { lowCmp := some 1 })).word (Reg.TIM_CH_CMP 14) = 1 ∧
    (after (.timCmpWrite 15 2) (joined.setTim 14 { lowCmp := some 1 })).word (Reg.TIM_CH_CMP 15) = 2 := by decide +kernel
def timed : State := (put phased [(Fld.TIM_CH_CFG_IE 15, 1)]).setTim 15 { matched := 1, reloads := 2, tops := 3, caps := 1 }
theorem wit_TimerEvents : ((timed.advance 0).tim 15).matched = 1 ∧ ((timed.advance 0).tim 15).caps = 1 ∧ (timed.advance 0).linked 15 = false ∧
    (after (.timCompareMatch 0 15) timed).isPend false 207 = true ∧ ((after (.timCompareMatch 0 15) timed).tim 15).matched = 0 ∧
    ((after (.timReload 0 15) timed).tim 15).reloads = 1 ∧ (after (.timReload 0 15) timed).isPend false 207 = false ∧
    ((after (.timTop 0 15) timed).tim 15).tops = 2 ∧ ((after (.timCapture 0 15) timed).tim 15).queue = [5] ∧
    ((after (.timCapture 0 15) (timed.setTim 15 { caps := 1, queue := [1, 2, 3, 4] })).tim 15).queue = [1, 2, 3, 4] ∧
    (after (.timCapture 0 15) (timed.setTim 15 { caps := 1, queue := [1, 2, 3, 4] })).flag (Fld.TIM_CH_STAT_CAP_OVR 15) = true := by decide +kernel
theorem wit_LatchingReads : (up 4).flag Fld.CLK_GATE0_ADC = true ∧ ((up 4).setAdc 3 { fifo := [6, 7] }).adcFifo 3 = [6, 7] ∧
    (after (.adcFifoRead 3) ((up 4).setAdc 3 { fifo := [6, 7] })).bus.data = 6 ∧ (after (.adcFifoRead 3) (up 4)).bus.data = 0 ∧
    (after (.whlTsRead 3) ((up 4).setWhl 3 { stamp := 2 ^ 32 + 5 })).bus.data = 5 ∧
    (after (.whlTsRead 3) ((up 4).setWhl 3 { stamp := 2 ^ 32 + 5 })).word (Reg.WHL_TSH 3) = 1 ∧
    (after (.trkAngleRead 1) ((up 4).setTrk 1 { acc := 2 ^ 33 + 9 })).bus.data = 2 ∧
    (after (.trkAngleRead 1) ((up 4).setTrk 1 { acc := 2 ^ 33 + 9 })).get (Fld.TRK_FRAC_FRAC 1) = 9 ∧ (up 4).flag Fld.CLK_GATE0_FLO = true ∧
    (after .witMorlRead ((up 4).withWit { (up 4).wit with index := 3 })).bus.data = 3 ∧ (after .floDtRead (up 4)).bus.data = 0 ∧ (up 4).fresh = [] ∧
    (after .calvPeakRead (put (up 4) [(Fld.PWR_CALVCNT_PEAK, 3)])).get Fld.PWR_CALVCNT_PEAK = 0 := by decide +kernel

-- ── Pattern engines ───────────────────────────────────────────────────────────────────────────────────────────────

/-- Context 15 of engine 1 runs, with an instruction at address 511, from which PC goes to 0. -/
def runs (w : Nat) : State := put (up 4) [(Fld.PAT_CTX_CTRL_EN 1 15, 1), (Fld.PAT_CTX_STAT_PC 1 15, 511), (Fld.PAT_IMEM_INSTR 1 511, w)]
def withCtx (s : State) (x : PatCtx) : State := s.setPatCtx 1 15 x
theorem wit_PatternHost : (up 4).flag (patGate 1) = true ∧ (after (.contextEn 1 15 true) (up 4)).flag (Fld.PAT_CTX_CTRL_EN 1 15) = true ∧
    ((after (.contextEn 1 15 false) (withCtx (runs 0) { stopped := true })).patCtx 1 15).stopped = false ∧
    (after (.contextRestart 1 15) (put (runs 0) [(Fld.PAT_CTX_CFG_START 1 15, 511)])).patPc 1 15 = 511 ∧
    (after (.contextRestart 1 15) (runs 0)).patPc 1 15 = 0 ∧
    ((after (.fifoFlush 1 15) (withCtx (runs 0) { tx := [1], rx := [2] })).patCtx 1 15).rx = [] ∧
    ((after (.patTrig 1 0x8000) (runs 0)).patCtx 1 15).trig = true ∧ ((after (.patTrig 1 0x7FFF) (runs 0)).patCtx 1 15).trig = false ∧
    (after (.patTrig 1 0x8000) (withCtx (runs 0) { trig := true })).flag (Fld.PAT_CTX_STAT_TRIG_LOST 1 15) = true ∧
    ((after (.patTxWrite 1 15 9) (withCtx (runs 0) { tx := [1, 2, 3] })).patCtx 1 15).tx = [1, 2, 3, 9] ∧
    (after (.patTxWrite 1 15 9) (withCtx (runs 0) { tx := [1, 2, 3, 4] })).flag (Fld.PAT_CTX_STAT_TX_OVF 1 15) = true ∧
    (after (.patRxRead 1 15) (withCtx (runs 0) { rx := [6] })).bus.data = 6 ∧
    (after (.patRxRead 1 15) (runs 0)).flag (Fld.PAT_CTX_STAT_RX_UNF 1 15) = true ∧
    (after (.imemWrite 1 511 7) (up 4)).get (Fld.PAT_IMEM_INSTR 1 511) = 7 := by decide +kernel
theorem wit_PatternComputes_control : ((runs 0).advance 0).patRuns 1 15 = true ∧ (runs 0).patFetch 1 15 = 0 ∧ (after (.nop 0 1 15) (runs 0)).patPc 1 15 = 0 ∧
    (runs 0x0100).patFetch 1 15 = 0x0100 ∧ (after (.halt 0 1 15) (runs 0x0100)).patRuns 1 15 = false ∧
    (after (.sig 0 1 15) (runs 0x0205)).isPend false 221 = true ∧
    (after (.clrsh 0 1 15) ((runs 0x0300).setWord (Reg.PAT_CTX_SHR 1 15) 7)).patShr 1 15 = 0 ∧
    (after (.br 0 1 15) (runs (0x1000 + 511))).patPc 1 15 = 511 ∧
    (after (.br 0 1 15) (runs (0x1000 + 512 + 511))).patPc 1 15 = 0 ∧ (after (.br 0 1 15) (runs (0x1000 + 512 * 2 + 9))).patPc 1 15 = 9 ∧
    (after (.br 0 1 15) (runs (0x1000 + 512 * 4 + 9))).patPc 1 15 = 9 ∧ (after (.br 0 1 15) (runs (0x1000 + 512 * 6 + 9))).patPc 1 15 = 9 := by
  decide +kernel
/-- W3 holds 1, W2 holds 5. -/
def words (w : Nat) : State := ((runs w).setWord (Reg.PAT_CTX_W 1 15 3) 1).setWord (Reg.PAT_CTX_W 1 15 2) 5
theorem wit_PatternComputes_words : (after (.dbnz 0 1 15) (words (0x2000 + 1024 * 3 + 9))).patPc 1 15 = 0 ∧
    (after (.dbnz 0 1 15) (words (0x2000 + 1024 * 2 + 9))).patPc 1 15 = 9 ∧ (after (.dbnz 0 1 15) (words (0x2000 + 1024 * 2 + 9))).patW 1 15 2 = 4 ∧
    (after (.ldi 0 1 15) (words (0x4000 + 1024 * 3 + 1023))).patW 1 15 3 = 1023 ∧
    (after (.lds 0 1 15) (words (0x5000 + 1024 * 3 + 2))).patW 1 15 3 = 1026 ∧
    (after (.alu 0 1 15) (words (0x6000 + 1024 * 3 + 512 + 64))).patW 1 15 3 = 0xFFFFFFFC ∧
    (after (.alu 0 1 15) (words (0x6000 + 1024 * 3 + 512 + 64))).flag (Fld.PAT_CTX_SHC_N 1 15) = true ∧
    (after (.alu 0 1 15) (words (0x6000 + 1024 * 3 + 768 + 224))).flag (Fld.PAT_CTX_SHC_Z 1 15) = true ∧
    (after (.alu 0 1 15) (words (0x6000 + 1024 * 3 + 768 + 224))).patW 1 15 3 = 1 ∧
    (after (.alu 0 1 15) (words (0x6000 + 1024 * 2 + 768 + 192))).patW 1 15 2 = 0x80000000 ∧
    (after (.get 0 1 15) ((words (0x7000 + 128 * 4)).setWord (Reg.PAT_CTX_SHR 1 15) 7)).patW 1 15 0 = 7 := by decide +kernel
theorem wit_PatternComputes_puts : (after (.put 0 1 15) (put (words (0x8000 + 256)) [(Fld.PAT_CTX_PINS_OUT_N 1 15, 3), (Fld.PAT_CTX_PINS_OUT_BASE 1 15, 31)])).patPin
      1 = 2 ^ 31 + 2 ∧
    (after (.put 0 1 15) (words (0x8000 + 512 + 256))).patShr 1 15 = 5 ∧ (after (.put 0 1 15) (words (0x8000 + 512 + 256))).patShc 1 15 = 32 ∧
    (after (.put 0 1 15) (words (0x8000 + 1024 + 256))).patPc 1 15 = 5 ∧
    (after (.setp 0 1 15) (put (runs (0xD000 + 64 * 33 + 63)) [(Fld.PAT_CTX_PINS_SET_BASE 1 15, 30)])).patPin 1 = 2 ^ 30 + 2 ^ 3 ∧
    (after (.illegal 0 1 15) (runs 0xFFFF)).flag (Fld.PAT_CTX_STAT_ILLEGAL 1 15) = true ∧
    (after (.illegal 0 1 15) (runs 0x0400)).patPc 1 15 = 511 ∧ (after (.illegal 0 1 15) (runs 0x8FFF)).patRuns 1 15 = false := by decide +kernel
theorem wit_PatternWaits : (runs (0x3000 + 31)).pinLevels.testBit 31 = false ∧ (after (.waitPin 0 1 15) (runs (0x3000 + 31))).patPc 1 15 = 0 ∧
    ((after (.waitPin 0 1 15) (runs (0x3000 + 512 + 31))).patCtx 1 15).sampling = true ∧
    ((after (.waitTime 0 1 15) (runs (0x3400 + 511))).patCtx 1 15).left = some 512 ∧
    ((after (.waitTime 0 1 15) (withCtx (runs 0x3400) { left := some 2 })).patCtx 1 15).left = some 1 ∧
    (after (.waitTime 0 1 15) (withCtx (runs 0x3400) { left := some 1 })).patPc 1 15 = 0 ∧
    (after (.waitTime 0 1 15) (runs 0x3603)).patPc 1 15 = 0 ∧
    ((after (.waitTime 0 1 15) (words 0x3602)).patCtx 1 15).left = some 5 ∧
    (after (.waitAngle 0 1 15) (runs 0x3803)).patPc 1 15 = 511 ∧
    (after (.waitTrig 0 1 15) (withCtx (runs 0x3C00) { trig := true })).patPc 1 15 = 0 ∧ (after (.waitTrig 0 1 15) (runs 0x3C00)).patPc 1 15 = 511 := by
  decide +kernel
/-- TRK_OUT is usable and forward; the angle of W3 lies 1 au behind it. -/
def angled : State := (put (runs 0x3803) [(Fld.TRK_STAT_STATE 0, 5), (Fld.TRK_STAT_SHOT_OK 0, 1)]).setTrk 0 { acc := 2 * 2 ^ 32 } |>.setWord (Reg.PAT_CTX_W 1 15 3) 1
theorem wit_PatternWaits_angle : (angled.advance 0).outOk = true ∧ (angled.advance 0).outReverse = false ∧ angDist (angled.advance 0).out 1 ≤ 0 ∧
    (after (.waitAngle 0 1 15) angled).patPc 1 15 = 0 := by decide +kernel
theorem wit_PatternShifts : (after (.shin 0 1 15) (runs (0x9000 + 512 * 4))).patShr 1 15 = 0xFFFFFFFF ∧
    (after (.shin 0 1 15) (put (runs (0x9000 + 512 * 4 + 16)) [(Fld.PAT_CTX_CFG_SHDIR 1 15, 1)])).patShr 1 15 = 1 ∧
    (after (.shin 0 1 15) (runs (0x9000 + 512 * 4 + 16))).patShr 1 15 = 0x80000000 ∧
    ((after (.shin 0 1 15) (put (runs (0x9000 + 512 * 4)) [(Fld.PAT_CTX_CFG_AUTOSEND 1 15, 1)])).patCtx 1 15).rx = [0xFFFFFFFF] ∧
    (after (.shin 0 1 15) (put (withCtx (runs (0x9000 + 512 * 4)) { rx := [1, 2, 3, 4] }) [(Fld.PAT_CTX_CFG_AUTOSEND 1 15, 1)])).patPc 1 15 = 511 ∧
    (after (.shout 0 1 15) ((runs (0xA000 + 512 * 1 + 16 * 4)).setWord (Reg.PAT_CTX_SHR 1 15) 0xABCD)).patW 1 15 0 = 0xD ∧
    (after (.shout 0 1 15) ((runs (0xA000 + 512 * 1 + 16 * 4)).setWord (Reg.PAT_CTX_SHR 1 15) 0xABCD)).patShr 1 15 = 0xABC ∧
    (after (.shout 0 1 15) ((runs (0xA000 + 512 * 2)).setWord (Reg.PAT_CTX_SHR 1 15) 0xABCD)).patW 1 15 1 = 0xABCD := by decide +kernel
theorem wit_PatternFifos : ((after (.send 0 1 15) (words (0xB000 + 1024 + 512))).patCtx 1 15).rx = [5] ∧
    (after (.send 0 1 15) (withCtx (runs (0xB000 + 2048)) { rx := [1, 2, 3, 4] })).patPc 1 15 = 511 ∧
    (after (.send 0 1 15) (withCtx (runs 0xB000) { rx := [1, 2, 3, 4] })).get (Fld.PAT_CTX_STAT_DROPS 1 15) = 1 ∧
    (after (.recv 0 1 15) (withCtx (runs (0xC000 + 1024)) { tx := [6, 7] })).patW 1 15 0 = 6 ∧
    (after (.recv 0 1 15) (withCtx (runs 0xC000) { tx := [6, 7] })).patShc 1 15 = 32 ∧
    (after (.recv 0 1 15) (runs (0xC000 + 2048))).patPc 1 15 = 511 ∧
    (after (.recv 0 1 15) (withCtx (runs (0xC000 + 1024)) { last := some 8 })).patW 1 15 0 = 8 ∧
    (after (.recv 0 1 15) (runs 0xC000)).flag (Fld.PAT_CTX_STAT_STALE 1 15) = true := by decide +kernel

-- ── The system, supplies, clocks ──────────────────────────────────────────────────────────────────────────────────

theorem wit_SystemEvents_inputs : ((up 4).advance 0).awake = true ∧ (up 4).key = !true ∧ (after (.keyChange 0 true) (up 4)).st = 5 ∧
    (after (.keyChange 0 false) (put (up 6) [(Fld.SYS_STAT_KEY, 1)])).st = 7 ∧ (after (.keyChange 0 false) (put (up 5) [(Fld.SYS_STAT_KEY, 1)])).st = 4 ∧
    (after (.keyChange 0 true) (put (up 4) [(Fld.SYS_STAT_REARM_WAIT, 1)])).st = 4 ∧ (up 4).safeFault = false ∧
    (after (.stopreqChange 0 true) (put (up 6) [(Fld.SYS_STAT_KEY, 1)])).st = 7 ∧
    (after (.discreteInputChange 0 true true) (up 4)).flag Fld.SYS_STAT_WAKE = true ∧
    (after (.discreteInputChange 0 false true) (up 4)).flag Fld.SYS_STAT_START = true := by decide +kernel
def rearming : State := let s := atTime (put (up 4) [(Fld.SYS_STAT_REARM_WAIT, 1)]) (10 * msTicks); { s with sys := { s.sys with keyOffAt := some 0 } }
def gp31 : State := put (up 4) [(Fld.HST_GPIO_IRQR_RISE, 2 ^ 31)]
theorem wit_SystemEvents_edges : (rearming.advance 0).sys.keyOffAt = some 0 ∧ (rearming.advance 0).passed (Nat.max 0 rearming.sys.rearmAt) (10 * msTicks) = true ∧
    (after (.rearmWaitClear 0) rearming).flag Fld.SYS_STAT_REARM_WAIT = false ∧ gp31.get Fld.HST_GPIO_FUNC_AOUT = 0 ∧
    gp31.get (Fld.PAT_PINOUT_OUT 0) = 0 ∧ gp31.get (Fld.PAT_PINOUT_OUT 1) = 0 ∧ gp31.bit Fld.HST_GPIO_DIR_DIR 31 = false ∧
    (gp31.advance 0).hst.gpioSeen.testBit 31 = !true ∧ gp31.bit Fld.HST_GPIO_IRQR_RISE 31 = true ∧
    (after (.gpioEdge 0 31 true) gp31).bit Fld.HST_GPIO_IFLAG_FLAG 31 = true ∧ (after (.gpioEdge 0 31 true) gp31).isPend false 248 = true ∧
    (up 4).sealOpen = false ∧ (after (.sealChange (20 * msTicks) true false) (up 4)).sealOpen = true ∧
    (after (.sealChange (20 * msTicks - 1) true false) (up 4)).sealOpen = false ∧
    (after (.sealChange (20 * msTicks) true true) (up 4)).sealOpen = false ∧
    (after (.sealChange (20 * msTicks) true true) (up 4)).flag Fld.SEC_STAT_SEAL_B = true := by decide +kernel
def sealed1s : State := let s := atTime (up 4) (1000 * msTicks); { s with sys := { s.sys with sealEqAt := some 0 } }
def lost : State := atTime (up 4) (65535 * msTicks)
def lostHost : State := put lost [(Fld.SYS_STAT_HOST_LOST, 1), (Fld.SCH_CTRL_DEMAND, 1), (Fld.TRK_STAT_STATE 0, 4)]
theorem wit_SystemEvents_times : (sealed1s.advance 0).passed 0 (1000 * msTicks) = true ∧ sealed1s.flag Fld.SEC_STAT_SEAL_INVALID = false ∧
    (after (.sealInvalid 0) sealed1s).flag Fld.SEC_STAT_SEAL_INVALID = true ∧
    (lost.advance 0).passed lost.sys.hostAt (lost.get Fld.PKT_HOSTTIMEOUT_TIMEOUT * msTicks) = true ∧ lost.flag Fld.SYS_STAT_HOST_LOST = false ∧
    (after (.hostLost 0) lost).flag Fld.SYS_STAT_HOST_LOST = true ∧ lostHost.flag Fld.SYS_STAT_HOST_RAMP = false ∧
    lostHost.sys.rampDone = false ∧ (lostHost.advance 0).passed lostHost.sys.lostAt (lostHost.get Fld.SYS_HOSTLOSS_HOLD * msTicks) = true ∧
    lostHost.governs = false ∧ lostHost.stopped = false ∧ (after (.hostRamp 0) lostHost).flag Fld.SYS_STAT_HOST_RAMP = true := by decide +kernel
def failed1 : State := { up 4 with sys := { (up 4).sys with supAt := some 0 } }
theorem wit_SystemEvents_restarts : (up 4).sys.supAt = none ∧ (after (.supLockstepFail 0) (up 4)).sys.supDown = true ∧
    (after (.supLockstepFail 0) (up 4)).st = 4 ∧ (failed1.advance 0).now < 0 + 1 + 1000 * msTicks ∧
    (after (.supLockstepFail 0) failed1).flag Fld.SYS_FAULT_SUP_LOCKSTEP = true ∧ (after (.supLockstepFail 0) failed1).st = 8 ∧
    0 + 1 + 1000 * msTicks ≤ ((atTime failed1 (1000 * msTicks + 1)).advance 0).now ∧
    (after (.supLockstepFail 0) (atTime failed1 (1000 * msTicks + 1))).st = 4 ∧
    (after (.comLockstepFail 0) (waits (up 4) (pkt 0x100 []))).sys.comDown = true ∧
    ((after (.comLockstepFail 0) (waits (up 4) (pkt 0x100 []))).hst.port 1).inq = [] := by decide +kernel
def sleeping : State := (up 4).withPwr { (up 4).pwr with sleepReq := true }
def wakeful : State := put (sleeping.withPwr { sleeping.pwr with wakeSeen := 4 }) [(Fld.PWR_WAKEEN_EN, 4)]
theorem wit_SystemEvents_sleep : (sleeping.advance 0).pwr.sleepReq = true ∧ (sleeping.pwr.wakeSeen &&& sleeping.get Fld.PWR_WAKEEN_EN) = 0 ∧
    sleeping.levelWakes = 0 ∧ (after (.sleepCommit 0) sleeping).st = 1 ∧ (after (.sleepCommit 0) sleeping).get Fld.SYS_STATE_PREV = 4 ∧
    (wakeful.pwr.wakeSeen &&& wakeful.get Fld.PWR_WAKEEN_EN) ≠ 0 ∧ (after (.sleepCommit 0) wakeful).st = 4 ∧
    (after (.sleepCommit 0) wakeful).flag Fld.SYS_STAT_SLEEP_ABORT = true := by decide +kernel
/-- A byte of SRAM and a byte of MRAM stand, and a stop angle. -/
def loaded : State := (((up 6).setBytes area [1]).setBytes 0x60FFFFFF [2]).setWord Reg.TRK_STOPA 7
theorem wit_ResetsKeepTheAlwaysOn : (loaded.advance 0).canonical = true ∧ (after (.brownOut 0 (5 * usTicks)) loaded).st = 2 ∧
    (after (.brownOut 0 (5 * usTicks)) loaded).flag Fld.PWR_RSTC_BOR = true ∧ (after (.brownOut 0 (5 * usTicks)) loaded).word Reg.TRK_STOPA = 7 ∧
    (after (.brownOut 0 (5 * usTicks)) loaded).byte area = 0 ∧ (after (.brownOut 0 (5 * usTicks)) loaded).byte 0x60FFFFFF = 2 ∧
    (after (.brownOut 0 (5 * usTicks - 1)) loaded).st = 6 ∧ (after (.nrstAssert 0 (10 * usTicks)) loaded).flag Fld.PWR_RSTC_PIN = true ∧
    (after (.overTemperature 0 175) loaded).flag Fld.PWR_RSTC_TSD = true ∧ loaded.awake = true ∧
    loaded.railOut 3 841 (2 * usTicks) = true ∧ loaded.railOut 3 840 (2 * usTicks) = false ∧
    (after (.railFault 0 3 841 (2 * usTicks)) loaded).flag Fld.PWR_RSTC_RAIL = true ∧ (after (.powerOn 0) loaded).word Reg.TRK_STOPA = 0 ∧
    (after (.powerOn 0) loaded).byte 0x60FFFFFF = 2 := by decide +kernel
theorem wit_ResetsKeepTheAlwaysOn_rail : (after (.railFault 0 3 841 (2 * usTicks)) loaded).get Fld.PWR_RSTC_RAIL_ID = 4 := by decide +kernel
theorem wit_SuppliesAndBoot_supplies : (after (.vbatOv 0 (10 * (up 4).get Fld.PWR_SUPCFG_VBAT_OV + 1) msTicks) (up 4)).flag Fld.SYS_FAULT_PWR = true ∧
    (after (.vbatOv 0 (10 * (up 4).get Fld.PWR_SUPCFG_VBAT_OV) msTicks) (up 4)).flag Fld.SYS_FAULT_PWR = false ∧
    (after (.vbatOvEnded 0 0 msTicks) ((up 4).withPwr { (up 4).pwr with vbatOver := true })).faultHolds 4 = false ∧
    (after (.vaonLost 0 239 (10 * msTicks)) (up 4)).flag Fld.PWR_SUPV_VAON_LOST = true ∧
    (after (.aonSourceChange 0 250) (up 4)).flag Fld.PWR_STAT_VAON_OK = true ∧ (after (.aonSourceChange 0 249) (up 4)).flag Fld.PWR_STAT_VAON_OK = false := by
  decide +kernel
/-- A device in reset; one in THAW with the crystal judged. -/
def held : State := State.reset.withPwr { State.reset.pwr with inReset := true }
def thawing : State := put (up 2) [(Fld.CLK_STAT_REF, 1), (Fld.CLK_STAT_JUDGED, 0)]
theorem wit_SuppliesAndBoot_boot : (held.advance 0).pwr.inReset = true ∧
    10 * (held.get Fld.PWR_CALVB_C6 + held.get Fld.PWR_CALVCFG_HYST) < 12000 ∧
    (after (.resetRelease 0 12000 msTicks (10 * usTicks) 174) held).pwr.inReset = false ∧
    (after (.resetRelease 0 12000 msTicks (10 * usTicks) 175) held).pwr.inReset = true ∧
    ((put (up 2) [(Fld.CLK_STAT_JUDGED, 1)]).advance 0).clockJudged = true ∧ (up 2).pwr.inReset = false ∧
    (after (.thawComplete 0) (put (up 2) [(Fld.CLK_STAT_JUDGED, 1)])).st = 8 ∧
    (after (.thawComplete 0) (put (up 2) [(Fld.CLK_STAT_JUDGED, 1)])).flag Fld.SYS_FAULT_IMAGE = true ∧
    (after (.thawComplete 0) (put (up 2) [(Fld.CLK_STAT_JUDGED, 1)])).flag Fld.CLK_STAT_TPLL_LOCK = true ∧
    (after (.bootComplete 0) (up 3)).st = 4 ∧ ((up 3).advance 0).openBlocks.loadFirmware.safeFault = false ∧
    (put (up 3) [(Fld.SYS_FAULT_CMD, 1), (Fld.SYS_FAULTCFG_SAFE, 0x7FF)]).openBlocks.loadFirmware.safeFault = true ∧
    (after (.bootComplete 0) (put (up 3) [(Fld.SYS_FAULT_CMD, 1), (Fld.SYS_FAULTCFG_SAFE, 0x7FF)])).st = 8 := by decide +kernel
/-- BOOT, with no image chosen yet. -/
def bare : State := (up 3).withSys { (up 3).sys with verified := false }
theorem wit_SuppliesAndBoot_none : bare.sys.verified = false ∧ bare.mayskip = false ∧ bare.sec.active = 0 ∧ bare.imageCode 0 ≠ 0 ∧ bare.imageCode 1 ≠ 0 ∧
    bare.selectImage.sys.verified = false ∧ bare.selectImage.flag Fld.SYS_FAULT_IMAGE = true ∧ bare.selectImage.sec.active = 0 ∧
    bare.selectImage.sec.retained = bare.measure_ 0 ∧ (after (.bootComplete 0) bare).st = 3 := by decide +kernel
/-- An image without a body in slot 0: the hash in its header is that of nothing. -/
def imaged : State := bare.setBytes (slotAddr 0) (leBytes 4 0x3159564E ++ leBytes 2 1 ++ zeros 18 ++ sha384 [])
theorem imageCode_eq (s : State) (k : Nat) (h0 : s.headerCode k = 0) (h1 : s.slotRollback k ≤ 64) (h2 : s.sec.fuses ≤ s.slotRollback k)
    (h3 : sha384 (s.imgBody k) = ((s.bytes (slotAddr k) 256).drop 24).take 48) : s.imageCode k =
      if !rsaVerify Config.nimvisRsa (s.bytes (slotAddr k) 256) ((s.bytes (slotAddr k + 256 + s.imgLen k) 8240).take 384) then 4
      else if !slhVerify Config.nimvisSlh (s.bytes (slotAddr k) 256) ((s.bytes (slotAddr k + 256 + s.imgLen k) 8240).drop 384) then 5
      else 0 := by
  simp [State.imageCode, h0, h3, Nat.not_lt.mpr h1, Nat.not_lt.mpr h2]
/-- With a signature that the maker's keys verify, which only the maker can make, the boot ROM's checks of that image end in 0. -/
theorem wit_SuppliesAndBoot_image
    (hr : rsaVerify Config.nimvisRsa (imaged.bytes (slotAddr 0) 256) ((imaged.bytes (slotAddr 0 + 256 + imaged.imgLen 0) 8240).take 384) = true)
    (hs : slhVerify Config.nimvisSlh (imaged.bytes (slotAddr 0) 256) ((imaged.bytes (slotAddr 0 + 256 + imaged.imgLen 0) 8240).drop 384) = true) :
    imaged.mayskip = false ∧ imaged.sec.trial = false ∧ imaged.sec.active = 0 ∧ imaged.sys.verified = false ∧ imaged.imageCode 0 = 0 ∧
      imaged.imageCode 1 ≠ 0 := by
  refine ⟨by decide +kernel, by decide +kernel, by decide +kernel, by decide +kernel, ?_, by decide +kernel⟩
  rw [imageCode_eq _ _ (by decide +kernel) (by decide +kernel) (by decide +kernel) (by decide +kernel), hr, hs]
  rfl
/-- After a wake, with that image's measurement retained: no signature is checked. -/
def rewoken : State := (imaged.withPwr { imaged.pwr with woke := true }).withSec { imaged.sec with retained := imaged.measure_ 0 }
theorem wit_SuppliesAndBoot_skip : rewoken.mayskip = true ∧ rewoken.selectImage.flag Fld.SEC_STAT_THAW_SKIP = true ∧
    rewoken.selectImage.sys.verified = true := by decide +kernel
/-- A device in Frost, with wake sources. -/
def frost (e : Nat) : State := put (up 1) [(Fld.PWR_WAKEEN_EN, e), (Fld.PWR_AONTMR_PERIOD, 1)]
/-- WAKE has stood high for a time. -/
def wakeHigh (n : Nat) : WakeLines := { wake := n }
theorem wit_WakeAndCalving_wake : ((frost 4).advance 0).st = 1 ∧ (frost 4).pwr.inReset = false ∧
    (frost 4).wakeBits (wakeHigh msTicks) &&& (frost 4).get Fld.PWR_WAKEEN_EN = 4 ∧ (frost 4).wakeBits (wakeHigh (msTicks - 1)) = 0 ∧
    (after (.wakeSource 0 (wakeHigh msTicks) true) (frost 4)).st = 2 ∧
    (after (.wakeSource 0 (wakeHigh msTicks) true) (frost 4)).word Reg.PWR_WAKESRC = 4 ∧
    (after (.wakeSource 0 (wakeHigh msTicks) false) (frost 4)).st = 1 ∧ (after (.wakeSource 0 (wakeHigh msTicks) false) (frost 4)).pwr.wakeHeld = 4 ∧
    (after (.wakeSource 0 (wakeHigh msTicks) true) (frost 3)).st = 1 ∧ (after (.aonTimerExpiry 388000000 true) (frost 256)).st = 2 ∧
    (after (.aonTimerExpiry 387999999 true) (frost 256)).st = 1 ∧ (after (.aonTimerExpiry 388000000 false) (frost 256)).pwr.wakeHeld = 256 ∧
    (after (.wakeHeldRelease 0) ((frost 4).withPwr { (frost 4).pwr with wakeHeld := 4 })).st = 2 ∧
    (after (.wakeHeldRelease 0) ((frost 512).withPwr { (frost 512).pwr with frostFromC6 := true })).word Reg.PWR_WAKESRC = 512 := by decide +kernel
/-- R324: CAN_T of 5 µs three times within 1 ms; 10BASE-T1S activity of T1S_T × 10 µs; a port with WAKE_EN alone; the wake watcher. -/
theorem wit_WakeAndCalving_lines : let s := put (frost 0x7FF) [(Fld.PWR_WAKECFG_CAN_T, 5), (Fld.PWR_WAKECFG_T1S_T, 2)]
    let f := s.withPwr { s.pwr with floWake := 8 }
    s.canWakes [5 * usTicks, 5 * usTicks, 990 * usTicks] = true ∧ s.canWakes [5 * usTicks, 5 * usTicks, 990 * usTicks + 1] = false ∧
    s.canWakes [5 * usTicks, 5 * usTicks - 1, 5 * usTicks] = false ∧ s.wakeBits { can1 := [2000, 2000, 2000] } = 16 ∧
    s.wakeBits { t1s := 20 * usTicks } = 32 ∧ s.wakeBits { t1s := 20 * usTicks - 1 } = 0 ∧
    f.wakeBits { flo := [0, 0, 0, 10 * usTicks] } = 64 ∧ f.wakeBits { flo := [0, 0, 10 * usTicks, 0] } = 0 ∧
    (put (frost 0) [(Fld.TRK_FCNT_COUNT, 1)]).wakeBits {} = 128 := by decide +kernel
def awaiting : State := put (sleeping) [(Fld.PWR_WAKEEN_EN, 4)]
theorem wit_WakeAndCalving_pending : awaiting.pwr.sleepReq = true ∧ awaiting.st ≠ 1 ∧ awaiting.pwr.inReset = false ∧
    (after (.wakeSource 0 (wakeHigh msTicks) true) awaiting).pwr.wakeSeen = 4 ∧ (after (.wakeSource 0 (wakeHigh msTicks) true) awaiting).st = 4 := by
  decide +kernel
def calving (k : Nat) : State := atTime (put (up 4) [(Fld.PWR_STAT_STAGE, k)]) msTicks
theorem wit_WakeAndCalving_calving : (up 4).stage < 1 ∧ 10 * (up 4).calvThr 2 ≤ 10 * (up 4).calvThr 1 - 1 ∧
    (after (.calvingEntry 0 (10 * (up 4).calvThr 1 - 1) (usTicks * (up 4).get Fld.PWR_CALVCFG_ENTRY_T)) (up 4)).stage = 1 ∧
    (after (.calvingEntry 0 (10 * (up 4).calvThr 1) (usTicks * (up 4).get Fld.PWR_CALVCFG_ENTRY_T)) (up 4)).stage = 0 ∧
    (after (.calvingEntry 0 0 (usTicks * (up 4).get Fld.PWR_CALVCFG_ENTRY_T)) (up 4)).stage = 6 ∧
    (after (.calvingExit 0 20000 msTicks) (calving 5)).stage = 4 ∧ (after (.calvingExit 0 20000 msTicks) (calving 1)).stage = 0 ∧
    (after (.calvingExit 0 20000 msTicks) (calving 6)).stage = 6 := by decide +kernel
/-- C2 sheds the streaming, CAN1 and 10BASE-T1S, and its exit and that of C1 restore them (R332). -/
theorem wit_WakeAndCalving_sheds :
    let shedding := after (.calvingEntry 0 (10 * (up 4).calvThr 2 - 1) (usTicks * (up 4).get Fld.PWR_CALVCFG_ENTRY_T))
      ((up 4).setPort 3 { HostPort.reset with inq := [pkt 0x100 []] })
    shedding.stage = 2 ∧ shedding.flag Fld.PWR_STAT_OP_CAPPED = true ∧ shedding.flag Fld.WIT_STAT_STREAM_HELD = true ∧
    shedding.get (Fld.HST_CAN_STAT_STATE 1) = 3 ∧ (shedding.hst.port 3).inq = [] ∧
    (after (.calvingExit 0 20000 msTicks) (atTime shedding msTicks)).stage = 1 ∧
    (after (.calvingExit 0 20000 msTicks) (atTime shedding msTicks)).flag Fld.PWR_STAT_OP_CAPPED = false ∧
    (after (.calvingExit 0 20000 msTicks) (atTime shedding msTicks)).flag Fld.HST_T1S_STAT_SUSPENDED = false ∧
    (after (.calvingExit 0 20000 msTicks) (put (calving 1) [(Fld.WIT_STAT_STREAM_HELD, 1)])).flag Fld.WIT_STAT_STREAM_HELD = false := by decide +kernel
def quenched (v : Nat) : State := let s := calving 6; s.withPwr { s.pwr with c6Quench := some 0, vaon := v }
theorem wit_WakeAndCalving_finish : ((quenched 250).advance 0).pwr.c6Wait = none ∧ (∀ n : Fin 48, ((quenched 250).advance 0).phase n = 0) ∧
    (after (.c6Finish 0) (quenched 250)).st = 1 ∧ (after (.c6Finish 0) (quenched 249)).pwr.inReset = true ∧
    (after (.c6Finish 0) (quenched 249)).flag Fld.PWR_RSTC_CALV6 = true := by decide +kernel
def judgingAt (n run : Nat) : State := let s := atTime (put (up 2) [(Fld.CLK_STAT_REF, 1)]) n; { s with clk := { s.clk with judgeRun := run } }
/-- The count of reference pulses that a crystal of FREQ gives: 2^(8 + WIN) × FREQ / 25000. -/
def goodCount : Nat := 2 ^ (8 + (up 2).get Fld.CLK_XCFG_WIN) * (up 2).get Fld.CLK_XCFG_FREQ / 25000
theorem wit_ClockEvents_judge : ((judgingAt 0 7).advance 0).judging = true ∧ (judgingAt 0 7).flag Fld.CLK_XCFG_JUDGE = true ∧
    (judgingAt 0 7).windowPasses goodCount = true ∧ (judgingAt 0 7).windowPasses 0 = false ∧
    (after (.judgeWindowEnd 0 goodCount) (judgingAt 0 7)).flag Fld.CLK_STAT_JUDGED = true ∧
    (after (.judgeWindowEnd 0 goodCount) (judgingAt 0 6)).clk.judgeRun = 7 ∧ (after (.judgeWindowEnd 0 0) (judgingAt 0 6)).clk.judgeRun = 0 ∧
    ((judgingAt (20 * msTicks) 0).advance 0).passed (judgingAt (20 * msTicks) 0).clk.thawAt (20 * msTicks) = true ∧
    (after (.xtalFail 0) (judgingAt (20 * msTicks) 0)).flag Fld.CLK_STAT_XTAL_FAIL = true ∧
    (after (.xtalFixedDelay 0) (put (judgingAt (100 * usTicks * 4096) 0) [(Fld.CLK_XCFG_JUDGE, 0)])).clk.switching = [.refToXtal] := by decide +kernel
def muxing (l : List MuxSwitch) : State := { up 4 with clk := { (up 4).clk with switching := l } }
theorem wit_ClockEvents_mux : muxOf 0 ∈ ((muxing [.refToXtal]).advance 0).clk.switching ∧ (after (.muxSwitchDone 0 0) (muxing [.refToXtal])).clk.switching = [] ∧
    (after (.muxSwitchDone 0 0) (put (muxing [.refToXtal]) [(Fld.CLK_STAT_REF, 1)])).flag Fld.CLK_STAT_REF = false ∧
    (after (.muxSwitchDone 0 3) (muxing [.sclkToIrc])).clk.sclkIrc = true ∧ (after (.forcedSwitch 0) (muxing [.refToIrc])).flag Fld.CLK_STAT_REF = true ∧
    (after (.forcedSwitch 0) (muxing [.refToXtal])).flag Fld.CLK_STAT_XTAL_FAIL = true ∧
    MuxSwitch.refToIrc ∈ (after (.clockMissing 0 0) (put (up 4) [(Fld.CLK_STAT_REF, 0)])).clk.switching ∧
    (after (.clockMissing 0 7) (put { up 4 with clk := { (up 4).clk with fmcOpen := true } } [(Fld.CLK_FMC_CTRL_TGT, 7)])).flag Fld.CLK_FMC_CTRL_NOCLK
      = true := by decide +kernel
def locked : State := put (up 4) [(Fld.CLK_STAT_TPLL_LOCK, 1), (Fld.CLK_STAT_SPLL_LOCK, 1), (Fld.CLK_STAT_FPLL_LOCK, 1), (Fld.CLK_STAT_REF, 0),
  (Fld.FLO_PORT_STAT_STATE 3, 4), (Fld.CLK_XCFG_LF_XTAL, 1)]
theorem wit_ClockEvents_locks : (locked.advance 0).tclkRuns = true ∧ locked.clk.tpllLost = false ∧ (after (.tpllUnlock 0) locked).flag Fld.SYS_FAULT_CLK = true := by decide +kernel
theorem wit_ClockEvents_spll : MuxSwitch.sclkToIrc ∈ (after (.spllUnlock 0) { locked with clk := { locked.clk with sclkIrc := false } }).clk.switching ∧
    MuxSwitch.sclkToSpll ∈ (after (.spllRelock 0) (put locked [(Fld.CLK_STAT_SPLL_LOCK, 0)])).clk.switching := by decide +kernel
theorem wit_ClockEvents_fpll : (after (.fpllUnlock 0) locked).get (Fld.FLO_PORT_STAT_STATE 3) = 0 := by decide +kernel
theorem wit_ClockEvents_relock : locked.paired = false ∧
    (after (.tpllRelock 0) { locked with clk := { locked.clk with tpllLost := true } }).clk.tpllLost = false := by decide +kernel
theorem wit_ClockEvents_relockPair : let s := put { locked with clk := { locked.clk with tpllLost := true } } [(Fld.FLO_PAIR_EN, 1), (Fld.DRV_CTRL_PAIR_MODE, 1)]
    (after (.tpllRelock 0) (put s [(Fld.FLO_PAIRSTAT_ARB_LINE, 1)])).role = 2 ∧ (after (.tpllRelock 0) s).role = 0 ∧
    (after (.tpllRelock 0) (put s [(Fld.FLO_PAIRSTAT_ROLE, 1)])).flag Fld.FLO_PAIRSTAT_ARB_OWN = true := by decide +kernel
theorem wit_ClockEvents_lf :
    (after (.fpllRelock 0) (put locked [(Fld.CLK_STAT_FPLL_LOCK, 0)])).flag Fld.CLK_STAT_FPLL_LOCK = true ∧
    (after (.lfFail 0) locked).flag Fld.CLK_STAT_LF_FAIL = true := by decide +kernel
def stepping (ph : DvfsPhase) (d v : Nat) : State := let s := atTime (put (up 4) [(Fld.CLK_OPREQ_REQ, 3)]) (1000 * msTicks)
  { s with clk := { s.clk with phase := ph, d := d, vcore := v } }
theorem wit_ClockEvents_steps : ((stepping (.ramp 800) 4 720).advance 0).passed 0 (stepping (.ramp 800) 4 720).dvfsTime = true ∧
    (after (.dvfsStep 0) (stepping (.ramp 800) 4 720)).clk.vcore = 800 ∧ (stepping .dwell 3 900).opTarget = 3 ∧ opVolt 3 = 900 ∧ opDiv 3 = 3 ∧
    (after (.dvfsStep 0) (stepping .dwell 3 900)).get Fld.PWR_STAT_OP = 3 ∧ (after (.dvfsStep 0) (stepping .dwell 3 900)).clk.phase = .idle ∧
    (after (.spreadApply 0) (put (up 4) [(Fld.CLK_SPREAD_DEPTH, 1)])).clk.spreadNow ≠ 0 ∧
    (after (.fmcWindowEnd 0 (2 ^ 33)) { up 4 with clk := { (up 4).clk with fmcOpen := true } }).get Fld.CLK_FMC_CNT_COUNT = 2 ^ 32 - 1 ∧
    (after (.gateForced 0) (up 4)).flag Fld.CLK_STAT_GATE_FORCED = true := by decide +kernel
theorem wit_ClockEvents_ramp : (after (.dvfsStep 0) (stepping .dwell 5 900)).clk.d = 4 ∧ (after (.dvfsStep 0) (stepping .settle 5 720)).clk.phase = .ramp 900 ∧
    (after (.dvfsStep 0) (stepping .dwell 2 900)).clk.d = 3 ∧ (after (.dvfsStep 0) (stepping .settle 3 950)).clk.phase = .ramp 900 := by decide +kernel

-- ── Wheel inputs and trackers ─────────────────────────────────────────────────────────────────────────────────────

/-- WHL3 as a digital input on active rising edges, as the crank input of tracker 1, whose wheel has 4 positions a revolution. -/
def whl3 : State := put (up 6) [(Fld.WHL_CFG_FE 3, 2), (Fld.WHL_CFG_EDGE 3, 0), (Fld.WHL_FILT_MIN_TIME 3, 5), (Fld.WHL_FILT_RATIO 3, 0),
  (Fld.WHL_CFG_DIR_MODE 3, 0), (Fld.WHL_WD_CFG_CRANK_IN 1, 3), (Fld.WHL_WD_CFG_POS_REV 1, 4)]
theorem wit_WheelRows_edge : (whl3.advance 0).wheelPin 3 = !true ∧ whl3.flag Fld.CLK_GATE0_WHL = true ∧ 2 ≤ whl3.frontEnd 3 ∧ whl3.simulated 3 = false ∧
    whl3.isReturn 3 = false ∧ whl3.isActive 3 true = true ∧ whl3.flag (Fld.WHL_CFG_POL 3) = false ∧ whl3.ratioRejects 3 15 = false ∧
    (after (.inputEdge 0 3 15 true 19 0) whl3).get (Fld.WHL_CNT_GLITCH 3) = 2 ∧ (after (.inputEdge 0 3 15 true 20 0) whl3).get (Fld.WHL_CNT_ACCEPTED 3) = 1 ∧
    ((after (.inputEdge 0 3 15 true 20 0) whl3).whl 3).stamp = 15 ∧ whl3.edgesPass = true ∧ whl3.posRev 1 = 4 ∧
    ((after (.inputEdge 0 3 15 true 20 0) whl3).trk 1).crankQ.map WheelEdge.avail = [84] ∧
    (after (.inputEdge 0 3 15 false 20 0) whl3).get (Fld.WHL_CNT_ACCEPTED 3) = 0 := by decide +kernel
/-- Two intervals of 6400 behind it, RATIO 32: an edge before 3200 is rejected. -/
def ratio3 : State := (put whl3 [(Fld.WHL_FILT_RATIO 3, 32)]).setWhl 3 { count := 3, int1 := 6400, int2 := 6400 }
theorem wit_WheelRows_ratio : (ratio3.advance 199).ratioRejects 3 (16 * 199) = true ∧
    (after (.inputEdge 199 3 0 true 20 0) ratio3).get (Fld.WHL_CNT_RATIO 3) = 1 ∧
    (after (.inputEdge 200 3 0 true 20 0) ratio3).get (Fld.WHL_CNT_RATIO 3) = 0 := by decide +kernel
/-- A pulse measured from 0, PW_SPLIT 1 and PW_MAX 2 µs; the pin stands active. -/
def pulse3 : State := let s := put (whl3.setWhl 3 { measuring := true }) [(Fld.WHL_CFG_DIR_MODE 3, 2), (Fld.WHL_PW_PW_SPLIT 3, 1), (Fld.WHL_PW_PW_MAX 3, 2)]
  s.withHst { s.hst with wheelExt := 8 }
theorem wit_WheelRows_pulse : (pulse3.advance 800).wheelPin 3 ≠ ((pulse3.get (Fld.WHL_CFG_EDGE 3) == 1) != pulse3.flag (Fld.WHL_CFG_POL 3)) ∧
    (after (.pulseTrailingEdge 800 3 0) pulse3).flag (Fld.WHL_STAT_DIR 3) = true ∧ (after (.pulseTrailingEdge 399 3 15) pulse3).flag (Fld.WHL_STAT_DIR 3) = false ∧
    (after (.pulseTrailingEdge 800 3 1) pulse3).flag (Fld.WHL_STAT_PW_INVALID 3) = true ∧
    (after (.pulseTrailingEdge 800 3 0) pulse3).flag (Fld.WHL_STAT_PW_INVALID 3) = false ∧
    (after (.pulseWidthTimeout 801 3) pulse3).flag (Fld.WHL_STAT_PW_INVALID 3) = true := by decide +kernel
def vr3 : State := put (up 6) [(Fld.WHL_CFG_FE 3, 1)]
theorem wit_WheelRows_vr : (vr3.advance 0).frontEnd 3 = 1 ∧
    ((after (.vrPeakReset (200 * msTicks) 3) (vr3.setWhl 3 { prevPeak := 9 })).whl 3).prevPeak = 0 ∧
    (after (.vrShortDetect 0 3 499 msTicks) vr3).flag (Fld.WHL_STAT_SHORT_GND 3) = true ∧
    (after (.vrShortDetect 0 3 3001 msTicks) vr3).flag (Fld.WHL_STAT_SHORT_BAT 3) = true ∧
    (after (.vrShortDetect 0 3 500 msTicks) vr3).flag (Fld.WHL_STAT_SHORT_GND 3) = false ∧
    (after (.vrOpenTest (200 * msTicks) 3 1501) vr3).flag (Fld.WHL_STAT_VR_OPEN 3) = true ∧
    (after (.vrOpenTest (200 * msTicks) 3 1500) vr3).flag (Fld.WHL_STAT_VR_OPEN 3) = false := by decide +kernel
/-- WHL2 and WHL3 as a quadrature pair, WHL3 high. -/
def quad : State := let s := put (up 6) [(Fld.WHL_CFG_FE 2, 2), (Fld.WHL_CFG_EDGE 2, 0), (Fld.WHL_FILT_MIN_TIME 2, 5), (Fld.WHL_FILT_RATIO 2, 0),
  (Fld.WHL_CFG_DIR_MODE 2, 1), (Fld.WHL_CFG_FE 3, 2), (Fld.WHL_STAT_LEVEL 3, 1), (Fld.WHL_WD_CFG_CRANK_IN 1, 2), (Fld.WHL_WD_CFG_DIR_SRC 1, 2), (Fld.WHL_WIN_WIN 2, 9)]
  (atTime s 100).withHst { s.hst with wheelExt := 8 }
theorem wit_WheelRows_direction : (quad.whl 3).levelAt ≠ (quad.advance 0).tclk ∧ quad.get (Fld.WHL_CFG_DIR_MODE 2) = 1 ∧ quad.isActive 2 true = true ∧
    quad.ratioRejects 2 1600 = false ∧ (after (.inputEdge 0 2 0 true 20 0) quad).flag (Fld.WHL_STAT_DIR 2) = false ∧
    (after (.inputEdge 0 2 0 true 20 0) (put quad [(Fld.WHL_STAT_LEVEL 3, 0)])).flag (Fld.WHL_STAT_DIR 2) = true ∧
    ((after (.inputEdge 0 2 0 true 20 0) (put quad [(Fld.WHL_CFG_DIR_MODE 2, 2)])).whl 2).measuring = true ∧
    (put quad [(Fld.WHL_WD_CFG_POS_REV 1, 4)]).posRev 1 = 4 ∧
    ((after (.inputEdge 0 2 0 true 20 0) (put quad [(Fld.WHL_STAT_LEVEL 3, 0), (Fld.WHL_WD_CFG_POS_REV 1, 4)])).trk 1).crankQ.map
      (fun e => (e.reverse, e.win)) = [(true, 9)] ∧
    (after (.inputEdge 0 2 0 true 20 0) (put quad [(Fld.WHL_CFG_FE 2, 0)])).wheelPin 2 = true ∧
    (put quad [(Fld.WHL_CFG_EDGE 2, 1)]).isActive 2 true = false ∧
    (after (.inputEdge 0 2 0 true 20 0) (put quad [(Fld.WHL_CFG_EDGE 2, 1)])).get (Fld.WHL_CNT_ACCEPTED 2) = 0 ∧
    (after (.inputEdge 0 3 0 true 20 0) quad).wheelPin 3 = true := by decide +kernel
/-- The VR input with a peak of 1 V behind it, armed, its level high. -/
def armed3 : State := let s := put vr3 [(Fld.WHL_STAT_ARMED 3, 1), (Fld.WHL_CFG_THR_PCT 3, 50), (Fld.WHL_STAT_LEVEL 3, 1)]
  (s.setWhl 3 { prevPeak := 1000 }).withHst { s.hst with wheelExt := 8 }
theorem wit_WheelRows_crossing : armed3.wheelPin 3 = true ∧ (armed3.advance 0).frontEnd 3 = 1 ∧ armed3.isReturn 3 = false ∧
    (after (.inputEdge 0 3 0 false 20 900) armed3).flag (Fld.WHL_STAT_ARMED 3) = false ∧
    (after (.inputEdge 0 3 0 false 20 900) armed3).get (Fld.WHL_STAT_PEAK 3) = 900 ∧
    (after (.inputEdge 0 3 0 false 20 900) armed3).get (Fld.WHL_CNT_ACCEPTED 3) = 1 ∧
    armed3.vrMin 3 < 501 ∧ armed3.get (Fld.WHL_CFG_THR_PCT 3) * (armed3.whl 3).prevPeak < 100 * 501 ∧
    (after (.inputEdge 0 3 0 true 20 501) (put armed3 [(Fld.WHL_STAT_ARMED 3, 0)])).flag (Fld.WHL_STAT_ARMED 3) = true ∧
    (after (.inputEdge 0 3 0 true 20 500) (put armed3 [(Fld.WHL_STAT_ARMED 3, 0)])).flag (Fld.WHL_STAT_ARMED 3) = false := by decide +kernel
theorem wit_WheelRows_return : (whl3.setWhl 3 { returnBy := 20 }).isReturn 3 = true ∧
    (after (.inputEdge 0 3 15 true 20 0) (whl3.setWhl 3 { returnBy := 20 })).get (Fld.WHL_CNT_ACCEPTED 3) = 0 := by decide +kernel
/-- Frost, counting by the width of pulses. -/
def frosted : State := let s := (put (up 1) [(Fld.CLK_GATE0_WHL, 0), (Fld.TRK_FROST_EN, 1), (Fld.TRK_FROST_IN, 3), (Fld.WHL_CFG_FE 0, 2), (Fld.WHL_CFG_DIR_MODE 0, 2)])
  s.withPwr { s.pwr with frostCfg := s.word (Reg.WHL_CFG 0) }
theorem wit_WheelRows_frost : (frosted.advance 0).st = 1 ∧ fieldOf (Fld.WHL_CFG_FE 0) frosted.pwr.frostCfg = 2 ∧ frosted.get Fld.TRK_FROST_IN = 3 ∧
    (after (.pulseWidthTimeout 0 3) frosted).flag Fld.TRK_FCNT_NODIR = true := by decide +kernel
/-- The simulator on the wheel of tracker 1, 1 au past position 0. -/
def simmed : State := let s := put whl3 [(Fld.WHL_SIM_CTRL_EN, 1), (Fld.WHL_SIM_CTRL_RUN, 1), (Fld.WHL_SIM_CTRL_DESC, 1), (Fld.WHL_SIM_ANG_ANGLE, 1),
  (Fld.WHL_SIM_RATE_RATE, 100), (Fld.WHL_SIM_TGT_TGT, 150), (Fld.WHL_SIM_ACC_ACC, 60)]
  { s with sim := { s.sim with behind := 2 * 2 ^ 28 } }
theorem wit_WheelRows_simulator : (simmed.advance 0).simRuns = true ∧ (simmed.advance 0).simNext = some (2 ^ 28) ∧
    (simmed.advance 0).simMarks.filter (fun m => (simmed.advance 0).simBehind m.1 == 2 ^ 28 % simMod) = [(0, .tooth 0)] ∧
    simmed.get (Fld.WHL_WD_CFG_CRANK_IN simmed.simX) = 3 ∧ simmed.simulated 3 = true ∧ simmed.get (Fld.WHL_CFG_EDGE 3) ≤ 2 ∧
    simmed.glitches 3 simmed.simPulse = false ∧ (after (.simEdge 0) simmed).get (Fld.WHL_CNT_ACCEPTED 3) = 1 ∧
    (after (.simEdge 0) (after (.simEdge 0) simmed)).get (Fld.WHL_CNT_ACCEPTED 3) = 1 ∧
    ({ simmed with tclk := 65536 } : State).sim.stepAt + 65536 ≤ ({ simmed with tclk := 65536 } : State).tclk ∧
    (after (.simRateStep 0) { simmed with tclk := 65536 }).get Fld.WHL_SIM_RATE_RATE = 150 := by decide +kernel
theorem wit_WheelRows_marks : let s := put simmed [(Fld.WHL_SIM_FLT_DROP, 1)]
    s.simHere (2 ^ 28) = [.tooth 0] ∧ (after (.simEdge 0) s).get (Fld.WHL_CNT_ACCEPTED 3) = 0 ∧ (after (.simEdge 0) s).sim.behind = 2 ^ 28 ∧
    ((put simmed [(Fld.WHL_SIM_CTRL_RUN, 0)]).advance 0).simOn = true := by decide +kernel
/-- The simulator 1 au past a rising cam entry at 8, WHL2 the cam input. -/
def camSim : State := let s := put simmed [(Fld.WHL_CFG_FE 2, 2), (Fld.WHL_CFG_EDGE 2, 0), (Fld.WHL_FILT_RATIO 2, 0), (Fld.WHL_SIM_CTRL_CAM, 1),
  (Fld.WHL_WD_CFG_CAM_IN 1, 2), (Fld.WHL_WD_CFG_CAM_EN 1, 1), (Fld.WHL_WD_CAM_EN 1 0, 1), (Fld.WHL_WD_CAM_ANGLE 1 0, 8), (Fld.WHL_SIM_ANG_ANGLE, 9)]
  s
theorem wit_WheelRows_cam : (camSim.advance 0).simHere (2 ^ 28) = [.cam false] ∧ camSim.simNext = some (2 ^ 28) ∧ camSim.isActive 2 true = true ∧
    camSim.simulated 2 = true ∧ camSim.glitches 2 camSim.simPulse = false ∧ (after (.simEdge 0) camSim).get (Fld.WHL_CNT_ACCEPTED 2) = 1 := by decide +kernel

/-- Tracker 1 in state `n`, with the tooth of index 1 expected and an edge due at 1600. -/
def tracked (n : Nat) (rev : Bool) : State := let s := put whl3 [(Fld.TRK_STAT_STATE 1, n), (Fld.TRK_POS_NEXT 1, 1), (Fld.WHL_WIN_WIN 3, 0)]
  { s with tclk := 200, now := 200 }.setTrk 1 { s.trk 1 with crankQ := [{ stamp := 1600, avail := 164, reverse := rev }], stamp := 800, edges := 9, rate := 2 ^ 40 }
theorem wit_TrackerEdges_crank : ((tracked 0 false).advance 0).trkState 1 = 0 ∧ ((tracked 0 false).trk 1).preset = false ∧ (tracked 0 false).edgesPass = true ∧
    (tracked 0 false).posRev 1 ≠ 0 ∧ (tracked 0 false).get (Fld.TRK_CTRL_SRC 1) = 0 ∧ (after (.crankEdgeAccepted 0 1) (tracked 0 false)).trkState 1 = 2 ∧
    ((tracked 4 false).trk 1).wasReverse = false ∧ ((tracked 4 false).setTrk 1 { (tracked 4 false).trk 1 with crankQ := [] }).windowOpen 1 { stamp := 1600, avail := 164 } = true ∧
    ((tracked 4 false).setTrk 1 { (tracked 4 false).trk 1 with crankQ := [] }).isExtraEdge 1 1600 = false ∧
    (after (.crankEdgeAccepted 0 1) (tracked 4 false)).nextN 1 = 2 ∧ ((after (.crankEdgeAccepted 0 1) (tracked 4 false)).trk 1).lastIdx = 1 ∧
    ((after (.crankEdgeAccepted 0 1) (tracked 4 true)).trk 1).wasReverse = true ∧ (after (.crankEdgeAccepted 0 1) (tracked 4 true)).nextN 1 = 0 ∧
    ((after (.crankEdgeAccepted 0 1) (tracked 4 true)).trk 1).rate = 0 := by decide +kernel
/-- The same with a window of 1 au, and the angle far from the tooth. -/
def windowed1 : State := let s := tracked 4 false
  s.setTrk 1 { s.trk 1 with rate := 0, acc := 2 ^ 54, crankQ := [{ stamp := 1600, avail := 164, win := 1 }] }
theorem wit_TrackerEdges_window : ((windowed1.setTrk 1 { windowed1.trk 1 with crankQ := [] }).advance 0).windowOpen 1 { stamp := 1600, avail := 164, win := 1 }
      = false ∧
    (after (.crankEdgeAccepted 0 1) windowed1).nextN 1 = 1 ∧ ((after (.crankEdgeAccepted 0 1) windowed1).trk 1).crankQ = [] ∧
    ((after (.crankEdgeAccepted 0 1) windowed1).trk 1).healthNow = 1 := by decide +kernel
/-- A preset for tracker 1 at index 2. -/
def presetAt (n : Nat) : State := let s := put (tracked n false) [(Fld.TRK_STOPA_VALID, 1), (Fld.TRK_STOPA_WD, 1), (Fld.TRK_POS_NEXT 1, 2)]
  s.setTrk 1 { s.trk 1 with preset := true }
theorem wit_TrackerEdges_preset : ((presetAt 0).advance 0).trkState 1 = 0 ∧ (presetAt 0).presetApplies 1 = true ∧
    (after (.crankEdgeAccepted 0 1) (presetAt 0)).trkState 1 = 1 ∧ ((after (.crankEdgeAccepted 0 1) (presetAt 0)).trk 1).lastIdx = 2 ∧
    (tracked 1 false).nextExtra 1 = none ∧ ((after (.crankEdgeAccepted 0 1) (tracked 1 true)).trk 1).wasReverse = true ∧
    ((after (.crankEdgeAccepted 0 1) (tracked 2 true)).trk 1).edges = 0 ∧ ((after (.crankEdgeAccepted 0 1) (tracked 6 false)).trk 1).stamp = 1600 := by
  decide +kernel
/-- A forward edge taken, and its direction changed afterwards. -/
def turned (rev : Bool) : State := let s := after (.crankEdgeAccepted 0 1) (tracked 4 false)
  s.setTrk 1 { s.trk 1 with crankQ := [{ stamp := 1600, avail := 164, reverse := rev, relabel := true }] }
theorem wit_TrackerEdges_relabel : ((turned false).advance 0).staleLabel 1 { stamp := 1600, avail := 164, reverse := false, relabel := true } = true ∧
    (turned true).staleLabel 1 { stamp := 1600, avail := 164, reverse := true, relabel := true } = false ∧
    ((turned true).before 1).isSome = true ∧ (after (.crankEdgeAccepted 0 1) (turned true)).trkReverse 1 = true ∧
    (after (.crankEdgeAccepted 0 1) (turned true)).nextN 1 = 0 ∧ (turned true).nextN 1 = 2 := by decide +kernel
/-- A gap of 1 in 4 positions, so that the cam only tells the revolution; a cam edge due. -/
def cammed : State := let s := put (tracked 2 false) [(Fld.WHL_WD_GAP_EN 1 0, 1), (Fld.WHL_WD_GAP_START 1 0, 3), (Fld.WHL_WD_GAP_LEN 1 0, 1), (Fld.WHL_WD_CFG_CAM_EN 1, 1)]
  s.setTrk 1 { s.trk 1 with crankQ := [], camQ := [{ stamp := 1000, avail := 164 }] }
theorem wit_TrackerEdges_cam : (cammed.advance 0).trkState 1 = 2 ∧ cammed.byCam 1 = false ∧ cammed.flag (Fld.WHL_WD_CFG_CAM_EN 1) = true ∧
    ((after (.camEdge 0 1) cammed).trk 1).camQ = [] ∧
    ((after (.camEdge 0 1) cammed).trk 1).cams.getLast? = some { edges := 9, since := 200, falling := false, interval := 0 } ∧
    (put cammed [(Fld.TRK_STAT_STATE 1, 4)]).flag (Fld.TRK_STAT_CAM_MISSING 1) = false ∧
    (after (.camMissing 0 1) ((put cammed [(Fld.TRK_STAT_STATE 1, 4)]).setTrk 1 { camRot := 2 * 2 ^ 24 * 2 ^ 32 })).flag (Fld.TRK_STAT_CAM_MISSING 1)
      = true := by decide +kernel
/-- Two revolutions a cycle, a falling cam entry at `a`, the angle 0 at the cam edge. -/
def camAt (n a : Nat) : State := let s := put cammed [(Fld.WHL_WD_CFG_STROKE 1, 0), (Fld.WHL_WD_CAM_EN 1 0, 1), (Fld.WHL_WD_CAM_ANGLE 1 0, a), (Fld.WHL_WD_CAM_POL 1 0, 1),
  (Fld.WHL_WD_CAMCFG_CAM_TOL 1, 16), (Fld.TRK_STAT_STATE 1, n)]
  s.setTrk 1 { s.trk 1 with rate := 0, acc := 0, flips := 3, camQ := [{ stamp := 3200, avail := 164, falling := true }] }
theorem wit_TrackerEdges_judged : ((camAt 3 0).advance 0).revs 1 = 2 ∧ (camAt 3 0).crankFirst 1 { stamp := 3200, avail := 164, falling := true } = false ∧
    (camAt 3 0).angleAt 1 3200 = 0 ∧ (camAt 3 0).camMatches 1 0 true = true ∧ (camAt 3 0).camMatches 1 8388608 true = false ∧
    (after (.camEdge 0 1) (camAt 3 0)).trkState 1 = 4 ∧ (after (.camEdge 0 1) (camAt 3 0)).nextN 1 = 1 ∧
    (camAt 3 8388608).camMatches 1 8388608 true = true ∧ (after (.camEdge 0 1) (camAt 3 8388608)).nextN 1 = 5 ∧
    ((after (.camEdge 0 1) (camAt 4 0)).trk 1).flips = 0 ∧ (after (.camEdge 0 1) (camAt 4 999)).get (Fld.TRK_CNT_CAMERR 1) = 1 := by decide +kernel
/-- The angle stands half a cycle minus 1 past the tooth expected. -/
def missed (n lim : Nat) : State := let s := put (tracked n false) [(Fld.TRK_SYNC_COAST_LIM 1, lim), (Fld.TRK_STAT_COAST_N 1, 1)]
  s.setTrk 1 { s.trk 1 with crankQ := [], acc := 2 ^ 54, rate := 0 }
theorem wit_TrackerEdges_missing : ((missed 4 3).advance 0).edgeMissing 1 = true ∧ (after (.crankEdgeMissing 0 1) (missed 4 3)).trkState 1 = 5 ∧
    (after (.crankEdgeMissing 0 1) (missed 4 0)).trkState 1 = 6 ∧ (after (.crankEdgeMissing 0 1) (missed 5 1)).trkState 1 = 6 ∧
    (after (.crankEdgeMissing 0 1) (missed 5 2)).trkState 1 = 5 ∧ (after (.crankEdgeMissing 0 1) (missed 4 3)).nextN 1 = 2 ∧
    (after (.crankEdgeMissing 0 1) (missed 4 3)).get (Fld.TRK_CNT_MISS 1) = 1 ∧
    (after (.trackerStop 0 1) (atTime (missed 4 3) (65535 * msTicks))).trkState 1 = 0 := by decide +kernel
/-- Frost, with the frost tracker counting on a Hall input. -/
def frozen (c mode : Nat) : State := let s := put (up 1) [(Fld.TRK_FROST_EN, 1), (Fld.TRK_FCNT_COUNT, c)]
  s.withPwr { s.pwr with frostCfg := withField (Fld.WHL_CFG_DIR_MODE 0) (withField (Fld.WHL_CFG_FE 0) 0 2) mode }
theorem wit_TrackerStores : spGet (fun _ => 0) (after (.stopAngleCopy 0) loaded).sec.saved Reg.TRK_STOPA = 7 ∧
    (after (.tableStore 0) (loaded.setTrk 1 { profile := [(5, 9)] })).sec.profSaved = [(2 ^ 20 + 5, 9)] ∧ loaded.st = 6 ∧
    fieldOf (Fld.WHL_CFG_FE 0) (frozen 5 0).pwr.frostCfg ≠ 0 ∧ (after (.frostTooth 0 false 0) (frozen 5 0)).get Fld.TRK_FCNT_COUNT = 6 ∧
    (after (.frostTooth 0 false 0) (frozen 5 0)).flag Fld.TRK_FCNT_NODIR = true ∧
    (after (.frostTooth 0 false 0) (frozen 32770 1)).get Fld.TRK_FCNT_COUNT = 32769 ∧
    (after (.frostTooth 0 false 0) (frozen 32767 0)).flag Fld.TRK_FCNT_OVF = true := by decide +kernel
/-- The count goes down on a pulse of PW_SPLIT = 1 or more (units of 0.5), and an over-long one is not counted. -/
theorem wit_TrackerStores_pulses : let s := (frozen 5 2).withPwr { (frozen 5 2).pwr with frostPw := withField (Fld.WHL_PW_PW_SPLIT 0) (withField (Fld.WHL_PW_PW_MAX 0) 0 3) 1 }
    (after (.frostTooth 0 false 2) s).get Fld.TRK_FCNT_COUNT = 4 ∧ (after (.frostTooth 0 false 1) s).get Fld.TRK_FCNT_COUNT = 6 ∧
    (after (.frostTooth 0 false 7) s).get Fld.TRK_FCNT_COUNT = 5 ∧ (after (.frostTooth 0 false 7) s).flag Fld.TRK_FCNT_NODIR = true := by decide +kernel

-- ── Scheduler and shots ───────────────────────────────────────────────────────────────────────────────────────────

/-- Cylinder 24 with slot 2047 alone, the scheduler on and TRK_OUT usable at 0; channel 46 may drive. -/
def sched : State := put (up 6) [(Fld.SCH_CYL_C_SLOT_BASE 23, 2047), (Fld.SCH_CYL_C_SLOT_CNT 23, 1), (Fld.SCH_CYL_A_EN 23, 1), (Fld.SCH_CTRL_EN, 1),
  (Fld.SCH_CTRL_AUTONOMY, 1), (Fld.TRK_STAT_STATE 0, 4), (Fld.DRV_CTRL_EN, 1), (Fld.DRV_CTRL_STBY, 0), (Fld.DRV_CH_CFG_EN 46, 1), (Fld.DRV_CH_CFG_STBY 46, 0),
  (Fld.SYS_STAT_KEY, 1)]
theorem wit_SchedulerEvents_prepare : sched.schOn = true ∧ sched.cylEn 23 = true ∧ sched.flag Fld.SCH_CTRL_DEMAND = false ∧
    (after (.prepareEvent 0 23) { sched with sch := { sched.sch with prepPend := 2 ^ 23 } }).bit Fld.SCH_PREPPEND_PEND 23 = true ∧
    (after (.prepareEvent 0 23) { sched with sch := { sched.sch with prepPend := 2 ^ 23 } }).isPend true 64 = true ∧
    (after (.prepareEvent 0 23) sched).bit Fld.SCH_PREPPEND_PEND 23 = false := by decide +kernel
theorem wit_SchedulerEvents_demand : let s := put { sched with sch := { sched.sch with prepPend := 2 ^ 23 } } [(Fld.SCH_CTRL_DEMAND, 1)]
    (s.advance 0).sch.prepPend.testBit 23 = true ∧ (after (.prepareEvent 0 23) s).bit Fld.SCH_PREPPEND_PEND 23 = true ∧
    (after (.prepareEvent 0 23) s).sch.prepPend.testBit 23 = false := by decide +kernel
/-- The latch angle of cylinder 24 is reached; its shadow slot holds a shot that starts 100 au ahead. -/
def latching : State := { (sched.setWord (Reg.SCH_SHADOW 2047 0) 0x80000064).setWord (Reg.SCH_SHADOW 2047 1) 200 |>.setWord (Reg.SCH_SHADOW 2047 2) 46
  |>.setWord (Reg.SCH_ACTIVE 2047 0) 50 with sch := { sched.sch with latchPend := 2 ^ 23 } }
theorem wit_SchedulerEvents_commit : (latching.advance 0).sch.latchPend.testBit 23 = true ∧ latching.isDrag = false ∧ latching.autonomyOut = false ∧
    latching.withdrawing = false ∧ latching.slotsOf 23 = [2047] ∧ latching.armed 2047 = false ∧ latching.fired 2047 = false ∧
    0 < angDist (latching.advance 0).out (latching.shadowDesc 2047).start ∧ 0 < angDist (latching.advance 0).out (latching.activeDesc 2047).start ∧
    latching.setOk 23 = true ∧ (after (.commit 0 23) latching).word (Reg.SCH_ACTIVE 2047 0) = 0x80000064 ∧
    (after (.commit 0 23) latching).armed 2047 = true ∧ (after (.commit 0 23) latching).get Fld.SCH_CNT_COMMITS = 1 ∧
    (after (.commit 0 23) (put latching [(Fld.SCH_TXN_OPEN, 2 ^ 23)])).armed 2047 = false ∧
    (after (.commit 0 23) (put latching [(Fld.SCH_TXN_OPEN, 2 ^ 23)])).get Fld.SCH_STAT_STALE_COMMITS = 1 := by decide +kernel
def wrapped : State := (put sched [(Fld.TRK_LOAD_BUCKET 1, 5)]).setTrk 1 { wrapPend := true, wrapAt := 0 }
def outWrapped : State := let s := put sched [(Fld.SCH_FIRED_FIRED 63, 2 ^ 31)]
  { s with voter := { s.voter with outWrap := true }, sch := { s.sch with refreshed := true, heldBack := [2047] } }
theorem wit_SchedulerEvents_wrap : ((wrapped.advance 0).trk 1).wrapPend = true ∧ ((wrapped.advance 0).trk 0).wrapPend = false ∧
    (wrapped.advance 0).voter.outWrap = false ∧ (after (.cycleWrap 0) wrapped).get (Fld.TRK_LOAD_ACTIVE 1) = 5 ∧
    ((after (.cycleWrap 0) wrapped).trk 1).wrapPend = false ∧ (outWrapped.advance 0).voter.outWrap = true ∧
    outWrapped.flag Fld.FLO_SYSSTAT_ADOPT_PEND = false ∧ outWrapped.fired 2047 = true ∧ (after (.cycleWrap 0) outWrapped).fired 2047 = false ∧
    (after (.cycleWrap 0) outWrapped).sch.heldBack = [] := by decide +kernel
theorem wit_SchedulerEvents_both : let s := (put sched [(Fld.TRK_LOAD_BUCKET 0, 3), (Fld.TRK_LOAD_BUCKET 1, 5)]).setTrk 1 { wrapPend := true, healthNow := 300 } |>.setTrk 0 { wrapPend := true }
    (s.advance 0).voter.outWrap = false ∧ (after (.cycleWrap 0) s).get (Fld.TRK_LOAD_ACTIVE 0) = 3 ∧ (after (.cycleWrap 0) s).get (Fld.TRK_LOAD_ACTIVE 1) = 5 ∧
    ((after (.cycleWrap 0) s).trk 1).health = 255 ∧ ((after (.cycleWrap 0) s).trk 1).healthNow = 0 := by decide +kernel
def sampling (n : Nat) : State := (up 6).setAdc 3 { samples := [15], fifo := List.replicate n 0 }
def bursting : State := (up 6).setAdc 3 { burst := some (15, 1, 4, 0) } |> (put · [(Fld.ADC_CFG_BURST_MAX 3, 1)])
def scanning : State := put (atTime (up 6) msTicks) [(Fld.ADC_SCAN_PERIOD 3, 1), (Fld.ADC_SCAN_MASK 3, 8)]
theorem wit_SchedulerEvents_adc : ((sampling 63).adc 3).ovrNext = false ∧ ((sampling 63).adc 3).samples = [15] ∧ ((sampling 63).adcFifo 3).length < 64 ∧
    (after (.adcBurstConversion 0 3 0xFFF) (sampling 63)).adcFifo 3 = List.replicate 63 0 ++ [0xFFFF] ∧
    (after (.adcBurstConversion 0 3 0xFFF) (sampling 64)).flag (Fld.ADC_STAT_OVR 3) = true ∧
    (after (.adcBurstConversion 0 3 0xFFF) (sampling 64)).word (Reg.ADC_LAST 3 3) = 0x8FFF ∧
    (bursting.adc 3).burst = some (15, 1, 4, 0) ∧ bursting.inputServed 15 = true ∧
    Nat.max 1 (bursting.get (Fld.ADC_CFG_BURST_MAX 3)) ≤ 0 + 1 ∧ (bursting.advance 0).atOrBeyond 1 = false ∧
    (after (.adcBurstConversion 0 3 1) bursting).adcFifo 3 = [0x1F001] ∧
    (scanning.advance 0).scanInput 3 = some (3, true) ∧ scanning.inputServed 15 = true ∧
    (after (.adcScan 0 3 5) scanning).word (Reg.ADC_LAST 3 3) = 0x8005 := by decide +kernel
/-- Converter 4 in a burst with 5 conversions allowed, TRK_OUT standing at 0. -/
def bursts (begun : Bool) (wend : Nat) (l : List Nat) : State := put ((up 6).setAdc 3 { samples := l, burst := some (15, wend, 4, 0), begun := begun })
  [(Fld.ADC_CFG_BURST_MAX 3, 5), (Fld.ADC_STAT_BURST 3, 1)]
theorem wit_SchedulerEvents_burst : ((bursts true 9 []).advance 0).atOrBeyond 9 = false ∧ angDist 0 9 = 9 ∧
    ((after (.adcBurstConversion 0 3 1) (bursts true 9 [])).adc 3).burst = some (15, 9, 4, 1) ∧
    ((after (.adcBurstConversion 0 3 1) (bursts true 9 [])).adc 3).burstAt = 4 ∧ (after (.adcBurstConversion 0 3 1) (bursts true 9 [])).adcFifo 3 = [0xF001] ∧
    (after (.adcBurstConversion 0 3 1) (bursts false 0 [])).adcFifo 3 = [0x1F001] ∧ ((bursts true 0 []).advance 0).atOrBeyond 0 = true ∧
    ((after (.adcBurstConversion 0 3 1) (bursts true 0 [])).adc 3).burst = none ∧
    ((after (.adcBurstConversion 0 3 1) (bursts true 9 [12, 13])).adc 3).samples = [13] ∧
    (after (.adcBurstConversion 0 3 1) (bursts true 9 [12, 13])).get (Fld.ADC_STAT_SKIP 3) = 1 ∧
    (after (.adcBurstConversion 0 3 1) (bursts true 9 [12, 13])).word (Reg.ADC_LAST 3 0) = 0x8001 := by decide +kernel
theorem wit_SchedulerEvents_shed : let s := put scanning [(Fld.PWR_STAT_STAGE, 2), (Fld.ADC_ESS_ESSENTIAL, 0)]
    (s.advance 0).scanInput 3 = some (3, true) ∧ s.inputServed 15 = false ∧ (after (.adcScan 0 3 5) s).get (Fld.ADC_STAT_CALV_SKIP 3) = 1 ∧
    (after (.adcScan 0 3 5) s).adcFifo 3 = [] := by decide +kernel

/-- Slot 2047 is armed and its start reached; its words. -/
def slot2047 (w0 w1 w2 : Word) : State :=
  put (((sched.setWord (Reg.SCH_ACTIVE 2047 0) w0).setWord (Reg.SCH_ACTIVE 2047 1) w1).setWord (Reg.SCH_ACTIVE 2047 2) w2) [(Fld.SCH_ARMED_ARMED 63, 2 ^ 31)]
def firing (w0 w1 w2 : Word) : State := { slot2047 w0 w1 w2 with sch := { sched.sch with firePend := [2047] } }
theorem wit_FiringAndShots_events : let f := fun a : Word => firing 0x90000000 (a <<< 24) 15
    ((f 5).seeVboost 1000).cylOf 2047 = some 23 ∧ (f 5).armed 2047 = true ∧ (f 5).mayFire 2047 = true ∧ ((f 5).activeDesc 2047).isEvent = true ∧
    ((f 5).activeDesc 2047).act = 5 ∧ (after (.slotFire 0 2047 1000) (f 5)).drv.aout = 2 ^ 15 ∧ (after (.slotFire 0 2047 1000) (f 5)).fired 2047 = true ∧
    (after (.slotFire 0 2047 1000) (f 5)).armed 2047 = false ∧ (after (.slotFire 0 2047 1000) (f 6)).drv.aout = 0 ∧
    (after (.slotFire 0 2047 1000) (f 7)).drv.aout = 2 ^ 15 ∧ (after (.slotFire 0 2047 1000) (f 8)).isPend false 63 = true := by
  decide +kernel
/-- Two AOUT slots of one tick: the lower sets, the higher clears the same output; the higher one's command comes first. -/
def twoAt : State := let s := put ((firing 0x90000000 (6 <<< 24) 15).setWord (Reg.SCH_ACTIVE 2046 0) 0x90000000 |>.setWord (Reg.SCH_ACTIVE 2046 1) (5 <<< 24)
  |>.setWord (Reg.SCH_ACTIVE 2046 2) 15) [(Fld.SCH_ARMED_ARMED 63, 3 * 2 ^ 30), (Fld.SCH_CYL_C_SLOT_BASE 23, 2046), (Fld.SCH_CYL_C_SLOT_CNT 23, 2)]
  { s with sch := { s.sch with firePend := [2046, 2047] } }
theorem wit_FiringAndShots_order : ((twoAt.advance 0).seeVboost 0).actsBefore 2046 2047 = true ∧ twoAt.cylOf 2046 = some 23 ∧ twoAt.armed 2046 = true ∧
    (after (.slotFire 0 2047 0) twoAt).drv.aout = 0 ∧ (after (.slotFire 0 2047 0) twoAt).fired 2046 = true ∧
    (after (.slotFire 0 2046 0) twoAt).drv.aout = 2 ^ 15 := by decide +kernel
/-- A shot on channel 46 with profile 1, which needs a boost phase where `t` is not 0. -/
def shot1 (t : Nat) : State := put (firing 0x80000000 (200 + 0x2000000) 46) [(Fld.PRF_ACT_BOOST_T 1, t), (Fld.PRF_ACT_HOLD_SP 1, 100)]
theorem wit_FiringAndShots_starts : (((shot1 0).advance 0).seeVboost 1000).faultRefuses 46 = false ∧ (shot1 0).calvingSheds ((shot1 0).shotOf 23 2047 false) = false ∧
    (shot1 0).thermalRefuses ((shot1 0).shotOf 23 2047 false) = false ∧ ((shot1 0).seeVboost 1000).boostShort = false ∧
    (shot1 0).startClaim ((shot1 0).shotOf 23 2047 false) ≤ claimMax ∧ ((shot1 0).activeProfile 1).needsBoost false = false ∧
    ((shot1 9).activeProfile 1).needsBoost false = true ∧ (shot1 0).bankAdmits 46 ((shot1 0).startClaim ((shot1 0).shotOf 23 2047 false)) = true ∧
    (after (.slotFire 0 2047 1000) (shot1 0)).phase 46 = 4 ∧ (after (.slotFire 0 2047 1000) (shot1 0)).fired 2047 = true ∧
    ((after (.slotFire 0 2047 1000) (shot1 9)).queue 7).length = 1 ∧ (after (.slotFire 0 2047 1000) (shot1 9)).phase 46 = 0 := by decide +kernel
theorem wit_FiringAndShots_refusals : let no := put (shot1 0) [(Fld.DRV_CTRL_EN, 0)]
    let shed := put (shot1 0) [(Fld.PWR_STAT_STAGE, 6)]
    let hot := put (shot1 0) [(Fld.DRV_CH_STAT_TSTEP 46, 3)]
    let full := put (shot1 0) [(Fld.DRV_CH_STAT_PHASE 42, 4), (Fld.DRV_CH_STAT_PHASE 43, 4), (Fld.DRV_CH_STAT_PHASE 44, 4)]
    no.faultRefuses 46 = true ∧ shed.calvingSheds (shed.shotOf 23 2047 false) = true ∧ hot.thermalRefuses (hot.shotOf 23 2047 false) = true ∧
    full.bankAdmits 46 (full.startClaim (full.shotOf 23 2047 false)) = false ∧
    (after (.slotFire 0 2047 1000) no).get (Fld.WIT_CH_STAT_LAST_OUT 46) = 0xD ∧ (after (.slotFire 0 2047 1000) no).get Fld.WIT_RECSEQ_SEQ = 1 ∧
    (after (.slotFire 0 2047 1000) shed).get (Fld.WIT_CH_STAT_LAST_OUT 46) = 0xC ∧
    (after (.slotFire 0 2047 1000) hot).get (Fld.WIT_CH_STAT_LAST_OUT 46) = 0xB ∧
    (after (.slotFire 0 2047 1000) full).get (Fld.WIT_CH_STAT_LAST_OUT 46) = 0x8 ∧ (after (.slotFire 0 2047 1000) full).phase 46 = 0 := by
  decide +kernel
theorem wit_FiringAndShots_energy : let low := put (firing 0x81000000 (200 + 0x2000000) 46) [(Fld.DRV_CTRL_BOOST_EN, 1), (Fld.DRV_VBOOSTMIN_VMIN, 500), (Fld.PRF_ACT_HOLD_SP 1, 100)]
    let full := put (shot1 0) [(Fld.PRF_ACT_CFG_ONOFF 1, 1), (Fld.DRV_CH_CFG_ICLAIM 46, 81)]
    ((low.advance 0).seeVboost 1).faultRefuses 46 = false ∧ (low.seeVboost 1).boostShort = true ∧ (low.activeDesc 2047).cls ≠ 0 ∧
    (after (.slotFire 0 2047 1) low).get (Fld.WIT_CH_STAT_LAST_OUT 46) = 0xA ∧
    claimMax < full.startClaim (full.shotOf 23 2047 false) ∧ (after (.slotFire 0 2047 1000) full).get (Fld.WIT_CH_STAT_LAST_OUT 46) = 8 ∧
    (after (.slotFire 0 2047 1000) full).flag (Fld.DRV_BANKSTAT_CLAIM_OVER 7) = true := by decide +kernel
theorem wit_FiringAndShots_drag : let s := put (shot1 0) [(Fld.FLO_PAIR_EN, 1), (Fld.FLO_PAIRSTAT_ROLE, 2), (Fld.DRV_CTRL_PAIR_MODE, 1), (Fld.DRV_CTRL_STBY, 1)]
    s.isDrag = true ∧ s.observing = false ∧ s.armed 2047 = true ∧ ((s.advance 0).seeVboost 1000).mayFire 2047 = true ∧
    ((after (.slotFire 0 2047 1000) s).openRecs 46).map (fun r => (r.standby, r.slot)) = [(true, 2047)] ∧
    (after (.slotFire 0 2047 1000) s).phase 46 = 0 := by decide +kernel
/-- A shot waits for the boost phase of bank 8. -/
def waiter : Shot := { slot := 2047, cyl := 24, ch := 46, profile := 1, endVal := 200 }
def granting : State := (put sched [(Fld.PRF_ACT_BOOST_T 1, 9), (Fld.PRF_ACT_BOOST_SP 1, 100), (Fld.DRV_BANK_TOL 7, 1)]).setBank 7 { queue := [waiter] }
theorem wit_FiringAndShots_grants : (granting.advance 0).grantable 7 = some waiter ∧ bankOf waiter.ch = 7 ∧
    (after (.boostGrant 0 7) granting).phase 46 = 1 ∧ (after (.boostGrant 0 7) granting).queue 7 = [] ∧
    ((after (.boostGrant 0 7) granting).chan 46).shot = some waiter ∧ (after (.bankWaitTimeout 401 46) granting).queue 7 = [] ∧
    (after (.bankWaitTimeout 400 46) granting).queue 7 = [waiter] := by decide +kernel
theorem wit_FiringAndShots_waits : let s := granting.setBank 7 { queue := [{ waiter with endVal := 0 }] }
    let drag := put { granting with flo := { granting.flo with virtualQ := [waiter] } } [(Fld.FLO_PAIR_EN, 1), (Fld.FLO_PAIRSTAT_ROLE, 2), (Fld.DRV_CTRL_PAIR_MODE, 1)]
    (s.advance 0).isDrag = false ∧ (s.advance 0).endReached { waiter with endVal := 0 } = true ∧ (after (.shotAngleEnd 0 46) s).queue 7 = [] ∧
    (sched.advance 0).grantable 7 = none ∧ drag.isDrag = true ∧ (drag.advance 0).grantable 7 = some waiter ∧
    (after (.boostGrant 0 7) drag).flo.virtualQ = [] := by decide +kernel
/-- Channel 46 in HOLD with a shot that ends at the angle 0, or at time 400. -/
def holdsShot (e : Option Nat) : State := (put sched [(Fld.DRV_CH_STAT_PHASE 46, 4)]).setChan 46
  { shot := some { waiter with endVal := 0, timeEnd := e.isSome }, lowSide := true, endAt := e }
theorem wit_FiringAndShots_ends : (((holdsShot none).advance 0).chan 46).shot.isSome = true ∧ (holdsShot none).occupies 46 = true ∧
    ((holdsShot none).advance 0).atOrBeyond 0 = true ∧ (holdsShot none).queue 7 = [] ∧ (after (.shotAngleEnd 0 46) (holdsShot none)).phase 46 = 5 ∧
    (after (.shotTimeEnd 400 46) (holdsShot (some 400))).phase 46 = 5 ∧ (after (.shotTimeEnd 399 46) (holdsShot (some 400))).phase 46 = 4 := by
  decide +kernel
/-- Channel 46 in a phase of a profile: BOOST to 100 for 2 × 10 ns, PEAK at 50 for 1 × 10 ns, HOLD at 20, END_I 3, END_T 5. -/
def phasing (ph : Nat) (low : Bool) : State := let s := put sched [(Fld.PRF_BOOST_SP 0, 100), (Fld.PRF_BOOST_T 0, 2), (Fld.PRF_PEAK_SP 0, 50), (Fld.PRF_PEAK_T 0, 1),
    (Fld.PRF_HOLD_SP 0, 20), (Fld.PRF_REG_BAND 0, 4), (Fld.PRF_END_END_I 0, 3), (Fld.PRF_END_END_T 0, 5), (Fld.PRF_REG_MIN_ON 0, 0), (Fld.PRF_REG_MIN_OFF 0, 0), (Fld.DRV_CH_STAT_PHASE 46, ph), (Fld.PRF_CH_STAT_SP 46, 50)]
  s.setChan 46 { shot := some waiter, prof := s.shadowProfile 0, lowSide := low }
theorem wit_ProfilePhases_limits : (((phasing 1 true).advance 8).chan 46).prof.limit false 1 = some 8 ∧ (phasing 1 true).occupies 46 = true ∧
    (after (.phaseTimeLimit 8 46) (phasing 1 true)).phase 46 = 2 ∧ (after (.phaseTimeLimit 8 46) (phasing 1 true)).flag (Fld.PRF_CH_STAT_PEAK_MISS 46) = true ∧
    (after (.phaseTimeLimit 7 46) (phasing 1 true)).phase 46 = 1 ∧ (after (.phaseTimeLimit 4 46) (phasing 2 true)).phase 46 = 4 ∧
    codeLe ((((phasing 1 true).advance 0).chan 46).prof.sp 1) ((phasing 1 true).share 46) 3907 = true ∧
    (after (.boostSetpointReached 0 46 3907) (phasing 1 true)).phase 46 = 2 ∧ (after (.boostSetpointReached 0 46 3906) (phasing 1 true)).phase 46 = 1 := by
  decide +kernel
/-- The thresholds about 50 with BAND 4, in 62.5/1.6 mA: 2,109.375 mA and 1,796.875 mA. -/
theorem wit_ProfilePhases_thresholds : ((phasing 4 true).advance 4).mayswitch 46 = true ∧ ((phasing 4 true).advance 4).decides 46 = true ∧
    ((phasing 4 true).advance 4).endDue 46 = false ∧ ((phasing 4 true).advance 4).limitDue 46 = false ∧
    ((after (.thresholdCrossing 4 46 2110) (phasing 4 true)).chan 46).lowSide = false ∧
    ((after (.thresholdCrossing 4 46 2109) (phasing 4 true)).chan 46).lowSide = true ∧
    ((after (.thresholdCrossing 4 46 1796) (phasing 4 false)).chan 46).lowSide = true ∧
    ((after (.thresholdCrossing 4 46 1797) (phasing 4 false)).chan 46).lowSide = false ∧ 625 * ((phasing 5 false).chan 46).prof.endI = 1875 ∧
    (after (.endComplete 0 46 117) (phasing 5 false)).phase 46 = 0 ∧ (after (.endComplete 0 46 118) (phasing 5 false)).phase 46 = 5 ∧
    (after (.endOver 24 46 118) (phasing 5 false)).flag (Fld.PRF_CH_STAT_END_OVER 46) = true ∧
    (after (.endOver 20 46 118) (phasing 5 false)).flag (Fld.PRF_CH_STAT_END_OVER 46) = false := by decide +kernel
/-- The end, then the time limit, then the threshold; and nothing between two decisions. -/
theorem wit_ProfilePhases_order : let full := (phasing 1 true).setChan 46 { (phasing 1 true).chan 46 with endAt := some 8 }
    ((phasing 2 true).advance 5).decides 46 = false ∧ after (.thresholdCrossing 5 46 9999) (phasing 2 true) = (phasing 2 true).advance 5 ∧
    (full.advance 8).endDue 46 = true ∧ (full.advance 8).passed (full.chan 46).phaseAt 8 = true ∧ (after (.phaseTimeLimit 8 46) full).phase 46 = 5 ∧
    (after (.phaseTimeLimit 8 46) full).flag (Fld.PRF_CH_STAT_PEAK_MISS 46) = false ∧ (after (.boostSetpointReached 8 46 3907) full).phase 46 = 5 ∧
    (after (.thresholdCrossing 8 46 0) full).phase 46 = 5 ∧ ((phasing 2 true).advance 4).limitDue 46 = true ∧
    (after (.thresholdCrossing 4 46 2110) (phasing 2 true)).phase 46 = 4 ∧
    ((phasing 4 true).setChan 46 { (phasing 4 true).chan 46 with lowAt := 4, prof := { ((phasing 4 true).chan 46).prof with reg := 255 <<< 8 ||| 255 <<< 16 } }).mayswitch 46
      = false := by decide +kernel
theorem wit_Protections_trips : (after (.overcurrentTrip 0 46 45001) (phasing 2 true)).flag (Fld.DRV_CH_STAT_OC 46) = true ∧
    (after (.overcurrentTrip 0 46 45001) (phasing 2 true)).phase 46 = 5 ∧ (after (.overcurrentTrip 0 46 45001) (phasing 2 true)).flag Fld.SYS_FAULT_DRV = true ∧
    (after (.overcurrentTrip 0 46 45000) (phasing 2 true)).phase 46 = 2 ∧ (after (.hsOvercurrentTrip 0 7 false 50001) (phasing 2 true)).phase 46 = 5 ∧
    (after (.hsOvercurrentTrip 0 7 true 110001) granting).queue 7 = [] ∧
    (after (.currentMismatchTrip 0 46 true 100000) (phasing 2 true)).flag (Fld.DRV_BANKSTAT_SHORT_GND 7) = true ∧
    (after (.currentMismatchTrip 0 46 false 100000) (phasing 2 true)).flag (Fld.DRV_CH_STAT_SHORT_BAT 46) = true ∧
    ((100 * (phasing 2 true).get Fld.DRV_STBY_FOREIGN_THR : Nat) : Int) ≤ 100000 ∧
    (after (.currentMismatchTrip 0 46 true 100000) (put (phasing 2 true) [(Fld.DRV_CTRL_PAIR_MODE, 1)])).flag (Fld.DRV_BANKSTAT_FOREIGN 7) = true ∧
    (after (.currentMismatchTrip 0 46 true 100000) ((put (phasing 2 true) [(Fld.DRV_CTRL_PAIR_MODE, 1)]).setBank 7 { maskUntil := 1 })).flag
      (Fld.DRV_BANKSTAT_FOREIGN 7) = false := by decide +kernel
theorem wit_Protections_pair : let cope := put (phasing 2 true) [(Fld.DRV_CTRL_PAIR_MODE, 1), (Fld.FLO_PAIR_EN, 1), (Fld.FLO_PAIRSTAT_ROLE, 1)]
    (cope.advance 0).isCope = true ∧ (after (.currentMismatchTrip 0 46 true 100000) cope).flag (Fld.DRV_BANKSTAT_FOREIGN 7) = true := by decide +kernel
/-- Bank 8 in a step of its test, with channel 46 enabled for tests; three readings of its six channels. -/
def testing (k : Nat) : State := (put (atTime sched (200 * usTicks)) [(Fld.DRV_CH_CFG_DIAG 42, 1), (Fld.DRV_CH_CFG_DIAG 43, 1), (Fld.DRV_CH_CFG_DIAG 44, 1),
  (Fld.DRV_BANKSTAT_DIAG_RUN 7, 1)]).setBank 7 { testStep := k, reads := [999, 999, 6001] }
def diag : State := put (put (up 6) [(Fld.DRV_CTRL_DIAG_EN, 1), (Fld.DRV_DIAG_PERIOD, 1)]) [(Fld.DRV_CTRL_EN, 1), (Fld.DRV_CTRL_STBY, 0)]
theorem wit_Protections_tests : ((phasing 2 true).advance (4000 * 255)).passed 0 (4000 * (phasing 2 true).get (Fld.DRV_CH_CFG_OPEN_T 46)) = true ∧
    (((phasing 2 true).advance 0).chan 46).openDone = false ∧ 0 < 100 * (phasing 2 true).get Fld.DRV_DIAG_OPEN_I ∧
    (after (.openLoadCheck (4000 * 255) 46 0) (phasing 2 true)).flag (Fld.DRV_CH_STAT_OPEN 46) = true ∧
    ((after (.openLoadCheck (4000 * 255) 46 45000) (phasing 2 true)).chan 46).openDone = true ∧
    ((after (.foreignMaskEnd 5 7) (sched.setBank 7 { maskUntil := 5 })).bank 7).maskUntil = 0 ∧ (diag.advance 0).testDue 7 = true ∧
    ((after (.offStateTest 0 7) diag).bank 7).testStep = 1 ∧ ((testing 1).advance 0).passed 0 (200 * usTicks) = true ∧
    ((after (.offStateStepEnd 0 7 [1, 2, 3, 4, 5, 6]) (testing 1)).bank 7).reads = [1, 2, 3, 4, 5, 6] ∧
    offResult 999 2500 = .openLoad ∧ offResult 999 999 = .shortGnd ∧ offResult 6001 0 = .shortBat ∧
    (after (.offStateStepEnd 0 7 [2500, 999, 0]) (testing 2)).flag (Fld.DRV_CH_STAT_OPEN 42) = true ∧
    (after (.offStateStepEnd 0 7 [2500, 999, 0]) (testing 2)).flag (Fld.DRV_CH_STAT_SHORT_GND 43) = true ∧
    (after (.offStateStepEnd 0 7 [2500, 999, 0]) (testing 2)).flag (Fld.DRV_CH_STAT_SHORT_BAT 44) = true := by decide +kernel
def boosting : State := put (up 6) [(Fld.DRV_CTRL_BOOST_EN, 1), (Fld.DRV_BCFG_VSET, 650), (Fld.DRV_BCFG_BAND, 4), (Fld.DRV_VBOOSTMIN_VMIN, 500)]
def charging : State := put boosting [(Fld.DRV_STAT_CHARGING, 1), (Fld.DRV_STAT_BOOST_LOW, 1)]
theorem wit_BoostAndHeat_converter : ((boosting.advance 0).seeVboost 639).converterOn = true ∧
    (after (.boostChargeStart 0 639) boosting).flag Fld.DRV_STAT_CHARGING = true ∧ (after (.boostChargeStart 0 640) boosting).flag Fld.DRV_STAT_CHARGING = false ∧
    (after (.boostChargeStop 0 650) charging).flag Fld.DRV_STAT_CHARGING = false ∧ (after (.boostChargeStop 0 649) charging).flag Fld.DRV_STAT_CHARGING = true ∧
    (after (.vboostLow 0 499) boosting).flag Fld.DRV_STAT_BOOST_LOW = true ∧ (after (.vboostRecovered 0 500) charging).flag Fld.DRV_STAT_BOOST_LOW = false ∧
    (after (.boostOv 0 1100) boosting).flag Fld.DRV_STAT_BOOST_OV = true ∧ (after (.clampSlow 0 15001) boosting).flag Fld.DRV_STAT_CLAMP_SLOW = true ∧
    (after (.clampSlow 0 15000) boosting).flag Fld.DRV_STAT_CLAMP_SLOW = false ∧
    (after (.boostPhaseFail (40 * usTicks) 1) charging).flag Fld.DRV_STAT_PH1_FAIL = true ∧
    (after (.boostFail (50 * msTicks)) charging).flag Fld.DRV_STAT_BOOST_FAIL = true ∧
    (after (.boostFail (50 * msTicks - 1)) charging).flag Fld.DRV_STAT_BOOST_FAIL = false := by decide +kernel
/-- Channel 46 has driven in the millisecond that ends. -/
def heating : State := { sched with drv := { sched.drv with wasActive := 2 ^ 46 } }
theorem wit_BoostAndHeat_heat : (sched.advance msTicks).tclkRuns = true ∧ (sched.advance msTicks).passed sched.drv.coilAt msTicks = true ∧ sched.isDrag = false ∧
    sched.flag (Fld.DRV_CH_CFG_EN 46) = true ∧ sched.oddOfPair 46 = false ∧ (after (.coilModelUpdate msTicks (List.replicate 48 0)) sched).drv.coilAt = msTicks ∧
    ((after (.coilModelUpdate msTicks (List.replicate 48 1000)) sched).chan 46).tw = (sched.coilStep 46 0).1 ∧
    ((after (.coilModelUpdate msTicks (List.replicate 48 1000)) heating).chan 46).tw = (sched.coilStep 46 1000).1 ∧
    (put sched [(Fld.FLO_PAIR_EN, 1), (Fld.FLO_PAIRSTAT_ROLE, 2)]).isDrag = true ∧
    (after (.ambStale (10000 * msTicks)) sched).flag Fld.DRV_AMB_STALE = true ∧
    (after (.dieThermalChange 0 1 165 70000) (phasing 2 true)).flag (Fld.DRV_DIE_STOP 1) = true ∧
    (after (.dieThermalChange 0 1 165 70000) (phasing 2 true)).get (Fld.DRV_DIE_PAVG 1) = 65535 ∧
    (after (.dieThermalChange 0 1 165 70000) (phasing 2 true)).phase 46 = 5 ∧ dieOf 46 = 1 ∧
    (after (.dieThermalChange 0 1 150 0) (put sched [(Fld.DRV_DIE_STOP 1, 1)])).flag (Fld.DRV_DIE_STOP 1) = false ∧
    (after (.dieThermalChange 0 1 151 0) (put sched [(Fld.DRV_DIE_STOP 1, 1)])).flag (Fld.DRV_DIE_STOP 1) = true := by decide +kernel

-- ── Witness ───────────────────────────────────────────────────────────────────────────────────────────────────────

/-- Channel 47 with one open record, and the last sequence number. -/
def recorded (r : OpenRec) : State := (put (up 6) [(Fld.WIT_CTRL_EN, 1), (Fld.WIT_RECSEQ_SEQ, 2 ^ 32 - 1)]).setOpenRecs 47 [r]
def done47 : OpenRec := { ch := 47, outcome := 2, endAt := some 0, doneAt := some 0 }
theorem wit_WitnessEvents_close : ((recorded { done47 with windowOver := true }).advance 0).recordDue { done47 with windowOver := true } = true ∧
    (after (.recordClose 0 47 []) (recorded { done47 with windowOver := true })).openRecs 47 = [] ∧
    (after (.recordClose 0 47 []) (recorded { done47 with windowOver := true })).get Fld.WIT_RECSEQ_SEQ = 0 ∧
    (after (.recordClose 0 47 []) (recorded { done47 with windowOver := true })).wit.ring.map Prod.fst = [2 ^ 32 - 1] ∧
    (after (.recordClose 0 47 []) (recorded { done47 with windowOver := true })).get (Fld.WIT_CH_STAT_LAST_OUT 47) = 2 ∧
    (after (.recordClose 0 47 []) (recorded { done47 with windowOver := true })).get (Fld.WIT_CH_LAST_OPEN_T 47) = 0xFFFFF ∧
    (after (.recordClose 0 47 []) (recorded done47)).openRecs 47 = [done47] := by decide +kernel
/-- The close window ends CLOSE_END × 0.1 µs after END. -/
theorem wit_WitnessEvents_window : (recorded done47).closeEnd done47 = 40 * (recorded done47).get (Fld.WIT_DET_CW_CLOSE_END 0) ∧
    0 < (recorded done47).closeEnd done47 ∧
    (after (.closeWindowEnd ((recorded done47).closeEnd done47 - 1) 47 []) (recorded done47)).openRecs 47 = [done47] ∧
    (after (.closeWindowEnd ((recorded done47).closeEnd done47) 47 []) (recorded done47)).openRecs 47 = [] ∧
    (after (.closeWindowEnd ((recorded done47).closeEnd done47) 47 []) (recorded done47)).get Fld.WIT_RECSEQ_SEQ = 0 := by decide +kernel
def stand47 : OpenRec := { ch := 47, standby := true }
theorem wit_WitnessEvents_standby : (recorded stand47).inStandby 47 = true ∧ 0 < (recorded stand47).obsWin ∧
    ((after (.obsDriveRise ((recorded stand47).obsWin) 47) (recorded stand47)).openRecs 47).map (·.seen) = [true] ∧
    ((after (.obsDriveRise ((recorded stand47).obsWin + 1) 47) (recorded stand47)).openRecs 47).map (·.seen) = [false] ∧
    (after (.obsDriveRise 0 47) (recorded stand47)).flag (Fld.DRV_CH_STAT_OBS_DRIVE 47) = true ∧
    ((after (.obsDriveFall 40 47) (put (recorded { stand47 with seen := true }) [(Fld.DRV_CH_STAT_OBS_DRIVE 47, 1)])).openRecs 47).map (·.endTime) = [10] ∧
    (after (.obsDriveFall 40 47) (put (recorded { stand47 with seen := true }) [(Fld.DRV_CH_STAT_OBS_DRIVE 47, 1)])).flag
      (Fld.DRV_CH_STAT_OBS_DRIVE 47) = false ∧
    (after (.obsWindowExpiry ((recorded stand47).obsWin) ⟨47, []⟩) (recorded stand47)).openRecs 47 = [] ∧
    (recorded stand47).get (srcCgrp false 154) = 0 ∧
    (after (.obsWindowExpiry ((recorded stand47).obsWin) ⟨47, []⟩) (recorded stand47)).isPend false 154 = true ∧
    ((after (.obsWindowExpiry ((recorded stand47).obsWin - 1) ⟨47, []⟩) (recorded stand47)).openRecs 47).length = 1 := by decide +kernel
/-- A standby record fired at 100 whose drive was seen at 60; the drive now stands. -/
def seen47 : OpenRec := { stand47 with seen := true, firedAt := 100, startedAt := 60 }
theorem wit_WitnessEvents_nearest : (((recorded seen47).advance 139).openRecs 47) = [seen47] ∧ ((recorded seen47).advance 139).now ≤ 100 + (recorded seen47).obsWin ∧
    ((after (.obsDriveRise 139 47) (recorded seen47)).openRecs 47).map (·.startedAt) = [139] ∧
    ((after (.obsDriveRise 140 47) (recorded seen47)).openRecs 47).map (·.startedAt) = [60] ∧ (after (.obsDriveRise 139 47) (recorded seen47)).chans ≠ [] ∧
    (sched.advance 0).inStandby 46 = false ∧ after (.obsDriveRise 0 46) sched = sched.advance 0 ∧ after (.obsDriveFall 0 47) (recorded stand47) = recorded stand47 ∧
    (recorded { done47 with windowOver := true, standby := true, seen := true }).recordDue { done47 with windowOver := true, standby := true, seen := true } = true ∧
    (after (.recordClose 0 47 []) (recorded { done47 with windowOver := true, standby := true, seen := true })).get Fld.WIT_RECSEQ_SEQ = 0 ∧
    ((after (.obsDriveFall 40 47) (put (recorded stand47) [(Fld.DRV_CH_STAT_OBS_DRIVE 47, 1)])).openRecs 47) = [stand47] ∧
    ((recorded stand47).advance 0).wit.snap = none := by decide +kernel
/-- The digest of index 1,023 waits. -/
def digesting : State := (up 6).withWit { (up 6).wit with index := 1022, head := zeros 32, snap := some { ncyc := 1 } }
theorem wit_WitnessEvents_digest : ((digesting.advance 0).digestBytes { ncyc := 1 } 1023).length = 64 ∧
    (after (.digestStore 0 ⟨false, true⟩ ⟨true, false⟩) digesting).wit.index = 1023 ∧
    (after (.digestStore 0 ⟨false, true⟩ ⟨true, false⟩) digesting).bytes (digestAddr 1023) 8 = leBytes 8 1023 ∧
    (after (.digestStore 0 ⟨false, true⟩ ⟨true, false⟩) digesting).bytes (checkAddr 1023) 8 = leBytes 8 1023 ∧
    (after (.digestStore 0 ⟨true, false⟩ ⟨false, true⟩) digesting).wit.snap = none ∧
    (after (.digestStore 0 ⟨false, false⟩ ⟨true, true⟩) digesting).flag Fld.WIT_STAT_CHAIN_FAIL = true ∧
    (after (.digestStore 0 ⟨false, false⟩ ⟨true, true⟩) digesting).wit.gap = true ∧
    (after (.digestStore 0 ⟨true, true⟩ ⟨true, true⟩) (up 6)).wit.index = 0 := by decide +kernel
theorem wit_WitnessEvents_checkpoint : (after (.digestStore 0 ⟨true, true⟩ ⟨false, false⟩) digesting).flag Fld.WIT_STAT_CHAIN_FAIL = true ∧
    (after (.digestStore 0 ⟨true, true⟩ ⟨false, false⟩) digesting).wit.gap = true ∧
    (after (.digestStore 0 ⟨true, true⟩ ⟨false, true⟩) digesting).flag Fld.WIT_STAT_CHAIN_FAIL = false ∧
    (after (.digestStore 0 ⟨true, true⟩ ⟨false, true⟩) digesting).wit.gap = false := by decide +kernel

-- ── Floe ──────────────────────────────────────────────────────────────────────────────────────────────────────────

/-- Node 5, port 3 in a state; nodes 6 and 9 are reached by port 3. -/
def linked (st : Nat) : State := put (up 6) [(Fld.FLO_CTRL_EN, 1), (Fld.FLO_CTRL_HOP_MAX, 2), (Fld.CLK_STAT_FPLL_LOCK, 1), (Fld.FLO_PORT_CTRL_EN 3, 1),
  (Fld.FLO_NODE_NODE_ID, 5), (Fld.FLO_PORT_STAT_STATE 3, st), (Fld.FLO_RT_PORT 0, 3 * 2 ^ 18 + 3 * 2 ^ 12)]
def linkUp : State := put (linked 4) [(Fld.FLO_STAT_UP, 8)]
theorem wit_FloeLinks_ports : (linked 1).portTrains 3 = true ∧ (after (.portAlign 0 3) (linked 1)).portState 3 = 2 ∧
    after (.portAlign 0 3) (linked 0) = linked 0 ∧ (after (.portTrain 0 3) (linked 2)).portState 3 = 3 ∧
    (after (.portUp 0 3 4095) ((linked 3).setFloPort 3 { delays := [1] })).portState 3 = 4 ∧
    (after (.portUp 0 3 4095) ((linked 3).setFloPort 3 { delays := [1] })).get (Fld.FLO_PORT_STAT_PEER 3) = 4095 ∧
    (after (.portUp 0 3 4095) ((linked 3).setFloPort 3 { delays := [1] })).bit Fld.FLO_STAT_UP 3 = true ∧
    (after (.portUp 0 3 4095) (linked 3)).portState 3 = 3 ∧ linkUp.portUp 3 = true ∧
    (after (.portDown 0 3) linkUp).portState 3 = 1 ∧ linkUp.portMay 3 = true ∧ (after (.portDown 0 3) linkUp).bit Fld.FLO_STAT_UP 3 = false ∧
    (after (.portDown 0 3) (linked 3)).portState 3 = 3 ∧
    (after (.delayExchange 0 3 1 2 3 6) (linked 3)).get (Fld.FLO_PORT_DLY_DELAY 3) = 2 ∧
    (after (.delayExchange 0 3 (2 ^ 23) 0 0 0) (linked 3)).get (Fld.FLO_PORT_DLY_DELAY 3) = 0xFFFFF ∧
    (after (.delayExchange (100 * msTicks) 3 8 0 0 0) linkUp).get (Fld.FLO_PORT_DLY_DELAY 3) = 1 ∧
    (after (.delayExchange (100 * msTicks - 1) 3 8 0 0 0) linkUp).get (Fld.FLO_PORT_DLY_DELAY 3) = 0 := by decide +kernel
/-- A CMD cell from node 9 to a node. -/
def cellTo (dst hops : Nat) : Cell := { dst := dst, src := 9, typ := 4, hops := hops, prio := 3, seq := 0, mc := false, bc := false, payload := zeros 52 }
def queued : State := linkUp.setFloPort 3 { queue := [cellTo 1 0, { cellTo 2 0 with prio := 7 }] }
theorem wit_FloeLinks_cells : (queued.advance 0).floeOn = true ∧ nextOut ((queued.advance 0).floPort 3).queue = some 1 ∧ queued.flo.copyQ = [] ∧
    ((after (.cellForward 0 3) queued).floPort 3).queue = [cellTo 1 0] ∧ ((after (.cellForward 0 3) queued).floPort 3).busyUntil = 205 ∧
    (linkUp.advance 0).bcEntry 4095 = none ∧ (after (.bcEntryAge 0 4095) linkUp).bcEntry 4095 = none ∧
    moveCorr (cellTo 5 0) ((linkUp.get (Fld.FLO_PORT_DLY_DELAY 3) : Int) - (16 * 0 : Nat)) = cellTo 5 0 ∧
    (linkUp.advance 0).takes (cellTo 5 0) = true ∧ (linkUp.advance 0).hopLimit (cellTo 9 2) = true ∧
    (linkUp.advance 0).hopLimit (cellTo 9 1) = false ∧ linkUp.routeOf 9 = 3 ∧ (after (.cellForward 0 3) linkUp) = linkUp.advance 0 ∧
    ((after (.cellForward 0 3) queued).floPort 3).sent = cellBytes { cellTo 2 0 with prio := 7 } := by decide +kernel
theorem wit_FloeLinks_bytes : (cellBytes (cellTo 5 0)).length = 64 ∧ readCell (cellBytes (cellTo 5 0)) = cellTo 5 0 ∧ cellCrcOk (cellBytes (cellTo 5 0)) = true ∧
    cellLen (cellBytes (cellTo 5 0)) = 52 ∧ cellCrcOk (zeros 64) = false := by decide +kernel
/-- The 64 bytes of a cell arrive on port 3. -/
noncomputable def arrives (b : List Byte) : Instr := .cellArrival 0 3 (b.take 60) (BitVec.ofNat 32 (leAt b 60 4))
theorem wit_FloeLinks_arrival : (after (arrives (zeros 64)) linkUp).get (Fld.FLO_PORT_ERR_CRC 3) = 1 ∧
    (after (arrives (zeros 64)) linkUp).get Fld.FLO_DROP_CRC = 1 ∧ after (arrives (zeros 64)) (linked 3) = linked 3 ∧
    (after (arrives (cellBytes (cellTo 5 0))) linkUp).flo.inq = [(3, cellTo 5 0)] ∧
    (after (arrives (cellBytes (cellTo 9 2))) linkUp).get Fld.FLO_DROP_HOPS = 1 ∧
    ((after (arrives (cellBytes (cellTo 9 1))) linkUp).floPort 3).queue = [cellTo 9 2] := by decide +kernel
/-- 64 bytes whose LEN is 53, with the right CRC. -/
def long : List Byte := let b := leBytes 8 (53 * 2 ^ 52 + 4 * 2 ^ 24) ++ zeros 52; b ++ leBytes 4 (crc32c b).toNat
theorem wit_FloeLinks_refused : long.length = 64 ∧ cellCrcOk long = true ∧ cellLen long = 53 ∧
    (after (arrives long) linkUp).get Fld.FLO_DROP_CRC = 1 ∧
    (after (arrives (cellBytes { cellTo 5 0 with typ := 8 })) linkUp).get Fld.FLO_DROP_HOPS = 1 ∧
    linkLocal { cellTo 5 0 with typ := 1, payload := [2] } = true ∧
    (after (arrives (cellBytes { cellTo 5 0 with typ := 1, payload := [2] })) linkUp).flo.inq = [] := by decide +kernel
/-- A broadcast cell with sequence number 8 and its port 0 up too; the sender's last one was `q`. -/
def bc8 : Cell := { cellTo 4095 0 with bc := true, seq := 8 }
def seen9 (q : Nat) : State := let s := put linkUp [(Fld.FLO_PORT_CTRL_EN 0, 1), (Fld.FLO_PORT_STAT_STATE 0, 4)]
  s.withFlo { s.flo with bcSeen := [(9, q + 1, 0)] }
theorem wit_FloeLinks_broadcast : ((seen9 8).advance 0).bcAccepts bc8 = false ∧ after (arrives (cellBytes bc8)) (seen9 8) = ((seen9 8).advance 0).settle ∧
    ((seen9 7).advance 0).bcAccepts bc8 = true ∧ ((seen9 7).advance 0).hopLimit bc8 = false ∧ (seen9 7).portUp 0 = true ∧
    (after (arrives (cellBytes bc8)) (seen9 7)).flo.inq = [(3, bc8)] ∧
    ((after (arrives (cellBytes bc8)) (seen9 7)).floPort 0).queue = [{ bc8 with hops := 1 }] ∧
    spGet (fun _ => (0, 0)) (seen9 7).flo.bcSeen 9 = (7 + 1, 0) ∧ (after (.bcEntryAge (100 * msTicks) 9) (seen9 7)).flo.bcSeen = [] ∧
    after (.bcEntryAge (100 * msTicks - 1) 9) (seen9 7) = (seen9 7).advance (100 * msTicks - 1) := by decide +kernel

/-- A cell from node 6 to node 5. -/
def cell0 : Cell := { dst := 5, src := 6, typ := 1, hops := 0, prio := 7, seq := 0, mc := false, bc := false, payload := [1] }
def cell6 (typ : Nat) (p : List Byte) : Cell := { cell0 with typ := typ, payload := p }
def receiving (s : State) (c : Cell) : State := s.withFlo { s.flo with inq := [(3, c)] }
def master : State := put linkUp [(Fld.FLO_DOM_MCAND, 1), (Fld.FLO_STAT_DOM_MASTER, 1), (Fld.FLO_DMASTER_VALID, 1), (Fld.FLO_DMASTER_MASTER, 5)]
def sync0 : Cell := cell6 1 (leBytes 8 1 ++ zeros 12)
theorem wit_DomainTime_sync : (master.advance master.syncPeriod).passed master.flo.syncSentAt master.syncPeriod = true ∧ 0 < master.syncPeriod ∧
    spGet (fun _ => 0) (after (.syncSend master.syncPeriod) master).flo.seqOut 1 = 1 ∧
    spGet (fun _ => 0) (after (.syncSend (master.syncPeriod - 1)) master).flo.seqOut 1 = 0 ∧
    (((receiving master sync0).advance 0).takeCell 1 isSyncCell).isSome = true ∧
    (after (.syncCellRx 0) (receiving master sync0)).domMaster = true ∧ (after (.syncCellRx 0) (receiving master sync0)).flo.inq = [] ∧
    (after (.syncCellRx 0) (receiving (put master [(Fld.FLO_STAT_DOM_MASTER, 0)]) sync0)).get Fld.FLO_DMASTER_MASTER = 5 ∧
    (after (.syncCellRx 0) (receiving (put master [(Fld.FLO_NODE_NODE_ID, 7)]) sync0)).domMaster = false ∧
    (after (.syncCellRx 0) (receiving (put master [(Fld.FLO_NODE_NODE_ID, 7), (Fld.FLO_DMASTER_MASTER, 7)]) sync0)).get Fld.FLO_DMASTER_MASTER = 6 ∧
    (after (.syncCellRx 0) (receiving (linkUp.withFlo { linkUp.flo with syncGood := 3 }) sync0)).flag Fld.FLO_STAT_DOM_LOCK = true ∧
    (after (.syncCellRx 0) (receiving linkUp sync0)).flag Fld.FLO_STAT_DOM_LOCK = false := by decide +kernel
def follows : State := put linkUp [(Fld.FLO_STAT_DOM_LOCK, 1), (Fld.FLO_DMASTER_VALID, 1), (Fld.FLO_DMASTER_MASTER, 6), (Fld.FLO_DOM_MCAND, 1),
  (Fld.FLO_DOM_DAGREE, 9), (Fld.TRK_STAT_STATE 0, 5), (Fld.TRK_STAT_SHOT_OK 0, 1)]
/-- An EDGE cell whose A is 10 and T_NEXT 1. -/
def edge10 : Cell := cell6 1 (zeros 16 ++ leBytes 8 (10 * 2 ^ 32) ++ zeros 8 ++ leBytes 4 1)
theorem wit_DomainTime_lock : (∀ x : Fin 2, follows.get (Fld.TRK_CTRL_SRC x) ≠ 1) ∧
    (after (.domLockLoss (10 * follows.syncPeriod)) follows).flag Fld.FLO_STAT_DOM_LOCK = false ∧
    (after (.domLockLoss (10 * follows.syncPeriod)) follows).flag Fld.FLO_DMASTER_VALID = false ∧
    (after (.domLockLoss (10 * follows.syncPeriod - 1)) follows).flag Fld.FLO_STAT_DOM_LOCK = true ∧ follows.candidateMaster = true ∧
    (after (.masterClaim (3 * follows.syncPeriod)) follows).domMaster = true ∧
    (after (.masterClaim (3 * follows.syncPeriod)) follows).get Fld.FLO_DMASTER_MASTER = 5 ∧
    (after (.masterClaim (3 * follows.syncPeriod - 1)) follows).domMaster = false := by decide +kernel
theorem wit_DomainTime_edges : (((receiving follows edge10).advance 0).takeCell 1 (fun c => cellSub c == 0)).isSome = true ∧
    (follows.advance 0).outOk = true ∧ (follows.advance 0).out = 0 ∧
    (after (.edgeCellRx 0) (receiving follows edge10)).flo.edgeTNext = 1 ∧ (after (.edgeCellRx 0) (receiving follows edge10)).flo.edgeSeen = true ∧
    (after (.edgeCellRx 0) (receiving follows edge10)).word Reg.FLO_DDIFF = 10 ∧
    (after (.edgeCellRx 0) (receiving follows edge10)).flag Fld.FLO_STAT_DOM_DIS = false ∧
    (after (.edgeCellRx 0) (receiving (follows.withFlo { follows.flo with disRun := 2 }) edge10)).flag Fld.FLO_STAT_DOM_DIS = true ∧
    (after (.edgeCellRx 0) (receiving (put (follows.withFlo { follows.flo with disRun := 2 }) [(Fld.FLO_DOM_DAGREE, 10)]) edge10)).flag
      Fld.FLO_STAT_DOM_DIS = false ∧
    (after (.edgeCellRx 0) (receiving master edge10)).flo.edgeSeen = false ∧
    (after (.edgeCellMissing 2) (follows.withFlo { follows.flo with edgeSeen := true, edgeTNext := 1 })).flo.edgeMissed = 1 ∧
    (after (.edgeCellMissing 1) (follows.withFlo { follows.flo with edgeSeen := true, edgeTNext := 1 })).flo.edgeMissed = 0 := by decide +kernel
theorem wit_DomainTime_idle : after (.syncSend 0) linkUp = linkUp ∧ linkUp.domMaster = false ∧ linkUp.candidateMaster = false ∧
    after (.masterClaim 0) linkUp = linkUp ∧ linkUp.flo.edgeSeen = false ∧ after (.edgeCellMissing 0) linkUp = linkUp ∧
    (((receiving (put master [(Fld.FLO_NODE_NODE_ID, 7)]) sync0).advance 5).takeCell 1 isSyncCell).isSome = true ∧
    (after (.syncCellRx 5) (receiving (put master [(Fld.FLO_NODE_NODE_ID, 7)]) sync0)).flo.lowerAt = 5 ∧
    (put master [(Fld.FLO_STAT_DOM_MASTER, 0)]).get Fld.FLO_DMASTER_MASTER < sync0.src ∧
    (after (.syncCellRx 0) (receiving (put master [(Fld.FLO_STAT_DOM_MASTER, 0)]) sync0)).flo.syncMaster = 0 := by decide +kernel

-- ── The pair ──────────────────────────────────────────────────────────────────────────────────────────────────────

/-- A member of the pair of nodes 5 and 6, in a role. -/
def member (r : Nat) : State := put linkUp [(Fld.FLO_PAIR_EN, 1), (Fld.FLO_PAIR_PARTNER, 6), (Fld.FLO_PAIRSTAT_ROLE, r), (Fld.DRV_CTRL_PAIR_MODE, 1), (Fld.FLO_PAIRT_HB_P, 10),
  (Fld.FLO_PAIRT_HB_MISS, 3), (Fld.FLO_PAIRSTAT_CFG_MATCH, 1), (Fld.FLO_PAIRT_CMT_WAIT, 0)]
/-- A HEART cell of a cope in RUNNING, ready, with the configuration hash 0. -/
def heart (b1 : Byte) : Cell := cell6 3 ([0x61, b1] ++ zeros 14)
theorem wit_PairRoles_heart : (member 1).paired = true ∧ (after (.heartSend 2000) (member 1)).flo.hbSentAt = 2000 ∧
    spGet (fun _ => 0) (after (.heartSend 2000) (member 1)).flo.seqOut 3 = 1 ∧ (after (.heartSend 1999) (member 1)).flo.hbSentAt = 0 ∧
    (((receiving (member 2) (heart 0x1F)).advance 0).takeCell 3 (fun _ => true)).isSome = true ∧
    (after (.heartRx 0) (receiving (member 2) (heart 0x1F))).get Fld.FLO_PAIRSTAT_P_STATE = 6 ∧
    (after (.heartRx 0) (receiving (member 2) (heart 0x1F))).get Fld.FLO_PAIRSTAT_P_CALV = 15 ∧
    (after (.heartRx 0) (receiving (member 2) (heart 0x1F))).flag Fld.FLO_PAIRSTAT_P_READY = true ∧
    (member 0).mayForm = true ∧ (after (.heartRx 0) (receiving (member 0) (heart 0))).role = 2 ∧
    (after (.hbLost 6000) (member 1)).flag Fld.FLO_PAIRSTAT_HB_LOST = true ∧ (after (.hbLost 6000) (member 1)).flag Fld.SYS_FAULT_FLO = true ∧
    (after (.hbLost 5999) (member 1)).flag Fld.FLO_PAIRSTAT_HB_LOST = false ∧
    (after (.cfgMatchTimeout (1000 * msTicks + 1)) (put (member 1) [(Fld.FLO_PAIRSTAT_CFG_MATCH, 0)])).flag Fld.SYS_FAULT_FLO = true ∧
    (after (.cfgMatchTimeout (1000 * msTicks)) (put (member 1) [(Fld.FLO_PAIRSTAT_CFG_MATCH, 0)])).flag Fld.SYS_FAULT_FLO = false := by decide +kernel
/-- Two copes: the other node is 6; this one drives nothing, or channel 46. -/
def copes (own ph : Nat) : State := receiving (put (member 1) [(Fld.FLO_NODE_NODE_ID, own), (Fld.DRV_CH_STAT_PHASE 46, ph)]) { heart 0 with dst := own }
theorem wit_PairRoles_copes : ((copes 7 0).advance 0).isCope = true ∧ (copes 7 0).drivesNothing = true ∧ (copes 7 0).higherNode = true ∧
    (copes 5 0).higherNode = false ∧ (copes 7 4).drivesNothing = false ∧ (copes 7 0).flo.handover = none ∧
    (after (.heartRx 0) (copes 7 0)).role = 2 ∧ (after (.heartRx 0) (copes 5 0)).role = 1 ∧ (after (.heartRx 0) (copes 5 0)).flo.handover = none ∧
    (after (.heartRx 0) (copes 7 4)).flo.handover.map (·.giving) = some true ∧
    (after (.heartRx 0) (copes 5 4)).flo.handover.map (·.giving) = some false := by decide +kernel
theorem wit_PairRoles_idle : linkUp.paired = false ∧ after (.heartSend 0) linkUp = linkUp ∧ linkUp.mayForm = false ∧ after (.copeClaim 0) linkUp = linkUp ∧
    State.reset.tclkRuns = false ∧ after (.arbLineChange 0 ⟨true, 0⟩) State.reset = State.reset.advance 0 := by decide +kernel
def freed : State := put (member 0) [(Fld.FLO_PAIRSTAT_ARB_LINE, 0), (Fld.FLO_PAIR_PREF_COPE, 0)]
theorem wit_PairRoles_arb : (member 1).tclkRuns = true ∧ (after (.arbLineChange 3 ⟨false, 9⟩) (member 1)).flo.freeAbove = 9 ∧
    (after (.arbLineChange 3 ⟨false, 9⟩) (member 1)).flo.arbFreeAt = 3 ∧ (after (.arbLineChange 3 ⟨true, 0⟩) (member 1)).flag Fld.FLO_PAIRSTAT_ARB_LINE = true ∧
    (after (.arbLineChange 3 ⟨true, 0⟩) freed).role = 2 ∧ (after (.arbLineChange 3 ⟨true, 0⟩) freed).flag Fld.DRV_CTRL_STBY = true ∧
    (after (.arbWatchdogExpiry 0) (put (member 1) [(Fld.FLO_PAIRSTAT_ARB_OWN, 1)])).flag Fld.FLO_PAIRSTAT_ARB_OWN = false ∧ freed.mayForm = true ∧
    (after (.copeClaim (4 * msTicks)) freed).role = 1 ∧ (after (.copeClaim (4 * msTicks)) freed).flag Fld.FLO_PAIRSTAT_ARB_OWN = true ∧
    (after (.copeClaim (4 * msTicks - 1)) freed).role = 0 ∧
    (after (.copeClaim (2 * msTicks)) (put freed [(Fld.FLO_PAIR_PREF_COPE, 1)])).role = 1 := by decide +kernel

/-- A drag with a MIRROR cell of its cope; cylinder 24 has the last two slots. -/
def drag : State := put (member 2) [(Fld.SCH_CYL_C_SLOT_BASE 23, 2046), (Fld.SCH_CYL_C_SLOT_CNT 23, 2), (Fld.SCH_CYL_A_EN 23, 1), (Fld.SCH_CTRL_EN, 1),
  (Fld.FLO_PAIRSTAT_MIRROR_SYNC, 1)]
def mirrors (p : List Byte) : State := receiving drag (cell6 2 p)
def descs (sub : Byte) : List Byte := [sub, 24] ++ leBytes 2 0 ++ wordBytes [1, 2, 3, 4, 5, 6, 7, 8, 9, 10, 11, 12]
theorem wit_Mirroring_slots : (((mirrors (descs 1)).advance 0).takeMirror 1).isSome = true ∧ drag.slotCnt 23 = 2 ∧
    (after (.mirrorSlot 0) (mirrors (descs 1))).word (Reg.SCH_SHADOW 2047 3) = 8 ∧
    (after (.mirrorSlot 0) (mirrors (descs 1))).word (Reg.SCH_SHADOW 2046 0) = 1 ∧
    (((mirrors (descs 0xC)).advance 0).takeMirror 0xC).isSome = true ∧
    (after (.mirrorActive 0) (mirrors (descs 0xC))).word (Reg.SCH_ACTIVE 2047 3) = 8 ∧
    (((mirrors ([2, 0, 0, 0] ++ leBytes 4 (2 ^ 23))).advance 0).takeMirror 2).isSome = true ∧
    (after (.mirrorTxn 0) (mirrors ([2, 0, 0, 0] ++ leBytes 4 (2 ^ 23)))).txnOpen 23 = true ∧
    (after (.mirrorTxn 0) (put (mirrors ([2, 1, 0, 0] ++ leBytes 4 (2 ^ 23))) [(Fld.SCH_TXN_OPEN, 2 ^ 23)])).txnOpen 23 = false := by decide +kernel
theorem wit_Mirroring_txn : (after (.mirrorTxn 0) (put (mirrors ([2, 2, 0, 0] ++ leBytes 4 (2 ^ 23))) [(Fld.SCH_TXN_OPEN, 2 ^ 23)])).txnOpen 23 = false ∧
    (((mirrors [2, 3]).advance 0).takeMirror 2).isSome = true ∧ (after (.mirrorTxn 0) (mirrors [2, 3])).txnOpen 23 = false := by decide +kernel
def commitCell (crc : Nat) : List Byte := [3, 24, 1, 0] ++ zeros 4 ++ leBytes 4 crc
/-- The CRC-32C of two slots of zeros. -/
def crc32 : Nat := (crc32c (zeros 32)).toNat
theorem wit_Mirroring_commit : (((mirrors (commitCell crc32)).advance 0).takeMirror 3).isSome = true ∧ drag.commitsByCell = true ∧ drag.schOn = true ∧
    (after (.mirrorCommit 0) (mirrors (commitCell crc32))).flag Fld.FLO_PAIRSTAT_MIRROR_MISMATCH = false ∧
    (after (.mirrorCommit 0) (mirrors (commitCell crc32))).flag Fld.FLO_PAIRSTAT_MIRROR_SYNC = true ∧
    (after (.mirrorCommit 0) (mirrors (commitCell (crc32 + 1)))).flag Fld.FLO_PAIRSTAT_MIRROR_MISMATCH = true ∧
    (after (.mirrorCommit 0) (mirrors (commitCell (crc32 + 1)))).flag Fld.FLO_PAIRSTAT_MIRROR_SYNC = false ∧
    (put drag [(Fld.FLO_PAIRSTAT_MIRROR_SYNC, 0)]).commitsByCell = false := by decide +kernel
theorem wit_Mirroring_cells : (((mirrors ([4, 47, 0, 0, 0x41] ++ zeros 23)).advance 0).takeMirror 4).isSome = true ∧
    ((after (.mirrorShot 0) (mirrors ([4, 47, 0, 0, 0x41] ++ zeros 23))).shotCellOf 47).map (·.phase) = some 4 ∧
    ((after (.mirrorShot 0) (mirrors ([4, 47, 0, 0, 0x0F] ++ zeros 23))).shotCellOf 47) = none ∧
    (after (.mirrorCorr 0) (mirrors [5, 47, 0xFF, 0x7F])).get (Fld.WIT_CH_CORR_D 47) = 0x7FFF ∧
    ((after (.mirrorTherm 0) (mirrors ([6, 42, 0, 0] ++ zeros 20 ++ leBytes 2 300 ++ leBytes 2 65535))).chan 47).tw = 30000000000 ∧
    ((after (.mirrorTherm 0) (mirrors ([6, 42, 0, 0] ++ zeros 20 ++ leBytes 2 300 ++ leBytes 2 65535))).chan 47).tb = -100000000 ∧
    (after (.mirrorDem 0) (mirrors ([7, 0, 0, 0] ++ wordBytes [1, 2, 3, 4, 0xFFFFFFFF]))).word Reg.SCH_DEM3 = 4 ∧
    (after (.mirrorDem 0) (mirrors ([7, 0, 0, 0] ++ wordBytes [1, 2, 3, 4, 0xFFFFFFFF]))).sch.govI = -1 ∧
    (after (.syncEnd 0) (put (mirrors ([0xD, 0, 0, 0] ++ leBytes 4 0)) [(Fld.FLO_PAIRSTAT_MIRROR_SYNC, 0)])).flag Fld.FLO_PAIRSTAT_MIRROR_SYNC = true ∧
    (after (.syncEnd 0) (mirrors ([0xD, 0, 0, 0] ++ leBytes 4 1))).flag Fld.FLO_PAIRSTAT_MIRROR_SYNC = false := by decide +kernel
def waiting24 : State := drag.withFlo { drag.flo with latchWait := [(23, some 1)] }
theorem wit_Mirroring_copy : (member 1).isCope = true ∧ (after (.thermMirrorSend (100 * msTicks)) (member 1)).flo.thermAt = 100 * msTicks ∧
    spGet (fun _ => 0) (after (.thermMirrorSend (100 * msTicks)) (member 1)).flo.seqOut 2 = 8 ∧
    (after (.thermMirrorSend (100 * msTicks - 1)) (member 1)).flo.thermAt = 0 ∧
    (((receiving (member 1) (cell6 2 [0xB])).advance 0).takeCell 2 (fun c => byteAt c.payload 0 == 0xB)).isSome = true ∧
    (after (.syncReq 0) (receiving (member 1) (cell6 2 [0xB]))).flo.copyQ ≠ [] ∧ (after (.syncReq 0) (mirrors [0xB])).flo.copyQ = [] ∧
    spGet (fun _ => none) (waiting24.advance usTicks).flo.latchWait 23 = some (0 + 1) ∧ waiting24.isDrag = true ∧
    (after (.cmtWaitExpiry usTicks 23) waiting24).flag Fld.FLO_PAIRSTAT_COMMIT_LOCAL = true ∧
    (after (.cmtWaitExpiry (usTicks - 1) 23) waiting24).flag Fld.FLO_PAIRSTAT_COMMIT_LOCAL = false := by decide +kernel

/-- T_H of 2,000/16 ticks, and a drag that is ready. -/
def th2000 : List Byte := zeros 7 ++ leBytes 8 2000
def ready : State := put drag [(Fld.DRV_CTRL_EN, 1)]
def requests (s : State) (h : Handover) : State := s.withFlo { s.flo with handover := some h }
def asked : State := requests (member 1) { reason := 1, th := 2000, giving := true }
theorem wit_Handovers_request : ((receiving ready (cell6 2 (8 :: th2000))).advance 0).takeReady = true ∧
    ((ready.advance 0).judgeRequest 2000) = 0 ∧ ((ready.advance 0).judgeRequest 1279) = 2 ∧ ((drag.advance 0).judgeRequest 2000) = 1 ∧
    (after (.hoReq 0) (receiving ready (cell6 2 (8 :: th2000)))).flo.handover = some { reason := 0, th := 2000, accepted := true } ∧
    (after (.hoReq 0) (mirrors (8 :: th2000))).flo.handover = none ∧ ((asked.advance 0).openRequest).isSome = true ∧
    (after (.hoAcc 0) (receiving asked (cell6 2 (9 :: th2000)))).flo.handover.map (·.accepted) = some true ∧
    (after (.hoAcc 125) (receiving asked (cell6 2 (9 :: th2000)))).flo.handover.map (·.accepted) = some false ∧
    (after (.hoAcc 124) (receiving asked (cell6 2 (9 :: th2000)))).flo.handover.map (·.accepted) = some true ∧
    (after (.hoRef 0) (receiving asked (cell6 2 [0xA, 3]))).flo.handover = none ∧
    (after (.hoRef 0) (receiving asked (cell6 2 [0xA, 3]))).get Fld.FLO_HOLAST_REF = 3 ∧
    (after (.hoRef 0) (receiving asked (cell6 2 [0xA, 3]))).get Fld.FLO_PAIR_CNT_REFUSED = 1 ∧
    (after (.handoverNotAccepted 125) asked).flo.handover = none ∧ (after (.handoverNotAccepted 124) asked).flo.handover.isSome = true := by
  decide +kernel
theorem wit_Handovers_refusals : let off := ready.withFlo { ready.flo with holdoffUntil := 1 }
    (off.advance 0).judgeRequest 2000 = 3 ∧ ((after (.hoReq 0) (receiving ready (cell6 2 (8 :: zeros 7 ++ leBytes 8 1279)))).floPort 3).queue.map
      (fun c => c.payload.take 2) = [[0xA, 2]] ∧ ((after (.hoReq 0) (mirrors (8 :: th2000))).floPort 3).queue.map (fun c => c.payload.take 2) = [[0xA, 1]] ∧
    (ready.advance 0).openRequest = none ∧ after (.handoverNotAccepted 0) ready = ready.advance 0 ∧
    (after (.hoAcc 0) (receiving (member 1) (cell6 2 (9 :: th2000)))).flo.handover = none ∧
    (after (.hoRef 0) (receiving (member 1) (cell6 2 [0xA, 3]))).get Fld.FLO_PAIR_CNT_REFUSED = 0 := by decide +kernel
theorem wit_Handovers_quench : let e := put asked [(Fld.SYS_STATE_STATE, 8), (Fld.DRV_CH_STAT_PHASE 46, 4)]
    let c := receiving e (cell6 2 [0xA, 3])
    (c.advance 0).st = 8 ∧ (c.advance 0).openRequest ≠ none ∧ (after (.hoRef 0) c).get Fld.FLO_PAIR_CNT_REFUSED = 1 ∧ (after (.hoRef 0) c).phase 46 = 5 ∧
    (after (.handoverNotAccepted 125) e).phase 46 = 5 := by decide +kernel
def gives (k : Nat) : Handover := { reason := 5, th := 2000, accepted := true, step := k, giving := true }
def takesOver (k : Nat) : Handover := { reason := 5, th := 2000, accepted := true, step := k, giving := false }
theorem wit_Handovers_steps : ((requests (member 1) (gives 0)).advance 85).handoverAt true 0 (-640) = some (gives 0) ∧
    ((requests (member 1) (gives 0)).advance 84).handoverAt true 0 (-640) = none ∧
    (after (.handoverHold ⟨85, 0⟩) (requests (member 1) (gives 0))).flo.handover = some (gives 1) ∧
    ((requests ready (takesOver 0)).advance 85).handoverAt false 0 (-640) = some (takesOver 0) ∧
    (after (.handoverHold ⟨85, 0⟩) (requests ready (takesOver 0))).flo.handover = some (takesOver 1) ∧
    ((requests ready (takesOver 1)).advance 125).handoverAt false 1 0 = some (takesOver 1) ∧
    (after (.handoverAssert 125) (requests ready (takesOver 1))).flag Fld.FLO_PAIRSTAT_ARB_OWN = true ∧
    (after (.handoverAssert 124) (requests ready (takesOver 1))).flag Fld.FLO_PAIRSTAT_ARB_OWN = false ∧
    ((requests (put (member 1) [(Fld.FLO_PAIRT_HO_OVL, 1)]) (gives 1)).advance 129).handoverAt true 1 64 = some (gives 1) ∧
    (after (.handoverRelease 129) (requests (put (member 1) [(Fld.FLO_PAIRT_HO_OVL, 1)]) (gives 1))).role = 2 ∧
    (after (.handoverRelease 129) (requests (put (member 1) [(Fld.FLO_PAIRT_HO_OVL, 1)]) (gives 1))).get Fld.FLO_PAIR_CNT_HANDOVERS = 1 ∧
    (after (.handoverRelease 128) (requests (put (member 1) [(Fld.FLO_PAIRT_HO_OVL, 1)]) (gives 1))).role = 1 ∧
    ((requests (put ready [(Fld.FLO_PAIRT_HO_OVL, 1)]) (takesOver 2)).advance 209).handoverAt false 2 1344 = some (takesOver 2) ∧
    (after (.handoverRegulate 209) (requests (put ready [(Fld.FLO_PAIRT_HO_OVL, 1)]) (takesOver 2))).role = 1 ∧
    (after (.handoverRegulate 208) (requests (put ready [(Fld.FLO_PAIRT_HO_OVL, 1)]) (takesOver 2))).role = 2 ∧
    (after (.holdoffExpiry 9) (drag.withFlo { drag.flo with holdoffUntil := 9 })).flo.holdoffUntil = 0 ∧
    (after (.holdoffExpiry 8) (drag.withFlo { drag.flo with holdoffUntil := 9 })).flo.holdoffUntil = 9 := by decide +kernel
theorem wit_Handovers_cope : ((requests (put (member 1) [(Fld.DRV_CH_STAT_PHASE 46, 4)]) (takesOver 0)).advance 85).handoverAt false 0 (-640) = some (takesOver 0) ∧
    ((after (.handoverHold ⟨85, 0⟩) (requests (put (member 1) [(Fld.DRV_CH_STAT_PHASE 46, 4)]) (takesOver 0))).chan 46).held = true ∧
    (ready.advance 0).handoverAt false 1 0 = none ∧ after (.handoverAssert 0) ready = ready.advance 0 ∧
    (ready.advance 0).handoverAt true 1 ready.overlap = none ∧ after (.handoverRelease 0) ready = ready.advance 0 ∧
    after (.handoverRegulate 0) ready = ready.advance 0 := by decide +kernel

/-- One voter, node 6 in slot 0, heard with AUTH and epoch 7; the tracker is stopped. -/
def voters : State := let s := put linkUp [(Fld.FLO_SYS_VOTER, 0), (Fld.FLO_SYS_NVOTER, 1), (Fld.FLO_VLIST_ID_EVEN 0, 6), (Fld.FLO_SYS_VOTE_P, 1),
    (Fld.FLO_SYSSTAT_AUTHORITY, 1)]
  s.withFlo { s.flo with voteAt := [(0, some 0)], voteSrc := [(0, 6)], voteAuth := 1, voteEpoch := [(0, 7)] }
def voting : State := put voters [(Fld.FLO_SYS_VOTER, 1), (Fld.FLO_SYS_VSLOT, 15)]
theorem wit_VotersAndPackets_votes : 0 < voting.votePeriod ∧ (after (.voteSend voting.votePeriod) voting).flo.voteSentAt = voting.votePeriod ∧
    spGet (fun _ => 0) (after (.voteSend voting.votePeriod) voting).flo.seqOut 7 = 1 ∧
    (after (.voteSend (voting.votePeriod - 1)) voting).flo.voteSentAt = 0 ∧ voters.comRuns = true ∧ voters.voterId 0 = 6 ∧
    spGet (fun _ => 0) (after (.voteCellRx 1) (receiving voters (cell6 7 [0x10, 0, 0, 0, 9]))).flo.voteEpoch 0 = 9 ∧
    (after (.voteCellRx 1) (receiving voters (cell6 7 [0x10, 0, 0, 0, 9]))).bit Fld.FLO_REACH_REACH 0 = true ∧
    spGet (fun _ => 0) (after (.voteCellRx 1) (receiving voters (cell6 7 [0x11, 0, 0, 0, 9]))).flo.voteEpoch 0 = 7 ∧
    spGet (fun _ => none) (after (.voterReachTimeout (3 * voters.votePeriod) 0) voters).flo.voteAt 0 = none ∧
    spGet (fun _ => none) (after (.voterReachTimeout (3 * voters.votePeriod - 1) 0) voters).flo.voteAt 0 = some 0 := by decide +kernel
def running6 : State := put voters [(Fld.TRK_STAT_STATE 0, 4), (Fld.FLO_SYSSTAT_ADOPT_PEND, 1)]
theorem wit_VotersAndPackets_settings : (((receiving voters (cell6 6 [])).advance 0).takeCell 6 (fun _ => true)).isSome = true ∧
    (voters.advance 0).epochOf 6 = some 7 ∧ (voters.advance 0).epochOf 5 = none ∧ voters.flo.adopt = [] ∧ voters.stopped = true ∧
    (after (.routeCellRx 0) (receiving (put voters [(Fld.FLO_EPOCH_EPOCH, 7)]) (cell6 6 []))).get Fld.FLO_EPOCH_EPOCH = 7 ∧
    (after (.routeCellRx 0) (receiving (put voters [(Fld.FLO_SYSSTAT_AUTHORITY, 0)]) (cell6 6 []))).get Fld.FLO_EPOCH_EPOCH = 0 ∧
    running6.stopped = false ∧ (after (.routeCellRx 0) (receiving running6 (cell6 6 []))).flo.adoptEpoch = 7 ∧
    (after (.routeCellRx 0) (receiving running6 (cell6 6 []))).flo.adopt.length = 1 := by decide +kernel
theorem wit_VotersAndPackets_asked : let e := put voters [(Fld.FLO_EPOCH_EPOCH, 8)]
    ((e.advance 0).reportedEpoch 6) = some 7 ∧ (e.word Reg.FLO_EPOCH).toNat = 8 ∧ (e.routeCellTo 6).flo.seqOut ≠ e.flo.seqOut ∧
    (after (.routeCellRx 0) (receiving e (cell6 6 []))).flo.seqOut ≠ e.flo.seqOut ∧
    (voters.withSys { voters.sys with comDown := true }).comRuns = false ∧
    after (.voteCellRx 0) (voters.withSys { voters.sys with comDown := true }) = (voters.withSys { voters.sys with comDown := true }).advance 0 := by decide +kernel
/-- A PING as the only, or the first, segment of a packet. -/
def segment (last : Byte) : List Byte := [0, last, 0, 0] ++ [1, 0x10, 7, 0, 1, 1]
def inReply : List Byte := [0, 1, 0, 0] ++ [0xC7, 0x80, 7, 0, 1, 1] ++ zeros 8
def forwarding : State := job voters 0x605 (leBytes 2 6 ++ zeros 2 ++ [1, 0x10, 7, 0, 1, 1]) 0
theorem wit_VotersAndPackets_packets : voters.flo.reasm = [] ∧ (after (.cmdCellRx 0) (receiving voters (cell6 4 (segment 0)))).flo.reasm.map (·.bytes) =
      [[1, 0x10, 7, 0, 1, 1]] ∧ (after (.cmdCellRx 0) (receiving voters (cell6 4 (segment 1)))).flo.reasm = [] ∧
    ((forwarding.advance 0).forwardJob 6 (inReply.drop 4)).isSome = true ∧ (after (.cmdCellRx 0) (receiving forwarding (cell6 4 inReply))).hst.jobs = [] ∧
    spGet (fun _ => 0) (after (.cmdCellRx 0) (receiving forwarding (cell6 4 inReply))).hst.ended 255 = 1 ∧
    (after (.logCellRx 0) (receiving voters (cell6 5 (segment 0)))).flo.reasm.map (·.log) = [true] ∧
    (after (.logCellRx 0) (receiving voters (cell6 5 (segment 1)))).flo.reasm = [] ∧
    (after (.floeReasmTimeout (10 * msTicks)) (voters.withFlo { voters.flo with reasm := [{ since := 0 }] })).flo.reasm = [] ∧
    (after (.floeReasmTimeout (10 * msTicks - 1)) (voters.withFlo { voters.flo with reasm := [{ since := 0 }] })).flo.reasm.length = 1 := by decide +kernel
theorem wit_VotersAndPackets_answers : isReply (inReply.drop 4) = true ∧ (voters.advance 0).forwardJob 6 (inReply.drop 4) = none ∧
    (after (.cmdCellRx 0) (receiving voters (cell6 4 inReply))).get Fld.PKT_STAT_DROPPED = 1 ∧ isReply ((segment 1).drop 4) = false ∧
    (after (.logCellRx 0) (receiving forwarding (cell6 5 inReply))).hst.jobs = [] ∧
    (after (.logCellRx 0) (receiving voters (cell6 5 inReply))).get Fld.PKT_STAT_DROPPED = 0 := by decide +kernel

end Sys2Proof.Tests
end

/-! PROOFS. The distance between angles (O8). -/

namespace Sys2Proof.Machine
/-- Settles O8 (R8): the distance is the residue of b − a, read as a signed value, so that the three claims are arithmetic modulo 2^24. -/
theorem angleDistance : Obligations.AngleDistance := by
  intro a b ha hb
  unfold angAdd angDist cycleAu
  dsimp only
  split <;> omega
end Sys2Proof.Machine

/-! PROOFS. The bus, and writes by access type (O9). -/

namespace Sys2Proof.Machine

section bus
variable (s : State)

@[simp] theorem answer_word (d : Word) (a : Nat) : (s.answer d).word a = s.word a := rfl
@[simp] theorem answer_byte (d : Word) (a : Nat) : (s.answer d).byte a = s.byte a := rfl
@[simp] theorem answer_data (d : Word) : (s.answer d).bus.data = d := rfl
@[simp] theorem answer_err (d : Word) : (s.answer d).bus.err = false := rfl
@[simp] theorem answer_status (d : Word) : (s.answer d).bus.status = 0 := rfl
@[simp] theorem answer_answer (d e : Word) : (s.answer d).answer e = s.answer e := rfl
@[simp] theorem answer_get (d : Word) (f : FReg) : (s.answer d).get f = s.get f := rfl
@[simp] theorem answer_adcFifo (d : Word) (c : Nat) : (s.answer d).adcFifo c = s.adcFifo c := rfl
@[simp] theorem setWord_byte (a b : Nat) (v : Word) : (s.setWord a v).byte b = s.byte b := rfl
@[simp] theorem clearBits_byte (a b : Nat) (m : Word) : (s.clearBits a m).byte b = s.byte b := rfl
@[simp] theorem setWord_chainHead (a : Nat) (v : Word) : (s.setWord a v).chainHead = s.chainHead := rfl

/-- A firmware's access to a register that exists and whose block runs is the register's own read or write (R417, R422). -/
theorem busRead_register {a : Nat} (hr : inRegs a = true) (ha : a % 4 = 0) (hu : s.regUp a = true) :
    s.busRead .sup 4 a = (s.readReg a).2.answer (s.readReg a).1 := by
  simp [State.busRead, mayRead, ha, hr, hu]

theorem busWrite_register {a : Nat} {v : Word} (hr : inRegs a = true) (ha : a % 4 = 0) (hw : s.takesWrite a v) :
    s.busWrite .sup 4 a v = (s.regEffect a v).answer 0 := by
  obtain ⟨hu, hs⟩ := hw
  have hm : (Master.sup == Master.host) = false := rfl
  simp [State.busWrite, mayWrite, ha, hr, hu, hm, hs]

theorem regUp_of_gate {a : Nat} {f : FReg} (hr : regRow a ≠ none) (hg : gatesOf a = [f]) (hf : s.flag f = true) : s.regUp a = true := by
  simp [State.regUp, hr, hg, hf]

end bus

section access
variable (s : State)

@[simp] theorem putRw_fresh (a : Nat) (v : Word) : (s.putRw a v).fresh = s.fresh := by
  unfold State.putRw; split <;> rfl
@[simp] theorem putRw_byte (a b : Nat) (v : Word) : (s.putRw a v).byte b = s.byte b := by
  unfold State.putRw; split <;> rfl
theorem word_putRw_other {a b : Nat} (v : Word) (hb : b ≠ a) : (s.putRw a v).word b = s.word b := by
  unfold State.putRw
  split
  · rfl
  · rw [word_setWord, if_neg hb]

theorem word_clearBits (a b : Nat) (m : Word) :
    (s.clearBits a m).word b = if b = a then s.word a &&& ~~~(m &&& ~~~(s.freshMask a)) else s.word b := word_setWord _ _ _ _

@[simp] theorem plainWrite_byte (a b : Nat) (v : Word) : (s.plainWrite a v).byte b = s.byte b := by
  unfold State.plainWrite
  split
  · rfl
  · simp
theorem word_plainWrite_other {a b : Nat} (v : Word) (hb : b ≠ a) : (s.plainWrite a v).word b = s.word b := by
  unfold State.plainWrite
  split
  · rfl
  · simp [word_setWord, word_clearBits, hb, word_putRw_other s v hb]

/-- The bits of a word written by access type alone (R4, R5). -/
theorem getLsbD_plainWrite {a : Nat} {r : RegRow} (v : Word) (hr : regRow a = some r) (ho : s.rwhOpen a = true) {k : Nat} (hk : k < 32) :
    ((s.plainWrite a v).word a).getLsbD k =
      (((if (r.rw ||| r.rwh).testBit k then v.getLsbD k else (s.word a).getLsbD k) &&
        !(v.getLsbD k && r.w1c.testBit k && !(s.freshMask a).getLsbD k)) || (v.getLsbD k && r.w1s.testBit k)) := by
  have hf : (s.putRw a v).freshMask a = s.freshMask a := by simp [State.freshMask]
  have hm : ((s.putRw a v).word a).getLsbD k = if (r.rw ||| r.rwh).testBit k then v.getLsbD k else (s.word a).getLsbD k := by
    simp only [State.putRw, hr, ho, if_true, word_setWord]
    simp only [BitVec.getLsbD_or, BitVec.getLsbD_and, BitVec.getLsbD_not, BitVec.getLsbD_ofNat, hk, decide_true, Bool.true_and]
    cases (r.rw ||| r.rwh).testBit k <;> simp
  simp only [State.plainWrite, hr, word_setWord, word_clearBits, if_true, hf]
  simp only [BitVec.getLsbD_or, BitVec.getLsbD_and, BitVec.getLsbD_not, BitVec.getLsbD_ofNat, hm, hk, decide_true, Bool.true_and]

/-- RWH fields are closed to a write in the timer, pattern, DMA and wheel blocks only. -/
theorem rwhOpen_low {a : Nat} (h : a < 0x40030000) : s.rwhOpen a = true := by
  have h1 : ¬ (0x40050000 ≤ a ∧ a < 0x40060000) := by omega
  have h2 : ¬ (0x40060000 ≤ a ∧ a < 0x40068000) := by omega
  have h3 : ¬ (0x40040000 ≤ a ∧ a < 0x40050000) := by omega
  have h4 : a ≠ Reg.WHL_SIM_ANG := by unfold Reg.WHL_SIM_ANG; omega
  simp only [State.rwhOpen, h1, h2, h3, h4, if_false]

/-- In SYS, CLK and PWR a write does what the access types say, but for seven registers. -/
theorem regEffect_plain {a : Nat} (v : Word) (h : a < 0x40030000)
    (hn : a ∉ [Reg.SYS_FAULT, Reg.SYS_FAULTCFG, Reg.CLK_OPREQ, Reg.CLK_GATE0, Reg.CLK_GATE1, Reg.CLK_FMC_CTRL, Reg.PWR_SLEEP]) :
    s.regEffect a v = s.plainWrite a v := by
  simp only [List.mem_cons, List.not_mem_nil, or_false, not_or] at hn
  obtain ⟨hfault, hcfg, hop, hg0, hg1, hfmc, hsleep⟩ := hn
  simp only [State.regEffect, h, if_true]
  split
  · simp only [State.writeSYS, hfault, hcfg, if_false]
  split
  · simp only [State.writeCLK, hop, hg0, hg1, hfmc, if_false]
  · simp only [State.writePWR, hsleep, if_false]

end access

/-- Settles O9 (R4, R5): the bus hands such a write to `plainWrite`, whose bits are those of the claim and which leaves everything else. -/
theorem writesByAccessType : Obligations.WritesByAccessType := by
  intro s a v r hlow hregs halign hr hplain hw
  refine ⟨s.busWrite .sup 4 a.toNat v, rfl, ?_⟩
  rw [busWrite_register s hregs halign hw, regEffect_plain s v hlow hplain]
  refine ⟨fun k hk => ?_, fun b hb => ?_, fun b => ?_, rfl, rfl⟩
  · exact getLsbD_plainWrite s v hr (rwhOpen_low s hlow) hk
  · exact word_plainWrite_other s v hb
  · exact plainWrite_byte s a.toNat b v

end Sys2Proof.Machine

/-! PROOFS. What a read latches or consumes (O37). -/

namespace Sys2Proof.Machine

section reads
variable (s : State)

/-- The word-aligned register at `a` exists and stands behind the gate `f` alone. -/
def gatedBy (f : FReg) (a : Nat) : Bool := inRegs a && a % 4 == 0 && regRow a != none && gatesOf a == [f]

theorem busRead_gated {f : FReg} {a : Nat} (h : gatedBy f a = true) (hf : s.flag f = true) :
    s.busRead .sup 4 a = (s.readReg a).2.answer (s.readReg a).1 := by
  simp only [gatedBy, Bool.and_eq_true, beq_iff_eq, bne_iff_ne] at h
  obtain ⟨⟨⟨hregs, halign⟩, hrow⟩, hgate⟩ := h
  exact busRead_register s hregs halign (regUp_of_gate s hrow hgate hf)

theorem busRead_peak : s.busRead .sup 4 Reg.PWR_CALVCNT = (s.readReg Reg.PWR_CALVCNT).2.answer (s.readReg Reg.PWR_CALVCNT).1 := by
  have hregs : inRegs Reg.PWR_CALVCNT = true := by decide
  have halign : Reg.PWR_CALVCNT % 4 = 0 := by decide
  have hrow : regRow Reg.PWR_CALVCNT ≠ none := by decide
  have hgate : gatesOf Reg.PWR_CALVCNT = [] := by decide
  exact busRead_register s hregs halign (by simp [State.regUp, hrow, hgate])

theorem gatedBy_adcFifo : ∀ c : Fin 4, gatedBy Fld.CLK_GATE0_ADC (Reg.ADC_FIFO c) = true := by decide
theorem gatedBy_stamp : ∀ n : Fin 4, gatedBy Fld.CLK_GATE0_WHL (Reg.WHL_TSL n) = true := by decide
theorem gatedBy_angle : ∀ x : Fin 2, gatedBy Fld.CLK_GATE0_TRK (Reg.TRK_ANGLE x) = true := by decide
theorem gatedBy_morl : gatedBy Fld.CLK_GATE0_WIT Reg.WIT_MORL = true := by decide
theorem gatedBy_dt : gatedBy Fld.CLK_GATE0_FLO Reg.FLO_DTL = true := by decide

theorem readReg_adcFifo : ∀ c : Fin 4, s.readReg (Reg.ADC_FIFO c) = s.readFifo c
  | 0 => rfl | 1 => rfl | 2 => rfl | 3 => rfl
theorem readReg_stamp : ∀ n : Fin 4, s.readReg (Reg.WHL_TSL n) = s.readStamp n
  | 0 => rfl | 1 => rfl | 2 => rfl | 3 => rfl
theorem readReg_angle : ∀ x : Fin 2, s.readReg (Reg.TRK_ANGLE x) = s.readAngle x
  | 0 => rfl | 1 => rfl
theorem readReg_morl : s.readReg Reg.WIT_MORL = s.readMorl := rfl
theorem readReg_dt : s.readReg Reg.FLO_DTL = s.readDt := rfl
theorem readReg_peak : s.readReg Reg.PWR_CALVCNT = s.readPeak := rfl

end reads

section frame
variable {s t : State} {l : List Nat}

theorem sameBut_refl (s : State) (l : List Nat) : s.sameBut s l := ⟨fun _ _ _ => rfl, fun _ => rfl⟩

theorem sameBut_answer (h : s.sameBut t l) (d : Word) : s.sameBut (t.answer d) l := h

theorem sameBut_setAdc (h : s.sameBut t l) (c : Nat) (x : AdcState) : s.sameBut (t.setAdc c x) l := h

theorem sameBut_setWord (h : s.sameBut t l) {a : Nat} (ha : a ∈ l) (v : Word) : s.sameBut (t.setWord a v) l := by
  refine ⟨fun b hb hi => ?_, h.2⟩
  have hne : b ≠ a := fun e => hb (e ▸ ha)
  rw [word_setWord, if_neg hne]
  exact h.1 b hb hi

theorem sameBut_set (h : s.sameBut t l) (f : FReg) (hf : f.addr ∈ l) (v : Nat) : s.sameBut (t.set f v) l := sameBut_setWord h hf _

end frame

section latches
variable (s : State)

/-- A number latched in two words: the two give its low 64 bits. -/
theorem two_words (n : Nat) : (BitVec.ofNat 32 n).toNat + 2 ^ 32 * (BitVec.ofNat 32 (n / 4294967296)).toNat = n % 2 ^ 64 := by
  simp only [BitVec.toNat_ofNat]
  omega

/-- A field whose bits are cleared reads 0. -/
theorem fieldOf_cleared (f : FReg) (w : Word) (h : f.lo + f.w ≤ 32) : fieldOf f (w &&& ~~~(FReg.mask f)) = 0 := by
  have e : w &&& ~~~(FReg.mask f) = withField f w 0 := by simp [withField]
  rw [e, fieldOf_withField f w 0 h, Nat.zero_mod]

theorem get_clearBits_mask (f : FReg) (h : f.lo + f.w ≤ 32) (hf : s.fresh = []) : (s.clearBits f.addr (FReg.mask f)).get f = 0 := by
  have e : s.freshMask f.addr = 0#32 := by simp [State.freshMask, hf]
  rw [State.get, word_clearBits, if_pos rfl, e, BitVec.not_zero, BitVec.and_allOnes, fieldOf_cleared f _ h]

/-- What a read of TRK_x_ANGLE latches (R58). -/
theorem readAngle_latches (x : Nat) :
    (s.readAngle x).2.get (Fld.TRK_FRAC_FRAC x) = (s.trk x).acc % fracOne ∧
    (s.readAngle x).2.get (Fld.TRK_RATEL_RATE_F x) = (s.trk x).rate % fracOne ∧
    (s.readAngle x).2.get (Fld.TRK_RATEH_RATE_I x) = (s.trk x).rate / fracOne % 2 ^ (Fld.TRK_RATEH_RATE_I x).w ∧
    (s.readAngle x).2.get (Fld.TRK_CYCLE_CYCLE x) = (s.trk x).cycle % 2 ^ (Fld.TRK_CYCLE_CYCLE x).w := by
  have hfrac : (Fld.TRK_FRAC_FRAC x).lo + (Fld.TRK_FRAC_FRAC x).w ≤ 32 := Nat.le_refl 32
  have hratel : (Fld.TRK_RATEL_RATE_F x).lo + (Fld.TRK_RATEL_RATE_F x).w ≤ 32 := Nat.le_refl 32
  have hrateh : (Fld.TRK_RATEH_RATE_I x).lo + (Fld.TRK_RATEH_RATE_I x).w ≤ 32 := by show 0 + 8 ≤ 32; omega
  have hcycle : (Fld.TRK_CYCLE_CYCLE x).lo + (Fld.TRK_CYCLE_CYCLE x).w ≤ 32 := Nat.le_refl 32
  have fits : ∀ n, n % fracOne % 2 ^ 32 = n % fracOne := fun n => Nat.mod_mod n _
  simp only [State.readAngle]
  refine ⟨?_, ?_, ?_, ?_⟩
  · rw [get_set_other, get_set_other, get_set_other, get_set _ _ _ hfrac]
    · exact fits _
    all_goals simp [Fld.TRK_FRAC_FRAC, Fld.TRK_RATEL_RATE_F, Fld.TRK_RATEH_RATE_I, Fld.TRK_CYCLE_CYCLE, Reg.TRK_FRAC, Reg.TRK_RATEL,
      Reg.TRK_RATEH, Reg.TRK_CYCLE]
  · rw [get_set_other, get_set_other, get_set _ _ _ hratel]
    · exact fits _
    all_goals simp [Fld.TRK_RATEL_RATE_F, Fld.TRK_RATEH_RATE_I, Fld.TRK_CYCLE_CYCLE, Reg.TRK_RATEL, Reg.TRK_RATEH, Reg.TRK_CYCLE]
  · rw [get_set_other, get_set _ _ _ hrateh]
    simp [Fld.TRK_RATEH_RATE_I, Fld.TRK_CYCLE_CYCLE, Reg.TRK_RATEH, Reg.TRK_CYCLE]
  · exact get_set _ _ _ hcycle

/-- A read of TRK_x_ANGLE writes the four registers that it latches. -/
theorem readAngle_sameBut (x : Nat) :
    s.sameBut (s.readAngle x).2 [Reg.TRK_FRAC x, Reg.TRK_RATEL x, Reg.TRK_RATEH x, Reg.TRK_CYCLE x] := by
  refine sameBut_set (sameBut_set (sameBut_set (sameBut_set (sameBut_refl s _) _ ?_ _) _ ?_ _) _ ?_ _) _ ?_ _ <;>
    simp [Fld.TRK_FRAC_FRAC, Fld.TRK_RATEL_RATE_F, Fld.TRK_RATEH_RATE_I, Fld.TRK_CYCLE_CYCLE]

-- ── The head of the chain (R213) ──────────────────────────────────────────────────────────────────────────────────

/-- The words of the chain's head that `l` names are latched in WIT_MORHK. -/
def State.latchHead (s : State) (l : List Nat) : State :=
  l.foldl (fun s i => s.setWord (Reg.WIT_MORHK i) (BitVec.ofNat 32 (leAt s.chainHead (4 * i) 4))) s

theorem readMorl_state : s.readMorl.2 = (s.setWord Reg.WIT_MORH (BitVec.ofNat 32 (s.wit.index / 4294967296))).latchHead (List.range 8) := rfl

theorem latchHead_sameBut (l r : List Nat) : ∀ (s t : State), s.sameBut t r → (∀ i ∈ l, Reg.WIT_MORHK i ∈ r) → s.sameBut (t.latchHead l) r := by
  induction l with
  | nil => intro s t h _; exact h
  | cons j l ih =>
    intro s t h hr
    exact ih s _ (sameBut_setWord h (hr j (by simp)) _) (fun i hi => hr i (by simp [hi]))

theorem word_latchHead_other (l : List Nat) : ∀ (s : State) (a : Nat), (∀ i ∈ l, a ≠ Reg.WIT_MORHK i) → (s.latchHead l).word a = s.word a := by
  induction l with
  | nil => intro s a _; rfl
  | cons j l ih =>
    intro s a h
    have h1 := ih (s.setWord (Reg.WIT_MORHK j) (BitVec.ofNat 32 (leAt s.chainHead (4 * j) 4))) a (fun i hi => h i (by simp [hi]))
    rw [word_setWord, if_neg (h j (by simp))] at h1
    exact h1

theorem word_latchHead (l : List Nat) :
    ∀ (s : State) (i : Nat), i ∈ l → (s.latchHead l).word (Reg.WIT_MORHK i) = BitVec.ofNat 32 (leAt s.chainHead (4 * i) 4) := by
  induction l with
  | nil => intro s i hi; simp at hi
  | cons j l ih =>
    intro s i hi
    by_cases hl : i ∈ l
    · exact ih (s.setWord (Reg.WIT_MORHK j) (BitVec.ofNat 32 (leAt s.chainHead (4 * j) 4))) i hl
    · have hj : i = j := by simpa [hl] using hi
      subst hj
      have hne : ∀ k ∈ l, Reg.WIT_MORHK i ≠ Reg.WIT_MORHK k := by
        intro k hk e
        have hik : i = k := by simpa [Reg.WIT_MORHK] using e
        exact hl (hik ▸ hk)
      have h1 := word_latchHead_other l (s.setWord (Reg.WIT_MORHK i) (BitVec.ofNat 32 (leAt s.chainHead (4 * i) 4))) _ hne
      rw [word_setWord, if_pos rfl] at h1
      exact h1

/-- WIT_MORH lies outside the latched head. -/
theorem morh_ne_head (i : Nat) : Reg.WIT_MORH ≠ Reg.WIT_MORHK i := by unfold Reg.WIT_MORH Reg.WIT_MORHK; omega

theorem readMorl_morh : s.readMorl.2.word Reg.WIT_MORH = BitVec.ofNat 32 (s.wit.index / 4294967296) := by
  rw [readMorl_state, word_latchHead_other _ _ _ (fun i _ => morh_ne_head i), word_setWord, if_pos rfl]

theorem readMorl_head (i : Fin 8) : s.readMorl.2.word (Reg.WIT_MORHK i) = BitVec.ofNat 32 (leAt s.chainHead (4 * i) 4) := by
  rw [readMorl_state, word_latchHead _ _ _ (by simp), setWord_chainHead]

theorem readMorl_sameBut : s.sameBut s.readMorl.2 (Reg.WIT_MORH :: (List.range 8).map Reg.WIT_MORHK) := by
  rw [readMorl_state]
  exact latchHead_sameBut _ _ s _ (sameBut_setWord (sameBut_refl s _) (by simp) _)
    (fun i hi => List.mem_cons_of_mem _ (List.mem_map_of_mem hi))

end latches

section rows
variable (s : State)

/-- A row that is one read of the firmware does what the bus does. -/
theorem does_of_fwRead {c : Instr} {a : Nat} {q : State → Prop} (hc : exec c s = .next (s.fwRead a)) (hq : q (s.busRead .sup 4 a)) :
    s.does c q := ⟨s.busRead .sup 4 a, hc, hq⟩

/-- ADC_FIFO_READ (R138). -/
theorem does_adcFifoRead (c : Fin 4) (hg : s.flag Fld.CLK_GATE0_ADC = true) :
    (∀ w r, s.adcFifo c = w :: r → s.does (.adcFifoRead c) (fun u => u.bus.data = w ∧ u.adcFifo c = r ∧ s.sameBut u [])) ∧
    (s.adcFifo c = [] → s.does (.adcFifoRead c) (fun u => u.bus.data = 0 ∧ s.sameBut u [])) := by
  have hread := busRead_gated s (gatedBy_adcFifo c) hg
  rw [readReg_adcFifo] at hread
  constructor
  · intro w r h
    refine does_of_fwRead s rfl ?_
    rw [hread, State.readFifo, h]
    refine ⟨rfl, ?_, sameBut_answer (sameBut_setAdc (sameBut_refl s _) _ _) _⟩
    rw [answer_adcFifo, State.adcFifo, adc_setAdc, if_pos rfl]
  · intro h
    refine does_of_fwRead s rfl ?_
    rw [hread, State.readFifo, h]
    exact ⟨rfl, sameBut_answer (sameBut_refl s _) _⟩

/-- WHL_TS_READ (R33, R34). -/
theorem does_whlTsRead (n : Fin 4) (hg : s.flag Fld.CLK_GATE0_WHL = true) :
    s.does (.whlTsRead n) (fun u =>
      u.bus.data.toNat + 2 ^ 32 * (u.word (Reg.WHL_TSH n)).toNat = (s.whl n).stamp % 2 ^ 64 ∧ s.sameBut u [Reg.WHL_TSH n]) := by
  refine does_of_fwRead s rfl ?_
  rw [busRead_gated s (gatedBy_stamp n) hg, readReg_stamp, State.readStamp]
  refine ⟨?_, sameBut_answer (sameBut_setWord (sameBut_refl s _) (by simp) _) _⟩
  rw [answer_data, answer_word, word_setWord, if_pos rfl]
  exact two_words _

/-- TRK_ANGLE_READ (R58). -/
theorem does_trkAngleRead (x : Fin 2) (hg : s.flag Fld.CLK_GATE0_TRK = true) :
    s.does (.trkAngleRead x) (fun u => u.bus.data = BitVec.ofNat 32 (s.trkAngle x) ∧
      u.get (Fld.TRK_FRAC_FRAC x) = (s.trk x).acc % fracOne ∧ u.get (Fld.TRK_RATEL_RATE_F x) = (s.trk x).rate % fracOne ∧
      u.get (Fld.TRK_RATEH_RATE_I x) = (s.trk x).rate / fracOne % 2 ^ (Fld.TRK_RATEH_RATE_I x).w ∧
      u.get (Fld.TRK_CYCLE_CYCLE x) = (s.trk x).cycle % 2 ^ (Fld.TRK_CYCLE_CYCLE x).w ∧
      s.sameBut u [Reg.TRK_FRAC x, Reg.TRK_RATEL x, Reg.TRK_RATEH x, Reg.TRK_CYCLE x]) := by
  refine does_of_fwRead s rfl ?_
  rw [busRead_gated s (gatedBy_angle x) hg, readReg_angle]
  obtain ⟨hfrac, hratel, hrateh, hcycle⟩ := readAngle_latches s x
  rw [answer_data, answer_get, answer_get, answer_get, answer_get]
  exact ⟨rfl, hfrac, hratel, hrateh, hcycle, sameBut_answer (readAngle_sameBut s x) _⟩

/-- WIT_MORL_READ (R213, R216). -/
theorem does_witMorlRead (hg : s.flag Fld.CLK_GATE0_WIT = true) :
    s.does .witMorlRead (fun u =>
      u.bus.data.toNat + 2 ^ 32 * (u.word Reg.WIT_MORH).toNat = s.wit.index % 2 ^ 64 ∧
      (∀ i : Fin 8, u.word (Reg.WIT_MORHK i) = BitVec.ofNat 32 (leAt s.chainHead (4 * i) 4)) ∧
      s.sameBut u (Reg.WIT_MORH :: (List.range 8).map Reg.WIT_MORHK)) := by
  refine does_of_fwRead s rfl ?_
  rw [busRead_gated s gatedBy_morl hg, readReg_morl]
  refine ⟨?_, readMorl_head s, sameBut_answer (readMorl_sameBut s) _⟩
  rw [answer_data, answer_word, readMorl_morh]
  exact two_words _

/-- FLO_DT_READ (R229, R231). -/
theorem does_floDtRead (hg : s.flag Fld.CLK_GATE0_FLO = true) :
    s.does .floDtRead (fun u =>
      u.bus.data.toNat + 2 ^ 32 * (u.word Reg.FLO_DTH).toNat = s.domTime % 2 ^ 64 ∧ s.sameBut u [Reg.FLO_DTH]) := by
  refine does_of_fwRead s rfl ?_
  rw [busRead_gated s gatedBy_dt hg, readReg_dt, State.readDt]
  refine ⟨?_, sameBut_answer (sameBut_setWord (sameBut_refl s _) (by simp) _) _⟩
  rw [answer_data, answer_word, word_setWord, if_pos rfl]
  exact two_words _

/-- CALV_PEAK_READ (R4, R331): where the hardware has set nothing in this cycle (R5). -/
theorem does_calvPeakRead (hf : s.fresh = []) :
    s.does .calvPeakRead (fun u => u.bus.data = s.word Reg.PWR_CALVCNT ∧ u.get Fld.PWR_CALVCNT_PEAK = 0 ∧
      s.sameBut u [Reg.PWR_CALVCNT]) := by
  refine does_of_fwRead s rfl ?_
  rw [busRead_peak s, readReg_peak, State.readPeak]
  refine ⟨rfl, ?_, sameBut_answer (sameBut_setWord (sameBut_refl s _) (by simp) _) _⟩
  exact get_clearBits_mask s Fld.PWR_CALVCNT_PEAK (by decide) hf

end rows

/-- Settles O37: each read is the bus handing over to the register's own read, whose latches stand in the lemmas above. -/
theorem latchingReads : Obligations.LatchingReads := fun s =>
  ⟨does_adcFifoRead s, does_whlTsRead s, does_trkAngleRead s, does_witMorlRead s, does_floDtRead s, does_calvPeakRead s⟩
end Sys2Proof.Machine

/-! PROOFS. Packets that COM handles, and the host area (O12). -/

namespace Sys2Proof.Machine

-- ── Packets that COM handles (R267, R271) ─────────────────────────────────────────────────────────────────────────

section packets
variable {s u : State} {port : Fin 5} {op : Nat} {p : Packet} {r : List Packet}

theorem nextPacket_taken (h : s.comTakes port op p r) : s.nextPacket port op = some (p, s.taken port) := by
  obtain ⟨hin, hop, hout, hot, hcom, hreset, hst, -, -⟩ := h
  have hst' : ¬ s.st < 3 := Nat.not_lt.mpr hst
  have hout' : ¬ 16 ≤ (s.hst.port port).outq.length := Nat.not_le.mpr hout
  simp [State.nextPacket, State.taken, hin, hop, hot, hcom, hreset, hst', hout']

/-- A packet that COM takes is handled by its opcode's own meaning: neither the seal nor the image stands in its way. -/
theorem handle_taken (h : s.comTakes port op p r) (f : Packet → State → Answer) :
    s.handle port op f =
      (if (f p (s.taken port)).later then (f p (s.taken port)).state.settle
       else ((f p (s.taken port)).state.answerTo port p (f p (s.taken port)).status (f p (s.taken port)).rest).settle) := by
  obtain ⟨-, -, -, -, -, -, -, hverified, hopen⟩ := id h
  have hv : (s.taken port).sys.verified = true := hverified
  have hseal : (isSealed op && !(s.taken port).sealOpen) = false := by
    cases hs : isSealed op
    · rfl
    · have ho : (s.taken port).sealOpen = true := hopen hs
      simp [ho]
  simp [State.handle, nextPacket_taken h, hv, hseal]

/-- A row that handles a packet answers what its opcode's meaning gives. -/
theorem answers_of_handle {c : Instr} {f : Packet → State → Answer} {status : Nat} {rest : List Byte} {q : State → Prop}
    (h : s.comTakes port op p r) (hc : exec c s = .next (s.handle port op f))
    (hf : f p (s.taken port) = { status := status, rest := rest, state := u }) (hq : q u) : s.answers c port p status rest q := by
  refine ⟨u.answerTo port p status rest, ?_, u, rfl, hq⟩
  rw [hc, handle_taken h, hf]
  rfl

end packets

-- ── Little-endian fields (R6) ─────────────────────────────────────────────────────────────────────────────────────

@[simp] theorem leBytes_length (n : Nat) : ∀ v, (leBytes n v).length = n := by
  induction n with
  | zero => intro v; rfl
  | succ n ih => intro v; simp [leBytes, ih]

theorem leNat_leBytes (n : Nat) : ∀ v, leNat (leBytes n v) = v % 256 ^ n := by
  induction n with
  | zero => intro v; simp [leBytes, leNat, Nat.mod_one]
  | succ n ih =>
    intro v
    have hb : (BitVec.ofNat 8 v).toNat = v % 256 := BitVec.toNat_ofNat v 8
    rw [leBytes, leNat, ih, hb, Nat.pow_succ', Nat.mod_mul]

theorem leBytes_leNat (l : List Byte) : leBytes l.length (leNat l) = l := by
  induction l with
  | nil => rfl
  | cons b l ih =>
    have hb : BitVec.ofNat 8 (b.toNat + 256 * leNat l) = b := BitVec.eq_of_toNat_eq (by have := b.isLt; simp; omega)
    have hq : (b.toNat + 256 * leNat l) / 256 = leNat l := by have := b.isLt; omega
    simp only [List.length_cons, leBytes, leNat, hb, hq, ih]

theorem leNat_lt (l : List Byte) : leNat l < 256 ^ l.length := by
  induction l with
  | nil => simp [leNat]
  | cons b l ih =>
    have hb := b.isLt
    simp only [leNat, List.length_cons, Nat.pow_succ']
    omega

/-- A field that stands in front, and one that stands behind another. -/
theorem leAt_front (l r : List Byte) (n : Nat) (hl : l.length = n) : leAt (l ++ r) 0 n = leNat l := by
  simp [leAt, ← hl]
theorem leAt_behind (l r : List Byte) (i n k : Nat) (hl : l.length = k) : leAt (l ++ r) (k + i) n = leAt r i n := by
  simp [leAt, ← hl]

theorem leAt_leBytes (v n : Nat) (r : List Byte) (h : v < 256 ^ n) : leAt (leBytes n v ++ r) 0 n = v := by
  rw [leAt_front _ _ n (leBytes_length n v), leNat_leBytes, Nat.mod_eq_of_lt h]

-- ── Words as bytes ────────────────────────────────────────────────────────────────────────────────────────────────

theorem wordBytes_cons (w : Word) (l : List Word) : wordBytes (w :: l) = leBytes 4 w.toNat ++ wordBytes l := rfl

@[simp] theorem wordBytes_length (l : List Word) : (wordBytes l).length = 4 * l.length := by
  induction l with
  | nil => rfl
  | cons w l ih => rw [wordBytes_cons, List.length_append, leBytes_length, ih, List.length_cons]; omega

theorem wordsOf_wordBytes (l : List Word) : wordsOf (wordBytes l) l.length = l := by
  induction l with
  | nil => rfl
  | cons w l ih =>
    have hw : w.toNat < 256 ^ 4 := w.isLt
    have htail : ∀ k, leAt (wordBytes (w :: l)) (4 * (k + 1)) 4 = leAt (wordBytes l) (4 * k) 4 := fun k => by
      rw [wordBytes_cons, Nat.mul_add, Nat.add_comm, leAt_behind _ _ _ _ _ (leBytes_length 4 _)]
    have hhead : leAt (wordBytes (w :: l)) (4 * 0) 4 = w.toNat := by rw [wordBytes_cons]; exact leAt_leBytes _ 4 _ hw
    unfold wordsOf at ih ⊢
    rw [List.length_cons, List.range_succ_eq_map, List.map_cons, List.map_map, hhead, BitVec.ofNat_toNat]
    simp only [Function.comp_def, Nat.succ_eq_add_one, htail, ih, BitVec.setWidth_eq]

/-- Four bytes are the bytes of the word that they form. -/
theorem leBytes_word (l : List Byte) (h : l.length = 4) : leBytes 4 (BitVec.ofNat 32 (leNat l)).toNat = l := by
  have hl := leNat_lt l
  rw [h] at hl
  have e : (BitVec.ofNat 32 (leNat l)).toNat = leNat l := by rw [BitVec.toNat_ofNat]; exact Nat.mod_eq_of_lt hl
  rw [e, ← h, leBytes_leNat]

-- ── Memory, several bytes at a time ───────────────────────────────────────────────────────────────────────────────

theorem bytes_length (s : State) (n : Nat) : ∀ a, (s.bytes a n).length = n := by
  induction n with
  | zero => intro a; rfl
  | succ n ih => intro a; simp [State.bytes, ih]

theorem bytes_congr {s t : State} (h : ∀ b, t.byte b = s.byte b) (n : Nat) : ∀ a, t.bytes a n = s.bytes a n := by
  induction n with
  | zero => intro a; rfl
  | succ n ih => intro a; simp [State.bytes, h, ih]

theorem bytes_add (s : State) (n m : Nat) : ∀ a, s.bytes a (n + m) = s.bytes a n ++ s.bytes (a + n) m := by
  induction n with
  | zero => intro a; simp [State.bytes]
  | succ n ih =>
    intro a
    have e : n + 1 + m = (n + m) + 1 := by omega
    have ea : a + 1 + n = a + (n + 1) := by omega
    rw [e, State.bytes, ih, State.bytes, ea, List.cons_append]

theorem setBytes_append (l r : List Byte) : ∀ (s : State) (a : Nat), s.setBytes a (l ++ r) = (s.setBytes a l).setBytes (a + l.length) r := by
  induction l with
  | nil => intro s a; rfl
  | cons b l ih =>
    intro s a
    have ea : a + 1 + l.length = a + (l.length + 1) := by omega
    simp only [List.cons_append, State.setBytes, ih, List.length_cons, ea]

/-- Stored bytes read as written. -/
theorem bytes_setBytes (l : List Byte) : ∀ (s : State) (a : Nat), (s.setBytes a l).bytes a l.length = l := by
  induction l with
  | nil => intro s a; rfl
  | cons b l ih =>
    intro s a
    have hb : ((s.setByte a b).setBytes (a + 1) l).byte a = b := by
      rw [byte_setBytes_other l _ (a + 1) a (by omega), byte_setByte, if_pos rfl]
    rw [List.length_cons, State.setBytes, State.bytes, hb, ih]

theorem answer_setBytes (l : List Byte) : ∀ (s : State) (d : Word) (a : Nat), (s.answer d).setBytes a l = (s.setBytes a l).answer d := by
  induction l with
  | nil => intro s d a; rfl
  | cons b l ih => intro s d a; exact ih (s.setByte a b) d (a + 1)

@[simp] theorem word_setBytes (s : State) (a b : Nat) (l : List Byte) : (s.setBytes a l).word b = s.word b := by simp [State.word]

-- ── The host area (R424) ──────────────────────────────────────────────────────────────────────────────────────────

/-- `n` words from `a` lie in the host area. -/
def hostWords (a n : Nat) : Prop := a % 4 = 0 ∧ 0x20380000 ≤ a ∧ a + 4 * n ≤ 0x20400000

theorem inHostArea_iff (a : Nat) : inHostArea a = true ↔ 0x20380000 ≤ a ∧ a ≤ 0x203FFFFF := by simp [inHostArea, inRange]

theorem hostWords_of_ends {a n : Nat} (ha : a % 4 = 0) (h1 : inHostArea a = true) (h2 : inHostArea (a + 4 * n - 4) = true) :
    hostWords a n := by
  rw [inHostArea_iff] at h1 h2
  exact ⟨ha, h1.1, by omega⟩

theorem hostWords_succ {a n : Nat} (h : hostWords a (n + 1)) : (a % 4 = 0 ∧ inHostArea a = true) ∧ hostWords (a + 4) n := by
  obtain ⟨ha, hlo, hhi⟩ := h
  exact ⟨⟨ha, (inHostArea_iff a).mpr (by omega)⟩, by omega, by omega, by omega⟩

theorem inRegs_hostArea {a : Nat} (h : inHostArea a = true) : inRegs a = false := by
  rw [inHostArea_iff] at h
  have hn : ¬ 0x40000000 ≤ a := by omega
  simp [inRegs, inRange, hn]

section area
variable (s : State)

theorem busRead_hostArea {a : Nat} (ha : a % 4 = 0 ∧ inHostArea a = true) :
    s.busRead .host 4 a = s.answer (BitVec.ofNat 32 (leNat (s.bytes a 4))) := by
  simp [State.busRead, mayRead, ha, inRegs_hostArea ha.2]

theorem busWrite_hostArea {a : Nat} (v : Word) (ha : a % 4 = 0 ∧ inHostArea a = true) :
    s.busWrite .host 4 a v = (s.setBytes a (leBytes 4 v.toNat)).answer 0 := by
  simp [State.busWrite, mayWrite, ha, inRegs_hostArea ha.2]

/-- The host may write each word of its area (R425). -/
theorem hostMay_hostArea {a : Nat} (v : Word) (h : inHostArea a = true) : s.hostMay a v = 0 := by
  have hn := (inHostArea_iff a).mp h
  have h0 : a ≠ Reg.CLK_GATE0 := by unfold Reg.CLK_GATE0; omega
  have h1 : a ≠ Reg.CLK_GATE1 := by unfold Reg.CLK_GATE1; omega
  simp [State.hostMay, h0, h1, h, stOk]

theorem hostRefuses_hostArea (l : List Word) : ∀ a, hostWords a l.length → s.hostRefuses a l = 0 := by
  induction l with
  | nil => intro a _; rfl
  | cons v l ih =>
    intro a h
    obtain ⟨⟨-, harea⟩, hrest⟩ := hostWords_succ h
    simp [State.hostRefuses, hostMay_hostArea s v harea, ih _ hrest]

/-- One step of the host's writes, and of its reads, in its area. -/
theorem hostWrites_cons {a : Nat} (v : Word) (l : List Word) (ha : a % 4 = 0 ∧ inHostArea a = true) :
    s.hostWrites .host a (v :: l) =
      ((((s.setBytes a (leBytes 4 v.toNat)).answer 0).hostWrites .host (a + 4) l).1 + 1,
       (((s.setBytes a (leBytes 4 v.toNat)).answer 0).hostWrites .host (a + 4) l).2) := by
  simp [State.hostWrites, busWrite_hostArea s v ha]

theorem hostReads_succ {a : Nat} (n : Nat) (ha : a % 4 = 0 ∧ inHostArea a = true) :
    s.hostReads (n + 1) a =
      (BitVec.ofNat 32 (leNat (s.bytes a 4)) :: ((s.answer (BitVec.ofNat 32 (leNat (s.bytes a 4)))).hostReads n (a + 4)).1,
       ((s.answer (BitVec.ofNat 32 (leNat (s.bytes a 4)))).hostReads n (a + 4)).2) := by
  simp [State.hostReads, busRead_hostArea s ha]

end area

theorem hostWrites_answered (l : List Word) : ∀ (s : State) (a : Nat), hostWords a l.length →
    (s.answer 0).hostWrites .host a l = (l.length, (s.setBytes a (wordBytes l)).answer 0) := by
  induction l with
  | nil => intro s a _; rfl
  | cons v l ih =>
    intro s a h
    obtain ⟨hhere, hrest⟩ := hostWords_succ h
    rw [hostWrites_cons _ v l hhere, answer_setBytes, answer_answer, ih _ _ hrest, wordBytes_cons, setBytes_append, leBytes_length,
      List.length_cons]

/-- Words that the host writes into its area stand there, little-endian; nothing else has changed (R6, R424). -/
theorem hostWrites_hostArea (s : State) {a : Nat} {l : List Word} (h : hostWords a l.length) (hl : l ≠ []) :
    s.hostWrites .host a l = (l.length, (s.setBytes a (wordBytes l)).answer 0) := by
  cases l with
  | nil => exact absurd rfl hl
  | cons v l =>
    obtain ⟨hhere, hrest⟩ := hostWords_succ h
    rw [hostWrites_cons s v l hhere, hostWrites_answered l _ _ hrest, wordBytes_cons, setBytes_append, leBytes_length, List.length_cons]

/-- The host's reads in its area give the words whose bytes stand there, and leave all but the bus as it was. -/
theorem hostReads_answered (n : Nat) : ∀ (s : State) (d : Word) (a : Nat), hostWords a n →
    ∃ l e, (s.answer d).hostReads n a = (l, s.answer e) ∧ l.length = n ∧ wordBytes l = s.bytes a (4 * n) := by
  induction n with
  | zero => intro s d a _; exact ⟨[], d, rfl, rfl, rfl⟩
  | succ n ih =>
    intro s d a h
    obtain ⟨hhere, hrest⟩ := hostWords_succ h
    have hb : (s.answer d).bytes a 4 = s.bytes a 4 := bytes_congr (answer_byte s d) 4 a
    obtain ⟨l, e, hreads, hlen, hbytes⟩ := ih s (BitVec.ofNat 32 (leNat (s.bytes a 4))) (a + 4) hrest
    have hsplit : 4 * (n + 1) = 4 + 4 * n := by omega
    refine ⟨BitVec.ofNat 32 (leNat (s.bytes a 4)) :: l, e, ?_, ?_, ?_⟩
    · rw [hostReads_succ _ n hhere, hb, answer_answer, hreads]
    · rw [List.length_cons, hlen]
    · rw [wordBytes_cons, leBytes_word _ (bytes_length s 4 a), hbytes, hsplit, bytes_add]

theorem hostReads_hostArea (s : State) {a n : Nat} (h : hostWords a n) (hn : 0 < n) :
    ∃ l e, s.hostReads n a = (l, s.answer e) ∧ l.length = n ∧ wordBytes l = s.bytes a (4 * n) := by
  obtain ⟨k, rfl⟩ := Nat.exists_eq_succ_of_ne_zero (Nat.ne_of_gt hn)
  obtain ⟨hhere, hrest⟩ := hostWords_succ h
  have same : s.hostReads (k + 1) a = (s.answer 0).hostReads (k + 1) a := by
    have hb : (s.answer 0).bytes a 4 = s.bytes a 4 := bytes_congr (answer_byte s 0) 4 a
    rw [hostReads_succ s k hhere, hostReads_succ _ k hhere, hb, answer_answer]
  rw [Nat.succ_eq_add_one, same]
  exact hostReads_answered (k + 1) s 0 a h

theorem hostRange_hostArea {a n : Nat} (ha : a % 4 = 0) (h1 : inHostArea a = true) (h2 : inHostArea (a + 4 * n - 4) = true) :
    hostRange a n = true := by simp [hostRange, ha, h1, h2]

-- ── REG_WRITE and REG_READ (R283) ─────────────────────────────────────────────────────────────────────────────────

/-- The fields of a REG_WRITE packet's payload: address, count, reserved bytes, words. -/
theorem regWrite_fields {a : Nat} {l : List Word} (ha : a < 2 ^ 32) (hl : l.length < 2 ^ 16) :
    leAt (leBytes 4 a ++ leBytes 2 l.length ++ [0, 0] ++ wordBytes l) 0 4 = a ∧
    leAt (leBytes 4 a ++ leBytes 2 l.length ++ [0, 0] ++ wordBytes l) 4 2 = l.length ∧
    leAt (leBytes 4 a ++ leBytes 2 l.length ++ [0, 0] ++ wordBytes l) 6 2 = 0 ∧
    (leBytes 4 a ++ leBytes 2 l.length ++ [0, 0] ++ wordBytes l).drop 8 = wordBytes l := by
  have hdata : (leBytes 4 a ++ leBytes 2 l.length ++ [0, 0] ++ wordBytes l).drop 8 = wordBytes l := List.drop_left' (by simp)
  refine ⟨?_, ?_, ?_, hdata⟩ <;> simp only [List.append_assoc]
  · exact leAt_leBytes a 4 _ ha
  · rw [leAt_behind _ _ 0 2 4 (leBytes_length 4 a), leAt_leBytes _ 2 _ hl]
  · rw [leAt_behind _ _ 2 2 4 (leBytes_length 4 a), leAt_behind _ _ 0 2 2 (leBytes_length 2 _)]
    rfl

/-- REG_WRITE of words of the host area (R6, R283, R424). -/
theorem answers_regWrite {s : State} {port : Fin 5} {p : Packet} {r : List Packet} {a : Nat} {l : List Word}
    (h : s.comTakes port 0x801 p r) (ha : a % 4 = 0) (h1 : inHostArea a = true) (h2 : inHostArea (a + 4 * l.length - 4) = true)
    (hl : l ≠ []) (hlen : l.length ≤ 254) (hp : p.payload = leBytes 4 a ++ leBytes 2 l.length ++ [0, 0] ++ wordBytes l) :
    s.answers (.regWrite port) port p 0 (leBytes 2 l.length) (fun u => u = ((s.taken port).setBytes a (wordBytes l)).answer 0) := by
  have hpos : 0 < l.length := List.length_pos_iff.mpr hl
  have hwords := hostWords_of_ends ha h1 h2
  have hhi := ((inHostArea_iff a).mp h1).2
  obtain ⟨haddr, hcount, hzero, hdata⟩ := regWrite_fields (a := a) (l := l) (by omega) (by omega)
  have hsize : p.payload.length = 8 + 4 * l.length := by simp [hp]; omega
  have hn0 : l.length ≠ 0 := by omega
  have hn254 : ¬ 254 < l.length := by omega
  rw [← hp] at haddr hcount hzero hdata
  refine answers_of_handle h rfl ?_ rfl
  simp [haddr, hcount, hzero, hdata, wordsOf_wordBytes, hostRefuses_hostArea _ l a hwords, hsize, hn0, hn254,
    hostRange_hostArea ha h1 h2, hostWrites_hostArea _ hwords hl]

/-- REG_READ of words of the host area (R283, R424). -/
theorem answers_regRead {s : State} {port : Fin 5} {p : Packet} {r : List Packet} {a n : Nat}
    (h : s.comTakes port 0x800 p r) (ha : a % 4 = 0) (h1 : inHostArea a = true) (h2 : inHostArea (a + 4 * n - 4) = true)
    (hpos : 0 < n) (hn : n ≤ 255) (hp : p.payload = leBytes 4 a ++ leBytes 2 n) :
    s.answers (.regRead port) port p 0 (zeros 3 ++ s.bytes a (4 * n)) (fun u => s.sameBut u []) := by
  have hwords := hostWords_of_ends ha h1 h2
  have hhi := ((inHostArea_iff a).mp h1).2
  have haddr : leAt p.payload 0 4 = a := by rw [hp]; exact leAt_leBytes a 4 _ (by omega)
  have hcount : leAt p.payload 4 2 = n := by
    rw [hp, leAt_behind _ _ 0 2 4 (leBytes_length 4 a), ← List.append_nil (leBytes 2 n)]
    exact leAt_leBytes n 2 _ (by omega)
  have hsize : p.payload.length = 6 := by simp [hp]
  have hn0 : n ≠ 0 := by omega
  have hn255 : ¬ 255 < n := by omega
  obtain ⟨l, e, hreads, -, hbytes⟩ := hostReads_hostArea (s.taken port) hwords hpos
  have hsame : (s.taken port).bytes a (4 * n) = s.bytes a (4 * n) := bytes_congr (s := s) (t := s.taken port) (fun _ => rfl) _ _
  refine answers_of_handle (u := (s.taken port).answer e) h rfl ?_ (sameBut_answer (sameBut_refl s _) e)
  simp [haddr, hcount, hsize, hn0, hn255, hostRange_hostArea ha h1 h2, hreads, State.done, stOk, from4, hbytes, hsame]

/-- What the host wrote into its area, it reads there. -/
theorem hostReads_written (s : State) {a : Nat} {l : List Word} (h : hostWords a l.length) (hl : l ≠ [])
    (hb : s.bytes a (4 * l.length) = wordBytes l) : (s.hostReads l.length a).1 = l := by
  obtain ⟨r, e, hreads, hlen, hbytes⟩ := hostReads_hostArea s h (List.length_pos_iff.mpr hl)
  rw [hreads]
  calc r = wordsOf (wordBytes r) r.length := (wordsOf_wordBytes r).symm
    _ = wordsOf (wordBytes l) l.length := by rw [hbytes, hb, hlen]
    _ = l := wordsOf_wordBytes l

/-- Settles O12: the write stores the words' bytes and nothing else, the read gives back the words whose bytes stand there. -/
theorem hostAreaRoundTrip : Obligations.HostAreaRoundTrip := by
  constructor
  · intro s port p r a l h ha h1 h2 hl hlen hp
    obtain ⟨v, hv, u, rfl, hu⟩ := answers_regWrite h ha h1 h2 hl hlen hp
    refine ⟨_, hv, u, rfl, ?_⟩
    have hwords := hostWords_of_ends ha h1 h2
    have hbyte : ∀ b, u.byte b = ((s.taken port).setBytes a (wordBytes l)).byte b := fun b => by rw [hu, answer_byte]
    have hbytes : u.bytes a (4 * l.length) = wordBytes l := by
      rw [bytes_congr hbyte, ← wordBytes_length, bytes_setBytes]
    refine ⟨hbytes, hostReads_written u hwords hl hbytes, fun b => ?_, fun b hb => ?_⟩
    · rw [hu, answer_word, word_setBytes]; rfl
    · rw [hbyte, byte_setBytes_other _ _ _ _ (by rwa [wordBytes_length])]; rfl
  · intro s port p r a n h ha h1 h2 hpos hn hp
    exact answers_regRead h ha h1 h2 hpos hn hp

end Sys2Proof.Machine

/-! PROOFS. READY (O7), and what the operations of the output stage, the witness, the pair and the states keep. -/

namespace Sys2Proof.Machine

/-- Settles O7 (R20): the READY output is that condition. -/
theorem readyLine : Obligations.ReadyLine := by
  intro s
  simp only [State.readyLine, Bool.and_eq_true, Bool.not_eq_true', Bool.or_eq_true, beq_iff_eq, or_assoc]

/-- Below the address `b`, and outside the interrupt controller, every register holds in `t` what it holds in `s`; a SLEEP that has been
accepted stands. -/
def keptBelow (b : Nat) (s t : State) : Prop :=
  (∀ a, a < b → inIrqBlock a = false → t.word a = s.word a) ∧ t.pwr.sleepReq = s.pwr.sleepReq

section kept
variable {b : Nat} {s t u : State}

theorem keptBelow_refl (b : Nat) (s : State) : keptBelow b s s := ⟨fun _ _ _ => rfl, rfl⟩

theorem keptBelow_trans (h : keptBelow b s t) (k : keptBelow b t u) : keptBelow b s u :=
  ⟨fun a ha hi => (k.1 a ha hi).trans (h.1 a ha hi), k.2.trans h.2⟩

theorem keptBelow_of_regs (h : keptBelow b s t) (hr : u.regs = t.regs) (hp : u.pwr = t.pwr) : keptBelow b s u := by
  refine ⟨fun a ha hi => ?_, by rw [hp, h.2]⟩
  rw [← h.1 a ha hi, State.word, hr, State.word]

theorem keptBelow_setWord (h : keptBelow b s t) {a : Nat} (ha : b ≤ a) (v : Word) : keptBelow b s (t.setWord a v) := by
  refine ⟨fun c hc hi => ?_, h.2⟩
  have hne : c ≠ a := by omega
  rw [word_setWord, if_neg hne]
  exact h.1 c hc hi

theorem keptBelow_set (h : keptBelow b s t) (f : FReg) (hf : b ≤ f.addr) (v : Nat) : keptBelow b s (t.set f v) :=
  keptBelow_setWord h hf _

theorem keptBelow_setFlag (h : keptBelow b s t) (f : FReg) (hf : b ≤ f.addr) (v : Bool) : keptBelow b s (t.setFlag f v) :=
  keptBelow_set h f hf _

theorem keptBelow_raiseFlag (h : keptBelow b s t) (f : FReg) (hf : b ≤ f.addr) : keptBelow b s (t.raiseFlag f) :=
  keptBelow_set h f hf 1

theorem keptBelow_irq (h : keptBelow b s t) (n : Nat) : keptBelow b s (t.irq n) := by
  obtain ⟨-, hpwr, hword⟩ := irqOnly_irq t n
  refine keptBelow_trans h ⟨fun a _ hi => hword a hi, ?_⟩
  rw [← hpwr]

theorem keptBelow_withSys (h : keptBelow b s t) (x : SysState) : keptBelow b s (t.withSys x) := keptBelow_of_regs h rfl rfl
theorem keptBelow_withSec (h : keptBelow b s t) (x : SecState) : keptBelow b s (t.withSec x) := keptBelow_of_regs h rfl rfl

/-- Whichever of two states follows. -/
theorem keptBelow_ite {c : Prop} [Decidable c] (ht : keptBelow b s t) (hu : keptBelow b s u) : keptBelow b s (if c then t else u) := by
  split
  · exact ht
  · exact hu

theorem keptBelow_foldl {α : Type} (f : State → α → State) (l : List α) (hf : ∀ t x, keptBelow b s t → keptBelow b s (f t x)) :
    ∀ t, keptBelow b s t → keptBelow b s (l.foldl f t) := by
  induction l with
  | nil => exact fun t h => h
  | cons x l ih => exact fun t h => ih _ (hf t x h)

theorem keptBelow_get (h : keptBelow b s t) (f : FReg) (hf : f.addr < b) (hi : inIrqBlock f.addr = false) : t.get f = s.get f := by
  unfold State.get; rw [h.1 _ hf hi]
theorem keptBelow_flag (h : keptBelow b s t) (f : FReg) (hf : f.addr < b) (hi : inIrqBlock f.addr = false) : t.flag f = s.flag f := by
  unfold State.flag; rw [keptBelow_get h f hf hi]

end kept

-- ── Records of the witness ────────────────────────────────────────────────────────────────────────────────────────

@[simp] theorem modRec_regs (s : State) (ch : Nat) (f : OpenRec → OpenRec) : (s.modRec ch f).regs = s.regs := by
  unfold State.modRec
  split
  · rfl
  · split <;> rfl
@[simp] theorem modRec_pwr (s : State) (ch : Nat) (f : OpenRec → OpenRec) : (s.modRec ch f).pwr = s.pwr := by
  unfold State.modRec
  split
  · rfl
  · split <;> rfl

section records
variable {b : Nat} {s t : State}

theorem keptBelow_modRec (h : keptBelow b s t) (ch : Nat) (f : OpenRec → OpenRec) : keptBelow b s (t.modRec ch f) :=
  keptBelow_of_regs h (modRec_regs t ch f) (modRec_pwr t ch f)

theorem keptBelow_countRecord (h : keptBelow b s t) (r : OpenRec) (m : Measured) (n : Nat) : keptBelow b s (t.countRecord r m n) := by
  unfold State.countRecord
  split
  · exact keptBelow_ite h h
  · exact h

theorem keptBelow_setUnsent (h : keptBelow b s t) (hb : b ≤ 0x400E0000) (l : List Nat) : keptBelow b s (t.setUnsent l) :=
  keptBelow_set (t := { t with wit := { t.wit with unsent := l } }) h Fld.WIT_RING_UNSENT (Nat.le_trans hb (by decide)) _

theorem keptBelow_ringWrite (h : keptBelow b s t) (hb : b ≤ 0x400E0000) (outcome : Nat) (bytes : List Byte) :
    keptBelow b s (t.ringWrite outcome bytes) := by
  unfold State.ringWrite
  extract_lets seq gone lost w s1 s2 s3
  have h1 : keptBelow b s s1 := h
  have hlost := keptBelow_setUnsent h1 hb (s1.wit.unsent.filter (fun q => !gone.contains q))
  have hcount := keptBelow_set hlost Fld.WIT_RING_OVW (Nat.le_trans hb (by decide))
  have hflag := fun v => keptBelow_raiseFlag (hcount v) Fld.WIT_STAT_RING_OVW (Nat.le_trans hb (by decide))
  have h2 : keptBelow b s s2 := keptBelow_ite h1 (keptBelow_irq (hflag _) 147)
  have h3 : keptBelow b s s3 := keptBelow_ite (keptBelow_setUnsent h2 hb _) h2
  exact keptBelow_set h3 Fld.WIT_RECSEQ_SEQ (Nat.le_trans hb (by decide)) _

theorem keptBelow_closeRecord (h : keptBelow b s t) (hb : b ≤ 0x400E0000) (r : OpenRec) (m : Measured) :
    keptBelow b s (t.closeRecord r m) := by
  unfold State.closeRecord
  extract_lets r' seq s1 s2 s3
  have hstat : b ≤ Reg.WIT_CH_STAT r'.ch := by unfold Reg.WIT_CH_STAT; omega
  have hlast : b ≤ Reg.WIT_CH_LAST r'.ch := by unfold Reg.WIT_CH_LAST; omega
  have h1 : keptBelow b s s1 := keptBelow_set (keptBelow_set (keptBelow_set h _ hstat _) _ hstat _) _ hlast _
  have hring := keptBelow_ringWrite h1 hb r'.outcome (recordBytes r' m)
  have h2 : keptBelow b s s2 := keptBelow_irq (keptBelow_countRecord hring r' m seq) 144
  have h3 : keptBelow b s s3 := keptBelow_ite (keptBelow_irq h2 145) h2
  exact keptBelow_ite (keptBelow_irq h3 154) h3

theorem keptBelow_recordRefused (h : keptBelow b s t) (hb : b ≤ 0x400E0000) (sh : Shot) (outcome fault : Nat) :
    keptBelow b s (t.recordRefused sh outcome fault) := keptBelow_closeRecord h hb _ _

/-- A shot that ends refused changes registers of the witness alone (R121, R199). -/
theorem keptBelow_refuseShot (h : keptBelow b s t) (hb : b ≤ 0x400E0000) (sh : Shot) (outcome fault : Nat) :
    keptBelow b s (t.refuseShot sh outcome fault) := keptBelow_irq (keptBelow_recordRefused h hb sh outcome fault) 67

theorem keptBelow_refuseWaiting (h : keptBelow b s t) (hb : b ≤ 0x400E0000) (p : Shot → Bool) : keptBelow b s (t.refuseWaiting p) :=
  keptBelow_foldl _ _ (fun u k h => keptBelow_foldl _ _ (fun _ w h => keptBelow_refuseShot h hb w 0xD _) _
    (keptBelow_of_regs (u := u.setQueue k _) h rfl rfl)) t h

end records

-- ── Channels and standby ──────────────────────────────────────────────────────────────────────────────────────────

section drive
variable {b : Nat} {s t : State}

theorem le_phase {b : Nat} (hb : b ≤ 0x400C0004) (n : Nat) : b ≤ (Fld.DRV_CH_STAT_PHASE n).addr := by
  simp only [Fld.DRV_CH_STAT_PHASE, Reg.DRV_CH_STAT]; omega

theorem keptBelow_setLow (h : keptBelow b s t) (n : Nat) (on fast : Bool) : keptBelow b s (t.setLow n on fast) := by
  unfold State.setLow
  exact keptBelow_ite h h

theorem keptBelow_mirrorShot (h : keptBelow b s t) (n : Nat) : keptBelow b s (t.mirrorShot n) := by
  unfold State.mirrorShot
  exact keptBelow_ite h h

/-- The event line that a shot names, where it names one. -/
theorem keptBelow_shotLine (h : keptBelow b s t) (o : Option Shot) (p : Shot → Bool) :
    keptBelow b s (match o with | some sh => if p sh then t.irq (48 + sh.line) else t | none => t) := by
  cases o with
  | none => exact h
  | some sh => exact keptBelow_ite (keptBelow_irq h _) h

theorem keptBelow_enterEnd (h : keptBelow b s t) (hb : b ≤ 0x400C0004) (n : Nat) : keptBelow b s (t.enterEnd n) := by
  unfold State.enterEnd
  extract_lets c s1 s2 s3 s4 s5
  have h1 : keptBelow b s s1 := keptBelow_set h _ (le_phase hb n) 5
  have h2 : keptBelow b s s2 := keptBelow_setLow h1 n _ _
  have h3 : keptBelow b s s3 := keptBelow_modRec h2 n _
  have h4 : keptBelow b s s4 := keptBelow_modRec h3 n _
  have h5 : keptBelow b s s5 := keptBelow_shotLine h4 c.shot (·.irqEnd)
  exact keptBelow_ite h (keptBelow_mirrorShot h5 n)

theorem keptBelow_goIdle (h : keptBelow b s t) (hb : b ≤ 0x400C0004) (n : Nat) : keptBelow b s (t.goIdle n) := by
  unfold State.goIdle
  extract_lets c
  have h1 := keptBelow_set h _ (le_phase hb n) 0
  exact keptBelow_mirrorShot (t := State.setChan _ n _) h1 n

theorem keptBelow_quench (h : keptBelow b s t) (hb : b ≤ 0x400C0004) : keptBelow b s t.quench :=
  keptBelow_foldl _ _ (fun _ n h => keptBelow_enterEnd h hb n) t h

theorem keptBelow_abortOffTest (h : keptBelow b s t) (hb : b ≤ 0x400C0004) (k : Nat) : keptBelow b s (t.abortOffTest k) := by
  have hrun : b ≤ (Fld.DRV_BANKSTAT_DIAG_RUN k).addr := by simp only [Fld.DRV_BANKSTAT_DIAG_RUN, Reg.DRV_BANKSTAT]; omega
  unfold State.abortOffTest
  have h1 : keptBelow b s (t.setBank k { t.bank k with testStep := 0, reads := [] }) := h
  exact keptBelow_ite h (keptBelow_set h1 _ hrun 0)

theorem keptBelow_standbyEntry (h : keptBelow b s t) (hb : b ≤ 0x400C0004) (n : Nat) : keptBelow b s (t.standbyEntry n) := by
  unfold State.standbyEntry
  extract_lets c run s2 s3 s1
  have h2 : keptBelow b s s2 := keptBelow_modRec h n _
  have h3 : keptBelow b s s3 := keptBelow_shotLine h2 c.shot (fun sh => sh.irqEnd && t.phase n != 5)
  have h1 : keptBelow b s s1 := keptBelow_ite (keptBelow_goIdle h3 hb n) h
  exact keptBelow_abortOffTest (keptBelow_refuseWaiting h1 (Nat.le_trans hb (by decide)) _) hb _

theorem keptBelow_maskForeign (h : keptBelow b s t) (k : Nat) : keptBelow b s (t.maskForeign k) := keptBelow_of_regs h rfl rfl

theorem keptBelow_standbyChange (h : keptBelow b s t) (hb : b ≤ 0x400C0004) (was : Bool) (n : Nat) :
    keptBelow b s (t.standbyChange was n) := by
  unfold State.standbyChange
  exact keptBelow_ite h (keptBelow_ite (keptBelow_maskForeign (keptBelow_standbyEntry h hb n) _) (keptBelow_maskForeign h _))

/-- What a change of the standby settings brings leaves DRV_CTRL alone (R158). -/
theorem keptBelow_standbyAll (h : keptBelow b s t) (hb : b ≤ 0x400C0004) (s0 : State) : keptBelow b s (t.standbyAll s0) := by
  unfold State.standbyAll
  exact keptBelow_foldl _ _ (fun _ n h => keptBelow_standbyChange h hb _ n) t h

theorem keptBelow_writeStby (h : keptBelow b s t) (hb : b ≤ 0x400C0000) (stby : Bool) : keptBelow b s (t.writeStby stby) := by
  have hctrl : b ≤ Fld.DRV_CTRL_STBY.addr := Nat.le_trans hb (by decide)
  have hdrive : b ≤ 0x400C0004 := Nat.le_trans hb (by decide)
  exact keptBelow_standbyAll (keptBelow_setFlag h _ hctrl _) hdrive t

end drive

-- ── Cells and roles ───────────────────────────────────────────────────────────────────────────────────────────────

section cells
variable {b : Nat} {s t : State}

theorem keptBelow_dropCell (h : keptBelow b s t) (f : FReg) (hf : b ≤ f.addr) : keptBelow b s (t.dropCell f) :=
  keptBelow_irq (keptBelow_set h f hf _) 228

theorem keptBelow_enqueue (h : keptBelow b s t) (hb : b ≤ 0x40100000) (p : Nat) (c : Cell) : keptBelow b s (t.enqueue p c) := by
  have hfull : b ≤ Fld.FLO_DROP_QFULL.addr := Nat.le_trans hb (by decide)
  have hqueue : ∀ x, keptBelow b s (t.setFloPort p x) := fun _ => h
  unfold State.enqueue
  extract_lets x
  refine keptBelow_ite (hqueue _) (keptBelow_ite ?_ (keptBelow_dropCell h _ hfull))
  split
  · exact keptBelow_dropCell (hqueue _) _ hfull
  · exact keptBelow_dropCell h _ hfull

theorem keptBelow_sendUnicast (h : keptBelow b s t) (hb : b ≤ 0x40100000) (c : Cell) : keptBelow b s (t.sendUnicast c) := by
  have hroute : b ≤ Fld.FLO_DROP_ROUTE.addr := Nat.le_trans hb (by decide)
  have hdeliver : keptBelow b s (t.deliver 4 c) := h
  unfold State.sendUnicast
  exact keptBelow_ite (keptBelow_ite hdeliver h) (keptBelow_ite (keptBelow_enqueue h hb _ c) (keptBelow_dropCell h _ hroute))

theorem keptBelow_sendMask (h : keptBelow b s t) (hb : b ≤ 0x40100000) (mask skip : Nat) (c : Cell) :
    keptBelow b s (t.sendMask mask skip c) :=
  keptBelow_foldl _ _ (fun _ p h => keptBelow_ite (keptBelow_enqueue h hb p c) h) t h

theorem keptBelow_sendCell (h : keptBelow b s t) (hb : b ≤ 0x40100000) (skip : Nat) (c : Cell) : keptBelow b s (t.sendCell skip c) := by
  unfold State.sendCell
  exact keptBelow_ite (keptBelow_sendMask h hb _ _ c) (keptBelow_ite (keptBelow_sendMask h hb _ _ c) (keptBelow_sendUnicast h hb c))

theorem keptBelow_emitCell (h : keptBelow b s t) (hb : b ≤ 0x40100000) (typ dst : Nat) (mc bc : Bool) (payload : List Byte) :
    keptBelow b s (t.emitCell typ dst mc bc payload) := by
  unfold State.emitCell
  extract_lets q x s1
  have h1 : keptBelow b s s1 := h
  exact keptBelow_ite h (keptBelow_sendCell h1 hb 4 _)

theorem keptBelow_mirror (h : keptBelow b s t) (hb : b ≤ 0x40100000) (payload : List Byte) : keptBelow b s (t.mirror payload) := by
  unfold State.mirror
  extract_lets x s1
  have h1 : keptBelow b s s1 := keptBelow_ite (keptBelow_of_regs h rfl rfl) h
  exact keptBelow_emitCell h1 hb _ _ _ _ payload

theorem keptBelow_requestHandover (h : keptBelow b s t) (hb : b ≤ 0x40100000) (reason : Nat) : keptBelow b s (t.requestHandover reason) := by
  unfold State.requestHandover
  extract_lets th ho
  have h1 : keptBelow b s { t with flo := { t.flo with handover := some ho } } := h
  refine keptBelow_ite h (keptBelow_ite h (keptBelow_ite ?_ (keptBelow_mirror h1 hb _)))
  exact keptBelow_set h Fld.FLO_PAIR_CNT_REFUSED (Nat.le_trans hb (by decide)) _

theorem keptBelow_leaveMaster (h : keptBelow b s t) (hb : b ≤ 0x40100000) : keptBelow b s t.leaveMaster := by
  have h1 := keptBelow_setFlag h Fld.FLO_STAT_DOM_MASTER (Nat.le_trans hb (by decide)) false
  have h2 := keptBelow_setFlag h1 Fld.FLO_DMASTER_VALID (Nat.le_trans hb (by decide)) false
  unfold State.leaveMaster
  exact keptBelow_ite h (keptBelow_irq h2 229)

theorem keptBelow_askCopy (h : keptBelow b s t) (hb : b ≤ 0x40100000) : keptBelow b s t.askCopy := by
  unfold State.askCopy
  extract_lets x
  have h1 := keptBelow_setFlag h Fld.FLO_PAIRSTAT_MIRROR_SYNC (Nat.le_trans hb (by decide)) false
  refine keptBelow_mirror ?_ hb _
  exact keptBelow_of_regs h1 rfl rfl

theorem keptBelow_setRole (h : keptBelow b s t) (hb : b ≤ 0x400C0000) (r : Nat) : keptBelow b s (t.setRole r) := by
  have hflo : b ≤ 0x40100000 := Nat.le_trans hb (by decide)
  unfold State.setRole
  extract_lets s1 s2
  have hclear : keptBelow b s t.clearExpected := h
  have h1 : keptBelow b s s1 := keptBelow_irq (keptBelow_set hclear Fld.FLO_PAIRSTAT_ROLE (Nat.le_trans hb (by decide)) r) 231
  have h2 : keptBelow b s s2 := keptBelow_ite h1 (keptBelow_writeStby h1 hb _)
  exact keptBelow_ite h (keptBelow_ite (keptBelow_askCopy (keptBelow_leaveMaster h2 hflo) hflo) h2)

theorem keptBelow_formPair (h : keptBelow b s t) (hb : b ≤ 0x400C0000) : keptBelow b s t.formPair := by
  have hfree : keptBelow b s { t with flo := { t.flo with arbFreeAt := t.now } } := h
  unfold State.formPair
  exact keptBelow_ite (keptBelow_setRole h hb 2) hfree

theorem keptBelow_portDown (h : keptBelow b s t) (hb : b ≤ 0x40100000) (p : Nat) : keptBelow b s (t.portDown p) := by
  have hstat : b ≤ (Fld.FLO_PORT_STAT_STATE p).addr := by simp only [Fld.FLO_PORT_STAT_STATE, Reg.FLO_PORT_STAT]; omega
  unfold State.portDown
  extract_lets s1
  have h1 : keptBelow b s s1 := keptBelow_set (keptBelow_set h _ hstat 0) Fld.FLO_STAT_UP (Nat.le_trans hb (by decide)) _
  exact keptBelow_ite (keptBelow_irq h1 _) h1

end cells

-- ── Entering a state (R15) ────────────────────────────────────────────────────────────────────────────────────────

section entering
variable {b : Nat} {s t : State}

theorem keptBelow_levelsFromPins (h : keptBelow b s t) (hb : b ≤ 0x40080000) : keptBelow b s t.levelsFromPins := by
  unfold State.levelsFromPins
  refine keptBelow_foldl _ _ (fun u n hu => ?_) t h
  have hstat : b ≤ (Fld.WHL_STAT_LEVEL n).addr := by simp only [Fld.WHL_STAT_LEVEL, Reg.WHL_STAT]; omega
  unfold State.levelFromPin
  exact keptBelow_ite hu (keptBelow_setFlag hu _ hstat _)

theorem keptBelow_simOff (h : keptBelow b s t) (hb : b ≤ 0x40080000) : keptBelow b s t.simOff := by
  unfold State.simOff
  extract_lets s1
  have h1 : keptBelow b s s1 := keptBelow_setFlag (keptBelow_setFlag h Fld.WHL_SIM_CTRL_EN (Nat.le_trans hb (by decide)) _)
    Fld.WHL_SIM_CTRL_RUN (Nat.le_trans hb (by decide)) _
  clear_value s1
  exact keptBelow_levelsFromPins (t := { s1 with sim := {} }) (keptBelow_of_regs h1 rfl rfl) hb

theorem keptBelow_showBoot (h : keptBelow b s t) (hb : b ≤ 0x40080000) : keptBelow b s t.showBoot :=
  keptBelow_setFlag (keptBelow_setFlag (keptBelow_set h Fld.SEC_BOOT_ACTIVE (Nat.le_trans hb (by decide)) _)
    Fld.SEC_BOOT_TRIAL (Nat.le_trans hb (by decide)) _) Fld.SEC_BOOT_ATTEMPT (Nat.le_trans hb (by decide)) _

theorem keptBelow_confirmImage (h : keptBelow b s t) (hb : b ≤ 0x40080000) : keptBelow b s t.confirmImage := by
  unfold State.confirmImage
  extract_lets f x
  have h1 : keptBelow b s (t.withSec x) := keptBelow_of_regs h rfl rfl
  exact keptBelow_ite h (keptBelow_showBoot (keptBelow_set h1 Fld.SEC_ROLLBACK_COUNT (Nat.le_trans hb (by decide)) _) hb)

theorem keptBelow_saveReg (h : keptBelow b s t) (a : Nat) : keptBelow b s (t.saveReg a) := keptBelow_of_regs h rfl rfl

theorem keptBelow_storeTables (h : keptBelow b s t) : keptBelow b s t.storeTables := by
  unfold State.storeTables
  extract_lets s1
  exact keptBelow_withSec (keptBelow_foldl _ _ (fun _ _ hu => keptBelow_saveReg hu _) t h) _

theorem keptBelow_startGovernor (h : keptBelow b s t) : keptBelow b s t.startGovernor := keptBelow_of_regs h rfl rfl
theorem keptBelow_setRearm (h : keptBelow b s t) (hb : b ≤ Reg.SYS_STAT) : keptBelow b s t.setRearm :=
  keptBelow_withSys (keptBelow_setFlag h Fld.SYS_STAT_REARM_WAIT hb true) _

/-- What an entry to a state brings with it leaves the registers of SYS, CLK and PWR alone, but for REARM_WAIT on the entry to SHUTDOWN
(R16–R18). -/
theorem keptBelow_onEntry (h : keptBelow b s t) (old n : Nat) (hb : b ≤ 0x40080000) (hn : n = 7 → b ≤ Reg.SYS_STAT) :
    keptBelow b s (t.onEntry old n) := by
  have hrec : b ≤ 0x400E0000 := Nat.le_trans hb (by decide)
  have hctrl : b ≤ 0x400C0000 := Nat.le_trans hb (by decide)
  have hdrive : b ≤ 0x400C0004 := Nat.le_trans hb (by decide)
  have hflo : b ≤ 0x40100000 := Nat.le_trans hb (by decide)
  unfold State.onEntry
  extract_lets x s1 idle shut y handed
  have h1 : keptBelow b s s1 :=
    keptBelow_ite (keptBelow_refuseWaiting h hrec _) (keptBelow_ite (keptBelow_simOff h hb) (keptBelow_ite (keptBelow_withSys h x) h))
  have hidle : keptBelow b s idle := keptBelow_confirmImage h1 hb
  have hhanded : keptBelow b s handed := keptBelow_requestHandover h1 hflo 3
  have hrearm : n = 7 → keptBelow b s shut := fun h7 => keptBelow_storeTables (keptBelow_setRearm h1 (hn h7))
  clear_value s1 idle shut handed
  split
  · exact keptBelow_ite (keptBelow_ite hidle (keptBelow_formPair hidle hctrl)) (keptBelow_ite (keptBelow_writeStby hidle hctrl _) hidle)
  split
  · exact keptBelow_startGovernor h1
  split
  · next h7 => exact keptBelow_withSys (hrearm h7) _
  split
  · exact keptBelow_ite hhanded (keptBelow_quench hhanded hdrive)
  split
  · exact keptBelow_writeStby (keptBelow_withSys h1 _) hctrl true
  · exact h1

/-- A device that enters a state shows it, and the state it leaves (R15). -/
theorem enterState_word (s : State) (n : Nat) :
    (s.enterState n).word Reg.SYS_STATE = withField Fld.SYS_STATE_STATE (withField Fld.SYS_STATE_PREV (s.word Reg.SYS_STATE) s.st) n := by
  unfold State.enterState
  extract_lets old
  rw [(keptBelow_onEntry (keptBelow_refl Reg.SYS_STAT _) old n (by decide) (fun _ => Nat.le_refl _)).1 Reg.SYS_STATE (by decide) (by decide)]
  rw [word_irq _ _ _ (by decide)]
  simp [State.set, word_setWord, Fld.SYS_STATE_STATE, Fld.SYS_STATE_PREV]
  rfl

theorem enterState_st (s : State) (n : Nat) : (s.enterState n).st = n % 16 := by
  unfold State.st State.get
  rw [show Fld.SYS_STATE_STATE.addr = Reg.SYS_STATE from rfl, enterState_word, fieldOf_withField _ _ _ (by decide)]
  rfl

theorem enterState_prev (s : State) (n : Nat) : (s.enterState n).get Fld.SYS_STATE_PREV = s.st := by
  have hst : s.st < 16 := fieldOf_lt _ _
  unfold State.get
  rw [show Fld.SYS_STATE_PREV.addr = Reg.SYS_STATE from rfl, enterState_word, fieldOf_withField_other _ _ _ _ (by decide) (by decide),
    fieldOf_withField _ _ _ (by decide)]
  exact Nat.mod_eq_of_lt hst

end entering

end Sys2Proof.Machine

/-! PROOFS. Opcodes that change the operating state (O20). -/

namespace Sys2Proof.Machine

-- ── One-bit fields ────────────────────────────────────────────────────────────────────────────────────────────────

section flags
variable (s : State)

theorem flag_setFlag (f : FReg) (v : Bool) (hw : f.lo + f.w ≤ 32) (h : 0 < f.w) : (s.setFlag f v).flag f = v := by
  have h1 : 1 < 2 ^ f.w := Nat.one_lt_two_pow (by omega)
  unfold State.flag State.setFlag
  rw [get_set s f _ hw]
  cases v <;> simp [Nat.mod_eq_of_lt h1]

theorem flag_setFlag_field (f g : FReg) (v : Bool) (hw : f.lo + f.w ≤ 32) (hd : g.lo + g.w ≤ f.lo ∨ f.lo + f.w ≤ g.lo) :
    (s.setFlag f v).flag g = s.flag g := by
  unfold State.flag State.setFlag; rw [get_set_field s f g _ hw hd]

theorem flag_setRearm : s.setRearm.flag Fld.SYS_STAT_REARM_WAIT = true := flag_setFlag s _ true (by decide) (by decide)

theorem flag_writeStby : (s.writeStby true).flag Fld.DRV_CTRL_STBY = true := by
  have h := keptBelow_standbyAll (keptBelow_refl 0x400C0004 (s.setFlag Fld.DRV_CTRL_STBY (true || s.get Fld.SYS_STATE_STATE == 9)))
    (Nat.le_refl _) s
  rw [State.writeStby, keptBelow_flag h _ (by decide) (by decide), flag_setFlag s _ _ (by decide) (by decide)]
  rfl

end flags

-- ── Entering a state, flag by flag ────────────────────────────────────────────────────────────────────────────────

section entries
variable (s : State)

theorem flag_enterState {n : Nat} (hn : n ≠ 7) (f : FReg) (ha : f.addr < 0x40080000) (hs : f.addr ≠ Reg.SYS_STATE)
    (hi : inIrqBlock f.addr = false) : (s.enterState n).flag f = s.flag f := by
  unfold State.enterState
  extract_lets old
  rw [keptBelow_flag (keptBelow_onEntry (keptBelow_refl 0x40080000 _) old n (Nat.le_refl _) (fun h => absurd h hn)) f ha hi,
    flag_irq _ _ _ hi]
  unfold State.flag
  rw [get_set_other _ _ _ _ hs, get_set_other _ _ _ _ hs]

/-- The entry to SHUTDOWN sets REARM_WAIT (R17). -/
theorem rearm_onEntry (old : Nat) : (s.onEntry old 7).flag Fld.SYS_STAT_REARM_WAIT = true := by
  unfold State.onEntry
  extract_lets x s1 idle shut y handed
  have h := keptBelow_storeTables (keptBelow_refl 0x40080000 s1.setRearm)
  have hshut : shut.flag Fld.SYS_STAT_REARM_WAIT = true := by
    rw [keptBelow_flag h _ (by decide) (by decide), flag_setRearm]
  clear_value shut
  rw [if_neg (by decide), if_neg (by decide), if_pos rfl]
  exact hshut

theorem rearm_enterShutdown : (s.enterState 7).flag Fld.SYS_STAT_REARM_WAIT = true := rearm_onEntry _ _

/-- The entry to BENCH puts the outputs in standby (R395). -/
theorem stby_enterBench : (s.enterState 9).flag Fld.DRV_CTRL_STBY = true := flag_writeStby _

end entries

-- ── Faults cleared (R444) ─────────────────────────────────────────────────────────────────────────────────────────

section clearing
variable (s : State)

theorem bitsWhere_succ (n : Nat) (p : Nat → Bool) : bitsWhere (n + 1) p = if p n then bitsWhere n p + 2 ^ n else bitsWhere n p := by
  simp [bitsWhere, List.range_succ]

theorem bitsWhere_lt (p : Nat → Bool) : ∀ n, bitsWhere n p < 2 ^ n := by
  intro n
  induction n with
  | zero => exact Nat.one_pos
  | succ n ih => rw [bitsWhere_succ, Nat.pow_succ]; split <;> omega

theorem testBit_bitsWhere (p : Nat → Bool) (k : Nat) : ∀ n, (bitsWhere n p).testBit k = (decide (k < n) && p k) := by
  intro n
  induction n with
  | zero => simp [bitsWhere]
  | succ n ih =>
    rw [bitsWhere_succ]
    split
    · next hp =>
      have hadd : bitsWhere n p + 2 ^ n = 2 ^ n ||| bitsWhere n p := by
        have h := Nat.two_pow_add_eq_or_of_lt (bitsWhere_lt p n) 1
        rw [Nat.mul_one] at h
        rw [← h, Nat.add_comm]
      rw [hadd, Nat.testBit_or, Nat.testBit_two_pow, ih]
      by_cases hk : n = k
      · subst hk; simp [hp]
      · have hlt : k < n + 1 ↔ k < n := by omega
        simp [hk, hlt]
    · next hp =>
      rw [ih]
      by_cases hk : n = k
      · subst hk; simp [hp]
      · have hlt : k < n + 1 ↔ k < n := by omega
        simp [hlt]

/-- The bits of SYS_FAULT that a W1C write leaves (R5, R444). -/
theorem getLsbD_clearFaults {v : Word} (hv : v.toNat < 2048) {k : Nat} (hk : k < 32) :
    ((s.clearFaults v).word Reg.SYS_FAULT).getLsbD k = ((s.word Reg.SYS_FAULT).getLsbD k &&
      !(v.getLsbD k && !s.faultHolds k && !(s.freshMask Reg.SYS_FAULT).getLsbD k)) := by
  have hsmall : v.getLsbD k = true → k < 11 := by
    intro h
    by_contra hge
    have h0 : v.toNat.testBit k = false :=
      Nat.testBit_lt_two_pow (Nat.lt_of_lt_of_le hv (Nat.pow_le_pow_right (n := 2) (i := 11) (by omega) (by omega)))
    rw [BitVec.getLsbD, h0] at h
    exact absurd h (by decide)
  rw [State.clearFaults, word_clearBits, if_pos rfl]
  simp only [BitVec.getLsbD_and, BitVec.getLsbD_not, BitVec.getLsbD_ofNat, testBit_bitsWhere, hk, decide_true, Bool.true_and]
  cases h : v.getLsbD k
  · simp
  · simp [hsmall h]

theorem sameBut_clearFaults (v : Word) : s.sameBut (s.clearFaults v) [Reg.SYS_FAULT] :=
  sameBut_setWord (sameBut_refl s _) (by simp) _

theorem get_clearFaults (v : Word) (f : FReg) (hf : f.addr ≠ Reg.SYS_FAULT) : (s.clearFaults v).get f = s.get f :=
  get_setWord_other s f _ _ hf

theorem clearFaults_st (v : Word) : (s.clearFaults v).st = s.st := get_clearFaults s v _ (by decide)
theorem clearFaults_key (v : Word) : (s.clearFaults v).key = s.key := by
  unfold State.key State.flag; rw [get_clearFaults s v _ (by decide)]
theorem clearFaults_stopped (v : Word) : (s.clearFaults v).stopped = s.stopped := by
  have hstat : ∀ x, (Fld.TRK_STAT_STATE x).addr ≠ Reg.SYS_FAULT := fun x => by
    simp only [Fld.TRK_STAT_STATE, Reg.TRK_STAT, Reg.SYS_FAULT]; omega
  unfold State.stopped State.trkState State.sel
  rw [get_clearFaults s v _ (hstat _), get_clearFaults s v Fld.TRK_VSEL_SEL (by decide)]

end clearing

-- ── The entry to Frost, prepared (R319) ───────────────────────────────────────────────────────────────────────────

section frost
variable (s : State)

theorem keptBelow_saveCoils {b : Nat} {t : State} (h : keptBelow b s t) : keptBelow b s t.saveCoils := by
  unfold State.saveCoils
  exact keptBelow_foldl _ _ (fun u n hu => keptBelow_of_regs (u := u.setChan n _) hu rfl rfl) t h

/-- The registers before the last steps of the preparation, which leave DRV_CTRL alone. -/
theorem keptBelow_frostPrepare :
    keptBelow 0x400C0004 ((((s.saveReg Reg.TRK_STOPA).saveCoils).writeStby true).setFlag Fld.DRV_CTRL_BOOST_EN false) s.frostPrepare := by
  unfold State.frostPrepare
  extract_lets s1
  have h1 := keptBelow_set (keptBelow_refl 0x400C0004 ((((s.saveReg Reg.TRK_STOPA).saveCoils).writeStby true).setFlag Fld.DRV_CTRL_BOOST_EN false))
    Fld.DRV_STAT_CHARGING (by decide) 0
  refine keptBelow_foldl _ _ (fun u p hu => ?_) s1 h1
  have hctrl : 0x400C0004 ≤ (Fld.FLO_PORT_CTRL_EN p).addr := by simp only [Fld.FLO_PORT_CTRL_EN, Reg.FLO_PORT_CTRL]; omega
  exact keptBelow_ite hu (keptBelow_portDown (keptBelow_setFlag hu _ hctrl false) (by decide) p)

theorem frostPrepare_stby : s.frostPrepare.flag Fld.DRV_CTRL_STBY = true := by
  rw [keptBelow_flag (keptBelow_frostPrepare s) _ (by decide) (by decide), flag_setFlag_field _ _ _ _ (by decide) (by decide), flag_writeStby]

theorem frostPrepare_boost : s.frostPrepare.flag Fld.DRV_CTRL_BOOST_EN = false := by
  rw [keptBelow_flag (keptBelow_frostPrepare s) _ (by decide) (by decide), flag_setFlag _ _ _ (by decide) (by decide)]

theorem frostPrepare_sleepReq : s.frostPrepare.pwr.sleepReq = s.pwr.sleepReq := by
  have h0 := keptBelow_saveCoils s (keptBelow_saveReg (keptBelow_refl 0x400C0000 s) Reg.TRK_STOPA)
  have h1 := keptBelow_setFlag (keptBelow_writeStby h0 (Nat.le_refl _) true) Fld.DRV_CTRL_BOOST_EN (by decide) false
  exact (keptBelow_frostPrepare s).2.trans h1.2

end frost

-- ── The opcodes (R282) ────────────────────────────────────────────────────────────────────────────────────────────

section opcodes
variable {s : State} {port : Fin 5} {p : Packet} {r : List Packet}

theorem answers_sleep (h : s.comTakes port 0x102 p r) (hp : p.payload = []) (hst : s.st = 4) (hstop : s.stopped = true)
    (hwake : s.levelWakes = 0) (hreq : s.pwr.sleepReq = false) :
    s.answers (.sleep port) port p 0 [] (fun u => u.pwr.sleepReq = true ∧ u.flag Fld.DRV_CTRL_STBY = true ∧
      u.flag Fld.DRV_CTRL_BOOST_EN = false) := by
  have hmay : (s.taken port).maySleep = true := by
    have e : s.maySleep = true := by simp [State.maySleep, hst, hstop, hwake]
    exact e
  have hreq' : (s.taken port).pwr.sleepReq = false := hreq
  refine answers_of_handle (u := ((s.taken port).withPwr { (s.taken port).pwr with sleepReq := true, wakeSeen := 0 }).frostPrepare)
    h rfl ?_ ⟨?_, ?_, ?_⟩
  · simp [hmay, bare, hp, hreq', State.done, stOk]
  · exact frostPrepare_sleepReq _
  · exact frostPrepare_stby _
  · exact frostPrepare_boost _

theorem answers_stop {u : State} (h : s.comTakes port 0x103 p r) (hp : p.payload = []) (hlo : 5 ≤ s.st) (hhi : s.st ≤ 7)
    (hc : (s.taken port).stopCommand = u.done) {q : State → Prop} (hq : q u) : s.answers (.stop port) port p 0 [] q := by
  have e : (s.taken port).st = s.st := rfl
  refine answers_of_handle h rfl ?_ hq
  simp [e, bare, hp, hc, hlo, hhi, State.done, stOk]

theorem answers_safe (h : s.comTakes port 0x104 p r) (hp : p.payload = [0x5A]) :
    s.answers (.safe port) port p 0 [] (fun u => u.flag Fld.SYS_FAULT_CMD = true ∧ s.sameBut u [Reg.SYS_FAULT]) := by
  refine answers_of_handle (u := (s.taken port).raiseFault Fld.SYS_FAULT_CMD) h rfl ?_ ⟨?_, ?_, ?_⟩
  · simp [hp, byteAt, State.done, stOk]
  · exact flag_raiseFault _ _ (by decide) (by decide) (by decide)
  · intro a ha hi
    exact word_raiseFault _ _ a (fun e => ha (by simp [e, Fld.SYS_FAULT_CMD])) hi
  · intro a
    unfold State.raiseFault State.byte
    split
    · rfl
    · rw [irq_mem]; rfl

/-- CLEAR_FAULT answers what SYS_FAULT then holds (R282, R444). -/
theorem answers_clearFault (h : s.comTakes port 0x105 p r) {v : Word} (hp : p.payload = leBytes 4 v.toNat) (hv : v.toNat < 2048)
    {q : State → Prop} (hq : q ((s.taken port).clearCommand v)) :
    s.answers (.clearFault port) port p 0 (zeros 3 ++ leBytes 4 (((s.taken port).clearCommand v).word Reg.SYS_FAULT).toNat) q := by
  have hval : leAt p.payload 0 4 = v.toNat := by
    rw [hp, ← List.append_nil (leBytes 4 v.toNat)]
    exact leAt_leBytes _ 4 _ v.isLt
  have hlen : p.payload.length = 4 := by simp [hp]
  have hin : ¬ 2048 ≤ v.toNat := by omega
  refine answers_of_handle h rfl ?_ hq
  simp [hlen, hval, hin, State.done, stOk, from4, wordBytes]

theorem answers_benchEnter (h : s.comTakes port 0x107 p r) (hp : p.payload = []) (hst : s.st = 4) (hstop : s.stopped = true) :
    s.answers (.benchEnter port) port p 0 []
      (fun u => u.st = 9 ∧ u.flag Fld.DRV_CTRL_STBY = true ∧ u.get Fld.SYS_STATE_PREV = 4) := by
  have est : (s.taken port).st = 4 := hst
  have estop : (s.taken port).stopped = true := hstop
  refine answers_of_handle (u := ((s.taken port).enterState 9).irq 255) h rfl ?_ ⟨?_, ?_, ?_⟩
  · simp [est, estop, bare, hp, State.done, stOk]
  · rw [State.st, get_irq _ _ _ (by decide)]; exact enterState_st _ 9
  · rw [flag_irq _ _ _ (by decide)]; exact stby_enterBench _
  · rw [get_irq _ _ _ (by decide), enterState_prev, est]

theorem benchExit_st : s.benchExit.st = 4 := by
  unfold State.benchExit
  extract_lets s1 s2 s3 s4 s5
  rw [State.st, get_irq _ _ _ (by decide)]
  exact enterState_st _ 4

theorem answers_benchExit (h : s.comTakes port 0x108 p r) (hp : p.payload = []) (hst : s.st = 9) :
    s.answers (.benchExit port) port p 0 [] (fun u => u.st = 4) := by
  have est : (s.taken port).st = 9 := hst
  refine answers_of_handle (u := (s.taken port).benchExit) h rfl ?_ benchExit_st
  simp [est, bare, hp, State.done, stOk]

theorem answers_hostTimeout (h : s.comTakes port 0x109 p r) {v : Nat} (hlo : 10 ≤ v) (hhi : v < 65536) (hp : p.payload = leBytes 2 v) :
    s.answers (.hostTimeout port) port p 0 []
      (fun u => u.get Fld.PKT_HOSTTIMEOUT_TIMEOUT = v ∧ s.sameBut u [Reg.PKT_HOSTTIMEOUT]) := by
  have hval : leAt p.payload 0 2 = v := by
    rw [hp, ← List.append_nil (leBytes 2 v)]
    exact leAt_leBytes _ 2 _ hhi
  have hlen : p.payload.length = 2 := by simp [hp]
  have hin : ¬ v < 10 := by omega
  refine answers_of_handle (u := (s.taken port).set Fld.PKT_HOSTTIMEOUT_TIMEOUT v) h rfl ?_ ⟨?_, ?_⟩
  · simp [hlen, hval, hin, State.done, stOk]
  · rw [get_set _ _ _ (by decide)]; exact Nat.mod_eq_of_lt hhi
  · exact sameBut_set (sameBut_refl s _) _ (by decide) v

end opcodes

/-- Settles O20: each opcode by the state that its meaning leaves. -/
theorem stateOpcodes : Obligations.StateOpcodes := by
  intro s port p r
  refine ⟨answers_sleep, fun h hp => ⟨fun hst => ?_, fun hst => ?_, fun hst => ?_⟩, answers_safe, fun h v hp hv hst => ?_,
    fun h v hp hv hst hsafe hstop hkey => ?_, answers_benchEnter, answers_benchExit,
    fun h v hlo hhi hp => answers_hostTimeout h hlo hhi hp⟩
  · have e : (s.taken port).st = 6 := hst
    exact answers_stop h hp (by omega) (by omega) (by rw [State.stopCommand, if_pos e]) ⟨enterState_st _ 7, rearm_enterShutdown _⟩
  · have e : (s.taken port).st = 5 := hst
    refine answers_stop (u := (s.taken port).setRearm.enterState 4) h hp (by omega) (by omega) (by simp [State.stopCommand, e])
      ⟨enterState_st _ 4, ?_⟩
    rw [flag_enterState _ (by decide) _ (by decide) (by decide) (by decide), flag_setRearm]
  · have e : (s.taken port).st = 7 := hst
    exact answers_stop h hp (by omega) (by omega) (by simp [State.stopCommand, e]) rfl
  · have e : (s.taken port).clearCommand v = (s.taken port).clearFaults v := by
      have hne : ((s.taken port).clearFaults v).st ≠ 8 := by rw [clearFaults_st]; exact hst
      simp [State.clearCommand, hne]
    refine ⟨((s.taken port).clearFaults v).word Reg.SYS_FAULT, fun k hk => getLsbD_clearFaults _ hv hk, ?_⟩
    rw [← e]
    refine answers_clearFault h hp hv ⟨rfl, ?_⟩
    rw [e]
    exact sameBut_clearFaults (s.taken port) v
  · refine ⟨_, answers_clearFault h hp hv ?_⟩
    have e8 : ((s.taken port).clearFaults v).st = 8 := by rw [clearFaults_st]; exact hst
    have estop : ((s.taken port).clearFaults v).stopped = true := by rw [clearFaults_stopped]; exact hstop
    have ekey : ((s.taken port).clearFaults v).key = false := by rw [clearFaults_key]; exact hkey
    simp [State.clearCommand, e8, hsafe, estop, ekey, enterState_st]

end Sys2Proof.Machine

/-! PROOFS. Firing, grants and ends (O50). -/

namespace Sys2Proof.Machine

-- ── A slot's flags (R114) ─────────────────────────────────────────────────────────────────────────────────────────

section bits

/-- A number whose bit `k` is taken away has it no more. -/
theorem testBit_sub_bit (x k : Nat) : (x - if x.testBit k then 2 ^ k else 0).testBit k = false := by
  by_cases h : x.testBit k = true
  · have hodd : x / 2 ^ k % 2 = 1 := by simpa [Nat.testBit_eq_decide_div_mod_eq] using h
    have hle : 2 ^ k * 1 ≤ x := by
      have hpos : 0 < x / 2 ^ k := Nat.pos_of_ne_zero (fun h0 => by rw [h0] at hodd; exact absurd hodd (by decide))
      rw [Nat.mul_one]
      exact (Nat.div_pos_iff.mp hpos).2
    have hdiv := Nat.sub_mul_div x (2 ^ k) 1
    rw [Nat.mul_one] at hdiv
    rw [if_pos h, Nat.testBit_eq_decide_div_mod_eq, hdiv, decide_eq_false_iff_not]
    omega
  · simp [h]

variable (s : State)

theorem bit_setBit (f : FReg) {k : Nat} (b : Bool) (hw : f.lo + f.w ≤ 32) (hk : k < f.w) : (s.setBit f k b).bit f k = b := by
  unfold State.bit State.setBit
  rw [get_set s f _ hw, Nat.testBit_mod_two_pow, decide_eq_true hk, Bool.true_and]
  cases b
  · rw [if_neg (by decide), Nat.one_shiftLeft]; exact testBit_sub_bit _ k
  · rw [if_pos rfl, Nat.one_shiftLeft, Nat.testBit_or, Nat.testBit_two_pow_self, Bool.or_true]

theorem word_setBit_other (f : FReg) (k : Nat) (b : Bool) {a : Nat} (ha : a ≠ f.addr) : (s.setBit f k b).word a = s.word a := by
  rw [State.setBit, State.set, word_setWord, if_neg ha]

end bits

/-- The slot has fired, and is no longer armed. -/
def State.spent (s : State) (n : Nat) : State := (s.setArmed n false).setFired n

section spent
variable (s : State) {n : Nat}

theorem fired_spent : (s.spent n).fired n = true := bit_setBit _ _ true (Nat.le_refl 32) (Nat.mod_lt n (by decide))

theorem armed_spent : (s.spent n).armed n = false := by
  have hne : (Fld.SCH_ARMED_ARMED (n / 32)).addr ≠ (Fld.SCH_FIRED_FIRED (n / 32)).addr := by
    simp only [Fld.SCH_ARMED_ARMED, Fld.SCH_FIRED_FIRED, Reg.SCH_ARMED, Reg.SCH_FIRED]; omega
  unfold State.spent State.setFired State.armed State.bit State.get
  rw [word_setBit_other _ _ _ _ hne]
  exact bit_setBit s (Fld.SCH_ARMED_ARMED (n / 32)) false (Nat.le_refl 32) (Nat.mod_lt n (by decide))

theorem sameBut_spent : s.sameBut (s.spent n) [Reg.SCH_ARMED (n / 32), Reg.SCH_FIRED (n / 32)] :=
  sameBut_set (sameBut_set (sameBut_refl s _) (Fld.SCH_ARMED_ARMED (n / 32)) (by simp [Fld.SCH_ARMED_ARMED]) _)
    (Fld.SCH_FIRED_FIRED (n / 32)) (by simp [Fld.SCH_FIRED_FIRED]) _

variable (hn : n < 2048)
include hn

theorem word_spent {a : Nat} (ha : a < 0x400A0400 ∨ 0x400A0600 ≤ a) : (s.spent n).word a = s.word a := by
  by_cases hi : inIrqBlock a = false
  · refine (sameBut_spent s).1 a ?_ hi
    simp only [Reg.SCH_ARMED, Reg.SCH_FIRED, List.mem_cons, List.not_mem_nil, or_false]
    omega
  · have hlow : a < 0x40040000 := by simp [inIrqBlock] at hi; omega
    unfold State.spent State.setFired State.setArmed
    rw [word_setBit_other _ _ _ _ (by simp only [Fld.SCH_FIRED_FIRED, Reg.SCH_FIRED]; omega)]
    exact word_setBit_other s _ _ _ (by simp only [Fld.SCH_ARMED_ARMED, Reg.SCH_ARMED]; omega)

-- What decides on a shot does not read the slots' flags.

theorem get_spent (f : FReg) (hf : f.addr < 0x400A0400 ∨ 0x400A0600 ≤ f.addr) : (s.spent n).get f = s.get f := by
  unfold State.get; rw [word_spent s hn hf]

theorem word_active_spent (m k : Nat) : (s.spent n).word (Reg.SCH_ACTIVE m k) = s.word (Reg.SCH_ACTIVE m k) :=
  word_spent s hn (Or.inr (by unfold Reg.SCH_ACTIVE; omega))

theorem activeDesc_spent : (s.spent n).activeDesc = s.activeDesc := by
  funext m
  unfold State.activeDesc
  rw [word_active_spent s hn, word_active_spent s hn, word_active_spent s hn, word_active_spent s hn]

theorem shotOf_spent (c m : Nat) : (s.spent n).shotOf c m false = s.shotOf c m false := by
  have hnow : (s.spent n).now = s.now := rfl
  simp only [State.shotOf, activeDesc_spent s hn, hnow, Bool.false_eq_true, if_false]

theorem isDrag_spent : (s.spent n).isDrag = s.isDrag := by
  unfold State.isDrag State.role; rw [get_spent s hn _ (by decide)]

theorem observing_spent : (s.spent n).observing = s.observing := by
  unfold State.observing State.flag; rw [get_spent s hn _ (by decide), get_spent s hn _ (by decide)]

theorem inPair_spent : (s.spent n).inPair = s.inPair := by
  funext c
  simp (disch := omega) only [State.inPair, State.bit, State.get, word_spent s hn, Fld.DRV_BANK_PAIR, Reg.DRV_BANK]

theorem chFault_spent : (s.spent n).chFault = s.chFault := by
  funext c
  simp (disch := omega) only [State.chFault, State.flag, State.get, word_spent s hn, Fld.DRV_CH_STAT_OC, Fld.DRV_CH_STAT_SHORT_BAT,
    Fld.DRV_CH_STAT_SHORT_GND, Fld.DRV_CH_STAT_OPEN, Reg.DRV_CH_STAT]

theorem bankFault_spent (k : Nat) : (s.spent n).bankFault k = s.bankFault k := by
  simp (disch := omega) only [State.bankFault, State.flag, State.get, word_spent s hn, Fld.DRV_BANKSTAT_HS_OC,
    Fld.DRV_BANKSTAT_SHORT_GND, Reg.DRV_BANKSTAT]

theorem stbySet_spent (c : Nat) : (s.spent n).stbySet c = s.stbySet c := by
  simp (disch := omega) only [State.stbySet, State.flag, State.get, word_spent s hn, Fld.DRV_CTRL_STBY, Fld.DRV_CH_CFG_STBY,
    Reg.DRV_CTRL, Reg.DRV_CH_CFG]

theorem canDrive_spent (c : Nat) : (s.spent n).canDrive c = s.canDrive c := by
  simp (disch := omega) only [State.canDrive, stbySet_spent s hn, State.flag, State.get, word_spent s hn, Fld.DRV_CTRL_EN,
    Fld.DRV_CH_CFG_EN, Reg.DRV_CTRL, Reg.DRV_CH_CFG]

theorem faultRefuses_spent (c : Nat) : (s.spent n).faultRefuses c = s.faultRefuses c := by
  unfold State.faultRefuses State.outFault State.outputChans
  rw [inPair_spent s hn, chFault_spent s hn, bankFault_spent s hn, canDrive_spent s hn, get_spent s hn _ (by decide)]

/-- The range of a cylinder, and its first PILOT. -/
theorem slotsOf_spent {c : Nat} (hc : c < 24) : (s.spent n).slotsOf c = s.slotsOf c := by
  simp (disch := omega) only [State.slotsOf, State.slotCnt, State.slotBase, State.get, word_spent s hn, Fld.SCH_CYL_C_SLOT_CNT,
    Fld.SCH_CYL_C_SLOT_BASE, Reg.SCH_CYL_C]

theorem firstPilot_spent {c : Nat} (hc : c < 24) : (s.spent n).firstPilot c = s.firstPilot c := by
  have hlatch : (s.spent n).get (Fld.SCH_CYL_E_LATCH c) = s.get (Fld.SCH_CYL_E_LATCH c) :=
    get_spent s hn _ (by simp only [Fld.SCH_CYL_E_LATCH, Reg.SCH_CYL_E]; omega)
  unfold State.firstPilot
  rw [hlatch, slotsOf_spent s hn hc, activeDesc_spent s hn]

theorem calvingSheds_spent {sh : Shot} (hc : sh.cyl - 1 < 24) : (s.spent n).calvingSheds sh = s.calvingSheds sh := by
  unfold State.calvingSheds
  rw [firstPilot_spent s hn hc, get_spent s hn _ (by decide)]

theorem thermalRefuses_spent (sh : Shot) : (s.spent n).thermalRefuses sh = s.thermalRefuses sh := by
  simp (disch := omega) only [State.thermalRefuses, State.flag, State.get, word_spent s hn, Fld.DRV_CH_STAT_TSTEP, Fld.DRV_DIE_STOP,
    Fld.DRV_DIE_HOT, Fld.DRV_DIE_PWR_OVER, Reg.DRV_CH_STAT, Reg.DRV_DIE]

theorem boostShort_spent : (s.spent n).boostShort = s.boostShort := by
  unfold State.boostShort; rw [get_spent s hn _ (by decide), get_spent s hn _ (by decide)]

theorem activeProfile_spent : (s.spent n).activeProfile = s.activeProfile := by
  funext p
  simp (disch := omega) only [State.activeProfile, word_spent s hn, Reg.PRF_ACT_CFG, Reg.PRF_ACT_REG, Reg.PRF_ACT_BOOST,
    Reg.PRF_ACT_PEAK, Reg.PRF_ACT_DROP, Reg.PRF_ACT_HOLD, Reg.PRF_ACT_END, Reg.PRF_ACT_BATT]

theorem startProfile_spent (p : Nat) : (s.spent n).startProfile p = s.startProfile p := by
  unfold State.startProfile; rw [activeProfile_spent s hn]; rfl

theorem claimFrom_spent (c : Nat) (p : Profile) (batt : Bool) (ph : Nat) : (s.spent n).claimFrom c p batt ph = s.claimFrom c p batt ph := by
  have hclaim : (s.spent n).get (Fld.DRV_CH_CFG_ICLAIM c) = s.get (Fld.DRV_CH_CFG_ICLAIM c) :=
    get_spent s hn _ (by simp only [Fld.DRV_CH_CFG_ICLAIM, Reg.DRV_CH_CFG]; omega)
  unfold State.claimFrom
  rw [hclaim, inPair_spent s hn]

theorem startClaim_spent (sh : Shot) : (s.spent n).startClaim sh = s.startClaim sh := by
  unfold State.startClaim; rw [startProfile_spent s hn, claimFrom_spent s hn]

theorem phase_spent (c : Nat) : (s.spent n).phase c = s.phase c :=
  get_spent s hn _ (by simp only [Fld.DRV_CH_STAT_PHASE, Reg.DRV_CH_STAT]; omega)

theorem mirrorHolds_spent : (s.spent n).mirrorHolds = s.mirrorHolds := by
  funext c
  have hcell : (s.spent n).cellPhase = s.cellPhase := by
    funext x; unfold State.cellPhase; rw [activeProfile_spent s hn]; rfl
  have hangle : (s.spent n).atOrBeyond = s.atOrBeyond := by
    funext a; unfold State.atOrBeyond State.out State.outAcc State.sel; rw [get_spent s hn _ (by decide)]; rfl
  have hstby : (s.spent n).inStandby c = s.inStandby c := by
    unfold State.inStandby State.underTest; rw [stbySet_spent s hn, inPair_spent s hn]; rfl
  unfold State.mirrorHolds
  rw [hcell, hangle, hstby]
  rfl

theorem occupies_spent : (s.spent n).occupies = s.occupies := by
  funext c; unfold State.occupies; rw [phase_spent s hn]

theorem bankAdmits_spent (c claim : Nat) : (s.spent n).bankAdmits c claim = s.bankAdmits c claim := by
  have hholds : (s.spent n).holdsBank = s.holdsBank := by
    funext m; unfold State.holdsBank; rw [occupies_spent s hn, mirrorHolds_spent s hn]
  have hclaim : (s.spent n).claimOf = s.claimOf := by
    funext m
    unfold State.claimOf
    rw [occupies_spent s hn, mirrorHolds_spent s hn, activeProfile_spent s hn]
    simp only [claimFrom_spent s hn]
    rfl
  unfold State.bankAdmits State.occupants State.claims
  rw [hholds, hclaim]

end spent

-- ── A source that becomes pending (R356) ──────────────────────────────────────────────────────────────────────────

section pend
variable (s : State)

theorem word_pendSource_true (n : Nat) {a : Nat} (ha : a < 0x40030120) : (s.pendSource true n).word a = s.word a := by
  have hne : a ≠ (pendWord true n).addr := by simp only [pendWord, if_true, Fld.IRQ_HPEND_PEND, Reg.IRQ_HPEND]; omega
  unfold State.pendSource
  split
  · rfl
  extract_lets s1 s2 t
  have h2 : s2.word a = s.word a := word_setBit_other s _ _ true hne
  split
  · exact h2
  · exact h2

theorem word_holdEvent (g n : Nat) (hg : g < 32) {a : Nat} (ha : 0x40030100 ≤ a) : (s.holdEvent g n).word a = s.word a := by
  have hne : a ≠ (Fld.IRQ_GRP_N g).addr := by simp only [Fld.IRQ_GRP_N, Reg.IRQ_GRP]; omega
  unfold State.holdEvent State.setHeld State.set
  extract_lets x s1
  have h1 : s1.word a = s.word a := by
    unfold s1
    split <;> rfl
  rw [word_setWord, if_neg hne]
  exact h1

/-- The host's delivery of a source leaves the firmware's pending bits alone. -/
theorem word_deliverSource_true (n : Nat) {a : Nat} (ha : 0x40030100 ≤ a) (hb : a < 0x40030120) :
    (s.deliverSource true n).word a = s.word a := by
  unfold State.deliverSource
  extract_lets g
  split
  · exact word_pendSource_true s n hb
  · exact word_holdEvent s _ n (by have := srcCgrp_lt s true n; omega) ha

theorem isPend_pendSource (n : Nat) (hn : n < 256) : (s.pendSource false n).isPend false n = true := by
  have hbit : (s.setBit (pendWord false n) (n % 32) true).isPend false n = true :=
    bit_setBit s _ true (Nat.le_refl 32) (Nat.mod_lt n (by decide))
  unfold State.pendSource
  rw [if_neg (by omega)]
  extract_lets s1 s2 t
  split
  · exact hbit
  · exact hbit

/-- An event of a source without a coalescing group, or of a level source, is pending for the firmware (R356, R357). -/
theorem isPend_irq (n : Nat) (hn : n < 256) (hg : s.get (srcCgrp false n) = 0 ∨ isLevelSource n = true) :
    (s.irq n).isPend false n = true := by
  have hfirst : s.deliverSource false n = s.pendSource false n := by
    unfold State.deliverSource
    rw [if_pos (by simpa using hg)]
  have hword : (s.irq n).word (pendWord false n).addr = (s.deliverSource false n).word (pendWord false n).addr := by
    have hlo : 0x40030100 ≤ (pendWord false n).addr := by simp only [pendWord, Bool.false_eq_true, if_false, Fld.IRQ_PEND_PEND, Reg.IRQ_PEND]; omega
    have hhi : (pendWord false n).addr < 0x40030120 := by simp only [pendWord, Bool.false_eq_true, if_false, Fld.IRQ_PEND_PEND, Reg.IRQ_PEND]; omega
    rw [← word_deliverSource_true (s.deliverSource false n) n hlo hhi]
    unfold State.irq State.watch
    split <;> rfl
  unfold State.isPend State.bit State.get
  rw [hword, hfirst]
  exact isPend_pendSource s n hn

end pend

/-- The voter's meter noted for a slot that acts (R115). -/
def State.metered (s : State) (n : Nat) : State :=
  s.withSch { s.sch with meterAt := spPut (fun _ => none) s.sch.meterAt n (some s.voter.meter) }

-- ── Firing and its order (R25, R106, R114) ────────────────────────────────────────────────────────────────────────

section firing
variable {v : State} {n c : Nat}

theorem cylOf_lt (h : v.cylOf n = some c) : c < 24 := by
  unfold State.cylOf at h
  extract_lets owns at h
  split at h
  · next hfind =>
    rw [Option.some.injEq] at h
    rw [← h]
    exact List.mem_range.mp (List.mem_of_find?_eq_some hfind)
  · exact List.mem_range.mp (List.mem_of_find?_eq_some h)

theorem fireAll_none (p : Nat → Bool) (h : ∀ m, m ∈ v.sch.firePend → p m = false) : v.fireAll p = v := by
  have hnone : v.sch.firePend.filter p = [] := List.filter_eq_nil_iff.mpr (fun m hm => by simp [h m hm])
  unfold State.fireAll
  rw [hnone]
  rfl

theorem fireDue_ready (hc : v.cylOf n = some c) (ha : v.armed n = true) (hm : v.mayFire n = true)
    (hp : v.sch.firePend.contains n = true) : v.fireDue n = v.fireSlot c n false := by
  unfold State.fireDue
  rw [hc]
  simp only [ha, hm, hp, Bool.and_self, if_true]

/-- A slot on its owner's turn: what an event slot and a shot slot do (R105, R114, R121). -/
theorem fireSlot_event (h : (v.activeDesc n).isEvent = true) : v.fireSlot c n false = ((v.spent n).metered n).eventAction (v.activeDesc n) := by
  unfold State.fireSlot
  extract_lets d s1
  rw [if_pos h]
  rfl

theorem fireSlot_shot (hn : n < 2048) (h : (v.activeDesc n).isEvent = false) (hd : v.isDrag = false) :
    v.fireSlot c n false = (v.spent n).arbitrate (v.shotOf c n false) := by
  have hs : (v.spent n).isDrag = false := by rw [isDrag_spent v hn, hd]
  have hshot := shotOf_spent v hn c n
  unfold State.fireSlot
  extract_lets d s1
  have h1 : s1 = v.spent n := rfl
  rw [if_neg (by simp [d, h]), h1, hs, hshot]
  rfl

theorem fireSlot_drag (hn : n < 2048) (h : (v.activeDesc n).isEvent = false) (hd : v.isDrag = true) :
    v.fireSlot c n false = ((v.spent n).metered n).standbyShot (v.shotOf c n false) := by
  have hs : (v.spent n).isDrag = true := by rw [isDrag_spent v hn, hd]
  have hshot := shotOf_spent v hn c n
  unfold State.fireSlot
  extract_lets d s1
  have h1 : s1 = v.spent n := rfl
  rw [if_neg (by simp [d, h]), h1, hs, hshot]
  rfl

end firing

-- ── The actions of an event slot (R105) ───────────────────────────────────────────────────────────────────────────

section action
variable (s : State) {d : Desc}

theorem eventAction_set (h : d.act = 5) : s.eventAction d = s.setAout d.target true := by
  simp [State.eventAction, h]
theorem eventAction_clear (h : d.act = 6) : s.eventAction d = s.setAout d.target false := by
  simp [State.eventAction, h]
theorem eventAction_toggle (h : d.act = 7) : s.eventAction d = s.setAout d.target (!s.drv.aout.testBit d.target) := by
  simp [State.eventAction, h]
theorem eventAction_line (h : d.act = 8) : s.eventAction d = s.irq (48 + d.target) := by
  simp [State.eventAction, h]

theorem aout_setAout (k : Nat) (b : Bool) : (s.setAout k b).drv.aout.testBit k = b := by
  unfold State.setAout
  cases b
  · exact testBit_sub_bit _ k
  · simp only [if_true, Nat.testBit_or, Nat.testBit_two_pow_self, Bool.or_true]

end action

-- ── A shot that ends refused (R121, R199, R200) ───────────────────────────────────────────────────────────────────

section frames
variable {s t u : State} {l : List Nat}

theorem sameBut_of_regs (h : s.sameBut t l) (hr : u.regs = t.regs) (hm : u.mem = t.mem) : s.sameBut u l := by
  refine ⟨fun a ha hi => ?_, fun a => ?_⟩
  · rw [← h.1 a ha hi, State.word, hr, State.word]
  · rw [← h.2 a, State.byte, hm, State.byte]

theorem sameBut_raiseFlag (h : s.sameBut t l) (f : FReg) (hf : f.addr ∈ l) : s.sameBut (t.raiseFlag f) l := sameBut_set h f hf 1

theorem sameBut_irq (h : s.sameBut t l) (n : Nat) : s.sameBut (t.irq n) l := by
  refine ⟨fun a ha hi => (word_irq t n a hi).trans (h.1 a ha hi), fun a => ?_⟩
  rw [← h.2 a, State.byte, irq_mem, State.byte]

theorem sameBut_ite {c : Prop} [Decidable c] (ht : s.sameBut t l) (hu : s.sameBut u l) : s.sameBut (if c then t else u) l := by
  split
  · exact ht
  · exact hu

theorem sameBut_get (h : s.sameBut t l) (f : FReg) (hf : f.addr ∉ l) (hi : inIrqBlock f.addr = false) : t.get f = s.get f := by
  unfold State.get; rw [h.1 _ hf hi]

end frames

/-- The registers of the witness that a record which closes changes on its channel. -/
def recordRegs (ch : Nat) : List Nat := [Reg.WIT_RECSEQ, Reg.WIT_RING, Reg.WIT_STAT, Reg.WIT_CH_STAT ch, Reg.WIT_CH_LAST ch]

section refused
variable {s t : State} {l : List Nat}

theorem sameBut_setUnsent (h : s.sameBut t l) (hl : Reg.WIT_RING ∈ l) (q : List Nat) : s.sameBut (t.setUnsent q) l :=
  sameBut_set (t := { t with wit := { t.wit with unsent := q } }) h Fld.WIT_RING_UNSENT hl _

theorem countRecord_regs (s : State) (r : OpenRec) (m : Measured) (n : Nat) : (s.countRecord r m n).regs = s.regs := by
  unfold State.countRecord
  split
  · split <;> rfl
  · rfl

theorem countRecord_mem (s : State) (r : OpenRec) (m : Measured) (n : Nat) : (s.countRecord r m n).mem = s.mem := by
  unfold State.countRecord
  split
  · split <;> rfl
  · rfl

/-- What stands before a record's number is taken: `x` entered into the ring, and what gave way counted (R208). -/
theorem sameBut_ringWrite (h : s.sameBut t l) (hl : [Reg.WIT_RECSEQ, Reg.WIT_RING, Reg.WIT_STAT] ⊆ l) (outcome : Nat) (bytes : List Byte) :
    s.sameBut (t.ringWrite outcome bytes) l := by
  have hseq : Reg.WIT_RECSEQ ∈ l := hl (by simp)
  have hring : Reg.WIT_RING ∈ l := hl (by simp)
  have hstat : Reg.WIT_STAT ∈ l := hl (by simp)
  unfold State.ringWrite
  extract_lets seq gone lost w s1 s2 s3
  have h1 : s.sameBut s1 l := h
  have hlost := sameBut_setUnsent h1 hring (s1.wit.unsent.filter (fun q => !gone.contains q))
  have hflag := fun v => sameBut_raiseFlag (sameBut_set hlost Fld.WIT_RING_OVW hring v) Fld.WIT_STAT_RING_OVW hstat
  have h2 : s.sameBut s2 l := sameBut_ite h1 (sameBut_irq (hflag _) 147)
  have h3 : s.sameBut s3 l := sameBut_ite (sameBut_setUnsent h2 hring _) h2
  exact sameBut_set h3 Fld.WIT_RECSEQ_SEQ hseq _

theorem recseq_ringWrite (s : State) (outcome : Nat) (bytes : List Byte) :
    (s.ringWrite outcome bytes).get Fld.WIT_RECSEQ_SEQ = (s.get Fld.WIT_RECSEQ_SEQ + 1) % 2 ^ 32 := by
  unfold State.ringWrite
  extract_lets seq gone lost w s1 s2 s3
  rw [get_set _ _ _ (by decide)]
  exact Nat.mod_mod _ _

/-- The lines of the sources that a closed record raises: 144, 145 and 154 (R217). -/
theorem sameBut_recordLines (h : s.sameBut t l) (p q : Prop) [Decidable p] [Decidable q] :
    s.sameBut (if q then (if p then (t.irq 144).irq 145 else t.irq 144).irq 154 else if p then (t.irq 144).irq 145 else t.irq 144) l := by
  have h2 := sameBut_irq h 144
  have h3 := sameBut_ite (c := p) (sameBut_irq h2 145) h2
  exact sameBut_ite (sameBut_irq h3 154) h3

end refused

/-- The registers after a closed record: those of the ring's entry, after the channel's last values were written. -/
theorem closeRecord_words (s : State) (r : OpenRec) (m : Measured) : ∃ t : State, s.sameBut t [Reg.WIT_CH_STAT r.ch, Reg.WIT_CH_LAST r.ch] ∧
    t.get (Fld.WIT_CH_STAT_LAST_OUT r.ch) = r.outcome % 16 ∧
    ∃ (bytes : List Byte), (t.ringWrite r.outcome bytes).sameBut (s.closeRecord r m) [] := by
  unfold State.closeRecord
  extract_lets r' seq s1 s2 s3
  have hch : r'.ch = r.ch := by unfold r'; split <;> rfl
  have hout : r'.outcome = r.outcome := by unfold r'; split <;> rfl
  have hmark : s.sameBut s1 [Reg.WIT_CH_STAT r'.ch, Reg.WIT_CH_LAST r'.ch] := by
    have hstat : Reg.WIT_CH_STAT r'.ch ∈ [Reg.WIT_CH_STAT r'.ch, Reg.WIT_CH_LAST r'.ch] := by simp
    have hlast : Reg.WIT_CH_LAST r'.ch ∈ [Reg.WIT_CH_STAT r'.ch, Reg.WIT_CH_LAST r'.ch] := by simp
    have h1 := sameBut_set (sameBut_refl s _) (Fld.WIT_CH_STAT_LAST_CONF r'.ch) hstat m.openConf
    exact sameBut_set (sameBut_set h1 (Fld.WIT_CH_STAT_LAST_OUT r'.ch) hstat r'.outcome) (Fld.WIT_CH_LAST_OPEN_T r'.ch) hlast m.openT
  have hne : (Fld.WIT_CH_STAT_LAST_OUT r'.ch).addr ≠ (Fld.WIT_CH_LAST_OPEN_T r'.ch).addr := by
    simp only [Fld.WIT_CH_STAT_LAST_OUT, Fld.WIT_CH_LAST_OPEN_T, Reg.WIT_CH_STAT, Reg.WIT_CH_LAST]; omega
  have hget : s1.get (Fld.WIT_CH_STAT_LAST_OUT r'.ch) = r'.outcome % 16 := by
    unfold s1
    rw [get_set_other _ _ _ _ hne, get_set _ _ _ (by decide : 12 + 4 ≤ 32)]
    rfl
  refine ⟨s1, by rw [← hch]; exact hmark, by rw [← hch, ← hout]; exact hget, recordBytes r' m, ?_⟩
  rw [← hout]
  have hcount := sameBut_of_regs (sameBut_refl (s1.ringWrite r'.outcome (recordBytes r' m)) []) (countRecord_regs _ r' m seq) (countRecord_mem _ r' m seq)
  exact sameBut_recordLines hcount _ _

theorem inIrqBlock_above {a : Nat} (h : 0x40040000 ≤ a) : inIrqBlock a = false := by
  unfold inIrqBlock
  rw [Bool.and_eq_false_iff, decide_eq_false_iff_not, decide_eq_false_iff_not]
  omega

section refusal
variable (s : State) (sh : Shot) (outcome fault : Nat)

/-- What a refused shot leaves in the registers: as of a record that closes on its channel. -/
theorem refuseShot_words : ∃ t : State, s.sameBut t [Reg.WIT_CH_STAT sh.ch, Reg.WIT_CH_LAST sh.ch] ∧
    t.get (Fld.WIT_CH_STAT_LAST_OUT sh.ch) = outcome % 16 ∧
    ∃ (o : Nat) (bytes : List Byte), (t.ringWrite o bytes).sameBut (s.refuseShot sh outcome fault) [] := by
  obtain ⟨r, hr, hch, hout⟩ : ∃ r, s.recordRefused sh outcome fault = s.closeRecord r Measured.none ∧ r.ch = sh.ch ∧ r.outcome = outcome := by
    refine ⟨_, rfl, ?_, ?_⟩
    · split <;> rfl
    · split <;> rfl
  obtain ⟨t, hmark, hget, bytes, hring⟩ := closeRecord_words s r Measured.none
  rw [hch] at hmark hget
  rw [hout] at hget
  refine ⟨t, hmark, hget, r.outcome, bytes, ?_⟩
  unfold State.refuseShot
  rw [hr]
  exact sameBut_irq hring 67

theorem sameBut_refuseShot : s.sameBut (s.refuseShot sh outcome fault) (recordRegs sh.ch) := by
  obtain ⟨t, hmark, -, o, bytes, hring⟩ := refuseShot_words s sh outcome fault
  have hwrite : t.sameBut (t.ringWrite o bytes) (recordRegs sh.ch) :=
    sameBut_ringWrite (sameBut_refl t _) (by simp [recordRegs]) o bytes
  refine ⟨fun a ha hi => ?_, fun a => (hring.2 a).trans ((hwrite.2 a).trans (hmark.2 a))⟩
  refine (hring.1 a List.not_mem_nil hi).trans ((hwrite.1 a ha hi).trans (hmark.1 a ?_ hi))
  simp only [recordRegs, List.mem_cons, List.not_mem_nil, or_false, not_or] at ha ⊢
  exact ha.2.2.2

theorem lastOut_refuseShot (hch : sh.ch < 48) : (s.refuseShot sh outcome fault).get (Fld.WIT_CH_STAT_LAST_OUT sh.ch) = outcome % 16 := by
  obtain ⟨t, -, hget, o, bytes, hring⟩ := refuseShot_words s sh outcome fault
  have hi : inIrqBlock (Fld.WIT_CH_STAT_LAST_OUT sh.ch).addr = false := inIrqBlock_above (by
    simp only [Fld.WIT_CH_STAT_LAST_OUT, Reg.WIT_CH_STAT]; omega)
  have hwrite : t.sameBut (t.ringWrite o bytes) [Reg.WIT_RECSEQ, Reg.WIT_RING, Reg.WIT_STAT] := sameBut_ringWrite (sameBut_refl t _) (fun _ h => h) o bytes
  rw [sameBut_get hring _ List.not_mem_nil hi, sameBut_get hwrite _ _ hi, hget]
  simp only [Fld.WIT_CH_STAT_LAST_OUT, Reg.WIT_CH_STAT, Reg.WIT_RECSEQ, Reg.WIT_RING, Reg.WIT_STAT, List.mem_cons, List.not_mem_nil, or_false]
  omega

theorem recseq_refuseShot : (s.refuseShot sh outcome fault).get Fld.WIT_RECSEQ_SEQ = (s.get Fld.WIT_RECSEQ_SEQ + 1) % 2 ^ 32 := by
  obtain ⟨t, hmark, -, o, bytes, hring⟩ := refuseShot_words s sh outcome fault
  rw [sameBut_get hring _ List.not_mem_nil (by decide), recseq_ringWrite, sameBut_get hmark _ _ (by decide)]
  simp only [Fld.WIT_RECSEQ_SEQ, Reg.WIT_RECSEQ, Reg.WIT_CH_STAT, Reg.WIT_CH_LAST, List.mem_cons, List.not_mem_nil, or_false]
  omega

theorem ringWrite_banks (o : Nat) (bytes : List Byte) : (s.ringWrite o bytes).banks = s.banks := by
  unfold State.ringWrite
  extract_lets seq gone lost w s1 s2 s3
  have h2 : s2.banks = s.banks := by
    unfold s2
    split
    · rfl
    · exact irq_banks _ 147
  have h3 : s3.banks = s.banks := by
    unfold s3
    split
    · exact h2
    · exact h2
  exact h3

theorem countRecord_banks (r : OpenRec) (m : Measured) (n : Nat) : (s.countRecord r m n).banks = s.banks := by
  unfold State.countRecord
  split
  · split <;> rfl
  · rfl

theorem closeRecord_banks (r : OpenRec) (m : Measured) : (s.closeRecord r m).banks = s.banks := by
  unfold State.closeRecord
  extract_lets r' seq s1 s2 s3
  have h2 : s2.banks = s.banks := by
    unfold s2
    rw [irq_banks, countRecord_banks, ringWrite_banks]
    rfl
  have h3 : s3.banks = s.banks := by
    unfold s3
    split
    · rw [irq_banks, h2]
    · exact h2
  split
  · rw [irq_banks, h3]
  · exact h3

@[simp] theorem refuseShot_banks : (s.refuseShot sh outcome fault).banks = s.banks := by
  unfold State.refuseShot State.recordRefused
  rw [irq_banks, closeRecord_banks]

end refusal

/-- A slot that has fired stays so where words outside the witness stand. -/
theorem fired_of_kept {s t : State} {n : Nat} (hn : n < 2048) (h : keptBelow 0x400C0004 s t) : t.fired n = s.fired n := by
  have hi : inIrqBlock (Fld.SCH_FIRED_FIRED (n / 32)).addr = false := inIrqBlock_above (by simp only [Fld.SCH_FIRED_FIRED, Reg.SCH_FIRED]; omega)
  unfold State.fired State.bit
  rw [keptBelow_get h _ (by simp only [Fld.SCH_FIRED_FIRED, Reg.SCH_FIRED]; omega) hi]

theorem armed_of_kept {s t : State} {n : Nat} (hn : n < 2048) (h : keptBelow 0x400C0004 s t) : t.armed n = s.armed n := by
  have hi : inIrqBlock (Fld.SCH_ARMED_ARMED (n / 32)).addr = false := inIrqBlock_above (by simp only [Fld.SCH_ARMED_ARMED, Reg.SCH_ARMED]; omega)
  unfold State.armed State.bit
  rw [keptBelow_get h _ (by simp only [Fld.SCH_ARMED_ARMED, Reg.SCH_ARMED]; omega) hi]

theorem keptBelow_mono {b d : Nat} {s t : State} (h : keptBelow b s t) (hd : d ≤ b) : keptBelow d s t :=
  ⟨fun a ha hi => h.1 a (Nat.lt_of_lt_of_le ha hd) hi, h.2⟩

theorem phase_of_kept {s t : State} {c : Nat} (hc : c < 48) (h : keptBelow 0x400E0000 s t) : t.phase c = s.phase c := by
  have hi : inIrqBlock (Fld.DRV_CH_STAT_PHASE c).addr = false := inIrqBlock_above (by simp only [Fld.DRV_CH_STAT_PHASE, Reg.DRV_CH_STAT]; omega)
  exact keptBelow_get h _ (by simp only [Fld.DRV_CH_STAT_PHASE, Reg.DRV_CH_STAT]; omega) hi

-- ── A channel that takes a shot (R119, R143, R192, R194) ──────────────────────────────────────────────────────────

/-- From `s` to `t` channel `n` keeps its shot, with its start and its outcome, and its phase; and the banks stand. -/
def runKept (n : Nat) (s t : State) : Prop :=
  ((t.chan n).shot = (s.chan n).shot ∧ (t.chan n).startAt = (s.chan n).startAt ∧ (t.chan n).outcome = (s.chan n).outcome) ∧
  t.banks = s.banks ∧ t.phase n = s.phase n

section run
variable {s t u : State} {n : Nat}

theorem runKept_refl (n : Nat) (s : State) : runKept n s s := ⟨⟨rfl, rfl, rfl⟩, rfl, rfl⟩

theorem runKept_trans (h : runKept n s t) (k : runKept n t u) : runKept n s u := by
  obtain ⟨⟨hshot, hat, hout⟩, hbanks, hphase⟩ := h
  obtain ⟨⟨kshot, kat, kout⟩, kbanks, kphase⟩ := k
  exact ⟨⟨kshot.trans hshot, kat.trans hat, kout.trans hout⟩, kbanks.trans hbanks, kphase.trans hphase⟩

theorem runKept_of_eq (h : runKept n s t) (hc : u.chans = t.chans) (hb : u.banks = t.banks) (hr : u.regs = t.regs) : runKept n s u := by
  refine runKept_trans h ⟨?_, hb, ?_⟩
  · rw [State.chan, hc, State.chan]
    exact ⟨rfl, rfl, rfl⟩
  · unfold State.phase State.get State.word
    rw [hr]

theorem runKept_ite {c : Prop} [Decidable c] (ht : runKept n s t) (hu : runKept n s u) : runKept n s (if c then t else u) := by
  split
  · exact ht
  · exact hu

theorem runKept_setChan (h : runKept n s t) {x : Chan} (hx : x.shot = (t.chan n).shot ∧ x.startAt = (t.chan n).startAt ∧ x.outcome = (t.chan n).outcome) :
    runKept n s (t.setChan n x) := by
  refine runKept_trans h ⟨?_, rfl, rfl⟩
  rw [chan_setChan, if_pos rfl]
  exact hx

theorem runKept_set (h : runKept n s t) (f : FReg) (hf : f.addr ≠ Reg.DRV_CH_STAT n) (v : Nat) : runKept n s (t.set f v) :=
  runKept_trans h ⟨⟨rfl, rfl, rfl⟩, rfl, get_set_other t f _ v (Ne.symm hf)⟩

theorem runKept_setFlag (h : runKept n s t) (f : FReg) (hf : f.addr ≠ Reg.DRV_CH_STAT n) (b : Bool) : runKept n s (t.setFlag f b) :=
  runKept_set h f hf _

/-- What PRF_CHn_STAT shows of a shot that starts (R194). -/
theorem runKept_profileShown (h : runKept n s t) (profile : Nat) (batt onoff : Bool) :
    runKept n s (((((t.set (Fld.PRF_CH_STAT_END_OVER n) 0).set (Fld.PRF_CH_STAT_PEAK_MISS n) 0).set
      (Fld.PRF_CH_STAT_PROFILE n) profile).setFlag (Fld.PRF_CH_STAT_BATT n) batt).setFlag (Fld.PRF_CH_STAT_ONOFF n) onoff) := by
  have hne : Reg.PRF_CH_STAT n ≠ Reg.DRV_CH_STAT n := by unfold Reg.PRF_CH_STAT Reg.DRV_CH_STAT; omega
  have h1 := runKept_set h (Fld.PRF_CH_STAT_END_OVER n) hne 0
  have h2 := runKept_set h1 (Fld.PRF_CH_STAT_PEAK_MISS n) hne 0
  have h3 := runKept_set h2 (Fld.PRF_CH_STAT_PROFILE n) hne profile
  exact runKept_setFlag (runKept_setFlag h3 (Fld.PRF_CH_STAT_BATT n) hne batt) (Fld.PRF_CH_STAT_ONOFF n) hne onoff

theorem runKept_setOpenRecs (h : runKept n s t) (m : Nat) (l : List OpenRec) : runKept n s (t.setOpenRecs m l) :=
  runKept_of_eq h rfl rfl rfl

theorem runKept_irq (hn : n < 48) (h : runKept n s t) (k : Nat) : runKept n s (t.irq k) := by
  have hi : inIrqBlock (Fld.DRV_CH_STAT_PHASE n).addr = false := inIrqBlock_above (by simp only [Fld.DRV_CH_STAT_PHASE, Reg.DRV_CH_STAT]; omega)
  refine runKept_trans h ⟨?_, irq_banks t k, get_irq t k _ hi⟩
  rw [State.chan, irq_chans, State.chan]
  exact ⟨rfl, rfl, rfl⟩

theorem runKept_setLow (h : runKept n s t) (on fast : Bool) : runKept n s (t.setLow n on fast) := by
  unfold State.setLow
  exact runKept_ite (runKept_setChan h ⟨rfl, rfl, rfl⟩) (runKept_setChan h ⟨rfl, rfl, rfl⟩)

theorem runKept_chop (h : runKept n s t) : runKept n s ((t.setChan n { t.chan n with chopping := true }).setLow n true false) :=
  runKept_setLow (runKept_setChan (x := { t.chan n with chopping := true }) h ⟨rfl, rfl, rfl⟩) _ _

theorem modRec_chans (s : State) (ch : Nat) (f : OpenRec → OpenRec) : (s.modRec ch f).chans = s.chans := by
  unfold State.modRec
  split
  · rfl
  · split <;> rfl

theorem modRec_banks (s : State) (ch : Nat) (f : OpenRec → OpenRec) : (s.modRec ch f).banks = s.banks := by
  unfold State.modRec
  split
  · rfl
  · split <;> rfl

theorem runKept_modRec (h : runKept n s t) (m : Nat) (f : OpenRec → OpenRec) : runKept n s (t.modRec m f) :=
  runKept_of_eq h (modRec_chans t m f) (modRec_banks t m f) (modRec_regs t m f)

theorem runKept_mirrorShot (h : runKept n s t) (m : Nat) : runKept n s (t.mirrorShot m) := by
  unfold State.mirrorShot
  exact runKept_ite (runKept_of_eq h rfl rfl rfl) h

theorem runKept_shareNode (h : runKept n s t) (m : Nat) : runKept n s (t.shareNode m) := by
  have key : ∀ (l : List Nat) (t : State), runKept n s t →
      runKept n s (l.foldl (fun s m => s.modRec m (fun r => { r with flags := r.flags ||| 8 })) t) := by
    intro l
    induction l with
    | nil => exact fun _ h => h
    | cons m l ih => exact fun _ h => ih _ (runKept_modRec h m _)
  exact key _ t h

theorem runKept_startCapture (hn : n < 48) (h : runKept n s t) (m : Nat) : runKept n s (t.startCapture m) := by
  have hne : Fld.WIT_WAVE_ARM.addr ≠ Reg.DRV_CH_STAT n := by
    simp only [Fld.WIT_WAVE_ARM, Reg.WIT_WAVE, Reg.DRV_CH_STAT]; omega
  have hset : runKept n s (t.setFlag Fld.WIT_WAVE_ARM false) := runKept_set h _ hne _
  unfold State.startCapture
  exact runKept_ite (runKept_of_eq hset rfl rfl rfl) h

/-- The channel shows the phase that it enters, and keeps its shot (R175). -/
theorem enterPhase_run (s : State) (n : Nat) {ph : Nat} (hph : ph < 16) :
    runKept n (s.set (Fld.DRV_CH_STAT_PHASE n) ph) (s.enterPhase n ph) ∧ (s.enterPhase n ph).phase n = ph := by
  have hne : (Fld.PRF_CH_STAT_SP n).addr ≠ Reg.DRV_CH_STAT n := by
    simp only [Fld.PRF_CH_STAT_SP, Reg.PRF_CH_STAT, Reg.DRV_CH_STAT]; omega
  have hrun : runKept n (s.set (Fld.DRV_CH_STAT_PHASE n) ph) (s.enterPhase n ph) := by
    unfold State.enterPhase
    extract_lets c code s1 s2 s3 s4
    have h1 : runKept n (s.set (Fld.DRV_CH_STAT_PHASE n) ph) s1 := runKept_set (runKept_refl n _) _ hne code
    have h2 : runKept n (s.set (Fld.DRV_CH_STAT_PHASE n) ph) s2 := runKept_setChan h1 ⟨rfl, rfl, rfl⟩
    have h3 : runKept n (s.set (Fld.DRV_CH_STAT_PHASE n) ph) s3 :=
      runKept_ite (runKept_setLow h2 _ _) (runKept_ite h2 (runKept_modRec (runKept_setLow h2 _ _) _ _))
    have h4 : runKept n (s.set (Fld.DRV_CH_STAT_PHASE n) ph) s4 := runKept_ite (runKept_modRec h3 _ _) h3
    exact runKept_mirrorShot h4 n
  refine ⟨hrun, hrun.2.2.trans ?_⟩
  exact (get_set s (Fld.DRV_CH_STAT_PHASE n) ph (by decide : 8 + 4 ≤ 32)).trans (Nat.mod_eq_of_lt hph)

end run

theorem after_lt (p : Profile) (batt : Bool) (ph : Nat) : p.after batt ph < 16 := by
  unfold Profile.after
  split_ifs <;> decide

section queues
variable (s : State)

theorem mergeRunning_banks (n : Nat) : (s.mergeRunning n).banks = s.banks := by
  unfold State.mergeRunning
  extract_lets c ph e s2 s3
  have he : e.2.banks = s.banks := by
    unfold e State.freeIf
    split <;> rfl
  have h2 : s2.banks = s.banks := (modRec_banks _ _ _).trans he
  have h3 : s3.banks = s.banks := by
    unfold s3
    split
    · split
      · exact (irq_banks _ _).trans h2
      · exact h2
    · exact h2
  exact h3

theorem queue_abortOffTest (j k : Nat) : (s.abortOffTest j).queue k = s.queue k := by
  have hset : ((s.setBank j { s.bank j with testStep := 0, reads := [] }).queue k) = s.queue k := by
    unfold State.queue
    rw [bank_setBank]
    split
    · next h => rw [h]
    · rfl
  unfold State.abortOffTest
  split
  · rfl
  · exact hset

theorem queue_of_banks {s t : State} (h : t.banks = s.banks) (k : Nat) : t.queue k = s.queue k := by
  unfold State.queue State.bank; rw [h]

end queues

/-- Channel `n` holds a shot with its start and its outcome, and the queues are `q`. -/
def Loaded (n : Nat) (sh : Shot) (at_ outcome : Nat) (q : Nat → List Shot) (u : State) : Prop :=
  ((u.chan n).shot = some sh ∧ (u.chan n).startAt = at_ ∧ (u.chan n).outcome = outcome) ∧ ∀ k, u.queue k = q k

theorem loaded_of_kept {n : Nat} {sh : Shot} {at_ outcome : Nat} {q : Nat → List Shot} {s t : State} (h : runKept n s t)
    (hs : Loaded n sh at_ outcome q s) : Loaded n sh at_ outcome q t := by
  obtain ⟨⟨hshot, hat, hout⟩, hbanks, -⟩ := h
  obtain ⟨⟨kshot, kat, kout⟩, hq⟩ := hs
  exact ⟨⟨hshot.trans kshot, hat.trans kat, hout.trans kout⟩, fun k => (queue_of_banks hbanks k).trans (hq k)⟩

theorem loaded_setChan {n : Nat} {q : Nat → List Shot} {s : State} (x : Chan) {sh : Shot} (hx : x.shot = some sh) (hq : ∀ k, s.queue k = q k) :
    Loaded n sh x.startAt x.outcome q (s.setChan n x) := by
  unfold Loaded
  rw [chan_setChan, if_pos rfl]
  exact ⟨⟨hx, rfl, rfl⟩, hq⟩

theorem loaded_enterPhase {n : Nat} {sh : Shot} {at_ outcome : Nat} {q : Nat → List Shot} {s : State} {ph : Nat} (hph : ph < 16)
    (hs : Loaded n sh at_ outcome q s) : Loaded n sh at_ outcome q (s.enterPhase n ph) :=
  loaded_of_kept (s := s.set (Fld.DRV_CH_STAT_PHASE n) ph) (enterPhase_run s n hph).1 hs

/-- A shot that starts on its channel: its channel holds it with its start and outcome in the first phase of its profile; no queue changes. -/
theorem startShot_run (s : State) (sh : Shot) (outcome : Nat) (hch : sh.ch < 48) :
    Loaded sh.ch sh s.now outcome s.queue (s.startShot sh outcome) ∧
    (s.startShot sh outcome).phase sh.ch = (s.startProfile sh.profile).after sh.batt 0 := by
  unfold State.startShot
  extract_lets n p running s1 s4 direct corr s5 dur c5 s6 s7 rec0 flags s8 s9 c9 s10 s11
  have hn : n < 48 := hch
  have hq1 : s1.banks = s.banks := by
    unfold s1
    split
    · exact mergeRunning_banks s n
    · exact modRec_banks s n _
  have hq4 : ∀ k, s4.queue k = s.queue k := fun k => (queue_abortOffTest s1 _ k).trans (queue_of_banks hq1 k)
  have hq5 : s5.banks = s4.banks := by
    unfold s5
    split
    · rfl
    · split
      · exact irq_banks _ _
      · rfl
  have h6 : Loaded n sh s.now outcome s.queue s6 := loaded_setChan _ rfl (fun k => (queue_of_banks hq5 k).trans (hq4 k))
  clear_value s6
  have h7 : Loaded n sh s.now outcome s.queue s7 := loaded_of_kept (runKept_profileShown (runKept_refl n s6) sh.profile sh.batt p.onoff) h6
  clear_value s7
  have h8 : Loaded n sh s.now outcome s.queue s8 := loaded_of_kept (runKept_setOpenRecs (runKept_refl n s7) n _) h7
  clear_value s8
  have h9 : Loaded n sh s.now outcome s.queue s9 := loaded_enterPhase (after_lt p sh.batt 0) h8
  have hphase : s9.phase n = p.after sh.batt 0 := (enterPhase_run s8 n (after_lt p sh.batt 0)).2
  clear_value s9
  have h10 : runKept n s9 s10 := runKept_ite (runKept_refl n s9) (runKept_chop (runKept_refl n s9))
  clear_value s10
  have h11 : runKept n s9 s11 := runKept_startCapture hn (runKept_shareNode h10 n) n
  clear_value s11
  have hend : runKept n s9 (if sh.irqStart = true then s11.irq (48 + sh.line) else s11) := runKept_ite (runKept_irq hn h11 _) h11
  exact ⟨loaded_of_kept hend h9, hend.2.2.trans hphase⟩

section keptStart
variable {b : Nat} {s t : State}

theorem keptBelow_mergeRunning (h : keptBelow b s t) (hb : b ≤ 0x400C0004) (n : Nat) : keptBelow b s (t.mergeRunning n) := by
  have hstat : b ≤ (Fld.PRF_CH_STAT_RESTARTS n).addr := by simp only [Fld.PRF_CH_STAT_RESTARTS, Reg.PRF_CH_STAT]; omega
  unfold State.mergeRunning
  extract_lets c ph e s2 s3
  have he : keptBelow b s e.2 := by
    unfold e State.freeIf
    split
    · exact keptBelow_of_regs h rfl rfl
    · exact h
  have h2 : keptBelow b s s2 := keptBelow_modRec he n _
  have h3 : keptBelow b s s3 := keptBelow_shotLine h2 c.shot (fun old => old.irqEnd && ph != 5)
  exact keptBelow_set h3 _ hstat _

theorem keptBelow_startCapture (h : keptBelow b s t) (hb : b ≤ 0x400C0004) (n : Nat) : keptBelow b s (t.startCapture n) := by
  have harm := keptBelow_setFlag h Fld.WIT_WAVE_ARM (Nat.le_trans hb (by decide)) false
  unfold State.startCapture
  exact keptBelow_ite (keptBelow_of_regs harm rfl rfl) h

theorem keptBelow_setChan (h : keptBelow b s t) (n : Nat) (x : Chan) : keptBelow b s (t.setChan n x) := keptBelow_of_regs h rfl rfl

theorem keptBelow_setOpenRecs (h : keptBelow b s t) (n : Nat) (l : List OpenRec) : keptBelow b s (t.setOpenRecs n l) := keptBelow_of_regs h rfl rfl

theorem keptBelow_chop (h : keptBelow b s t) (n : Nat) :
    keptBelow b s ((t.setChan n { t.chan n with chopping := true }).setLow n true false) :=
  keptBelow_setLow (keptBelow_setChan h n _) n true false

theorem keptBelow_shareNode (h : keptBelow b s t) (n : Nat) : keptBelow b s (t.shareNode n) :=
  keptBelow_foldl _ _ (fun _ m h => keptBelow_modRec h m _) t h

theorem keptBelow_enterPhase (h : keptBelow b s t) (hb : b ≤ 0x400C0004) (n ph : Nat) : keptBelow b s (t.enterPhase n ph) := by
  have hsp : b ≤ (Fld.PRF_CH_STAT_SP n).addr := by simp only [Fld.PRF_CH_STAT_SP, Reg.PRF_CH_STAT]; omega
  unfold State.enterPhase
  extract_lets c code s1 s2 s3 s4
  have h1 : keptBelow b s s1 := keptBelow_set (keptBelow_set h _ (le_phase hb n) ph) _ hsp code
  have h2 : keptBelow b s s2 := keptBelow_setChan h1 n _
  have h3 : keptBelow b s s3 := keptBelow_ite (keptBelow_setLow h2 n _ _) (keptBelow_ite h2 (keptBelow_modRec (keptBelow_setLow h2 n _ _) n _))
  have h4 : keptBelow b s s4 := keptBelow_ite (keptBelow_modRec h3 n _) h3
  exact keptBelow_mirrorShot h4 n

theorem keptBelow_profileShown (h : keptBelow b s t) (hb : b ≤ 0x400C0004) (n profile : Nat) (batt onoff : Bool) :
    keptBelow b s (((((t.set (Fld.PRF_CH_STAT_END_OVER n) 0).set (Fld.PRF_CH_STAT_PEAK_MISS n) 0).set
      (Fld.PRF_CH_STAT_PROFILE n) profile).setFlag (Fld.PRF_CH_STAT_BATT n) batt).setFlag (Fld.PRF_CH_STAT_ONOFF n) onoff) := by
  have hstat : b ≤ Reg.PRF_CH_STAT n := by unfold Reg.PRF_CH_STAT; omega
  have h1 := keptBelow_set h (Fld.PRF_CH_STAT_END_OVER n) hstat 0
  have h2 := keptBelow_set h1 (Fld.PRF_CH_STAT_PEAK_MISS n) hstat 0
  have h3 := keptBelow_set h2 (Fld.PRF_CH_STAT_PROFILE n) hstat profile
  exact keptBelow_setFlag (keptBelow_setFlag h3 (Fld.PRF_CH_STAT_BATT n) hstat batt) (Fld.PRF_CH_STAT_ONOFF n) hstat onoff

/-- A shot that starts changes registers of the output stage, the profiles and the witness alone (R119, R194). -/
theorem keptBelow_startShot (h : keptBelow b s t) (hb : b ≤ 0x400C0004) (sh : Shot) (outcome : Nat) :
    keptBelow b s (t.startShot sh outcome) := by
  unfold State.startShot
  extract_lets n p running s1 s4 direct corr s5 dur c5 s6 s7 rec0 flags s8 s9 c9 s10 s11
  have hsat : b ≤ (Fld.WIT_CH_STAT_SAT n).addr := by simp only [Fld.WIT_CH_STAT_SAT, Reg.WIT_CH_STAT]; omega
  have h1 : keptBelow b s s1 := keptBelow_ite (keptBelow_mergeRunning h hb n) (keptBelow_modRec h n _)
  clear_value s1
  have h4 : keptBelow b s s4 := keptBelow_abortOffTest h1 hb _
  clear_value s4
  have h5 : keptBelow b s s5 := keptBelow_ite h4 (keptBelow_ite (keptBelow_irq (keptBelow_setFlag h4 _ hsat true) 153) (keptBelow_setFlag h4 _ hsat false))
  clear_value s5
  have h6 : keptBelow b s s6 := keptBelow_setChan h5 n _
  clear_value s6
  have h7 : keptBelow b s s7 := keptBelow_profileShown h6 hb n sh.profile sh.batt p.onoff
  clear_value s7
  have h8 : keptBelow b s s8 := keptBelow_setOpenRecs h7 n _
  clear_value s8
  have h9 : keptBelow b s s9 := keptBelow_enterPhase h8 hb n _
  clear_value s9
  have h10 : keptBelow b s s10 := keptBelow_ite h9 (keptBelow_chop h9 n)
  clear_value s10
  have h11 : keptBelow b s s11 := keptBelow_startCapture (keptBelow_shareNode h10 n) hb n
  exact keptBelow_ite (keptBelow_irq h11 _) h11

end keptStart

/-- What a shot that starts leaves, its slot among it (R115, R212). -/
theorem beginShot_run (s : State) (sh : Shot) (outcome : Nat) (hch : sh.ch < 48) :
    Loaded sh.ch sh s.now outcome s.queue (s.beginShot sh outcome) ∧
    (s.beginShot sh outcome).phase sh.ch = (s.startProfile sh.profile).after sh.batt 0 ∧ keptBelow 0x400C0004 s (s.beginShot sh outcome) := by
  obtain ⟨hrun, hphase⟩ := startShot_run s sh outcome hch
  have hkept := keptBelow_startShot (keptBelow_refl 0x400C0004 s) (Nat.le_refl _) sh outcome
  unfold State.beginShot
  extract_lets s0 s1
  have hs0 : s0 = s.startShot sh outcome := rfl
  clear_value s0
  rw [← hs0] at hrun hphase hkept
  have h1 : runKept sh.ch s0 s1 := runKept_ite (runKept_of_eq (runKept_refl _ _) rfl rfl rfl) (runKept_refl _ _)
  have hk1 : keptBelow 0x400C0004 s s1 := keptBelow_ite (keptBelow_of_regs hkept rfl rfl) hkept
  clear_value s1
  have h2 := runKept_of_eq (u := s1.withSch { s1.sch with firedIn := 3, meterAt := spPut (fun _ => none) s1.sch.meterAt sh.slot (some s1.voter.meter) })
    h1 rfl rfl rfl
  exact ⟨loaded_of_kept h2 hrun, h2.2.2.trans hphase, keptBelow_of_regs hk1 rfl rfl⟩

-- ── Arbitration at a shot's start (R121, R145, R146) ──────────────────────────────────────────────────────────────

section arbitrate
variable {s : State} {sh : Shot}

theorem arbitrate_fault (h : s.faultRefuses sh.ch = true) : s.arbitrate sh = s.refuseShot sh 0xD (s.faultClass sh.ch) := by
  unfold State.arbitrate; rw [if_pos h]

theorem arbitrate_shed (hf : s.faultRefuses sh.ch = false) (h : s.calvingSheds sh = true) : s.arbitrate sh = s.refuseShot sh 0xC 0 := by
  unfold State.arbitrate; rw [if_neg (by simp [hf]), if_pos h]

theorem arbitrate_hot (hf : s.faultRefuses sh.ch = false) (hc : s.calvingSheds sh = false) (h : s.thermalRefuses sh = true) :
    s.arbitrate sh = s.refuseShot sh 0xB 0 := by
  unfold State.arbitrate; rw [if_neg (by simp [hf]), if_neg (by simp [hc]), if_pos h]

section admitted
variable (hf : s.faultRefuses sh.ch = false) (hc : s.calvingSheds sh = false) (ht : s.thermalRefuses sh = false)
include hf hc ht

theorem arbitrate_low (hb : s.boostShort = true) (h : sh.cls ≠ 0) : s.arbitrate sh = s.refuseShot sh 0xA 0 := by
  unfold State.arbitrate
  rw [if_neg (by simp [hf]), if_neg (by simp [hc]), if_neg (by simp [ht]), if_pos (by simp [hb, h])]

/-- With the rail high enough the claim and the boost phase decide. -/
theorem arbitrate_railed (hb : s.boostShort = false) : s.arbitrate sh =
    if claimMax < s.startClaim sh then s.refuseOver sh
    else if (s.startProfile sh.profile).needsBoost sh.batt then (s.setQueue (bankOf sh.ch) (s.queue (bankOf sh.ch) ++ [sh])).abortOffTest (bankOf sh.ch)
    else if s.bankAdmits sh.ch (s.startClaim sh) then s.beginShot sh (if sh.late then 2 else 0)
    else s.refuseShot sh 0x8 0 := by
  unfold State.arbitrate
  rw [if_neg (by simp [hf]), if_neg (by simp [hc]), if_neg (by simp [ht]), if_neg (by simp [hb])]
  simp only [hb, Bool.false_eq_true, if_false]

end admitted
end arbitrate

-- ── What the branches leave ───────────────────────────────────────────────────────────────────────────────────────

section branches
variable (s : State) (sh : Shot)

theorem bankStat_ne_phase (n : Nat) : (Fld.DRV_CH_STAT_PHASE n).addr ≠ Reg.DRV_BANKSTAT (bankOf n) := by
  simp only [Fld.DRV_CH_STAT_PHASE, Reg.DRV_CH_STAT, Reg.DRV_BANKSTAT, bankOf]; omega

theorem keptBelow_refuseOver : keptBelow 0x400C0004 s (s.refuseOver sh) := by
  have hflag : 0x400C0004 ≤ (Fld.DRV_BANKSTAT_CLAIM_OVER (bankOf sh.ch)).addr := by
    simp only [Fld.DRV_BANKSTAT_CLAIM_OVER, Reg.DRV_BANKSTAT]; omega
  unfold State.refuseOver
  extract_lets k s1
  have h1 : keptBelow 0x400C0004 s s1 := keptBelow_ite (keptBelow_refl _ s) (keptBelow_irq (keptBelow_refl _ s) _)
  exact keptBelow_refuseShot (keptBelow_raiseFlag h1 _ hflag) (by decide) sh 0x8 0

/-- A claim that can never fit is told of its bank, and of its channel as of a refused shot (R146). -/
theorem refuseOver_shows (hch : sh.ch < 48) : (s.refuseOver sh).get (Fld.WIT_CH_STAT_LAST_OUT sh.ch) = 8 ∧
    (s.refuseOver sh).flag (Fld.DRV_BANKSTAT_CLAIM_OVER (bankOf sh.ch)) = true ∧ (s.refuseOver sh).phase sh.ch = s.phase sh.ch := by
  have hi : inIrqBlock (Fld.DRV_CH_STAT_PHASE sh.ch).addr = false := inIrqBlock_above (by simp only [Fld.DRV_CH_STAT_PHASE, Reg.DRV_CH_STAT]; omega)
  have hflag : (Fld.DRV_BANKSTAT_CLAIM_OVER (bankOf sh.ch)).addr < 0x400E0000 := by
    simp only [Fld.DRV_BANKSTAT_CLAIM_OVER, Reg.DRV_BANKSTAT, bankOf]; omega
  have hflagi : inIrqBlock (Fld.DRV_BANKSTAT_CLAIM_OVER (bankOf sh.ch)).addr = false :=
    inIrqBlock_above (by simp only [Fld.DRV_BANKSTAT_CLAIM_OVER, Reg.DRV_BANKSTAT]; omega)
  unfold State.refuseOver
  extract_lets k s1
  have hphase1 : s1.phase sh.ch = s.phase sh.ch := by
    unfold s1
    split
    · rfl
    · exact get_irq s _ _ hi
  have hphase2 : (s1.raiseFlag (Fld.DRV_BANKSTAT_CLAIM_OVER k)).phase sh.ch = s1.phase sh.ch :=
    get_set_other s1 (Fld.DRV_BANKSTAT_CLAIM_OVER k) _ 1 (bankStat_ne_phase sh.ch)
  have hkept := keptBelow_refuseShot (keptBelow_refl 0x400E0000 (s1.raiseFlag (Fld.DRV_BANKSTAT_CLAIM_OVER k))) (Nat.le_refl _) sh 0x8 0
  refine ⟨lastOut_refuseShot _ sh 8 0 hch, ?_, (phase_of_kept hch hkept).trans (hphase2.trans hphase1)⟩
  rw [keptBelow_flag hkept _ hflag hflagi]
  exact flag_raiseFlag s1 (Fld.DRV_BANKSTAT_CLAIM_OVER k) (by decide : 27 + 1 ≤ 32) (by decide : 0 < 1)

/-- A shot put into its bank's queue (R121). -/
theorem queueUp_shows {k : Nat} (hk : bankOf sh.ch = k) (q : List Shot) :
    ((s.setQueue k q).abortOffTest k).queue k = q ∧ ((s.setQueue k q).abortOffTest k).phase sh.ch = s.phase sh.ch ∧
    keptBelow 0x400C0004 s ((s.setQueue k q).abortOffTest k) := by
  have hset : (s.setQueue k q).queue k = q := by
    unfold State.queue State.setQueue
    rw [bank_setBank, if_pos rfl]
  have hphase : ((s.setQueue k q).abortOffTest k).phase sh.ch = (s.setQueue k q).phase sh.ch := by
    unfold State.abortOffTest
    split
    · rfl
    · exact get_set_other _ _ _ _ (by rw [← hk]; exact bankStat_ne_phase sh.ch)
  exact ⟨(queue_abortOffTest _ k k).trans hset, hphase, keptBelow_abortOffTest (t := s.setQueue k q) (keptBelow_of_regs (keptBelow_refl _ s) rfl rfl) (Nat.le_refl _) k⟩

end branches

-- ── A shot slot that fires, by its branch (R121) ──────────────────────────────────────────────────────────────────

section shot
variable {v : State} {n c : Nat}

/-- The slot's flags where the words of the scheduler stand from the moment it fired. -/
theorem flags_of_spent (hn : n < 2048) {u : State} (h : keptBelow 0x400C0004 (v.spent n) u) : u.fired n = true ∧ u.armed n = false :=
  ⟨(fired_of_kept hn h).trans (fired_spent v), (armed_of_kept hn h).trans (armed_spent v)⟩

/-- What a shot that is refused as it fires leaves (R121, R199). -/
def shotRefused (v : State) (n ch outcome : Nat) (u : State) : Prop :=
  u.fired n = true ∧ u.armed n = false ∧ u.get (Fld.WIT_CH_STAT_LAST_OUT ch) = outcome ∧ u.phase ch = v.phase ch ∧
  u.get Fld.WIT_RECSEQ_SEQ = (v.get Fld.WIT_RECSEQ_SEQ + 1) % 2 ^ 32

theorem refused_shows (hn : n < 2048) {sh : Shot} (hch : sh.ch < 48) {outcome : Nat} (ho : outcome < 16) (fault : Nat) :
    shotRefused v n sh.ch outcome ((v.spent n).refuseShot sh outcome fault) := by
  have hkept := keptBelow_refuseShot (keptBelow_refl 0x400E0000 (v.spent n)) (Nat.le_refl _) sh outcome fault
  obtain ⟨hfired, harmed⟩ := flags_of_spent hn (keptBelow_mono hkept (by decide : 0x400C0004 ≤ 0x400E0000))
  refine ⟨hfired, harmed, (lastOut_refuseShot _ sh outcome fault hch).trans (Nat.mod_eq_of_lt ho),
    (phase_of_kept hch hkept).trans (phase_spent v hn _), (recseq_refuseShot _ sh outcome fault).trans ?_⟩
  rw [get_spent v hn _ (by decide)]

end shot

-- ── A standby shot on a drag (R120, R203) ─────────────────────────────────────────────────────────────────────────

section standby
variable (s : State)

theorem openRecs_setOpenRecs (n : Nat) (l : List OpenRec) : (s.setOpenRecs n l).openRecs n = l := by
  unfold State.openRecs State.setOpenRecs
  exact (spGet_spPut _ _ _ _).trans (if_pos rfl)

theorem openRecs_startCapture (n m : Nat) : (s.startCapture m).openRecs n = s.openRecs n := by
  unfold State.startCapture
  split <;> rfl

theorem sameBut_startCapture {s t : State} {l : List Nat} (h : s.sameBut t l) (hl : Reg.WIT_WAVE ∈ l) (m : Nat) :
    s.sameBut (t.startCapture m) l := by
  have harm := sameBut_set h Fld.WIT_WAVE_ARM hl 0
  unfold State.startCapture
  exact sameBut_ite (sameBut_of_regs harm rfl rfl) h

theorem modRec_mem (ch : Nat) (f : OpenRec → OpenRec) : (s.modRec ch f).mem = s.mem := by
  unfold State.modRec
  split
  · rfl
  · split <;> rfl

/-- A record that observation fills in: of a standby shot of the slot, fired now. -/
def standbyAs (slot now : Nat) (r : OpenRec) : Prop := r.standby = true ∧ r.slot = slot ∧ r.firedAt = now

/-- A standby shot of a drag that does not follow the observed-drive rule: the record that it opens is its channel's newest, and of the
registers only the armed capture's changes. -/
theorem standbyShot_shows (sh : Shot) (hobs : s.observing = false) : s.sameBut (s.standbyShot sh) [Reg.WIT_WAVE] ∧
    ∃ r, ((s.standbyShot sh).openRecs sh.ch).getLast? = some r ∧ standbyAs sh.slot s.now r := by
  unfold State.standbyShot
  extract_lets c sh' r0 r r1 s0 s1
  have hch : sh'.ch = sh.ch := by unfold sh'; split <;> rfl
  have hslot : sh'.slot = sh.slot := by unfold sh'; split <;> rfl
  have hr : standbyAs sh.slot s.now r := ⟨rfl, hslot, rfl⟩
  have hr1 : standbyAs sh.slot s.now r1 := by
    unfold r1
    split
    · exact hr
    split
    · exact hr
    split
    · split
      · exact hr
      · exact hr
    · exact hr
  have h0 : s.sameBut s0 [Reg.WIT_WAVE] := sameBut_of_regs (sameBut_refl s _) (modRec_regs s _ _) (modRec_mem s _ _)
  have h1 : s.sameBut s1 [Reg.WIT_WAVE] := by
    refine sameBut_startCapture ?_ (by simp) _
    exact sameBut_of_regs h0 rfl rfl
  have hobs1 : s1.observing = false := by
    unfold State.observing State.flag at hobs ⊢
    rw [sameBut_get h1 _ (by decide) (by decide), sameBut_get h1 _ (by decide) (by decide), hobs]
  have hlast : s1.openRecs sh.ch = s0.openRecs sh.ch ++ [r1] := by
    rw [← hch]
    exact (openRecs_startCapture _ _ _).trans (openRecs_setOpenRecs _ _ _)
  rw [if_neg (by simp [hobs1])]
  exact ⟨h1, r1, by rw [hlast, List.getLast?_concat], hr1⟩

end standby
-- ── Ends and grants (R118, R122) ──────────────────────────────────────────────────────────────────────────────────

/-- Channel `n` is in END since `at_`, with its low-side switch off. -/
def Ended (n at_ : Nat) (u : State) : Prop := u.phase n = 5 ∧ (u.chan n).phaseAt = at_ ∧ (u.chan n).lowSide = false

section ends
variable {s t u : State} {n at_ : Nat}

theorem ended_of_eq (h : Ended n at_ t) (hc : u.chans = t.chans) (hr : u.regs = t.regs) : Ended n at_ u := by
  unfold Ended State.phase State.get State.word State.chan at h ⊢
  rw [hc, hr]
  exact h

theorem ended_irq (hn : n < 48) (h : Ended n at_ t) (k : Nat) : Ended n at_ (t.irq k) := by
  have hi : inIrqBlock (Fld.DRV_CH_STAT_PHASE n).addr = false := inIrqBlock_above (by simp only [Fld.DRV_CH_STAT_PHASE, Reg.DRV_CH_STAT]; omega)
  unfold Ended State.phase State.chan at h ⊢
  rw [irq_chans, get_irq t k _ hi]
  exact h

theorem ended_modRec (h : Ended n at_ t) (m : Nat) (f : OpenRec → OpenRec) : Ended n at_ (t.modRec m f) :=
  ended_of_eq h (modRec_chans t m f) (modRec_regs t m f)

theorem setLow_regs (t : State) (n : Nat) (on fast : Bool) : (t.setLow n on fast).regs = t.regs := by
  unfold State.setLow
  extract_lets c
  split <;> rfl

theorem setLow_banks (t : State) (n : Nat) (on fast : Bool) : (t.setLow n on fast).banks = t.banks := by
  unfold State.setLow
  extract_lets c
  split <;> rfl

theorem lowSide_setLow (t : State) (n : Nat) (on fast : Bool) : ((t.setLow n on fast).chan n).lowSide = on ∧
    ((t.setLow n on fast).chan n).phaseAt = (t.chan n).phaseAt := by
  unfold State.setLow
  extract_lets c
  split
  · next h =>
    rw [chan_setChan, if_pos rfl]
    exact ⟨h, rfl⟩
  · rw [chan_setChan, if_pos rfl]
    exact ⟨rfl, rfl⟩

/-- A channel that occupies its bank ends (R176, R186). -/
theorem ended_enterEnd (s : State) (hn : n < 48) (hocc : s.occupies n = true) : Ended n s.now (s.enterEnd n) := by
  have hrun : ¬ (s.phase n = 0 ∨ s.phase n = 5) := by
    simp only [State.occupies, Bool.or_eq_true, Bool.and_eq_true, decide_eq_true_eq, beq_iff_eq] at hocc
    omega
  unfold State.enterEnd
  extract_lets c s1 s2 s3 s4 s5
  have hphase : s1.phase n = 5 := get_set s (Fld.DRV_CH_STAT_PHASE n) 5 (by decide : 8 + 4 ≤ 32)
  have hat : (s1.chan n).phaseAt = s.now := by
    unfold s1
    rw [chan_setChan, if_pos rfl]
  clear_value s1
  have h2 : Ended n s.now s2 := by
    obtain ⟨hlow, hkeep⟩ := lowSide_setLow s1 n false (s.decayFast (!c.prof.endSlow))
    have hreg : s2.phase n = s1.phase n := by
      unfold State.phase State.get State.word
      rw [setLow_regs]
    exact ⟨hreg.trans hphase, hkeep.trans hat, hlow⟩
  clear_value s2
  have h3 : Ended n s.now s3 := ended_modRec h2 n _
  clear_value s3
  have h4 : Ended n s.now s4 := ended_modRec h3 n _
  have h5 : Ended n s.now s5 := by
    unfold s5
    split
    · split
      · exact ended_irq hn h4 _
      · exact h4
    · exact h4
  rw [if_neg hrun]
  unfold State.mirrorShot
  split
  · exact ended_of_eq h5 rfl rfl
  · exact h5

theorem enterEnd_banks (s : State) (n : Nat) : (s.enterEnd n).banks = s.banks := by
  unfold State.enterEnd
  extract_lets c s1 s2 s3 s4 s5
  have h1 : s1.banks = s.banks := rfl
  have h2 : s2.banks = s.banks := (setLow_banks _ _ _ _).trans h1
  have h4 : s4.banks = s.banks := (modRec_banks _ _ _).trans ((modRec_banks _ _ _).trans h2)
  have h5 : s5.banks = s.banks := by
    unfold s5
    split
    · split
      · exact (irq_banks _ _).trans h4
      · exact h4
    · exact h4
  split
  · rfl
  · unfold State.mirrorShot
    split
    · exact h5
    · exact h5

end ends

-- ── Shots that wait for the boost phase (R122) ────────────────────────────────────────────────────────────────────

section waiting
variable {s : State}

theorem waitingOn_queue (hd : s.isDrag = false) (k : Nat) : s.waitingOn k = s.queue k := by
  unfold State.waitingOn
  rw [if_neg (by simp [hd])]

theorem isDrag_of_sameBut {t : State} {l : List Nat} (h : s.sameBut t l) (hl : Reg.FLO_PAIRSTAT ∉ l) : t.isDrag = s.isDrag := by
  unfold State.isDrag State.role
  rw [sameBut_get h Fld.FLO_PAIRSTAT_ROLE hl (by decide)]

theorem queue_setQueue (k : Nat) (q : List Shot) : (s.setQueue k q).queue k = q := by
  unfold State.queue State.setQueue
  rw [bank_setBank, if_pos rfl]

/-- A shot that may wait no longer leaves the queue, and no other comes. -/
theorem endWait_queue (hd : s.isDrag = false) (k : Nat) {w : Shot} (hw : w.ch < 48) :
    (s.endWait k w).isDrag = false ∧ ∀ x, x ∈ (s.endWait k w).queue k → x ∈ s.queue k ∧ x ≠ w := by
  unfold State.endWait
  rw [waitingOn_queue hd]
  split
  · next h =>
    refine ⟨hd, fun x hx => ⟨hx, ?_⟩⟩
    rintro rfl
    simp [hx] at h
  rw [if_neg (by simp [hd])]
  unfold State.dropWaiting
  have hne : Reg.FLO_PAIRSTAT ∉ recordRegs w.ch := by
    simp only [recordRegs, Reg.FLO_PAIRSTAT, Reg.WIT_RECSEQ, Reg.WIT_RING, Reg.WIT_STAT, Reg.WIT_CH_STAT, Reg.WIT_CH_LAST, List.mem_cons,
      List.not_mem_nil, or_false]
    omega
  refine ⟨(isDrag_of_sameBut (sameBut_refuseShot _ w 0x8 0) hne).trans hd, fun x hx => ?_⟩
  rw [queue_of_banks (refuseShot_banks _ w 0x8 0), queue_setQueue, List.mem_filter, decide_eq_true_eq] at hx
  exact ⟨hx.1, fun h => hx.2 (by rw [h])⟩

theorem endWaits_queue (k : Nat) (l : List Shot) : ∀ s : State, s.isDrag = false → (∀ w, w ∈ l → w.ch < 48) →
    ∀ x, x ∈ (l.foldl (fun s w => s.endWait k w) s).queue k → x ∈ s.queue k ∧ x ∉ l := by
  induction l with
  | nil => exact fun s _ _ x hx => ⟨hx, List.not_mem_nil⟩
  | cons w l ih =>
    intro s hd hl x hx
    obtain ⟨hd', hleft⟩ := endWait_queue hd k (hl w (by simp))
    obtain ⟨hx', hxl⟩ := ih _ hd' (fun y hy => hl y (by simp [hy])) x hx
    obtain ⟨hold, hne⟩ := hleft x hx'
    exact ⟨hold, by simp [hne, hxl]⟩

/-- After the shots of a channel for which `p` holds have left, none of them waits there. -/
theorem waits_over (v : State) (hd : v.isDrag = false) (n : Fin 48) (p : Shot → Bool) (x : Shot)
    (hx : x ∈ (((v.waitingOn (bankOf n)).filter (fun w => w.ch == n.val && p w)).foldl (fun s w => s.endWait (bankOf n) w) v).queue (bankOf n)) :
    x ∈ v.queue (bankOf n) ∧ (x.ch = n.val → p x = false) := by
  have hch : ∀ w, w ∈ (v.waitingOn (bankOf n)).filter (fun w => w.ch == n.val && p w) → w.ch < 48 := by
    intro w hw
    simp only [List.mem_filter, Bool.and_eq_true, beq_iff_eq] at hw
    rw [hw.2.1]
    exact n.isLt
  obtain ⟨hold, hout⟩ := endWaits_queue (bankOf n) _ v hd hch x hx
  refine ⟨hold, fun hxn => ?_⟩
  rw [waitingOn_queue hd] at hout
  simpa [hold, hxn] using hout

end waiting

-- ── A slot that fires (R114) ──────────────────────────────────────────────────────────────────────────────────────

/-- SLOT_FIRE acts on slot `n` of cylinder `c` in the state `v`, with no slot before it in its tick. -/
structure FiresNext (s v : State) (dt vb : Nat) (n : Fin 2048) (c : Nat) : Prop where
  reached : (s.advance dt).seeVboost vb = v
  owner : v.cylOf n = some c
  isArmed : v.armed n = true
  may : v.mayFire n = true
  due : v.sch.firePend.contains n.val = true
  first : ∀ m, m ∈ v.sch.firePend → v.actsBefore m n = false

section fire
variable {s v : State} {dt vb : Nat} {n : Fin 2048} {c : Nat}

theorem does_slotFire (hv : (s.advance dt).seeVboost vb = v) (hp : v.sch.firePend.contains n.val = true) :
    s.does (.slotFire dt n vb) (fun u => u = (v.fireAll (fun m => v.actsBefore m n)).fireDue n) := by
  refine ⟨_, ?_, rfl⟩
  change execSlotFire dt n vb s = _
  unfold execSlotFire
  rw [hv]
  simp only [hp, if_true]

variable (h : FiresNext s v dt vb n c)
include h

theorem does_fireSlot {q : State → Prop} (hq : q (v.fireSlot c n false)) : s.does (.slotFire dt n vb) q := by
  obtain ⟨hv, hc, ha, hm, hp, hfirst⟩ := h
  obtain ⟨u, hu, rfl⟩ := does_slotFire hv hp
  refine ⟨_, hu, ?_⟩
  rw [fireAll_none _ hfirst, fireDue_ready hc ha hm hp]
  exact hq

-- An event slot (R105).

theorem does_event (he : (v.activeDesc n).isEvent = true) : s.does (.slotFire dt n vb) (fun u => ∃ w : State,
    u = w.eventAction (v.activeDesc n) ∧ w.fired n = true ∧ w.armed n = false ∧
    v.sameBut w [Reg.SCH_ARMED (n.val / 32), Reg.SCH_FIRED (n.val / 32)]) :=
  does_fireSlot h ⟨(v.spent n).metered n, fireSlot_event he, fired_spent v, armed_spent v, sameBut_spent v⟩

/-- An event that acts on an output of the device alone. -/
theorem does_aout (he : (v.activeDesc n).isEvent = true) {b : Bool}
    (hact : ((v.spent n).metered n).eventAction (v.activeDesc n) = ((v.spent n).metered n).setAout (v.activeDesc n).target b) :
    s.does (.slotFire dt n vb) (fun u => u.fired n = true ∧ u.armed n = false ∧ u.drv.aout.testBit (v.activeDesc n).target = b ∧
      v.sameBut u [Reg.SCH_ARMED (n.val / 32), Reg.SCH_FIRED (n.val / 32)]) := by
  refine does_fireSlot h ?_
  rw [fireSlot_event he, hact]
  exact ⟨fired_spent v, armed_spent v, aout_setAout _ _ b, sameBut_spent v⟩

theorem does_eventLine (he : (v.activeDesc n).isEvent = true) (h8 : (v.activeDesc n).act = 8)
    (hg : v.get (srcCgrp false (48 + (v.activeDesc n).target)) = 0) :
    s.does (.slotFire dt n vb) (fun u => u.fired n = true ∧ u.armed n = false ∧ u.isPend false (48 + (v.activeDesc n).target) = true) := by
  have htarget : (v.activeDesc n).target < 32 := Nat.mod_lt _ (by decide)
  have hgroup : ((v.spent n).metered n).get (srcCgrp false (48 + (v.activeDesc n).target)) = 0 := by
    refine Eq.trans (get_spent v n.isLt _ ?_) hg
    simp only [srcCgrp, Bool.false_eq_true, if_false, Fld.IRQ_SRC_CGRP, Reg.IRQ_SRC]
    omega
  have hkept := keptBelow_irq (keptBelow_refl 0x400C0004 ((v.spent n).metered n)) (48 + (v.activeDesc n).target)
  refine does_fireSlot h ?_
  rw [fireSlot_event he, eventAction_line _ h8]
  refine ⟨?_, ?_, isPend_irq _ _ (by omega) (Or.inl hgroup)⟩
  · exact (fired_of_kept n.isLt hkept).trans (fired_spent v)
  · exact (armed_of_kept n.isLt hkept).trans (armed_spent v)

end fire

theorem flags_of_sameBut {s t : State} {l : List Nat} {n : Nat} (h : s.sameBut t l)
    (hl : Reg.SCH_FIRED (n / 32) ∉ l ∧ Reg.SCH_ARMED (n / 32) ∉ l) : t.fired n = s.fired n ∧ t.armed n = s.armed n := by
  unfold State.fired State.armed State.bit
  rw [sameBut_get h _ hl.1 (inIrqBlock_above (by simp only [Fld.SCH_FIRED_FIRED, Reg.SCH_FIRED]; omega)),
    sameBut_get h _ hl.2 (inIrqBlock_above (by simp only [Fld.SCH_ARMED_ARMED, Reg.SCH_ARMED]; omega))]
  exact ⟨rfl, rfl⟩

-- ── A shot slot that fires (R120, R121) ───────────────────────────────────────────────────────────────────────────

section shots
variable {s v : State} {dt vb : Nat} {n : Fin 2048} {c : Nat} (h : FiresNext s v dt vb n c) (he : (v.activeDesc n).isEvent = false)
include h he

section drives
variable (hd : v.isDrag = false)
include hd

theorem does_shot {q : State → Prop} (hq : q ((v.spent n).arbitrate (v.shotOf c n false))) : s.does (.slotFire dt n vb) q := by
  refine does_fireSlot h ?_
  rw [fireSlot_shot n.isLt he hd]
  exact hq

/-- A shot that arbitration refuses. -/
theorem does_refused {outcome fault : Nat} (hch : (v.activeDesc n).channel < 48) (ho : outcome < 16)
    (hr : (v.spent n).arbitrate (v.shotOf c n false) = (v.spent n).refuseShot (v.shotOf c n false) outcome fault) :
    s.does (.slotFire dt n vb) (shotRefused v n (v.activeDesc n).channel outcome) := by
  refine does_shot h he hd ?_
  rw [hr]
  exact refused_shows n.isLt (sh := v.shotOf c n false) hch ho fault

end drives

theorem does_standby (hd : v.isDrag = true) (hobs : v.observing = false) (hch : (v.activeDesc n).channel < 48) :
    s.does (.slotFire dt n vb) (fun u => u.fired n = true ∧ u.armed n = false ∧
      u.phase (v.activeDesc n).channel = v.phase (v.activeDesc n).channel ∧
      (u.openRecs (v.activeDesc n).channel).getLast?.map (fun r => (r.standby, r.slot, r.firedAt)) = some (true, n.val, v.now)) := by
  have hobs' : ((v.spent n).metered n).observing = false := (observing_spent v n.isLt).trans hobs
  obtain ⟨hregs, r, hlast, hstby, hslot, hat⟩ := standbyShot_shows ((v.spent n).metered n) (v.shotOf c n false) hobs'
  obtain ⟨hfired, harmed⟩ := flags_of_sameBut (n := n) hregs (by
    simp only [Reg.SCH_FIRED, Reg.SCH_ARMED, Reg.WIT_WAVE, List.mem_cons, List.not_mem_nil, or_false]; omega)
  have hphase := sameBut_get hregs (Fld.DRV_CH_STAT_PHASE (v.activeDesc n).channel)
    (by simp only [Fld.DRV_CH_STAT_PHASE, Reg.DRV_CH_STAT, Reg.WIT_WAVE, List.mem_cons, List.not_mem_nil, or_false]; omega)
    (inIrqBlock_above (by simp only [Fld.DRV_CH_STAT_PHASE, Reg.DRV_CH_STAT]; omega))
  refine does_fireSlot h ?_
  rw [fireSlot_drag n.isLt he hd]
  refine ⟨hfired.trans (fired_spent v), harmed.trans (armed_spent v), hphase.trans (phase_spent v n.isLt _), ?_⟩
  refine (congrArg _ hlast).trans ?_
  rw [Option.map_some, hstby, hslot, hat]
  rfl

end shots

section ofSlot
variable (v : State) (c n : Nat) (late : Bool)

theorem shotOf_ch : (v.shotOf c n late).ch = (v.activeDesc n).channel := rfl
theorem shotOf_profile : (v.shotOf c n late).profile = (v.activeDesc n).profile := rfl
theorem shotOf_batt : (v.shotOf c n late).batt = false := rfl
theorem shotOf_late : (v.shotOf c n late).late = late := rfl
theorem queue_spent (k : Nat) : (v.spent n).queue k = v.queue k := rfl

end ofSlot

-- ── The branches of arbitration, told of the state before the slot fired ──────────────────────────────────────────

section branch
variable {s v : State} {dt vb : Nat} {n : Fin 2048} {c : Nat} (h : FiresNext s v dt vb n c) (he : (v.activeDesc n).isEvent = false)
  (hd : v.isDrag = false) (hch : (v.activeDesc n).channel < 48)
include h he hd hch

theorem does_refusedFault (hf : v.faultRefuses (v.activeDesc n).channel = true) :
    s.does (.slotFire dt n vb) (shotRefused v n (v.activeDesc n).channel 0xD) :=
  does_refused h he hd hch (by decide) (arbitrate_fault ((faultRefuses_spent v n.isLt _).trans hf))

variable (hf : v.faultRefuses (v.activeDesc n).channel = false)
include hf

theorem does_refusedShed (hc : v.calvingSheds (v.shotOf c n false) = true) :
    s.does (.slotFire dt n vb) (shotRefused v n (v.activeDesc n).channel 0xC) :=
  does_refused h he hd hch (by decide) (arbitrate_shed ((faultRefuses_spent v n.isLt _).trans hf)
    ((calvingSheds_spent v n.isLt (cylOf_lt h.owner)).trans hc))

variable (hc : v.calvingSheds (v.shotOf c n false) = false)
include hc

theorem does_refusedHot (ht : v.thermalRefuses (v.shotOf c n false) = true) :
    s.does (.slotFire dt n vb) (shotRefused v n (v.activeDesc n).channel 0xB) :=
  does_refused h he hd hch (by decide) (arbitrate_hot ((faultRefuses_spent v n.isLt _).trans hf)
    ((calvingSheds_spent v n.isLt (cylOf_lt h.owner)).trans hc) ((thermalRefuses_spent v n.isLt _).trans ht))

variable (ht : v.thermalRefuses (v.shotOf c n false) = false)
include ht

theorem does_refusedLow (hb : v.boostShort = true) (hcls : (v.activeDesc n).cls ≠ 0) :
    s.does (.slotFire dt n vb) (shotRefused v n (v.activeDesc n).channel 0xA) :=
  does_refused h he hd hch (by decide) (arbitrate_low ((faultRefuses_spent v n.isLt _).trans hf)
    ((calvingSheds_spent v n.isLt (cylOf_lt h.owner)).trans hc) ((thermalRefuses_spent v n.isLt _).trans ht)
    ((boostShort_spent v n.isLt).trans hb) hcls)

variable (hb : v.boostShort = false)
include hb

omit he hd hch in
/-- With the rail high enough: what the claim, the profile and the bank decide. -/
theorem arbitrate_spent : (v.spent n).arbitrate (v.shotOf c n false) =
    if claimMax < v.startClaim (v.shotOf c n false) then (v.spent n).refuseOver (v.shotOf c n false)
    else if (v.startProfile (v.activeDesc n).profile).needsBoost false then
      ((v.spent n).setQueue (bankOf (v.activeDesc n).channel) (v.queue (bankOf (v.activeDesc n).channel) ++ [v.shotOf c n false])).abortOffTest
        (bankOf (v.activeDesc n).channel)
    else if v.bankAdmits (v.activeDesc n).channel (v.startClaim (v.shotOf c n false)) then (v.spent n).beginShot (v.shotOf c n false) 0
    else (v.spent n).refuseShot (v.shotOf c n false) 0x8 0 := by
  rw [arbitrate_railed (s := v.spent n) (sh := v.shotOf c n false) ((faultRefuses_spent v n.isLt _).trans hf) ((calvingSheds_spent v n.isLt (cylOf_lt h.owner)).trans hc)
    ((thermalRefuses_spent v n.isLt _).trans ht) ((boostShort_spent v n.isLt).trans hb), startClaim_spent v n.isLt, startProfile_spent v n.isLt,
    bankAdmits_spent v n.isLt]
  simp only [shotOf_ch, shotOf_profile, shotOf_batt, shotOf_late, queue_spent, Bool.false_eq_true, if_false]

theorem does_refusedOver (hmax : claimMax < v.startClaim (v.shotOf c n false)) : s.does (.slotFire dt n vb) (fun u => u.fired n = true ∧
    u.get (Fld.WIT_CH_STAT_LAST_OUT (v.activeDesc n).channel) = 0x8 ∧
    u.flag (Fld.DRV_BANKSTAT_CLAIM_OVER (bankOf (v.activeDesc n).channel)) = true ∧
    u.phase (v.activeDesc n).channel = v.phase (v.activeDesc n).channel) := by
  obtain ⟨hout, hover, hphase⟩ := refuseOver_shows (v.spent n) (v.shotOf c n false) hch
  refine does_shot h he hd ?_
  rw [arbitrate_spent h hf hc ht hb, if_pos hmax]
  exact ⟨(flags_of_spent n.isLt (keptBelow_refuseOver _ _)).1, hout, hover, hphase.trans (phase_spent v n.isLt _)⟩

variable (hmax : v.startClaim (v.shotOf c n false) ≤ claimMax)
include hmax

omit hch in
theorem does_queueUp (hboost : (v.startProfile (v.activeDesc n).profile).needsBoost false = true) :
    s.does (.slotFire dt n vb) (fun u => u.fired n = true ∧
      u.queue (bankOf (v.activeDesc n).channel) = v.queue (bankOf (v.activeDesc n).channel) ++ [v.shotOf c n false] ∧
      u.phase (v.activeDesc n).channel = v.phase (v.activeDesc n).channel) := by
  obtain ⟨hq, hphase, hkept⟩ := queueUp_shows (v.spent n) (v.shotOf c n false) rfl
    (v.queue (bankOf (v.activeDesc n).channel) ++ [v.shotOf c n false])
  refine does_shot h he hd ?_
  rw [arbitrate_spent h hf hc ht hb, if_neg (Nat.not_lt.mpr hmax), if_pos hboost]
  exact ⟨(flags_of_spent n.isLt hkept).1, hq, hphase.trans (phase_spent v n.isLt _)⟩

variable (hboost : (v.startProfile (v.activeDesc n).profile).needsBoost false = false)
include hboost

theorem does_begin (hadm : v.bankAdmits (v.activeDesc n).channel (v.startClaim (v.shotOf c n false)) = true) :
    s.does (.slotFire dt n vb) (fun u => u.fired n = true ∧
      (u.chan (v.activeDesc n).channel).shot = some (v.shotOf c n false) ∧ (u.chan (v.activeDesc n).channel).startAt = v.now ∧
      (u.chan (v.activeDesc n).channel).outcome = 0 ∧
      u.phase (v.activeDesc n).channel = (v.startProfile (v.activeDesc n).profile).after false 0) := by
  obtain ⟨⟨⟨hshot, hat, hout⟩, -⟩, hphase, hkept⟩ := beginShot_run (v.spent n) (v.shotOf c n false) 0 hch
  rw [startProfile_spent v n.isLt] at hphase
  refine does_shot h he hd ?_
  rw [arbitrate_spent h hf hc ht hb, if_neg (Nat.not_lt.mpr hmax), if_neg (by simp [hboost]), if_pos hadm]
  exact ⟨(flags_of_spent n.isLt hkept).1, hshot, hat, hout, hphase⟩

theorem does_refusedBank (hadm : v.bankAdmits (v.activeDesc n).channel (v.startClaim (v.shotOf c n false)) = false) :
    s.does (.slotFire dt n vb) (shotRefused v n (v.activeDesc n).channel 0x8) := by
  refine does_refused h he hd hch (by decide) (fault := 0) ?_
  rw [arbitrate_spent h hf hc ht hb, if_neg (Nat.not_lt.mpr hmax), if_neg (by simp [hboost]), if_neg (by simp [hadm])]

end branch

-- ── Grants (R122, R123) ───────────────────────────────────────────────────────────────────────────────────────────

section grants
variable {s v : State} {dt : Nat}

/-- BOOST_GRANT where no shot slot is due. -/
theorem does_grant (hv : s.advance dt = v) {k : Fin 8} (hp : ∀ m, m ∈ v.sch.firePend → (v.activeDesc m).isEvent = true) {w : Shot}
    (hw : v.grantable k = some w) : s.does (.boostGrant dt k) (fun u => u = v.giveBoost k w) := by
  have hnone : v.fireAll (fun n => !(v.activeDesc n).isEvent) = v := fireAll_none _ (fun m hm => by simp [hp m hm])
  refine ⟨_, ?_, rfl⟩
  change execBoostGrant dt k s = _
  unfold execBoostGrant
  simp only [hv, hnone, hw]

theorem does_noGrant (hv : s.advance dt = v) {k : Fin 8} (hp : ∀ m, m ∈ v.sch.firePend → (v.activeDesc m).isEvent = true)
    (hw : v.grantable k = none) : s.does (.boostGrant dt k) (fun u => u = v) := by
  have hnone : v.fireAll (fun n => !(v.activeDesc n).isEvent) = v := fireAll_none _ (fun m hm => by simp [hp m hm])
  refine ⟨v, ?_, rfl⟩
  change execBoostGrant dt k s = _
  unfold execBoostGrant
  simp only [hv, hnone, hw]

/-- The granted shot starts, and leaves its bank's queue (R122, R123). -/
theorem grantTo_shows (v : State) (k : Nat) {w : Shot} (hw : w.ch < 48) : ((v.grantTo k w).chan w.ch).shot = some w ∧
    (v.grantTo k w).queue k = (v.queue k).filter (fun x => x.slot ≠ w.slot) ∧
    ((v.grantTo k w).chan w.ch).outcome = (if w.late then 2 else if w.firedAt < v.now then 1 else 0) ∧
    (v.grantTo k w).phase w.ch = (v.startProfile w.profile).after w.batt 0 := by
  unfold State.grantTo
  extract_lets x t
  have hprof : (t.setQueue k ((t.queue k).filter (fun x => x.slot ≠ w.slot))).startProfile w.profile = v.startProfile w.profile := rfl
  have hq : t.queue k = v.queue k := rfl
  have hnow : t.now = v.now := rfl
  clear_value t
  obtain ⟨⟨⟨hshot, -, hout⟩, hqueue⟩, hphase, -⟩ :=
    beginShot_run (t.setQueue k ((t.queue k).filter (fun x => x.slot ≠ w.slot))) w (if w.late then 2 else if w.firedAt < t.now then 1 else 0) hw
  refine ⟨hshot, (hqueue k).trans ((queue_setQueue k _).trans (by rw [hq])), hout.trans (by rw [hnow]), hphase.trans (by rw [hprof])⟩

end grants

-- ── Ends (R118) ───────────────────────────────────────────────────────────────────────────────────────────────────

section ends
variable {s v : State} {dt : Nat}

theorem does_bankWaitTimeout (hv : s.advance dt = v) (hd : v.isDrag = false) (n : Fin 48) : s.does (.bankWaitTimeout dt n) (fun u =>
    ∀ x, x ∈ u.queue (bankOf n) → x ∈ v.queue (bankOf n) ∧ (x.ch = n.val → v.now ≤ x.firedAt + v.get (Fld.DRV_BANK_TOL (bankOf n)) * 400)) := by
  have hexec : exec (.bankWaitTimeout dt n) s = .next (((v.waitingOn (bankOf n)).filter (fun w => w.ch == n.val && v.tolOver (bankOf n) w)).foldl
      (fun s w => s.endWait (bankOf n) w) v).settle := by
    change execBankWaitTimeout dt n s = _
    unfold execBankWaitTimeout
    rw [hv]
  refine ⟨_, hexec, fun x hx => ?_⟩
  · obtain ⟨hold, hwait⟩ := waits_over v hd n (fun w => v.tolOver (bankOf n) w) x hx
    refine ⟨hold, fun hxn => ?_⟩
    exact Nat.le_of_not_lt (of_decide_eq_false (hwait hxn))

/-- The end of a running shot that an angle has reached (R118). -/
def angleEnd (t : State) (n : Nat) : State :=
  match (t.chan n).shot with
  | some sh => if t.occupies n && t.decides n && (t.chan n).endAt.isNone && t.endReached sh then t.enterEnd n else t
  | none => t

theorem angleEnd_banks (t : State) (n : Nat) : (angleEnd t n).banks = t.banks := by
  unfold angleEnd
  split
  · split
    · exact enterEnd_banks t n
    · rfl
  · rfl

theorem exec_shotAngleEnd (hv : s.advance dt = v) (n : Fin 48) : exec (.shotAngleEnd dt n) s = .next (angleEnd
    (((v.waitingOn (bankOf n)).filter (fun w => w.ch == n.val && v.endReached w)).foldl (fun s w => s.endWait (bankOf n) w) v) n).settle := by
  change execShotAngleEnd dt n s = _
  unfold execShotAngleEnd
  rw [hv]
  rfl

theorem does_waitAngleEnd (hv : s.advance dt = v) (hd : v.isDrag = false) (n : Fin 48) : s.does (.shotAngleEnd dt n) (fun u =>
    ∀ x, x ∈ u.queue (bankOf n) → x ∈ v.queue (bankOf n) ∧ (x.ch = n.val → v.endReached x = false)) := by
  refine ⟨_, exec_shotAngleEnd hv n, fun x hx => ?_⟩
  rw [queue_of_banks (angleEnd_banks _ _)] at hx
  exact waits_over v hd n v.endReached x hx

theorem does_shotAngleEnd (hv : s.advance dt = v) (n : Fin 48) {sh : Shot} (hsh : (v.chan n).shot = some sh) (hocc : v.occupies n = true)
    (hdec : v.decides n = true) (hwait : v.waitingOn (bankOf n) = []) (hend : (v.chan n).endAt = none) (hreached : v.endReached sh = true) :
    s.does (.shotAngleEnd dt n) (Ended n v.now) := by
  refine ⟨_, exec_shotAngleEnd hv n, ?_⟩
  rw [hwait]
  simp only [List.filter_nil, List.foldl_nil, angleEnd, hsh, hocc, hdec, hend, hreached, Option.isNone_none, Bool.and_self, if_true]
  exact ended_enterEnd v n.isLt hocc

theorem exec_shotTimeEnd (hv : s.advance dt = v) (n : Fin 48) {e : Nat} (he : (v.chan n).endAt = some e) (hocc : v.occupies n = true) :
    exec (.shotTimeEnd dt n) s = .next (if v.decides n = true ∧ e ≤ v.now then (v.enterEnd n).settle else v) := by
  change execShotTimeEnd dt n s = _
  unfold execShotTimeEnd
  simp only [hv, he, hocc, Bool.true_and, Bool.and_eq_true, decide_eq_true_eq]

end ends

/-- The weaker of two statements about what a command does. -/
theorem does_mono {s : State} {c : Instr} {p q : State → Prop} (h : s.does c p) (hpq : ∀ u, p u → q u) : s.does c q := by
  obtain ⟨u, hu, hp⟩ := h
  exact ⟨u, hu, hpq u hp⟩

/-- Settles O50 (R114, R118, R120–R122): a slot that fires is spent before it acts, and nothing that decides on its shot reads its flags. -/
theorem firingAndShots : Obligations.FiringAndShots := by
  unfold Obligations.FiringAndShots
  refine ⟨fun s v dt vb n c hv hc ha hm hp => ⟨does_slotFire hv hp, fun hfirst => ?_⟩, fun s v dt hv => ⟨fun k hev => ?_, ?_, ?_, fun n sh hsh hocc => ?_⟩⟩
  · have h : FiresNext s v dt vb n c := ⟨hv, hc, ha, hm, hp, hfirst⟩
    refine ⟨fun he => ⟨does_event h he, fun h5 => ?_, fun h6 => ?_, fun h7 => ?_, does_eventLine h he⟩, fun ch he hd hch => ?_, fun ch he hd hch hobs => ?_⟩
    · exact does_aout h he (eventAction_set _ h5)
    · exact does_aout h he (eventAction_clear _ h6)
    · exact does_mono (does_aout h he (eventAction_toggle _ h7)) (fun u ⟨hf, ha, ho, _⟩ => ⟨hf, ha, ho⟩)
    · obtain ⟨ch, hlt⟩ := ch
      subst hch
      refine ⟨fun hf => ?_, fun hf hs => ?_, fun hf hs ht => ?_, fun hf hs ht => ⟨fun hb hcls => ?_, fun hb hmax => ?_, fun hb hmax =>
        ⟨fun hn => ?_, fun hn => ⟨fun hadm => ?_, fun hadm => ?_⟩⟩⟩⟩
      · exact does_mono (does_refusedFault h he hd hlt hf) (fun u ⟨hfired, harmed, hout, hphase, hseq⟩ => ⟨hfired, harmed, hout, hphase, hseq⟩)
      · exact does_mono (does_refusedShed h he hd hlt hf hs) (fun u ⟨hfired, _, hout, hphase, _⟩ => ⟨hfired, hout, hphase⟩)
      · exact does_mono (does_refusedHot h he hd hlt hf hs ht) (fun u ⟨hfired, _, hout, hphase, _⟩ => ⟨hfired, hout, hphase⟩)
      · exact does_mono (does_refusedLow h he hd hlt hf hs ht hb hcls) (fun u ⟨hfired, _, hout, hphase, _⟩ => ⟨hfired, hout, hphase⟩)
      · exact does_refusedOver h he hd hlt hf hs ht hb hmax
      · exact does_queueUp h he hd hf hs ht hb hmax hn
      · exact does_begin h he hd hlt hf hs ht hb hmax hn hadm
      · exact does_mono (does_refusedBank h he hd hlt hf hs ht hb hmax hn hadm) (fun u ⟨hfired, _, hout, hphase, _⟩ => ⟨hfired, hout, hphase⟩)
    · obtain ⟨ch, hlt⟩ := ch
      subst hch
      exact does_standby h he hd hobs hlt
  · refine ⟨fun hnone => does_noGrant hv hev hnone, fun w hw hbank => ⟨fun hd => ?_, fun hd => ?_⟩⟩
    · have hch : w.ch < 48 := by
        have hk := k.isLt
        unfold bankOf at hbank
        omega
      refine does_mono (does_grant hv hev hw) (fun u hu => ?_)
      have hgrant : v.giveBoost k w = v.grantTo k w := if_neg (by simp [hd])
      rw [hu, hgrant]
      exact grantTo_shows v k hch
    · exact does_mono (does_grant hv hev hw) (fun u hu => hu.trans (if_pos hd))
  · exact fun n hd => does_bankWaitTimeout hv hd n
  · exact fun n hd => does_waitAngleEnd hv hd n
  · refine ⟨fun hdec hwait hend hreached => does_shotAngleEnd hv n hsh hocc hdec hwait hend hreached, fun e he => ⟨fun hle hdec => ?_, fun hnot => ?_⟩⟩
    · exact ⟨_, by rw [exec_shotTimeEnd hv n he hocc, if_pos ⟨hdec, hle⟩], ended_enterEnd v n.isLt hocc⟩
    · refine ⟨v, ?_, rfl⟩
      have hno : ¬ (v.decides n = true ∧ e ≤ v.now) := by
        rintro ⟨hdec, hle⟩
        rcases hnot with hlt | hdec'
        · omega
        · rw [hdec] at hdec'
          exact absurd hdec' (by decide)
      rw [exec_shotTimeEnd hv n he hocc, if_neg hno]

end Sys2Proof.Machine

/-! PROOFS. Events outside the engine's running (O41). -/

namespace Sys2Proof.Machine

-- ── Discrete inputs (R15, R17, R288) ──────────────────────────────────────────────────────────────────────────────

section discrete
variable (s : State) (f : FReg) (level : Bool) (wake : Nat)

theorem noteWake_kept (k : Nat) : (s.noteWake k).regs = s.regs ∧ (s.noteWake k).mem = s.mem ∧ (s.noteWake k).now = s.now ∧
    (s.noteWake k).pwr.inReset = s.pwr.inReset := by
  unfold State.noteWake
  split
  · exact ⟨rfl, rfl, rfl, rfl⟩
  · exact ⟨rfl, rfl, rfl, rfl⟩

theorem irq_inReset (n : Nat) : (s.irq n).pwr.inReset = s.pwr.inReset := by
  obtain ⟨-, hpwr, -⟩ := irqOnly_irq s n
  rw [← hpwr]

/-- What a filtered input does when it takes a level: the level stands in its flag, and nothing else changes but pending sources. -/
theorem discrete_shows (hw : f.lo + f.w ≤ 32) (h1 : 0 < f.w) (hi : inIrqBlock f.addr = false) :
    (s.discrete f level wake).flag f = level ∧ s.sameBut (s.discrete f level wake) [f.addr] ∧
    (s.discrete f level wake).now = s.now ∧ (s.discrete f level wake).pwr.inReset = s.pwr.inReset ∧
    ∀ g : FReg, g.addr = f.addr → (g.lo + g.w ≤ f.lo ∨ f.lo + f.w ≤ g.lo) → (s.discrete f level wake).flag g = s.flag g := by
  unfold State.discrete
  extract_lets s1
  split
  · next h => exact ⟨h, sameBut_refl s _, rfl, rfl, fun _ _ _ => rfl⟩
  have hset : s.sameBut (s.setFlag f level) [f.addr] := sameBut_set (sameBut_refl s _) f (by simp) _
  have h1flag : s1.flag f = level := (flag_irq _ 249 f hi).trans (flag_setFlag s f level hw h1)
  have h1same : s.sameBut s1 [f.addr] := sameBut_irq hset 249
  have h1now : s1.now = s.now := irq_now _ 249
  have h1reset : s1.pwr.inReset = s.pwr.inReset := irq_inReset _ 249
  have h1field : ∀ g : FReg, g.addr = f.addr → (g.lo + g.w ≤ f.lo ∨ f.lo + f.w ≤ g.lo) → s1.flag g = s.flag g := fun g ha hd =>
    (flag_irq _ 249 g (ha ▸ hi)).trans (flag_setFlag_field s f g level hw hd)
  clear_value s1
  split
  · obtain ⟨hregs, hmem, hnow, hreset⟩ := noteWake_kept s1 wake
    have hflag : ∀ g, (s1.noteWake wake).flag g = s1.flag g := fun g => by unfold State.flag State.get State.word; rw [hregs]
    exact ⟨(hflag f).trans h1flag, sameBut_of_regs h1same hregs hmem, hnow.trans h1now, hreset.trans h1reset,
      fun g ha hd => (hflag g).trans (h1field g ha hd)⟩
  · exact ⟨h1flag, h1same, h1now, h1reset, h1field⟩

theorem setDiscPin_eq (k : Nat) (b : Bool) : ∃ x, s.setDiscPin k b = s.withHst x := by
  unfold State.setDiscPin
  split
  · exact ⟨s.hst, rfl⟩
  · exact ⟨_, rfl⟩

end discrete

/-- The registers that a transition of R15 reads. -/
theorem st_of_sameBut {s t : State} {l : List Nat} (h : s.sameBut t l) (hl : Reg.SYS_STATE ∉ l) : t.st = s.st := sameBut_get h _ hl (by decide)

theorem safeFault_of_sameBut {s t : State} {l : List Nat} (h : s.sameBut t l) (hl : Reg.SYS_FAULT ∉ l) (hc : Reg.SYS_FAULTCFG ∉ l) :
    t.safeFault = s.safeFault := by
  unfold State.safeFault
  rw [h.1 _ hl (by decide), sameBut_get h _ hc (by decide)]

section inputs
variable {s v : State} {dt : Nat} (hv : s.advance dt = v) (ha : v.awake = true)
include hv ha

/-- KEY takes another level, its release noted with its time (R15, R17). -/
theorem does_keyChange {b : Bool} (hk : v.key = !b) : s.does (.keyChange dt b) (fun u => u.flag Fld.SYS_STAT_KEY = b ∧
    u.sys.keyOffAt = (if b then none else some v.now) ∧ v.sameBut u [Reg.SYS_STAT] ∧ u.pwr.inReset = false ∧
    u.stopReq = v.stopReq ∧ u.flag Fld.SYS_STAT_REARM_WAIT = v.flag Fld.SYS_STAT_REARM_WAIT) := by
  obtain ⟨x, hx⟩ := setDiscPin_eq v 0 b
  have hne : ¬ (v.key = b) := by rw [hk]; cases b <;> decide
  have hawake : (v.withHst x).awake = true := ha
  have hkey : (v.withHst x).key = v.key := rfl
  have hreset : v.pwr.inReset = false := by
    simp only [State.awake, Bool.and_eq_true, Bool.not_eq_true'] at ha
    exact ha.1
  obtain ⟨hflag, hsame, hnow, hin, hfield⟩ := discrete_shows (v.withHst x) Fld.SYS_STAT_KEY b 1 (by decide) (by decide) (by decide)
  refine ⟨((v.withHst x).discrete Fld.SYS_STAT_KEY b 1).withSys { ((v.withHst x).discrete Fld.SYS_STAT_KEY b 1).sys with
    keyOffAt := if b then none else some ((v.withHst x).discrete Fld.SYS_STAT_KEY b 1).now }, ?_, hflag, ?_, hsame, hin.trans hreset,
    hfield Fld.SYS_STAT_STOPREQ rfl (by decide), hfield Fld.SYS_STAT_REARM_WAIT rfl (by decide)⟩
  · change execKeyChange dt b s = _
    unfold execKeyChange
    simp only [hv, hx, hawake, hkey, hne, Bool.not_true, Bool.false_eq_true, decide_false, Bool.or_self, if_false]
  · exact congrArg (fun t => if b then none else some t) hnow

theorem does_stopreqChange (b : Bool) : s.does (.stopreqChange dt b) (fun u => u.stopReq = b ∧ v.sameBut u [Reg.SYS_STAT] ∧
    u.pwr.inReset = false) := by
  obtain ⟨x, hx⟩ := setDiscPin_eq v 1 b
  have hawake : (v.withHst x).awake = true := ha
  have hreset : v.pwr.inReset = false := by
    simp only [State.awake, Bool.and_eq_true, Bool.not_eq_true'] at ha
    exact ha.1
  obtain ⟨hflag, hsame, -, hin, -⟩ := discrete_shows (v.withHst x) Fld.SYS_STAT_STOPREQ b 0 (by decide) (by decide) (by decide)
  refine ⟨(v.withHst x).discrete Fld.SYS_STAT_STOPREQ b 0, ?_, hflag, hsame, hin.trans hreset⟩
  change execStopreqChange dt b s = _
  unfold execStopreqChange
  simp only [hv, hx, hawake, if_true]

/-- START, or WAKE (R288). -/
theorem does_discreteInputChange (w b : Bool) : s.does (.discreteInputChange dt w b) (fun u =>
    u.flag (if w then Fld.SYS_STAT_WAKE else Fld.SYS_STAT_START) = b ∧ u.key = v.key ∧ v.sameBut u [Reg.SYS_STAT]) := by
  obtain ⟨x, hx⟩ := setDiscPin_eq v (if w then 3 else 2) b
  have hawake : (v.withHst x).awake = true := ha
  have hexec : exec (.discreteInputChange dt w b) s = .next ((v.withHst x).discrete (if w then Fld.SYS_STAT_WAKE else Fld.SYS_STAT_START) b
      (if w then 4 else 2)).settle := by
    change execDiscreteInputChange dt w b s = _
    unfold execDiscreteInputChange
    simp only [hv, hx, hawake, if_true]
  refine ⟨_, hexec, ?_⟩
  cases w
  · obtain ⟨hflag, hsame, -, -, hfield⟩ := discrete_shows (v.withHst x) Fld.SYS_STAT_START b 2 (by decide) (by decide) (by decide)
    exact ⟨hflag, hfield Fld.SYS_STAT_KEY rfl (by decide), hsame⟩
  · obtain ⟨hflag, hsame, -, -, hfield⟩ := discrete_shows (v.withHst x) Fld.SYS_STAT_WAKE b 4 (by decide) (by decide) (by decide)
    exact ⟨hflag, hfield Fld.SYS_STAT_KEY rfl (by decide), hsame⟩

end inputs

section waits
variable {s v : State} {dt : Nat} (hv : s.advance dt = v)
include hv

/-- KEY has been released for 10 ms (R17). -/
theorem does_rearmWaitClear {t : Nat} (ht : v.sys.keyOffAt = some t) (hr : v.flag Fld.SYS_STAT_REARM_WAIT = true) (hk : v.key = false)
    (hp : v.passed (Nat.max t v.sys.rearmAt) (10 * msTicks) = true) :
    s.does (.rearmWaitClear dt) (fun u => u.flag Fld.SYS_STAT_REARM_WAIT = false ∧ v.sameBut u [Reg.SYS_STAT]) := by
  refine ⟨v.setFlag Fld.SYS_STAT_REARM_WAIT false, ?_, flag_setFlag _ _ _ (by decide) (by decide),
    sameBut_set (sameBut_refl v _) _ (by decide) _⟩
  change execRearmWaitClear dt s = _
  unfold execRearmWaitClear
  simp only [hv, ht, hr, hk, hp, Bool.not_false, Bool.and_self, if_true]

/-- SEAL_A and SEAL_B have read equal for 1 s (R300). -/
theorem does_sealInvalid {t : Nat} (ht : v.sys.sealEqAt = some t) (hp : v.passed t (1000 * msTicks) = true)
    (hi : v.flag Fld.SEC_STAT_SEAL_INVALID = false) :
    s.does (.sealInvalid dt) (fun u => u.flag Fld.SEC_STAT_SEAL_INVALID = true ∧ v.sameBut u [Reg.SEC_STAT]) := by
  refine ⟨(v.raiseFlag Fld.SEC_STAT_SEAL_INVALID).irq 9, ?_, ?_, sameBut_irq (sameBut_raiseFlag (sameBut_refl v _) _ (by decide)) 9⟩
  · change execSealInvalid dt s = _
    unfold execSealInvalid
    simp only [hv, ht, hp, hi, Bool.not_false, Bool.and_self, if_true]
  · rw [flag_irq _ 9 _ (by decide)]
    exact flag_raiseFlag v _ (by decide) (by decide)

end waits

-- ── Loss of host (R22, R23) ───────────────────────────────────────────────────────────────────────────────────────

/-- A loss-of-host ramp, or withdrawal, begins at the output angle (R23). -/
def State.rampBegun (s : State) : State :=
  (s.withSys { s.sys with rampCycles := 0, rampFrom := s.out + if s.voter.outWrap then cycleAu else 0 }).withSch { s.sch with withdrawn := 0 }

/-- A ramp that has just begun has turned by nothing, and is not over (R23). -/
theorem checkRamp_begun {s : State} (hdem : s.flag Fld.SCH_CTRL_DEMAND = true) (hstop : s.stopped = false) :
    s.rampBegun.checkRamp = s.rampBegun := by
  have hdem' : s.rampBegun.flag Fld.SCH_CTRL_DEMAND = true := hdem
  have hstop' : s.rampBegun.stopped = false := hstop
  have hturned : s.rampBegun.rampTurned = 0 := by
    have hturn : s.rampBegun.rampTurned = (0 + if s.voter.outWrap then 1 else 0) * cycleAu + s.out - (s.out + if s.voter.outWrap then cycleAu else 0) := rfl
    rw [hturn]
    split <;> omega
  have hlen : 0 < s.rampBegun.rampLen := Nat.mul_pos (Nat.lt_of_lt_of_le Nat.one_pos (Nat.le_max_left _ _)) (by decide)
  have hgoes : ¬ (s.rampBegun.rampLen ≤ s.rampBegun.rampTurned) := by omega
  unfold State.checkRamp
  simp only [hdem', hstop', hgoes, decide_false, Bool.or_self, Bool.false_eq_true, if_false, if_true, ite_self]

section host
variable {s v : State} {dt : Nat} (hv : s.advance dt = v)
include hv

theorem does_hostLost (ha : v.awake = true) (hst : 4 ≤ v.st) (hl : v.flag Fld.SYS_STAT_HOST_LOST = false)
    (hp : v.passed v.sys.hostAt (v.get Fld.PKT_HOSTTIMEOUT_TIMEOUT * msTicks) = true) :
    s.does (.hostLost dt) (fun u => u.flag Fld.SYS_STAT_HOST_LOST = true ∧ u.sys.lostAt = v.now ∧ v.sameBut u [Reg.SYS_STAT]) := by
  have hset : v.sameBut (v.setFlag Fld.SYS_STAT_HOST_LOST true) [Reg.SYS_STAT] := sameBut_set (sameBut_refl v _) _ (by decide) _
  obtain ⟨t, ht, hflag, hsame, hnow⟩ : ∃ t, t = (v.setFlag Fld.SYS_STAT_HOST_LOST true).irq 246 ∧ t.flag Fld.SYS_STAT_HOST_LOST = true ∧
      v.sameBut t [Reg.SYS_STAT] ∧ t.now = v.now :=
    ⟨_, rfl, (flag_irq _ 246 _ (by decide)).trans (flag_setFlag v _ _ (by decide) (by decide)), sameBut_irq hset 246, irq_now _ 246⟩
  refine ⟨(t.anom 8).withSys { (t.anom 8).sys with lostAt := (t.anom 8).now }, ?_, hflag, hnow, sameBut_of_regs hsame rfl rfl⟩
  change execHostLost dt s = _
  unfold execHostLost
  simp only [hv, ha, hst, hl, hp, ht, Bool.not_false, Bool.and_self, decide_true, if_true]

theorem does_hostRamp (hl : v.flag Fld.SYS_STAT_HOST_LOST = true) (hr : v.flag Fld.SYS_STAT_HOST_RAMP = false) (hdone : v.sys.rampDone = false)
    (hp : v.passed v.sys.lostAt (v.get Fld.SYS_HOSTLOSS_HOLD * msTicks) = true)
    (hgov : v.flag Fld.SYS_HOSTLOSS_GOV_AUTO = false ∨ v.governs = false) (hdem : v.flag Fld.SCH_CTRL_DEMAND = true) (hstop : v.stopped = false) :
    s.does (.hostRamp dt) (fun u => u.flag Fld.SYS_STAT_HOST_RAMP = true ∧ u.sys.rampCycles = 0 ∧ v.sameBut u [Reg.SYS_STAT]) := by
  have hset : v.sameBut (v.setFlag Fld.SYS_STAT_HOST_RAMP true) [Reg.SYS_STAT] := sameBut_set (sameBut_refl v _) _ (by decide) _
  have hflag : (v.setFlag Fld.SYS_STAT_HOST_RAMP true).flag Fld.SYS_STAT_HOST_RAMP = true := flag_setFlag v _ _ (by decide) (by decide)
  have hdem2 : (v.setFlag Fld.SYS_STAT_HOST_RAMP true).flag Fld.SCH_CTRL_DEMAND = true := by
    unfold State.flag at hdem ⊢
    rw [sameBut_get hset _ (by decide) (by decide), hdem]
  have hstop2 : (v.setFlag Fld.SYS_STAT_HOST_RAMP true).stopped = false := by
    unfold State.stopped State.trkState State.sel at hstop ⊢
    rw [sameBut_get hset Fld.TRK_VSEL_SEL (by decide) (by decide), sameBut_get hset _ ?_ ?_, hstop]
    · simp only [Fld.TRK_STAT_STATE, Reg.TRK_STAT, Reg.SYS_STAT, List.mem_singleton]; omega
    · exact inIrqBlock_above (by simp only [Fld.TRK_STAT_STATE, Reg.TRK_STAT]; omega)
  have hkeeps : (v.flag Fld.SYS_HOSTLOSS_GOV_AUTO && v.governs) = false := by
    rcases hgov with h | h <;> simp [h]
  have hexec : exec (.hostRamp dt) s = .next ((v.setFlag Fld.SYS_STAT_HOST_RAMP true).rampBegun).checkRamp.settle := by
    change execHostRamp dt s = _
    unfold execHostRamp
    simp only [hv, hl, hr, hdone, hp, hkeeps, Bool.not_false, Bool.and_self, if_true]
    rfl
  refine ⟨_, hexec, ?_⟩
  rw [checkRamp_begun hdem2 hstop2]
  exact ⟨hflag, rfl, hset⟩

end host

-- ── Restarts of the processors (R13, R14) ─────────────────────────────────────────────────────────────────────────

section restarts

theorem port_setPort (s : State) (p q : Nat) (x : HostPort) : (s.setPort p x).hst.port q = if q = p then x else s.hst.port q :=
  spGet_spPut _ _ _ _

theorem incSat_eq (s : State) (f : FReg) : ∃ x, s.incSat f = s.set f x := by
  unfold State.incSat
  split
  · exact ⟨_, rfl⟩
  · exact ⟨_, rfl⟩

theorem raiseFault_sys (s : State) (f : FReg) : (s.raiseFault f).sys = s.sys := by
  unfold State.raiseFault
  split
  · rfl
  · exact irq_sys _ 1

/-- SUP's last mismatch came less than 1 s ago (R13). -/
def State.supAgain (s : State) : Bool :=
  match s.sys.supAt with
  | some t => !s.passed (t + 1) (1000 * msTicks)
  | none => false

theorem supAgain_eq_false {s : State} (h : s.sys.supAt = none ∨ ∃ t, s.sys.supAt = some t ∧ t + 1 + 1000 * msTicks ≤ s.now) :
    s.supAgain = false := by
  unfold State.supAgain
  rcases h with h | ⟨t, h, hle⟩
  · rw [h]
  · rw [h]
    simp only [State.passed, hle, decide_true, Bool.not_true]

theorem supAgain_eq_true {s : State} {t : Nat} (h : s.sys.supAt = some t) (hsoon : s.now < t + 1 + 1000 * msTicks) : s.supAgain = true := by
  unfold State.supAgain
  rw [h]
  simp only [State.passed, Nat.not_le.mpr hsoon, decide_false, Bool.not_false]

variable {s v : State} {dt : Nat} (hv : s.advance dt = v)
include hv

/-- SUP restarts; whether the mismatch before came less than 1 s ago decides on the fault (R13). -/
theorem exec_supLockstepFail (ha : v.awake = true) (hst : 3 ≤ v.st) :
    ∃ u : State, exec (.supLockstepFail dt) s = .next (if v.supAgain then u.raiseFault Fld.SYS_FAULT_SUP_LOCKSTEP else u).settle ∧
      u.flag Fld.SYS_STAT_SUP_RESTART = true ∧ u.sys = { v.sys with supAt := some v.now, supDown := true } ∧ v.sameBut u [Reg.SYS_STAT] := by
  obtain ⟨x, hx⟩ := incSat_eq (v.raiseFlag Fld.SYS_STAT_SUP_RESTART) Fld.SYS_STAT_SUP_RESTARTS
  have hflag : ((v.raiseFlag Fld.SYS_STAT_SUP_RESTART).set Fld.SYS_STAT_SUP_RESTARTS x).flag Fld.SYS_STAT_SUP_RESTART = true := by
    unfold State.flag
    rw [get_set_field _ _ _ _ (by decide) (by decide)]
    exact flag_raiseFlag v Fld.SYS_STAT_SUP_RESTART (by decide) (by decide)
  have hsame : v.sameBut ((v.raiseFlag Fld.SYS_STAT_SUP_RESTART).set Fld.SYS_STAT_SUP_RESTARTS x) [Reg.SYS_STAT] :=
    sameBut_set (sameBut_raiseFlag (sameBut_refl v _) _ (by decide)) _ (by decide) x
  refine ⟨((v.raiseFlag Fld.SYS_STAT_SUP_RESTART).set Fld.SYS_STAT_SUP_RESTARTS x).withSys { v.sys with supAt := some v.now, supDown := true },
    ?_, hflag, rfl, hsame⟩
  have hlate : ¬ (v.st < 3) := by omega
  change execSupLockstepFail dt s = _
  unfold execSupLockstepFail
  simp only [hv, ha, hx, hlate, Bool.not_true, decide_false, Bool.or_self, Bool.false_eq_true, if_false]
  rfl

theorem does_supFirst (ha : v.awake = true) (hst : 3 ≤ v.st)
    (hfirst : v.sys.supAt = none ∨ ∃ t, v.sys.supAt = some t ∧ t + 1 + 1000 * msTicks ≤ v.now) :
    s.does (.supLockstepFail dt) (fun u => u.flag Fld.SYS_STAT_SUP_RESTART = true ∧ u.sys.supDown = true ∧ u.sys.supAt = some v.now ∧
      v.sameBut u [Reg.SYS_STAT]) := by
  obtain ⟨u, hu, hflag, hsys, hsame⟩ := exec_supLockstepFail hv ha hst
  rw [supAgain_eq_false hfirst, if_neg (by decide)] at hu
  exact ⟨u, hu, hflag, by rw [hsys], by rw [hsys], hsame⟩

theorem does_supAgain (ha : v.awake = true) (hst : 3 ≤ v.st) {t : Nat} (ht : v.sys.supAt = some t) (hsoon : v.now < t + 1 + 1000 * msTicks) :
    s.does (.supLockstepFail dt) (fun u => u.flag Fld.SYS_STAT_SUP_RESTART = true ∧ u.sys.supDown = true ∧
      u.flag Fld.SYS_FAULT_SUP_LOCKSTEP = true ∧ v.sameBut u [Reg.SYS_STAT, Reg.SYS_FAULT]) := by
  obtain ⟨u, hu, hflag, hsys, hsame⟩ := exec_supLockstepFail hv ha hst
  rw [supAgain_eq_true ht hsoon, if_pos rfl] at hu
  refine ⟨u.raiseFault Fld.SYS_FAULT_SUP_LOCKSTEP, hu, ?_, ?_, flag_raiseFault u _ (by decide) (by decide) (by decide), ?_⟩
  · unfold State.flag State.get at hflag ⊢
    rw [word_raiseFault u _ _ (by decide) (by decide), hflag]
  · rw [raiseFault_sys, hsys]
  · have hwide : v.sameBut u [Reg.SYS_STAT, Reg.SYS_FAULT] := ⟨fun a hl hi => hsame.1 a (fun h => hl (by simp_all)) hi, hsame.2⟩
    have hraise := sameBut_raiseFlag hwide Fld.SYS_FAULT_SUP_LOCKSTEP (by decide)
    unfold State.raiseFault
    exact sameBut_ite hraise (sameBut_irq hraise 1)

omit hv in
/-- Packets not yet handled are discarded on every port of the list, and nothing else is (R14). -/
theorem discardInbound_ports (l : List Nat) : ∀ s : State,
    ((l.foldl State.discardInbound s).regs = s.regs ∧ (l.foldl State.discardInbound s).mem = s.mem) ∧
    ∀ p, (p ∈ l ∨ (s.hst.port p).inq = [] → ((l.foldl State.discardInbound s).hst.port p).inq = []) ∧
      ((l.foldl State.discardInbound s).hst.port p).outq = (s.hst.port p).outq := by
  induction l with
  | nil => exact fun s => ⟨⟨rfl, rfl⟩, fun p => ⟨fun h => h.resolve_left List.not_mem_nil, rfl⟩⟩
  | cons q l ih =>
    intro s
    obtain ⟨⟨hregs, hmem⟩, hports⟩ := ih (s.discardInbound q)
    refine ⟨⟨hregs, hmem⟩, fun p => ?_⟩
    obtain ⟨hin, hout⟩ := hports p
    have hport : ((s.discardInbound q).hst.port p).outq = (s.hst.port p).outq ∧
        (p = q ∨ (s.hst.port p).inq = [] → ((s.discardInbound q).hst.port p).inq = []) := by
      unfold State.discardInbound
      extract_lets x gone
      rw [port_setPort]
      split
      · next h => rw [h]; exact ⟨rfl, fun _ => rfl⟩
      · next h => exact ⟨rfl, fun h' => h'.resolve_left h⟩
    refine ⟨fun h => hin ?_, hout.trans hport.1⟩
    rcases h with h | h
    · rcases List.mem_cons.mp h with h | h
      · exact Or.inr (hport.2 (Or.inl h))
      · exact Or.inl h
    · exact Or.inr (hport.2 (Or.inr h))

omit hv in
theorem discardHandled_ports (s : State) : (s.discardHandled.regs = s.regs ∧ s.discardHandled.mem = s.mem) ∧
    ∀ p, (s.discardHandled.hst.port p).inq = (s.hst.port p).inq ∧ (s.discardHandled.hst.port p).outq = (s.hst.port p).outq := by
  unfold State.discardHandled
  split
  · exact ⟨⟨rfl, rfl⟩, fun _ => ⟨rfl, rfl⟩⟩
  · next q hq =>
    refine ⟨⟨rfl, rfl⟩, fun p => ?_⟩
    have hport : ∀ (x : HostPort) (t : TstState), ((s.setPort s.tst.otPort x).withTst t).hst.port p = if p = s.tst.otPort then x else s.hst.port p :=
      fun x _ => port_setPort s _ p x
    extract_lets x
    rw [hport]
    split
    · next h => rw [h]; exact ⟨rfl, rfl⟩
    · exact ⟨rfl, rfl⟩

theorem does_comLockstepFail (ha : v.awake = true) (hst : 3 ≤ v.st) :
    s.does (.comLockstepFail dt) (fun u => u.flag Fld.SYS_STAT_COM_RESTART = true ∧ u.sys.comDown = true ∧
      (∀ p : Fin 5, (u.hst.port p).inq = [] ∧ (u.hst.port p).outq = (v.hst.port p).outq) ∧ v.sameBut u [Reg.SYS_STAT]) := by
  obtain ⟨⟨hregs, hmem⟩, hports⟩ := discardInbound_ports (List.range 5) (v.raiseFlag Fld.SYS_STAT_COM_RESTART)
  obtain ⟨⟨kregs, kmem⟩, kports⟩ := discardHandled_ports ((List.range 5).foldl State.discardInbound (v.raiseFlag Fld.SYS_STAT_COM_RESTART))
  have hraised : v.sameBut (v.raiseFlag Fld.SYS_STAT_COM_RESTART) [Reg.SYS_STAT] := sameBut_raiseFlag (sameBut_refl v _) _ (by decide)
  have hflag : (v.raiseFlag Fld.SYS_STAT_COM_RESTART).flag Fld.SYS_STAT_COM_RESTART = true := flag_raiseFlag v _ (by decide) (by decide)
  obtain ⟨t, ht⟩ : ∃ t, ((List.range 5).foldl State.discardInbound (v.raiseFlag Fld.SYS_STAT_COM_RESTART)).discardHandled = t := ⟨_, rfl⟩
  rw [ht] at kregs kmem kports
  have hlate : ¬ (v.st < 3) := by omega
  refine ⟨t.withSys { t.sys with comDown := true }, ?_, ?_, rfl, fun p => ?_, sameBut_of_regs hraised (kregs.trans hregs) (kmem.trans hmem)⟩
  · change execComLockstepFail dt s = _
    unfold execComLockstepFail
    simp only [hv, ha, ht, hlate, Bool.not_true, decide_false, Bool.or_self, Bool.false_eq_true, if_false]
  · unfold State.flag State.get State.word at hflag ⊢
    rw [← hflag, ← hregs, ← kregs]
    rfl
  · obtain ⟨hin, hout⟩ := hports p
    obtain ⟨kin, kout⟩ := kports p
    exact ⟨kin.trans (hin (Or.inl (List.mem_range.mpr p.isLt))), kout.trans hout⟩

end restarts

-- ── The seal (R300) ───────────────────────────────────────────────────────────────────────────────────────────────

section sealing

/-- Presence that comes or goes with the seal shows in PKT_JOBS alone (R285). -/
theorem movePresence_kept (s : State) (b : Bool) : s.sameBut (s.movePresence b) [Reg.PKT_JOBS] := by
  have hshow : ∀ t : State, t.sameBut t.showPresence [Reg.PKT_JOBS] := by
    intro t
    unfold State.showPresence
    split
    · exact sameBut_set (sameBut_set (sameBut_refl t _) Fld.PKT_JOBS_PRES_WAIT (by decide) _) Fld.PKT_JOBS_PRES_ID (by decide) _
    · exact sameBut_set (sameBut_set (sameBut_refl t _) Fld.PKT_JOBS_PRES_WAIT (by decide) _) Fld.PKT_JOBS_PRES_ID (by decide) _
  unfold State.movePresence
  extract_lets step x s1
  have h1 : s.sameBut s1 [Reg.PKT_JOBS] := hshow (s.withHst { s.hst with jobs := s.hst.jobs.map step })
  exact sameBut_ite (sameBut_irq h1 247) h1

theorem sameBut_foldl {α : Type} {s : State} {r : List Nat} (f : State → α → State) (l : List α) (hf : ∀ t x, s.sameBut t r → s.sameBut (f t x) r) :
    ∀ t, s.sameBut t r → s.sameBut (l.foldl f t) r := by
  induction l with
  | nil => exact fun t h => h
  | cons x l ih => exact fun t h => ih _ (hf t x h)

/-- A sealed transfer of a port is dropped (R301). -/
def State.dropSealedAt (s : State) (p : Nat) : State :=
  match (s.hst.port p).transfer with
  | some t => if isSealed t.opcode then s.setPort p { s.hst.port p with transfer := none } else s
  | none => s

theorem dropSealed_kept {s t : State} {l : List Nat} (h : s.sameBut t l) : s.sameBut t.dropSealed l := by
  have hfold : t.dropSealed = (List.range 5).foldl State.dropSealedAt t := rfl
  rw [hfold]
  refine sameBut_foldl _ _ (fun u p hu => ?_) t h
  unfold State.dropSealedAt
  split
  · exact sameBut_ite hu hu
  · exact hu

/-- What the seal's opening or closing changes outside BENCH: SEAL_OPEN, and presence (R285, R300). -/
theorem sealMoves_shows (s : State) (b : Bool) (hst : s.st ≠ 9) :
    (s.setFlag Fld.SEC_STAT_SEAL_OPEN b).sameBut (s.sealMoves b) [Reg.PKT_JOBS] := by
  unfold State.sealMoves
  extract_lets s1 s2
  have hirq := sameBut_irq (sameBut_refl (s.setFlag Fld.SEC_STAT_SEAL_OPEN b) [Reg.PKT_JOBS]) 8
  have hmove := movePresence_kept ((s.setFlag Fld.SEC_STAT_SEAL_OPEN b).irq 8) b
  have h1 : (s.setFlag Fld.SEC_STAT_SEAL_OPEN b).sameBut s1 [Reg.PKT_JOBS] :=
    ⟨fun a ha hi => (hmove.1 a ha hi).trans (hirq.1 a ha hi), fun a => (hmove.2 a).trans (hirq.2 a)⟩
  clear_value s1
  have h2 : (s.setFlag Fld.SEC_STAT_SEAL_OPEN b).sameBut s2 [Reg.PKT_JOBS] := dropSealed_kept h1
  have hst2 : s2.st ≠ 9 := by
    have hflag : s.sameBut (s.setFlag Fld.SEC_STAT_SEAL_OPEN b) [Reg.SEC_STAT] := sameBut_set (sameBut_refl s _) _ (by decide) _
    rw [st_of_sameBut h2 (by decide), st_of_sameBut hflag (by decide)]
    exact hst
  rw [if_neg hst2]
  exact sameBut_ite h1 h2

variable {s v : State} {dt : Nat} (hv : s.advance dt = v)
include hv

theorem leaves_sealEarly (ht : v.tclk < 20 * msTicks) (a b : Bool) :
    s.leaves (.sealChange dt a b) (fun u => u = v) := by
  refine ⟨v, ?_, rfl⟩
  change execSealChange dt a b s = _
  unfold execSealChange
  simp only [hv, ht, decide_true, Bool.or_true, if_true]

/-- The levels of the seal's inputs, shown; and since when they have been equal (R300). -/
def State.sealSeen (s : State) (a b : Bool) : State :=
  ((s.setFlag Fld.SEC_STAT_SEAL_A a).setFlag Fld.SEC_STAT_SEAL_B b).withSys { s.sys with
    sealEqAt := if a != b then none else match s.sys.sealEqAt with | some t => some t | none => some s.now }

omit hv in
theorem sealSeen_shows (v : State) (a b : Bool) : (v.sealSeen a b).flag Fld.SEC_STAT_SEAL_A = a ∧ (v.sealSeen a b).flag Fld.SEC_STAT_SEAL_B = b ∧
    (v.sealSeen a b).sealOpen = v.sealOpen ∧ v.sameBut (v.sealSeen a b) [Reg.SEC_STAT] := by
  have hset : v.sameBut ((v.setFlag Fld.SEC_STAT_SEAL_A a).setFlag Fld.SEC_STAT_SEAL_B b) [Reg.SEC_STAT] :=
    sameBut_set (sameBut_set (sameBut_refl v _) _ (by decide) _) _ (by decide) _
  refine ⟨?_, flag_setFlag _ Fld.SEC_STAT_SEAL_B b (by decide) (by decide), ?_, hset⟩
  · exact (flag_setFlag_field _ Fld.SEC_STAT_SEAL_B Fld.SEC_STAT_SEAL_A b (by decide) (by decide)).trans
      (flag_setFlag v Fld.SEC_STAT_SEAL_A a (by decide) (by decide))
  · exact (flag_setFlag_field _ Fld.SEC_STAT_SEAL_B Fld.SEC_STAT_SEAL_OPEN b (by decide) (by decide)).trans
      (flag_setFlag_field v Fld.SEC_STAT_SEAL_A Fld.SEC_STAT_SEAL_OPEN a (by decide) (by decide))

theorem exec_sealChange (hr : v.pwr.inReset = false) (hst : 3 ≤ v.st) (ht : 20 * msTicks ≤ v.tclk) (a b : Bool) :
    exec (.sealChange dt a b) s = .next (if v.sealOpen = (a && !b) then v.sealSeen a b else ((v.sealSeen a b).sealMoves (a && !b)).settle) := by
  have hlate : ¬ (v.st < 3) := by omega
  have htime : ¬ (v.tclk < 20 * msTicks) := by omega
  have hopen : (v.sealSeen a b).sealOpen = v.sealOpen := (sealSeen_shows v a b).2.2.1
  rw [← hopen]
  change execSealChange dt a b s = _
  unfold execSealChange
  simp only [hv, hr, hlate, htime, decide_false, Bool.or_self, Bool.false_eq_true, if_false]
  rfl

/-- The seal opens or closes with its levels (R300). -/
theorem does_sealMoves (hr : v.pwr.inReset = false) (hst : 3 ≤ v.st) (ht : 20 * msTicks ≤ v.tclk) {a b : Bool} (ho : v.sealOpen = !(a && !b))
    (h9 : v.st ≠ 9) : s.does (.sealChange dt a b) (fun u => u.flag Fld.SEC_STAT_SEAL_A = a ∧ u.flag Fld.SEC_STAT_SEAL_B = b ∧ u.sealOpen = !v.sealOpen) := by
  obtain ⟨ha, hb, hopen, hsame⟩ := sealSeen_shows v a b
  have hst9 : (v.sealSeen a b).st ≠ 9 := by
    rw [st_of_sameBut hsame (by decide)]
    exact h9
  have hmoves := sealMoves_shows (v.sealSeen a b) (a && !b) hst9
  have hshow : ∀ f : FReg, f.addr = Reg.SEC_STAT → ((v.sealSeen a b).sealMoves (a && !b)).flag f =
      ((v.sealSeen a b).setFlag Fld.SEC_STAT_SEAL_OPEN (a && !b)).flag f := by
    intro f hf
    unfold State.flag
    rw [sameBut_get hmoves f (by rw [hf]; decide) (by rw [hf]; decide)]
  refine ⟨(v.sealSeen a b).sealMoves (a && !b), ?_, ?_, ?_, ?_⟩
  · rw [exec_sealChange hv hr hst ht, if_neg (by rw [ho]; cases (a && !b) <;> decide)]
  · rw [hshow _ rfl, flag_setFlag_field _ _ _ _ (by decide) (by decide), ha]
  · rw [hshow _ rfl, flag_setFlag_field _ _ _ _ (by decide) (by decide), hb]
  · rw [State.sealOpen, hshow _ rfl, flag_setFlag _ _ _ (by decide) (by decide), ho, Bool.not_not]

end sealing

-- ── GPIO edges (R288, R357) ───────────────────────────────────────────────────────────────────────────────────────

/-- The registers that an edge on a pin changes: the edge flags, and the channels of DMA that it triggers. -/
def edgeRegs : List Nat := Reg.HST_GPIO_IFLAG :: (List.range 16).map Reg.DMA_CH_STAT

/-- From `s` to `t` only those registers change, and no edge flag falls. -/
def edgeKept (s t : State) : Prop :=
  s.sameBut t edgeRegs ∧ t.hst = s.hst ∧ ∀ k, s.bit Fld.HST_GPIO_IFLAG_FLAG k = true → t.bit Fld.HST_GPIO_IFLAG_FLAG k = true

section edges
variable {s t u : State}

theorem edgeKept_refl (s : State) : edgeKept s s := ⟨sameBut_refl s _, rfl, fun _ h => h⟩

theorem edgeKept_trans (h : edgeKept s t) (k : edgeKept t u) : edgeKept s u := by
  obtain ⟨⟨hword, hbyte⟩, hhst, hflag⟩ := h
  obtain ⟨⟨kword, kbyte⟩, khst, kflag⟩ := k
  exact ⟨⟨fun a ha hi => (kword a ha hi).trans (hword a ha hi), fun a => (kbyte a).trans (hbyte a)⟩, khst.trans hhst, fun n h => kflag n (hflag n h)⟩

theorem edgeKept_of_sameBut {l : List Nat} (h : s.sameBut t l) (hl : l ⊆ edgeRegs) (hf : Reg.HST_GPIO_IFLAG ∉ l) (hh : t.hst = s.hst) :
    edgeKept s t := by
  refine ⟨⟨fun a ha hi => h.1 a (fun hm => ha (hl hm)) hi, h.2⟩, hh, fun k hk => ?_⟩
  unfold State.bit at hk ⊢
  rw [sameBut_get h _ hf (by decide)]
  exact hk

theorem edgeKept_foldl {α : Type} (f : State → α → State) (l : List α) (hf : ∀ t, ∀ x ∈ l, edgeKept t (f t x)) : ∀ t, edgeKept t (l.foldl f t) := by
  induction l with
  | nil => exact edgeKept_refl
  | cons x l ih => exact fun t => edgeKept_trans (hf t x (by simp)) (ih (fun t y hy => hf t y (by simp [hy])) _)

theorem edgeKept_ite {c : Prop} [Decidable c] (ht : edgeKept s t) (hu : edgeKept s u) : edgeKept s (if c then t else u) := by
  split
  · exact ht
  · exact hu

theorem testBit_get_lt {f : FReg} {k : Nat} (h : (s.get f).testBit k = true) : k < f.w := by
  by_contra hk
  have hlt : s.get f < 2 ^ k := Nat.lt_of_lt_of_le (fieldOf_lt f _) (Nat.pow_le_pow_right (by decide) (Nat.not_lt.mp hk))
  rw [Nat.testBit_lt_two_pow hlt] at h
  exact absurd h (by decide)

/-- A flag bit that is raised is set, and no other falls. -/
theorem bit_raiseBit (s : State) (f : FReg) (n : Nat) (hw : f.lo + f.w ≤ 32) {k : Nat} (hk : k < f.w) (h : k = n ∨ s.bit f k = true) :
    (s.raiseBit f n).bit f k = true := by
  have hget : (s.raiseBit f n).get f = (s.get f ||| 1 <<< n) % 2 ^ f.w := get_set s f (s.get f ||| 1 <<< n) hw
  unfold State.bit at h ⊢
  rw [hget, Nat.testBit_mod_two_pow, decide_eq_true hk, Bool.true_and, Nat.testBit_or, Nat.one_shiftLeft]
  rcases h with rfl | h
  · rw [Nat.testBit_two_pow_self, Bool.or_true]
  · rw [h, Bool.true_or]

theorem edgeKept_raiseBit (s : State) (n : Nat) : edgeKept s (s.raiseBit Fld.HST_GPIO_IFLAG_FLAG n) :=
  ⟨sameBut_set (sameBut_refl s _) Fld.HST_GPIO_IFLAG_FLAG List.mem_cons_self _, rfl,
    fun _ h => bit_raiseBit s Fld.HST_GPIO_IFLAG_FLAG n (by decide) (testBit_get_lt h) (Or.inr h)⟩

theorem edgeKept_irq (s : State) (n : Nat) : edgeKept s (s.irq n) :=
  edgeKept_of_sameBut (l := []) (sameBut_irq (sameBut_refl s _) n) (List.nil_subset _) List.not_mem_nil (irq_hst s n)

theorem edgeKept_dmaPulse (s : State) (c : Nat) : edgeKept s (s.dmaPulse c) := by
  refine edgeKept_foldl _ _ (fun t n hn => ?_) s
  have hlt : n < 16 := List.mem_range.mp hn
  have hset : ∀ (f : FReg) (x : Nat), f.addr = Reg.DMA_CH_STAT n → edgeKept t (t.set f x) := by
    intro f x hf
    refine edgeKept_of_sameBut (l := [Reg.DMA_CH_STAT n]) (sameBut_set (sameBut_refl t _) f (by simp [hf]) x) ?_ ?_ rfl
    · intro a ha
      rw [List.mem_singleton.mp ha]
      exact List.mem_cons_of_mem _ (List.mem_map_of_mem hn)
    · simp only [Reg.HST_GPIO_IFLAG, Reg.DMA_CH_STAT, List.mem_singleton]; omega
  split
  · unfold State.dmaPulseAt
    split
    · exact edgeKept_refl t
    split
    · exact hset _ 1 rfl
    split
    · exact ⟨sameBut_refl t _, rfl, fun _ h => h⟩
    · exact hset _ _ rfl
  · exact edgeKept_refl t

theorem edgeKept_timPinEdge (s : State) (p : Nat) (rise : Bool) : edgeKept s (s.timPinEdge p rise) := by
  unfold State.timPinEdge
  split
  · exact edgeKept_refl s
  refine edgeKept_foldl _ _ (fun t n _ => ?_) s
  exact edgeKept_ite ⟨sameBut_refl t _, rfl, fun _ h => h⟩ (edgeKept_refl t)

/-- The register that enables a pin's edge. -/
def edgeEnable (rise : Bool) : FReg := if rise then Fld.HST_GPIO_IRQR_RISE else Fld.HST_GPIO_IRQF_FALL

/-- An enabled edge sets its flag (R357). -/
theorem pinEdge_shows (s : State) (n : Nat) (rise : Bool) : edgeKept s (s.pinEdge n rise) ∧
    (s.bit (edgeEnable rise) n = true → n < 32 → (s.pinEdge n rise).bit Fld.HST_GPIO_IFLAG_FLAG n = true) := by
  have hirq : edgeKept s ((s.raiseBit Fld.HST_GPIO_IFLAG_FLAG n).irq 248) := edgeKept_trans (edgeKept_raiseBit s n) (edgeKept_irq _ 248)
  have hpulse : edgeKept ((s.raiseBit Fld.HST_GPIO_IFLAG_FLAG n).irq 248) (if n < 4 then
      ((s.raiseBit Fld.HST_GPIO_IFLAG_FLAG n).irq 248).dmaPulse (0x70 + n) else (s.raiseBit Fld.HST_GPIO_IFLAG_FLAG n).irq 248) := edgeKept_ite (edgeKept_dmaPulse _ _) (edgeKept_refl _)
  unfold State.pinEdge
  extract_lets en g s1
  constructor
  · refine edgeKept_trans ?_ (edgeKept_timPinEdge s1 n rise)
    unfold s1
    split
    · exact edgeKept_trans hirq hpulse
    · exact edgeKept_refl s
  · intro hen hn
    have hraised := bit_raiseBit s Fld.HST_GPIO_IFLAG_FLAG n (by decide) (k := n) hn (Or.inl rfl)
    refine (edgeKept_timPinEdge s1 n rise).2.2 n ?_
    have hen' : en = true := hen
    unfold s1
    rw [if_pos hen']
    exact hpulse.2.2 n ((edgeKept_irq _ 248).2.2 n hraised)

/-- Among pins that have changed every enabled edge sets its flag. -/
theorem pinEdges_flag (s : State) (level : Nat → Bool) {n : Nat} (hn : n < 32) (hen : s.bit (edgeEnable (level n)) n = true) (l : List Nat) :
    ∀ t, edgeKept s t → n ∈ l ∨ t.bit Fld.HST_GPIO_IFLAG_FLAG n = true →
      (l.foldl (fun s n => s.pinEdge n (level n)) t).bit Fld.HST_GPIO_IFLAG_FLAG n = true := by
  induction l with
  | nil => exact fun t _ h => h.resolve_left List.not_mem_nil
  | cons m l ih =>
    intro t ht h
    obtain ⟨hkept, hflag⟩ := pinEdge_shows t m (level m)
    refine ih _ (edgeKept_trans ht hkept) ?_
    rcases h with h | h
    · rcases List.mem_cons.mp h with rfl | h
      · refine Or.inr (hflag ?_ hn)
        have haddr : (edgeEnable (level n)).addr ∉ edgeRegs := by cases level n <;> decide
        have hi : inIrqBlock (edgeEnable (level n)).addr = false := by cases level n <;> decide
        unfold State.bit at hen ⊢
        rw [sameBut_get ht.1 _ haddr hi]
        exact hen
      · exact Or.inl h
    · exact Or.inr (hkept.2.2 n h)

end edges

section levels

/-- A level that persists is delivered again to both sides (R357). -/
def State.redeliver (s : State) (n : Nat) : State := if s.levelHolds n then (s.pendSource false n).pendSource true n else s

theorem irqOnly_redeliver (s : State) (n : Nat) : irqOnly s (s.redeliver n) := by
  unfold State.redeliver
  split
  · exact irqOnly_trans (irqOnly_pendSource s false n) (irqOnly_pendSource _ true n)
  · exact irqOnly_refl s

theorem irqOnly_redelivers (l : List Nat) : ∀ s : State, irqOnly s (l.foldl State.redeliver s) := by
  induction l with
  | nil => exact irqOnly_refl
  | cons n l ih => exact fun s => irqOnly_trans (irqOnly_redeliver s n) (ih _)

theorem refreshLevels_eq (s : State) : s.refreshLevels = ([64, 160, 164, 168, 172, 240].foldl State.redeliver s).redeliver 248 := by
  have hfold : s.refreshLevels = ([64, 160, 164, 168, 172, 240] ++ [248]).foldl State.redeliver s := rfl
  rw [hfold, List.foldl_append, List.foldl_cons, List.foldl_nil]

/-- The pins' source is pending while a flag of theirs stands (R357). -/
theorem isPend_refreshLevels (s : State) {n : Nat} (h : s.bit Fld.HST_GPIO_IFLAG_FLAG n = true) : s.refreshLevels.isPend false 248 = true := by
  rw [refreshLevels_eq]
  have hword := (irqOnly_redelivers [64, 160, 164, 168, 172, 240] s).2.2 Reg.HST_GPIO_IFLAG (by decide)
  generalize [64, 160, 164, 168, 172, 240].foldl State.redeliver s = t at hword ⊢
  have hget : t.get Fld.HST_GPIO_IFLAG_FLAG = s.get Fld.HST_GPIO_IFLAG_FLAG := congrArg (fieldOf Fld.HST_GPIO_IFLAG_FLAG) hword
  have hholds : t.levelHolds 248 = true := by
    have hne : t.get Fld.HST_GPIO_IFLAG_FLAG ≠ 0 := by
      intro h0
      rw [State.bit, ← hget, h0, Nat.zero_testBit] at h
      exact absurd h (by decide)
    simp [State.levelHolds, hne]
  rw [State.redeliver, if_pos hholds]
  unfold State.isPend State.bit State.get
  rw [word_pendSource_true _ 248 (by decide)]
  exact isPend_pendSource t 248 (by decide)

theorem refreshLevels_hst (s : State) : s.refreshLevels.hst = s.hst := by
  rw [(irqOnly_refreshLevels s).1]

end levels

section pins

/-- The levels outside with that of pin `n` put to `b`. -/
def levelsWith (g n : Nat) (b : Bool) : Nat := if b then g ||| 2 ^ n else g - (if g.testBit n then 2 ^ n else 0)

theorem testBit_levelsWith (g n : Nat) (b : Bool) : (levelsWith g n b).testBit n = b := by
  unfold levelsWith
  cases b
  · exact testBit_sub_bit g n
  · rw [if_pos rfl, Nat.testBit_or, Nat.testBit_two_pow_self, Bool.or_true]

/-- A pin that nothing in the device drives shows the level outside (R391). -/
theorem testBit_pinLevels {s : State} {n : Nat} (hn : n < 32) (ha : s.get Fld.HST_GPIO_FUNC_AOUT = 0) (h0 : s.get (Fld.PAT_PINOUT_OUT 0) = 0)
    (h1 : s.get (Fld.PAT_PINOUT_OUT 1) = 0) (hd : s.bit Fld.HST_GPIO_DIR_DIR n = false) : s.pinLevels.testBit n = s.hst.gpioExt.testBit n := by
  have hones : Nat.testBit 4294967295 n = true := by
    rw [show 4294967295 = 2 ^ 32 - 1 from rfl, Nat.testBit_two_pow_sub_one, decide_eq_true hn]
  unfold State.bit at hd
  unfold State.pinLevels
  simp only [ha, h0, h1, Nat.zero_mul, Nat.testBit_or, Nat.testBit_and, Nat.testBit_xor, Nat.zero_testBit, hones, hd, Bool.and_false,
    Bool.false_or, Bool.false_xor, Bool.and_true, show 4294967296 = 2 ^ 32 from rfl, Nat.testBit_mod_two_pow, decide_eq_true hn, Bool.true_and]

/-- A pin whose level has changed sets its flag where the edge is enabled; the levels outside stand (R357). -/
theorem samplePins_flag {t : State} {n : Nat} (hn : n < 32) {b : Bool} (hlevel : t.pinLevels.testBit n = b) (hseen : t.hst.gpioSeen.testBit n = !b)
    (hen : t.bit (edgeEnable b) n = true) : t.samplePins.hst.gpioExt = t.hst.gpioExt ∧ t.samplePins.bit Fld.HST_GPIO_IFLAG_FLAG n = true := by
  have hne : t.pinLevels.testBit n ≠ t.hst.gpioSeen.testBit n := by rw [hlevel, hseen]; cases b <;> decide
  have hchanged : ¬ (t.pinLevels = t.hst.gpioSeen) := fun h => hne (by rw [h])
  have hmem : n ∈ (List.range 32).filter (fun n => t.pinLevels.testBit n != t.hst.gpioSeen.testBit n) := by
    rw [List.mem_filter]
    exact ⟨List.mem_range.mpr hn, bne_iff_ne.mpr hne⟩
  unfold State.samplePins
  extract_lets now old
  rw [if_neg hchanged]
  have hseen' : t.bit (edgeEnable (now.testBit n)) n = true := by rw [show now.testBit n = b from hlevel]; exact hen
  constructor
  · have hkept := edgeKept_foldl (fun s n => s.pinEdge n (now.testBit n)) ((List.range 32).filter (fun n => now.testBit n != old.testBit n))
      (fun u m _ => (pinEdge_shows u m _).1) (t.withHst { t.hst with gpioSeen := now })
    rw [hkept.2.1]
    rfl
  · exact pinEdges_flag (t.withHst { t.hst with gpioSeen := now }) (fun m => now.testBit m) hn hseen' _ _ (edgeKept_refl _) (Or.inl hmem)

variable {s v : State} {dt : Nat} (hv : s.advance dt = v)
include hv

theorem does_gpioEdge (n : Fin 32) (b : Bool) (ha : v.get Fld.HST_GPIO_FUNC_AOUT = 0) (h0 : v.get (Fld.PAT_PINOUT_OUT 0) = 0)
    (h1 : v.get (Fld.PAT_PINOUT_OUT 1) = 0) (hd : v.bit Fld.HST_GPIO_DIR_DIR n = false) (hseen : v.hst.gpioSeen.testBit n = !b)
    (hen : v.bit (edgeEnable b) n = true) :
    s.does (.gpioEdge dt n b) (fun u => u.hst.gpioExt.testBit n = b ∧ u.bit Fld.HST_GPIO_IFLAG_FLAG n = true ∧ u.isPend false 248 = true) := by
  obtain ⟨t, ht⟩ : ∃ t, v.withHst { v.hst with gpioExt := levelsWith v.hst.gpioExt n b } = t := ⟨_, rfl⟩
  have hext : t.hst.gpioExt.testBit n = b := by rw [← ht]; exact testBit_levelsWith _ _ b
  have hlevel : t.pinLevels.testBit n = b := by
    rw [← hext]
    exact testBit_pinLevels n.isLt (ht ▸ ha) (ht ▸ h0) (ht ▸ h1) (ht ▸ hd)
  obtain ⟨hstands, hflag⟩ := samplePins_flag n.isLt hlevel (ht ▸ hseen) (ht ▸ hen)
  refine ⟨t.samplePins.refreshLevels, ?_, ?_, ?_, isPend_refreshLevels _ hflag⟩
  · change execGpioEdge dt n b s = _
    unfold execGpioEdge
    rw [hv, ← ht]
    rfl
  · rw [refreshLevels_hst, hstands, hext]
  · have hword := (irqOnly_refreshLevels t.samplePins).2.2 Reg.HST_GPIO_IFLAG (by decide)
    have hget : t.samplePins.refreshLevels.get Fld.HST_GPIO_IFLAG_FLAG = t.samplePins.get Fld.HST_GPIO_IFLAG_FLAG :=
      congrArg (fieldOf Fld.HST_GPIO_IFLAG_FLAG) hword
    unfold State.bit at hflag ⊢
    rw [hget]
    exact hflag

end pins

-- ── The commit of a sleep (R319, R320) ────────────────────────────────────────────────────────────────────────────

section sleep

/-- The firmware may always write PWR_SLEEP: no block gates it, and no check is made. -/
theorem takesWrite_sleep (s : State) (w : Word) : s.takesWrite Reg.PWR_SLEEP w := by
  have hrow : regRow Reg.PWR_SLEEP ≠ none := by decide
  have hgates : gatesOf Reg.PWR_SLEEP = [] := by decide
  have hcheck : (s.putRw Reg.PWR_SLEEP w).checkPWR Reg.PWR_SLEEP = 0 := by
    unfold State.checkPWR
    extract_lets ok
    have hok : ok = true := by
      unfold ok
      rw [if_neg (by decide), if_neg (by decide)]
    rw [if_pos hok]
    rfl
  refine ⟨by simp [State.regUp, hrow, hgates], ?_⟩
  unfold State.writeStatus State.checkReg
  rw [if_neg (by decide), if_neg (by decide), if_neg (by simp [show Reg.PWR_SLEEP ≠ Reg.FLO_PAIR by decide]), if_neg (by decide),
    if_neg (by decide), if_pos (by decide), hcheck]

theorem fwWrite_sleep (s : State) : s.fwWrite Reg.PWR_SLEEP 1 = (s.sleepCommit.answer 0).settle := by
  have hcommit : s.regEffect Reg.PWR_SLEEP 1 = s.sleepCommit := by
    unfold State.regEffect State.writePWR
    rw [if_neg (by decide), if_neg (by decide), if_pos (by decide), if_pos rfl, if_pos (by decide)]
  unfold State.fwWrite
  rw [busWrite_register s (by decide) (by decide) (takesWrite_sleep s 1), hcommit]

theorem saveStop_kept (s : State) (old : Nat) : s.sameBut (s.saveStop old) [Reg.TRK_STOPA] ∧ (s.saveStop old).now = s.now := by
  unfold State.saveStop
  extract_lets x y ok s1
  split
  · exact ⟨sameBut_refl s _, rfl⟩
  · have h1 : s.sameBut s1 [Reg.TRK_STOPA] := sameBut_setWord (sameBut_refl s _) (by simp) _
    have hnow : s1.now = s.now := rfl
    clear_value s1
    exact ⟨sameBut_irq (sameBut_of_regs (u := s1.withSys { s1.sys with stopSaved := true }) h1 rfl rfl) _, (irq_now _ _).trans hnow⟩

/-- What Frost begins with: the states shown, its time, and no SLEEP that waits (R319, R321). -/
theorem enterFrost_shows (s : State) : s.enterFrost.st = 1 ∧ s.enterFrost.get Fld.SYS_STATE_PREV = s.st ∧ s.enterFrost.pwr.frostAt = s.now ∧
    s.enterFrost.pwr.sleepReq = false ∧ s.enterFrost.get Fld.TRK_FCNT_COUNT = 0 := by
  have hst : s.st < 16 := fieldOf_lt _ _
  unfold State.enterFrost
  extract_lets fault pol old inp s1 s2 s3
  have hstate : s2.st = 1 := get_set _ Fld.SYS_STATE_STATE 1 (by decide)
  have hprev : s2.get Fld.SYS_STATE_PREV = s.st := by
    unfold s2
    rw [get_set_field _ _ _ _ (by decide) (by decide), get_set _ _ _ (by decide)]
    exact Nat.mod_eq_of_lt hst
  have hother : ∀ f : FReg, f.addr ≠ Reg.TRK_FCNT → s3.get f = s2.get f := by
    intro f hf
    unfold s3 State.get
    rw [word_setWord, if_neg hf]
  have hcount : s3.get Fld.TRK_FCNT_COUNT = 0 := by
    unfold s3 State.get
    rw [word_setWord, if_pos (show Fld.TRK_FCNT_COUNT.addr = Reg.TRK_FCNT from rfl)]
    rfl
  exact ⟨(hother _ (by decide)).trans hstate, (hother _ (by decide)).trans hprev, rfl, rfl, hcount⟩

variable {s v : State} {dt : Nat} (hv : s.advance dt = v) (hreq : v.pwr.sleepReq = true) (hst : v.st = 4)
include hv hreq hst

omit hreq hst in
theorem does_sleepCommit {q : State → Prop} (hq : q (v.sleepCommit.answer 0)) : s.does (.sleepCommit dt) q := by
  refine ⟨_, ?_, hq⟩
  change execSleepCommit dt s = _
  unfold execSleepCommit
  rw [hv, fwWrite_sleep]

/-- With no wake source pending Frost begins (R319). -/
theorem does_frost (hseen : v.pwr.wakeSeen &&& v.get Fld.PWR_WAKEEN_EN = 0) (hlevel : v.levelWakes = 0) :
    s.does (.sleepCommit dt) (fun u => u.st = 1 ∧ u.get Fld.SYS_STATE_PREV = 4 ∧ u.pwr.frostAt = v.now ∧ u.pwr.sleepReq = false ∧
      u.get Fld.TRK_FCNT_COUNT = 0) := by
  obtain ⟨t, ht⟩ : ∃ t, v.withPwr { v.pwr with sleepReq := false } = t := ⟨_, rfl⟩
  have hcommit : v.sleepCommit = (t.saveStop (t.trkState t.sel)).enterFrost := by
    unfold State.sleepCommit
    simp only [hreq, hst, hseen, hlevel, ht, Bool.not_true, bne_self_eq_false, Bool.or_self, Bool.false_eq_true, if_false]
  obtain ⟨hsame, hnow⟩ := saveStop_kept t (t.trkState t.sel)
  obtain ⟨hstate, hprev, hat, hsleep, hcount⟩ := enterFrost_shows (t.saveStop (t.trkState t.sel))
  have hold : (t.saveStop (t.trkState t.sel)).st = 4 := by
    rw [st_of_sameBut hsame (by decide), ← ht]
    exact hst
  have hvnow : t.now = v.now := by rw [← ht]; rfl
  refine does_sleepCommit hv ?_
  rw [hcommit]
  exact ⟨hstate, hprev.trans hold, hat.trans (hnow.trans hvnow), hsleep, hcount⟩

/-- A pending wake source aborts the entry (R320). -/
theorem does_sleepAbort (hwake : v.pwr.wakeSeen &&& v.get Fld.PWR_WAKEEN_EN ≠ 0 ∨ v.levelWakes ≠ 0) :
    s.does (.sleepCommit dt) (fun u => u.st = 4 ∧ u.flag Fld.SYS_STAT_SLEEP_ABORT = true ∧ u.pwr.sleepReq = false ∧
      v.sameBut u [Reg.SYS_STAT]) := by
  obtain ⟨t, ht, hregs, hmem, hsleep⟩ : ∃ t, v.withPwr { v.pwr with sleepReq := false } = t ∧ t.regs = v.regs ∧ t.mem = v.mem ∧
    t.pwr.sleepReq = false := ⟨_, rfl, rfl, rfl, rfl⟩
  have hpending : ((v.pwr.wakeSeen &&& v.get Fld.PWR_WAKEEN_EN) != 0 || v.levelWakes != 0) = true := by
    simpa only [Bool.or_eq_true, bne_iff_ne] using hwake
  have hcommit : v.sleepCommit = (t.raiseFlag Fld.SYS_STAT_SLEEP_ABORT).irq 4 := by
    unfold State.sleepCommit
    simp only [hreq, hst, hpending, ht, Bool.not_true, bne_self_eq_false, Bool.or_self, Bool.false_eq_true, if_false, if_true]
  have hsame : v.sameBut ((t.raiseFlag Fld.SYS_STAT_SLEEP_ABORT).irq 4) [Reg.SYS_STAT] :=
    sameBut_irq (sameBut_raiseFlag (sameBut_of_regs (sameBut_refl v _) hregs hmem) _ (by decide)) 4
  have hkept := keptBelow_irq (keptBelow_refl 0 (t.raiseFlag Fld.SYS_STAT_SLEEP_ABORT)) 4
  refine does_sleepCommit hv ?_
  rw [hcommit]
  exact ⟨(st_of_sameBut hsame (by decide)).trans hst, (flag_irq _ 4 _ (by decide)).trans (flag_raiseFlag t _ (by decide) (by decide)),
    hkept.2.trans hsleep, hsame⟩

end sleep

section transitions
variable {u : State} (hin : u.pwr.inReset = false) (hf : u.safeFault = false)
include hin hf

/-- Rows of R15's table that an input makes due, with no fault that leads to SAFE. -/
theorem transition_arms (hst : u.st = 4) (hk : u.key = true) (hs : u.stopReq = false) (hr : u.flag Fld.SYS_STAT_REARM_WAIT = false) :
    u.transition = some 5 := by
  simp [State.transition, hin, hf, hst, hk, hs, hr]

theorem transition_shuts (hst : u.st = 6) (h : u.key = false ∨ u.stopReq = true) : u.transition = some 7 := by
  have hstops : (!u.key || u.stopReq) = true := by rcases h with h | h <;> simp [h]
  simp only [State.transition, hin, hf, hst, hstops, Bool.false_and, Bool.false_eq_true, if_false, if_true,
    show (6 : Nat) ≠ 4 by decide, show (6 : Nat) ≠ 5 by decide]

theorem transition_disarms (hst : u.st = 5) (hk : u.key = false) : u.transition = some 4 := by
  simp [State.transition, hin, hf, hst, hk]

end transitions

/-- Settles O41 (R13–R17, R22, R23, R300, R319, R320, R357): row by row, what each event changes and what it leaves. -/
theorem systemEvents : Obligations.SystemEvents := by
  unfold Obligations.SystemEvents
  intro s v dt hv
  refine ⟨fun b ha hk => ?_, fun b ha => ?_, fun w b ha => does_discreteInputChange hv ha w b, fun t ht hr hk hp => does_rearmWaitClear hv ht hr hk hp,
    fun n b ha h0 h1 hd hseen hen => does_gpioEdge hv n b ha h0 h1 hd hseen hen, fun a b _ _ ht => leaves_sealEarly hv ht a b,
    fun a b hr hst ht => ⟨fun ho => ?_, fun ho h9 => does_sealMoves hv hr hst ht ho h9⟩,
    fun t ht hp hi => does_sealInvalid hv ht hp hi, fun ha hst hl hp => does_hostLost hv ha hst hl hp,
    fun hl hr hdone hp hgov hdem hstop => does_hostRamp hv hl hr hdone hp hgov hdem hstop,
    fun ha hst => ⟨does_supFirst hv ha hst, fun t ht hsoon => does_supAgain hv ha hst ht hsoon, does_comLockstepFail hv ha hst⟩,
    ?_, ?_, fun hreq hst => ⟨does_frost hv hreq hst, does_sleepAbort hv hreq hst⟩⟩
  · refine does_mono (does_keyChange hv ha hk) (fun u ⟨hkey, hoff, hsame, hin, hstop, hrearm⟩ => ⟨hkey, hoff, hsame, ?_, ?_, ?_⟩)
    · rintro rfl hst hs hr hf
      exact transition_arms hin ((safeFault_of_sameBut hsame (by decide) (by decide)).trans hf) ((st_of_sameBut hsame (by decide)).trans hst) hkey
        (hstop.trans hs) (hrearm.trans hr)
    · rintro rfl hst hf
      exact transition_shuts hin ((safeFault_of_sameBut hsame (by decide) (by decide)).trans hf) ((st_of_sameBut hsame (by decide)).trans hst) (Or.inl hkey)
    · rintro rfl hst hf
      exact transition_disarms hin ((safeFault_of_sameBut hsame (by decide) (by decide)).trans hf) ((st_of_sameBut hsame (by decide)).trans hst) hkey
  · refine does_mono (does_stopreqChange hv ha b) (fun u ⟨hstop, hsame, hin⟩ => ⟨hstop, hsame, ?_⟩)
    rintro rfl hst hf
    exact transition_shuts hin ((safeFault_of_sameBut hsame (by decide) (by decide)).trans hf) ((st_of_sameBut hsame (by decide)).trans hst) (Or.inr hstop)
  · obtain ⟨hseala, hsealb, hopen, hsame⟩ := sealSeen_shows v a b
    exact ⟨v.sealSeen a b, by rw [exec_sealChange hv hr hst ht, if_pos ho], hseala, hsealb, hopen, hsame⟩
  · exact ⟨v.withSys { v.sys with supDown := false }, by change execSupRestartDone dt s = _; unfold execSupRestartDone; rw [hv], rfl, rfl⟩
  · exact ⟨v.withSys { v.sys with comDown := false }, by change execComRestartDone dt s = _; unfold execComRestartDone; rw [hv], rfl, rfl⟩

end Sys2Proof.Machine

/-! PROOFS. Fields that share no bit, and the bits that a write by access type sets. -/

namespace Sys2Proof.Machine

-- ── Fields that share no bit ──────────────────────────────────────────────────────────────────────────────────────

/-- The field `f` lies in one register, and `g` shares no bit with it. -/
def fieldsApart (g f : FReg) : Bool :=
  decide (f.lo + f.w ≤ 32) && (g.addr != f.addr || decide (g.lo + g.w ≤ f.lo) || decide (f.lo + f.w ≤ g.lo))

section apart
variable (s : State) {f g : FReg}

theorem get_set_apart (v : Nat) (h : fieldsApart g f = true) : (s.set f v).get g = s.get g := by
  simp only [fieldsApart, Bool.and_eq_true, Bool.or_eq_true, decide_eq_true_eq, bne_iff_ne, or_assoc] at h
  obtain ⟨hfits, hreg | hbits⟩ := h
  · exact get_set_other s f g v hreg
  · exact get_set_field s f g v hfits hbits

theorem flag_set_apart (v : Nat) (h : fieldsApart g f = true) : (s.set f v).flag g = s.flag g := by
  unfold State.flag; rw [get_set_apart s v h]

theorem flag_set_one (hw : f.lo + f.w ≤ 32) (h : 0 < f.w) : (s.set f 1).flag f = true := flag_setFlag s f true hw h
theorem flag_set_zero (hw : f.lo + f.w ≤ 32) : (s.set f 0).flag f = false := by
  unfold State.flag; rw [get_set s f 0 hw, Nat.zero_mod]; rfl

end apart

/-- A one-bit field of a word is its bit. -/
theorem fieldOf_bit {f : FReg} (h : f.w = 1) (w : Word) : (fieldOf f w != 0) = w.getLsbD f.lo := by
  have hbit : fieldOf f w = w.toNat / 2 ^ f.lo % 2 := by rw [fieldOf, h, Nat.shiftRight_eq_div_pow]; rfl
  rw [hbit, BitVec.getLsbD, Nat.testBit_eq_decide_div_mod_eq]
  rcases Nat.mod_two_eq_zero_or_one (w.toNat / 2 ^ f.lo) with h0 | h1
  · rw [h0]; rfl
  · rw [h1]; rfl

/-- Bits outside a field do not show in it. -/
theorem fieldOf_or {f : FReg} {m : Word} (w : Word) (h : fieldOf f m = 0) : fieldOf f (w ||| m) = fieldOf f w := by
  apply Nat.eq_of_testBit_eq
  intro i
  have hm := testBit_field f m i
  rw [h, Nat.zero_testBit] at hm
  rw [testBit_field, testBit_field, BitVec.toNat_or, Nat.testBit_or]
  cases hi : decide (i < f.w)
  · rfl
  · rw [hi, Bool.true_and] at hm
    rw [← hm, Bool.or_false]

-- ── Access types, bit by bit (R4) ─────────────────────────────────────────────────────────────────────────────────

def rwBit (a k : Nat) : Bool := (regRow a).any (fun r => (r.rw ||| r.rwh).testBit k)
def w1cBit (a k : Nat) : Bool := (regRow a).any (fun r => r.w1c.testBit k)
def w1sBit (a k : Nat) : Bool := (regRow a).any (fun r => r.w1s.testBit k)

/-- Every bit of the field takes what is written. -/
def rwField (f : FReg) : Bool :=
  (List.range f.w).all (fun i => decide (f.lo + i < 32) && rwBit f.addr (f.lo + i) && !w1cBit f.addr (f.lo + i) && !w1sBit f.addr (f.lo + i))

/-- Writing 1 to bits of `m` beside the RW bits as they stand changes nothing: no bit of `m` is one that a write changes, and no RW bit has
another access type. -/
def inertBits (a : Nat) (m : Word) : Bool :=
  (List.range 32).all (fun k => if m.getLsbD k then !rwBit a k && !w1cBit a k && !w1sBit a k else !rwBit a k || (!w1cBit a k && !w1sBit a k))

section access
variable (s : State) {a : Nat}

theorem getLsbD_write (v : Word) (ho : s.rwhOpen a = true) {k : Nat} (hk : k < 32) :
    ((s.plainWrite a v).word a).getLsbD k = (((if rwBit a k then v.getLsbD k else (s.word a).getLsbD k) &&
      !(v.getLsbD k && w1cBit a k && !(s.freshMask a).getLsbD k)) || (v.getLsbD k && w1sBit a k)) := by
  unfold rwBit w1cBit w1sBit
  cases hr : regRow a with
  | none => simp [State.plainWrite, hr]
  | some r => exact getLsbD_plainWrite s v hr ho hk

theorem getLsbD_putRw (v : Word) (ho : s.rwhOpen a = true) {k : Nat} (hk : k < 32) :
    ((s.putRw a v).word a).getLsbD k = if rwBit a k then v.getLsbD k else (s.word a).getLsbD k := by
  unfold rwBit State.putRw
  cases hr : regRow a with
  | none => rfl
  | some r =>
    simp only [ho, if_true, word_setWord, Option.any_some, BitVec.getLsbD_or, BitVec.getLsbD_and, BitVec.getLsbD_not, BitVec.getLsbD_ofNat,
      hk, decide_true, Bool.true_and]
    by_cases hm : (r.rw ||| r.rwh).testBit k = true
    · simp [hm]
    · simp [hm]

theorem getLsbD_rwWord {k : Nat} (hk : k < 32) : (s.rwWord a).getLsbD k = (rwBit a k && (s.word a).getLsbD k) := by
  unfold State.rwWord rwBit
  cases hr : regRow a with
  | none => simp
  | some r =>
    simp only [Option.any_some, BitVec.getLsbD_and, BitVec.getLsbD_ofNat, hk, decide_true, Bool.true_and]
    exact Bool.and_comm _ _

/-- An RW field takes what is written. -/
theorem fieldOf_write {f : FReg} (v : Word) (h : rwField f = true) (ho : s.rwhOpen f.addr = true) :
    (s.plainWrite f.addr v).get f = fieldOf f v := by
  apply Nat.eq_of_testBit_eq
  intro i
  rw [State.get, testBit_field, testBit_field]
  by_cases hi : i < f.w
  · have hbit := List.all_eq_true.mp h i (List.mem_range.mpr hi)
    simp only [Bool.and_eq_true, decide_eq_true_eq, Bool.not_eq_true'] at hbit
    obtain ⟨⟨⟨hk, hrw⟩, hw1c⟩, hw1s⟩ := hbit
    have hw := getLsbD_write s v ho hk
    rw [hrw, hw1c, hw1s] at hw
    simp only [if_true, Bool.and_false, Bool.false_and, Bool.not_false, Bool.and_true, Bool.or_false, BitVec.getLsbD] at hw
    rw [hw]
  · rw [decide_eq_false hi, Bool.false_and, Bool.false_and]

/-- So it does before the other access types act, where a write is checked. -/
theorem fieldOf_putRw {f : FReg} (v : Word) (h : rwField f = true) (ho : s.rwhOpen f.addr = true) :
    (s.putRw f.addr v).get f = fieldOf f v := by
  apply Nat.eq_of_testBit_eq
  intro i
  rw [State.get, testBit_field, testBit_field]
  by_cases hi : i < f.w
  · have hbit := List.all_eq_true.mp h i (List.mem_range.mpr hi)
    simp only [Bool.and_eq_true, decide_eq_true_eq, Bool.not_eq_true'] at hbit
    obtain ⟨⟨⟨hk, hrw⟩, -⟩, -⟩ := hbit
    have hw := getLsbD_putRw s v ho hk
    rw [hrw, if_pos rfl] at hw
    exact congrArg _ hw
  · rw [decide_eq_false hi, Bool.false_and, Bool.false_and]

/-- A field of RW bits, of which the written word holds the present value, stands. -/
theorem fieldOf_rwWord {f : FReg} (h : rwField f = true) : fieldOf f (s.rwWord f.addr) = s.get f := by
  apply Nat.eq_of_testBit_eq
  intro i
  rw [State.get, testBit_field, testBit_field]
  by_cases hi : i < f.w
  · have hbit := List.all_eq_true.mp h i (List.mem_range.mpr hi)
    simp only [Bool.and_eq_true, decide_eq_true_eq, Bool.not_eq_true'] at hbit
    obtain ⟨⟨⟨hk, hrw⟩, -⟩, -⟩ := hbit
    have hw := getLsbD_rwWord s (a := f.addr) hk
    rw [hrw, Bool.true_and] at hw
    exact congrArg _ hw
  · rw [decide_eq_false hi, Bool.false_and, Bool.false_and]

/-- A W1S bit is set by a 1, and stands else. -/
theorem flag_write_w1s {f : FReg} (v : Word) (h1 : f.w = 1) (hlo : f.lo < 32) (hs : w1sBit f.addr f.lo = true)
    (ho : s.rwhOpen f.addr = true) (hrw : rwBit f.addr f.lo = false) (hc : w1cBit f.addr f.lo = false) :
    (s.plainWrite f.addr v).flag f = (s.flag f || fieldOf f v != 0) := by
  unfold State.flag State.get
  rw [fieldOf_bit h1, fieldOf_bit h1, fieldOf_bit h1, getLsbD_write s v ho hlo, hrw, hc, hs]
  simp

/-- The RW bits written back with bits that change nothing: the register stands. -/
theorem sameBut_writeBack {m : Word} (h : inertBits a m = true) (ho : s.rwhOpen a = true) :
    s.sameBut (s.plainWrite a (s.rwWord a ||| m)) [] := by
  refine ⟨fun b _ _ => ?_, fun b => plainWrite_byte s a b _⟩
  by_cases hb : b = a
  · subst hb
    apply BitVec.eq_of_getLsbD_eq
    intro k hk
    have hinert := List.all_eq_true.mp h k (List.mem_range.mpr hk)
    rw [getLsbD_write s _ ho hk, BitVec.getLsbD_or, getLsbD_rwWord s hk]
    cases hm : m.getLsbD k <;> cases hrw : rwBit b k <;> rw [hm, hrw] at hinert <;> simp_all
  · exact word_plainWrite_other s _ hb

theorem sameBut_plainWrite (v : Word) : s.sameBut (s.plainWrite a v) [a] :=
  ⟨fun b hb _ => word_plainWrite_other s v (fun e => hb (by simp [e])), fun b => plainWrite_byte s a b v⟩

theorem plainWrite_trks (v : Word) : (s.plainWrite a v).trks = s.trks := by
  unfold State.plainWrite State.putRw
  split
  · rfl
  · split <;> rfl

theorem plainWrite_clk (v : Word) : (s.plainWrite a v).clk = s.clk := by
  unfold State.plainWrite State.putRw
  split
  · rfl
  · split <;> rfl

end access

-- ── Writes of the firmware ────────────────────────────────────────────────────────────────────────────────────────

/-- The word-aligned register at `a` exists and stands behind no gate. -/
def ungated (a : Nat) : Bool := inRegs a && a % 4 == 0 && regRow a != none && gatesOf a == []

section writes
variable (s : State) {c : Instr} {a : Nat} {v : Word} {q : State → Prop}

/-- A row that is one write of the firmware does what the register's own write does. -/
theorem does_of_fwWrite (hc : exec c s = .next (s.fwWrite a v)) (hregs : inRegs a = true) (ha : a % 4 = 0) (hw : s.takesWrite a v)
    (hq : q ((s.regEffect a v).answer 0)) : s.does c q :=
  ⟨s.busWrite .sup 4 a v, hc, by rw [busWrite_register s hregs ha hw]; exact hq⟩

theorem does_gatedWrite {f : FReg} (h : gatedBy f a = true) (hf : s.flag f = true) (hs : s.writeStatus a v false = 0)
    (hc : exec c s = .next (s.fwWrite a v)) (hq : q ((s.regEffect a v).answer 0)) : s.does c q := by
  simp only [gatedBy, Bool.and_eq_true, beq_iff_eq, bne_iff_ne] at h
  obtain ⟨⟨⟨hregs, halign⟩, hrow⟩, hgate⟩ := h
  exact does_of_fwWrite s hc hregs halign ⟨regUp_of_gate s hrow hgate hf, hs⟩ hq

theorem regUp_ungated (h : ungated a = true) : s.regUp a = true := by
  simp only [ungated, Bool.and_eq_true, beq_iff_eq] at h
  obtain ⟨⟨-, hrow⟩, hgate⟩ := h
  rw [State.regUp, hrow, hgate]
  rfl

theorem does_ungatedWrite (h : ungated a = true) (hs : s.writeStatus a v false = 0)
    (hc : exec c s = .next (s.fwWrite a v)) (hq : q ((s.regEffect a v).answer 0)) : s.does c q := by
  have hup := regUp_ungated s h
  simp only [ungated, Bool.and_eq_true, beq_iff_eq] at h
  obtain ⟨⟨⟨hregs, halign⟩, -⟩, -⟩ := h
  exact does_of_fwWrite s hc hregs halign ⟨hup, hs⟩ hq

end writes

end Sys2Proof.Machine

/-! PROOFS. Rows that write one register of the system, the clocks, the trackers and the wheel (O32). -/

namespace Sys2Proof.Machine

-- ── Faults, the operating point, the frequency meter (R349, R354, R444) ───────────────────────────────────────────

section system
variable (s : State)

theorem does_sysFaultClear (mask : Word) : s.does (.sysFaultClear mask) (fun u => (∀ k, k < 32 → (u.word Reg.SYS_FAULT).getLsbD k =
    ((s.word Reg.SYS_FAULT).getLsbD k && !(mask.getLsbD k && decide (k < 11) && !s.faultHolds k &&
      !(s.freshMask Reg.SYS_FAULT).getLsbD k))) ∧ s.sameBut u [Reg.SYS_FAULT]) := by
  refine does_ungatedWrite s (a := Reg.SYS_FAULT) (by decide) rfl rfl ⟨fun k hk => ?_, sameBut_answer (sameBut_clearFaults s mask) 0⟩
  rw [answer_word]
  change ((s.clearFaults mask).word Reg.SYS_FAULT).getLsbD k = _
  rw [State.clearFaults, word_clearBits, if_pos rfl]
  simp only [BitVec.getLsbD_and, BitVec.getLsbD_not, BitVec.getLsbD_ofNat, testBit_bitsWhere, hk, decide_true, Bool.true_and, Bool.and_assoc]

/-- The steps of the DVFS sequencer write CLK_STAT.DVFS_BUSY and PWR_STAT.OP alone (R349, R350). -/
theorem get_dvfsKick {g : FReg} (hbusy : fieldsApart g Fld.CLK_STAT_DVFS_BUSY = true) (hop : fieldsApart g Fld.PWR_STAT_OP = true)
    (hi : inIrqBlock g.addr = false) : s.dvfsKick.get g = s.get g := by
  have hgo : ∀ x, ((s.withClk x).set Fld.CLK_STAT_DVFS_BUSY 1).get g = s.get g := fun x => get_set_apart _ 1 hbusy
  unfold State.dvfsKick
  split
  · unfold State.dvfsNext
    dsimp only
    split
    · split
      · exact hgo _
      · exact hgo _
    split
    · exact hgo _
    split
    · exact hgo _
    · rw [get_irq _ 7 g hi, get_set_apart _ _ hop, get_set_apart _ _ hbusy]
      rfl
  · rfl

/-- An idle sequencer whose divider is not the target's starts (R350). -/
theorem busy_dvfsKick (hidle : s.clk.phase = .idle) (hd : s.clk.d ≠ opDiv s.opTarget) :
    s.dvfsKick.flag Fld.CLK_STAT_DVFS_BUSY = true := by
  have hgo : ∀ x, ((s.withClk x).set Fld.CLK_STAT_DVFS_BUSY 1).flag Fld.CLK_STAT_DVFS_BUSY = true := fun x =>
    flag_set_one _ (by decide) (by decide)
  unfold State.dvfsKick State.dvfsNext
  rw [if_pos (by simp [hidle, hd])]
  dsimp only
  split
  · split
    · exact hgo _
    · exact hgo _
  split
  · exact hgo _
  · next hup hdown => exact absurd (Nat.le_antisymm (Nat.not_lt.mp hup) (Nat.not_lt.mp hdown)) hd

theorem does_opRequest (p : Fin 4) : s.does (.opRequest p) (fun u => u.get Fld.CLK_OPREQ_REQ = p.val ∧
    (s.clk.phase = .idle → s.get Fld.PWR_STAT_STAGE < 2 → s.clk.d ≠ opDiv p → u.flag Fld.CLK_STAT_DVFS_BUSY = true)) := by
  have hfield : fieldOf Fld.CLK_OPREQ_REQ (BitVec.ofNat 32 p.val) = p.val := by decide +revert
  obtain ⟨t, ht⟩ : ∃ t, s.plainWrite Reg.CLK_OPREQ (BitVec.ofNat 32 p.val) = t := ⟨_, rfl⟩
  have hreq : t.get Fld.CLK_OPREQ_REQ = p.val := by
    rw [← ht]
    exact (fieldOf_write s _ (by decide) (rwhOpen_low s (by decide))).trans hfield
  refine does_ungatedWrite s (a := Reg.CLK_OPREQ) (by decide) rfl rfl ⟨?_, fun hidle hstage hd => ?_⟩
  · rw [answer_get]
    change (s.plainWrite Reg.CLK_OPREQ (BitVec.ofNat 32 p.val)).dvfsKick.get _ = _
    rw [ht, get_dvfsKick t (by decide) (by decide) (by decide), hreq]
  · have hclk : t.clk = s.clk := by rw [← ht]; exact plainWrite_clk s _
    have hst : t.get Fld.PWR_STAT_STAGE = s.get Fld.PWR_STAT_STAGE := by
      rw [← ht]
      exact sameBut_get (sameBut_plainWrite s _) _ (by decide) (by decide)
    have hlate : ¬ (2 ≤ t.get Fld.PWR_STAT_STAGE) := by omega
    have htarget : t.opTarget = p.val := by rw [State.opTarget, if_neg hlate, hreq]
    change (s.plainWrite Reg.CLK_OPREQ (BitVec.ofNat 32 p.val)).dvfsKick.flag _ = _
    rw [ht]
    exact busy_dvfsKick t (by rw [hclk]; exact hidle) (by rw [hclk, htarget]; exact hd)

theorem does_fmcStart (v : Word) (hw : s.takesWrite Reg.CLK_FMC_CTRL (v ||| 0x1000000)) (hg : s.flag Fld.CLK_GATE1_FMC = true) :
    s.does (.fmcStart v) (fun u => u.clk.fmcOpen = true ∧ u.clk.fmcFirst = true ∧ u.flag Fld.CLK_FMC_CTRL_NOCLK = false ∧
      u.get Fld.CLK_FMC_CTRL_REF = fieldOf Fld.CLK_FMC_CTRL_REF v ∧ u.get Fld.CLK_FMC_CTRL_TGT = fieldOf Fld.CLK_FMC_CTRL_TGT v ∧
      s.sameBut u [Reg.CLK_FMC_CTRL]) := by
  obtain ⟨t, ht⟩ : ∃ t, s.plainWrite Reg.CLK_FMC_CTRL (v ||| 0x1000000) = t := ⟨_, rfl⟩
  have hsame : s.sameBut t [Reg.CLK_FMC_CTRL] := by rw [← ht]; exact sameBut_plainWrite s _
  have hgate : t.flag Fld.CLK_GATE1_FMC = true := by
    unfold State.flag at hg ⊢
    rw [sameBut_get hsame _ (by decide) (by decide), hg]
  have hfield : ∀ f : FReg, f.addr = Reg.CLK_FMC_CTRL → rwField f = true → fieldOf f (0x1000000 : Word) = 0 →
      t.get f = fieldOf f v := by
    intro f ha hrw h0
    rw [← ht, ← ha, fieldOf_write s _ hrw (by rw [ha]; exact rwhOpen_low s (by decide)), fieldOf_or v h0]
  have hstart : fieldOf Fld.CLK_FMC_CTRL_START (v ||| 0x1000000) = 1 := by
    have hbit := fieldOf_bit (f := Fld.CLK_FMC_CTRL_START) rfl (v ||| 0x1000000)
    have hlt := fieldOf_lt Fld.CLK_FMC_CTRL_START (v ||| 0x1000000)
    have hone : (v ||| 0x1000000).getLsbD Fld.CLK_FMC_CTRL_START.lo = true := by
      rw [BitVec.getLsbD_or, show (0x1000000 : Word).getLsbD Fld.CLK_FMC_CTRL_START.lo = true by decide, Bool.or_true]
    rw [hone, bne_iff_ne] at hbit
    simp only [Fld.CLK_FMC_CTRL_START] at hlt hbit ⊢
    omega
  have heffect : s.regEffect Reg.CLK_FMC_CTRL (v ||| 0x1000000) =
      (t.withClk { t.clk with fmcOpen := true, fmcFirst := true }).set Fld.CLK_FMC_CTRL_NOCLK 0 := by
    change (if fieldOf Fld.CLK_FMC_CTRL_START (v ||| 0x1000000) = 1 then (s.plainWrite Reg.CLK_FMC_CTRL (v ||| 0x1000000)).fmcStart
      else s.plainWrite Reg.CLK_FMC_CTRL (v ||| 0x1000000)) = _
    rw [if_pos hstart, ht]
    unfold State.fmcStart
    rw [hgate]
    rfl
  refine does_of_fwWrite s rfl (by decide) (by decide) hw ?_
  rw [heffect]
  refine ⟨rfl, rfl, flag_set_zero _ (by decide), ?_, ?_, sameBut_answer (sameBut_set hsame _ (by decide) 0) 0⟩
  · exact (get_set_apart _ 0 (by decide)).trans (hfield _ rfl (by decide) (by decide))
  · exact (get_set_apart _ 0 (by decide)).trans (hfield _ rfl (by decide) (by decide))

end system

-- ── Gates (R351–R353) ─────────────────────────────────────────────────────────────────────────────────────────────

section gates

theorem gateReg_facts : ∀ i : Fin 2, ungated (gateReg i) = true ∧ gateReg i < 0x40030000 ∧ inIrqBlock (gateReg i) = false ∧
    gateMask i < 2 ^ 32 := by decide

theorem keptBelow_dmaDrop {s t : State} (h : keptBelow 0x40040000 s t) (n : Nat) : keptBelow 0x40040000 s (t.dmaDrop n) := by
  have hen : 0x40040000 ≤ (Fld.DMA_CH_CTRL_EN n).addr := by simp only [Fld.DMA_CH_CTRL_EN, Reg.DMA_CH_CTRL]; omega
  have hbusy : 0x40040000 ≤ (Fld.DMA_CH_STAT_BUSY n).addr := by simp only [Fld.DMA_CH_STAT_BUSY, Reg.DMA_CH_STAT]; omega
  have hsrc : 0x40040000 ≤ Reg.DMA_CH_SRC n := by simp only [Reg.DMA_CH_SRC]; omega
  have hdst : 0x40040000 ≤ Reg.DMA_CH_DST n := by simp only [Reg.DMA_CH_DST]; omega
  have hcnt : 0x40040000 ≤ (Fld.DMA_CH_CNT_CNT n).addr := by simp only [Fld.DMA_CH_CNT_CNT, Reg.DMA_CH_CNT]; omega
  have hidle : keptBelow 0x40040000 s (t.dmaIdle n) :=
    keptBelow_of_regs (keptBelow_setFlag (keptBelow_setFlag h _ hen false) _ hbusy false) rfl rfl
  unfold State.dmaDrop
  split
  · exact h
  extract_lets a b c
  have hfree : keptBelow 0x40040000 s c.2 := hidle
  clear_value a b c
  exact keptBelow_set (keptBelow_setWord (keptBelow_setWord hfree hsrc a.1) hdst b.1) _ hcnt _

theorem keptBelow_sweepPorts {b : Nat} {s t : State} (hb : b ≤ 0x40100000) (h : keptBelow b s t) : keptBelow b s t.sweepPorts := by
  unfold State.sweepPorts
  refine keptBelow_foldl _ _ (fun u p hu => ?_) t h
  have hstate : b ≤ (Fld.FLO_PORT_STAT_STATE p).addr := by simp only [Fld.FLO_PORT_STAT_STATE, Reg.FLO_PORT_STAT]; omega
  exact keptBelow_ite (keptBelow_ite hu (keptBelow_portDown hu hb p)) (keptBelow_ite (keptBelow_set hu _ hstate 1) hu)

/-- A gate register takes its value, whatever its closing stops (R351, R374). -/
theorem word_putGate (s : State) (i : Fin 2) (v : Nat) :
    ((s.putGate i v).sweepPorts.word (gateReg i)).toNat = v &&& gateMask i := by
  obtain ⟨-, hlow, hirq, hmask⟩ := gateReg_facts i
  have hkept : keptBelow 0x40040000 (s.setWord (gateReg i) (BitVec.ofNat 32 (v &&& gateMask i))) (s.putGate i v).sweepPorts :=
    keptBelow_sweepPorts (by decide) (keptBelow_foldl _ _ (fun u n hu => keptBelow_ite (keptBelow_dmaDrop hu n) hu) _ (keptBelow_refl _ _))
  rw [hkept.1 _ (by omega) hirq, word_setWord, if_pos rfl, BitVec.toNat_ofNat]
  exact Nat.mod_eq_of_lt (Nat.lt_of_le_of_lt Nat.and_le_right hmask)

variable {s : State} {i : Fin 2} {v : Word} {host : Bool}

theorem writeStatus_gate : s.writeStatus (gateReg i) v host = s.gateRefused i v.toNat host :=
  match i with | 0 => rfl | 1 => rfl

/-- What the host may do to a gate is what the gate itself refuses it (R353). -/
theorem hostMay_gate : s.hostMay (gateReg i) v = s.gateRefused i v.toNat true :=
  match i with | 0 => rfl | 1 => rfl

theorem regEffect_gate : s.regEffect (gateReg i) v = (s.putGate i v.toNat).sweepPorts :=
  match i with | 0 => rfl | 1 => rfl

/-- A gate write on the bus, by the firmware or by the host: it takes effect where the gate does not refuse it. -/
theorem busWrite_gate : s.busWrite (if host then .host else .sup) 4 (gateReg i) v =
    if s.gateRefused i v.toNat host = 0 then ((s.putGate i v.toNat).sweepPorts).answer 0
    else { s with bus := { status := s.gateRefused i v.toNat host } } := by
  have hopen := (gateReg_facts i).1
  have hup := regUp_ungated s hopen
  simp only [ungated, Bool.and_eq_true, beq_iff_eq] at hopen
  obtain ⟨⟨⟨hregs, halign⟩, -⟩, -⟩ := hopen
  have hsup : (Master.sup == Master.host) = false := rfl
  cases host
  · simp [State.busWrite, mayWrite, hregs, halign, hup, hsup, writeStatus_gate, regEffect_gate]
  · by_cases h : s.gateRefused i v.toNat true = 0 <;>
      simp [State.busWrite, mayWrite, hregs, halign, hup, hostMay_gate, writeStatus_gate, regEffect_gate, h]

theorem does_gateWrite (h : s.gateRefused i v.toNat host = 0) :
    s.does (.gateWrite i v host) (fun u => (u.word (gateReg i)).toNat = v.toNat &&& gateMask i) := by
  refine ⟨_, rfl, ?_⟩
  rw [busWrite_gate, if_pos h]
  dsimp only
  rw [answer_word, word_putGate]

theorem does_gateRefused (h : s.gateRefused i v.toNat host = 0x41) :
    s.does (.gateWrite i v host) (fun u => u.bus.status = stForbids ∧ s.sameBut u []) := by
  refine ⟨_, rfl, ?_⟩
  rw [busWrite_gate, if_neg (by rw [h]; decide), h]
  exact ⟨rfl, sameBut_refl s _⟩

end gates

-- ── Trackers (R61, R81, R83) ──────────────────────────────────────────────────────────────────────────────────────

section trackers
variable (s : State) (x : Fin 2)

theorem gatedBy_load : ∀ x : Fin 2, gatedBy Fld.CLK_GATE0_TRK (Reg.TRK_LOAD x) = true := by decide
theorem gatedBy_ctrl : ∀ x : Fin 2, gatedBy Fld.CLK_GATE0_TRK (Reg.TRK_CTRL x) = true := by decide
theorem gatedBy_tbld : ∀ x : Fin 2, gatedBy Fld.CLK_GATE0_TRK (Reg.TRK_TBLD x) = true := by decide

theorem rwhOpen_trk {a : Nat} (h : 0x40090000 ≤ a) : s.rwhOpen a = true := by
  have h1 : ¬ (0x40050000 ≤ a ∧ a < 0x40060000) := by omega
  have h2 : ¬ (0x40060000 ≤ a ∧ a < 0x40068000) := by omega
  have h3 : ¬ (0x40040000 ≤ a ∧ a < 0x40050000) := by omega
  have h4 : a ≠ Reg.WHL_SIM_ANG := by unfold Reg.WHL_SIM_ANG; omega
  simp only [State.rwhOpen, h1, h2, h3, h4, if_false]

-- A bucket's training (R81)

/-- The write that untrains buckets: RW fields as they stand, a 1 for each bucket named. -/
def State.untrainWord (s : State) (x : Nat) (b : BitVec 8) : Word := s.rwWord (Reg.TRK_LOAD x) ||| (b.zeroExtend 32 <<< 16)

theorem regEffect_load (v : Word) :
    s.regEffect (Reg.TRK_LOAD x) v = (s.putRw (Reg.TRK_LOAD x) v).untrain x (fieldOf (Fld.TRK_LOAD_TRAINED x) v) :=
  match x with | 0 => rfl | 1 => rfl

theorem getLsbD_buckets (b : BitVec 8) {k : Nat} (hk : k < 32) :
    (b.zeroExtend 32 <<< 16).getLsbD k = (decide (16 ≤ k) && b.getLsbD (k - 16)) := by
  rw [BitVec.getLsbD_shiftLeft, BitVec.getLsbD_setWidth]
  have h32 : k - 16 < 32 := by omega
  by_cases h : k < 16
  · simp [h]
  · simp [hk, h32, h, Nat.not_lt.mp h]

/-- The bits of TRK_x_LOAD that software writes are those of BUCKET. -/
theorem load_bits : ∀ x : Fin 2, ∀ k, k < 32 → (rwBit (Reg.TRK_LOAD x) k = decide (k < 3)) := by decide

theorem trained_untrainWord (b : BitVec 8) : fieldOf (Fld.TRK_LOAD_TRAINED x) (s.untrainWord x b) = b.toNat := by
  apply Nat.eq_of_testBit_eq
  intro i
  rw [testBit_field]
  by_cases hi : i < 8
  · have hrw := load_bits x (16 + i) (by omega)
    have hword : (s.untrainWord x b).getLsbD (16 + i) = b.getLsbD i := by
      rw [State.untrainWord, BitVec.getLsbD_or, getLsbD_rwWord s (by omega), hrw, getLsbD_buckets b (by omega),
        decide_eq_false (by omega : ¬ 16 + i < 3), decide_eq_true (by omega : 16 ≤ 16 + i), Nat.add_sub_cancel_left, Bool.false_and, Bool.true_and,
        Bool.false_or]
    change (decide (i < 8) && (s.untrainWord x b).getLsbD (16 + i)) = b.getLsbD i
    rw [hword, decide_eq_true hi, Bool.true_and]
  · have hb : b.toNat < 2 ^ i := Nat.lt_of_lt_of_le b.isLt (Nat.pow_le_pow_right (by decide) (Nat.not_lt.mp hi))
    rw [Nat.testBit_lt_two_pow hb]
    change (decide (i < 8) && _) = false
    rw [decide_eq_false hi, Bool.false_and]

/-- The RW bits written back as they stand. -/
theorem word_putRw_untrain (b : BitVec 8) : (s.putRw (Reg.TRK_LOAD x) (s.untrainWord x b)).word (Reg.TRK_LOAD x) = s.word (Reg.TRK_LOAD x) := by
  have hopen : s.rwhOpen (Reg.TRK_LOAD x) = true := rwhOpen_trk s (by unfold Reg.TRK_LOAD; omega)
  apply BitVec.eq_of_getLsbD_eq
  intro k hk
  rw [getLsbD_putRw s _ hopen hk, load_bits x k hk]
  split
  · next h3 =>
    have h3 : k < 3 := of_decide_eq_true h3
    rw [State.untrainWord, BitVec.getLsbD_or, getLsbD_rwWord s hk, load_bits x k hk, getLsbD_buckets b hk, decide_eq_true h3,
      decide_eq_false (by omega : ¬ 16 ≤ k), Bool.true_and, Bool.false_and, Bool.or_false]
  · rfl

/-- The counts of the buckets that `p` names are put to 0 (R81). -/
theorem spGet_cleared (p : Nat → Bool) (l : List Nat) (k : Nat) : ∀ t : Sparse Nat,
    spGet (fun _ => 0) (l.foldl (fun t b => if p b then spPut (fun _ => 0) t b 0 else t) t) k =
      if k ∈ l ∧ p k = true then 0 else spGet (fun _ => 0) t k := by
  induction l with
  | nil => intro t; simp
  | cons b l ih =>
    intro t
    rw [List.foldl_cons, ih]
    by_cases hk : k = b
    · subst hk
      by_cases hp : p k = true
      · simp [hp, spGet_spPut]
      · simp [hp]
    · by_cases hp : p b = true
      · simp [hp, hk, spGet_spPut]
      · simp [hp, hk]

/-- What untraining buckets leaves in TRK_x_LOAD (R81). -/
theorem getLsbD_untrain (m : Nat) {k : Nat} (hk : k < 32) : ((s.untrain x m).word (Reg.TRK_LOAD x)).getLsbD k =
    ((s.word (Reg.TRK_LOAD x)).getLsbD k && !(decide (16 ≤ k) && (m % 256).testBit (k - 16) && !(s.freshMask (Reg.TRK_LOAD x)).getLsbD k)) := by
  have hclear : (s.untrain x m).word (Reg.TRK_LOAD x) = (s.clearBits (Reg.TRK_LOAD x) (BitVec.ofNat 32 (m % 256 * 65536))).word (Reg.TRK_LOAD x) := rfl
  rw [hclear, word_clearBits, if_pos rfl, show (65536 : Nat) = 2 ^ 16 from rfl]
  simp only [BitVec.getLsbD_and, BitVec.getLsbD_not, BitVec.getLsbD_ofNat, Nat.testBit_mul_two_pow, hk, decide_true, Bool.true_and]

theorem does_bucketUntrain (b : BitVec 8) (hg : s.flag Fld.CLK_GATE0_TRK = true) :
    s.does (.bucketUntrain x b) (fun u => (∀ k, k < 8 → (u.get (Fld.TRK_LOAD_TRAINED x)).testBit k =
        ((s.get (Fld.TRK_LOAD_TRAINED x)).testBit k && !(b.getLsbD k && !(s.freshMask (Reg.TRK_LOAD x)).getLsbD (16 + k)))) ∧
      (∀ k, k < 8 → spGet (fun _ => 0) (u.trk x).trainCnt k = if b.getLsbD k then 0 else spGet (fun _ => 0) (s.trk x).trainCnt k) ∧
      u.get (Fld.TRK_LOAD_BUCKET x) = s.get (Fld.TRK_LOAD_BUCKET x) ∧ s.sameBut u [Reg.TRK_LOAD x]) := by
  have hstatus : s.writeStatus (Reg.TRK_LOAD x) (s.untrainWord x b) false = 0 := match x with | 0 => rfl | 1 => rfl
  obtain ⟨t, ht⟩ : ∃ t, s.putRw (Reg.TRK_LOAD x) (s.untrainWord x b) = t := ⟨_, rfl⟩
  have hword : t.word (Reg.TRK_LOAD x) = s.word (Reg.TRK_LOAD x) := by rw [← ht]; exact word_putRw_untrain s x b
  have hfresh : t.freshMask (Reg.TRK_LOAD x) = s.freshMask (Reg.TRK_LOAD x) := by
    unfold State.freshMask; rw [← ht, putRw_fresh]
  have hsame : s.sameBut t [Reg.TRK_LOAD x] := by
    rw [← ht]
    exact ⟨fun a ha _ => word_putRw_other s _ (fun e => ha (by simp [e])), fun a => putRw_byte s _ a _⟩
  have htrk : t.trk x = s.trk x := by
    rw [← ht]
    unfold State.putRw State.trk
    split <;> rfl
  refine does_gatedWrite s (v := s.untrainWord x b) (gatedBy_load x) hg hstatus rfl ?_
  rw [regEffect_load, trained_untrainWord, ht]
  refine ⟨fun k hk => ?_, fun k hk => ?_, ?_, sameBut_answer (sameBut_setWord hsame (by simp) _) 0⟩
  · have hbit := getLsbD_untrain t x b.toNat (k := 16 + k) (by omega)
    rw [hword, hfresh, Nat.mod_eq_of_lt b.isLt, Nat.add_sub_cancel_left, decide_eq_true (Nat.le_add_right 16 k), Bool.true_and] at hbit
    rw [answer_get, State.get, State.get, testBit_field, testBit_field]
    change (decide (k < 8) && ((t.untrain x b.toNat).word (Reg.TRK_LOAD x)).getLsbD (16 + k)) =
      ((decide (k < 8) && (s.word (Reg.TRK_LOAD x)).getLsbD (16 + k)) && _)
    rw [hbit, Bool.and_assoc]
    rfl
  · have hcnt : (((t.untrain x b.toNat).answer 0).trk x).trainCnt = (List.range 8).foldl (fun l c => if b.toNat.testBit c then
        spPut (fun _ => 0) l c 0 else l) (t.trk x).trainCnt := by
      change ((t.untrain x b.toNat).trk x).trainCnt = _
      unfold State.untrain
      dsimp only
      rw [trk_setTrk, if_pos rfl]
      rfl
    rw [hcnt, spGet_cleared, htrk]
    simp only [List.mem_range, hk, true_and]
    rfl
  · apply Nat.eq_of_testBit_eq
    intro i
    rw [answer_get, State.get, State.get, testBit_field, testBit_field]
    by_cases hi : i < 3
    · have hbit := getLsbD_untrain t x b.toNat (k := i) (by omega)
      rw [hword, decide_eq_false (by omega : ¬ 16 ≤ i), Bool.false_and, Bool.false_and, Bool.not_false, Bool.and_true] at hbit
      change (decide (i < 3) && ((t.untrain x b.toNat).word (Reg.TRK_LOAD x)).getLsbD (0 + i)) =
        (decide (i < 3) && (s.word (Reg.TRK_LOAD x)).getLsbD (0 + i))
      rw [Nat.zero_add, hbit]
    · change (decide (i < 3) && _) = (decide (i < 3) && _)
      rw [decide_eq_false hi, Bool.false_and, Bool.false_and]

-- RESYNC (R61)

theorem regEffect_ctrl (v : Word) : s.regEffect (Reg.TRK_CTRL x) v =
    (let s1 := s.plainWrite (Reg.TRK_CTRL x) v
     let s2 := if s1.get (Fld.TRK_CTRL_SRC x) = 1 && s.get (Fld.TRK_CTRL_SRC x) != 1 then s1.loseFollower x else s1
     if fieldOf (Fld.TRK_CTRL_RESYNC x) v = 1 then s2.stopDisabled.resyncTracker x else s2.stopDisabled) :=
  match x with | 0 => rfl | 1 => rfl

theorem ctrl_bits : ∀ x : Fin 2, rwField (Fld.TRK_CTRL_SRC x) = true ∧ inertBits (Reg.TRK_CTRL x) 0x100 = true ∧
    fieldOf (Fld.TRK_CTRL_SRC x) (0x100 : Word) = 0 := by decide

theorem writeStatus_trk {a : Nat} (hlo : 0x40090000 ≤ a) (hhi : a < 0x400A0000) (v : Word) :
    s.writeStatus a v false = (s.putRw a v).checkTRK a := by
  have hne : ∀ n, n < 0x40090000 ∨ 0x400A0000 ≤ n → a ≠ n := fun n h => by omega
  have hge : ∀ n, n ≤ 0x40090000 → ¬ a < n := fun n h => by omega
  unfold State.writeStatus State.checkReg
  rw [if_neg (hne _ (by decide)), if_neg (hne _ (by decide)), if_neg (by simp [hne Reg.FLO_PAIR (by decide)]), if_neg (hge _ (by decide)),
    if_neg (hge _ (by decide)), if_neg (hge _ (by decide)), if_neg (hge _ (by decide)), if_neg (hge _ (by decide)), if_neg (hge _ (by decide)),
    if_neg (hge _ (by decide)), if_neg (hge _ (by decide)), if_pos hhi]

theorem regIndex_ctrl : ∀ x : Fin 2, regIndex Reg.TRK_CTRL 2 (Reg.TRK_CTRL x) = some x.val ∧
    0x40090000 ≤ Reg.TRK_CTRL x ∧ Reg.TRK_CTRL x < 0x40094000 := by decide

theorem writeStatus_ctrl (v : Word) (h : (s.putRw (Reg.TRK_CTRL x) v).get (Fld.TRK_CTRL_SRC x) ≤ 1) :
    s.writeStatus (Reg.TRK_CTRL x) v false = 0 := by
  obtain ⟨hindex, hlo, hhi⟩ := regIndex_ctrl x
  have hvote : Reg.TRK_CTRL x ≠ Reg.TRK_VOTE := Nat.ne_of_lt (Nat.lt_of_lt_of_le hhi (by decide))
  have hvsel : Reg.TRK_CTRL x ≠ Reg.TRK_VSEL := Nat.ne_of_lt (Nat.lt_of_lt_of_le hhi (by decide))
  rw [writeStatus_trk s hlo (Nat.lt_trans hhi (by decide)), State.checkTRK]
  simp only [hvote, hvsel, hindex, if_false, h, decide_true, if_true]
  rfl

/-- A write of RESYNC with the RW fields as they stand: the tracker's source stands too, and the search begins anew. -/
theorem does_resync (hg : s.flag Fld.CLK_GATE0_TRK = true) (hsrc : s.get (Fld.TRK_CTRL_SRC x) ≤ 1) :
    ∃ v : State, v.trks = s.trks ∧ s.sameBut v [] ∧
      ∀ q : State → Prop, q ((v.stopDisabled.resyncTracker x).answer 0) → s.does (.trkCtrlResync x) q := by
  obtain ⟨hrw, hinert, hzero⟩ := ctrl_bits x
  have hopen : s.rwhOpen (Reg.TRK_CTRL x) = true := rwhOpen_trk s (by unfold Reg.TRK_CTRL; omega)
  obtain ⟨w, hw⟩ : ∃ w, s.rwWord (Reg.TRK_CTRL x) ||| 0x100 = w := ⟨_, rfl⟩
  obtain ⟨v, hv⟩ : ∃ v, s.plainWrite (Reg.TRK_CTRL x) w = v := ⟨_, rfl⟩
  have hsame : s.sameBut v [] := by rw [← hv, ← hw]; exact sameBut_writeBack s hinert hopen
  have hsrcv : v.get (Fld.TRK_CTRL_SRC x) = s.get (Fld.TRK_CTRL_SRC x) :=
    sameBut_get hsame _ (by simp) (inIrqBlock_above (by simp only [Fld.TRK_CTRL_SRC, Reg.TRK_CTRL]; omega))
  have hfield : fieldOf (Fld.TRK_CTRL_SRC x) w = s.get (Fld.TRK_CTRL_SRC x) := by
    rw [← hw, fieldOf_or _ hzero]
    exact fieldOf_rwWord s hrw
  have hstatus : s.writeStatus (Reg.TRK_CTRL x) w false = 0 := by
    refine writeStatus_ctrl s x w ?_
    rw [show (s.putRw (Reg.TRK_CTRL x) w).get (Fld.TRK_CTRL_SRC x) = fieldOf (Fld.TRK_CTRL_SRC x) w from fieldOf_putRw s w hrw hopen, hfield]
    exact hsrc
  have hresync : fieldOf (Fld.TRK_CTRL_RESYNC x) w = 1 := by
    have hlt := fieldOf_lt (Fld.TRK_CTRL_RESYNC x) w
    have hbit := fieldOf_bit (f := Fld.TRK_CTRL_RESYNC x) rfl w
    have h8 : (0x100 : Word).getLsbD 8 = true := rfl
    rw [← hw, BitVec.getLsbD_or, show (Fld.TRK_CTRL_RESYNC x).lo = 8 from rfl, h8, Bool.or_true, hw, bne_iff_ne] at hbit
    rw [show (Fld.TRK_CTRL_RESYNC x).w = 1 from rfl] at hlt
    omega
  refine ⟨v, by rw [← hv]; exact plainWrite_trks s w, hsame, fun q hq => ?_⟩
  refine does_gatedWrite s (gatedBy_ctrl x) hg hstatus (by rw [← hw]; rfl) ?_
  have hstays : ¬ ((decide (v.get (Fld.TRK_CTRL_SRC x) = 1) && s.get (Fld.TRK_CTRL_SRC x) != 1) = true) := by
    rw [hsrcv]
    by_cases h : s.get (Fld.TRK_CTRL_SRC x) = 1 <;> simp [h]
  rw [regEffect_ctrl, hv]
  dsimp only
  rw [if_neg hstays, if_pos hresync]
  exact hq

/-- Where every tracker follows an enabled description, follows the domain or stands, none is stopped (R61). -/
theorem stopDisabled_none {v : State} (h : ∀ y : Fin 2, v.posRev y ≠ 0 ∨ v.get (Fld.TRK_CTRL_SRC y) = 1 ∨ v.trkState y = 0) :
    v.stopDisabled = v := by
  have hstays : ∀ y : Fin 2, ((decide (v.posRev y = 0) && v.get (Fld.TRK_CTRL_SRC y) != 1) && v.trkState y != 0) = false := by
    intro y
    rcases h y with h | h | h <;> simp [h]
  have h0 : ((decide (v.posRev 0 = 0) && v.get (Fld.TRK_CTRL_SRC 0) != 1) && v.trkState 0 != 0) = false := hstays 0
  have h1 : ((decide (v.posRev 1 = 0) && v.get (Fld.TRK_CTRL_SRC 1) != 1) && v.trkState 1 != 0) = false := hstays 1
  unfold State.stopDisabled
  simp only [List.range_succ, List.range_zero, List.nil_append, List.cons_append, List.foldl_cons, List.foldl_nil, h0, h1, Bool.false_eq_true,
    if_false]

theorem does_trkCtrlResync (hg : s.flag Fld.CLK_GATE0_TRK = true) (hsrc : s.get (Fld.TRK_CTRL_SRC x) ≤ 1) :
    (∃ v : State, v.trks = s.trks ∧ s.sameBut v [] ∧ s.does (.trkCtrlResync x) (fun u => u = (v.stopDisabled.resyncTracker x).answer 0)) ∧
    ((∀ y : Fin 2, s.posRev y ≠ 0 ∨ s.get (Fld.TRK_CTRL_SRC y) = 1 ∨ s.trkState y = 0) →
      (s.trkState x = 0 → s.does (.trkCtrlResync x) (fun u => s.sameBut u [] ∧ u.trks = s.trks)) ∧
      (s.trkState x = 2 → ∃ v : State, v.trks = s.trks ∧ s.sameBut v [] ∧ s.does (.trkCtrlResync x) (fun u =>
        u = (((v.restartSearch x).setBefore x none).afterTracker v x false true false).answer 0)) ∧
      (s.trkState x ≠ 0 → s.trkState x ≠ 2 → ∃ v : State, v.trks = s.trks ∧ s.sameBut v [] ∧ s.does (.trkCtrlResync x) (fun u =>
        u = ((((v.setTrkState x 2).restartSearch x).setBefore x none).afterTracker v x false true false).answer 0))) := by
  obtain ⟨v, htrks, hsame, hdoes⟩ := does_resync s x hg hsrc
  refine ⟨⟨v, htrks, hsame, hdoes _ rfl⟩, fun h => ?_⟩
  have hget : ∀ f : FReg, 0x40040000 ≤ f.addr → v.get f = s.get f := fun f ha => sameBut_get hsame f (by simp) (inIrqBlock_above ha)
  have hst : v.trkState x = s.trkState x := hget _ (by simp only [Fld.TRK_STAT_STATE, Reg.TRK_STAT]; omega)
  have hstop : v.stopDisabled = v := by
    refine stopDisabled_none (fun y => ?_)
    unfold State.posRev State.trkState at h ⊢
    rw [hget, hget, hget]
    · exact h y
    all_goals simp only [Fld.TRK_STAT_STATE, Fld.TRK_CTRL_SRC, Fld.WHL_WD_CFG_POS_REV, Reg.TRK_STAT, Reg.TRK_CTRL, Reg.WHL_WD_CFG]; omega
  rw [hstop] at hdoes
  refine ⟨fun h0 => hdoes _ ?_, fun h2 => ⟨v, htrks, hsame, hdoes _ ?_⟩, fun h0 h2 => ⟨v, htrks, hsame, hdoes _ ?_⟩⟩
  · rw [State.resyncTracker, if_pos (by rw [hst, h0])]
    exact ⟨sameBut_answer hsame 0, htrks⟩
  · have h0 : v.trkState x ≠ 0 := by rw [hst, h2]; decide
    rw [State.resyncTracker, if_neg h0, hst, if_pos h2]
  · rw [State.resyncTracker, hst, if_neg h0, if_neg h2]

-- The tables (R81, R83)

/-- The index after an access: one on where AUTOINC is set (R83). -/
theorem tblNext_shows (t : State) : (t.tblNext x).get (Fld.TRK_TBLA_INDEX x) =
      (t.get (Fld.TRK_TBLA_INDEX x) + t.get (Fld.TRK_TBLA_AUTOINC x)) % 1024 ∧
    (∀ g : FReg, g.addr ≠ Reg.TRK_TBLA x → (t.tblNext x).get g = t.get g) ∧ (t.tblNext x).trks = t.trks ∧
    t.sameBut (t.tblNext x) [Reg.TRK_TBLA x] := by
  have hindex : t.get (Fld.TRK_TBLA_INDEX x) < 1024 := fieldOf_lt _ _
  have hauto : t.get (Fld.TRK_TBLA_AUTOINC x) < 2 := fieldOf_lt _ _
  unfold State.tblNext State.flag
  split
  · next h =>
    have h1 : t.get (Fld.TRK_TBLA_AUTOINC x) = 1 := by rw [bne_iff_ne] at h; omega
    refine ⟨?_, fun g hg => get_set_other _ _ _ _ hg, rfl, sameBut_set (sameBut_refl t _) _ (by simp [Fld.TRK_TBLA_INDEX]) _⟩
    rw [get_set _ _ _ (by decide : 0 + 10 ≤ 32), h1]
    exact Nat.mod_mod _ _
  · next h =>
    have h0 : t.get (Fld.TRK_TBLA_AUTOINC x) = 0 := by rw [Bool.not_eq_true, bne_eq_false_iff_eq] at h; exact h
    rw [h0, Nat.add_zero, Nat.mod_eq_of_lt hindex]
    exact ⟨rfl, fun _ _ => rfl, rfl, sameBut_refl t _⟩

theorem regEffect_tbld (v : Word) : s.regEffect (Reg.TRK_TBLD x) v = s.tblWrite x (v.toNat % 65536) := by
  have hfield : fieldOf (Fld.TRK_TBLD_DATA x) v = v.toNat % 65536 := rfl
  rw [← hfield]
  exact match x with | 0 => rfl | 1 => rfl

theorem readReg_tbld : s.readReg (Reg.TRK_TBLD x) = (BitVec.ofNat 32 (s.tblRead x), s.tblNext x) :=
  match x with | 0 => rfl | 1 => rfl

variable {s x} {v : Word} (hg : s.flag Fld.CLK_GATE0_TRK = true)
include hg

theorem does_tblWrite {q : State → Prop} (hq : q ((s.tblWrite x (v.toNat % 65536)).answer 0)) : s.does (.tblDataAccess x true v) q := by
  have hstatus : s.writeStatus (Reg.TRK_TBLD x) v false = 0 := match x with | 0 => rfl | 1 => rfl
  refine does_gatedWrite s (gatedBy_tbld x) hg hstatus rfl ?_
  rw [regEffect_tbld]
  exact hq

theorem does_tblRead : s.does (.tblDataAccess x false v) (fun u => u.bus.data = BitVec.ofNat 32 (s.tblRead x) ∧ u.trks = s.trks ∧
    u.get (Fld.TRK_TBLA_INDEX x) = (s.get (Fld.TRK_TBLA_INDEX x) + s.get (Fld.TRK_TBLA_AUTOINC x)) % 1024 ∧
    s.sameBut u [Reg.TRK_TBLA x]) := by
  obtain ⟨hindex, -, htrks, hsame⟩ := tblNext_shows x s
  refine does_of_fwRead s rfl ?_
  rw [busRead_gated s (gatedBy_tbld x) hg, readReg_tbld]
  exact ⟨rfl, htrks, hindex, sameBut_answer hsame _⟩

/-- An entry of the profile. -/
theorem does_profileWrite (ht : s.flag (Fld.TRK_TBLA_TABLE x) = false) (hl : s.flag (Fld.TRK_LEARN_PROF_LEARN x) = false) :
    s.does (.tblDataAccess x true v) (fun u =>
      spGet (fun _ => 0) (u.trk x).profile (s.get (Fld.TRK_TBLA_INDEX x)) = v.toNat % 65536 ∧
      (∀ i, i ≠ s.get (Fld.TRK_TBLA_INDEX x) → spGet (fun _ => 0) (u.trk x).profile i = spGet (fun _ => 0) (s.trk x).profile i) ∧
      (u.trk x).kTab = (s.trk x).kTab ∧
      u.get (Fld.TRK_TBLA_INDEX x) = (s.get (Fld.TRK_TBLA_INDEX x) + s.get (Fld.TRK_TBLA_AUTOINC x)) % 1024 ∧
      s.sameBut u [Reg.TRK_TBLA x]) := by
  obtain ⟨t, ht'⟩ : ∃ t, s.setTrk x { s.trk x with profile := spPut (fun _ => 0) (s.trk x).profile (s.get (Fld.TRK_TBLA_INDEX x)) (v.toNat % 65536) } = t :=
    ⟨_, rfl⟩
  obtain ⟨hindex, -, htrks, hsame⟩ := tblNext_shows x t
  have hwrite : s.tblWrite x (v.toNat % 65536) = t.tblNext x := by
    simp only [State.tblWrite, ht, hl, Bool.not_false, if_true, Bool.false_eq_true, if_false, Nat.mod_mod, ht']
  have htrk : (t.tblNext x).trk x = { s.trk x with profile := spPut (fun _ => 0) (s.trk x).profile (s.get (Fld.TRK_TBLA_INDEX x)) (v.toNat % 65536) } := by
    unfold State.trk at *
    rw [htrks, ← ht']
    exact (trk_setTrk s x x _).trans (if_pos rfl)
  have hprof : ∀ i, spGet (fun _ => 0) ((t.tblNext x).trk x).profile i =
      if i = s.get (Fld.TRK_TBLA_INDEX x) then v.toNat % 65536 else spGet (fun _ => 0) (s.trk x).profile i := fun i => by
    rw [htrk]; exact spGet_spPut _ _ _ _
  refine does_tblWrite hg ?_
  rw [hwrite]
  refine ⟨(hprof _).trans (if_pos rfl), fun i hi => (hprof i).trans (if_neg hi), ?_, ?_, ?_⟩
  · change ((t.tblNext x).trk x).kTab = _
    rw [htrk]
  · rw [answer_get, hindex, ← ht']; rfl
  · subst ht'; exact hsame

/-- An entry of the speed model. -/
theorem does_modelWrite (ht : s.flag (Fld.TRK_TBLA_TABLE x) = true) (hl : s.flag (Fld.TRK_LEARN_MODEL_LEARN x) = false) :
    s.does (.tblDataAccess x true v) (fun u =>
      (u.trk x).kOf (s.get (Fld.TRK_TBLA_BUCKET x)) (s.get (Fld.TRK_TBLA_INDEX x)) = v.toNat % 65536 ∧
      (u.trk x).profile = (s.trk x).profile ∧
      u.get (Fld.TRK_TBLA_INDEX x) = (s.get (Fld.TRK_TBLA_INDEX x) + s.get (Fld.TRK_TBLA_AUTOINC x)) % 1024 ∧
      s.sameBut u [Reg.TRK_TBLA x]) := by
  obtain ⟨k, hk⟩ : ∃ k, 1024 * s.get (Fld.TRK_TBLA_BUCKET x) + s.get (Fld.TRK_TBLA_INDEX x) = k := ⟨_, rfl⟩
  obtain ⟨t, ht'⟩ : ∃ t, s.setTrk x { s.trk x with kTab := spPut (fun _ => 0x4000) (s.trk x).kTab k (v.toNat % 65536) } = t := ⟨_, rfl⟩
  obtain ⟨hindex, -, htrks, hsame⟩ := tblNext_shows x t
  have hwrite : s.tblWrite x (v.toNat % 65536) = t.tblNext x := by
    simp only [State.tblWrite, ht, hl, Bool.not_true, Bool.false_eq_true, if_false, Nat.mod_mod, hk, ht']
  have htrk : (t.tblNext x).trk x = { s.trk x with kTab := spPut (fun _ => 0x4000) (s.trk x).kTab k (v.toNat % 65536) } := by
    unfold State.trk at *
    rw [htrks, ← ht']
    exact (trk_setTrk s x x _).trans (if_pos rfl)
  refine does_tblWrite hg ?_
  rw [hwrite]
  refine ⟨?_, ?_, ?_, ?_⟩
  · change ((t.tblNext x).trk x).kOf _ _ = _
    rw [htrk, Trk.kOf, hk]
    exact (spGet_spPut _ _ _ _).trans (if_pos rfl)
  · change ((t.tblNext x).trk x).profile = _
    rw [htrk]
  · rw [answer_get, hindex, ← ht']; rfl
  · subst ht'; exact hsame

/-- A write to a table that learns is dropped (R81). -/
theorem does_tblDrop (hl : s.flag (if s.flag (Fld.TRK_TBLA_TABLE x) then Fld.TRK_LEARN_MODEL_LEARN x else Fld.TRK_LEARN_PROF_LEARN x) = true) :
    s.does (.tblDataAccess x true v) (fun u => u.flag (Fld.TRK_STAT_TBL_DROP x) = true ∧ u.trks = s.trks ∧
      s.sameBut u [Reg.TRK_TBLA x, Reg.TRK_STAT x]) := by
  obtain ⟨-, hget, htrks, hsame⟩ := tblNext_shows x (s.raiseFlag (Fld.TRK_STAT_TBL_DROP x))
  have hwrite : s.tblWrite x (v.toNat % 65536) = (s.raiseFlag (Fld.TRK_STAT_TBL_DROP x)).tblNext x := by
    cases ht : s.flag (Fld.TRK_TBLA_TABLE x) <;> rw [ht] at hl
    · simp only [Bool.false_eq_true, if_false] at hl
      simp only [State.tblWrite, ht, hl, Bool.not_false, if_true]
    · simp only [if_true] at hl
      simp only [State.tblWrite, ht, hl, Bool.not_true, Bool.false_eq_true, if_false, if_true]
  have hraised : s.sameBut (s.raiseFlag (Fld.TRK_STAT_TBL_DROP x)) [Reg.TRK_TBLA x, Reg.TRK_STAT x] :=
    sameBut_raiseFlag (sameBut_refl s _) _ (by simp [Fld.TRK_STAT_TBL_DROP])
  refine does_tblWrite hg ?_
  rw [hwrite]
  refine ⟨?_, htrks, fun a ha hi => ?_, fun a => (hsame.2 a).trans (hraised.2 a)⟩
  · change ((s.raiseFlag (Fld.TRK_STAT_TBL_DROP x)).tblNext x).flag _ = _
    unfold State.flag
    rw [hget _ (by simp only [Fld.TRK_STAT_TBL_DROP, Reg.TRK_STAT, Reg.TRK_TBLA]; omega)]
    exact flag_raiseFlag s (Fld.TRK_STAT_TBL_DROP x) (by decide : 15 + 1 ≤ 32) Nat.one_pos
  · exact (hsame.1 a (fun h => ha (by simp at h; simp [h])) hi).trans (hraised.1 a ha hi)

end trackers

-- ── The wheel simulator (R53, R56) ────────────────────────────────────────────────────────────────────────────────

@[simp] theorem answer_flag (s : State) (d : Word) (f : FReg) : (s.answer d).flag f = s.flag f := rfl

section pins
variable {s t : State}

theorem whlStat_low (n : Nat) : ∀ f : Nat → FReg, (∀ k, f k = ⟨Reg.WHL_CFG k, (f 0).lo, (f 0).w⟩) → ∀ k, (f k).addr ≠ Reg.WHL_STAT n := by
  intro f hf k
  rw [hf k]
  simp only [Reg.WHL_CFG, Reg.WHL_STAT]
  omega

/-- Following the pins changes no register but WHL_STATn. -/
theorem sameBut_levelFromPin {r : List Nat} (h : s.sameBut t r) {n : Nat} (hr : Reg.WHL_STAT n ∈ r) : s.sameBut (t.levelFromPin n) r := by
  unfold State.levelFromPin
  split
  · exact h
  · exact sameBut_set h _ hr _

/-- An input follows its pins by its configuration alone, which stands. -/
theorem levelFromPin_inputs (n k : Nat) : (t.levelFromPin n).frontEnd k = t.frontEnd k ∧ (t.levelFromPin n).wheelPin k = t.wheelPin k ∧
    (t.levelFromPin n).flag (Fld.WHL_CFG_POL k) = t.flag (Fld.WHL_CFG_POL k) := by
  unfold State.levelFromPin
  split
  · exact ⟨rfl, rfl, rfl⟩
  · refine ⟨get_set_other _ _ _ _ (whlStat_low n Fld.WHL_CFG_FE (fun _ => rfl) k), rfl, ?_⟩
    unfold State.flag
    rw [State.setFlag, get_set_other _ _ _ _ (whlStat_low n Fld.WHL_CFG_POL (fun _ => rfl) k)]

theorem sameBut_levelsFromPins {r : List Nat} (h : s.sameBut t r) (hr : ∀ n, n < 4 → Reg.WHL_STAT n ∈ r) : s.sameBut t.levelsFromPins r := by
  have hfold : ∀ m : List Nat, (∀ n ∈ m, n < 4) → ∀ u, s.sameBut u r → s.sameBut (m.foldl State.levelFromPin u) r := by
    intro m
    induction m with
    | nil => exact fun _ u hu => hu
    | cons n m ih =>
      exact fun hm u hu => ih (fun k hk => hm k (List.mem_cons_of_mem _ hk)) _ (sameBut_levelFromPin hu (hr n (hm n List.mem_cons_self)))
  exact hfold _ (fun n hn => List.mem_range.mp hn) t h

theorem flag_levelFromPin (n k : Nat) : (t.levelFromPin n).flag (Fld.WHL_STAT_LEVEL k) =
    if k = n ∧ t.frontEnd k ≠ 0 then t.wheelPin k != t.flag (Fld.WHL_CFG_POL k) else t.flag (Fld.WHL_STAT_LEVEL k) := by
  unfold State.levelFromPin
  by_cases hk : k = n
  · subst hk
    by_cases hf : t.frontEnd k = 0
    · simp [hf]
    · simp only [hf, if_false, ne_eq, not_false_eq_true, and_self, if_true]
      exact flag_setFlag _ _ _ (by decide : 0 + 1 ≤ 32) Nat.one_pos
  · have hne : (Fld.WHL_STAT_LEVEL k).addr ≠ (Fld.WHL_STAT_LEVEL n).addr := by simp only [Fld.WHL_STAT_LEVEL, Reg.WHL_STAT]; omega
    simp only [hk, false_and, if_false]
    split
    · rfl
    · unfold State.flag State.setFlag
      rw [get_set_other _ _ _ _ hne]

theorem flag_levelsFromPins (k : Nat) (l : List Nat) : ∀ t : State, (l.foldl State.levelFromPin t).flag (Fld.WHL_STAT_LEVEL k) =
    if k ∈ l ∧ t.frontEnd k ≠ 0 then t.wheelPin k != t.flag (Fld.WHL_CFG_POL k) else t.flag (Fld.WHL_STAT_LEVEL k) := by
  induction l with
  | nil => intro t; simp
  | cons n l ih =>
    intro t
    obtain ⟨hfe, hpin, hpol⟩ := levelFromPin_inputs (t := t) n k
    rw [List.foldl_cons, ih, hfe, hpin, hpol, flag_levelFromPin]
    by_cases hf : t.frontEnd k = 0
    · simp [hf]
    · by_cases hn : k = n
      · subst hn
        simp [hf]
      · simp [hf, hn]

end pins

section simulator
variable (s : State)

theorem fieldOf_simEn (v : Word) : (fieldOf Fld.WHL_SIM_CTRL_EN (v &&& 0x3F) != 0) = (fieldOf Fld.WHL_SIM_CTRL_EN v != 0) := by
  rw [fieldOf_bit rfl, fieldOf_bit rfl, BitVec.getLsbD_and, show (0x3F : Word).getLsbD Fld.WHL_SIM_CTRL_EN.lo = true from rfl, Bool.and_true]

/-- A write of WHL_SIM_CTRL in BENCH stores the bits, and starts the simulator's own counters where EN or RUN rises (R53, R55). -/
theorem simCtrl_bench (hst : s.st = 9) (v : Word) : ∃ t : State, t.regs = (s.setWord Reg.WHL_SIM_CTRL (v &&& 0x3F)).regs ∧ t.mem = s.mem ∧
    t.hst = s.hst ∧ s.simCtrl v = if s.flag Fld.WHL_SIM_CTRL_EN && !(fieldOf Fld.WHL_SIM_CTRL_EN v != 0) then t.levelsFromPins else t := by
  have hne : (s.st != 9) = false := by rw [hst]; rfl
  have hen : ∀ t : State, t.regs = (s.setWord Reg.WHL_SIM_CTRL (v &&& 0x3F)).regs → t.flag Fld.WHL_SIM_CTRL_EN = (fieldOf Fld.WHL_SIM_CTRL_EN v != 0) := by
    intro t ht
    have hw : t.word Reg.WHL_SIM_CTRL = v &&& 0x3F := by rw [State.word, ht]; exact (word_setWord s _ _ _).trans (if_pos rfl)
    unfold State.flag State.get
    rw [show Fld.WHL_SIM_CTRL_EN.addr = Reg.WHL_SIM_CTRL from rfl, hw, fieldOf_simEn]
  unfold State.simCtrl
  rw [hne, if_neg (by decide)]
  extract_lets s1 en sim s2 runs sim' s3
  have h2 : s2.regs = s1.regs ∧ s2.mem = s.mem ∧ s2.hst = s.hst := by
    unfold s2; split <;> exact ⟨rfl, rfl, rfl⟩
  have h3 : s3.regs = s1.regs ∧ s3.mem = s.mem ∧ s3.hst = s.hst := by
    unfold s3; split <;> exact h2
  obtain ⟨hregs, hmem, hhst⟩ := h3
  exact ⟨s3, hregs, hmem, hhst, by rw [hen s3 hregs]⟩

/-- What a write of WHL_SIM_CTRL in BENCH shows: its bits, and, where EN falls, the inputs at their pins. -/
theorem simCtrl_shows (hst : s.st = 9) (v : Word) : (s.simCtrl v).word Reg.WHL_SIM_CTRL = v &&& 0x3F ∧
    s.sameBut (s.simCtrl v) (Reg.WHL_SIM_CTRL :: (List.range 4).map Reg.WHL_STAT) ∧
    (s.flag Fld.WHL_SIM_CTRL_EN = false ∨ fieldOf Fld.WHL_SIM_CTRL_EN v = 1 → s.sameBut (s.simCtrl v) [Reg.WHL_SIM_CTRL]) ∧
    (s.flag Fld.WHL_SIM_CTRL_EN = true → fieldOf Fld.WHL_SIM_CTRL_EN v = 0 → ∀ k : Fin 4, s.frontEnd k ≠ 0 →
      (s.simCtrl v).flag (Fld.WHL_STAT_LEVEL k) = (s.wheelPin k != s.flag (Fld.WHL_CFG_POL k))) := by
  obtain ⟨t, hregs, hmem, hhst, heffect⟩ := simCtrl_bench s hst v
  have hword : t.word Reg.WHL_SIM_CTRL = v &&& 0x3F := by rw [State.word, hregs]; exact (word_setWord s _ _ _).trans (if_pos rfl)
  have hsame : ∀ l, Reg.WHL_SIM_CTRL ∈ l → s.sameBut t l := fun l hl =>
    sameBut_of_regs (sameBut_setWord (sameBut_refl s l) hl _) hregs hmem
  have hone : s.sameBut t [Reg.WHL_SIM_CTRL] := hsame _ (by simp)
  have hstat : ∀ n, n < 4 → Reg.WHL_STAT n ∈ (List.range 4).map Reg.WHL_STAT := fun n hn => List.mem_map_of_mem (List.mem_range.mpr hn)
  rw [heffect]
  split
  · next h =>
    rw [Bool.and_eq_true] at h
    obtain ⟨hen, hfall⟩ := h
    have hpins := sameBut_levelsFromPins (sameBut_refl t ((List.range 4).map Reg.WHL_STAT)) hstat
    refine ⟨(hpins.1 _ (by decide) (by decide)).trans hword, ?_, fun h => absurd h ?_, fun _ _ k hk => ?_⟩
    · exact sameBut_levelsFromPins (hsame _ (by simp)) (fun n hn => List.mem_cons_of_mem _ (hstat n hn))
    · rintro (h | h)
      · rw [hen] at h; cases h
      · rw [h] at hfall; cases hfall
    · have hfe : t.frontEnd k = s.frontEnd k := sameBut_get hone _ (by simp [Fld.WHL_CFG_FE, Reg.WHL_CFG, Reg.WHL_SIM_CTRL]; omega)
        (inIrqBlock_above (by simp only [Fld.WHL_CFG_FE, Reg.WHL_CFG]; omega))
      have hpol : t.flag (Fld.WHL_CFG_POL k) = s.flag (Fld.WHL_CFG_POL k) := by
        unfold State.flag
        rw [sameBut_get hone _ (by simp [Fld.WHL_CFG_POL, Reg.WHL_CFG, Reg.WHL_SIM_CTRL]; omega)
          (inIrqBlock_above (by simp only [Fld.WHL_CFG_POL, Reg.WHL_CFG]; omega))]
      have hpin : t.wheelPin k = s.wheelPin k := by unfold State.wheelPin; rw [hhst]
      rw [State.levelsFromPins, flag_levelsFromPins, if_pos ⟨List.mem_range.mpr k.isLt, by rw [hfe]; exact hk⟩, hpin, hpol]
  · next h =>
    refine ⟨hword, hsame _ (by simp), fun _ => hone, fun hen hfall => absurd ?_ h⟩
    rw [hen, hfall]; rfl

theorem gatedBy_simCtrl : gatedBy Fld.CLK_GATE0_WHL Reg.WHL_SIM_CTRL = true := by decide
theorem gatedBy_simFlt : gatedBy Fld.CLK_GATE0_WHL Reg.WHL_SIM_FLT = true := by decide

theorem regEffect_simCtrl (v : Word) : s.regEffect Reg.WHL_SIM_CTRL v = s.simCtrl v := rfl
theorem regEffect_simFlt (v : Word) : s.regEffect Reg.WHL_SIM_FLT v = (s.simFlt v).plainWrite Reg.WHL_SIM_FLT v := rfl

theorem does_simCtrlWrite (hg : s.flag Fld.CLK_GATE0_WHL = true) (hst : s.st = 9) (v : Word) :
    s.does (.simCtrlWrite v) (fun u => u.word Reg.WHL_SIM_CTRL = v &&& 0x3F ∧
      (s.flag Fld.WHL_SIM_CTRL_EN = false ∨ fieldOf Fld.WHL_SIM_CTRL_EN v = 1 → s.sameBut u [Reg.WHL_SIM_CTRL]) ∧
      (s.flag Fld.WHL_SIM_CTRL_EN = true → fieldOf Fld.WHL_SIM_CTRL_EN v = 0 →
        (∀ k : Fin 4, s.frontEnd k ≠ 0 → u.flag (Fld.WHL_STAT_LEVEL k) = (s.wheelPin k != s.flag (Fld.WHL_CFG_POL k))) ∧
        s.sameBut u (Reg.WHL_SIM_CTRL :: (List.range 4).map Reg.WHL_STAT))) := by
  obtain ⟨hword, hall, hone, hpins⟩ := simCtrl_shows s hst v
  refine does_gatedWrite s gatedBy_simCtrl hg rfl rfl ?_
  rw [regEffect_simCtrl]
  exact ⟨hword, fun h => sameBut_answer (hone h) 0, fun hen hfall => ⟨hpins hen hfall, sameBut_answer hall 0⟩⟩

theorem does_simCtrlRefused (hg : s.flag Fld.CLK_GATE0_WHL = true) (hst : s.st ≠ 9) (v : Word) :
    s.does (.simCtrlWrite v) (fun u => s.sameBut u []) := by
  refine does_gatedWrite s gatedBy_simCtrl hg rfl rfl ?_
  rw [regEffect_simCtrl, State.simCtrl, if_pos (bne_iff_ne.mpr hst)]
  exact sameBut_answer (sameBut_refl s _) 0

/-- The bits of WHL_SIM_FLT that request a fault are set by a 1, and DROP_N takes what is written. -/
theorem flt_bits : rwField Fld.WHL_SIM_FLT_DROP_N = true ∧ ∀ k, k = 8 ∨ k = 9 ∨ k = 11 →
    w1sBit Reg.WHL_SIM_FLT k = true ∧ rwBit Reg.WHL_SIM_FLT k = false ∧ w1cBit Reg.WHL_SIM_FLT k = false := by
  refine ⟨by decide, ?_⟩
  rintro k (rfl | rfl | rfl) <;> decide

/-- A request written to WHL_SIM_FLT stands, beside the DROP_N of the word (R56). -/
theorem does_simRequest (hg : s.flag Fld.CLK_GATE0_WHL = true) {c : Instr} {v : Word} {f : FReg} (n : Nat)
    (hc : exec c s = .next (s.fwWrite Reg.WHL_SIM_FLT v)) (ha : f.addr = Reg.WHL_SIM_FLT) (hw : f.w = 1) (hk : f.lo = 8 ∨ f.lo = 9 ∨ f.lo = 11)
    (hf : v.getLsbD f.lo = true) (hn : fieldOf Fld.WHL_SIM_FLT_DROP_N v = n) :
    s.does c (fun u => u.flag f = true ∧ u.get Fld.WHL_SIM_FLT_DROP_N = n ∧ s.sameBut u [Reg.WHL_SIM_FLT]) := by
  obtain ⟨hrw, hbits⟩ := flt_bits
  obtain ⟨hset, hnrw, hnc⟩ := hbits f.lo hk
  have hopen : ∀ t : State, t.rwhOpen Reg.WHL_SIM_FLT = true := fun t => rfl
  refine does_gatedWrite s gatedBy_simFlt hg rfl hc ?_
  rw [regEffect_simFlt]
  refine ⟨?_, ?_, sameBut_answer (sameBut_plainWrite (s.simFlt v) v) 0⟩
  · rw [answer_flag, ← ha, flag_write_w1s _ v hw (by omega) (by rw [ha]; exact hset) (by rw [ha]; exact hopen _) (by rw [ha]; exact hnrw)
      (by rw [ha]; exact hnc), fieldOf_bit hw, hf, Bool.or_true]
  · rw [answer_get]
    exact (fieldOf_write (s.simFlt v) v hrw (hopen _)).trans hn

theorem does_simDrop (hg : s.flag Fld.CLK_GATE0_WHL = true) (n : BitVec 8) : s.does (.simDrop n) (fun u => u.flag Fld.WHL_SIM_FLT_DROP = true ∧
    u.get Fld.WHL_SIM_FLT_DROP_N = n.toNat % 16 ∧ s.sameBut u [Reg.WHL_SIM_FLT]) := by
  refine does_simRequest s hg _ rfl rfl rfl (.inl rfl) ?_ ?_
  · rw [BitVec.getLsbD_or]
    exact Bool.or_eq_true_iff.mpr (.inr rfl)
  · exact (fieldOf_or _ (by decide)).trans (fieldOf_withField _ _ _ (by decide))

theorem does_simExtra (hg : s.flag Fld.CLK_GATE0_WHL = true) : s.does .simExtra (fun u => u.flag Fld.WHL_SIM_FLT_EXTRA = true ∧
    u.get Fld.WHL_SIM_FLT_DROP_N = s.get Fld.WHL_SIM_FLT_DROP_N ∧ s.sameBut u [Reg.WHL_SIM_FLT]) := by
  refine does_simRequest s hg _ rfl rfl rfl (.inr (.inl rfl)) ?_ ?_
  · rw [BitVec.getLsbD_or]
    exact Bool.or_eq_true_iff.mpr (.inr rfl)
  · exact (fieldOf_or _ (by decide)).trans (fieldOf_rwWord s flt_bits.1)

theorem does_simFlip (hg : s.flag Fld.CLK_GATE0_WHL = true) : s.does .simFlip (fun u => u.flag Fld.WHL_SIM_FLT_FLIP = true ∧
    u.get Fld.WHL_SIM_FLT_DROP_N = s.get Fld.WHL_SIM_FLT_DROP_N ∧ s.sameBut u [Reg.WHL_SIM_FLT]) := by
  refine does_simRequest s hg _ rfl rfl rfl (.inr (.inr rfl)) ?_ ?_
  · rw [BitVec.getLsbD_or]
    exact Bool.or_eq_true_iff.mpr (.inr rfl)
  · exact (fieldOf_or _ (by decide)).trans (fieldOf_rwWord s flt_bits.1)

end simulator

/-- Settles O32, row by row: each is one write of the firmware, and the register's own write gives what it leaves. -/
theorem systemRegisterRows : Obligations.SystemRegisterRows := by
  unfold Obligations.SystemRegisterRows
  intro s
  exact ⟨does_sysFaultClear s, does_opRequest s, fun i v host => does_gateWrite, fun i v host => does_gateRefused, does_fmcStart s,
    fun x b hg => does_bucketUntrain s x b hg, does_trkCtrlResync s,
    fun x v hg => ⟨does_profileWrite hg, does_modelWrite hg, does_tblDrop hg, does_tblRead hg⟩,
    fun v hg => ⟨fun hst => does_simCtrlWrite s hg hst v, fun hst => does_simCtrlRefused s hg hst v⟩,
    fun n hg => does_simDrop s hg n, does_simExtra s, does_simFlip s⟩

end Sys2Proof.Machine

/-! PROOFS. SIM and OUTPUT_TEST in BENCH (O26). -/

namespace Sys2Proof.Machine

-- ── SIM: the registers of the simulator (R53) ─────────────────────────────────────────────────────────────────────

section simulator
variable {s t : State} {v : Word}

theorem putRegs_cons {a : Nat} (h : regRow a ≠ none) (l : List (Nat × Word)) : s.putRegs ((a, v) :: l) = (s.regEffect a v).putRegs l := by
  change l.foldl _ (if regRow a = none then s else s.regEffect a v) = _
  rw [if_neg h]
  rfl

theorem regEffect_simAng : s.regEffect Reg.WHL_SIM_ANG v = (s.plainWrite Reg.WHL_SIM_ANG v).simAngleWritten := rfl

theorem simAngleWritten_regs : s.simAngleWritten.regs = s.regs ∧ s.simAngleWritten.mem = s.mem := by
  unfold State.simAngleWritten
  split <;> exact ⟨rfl, rfl⟩

/-- A write of the angle changes no other register. -/
theorem sameBut_simAng {l : List Nat} (hl : Reg.WHL_SIM_ANG ∈ l) (h : s.sameBut t l) : s.sameBut (t.regEffect Reg.WHL_SIM_ANG v) l := by
  obtain ⟨hregs, hmem⟩ := simAngleWritten_regs (s := t.plainWrite Reg.WHL_SIM_ANG v)
  refine sameBut_of_regs ⟨fun a ha hi => ?_, fun a => (plainWrite_byte t _ a v).trans (h.2 a)⟩ hregs hmem
  exact (word_plainWrite_other t v (fun e => ha (by rw [e]; exact hl))).trans (h.1 a ha hi)

/-- The angle takes what is written while the simulator does not run, and stands while it runs (R53). -/
theorem get_simAng : (t.regEffect Reg.WHL_SIM_ANG v).get Fld.WHL_SIM_ANG_ANGLE =
    if t.flag Fld.WHL_SIM_CTRL_RUN then t.get Fld.WHL_SIM_ANG_ANGLE else fieldOf Fld.WHL_SIM_ANG_ANGLE v := by
  have hrow : regRow Reg.WHL_SIM_ANG = some ⟨0x40080404, 4, 1, 0x0, 0x0, 0x0, 0x0, 0x0, 0x0, 0xFFFFFF, 0x0⟩ := by rfl
  have hopen : t.rwhOpen Reg.WHL_SIM_ANG = !t.flag Fld.WHL_SIM_CTRL_RUN := rfl
  have hregs : (t.regEffect Reg.WHL_SIM_ANG v).get Fld.WHL_SIM_ANG_ANGLE = (t.plainWrite Reg.WHL_SIM_ANG v).get Fld.WHL_SIM_ANG_ANGLE := by
    rw [regEffect_simAng]
    unfold State.get State.word
    rw [simAngleWritten_regs.1]
  rw [hregs]
  cases hrun : t.flag Fld.WHL_SIM_CTRL_RUN
  · exact fieldOf_write t v (by decide) (by rw [show Fld.WHL_SIM_ANG_ANGLE.addr = Reg.WHL_SIM_ANG from rfl, hopen, hrun]; rfl)
  · have hword : (t.plainWrite Reg.WHL_SIM_ANG v).word Reg.WHL_SIM_ANG = t.word Reg.WHL_SIM_ANG := by
      have hall : ∀ w : Word, w &&& 4294967295#32 = w := fun w => BitVec.and_allOnes
      simp [State.plainWrite, State.putRw, State.clearBits, hrow, hopen, hrun, word_setWord, hall]
    rw [State.get, show Fld.WHL_SIM_ANG_ANGLE.addr = Reg.WHL_SIM_ANG from rfl, hword]
    rfl

/-- The four registers of the simulator that a write simply fills. -/
theorem regEffect_simPlain : s.regEffect Reg.WHL_SIM_RATE v = s.plainWrite Reg.WHL_SIM_RATE v ∧
    s.regEffect Reg.WHL_SIM_TGT v = s.plainWrite Reg.WHL_SIM_TGT v ∧ s.regEffect Reg.WHL_SIM_ACC v = s.plainWrite Reg.WHL_SIM_ACC v ∧
    s.regEffect Reg.WHL_SIM_AMP v = s.plainWrite Reg.WHL_SIM_AMP v := ⟨rfl, rfl, rfl, rfl⟩

/-- Its registers, one after the other. -/
theorem putRegs_simWords (c a r g x m f : Word) : s.putRegs (simWords.zip [c, a, r, g, x, m, f]) =
    ((((((s.simCtrl c).regEffect Reg.WHL_SIM_ANG a).plainWrite Reg.WHL_SIM_RATE r).plainWrite Reg.WHL_SIM_TGT g).plainWrite
      Reg.WHL_SIM_ACC x).plainWrite Reg.WHL_SIM_AMP m).regEffect Reg.WHL_SIM_FLT f := by
  have hrow : ∀ b ∈ simWords, regRow b ≠ none := by decide
  obtain ⟨hr, hg, -, -⟩ := regEffect_simPlain (s := s) (v := r)
  unfold simWords at hrow ⊢
  simp only [List.zip_cons_cons, List.zip_nil_right]
  rw [putRegs_cons (hrow _ (by simp)), putRegs_cons (hrow _ (by simp)), putRegs_cons (hrow _ (by simp)), putRegs_cons (hrow _ (by simp)),
    putRegs_cons (hrow _ (by simp)), putRegs_cons (hrow _ (by simp)), putRegs_cons (hrow _ (by simp)), regEffect_simCtrl,
    (regEffect_simPlain).1, (regEffect_simPlain).2.1, (regEffect_simPlain).2.2.1, (regEffect_simPlain).2.2.2]
  rfl

theorem fieldOf_whole {f : FReg} (hlo : f.lo = 0) (hw : f.w = 32) (w : Word) : fieldOf f w = w.toNat := by
  rw [fieldOf, hlo, hw, Nat.shiftRight_zero]
  exact Nat.mod_eq_of_lt w.isLt

theorem sameBut_chain {u : State} {l m : List Nat} (h : s.sameBut t l) (k : t.sameBut u m) : s.sameBut u (l ++ m) :=
  ⟨fun a ha hi => (k.1 a (fun hm => ha (List.mem_append_right l hm)) hi).trans (h.1 a (fun hl => ha (List.mem_append_left m hl)) hi),
    fun a => (k.2 a).trans (h.2 a)⟩

/-- Where the words of SIM stand after it (R53): the angle has gone first, while the simulator still stood. -/
theorem simWritten_shows (hst : s.st = 9) (c a r g x m f : Word) :
    ∃ u, (s.regEffect Reg.WHL_SIM_ANG a).putRegs (simWords.zip [c, a, r, g, x, m, f]) = u ∧ u.word Reg.WHL_SIM_CTRL = c &&& 0x3F ∧
      (s.flag Fld.WHL_SIM_CTRL_RUN = false → u.get Fld.WHL_SIM_ANG_ANGLE = fieldOf Fld.WHL_SIM_ANG_ANGLE a) ∧
      u.get Fld.WHL_SIM_FLT_DROP_N = fieldOf Fld.WHL_SIM_FLT_DROP_N f ∧ u.get Fld.WHL_SIM_FLT_CAM_OFF = fieldOf Fld.WHL_SIM_FLT_CAM_OFF f ∧
      (∀ h, h ∈ [Fld.WHL_SIM_FLT_DROP, Fld.WHL_SIM_FLT_EXTRA, Fld.WHL_SIM_FLT_FLIP] → u.flag h = (s.flag h || fieldOf h f != 0)) ∧
      u.get Fld.WHL_SIM_RATE_RATE = r.toNat ∧ u.get Fld.WHL_SIM_TGT_TGT = g.toNat ∧ u.get Fld.WHL_SIM_ACC_ACC = x.toNat ∧
      u.get Fld.WHL_SIM_AMP_AMP = fieldOf Fld.WHL_SIM_AMP_AMP m := by
  obtain ⟨t0, e0⟩ : ∃ t, s.regEffect Reg.WHL_SIM_ANG a = t := ⟨_, rfl⟩
  obtain ⟨t1, e1⟩ : ∃ t, t0.simCtrl c = t := ⟨_, rfl⟩
  obtain ⟨t2, e2⟩ : ∃ t, t1.regEffect Reg.WHL_SIM_ANG a = t := ⟨_, rfl⟩
  obtain ⟨t3, e3⟩ : ∃ t, t2.plainWrite Reg.WHL_SIM_RATE r = t := ⟨_, rfl⟩
  obtain ⟨t4, e4⟩ : ∃ t, t3.plainWrite Reg.WHL_SIM_TGT g = t := ⟨_, rfl⟩
  obtain ⟨t5, e5⟩ : ∃ t, t4.plainWrite Reg.WHL_SIM_ACC x = t := ⟨_, rfl⟩
  obtain ⟨t6, e6⟩ : ∃ t, t5.plainWrite Reg.WHL_SIM_AMP m = t := ⟨_, rfl⟩
  obtain ⟨u, eu⟩ : ∃ t, (t6.simFlt f).plainWrite Reg.WHL_SIM_FLT f = t := ⟨_, rfl⟩
  have k0 : s.sameBut t0 [Reg.WHL_SIM_ANG] := by rw [← e0]; exact sameBut_simAng (by simp) (sameBut_refl s _)
  have hst0 : t0.st = 9 := (sameBut_get k0 _ (by decide) (by decide)).trans hst
  obtain ⟨hctrl, k1, -⟩ := simCtrl_shows t0 hst0 c
  rw [e1] at hctrl k1
  have k2 : t1.sameBut t2 [Reg.WHL_SIM_ANG] := by rw [← e2]; exact sameBut_simAng (by simp) (sameBut_refl t1 _)
  have k3 : t2.sameBut t3 [Reg.WHL_SIM_RATE] := by rw [← e3]; exact sameBut_plainWrite t2 r
  have k4 : t3.sameBut t4 [Reg.WHL_SIM_TGT] := by rw [← e4]; exact sameBut_plainWrite t3 g
  have k5 : t4.sameBut t5 [Reg.WHL_SIM_ACC] := by rw [← e5]; exact sameBut_plainWrite t4 x
  have k6 : t5.sameBut t6 [Reg.WHL_SIM_AMP] := by rw [← e6]; exact sameBut_plainWrite t5 m
  have k7 : t6.sameBut u [Reg.WHL_SIM_FLT] := by rw [← eu]; exact sameBut_plainWrite (t6.simFlt f) f
  have l6 : t5.sameBut u ([Reg.WHL_SIM_AMP] ++ [Reg.WHL_SIM_FLT]) := sameBut_chain k6 k7
  have l5 := sameBut_chain k5 l6
  have l4 := sameBut_chain k4 l5
  have l3 := sameBut_chain k3 l4
  have before : s.sameBut t6 _ := sameBut_chain k0 (sameBut_chain k1 (sameBut_chain k2 (sameBut_chain k3 (sameBut_chain k4 (sameBut_chain k5 k6)))))
  refine ⟨u, ?_, ?_, fun hrun => ?_, ?_, ?_, fun h hh => ?_, ?_, ?_, ?_, ?_⟩
  · rw [putRegs_simWords, e0, e1, e2, e3, e4, e5, e6, regEffect_simFlt, eu]
  · rw [l3.1 _ (by decide) (by decide), k2.1 _ (by decide) (by decide), hctrl]
  · have h0 : t0.get Fld.WHL_SIM_ANG_ANGLE = fieldOf Fld.WHL_SIM_ANG_ANGLE a := by rw [← e0, get_simAng, if_neg (by rw [hrun]; decide)]
    have h1 : t1.get Fld.WHL_SIM_ANG_ANGLE = fieldOf Fld.WHL_SIM_ANG_ANGLE a := (sameBut_get k1 _ (by decide) (by decide)).trans h0
    rw [sameBut_get l3 _ (by decide) (by decide), ← e2, get_simAng, h1, ite_self]
  · rw [← eu]
    exact fieldOf_write _ f (by decide) rfl
  · rw [← eu]
    exact fieldOf_write _ f (by decide) rfl
  · have hbit : h.addr = Reg.WHL_SIM_FLT ∧ h.w = 1 ∧ (h.lo = 8 ∨ h.lo = 9 ∨ h.lo = 11) := by revert h; decide
    obtain ⟨ha, hw, hlo⟩ := hbit
    obtain ⟨hset, hnrw, hnc⟩ := flt_bits.2 h.lo hlo
    have hold : t6.flag h = s.flag h := by
      unfold State.flag
      rw [sameBut_get before h (by rw [ha]; decide) (by rw [ha]; decide)]
    have hnew := flag_write_w1s (t6.simFlt f) (f := h) f hw (by omega) (by rw [ha]; exact hset) (by rw [ha]; rfl) (by rw [ha]; exact hnrw)
      (by rw [ha]; exact hnc)
    rw [ha, eu] at hnew
    rw [hnew, ← hold]
    rfl
  · rw [sameBut_get l4 _ (by decide) (by decide), ← e3, ← fieldOf_whole (f := Fld.WHL_SIM_RATE_RATE) rfl rfl]
    exact fieldOf_write _ r (by decide) rfl
  · rw [sameBut_get l5 _ (by decide) (by decide), ← e4, ← fieldOf_whole (f := Fld.WHL_SIM_TGT_TGT) rfl rfl]
    exact fieldOf_write _ g (by decide) rfl
  · rw [sameBut_get l6 _ (by decide) (by decide), ← e5, ← fieldOf_whole (f := Fld.WHL_SIM_ACC_ACC) rfl rfl]
    exact fieldOf_write _ x (by decide) rfl
  · rw [sameBut_get k7 _ (by decide) (by decide), ← e6]
    exact fieldOf_write _ m (by decide) rfl

section packets
variable {port : Fin 5} {p : Packet} {r : List Packet}

theorem does_simRefused (h : s.comTakes port 0x901 p r) (hst : s.st ≠ 9) :
    s.answers (.sim port) port p stForbids [] (fun u => u = s.taken port) := by
  refine answers_of_handle h rfl (u := s.taken port) ?_ rfl
  exact if_pos hst

theorem seven_words {l : List Word} (hl : l.length = 7) : ∃ c a r g x m f, l = [c, a, r, g, x, m, f] :=
  match l, hl with
  | [c, a, r, g, x, m, f], _ => ⟨c, a, r, g, x, m, f, rfl⟩

theorem does_sim (h : s.comTakes port 0x901 p r) (hst : s.st = 9) {l : List Word} (hl : l.length = 7) (hp : p.payload = wordBytes l)
    (hc : (s.taken port).checkRegs (s.taken port) (simWords.zip l) = 0)
    (hc' : ((s.taken port).regEffect Reg.WHL_SIM_ANG (l.getD 1 0)).checkRegs ((s.taken port).regEffect Reg.WHL_SIM_ANG (l.getD 1 0))
      (simWords.zip l) = 0) :
    s.answers (.sim port) port p 0 [] (fun u => u.word Reg.WHL_SIM_CTRL = (l.getD 0 0) &&& 0x3F ∧
      (s.flag Fld.WHL_SIM_CTRL_RUN = false → u.get Fld.WHL_SIM_ANG_ANGLE = fieldOf Fld.WHL_SIM_ANG_ANGLE (l.getD 1 0)) ∧
      u.get Fld.WHL_SIM_FLT_DROP_N = fieldOf Fld.WHL_SIM_FLT_DROP_N (l.getD 6 0) ∧
      u.get Fld.WHL_SIM_FLT_CAM_OFF = fieldOf Fld.WHL_SIM_FLT_CAM_OFF (l.getD 6 0) ∧
      (∀ f, f ∈ [Fld.WHL_SIM_FLT_DROP, Fld.WHL_SIM_FLT_EXTRA, Fld.WHL_SIM_FLT_FLIP] → u.flag f = (s.flag f || fieldOf f (l.getD 6 0) != 0)) ∧
      u.get Fld.WHL_SIM_RATE_RATE = (l.getD 2 0).toNat ∧
      u.get Fld.WHL_SIM_TGT_TGT = (l.getD 3 0).toNat ∧ u.get Fld.WHL_SIM_ACC_ACC = (l.getD 4 0).toNat ∧
      u.get Fld.WHL_SIM_AMP_AMP = fieldOf Fld.WHL_SIM_AMP_AMP (l.getD 5 0)) := by
  have hwords : wordsOf p.payload simWords.length = l := by rw [hp, show simWords.length = l.length from hl.symm, wordsOf_wordBytes]
  have hlen : ¬ p.payload.length ≠ 4 * simWords.length := by rw [hp, wordBytes_length, hl]; decide
  have hset : ∀ t : State, t.checkRegs t (simWords.zip l) = 0 → t.setWords simWords p = (t.putRegs (simWords.zip l)).done := by
    intro t ht
    simp only [State.setWords, hwords, hlen, ht, if_false, ne_eq, not_true]
  have hangle : BitVec.ofNat 32 (leAt p.payload 4 4) = l.getD 1 0 := by
    rw [← hwords]
    rfl
  obtain ⟨c, a, rt, g, x, m, f, rfl⟩ := seven_words hl
  · obtain ⟨u, hu, hshows⟩ := simWritten_shows (s := s.taken port) hst c a rt g x m f
    refine answers_of_handle h rfl (u := u) ?_ hshows
    have hbench : ¬ (s.taken port).st ≠ 9 := fun hne => hne hst
    simp only [hbench, if_false, hset _ hc, hangle]
    change (if stOk ≠ 0 then _ else (((s.taken port).regEffect Reg.WHL_SIM_ANG a).setWords simWords p)) = _
    rw [if_neg (by decide)]
    refine (hset _ hc').trans ?_
    rw [List.getD_cons_succ, List.getD_cons_zero, hu]
    rfl

end packets

end simulator

-- ── OUTPUT_TEST: a channel begins its test (R401) ─────────────────────────────────────────────────────────────────

section outputTest
variable {s t u : State}

/-- A channel's own steps leave the self-test and the host's ports alone. -/
def testKept (s t : State) : Prop := t.tst = s.tst ∧ t.hst = s.hst ∧ t.tstRun = s.tstRun

theorem testKept_refl (s : State) : testKept s s := ⟨rfl, rfl, rfl⟩

theorem testKept_of_eq (h : testKept s t) (htst : u.tst = t.tst) (hhst : u.hst = t.hst) (hr : u.regs = t.regs) : testKept s u := by
  obtain ⟨ht, hh, hrun⟩ := h
  refine ⟨htst.trans ht, hhst.trans hh, ?_⟩
  rw [← hrun]
  unfold State.tstRun State.get State.word
  rw [hr]

theorem testKept_ite {c : Prop} [Decidable c] (ht : testKept s t) (hu : testKept s u) : testKept s (if c then t else u) := by
  split
  · exact ht
  · exact hu

theorem testKept_set (h : testKept s t) (f : FReg) (hf : f.addr < Reg.TST_STAT) (v : Nat) : testKept s (t.set f v) := by
  obtain ⟨ht, hh, hrun⟩ := h
  exact ⟨ht, hh, (get_set_other t f Fld.TST_STAT_RUN v (Ne.symm (Nat.ne_of_lt hf))).trans hrun⟩

theorem testKept_setLow (h : testKept s t) (n : Nat) (on fast : Bool) : testKept s (t.setLow n on fast) := by
  unfold State.setLow
  exact testKept_ite (testKept_of_eq h rfl rfl rfl) (testKept_of_eq h rfl rfl rfl)

theorem testKept_modRec (h : testKept s t) (m : Nat) (f : OpenRec → OpenRec) : testKept s (t.modRec m f) := by
  unfold State.modRec
  refine testKept_ite h ?_
  split
  · exact h
  · exact testKept_of_eq h rfl rfl rfl

theorem maskForeign_regs (s : State) (k : Nat) : (s.maskForeign k).regs = s.regs := rfl

theorem maskForeign_chan (s : State) (k n : Nat) : (s.maskForeign k).chan n = s.chan n := rfl

theorem testKept_maskForeign (h : testKept s t) (k : Nat) : testKept s (t.maskForeign k) := testKept_of_eq h rfl rfl rfl

theorem chanStat_low {n : Nat} (hn : n < 48) : (Fld.DRV_CH_STAT_PHASE n).addr < Reg.TST_STAT ∧ (Fld.PRF_CH_STAT_SP n).addr < Reg.TST_STAT := by
  simp only [Fld.DRV_CH_STAT_PHASE, Reg.DRV_CH_STAT, Fld.PRF_CH_STAT_SP, Reg.PRF_CH_STAT, Reg.TST_STAT]
  omega

theorem testKept_mirrorShot (h : testKept s t) (n : Nat) : testKept s (t.mirrorShot n) := by
  unfold State.mirrorShot
  exact testKept_ite (testKept_of_eq h rfl rfl rfl) h

theorem testKept_setChan (h : testKept s t) (n : Nat) (x : Chan) : testKept s (t.setChan n x) := testKept_of_eq h rfl rfl rfl

theorem testKept_enterPhase (h : testKept s t) {n : Nat} (hn : n < 48) (ph : Nat) : testKept s (t.enterPhase n ph) := by
  obtain ⟨hphase, hsp⟩ := chanStat_low hn
  unfold State.enterPhase
  extract_lets c code s1 s2 s3 s4
  have h1 : testKept s s1 := testKept_set (testKept_set h _ hphase ph) _ hsp code
  have h2 : testKept s s2 := testKept_setChan h1 n _
  clear_value s2
  have h3 : testKept s s3 := testKept_ite (testKept_setLow h2 n _ _) (testKept_ite h2 (testKept_modRec (testKept_setLow h2 n _ _) n _))
  clear_value s3
  have h4 : testKept s s4 := testKept_ite (testKept_modRec h3 n _) h3
  exact testKept_mirrorShot h4 n

theorem abortOffTest_kept (k : Nat) : (s.abortOffTest k).tst = s.tst ∧ (s.abortOffTest k).hst = s.hst ∧ (s.abortOffTest k).now = s.now := by
  unfold State.abortOffTest
  split <;> exact ⟨rfl, rfl, rfl⟩

/-- A test begins: its channel is on in its ramp, and the packet waits for the reply (R401). -/
theorem beginOutputTest_shows (port : Nat) (p : Packet) (hn : byteAt p.payload 0 < 48) :
    (s.beginOutputTest port p).tstRun = 2 ∧ (s.beginOutputTest port p).tst.otPkt = some p ∧ (s.beginOutputTest port p).tst.otPort = port ∧
    (s.beginOutputTest port p).tst.otAt = s.now ∧ (s.beginOutputTest port p).phase (byteAt p.payload 0) = 2 ∧
    ((s.beginOutputTest port p).chan (byteAt p.payload 0)).lowSide = true ∧ (s.beginOutputTest port p).hst = s.hst := by
  unfold State.beginOutputTest
  extract_lets l n s1 tst s2 c s3 s4
  obtain ⟨-, hhst, hnow⟩ := abortOffTest_kept (s := s) (bankOf n)
  have hrun : s3.tstRun = 2 := get_set (s.abortOffTest (bankOf n)) Fld.TST_STAT_RUN 2 (by decide)
  have htst : s3.tst.otPkt = some p ∧ s3.tst.otPort = port ∧ s3.tst.otAt = s.now ∧ s3.hst = s.hst := ⟨rfl, rfl, hnow, hhst⟩
  have h3 : testKept s3 (s3.enterPhase n 2) := testKept_enterPhase (testKept_refl s3) hn 2
  have hph : (s3.enterPhase n 2).phase n = 2 := (enterPhase_run s3 n (by decide)).2
  clear_value s3
  have h4 : testKept s3 s4 := testKept_maskForeign (testKept_setLow h3 n true false) (bankOf n)
  have hph4 : s4.phase n = 2 := by
    have hregs : s4.regs = (s3.enterPhase n 2).regs := (maskForeign_regs _ _).trans (setLow_regs _ n true false)
    rw [State.phase, State.get, State.word, hregs]
    exact hph
  have hlow : (s4.chan n).lowSide = true := (congrArg Chan.lowSide (maskForeign_chan _ _ n)).trans (lowSide_setLow (s3.enterPhase n 2) n true false).1
  clear_value s4
  obtain ⟨ktst, khst, krun⟩ := testKept_setChan h4 n { s4.chan n with held := true }
  obtain ⟨hpkt, hport, hat, hhst3⟩ := htst
  refine ⟨krun.trans hrun, by rw [ktst, hpkt], by rw [ktst, hport], by rw [ktst, hat], hph4, ?_, khst.trans hhst3⟩
  rw [chan_setChan, if_pos rfl]
  exact hlow

variable {port : Fin 5} {p : Packet} {r : List Packet}

theorem does_outputTestRefused (h : s.comTakes port 0x407 p r) (hst : s.st ≠ 9) :
    s.answers (.outputTest port) port p stForbids [] (fun u => u = s.taken port) := by
  refine answers_of_handle h rfl (u := s.taken port) ?_ rfl
  have hne : (s.taken port).st ≠ 9 := hst
  simp only [hne, ne_eq, not_false_eq_true, decide_true, Bool.true_or, if_true]
  rfl

theorem outq_taken (q : Nat) : ((s.taken port).hst.port q).outq = (s.hst.port q).outq := by
  unfold State.taken
  rw [port_setPort]
  split
  · next h => rw [h]; rfl
  · rfl

theorem does_outputTest (h : s.comTakes port 0x407 p r) (hst : s.st = 9) (hpartner : s.partnerDrives = false) (hlen : p.payload.length = 16)
    (hok : s.otOk p.payload = true) (hrun : s.tstRun = 0) (hphase : s.phase (byteAt p.payload 0) = 0) :
    s.does (.outputTest port) (fun u => u.tstRun = 2 ∧ u.tst.otPkt = some p ∧ u.tst.otPort = port.val ∧ u.tst.otAt = s.now ∧
      u.phase (byteAt p.payload 0) = 2 ∧ (u.chan (byteAt p.payload 0)).lowSide = true ∧
      ∀ q, (u.hst.port q).outq = (s.hst.port q).outq) := by
  have hn : byteAt p.payload 0 < 48 := by
    simp only [State.otOk, Bool.and_eq_true, decide_eq_true_eq] at hok
    omega
  obtain ⟨hr, hpkt, hport, hat, hph, hlow, hhst⟩ := beginOutputTest_shows (s := s.taken port) port.val p hn
  refine ⟨(s.taken port).beginOutputTest port.val p, ?_, hr, hpkt, hport, hat, hph, hlow, fun q => ?_⟩
  · have hst' : (s.taken port).st = 9 := hst
    have hpartner' : (s.taken port).partnerDrives = false := hpartner
    have hok' : (s.taken port).otOk p.payload = true := hok
    have hrun' : (s.taken port).tstRun = 0 := hrun
    have hphase' : (s.taken port).phase (byteAt p.payload 0) = 0 := hphase
    change Host.Outcome.next _ = _
    rw [handle_taken h]
    simp [hst', hpartner', hlen, hok', hrun', hphase']
  · rw [hhst]
    exact outq_taken q

end outputTest

/-- Settles O26: SIM writes its registers one by one; OUTPUT_TEST puts its channel in the ramp. -/
theorem benchOpcodes : Obligations.BenchOpcodes := by
  unfold Obligations.BenchOpcodes
  intro s port p r
  exact ⟨does_simRefused, fun h hst l hl hp hc hc' => does_sim h hst hl hp hc hc', does_outputTestRefused, does_outputTest⟩

end Sys2Proof.Machine

/-! PROOFS. The wheel inputs, their diagnostics and the simulator (O46). -/

namespace Sys2Proof.Machine

-- ── What a step at an input leaves (R30–R36) ──────────────────────────────────────────────────────────────────────

/-- A step at input `n` before its edge is judged: it may change WHL_STATn but for the direction, and the input's own memory but for the
stamp and intervals of the filters. -/
structure InputStep (n : Nat) (s t : State) : Prop where
  trks : t.trks = s.trks
  clk : t.clk = s.clk
  tclk : t.tclk = s.tclk
  sim : t.sim = s.sim
  others : ∀ m, m ≠ n → t.whl m = s.whl m
  count : (t.whl n).count = (s.whl n).count
  stamp : (t.whl n).stamp = (s.whl n).stamp
  int1 : (t.whl n).int1 = (s.whl n).int1
  int2 : (t.whl n).int2 = (s.whl n).int2
  dir : t.flag (Fld.WHL_STAT_DIR n) = s.flag (Fld.WHL_STAT_DIR n)
  regs : s.sameBut t [Reg.WHL_STAT n]

section inputStep
variable {n : Nat} {s t u : State}

theorem inputStep_refl (n : Nat) (s : State) : InputStep n s s :=
  ⟨rfl, rfl, rfl, rfl, fun _ _ => rfl, rfl, rfl, rfl, rfl, rfl, sameBut_refl s _⟩

theorem inputStep_ite {c : Prop} [Decidable c] (ht : InputStep n s t) (hu : InputStep n s u) : InputStep n s (if c then t else u) := by
  split
  · exact ht
  · exact hu

theorem inputStep_set (h : InputStep n s t) {f : FReg} (hf : f.addr = Reg.WHL_STAT n) (hd : fieldsApart (Fld.WHL_STAT_DIR n) f = true) (v : Nat) :
    InputStep n s (t.set f v) :=
  { h with
    dir := (flag_set_apart t v hd).trans h.dir
    regs := sameBut_set h.regs f (by rw [hf]; exact List.mem_singleton_self _) v }

theorem inputStep_raiseFlag (h : InputStep n s t) {f : FReg} (hf : f.addr = Reg.WHL_STAT n) (hd : fieldsApart (Fld.WHL_STAT_DIR n) f = true) :
    InputStep n s (t.raiseFlag f) := { inputStep_set h hf hd 1 with }

theorem inputStep_irq (h : InputStep n s t) (hn : n < 4) (k : Nat) : InputStep n s (t.irq k) := by
  have hwhl : ∀ m, (t.irq k).whl m = t.whl m := fun m => by unfold State.whl; rw [irq_whls]
  have hdir : (t.irq k).flag (Fld.WHL_STAT_DIR n) = t.flag (Fld.WHL_STAT_DIR n) :=
    flag_irq t k _ (inIrqBlock_above (by simp only [Fld.WHL_STAT_DIR, Reg.WHL_STAT]; omega))
  exact ⟨(irq_trks t k).trans h.trks, (irq_clk t k).trans h.clk, (irq_tclk t k).trans h.tclk, (irq_sim t k).trans h.sim,
    fun m hm => (hwhl m).trans (h.others m hm), (congrArg _ (hwhl n)).trans h.count, (congrArg _ (hwhl n)).trans h.stamp,
    (congrArg _ (hwhl n)).trans h.int1, (congrArg _ (hwhl n)).trans h.int2, hdir.trans h.dir, sameBut_irq h.regs k⟩

/-- The input's memory may change beside what the filters keep. -/
theorem inputStep_setWhl (h : InputStep n s t) (w : WhlInput) (hc : w.count = (t.whl n).count) (hs : w.stamp = (t.whl n).stamp)
    (h1 : w.int1 = (t.whl n).int1) (h2 : w.int2 = (t.whl n).int2) : InputStep n s (t.setWhl n w) := by
  have hown : (t.setWhl n w).whl n = w := (whl_setWhl t n n w).trans (if_pos rfl)
  exact { h with
    others := fun m hm => ((whl_setWhl t m n w).trans (if_neg hm)).trans (h.others m hm)
    count := (congrArg WhlInput.count hown).trans (hc.trans h.count)
    stamp := (congrArg WhlInput.stamp hown).trans (hs.trans h.stamp)
    int1 := (congrArg WhlInput.int1 hown).trans (h1.trans h.int1)
    int2 := (congrArg WhlInput.int2 hown).trans (h2.trans h.int2) }

theorem inputStep_get (h : InputStep n s t) {g : FReg} (hg : g.addr ≠ Reg.WHL_STAT n) (hi : inIrqBlock g.addr = false) : t.get g = s.get g :=
  sameBut_get h.regs g (by simpa using hg) hi

-- The comparator level (R41)

theorem inputStep_setLevel (h : InputStep n s t) (lv : Bool) : InputStep n s (t.setLevel n lv) := by
  have hset : InputStep n s (t.setFlag (Fld.WHL_STAT_LEVEL n) lv) :=
    inputStep_set h rfl (by simp [fieldsApart, Fld.WHL_STAT_LEVEL, Fld.WHL_STAT_DIR]) _
  unfold State.setLevel
  exact inputStep_ite h (inputStep_ite hset (inputStep_setWhl hset _ rfl rfl rfl rfl))

theorem level_setLevel (lv : Bool) : (t.setLevel n lv).flag (Fld.WHL_STAT_LEVEL n) = lv := by
  have hset : (t.setFlag (Fld.WHL_STAT_LEVEL n) lv).flag (Fld.WHL_STAT_LEVEL n) = lv := flag_setFlag t _ lv (show 0 + 1 ≤ 32 by decide) Nat.one_pos
  unfold State.setLevel
  dsimp only
  split
  · next h => exact h
  split
  · exact hset
  · exact hset

/-- The level's history alone changes in the input's memory. -/
theorem whl_setLevel (lv : Bool) : ∃ b a, (t.setLevel n lv).whl n = { t.whl n with levelBefore := b, levelAt := a } := by
  unfold State.setLevel
  dsimp only
  split
  · exact ⟨_, _, rfl⟩
  split
  · exact ⟨_, _, rfl⟩
  · exact ⟨_, _, (whl_setWhl _ n n _).trans (if_pos rfl)⟩

theorem get_setLevel {g : FReg} (hg : fieldsApart g (Fld.WHL_STAT_LEVEL n) = true) (lv : Bool) : (t.setLevel n lv).get g = t.get g := by
  have hset : (t.setFlag (Fld.WHL_STAT_LEVEL n) lv).get g = t.get g := get_set_apart t _ hg
  unfold State.setLevel
  dsimp only
  split
  · rfl
  split
  · exact hset
  · exact hset

-- Reports (R52)

theorem inputStep_whlCause (h : InputStep n s t) (k : Nat) (b : Bool) : InputStep n s (t.whlCause n k b) :=
  inputStep_setWhl h _ rfl rfl rfl rfl

theorem inputStep_whlDiag (h : InputStep n s t) (hn : n < 4) {f : FReg} (hf : f.addr = Reg.WHL_STAT n)
    (hd : fieldsApart (Fld.WHL_STAT_DIR n) f = true) : InputStep n s (t.whlDiag n f) := inputStep_irq (inputStep_raiseFlag h hf hd) hn _

theorem inputStep_whlReport (h : InputStep n s t) (hn : n < 4) (k : Nat) {f : FReg} (b : Bool) (hf : f.addr = Reg.WHL_STAT n)
    (hd : fieldsApart (Fld.WHL_STAT_DIR n) f = true) : InputStep n s (t.whlReport n k f b) := by
  have hcause := inputStep_whlCause h k b
  unfold State.whlReport
  exact inputStep_ite hcause (inputStep_ite (inputStep_raiseFlag hcause hf hd) (inputStep_whlDiag hcause hn hf hd))

theorem whlStat_free (hn : n < 4) {f : FReg} (hf : f.addr = Reg.WHL_STAT n) : inIrqBlock f.addr = false :=
  inIrqBlock_above (by rw [hf]; unfold Reg.WHL_STAT; omega)

/-- A report sets its own bit and touches no other of the register. -/
theorem flag_whlDiag (hn : n < 4) {f : FReg} (hf : f.addr = Reg.WHL_STAT n) (hw : f.lo + f.w ≤ 32) (h0 : 0 < f.w) :
    (t.whlDiag n f).flag f = true := by
  rw [State.whlDiag, flag_irq _ _ _ (whlStat_free hn hf)]
  exact flag_raiseFlag t f hw h0

theorem get_whlDiag (hn : n < 4) {f g : FReg} (hg : g.addr = Reg.WHL_STAT n) (hd : fieldsApart g f = true) : (t.whlDiag n f).get g = t.get g := by
  rw [State.whlDiag, get_irq _ _ _ (whlStat_free hn hg)]
  exact get_set_apart t 1 hd

theorem get_whlReport (hn : n < 4) (k : Nat) {f g : FReg} (b : Bool) (hg : g.addr = Reg.WHL_STAT n) (hd : fieldsApart g f = true) :
    (t.whlReport n k f b).get g = t.get g := by
  unfold State.whlReport
  dsimp only
  split
  · rfl
  split
  · exact get_set_apart _ 1 hd
  · exact get_whlDiag hn hg hd

theorem flag_whlReport (hn : n < 4) (k : Nat) {f : FReg} (hf : f.addr = Reg.WHL_STAT n) (hw : f.lo + f.w ≤ 32) (h0 : 0 < f.w) :
    (t.whlReport n k f true).flag f = true := by
  unfold State.whlReport
  dsimp only
  rw [if_neg (by decide)]
  split
  · exact flag_raiseFlag _ f hw h0
  · exact flag_whlDiag hn hf hw h0

theorem whl_whlReport (k : Nat) (f : FReg) (b : Bool) : ∃ c, (t.whlReport n k f b).whl n = { t.whl n with causes := c } := by
  obtain ⟨c, hc⟩ : ∃ c, (t.whlCause n k b).whl n = { t.whl n with causes := c } := ⟨_, (whl_setWhl t n n _).trans (if_pos rfl)⟩
  refine ⟨c, ?_⟩
  rw [← hc]
  unfold State.whlReport
  dsimp only
  split
  · rfl
  split
  · rfl
  · unfold State.whlDiag State.whl
    rw [irq_whls]
    rfl

-- The half-wave of a VR input (R30, R31)

theorem inputStep_arm (h : InputStep n s t) : InputStep n s (t.arm n) :=
  inputStep_setWhl (inputStep_set h rfl (by simp [fieldsApart, Fld.WHL_STAT_ARMED, Fld.WHL_STAT_DIR]) _) _ rfl rfl rfl rfl

theorem peak_fits (mv : Nat) : Nat.min 65535 mv % 2 ^ 16 = Nat.min 65535 mv := by
  have hle : Nat.min 65535 mv ≤ 65535 := Nat.min_le_left 65535 mv
  omega

theorem get_setWhl (s : State) (k : Nat) (w : WhlInput) (f : FReg) : (s.setWhl k w).get f = s.get f := rfl

/-- The half-wave's end: the input disarms, its peak shows, and the comparator stands (R30). -/
theorem vrPeak_shows (h : InputStep n s t) (hn : n < 4) (mv : Nat) : InputStep n s (t.vrPeak n mv) ∧
    (t.vrPeak n mv).flag (Fld.WHL_STAT_ARMED n) = false ∧ (t.vrPeak n mv).get (Fld.WHL_STAT_PEAK n) = Nat.min 65535 mv ∧
    ((t.vrPeak n mv).whl n).prevPeak = mv ∧ (t.vrPeak n mv).flag (Fld.WHL_STAT_LEVEL n) = t.flag (Fld.WHL_STAT_LEVEL n) := by
  have hreport : ∀ (u : State) (b : Bool) (g : FReg), g.addr = Reg.WHL_STAT n → fieldsApart g (Fld.WHL_STAT_LOW_AMP n) = true →
      ((u.whlCause n 8 false).whlReport n 11 (Fld.WHL_STAT_LOW_AMP n) b).get g = u.get g := fun u b g hg hd =>
    get_whlReport (t := u.whlCause n 8 false) hn 11 b hg hd
  unfold State.vrPeak
  extract_lets low run s0 w s1
  have h0 : InputStep n s s0 := inputStep_set h rfl (by simp [fieldsApart, Fld.WHL_STAT_ARMED, Fld.WHL_STAT_DIR]) _
  have h1 : InputStep n s s1 :=
    inputStep_setWhl (inputStep_set (f := Fld.WHL_STAT_PEAK n) h0 rfl (by simp [fieldsApart, Fld.WHL_STAT_PEAK, Fld.WHL_STAT_DIR]) _) _ rfl rfl rfl rfl
  have hs1 : ∀ f, s1.get f = (s0.set (Fld.WHL_STAT_PEAK n) (Nat.min 65535 mv)).get f := fun f => get_setWhl _ n _ f
  refine ⟨inputStep_whlReport (inputStep_whlCause h1 8 false) hn 11 _ rfl (by simp [fieldsApart, Fld.WHL_STAT_LOW_AMP, Fld.WHL_STAT_DIR]),
    ?_, ?_, ?_, ?_⟩
  · rw [State.flag, hreport s1 _ _ rfl (by simp [fieldsApart, Fld.WHL_STAT_LOW_AMP, Fld.WHL_STAT_ARMED]), hs1]
    exact (flag_set_apart s0 _ (by simp [fieldsApart, Fld.WHL_STAT_PEAK, Fld.WHL_STAT_ARMED])).trans
      (flag_setFlag t _ false (show 1 + 1 ≤ 32 by decide) Nat.one_pos)
  · rw [hreport s1 _ _ rfl (by simp [fieldsApart, Fld.WHL_STAT_LOW_AMP, Fld.WHL_STAT_PEAK]), hs1,
      get_set s0 _ _ (show 16 + 16 ≤ 32 by decide)]
    exact peak_fits mv
  · obtain ⟨c, hc⟩ := whl_whlReport (t := s1.whlCause n 8 false) (n := n) 11 (Fld.WHL_STAT_LOW_AMP n) (decide (run = 8))
    have hcause : (s1.whlCause n 8 false).whl n = _ := (whl_setWhl s1 n n _).trans (if_pos rfl)
    rw [hc, hcause]
    exact congrArg WhlInput.prevPeak ((whl_setWhl _ n n _).trans (if_pos rfl))
  · rw [State.flag, hreport s1 _ _ rfl (by simp [fieldsApart, Fld.WHL_STAT_LOW_AMP, Fld.WHL_STAT_LEVEL]), hs1]
    exact (flag_set_apart s0 _ (by simp [fieldsApart, Fld.WHL_STAT_PEAK, Fld.WHL_STAT_LEVEL])).trans
      (flag_set_apart t _ (by simp [fieldsApart, Fld.WHL_STAT_ARMED, Fld.WHL_STAT_LEVEL]))

end inputStep

-- ── An edge that passes the filters (R33, R40–R43) ────────────────────────────────────────────────────────────────

section active
variable {n : Nat} {s t : State}

/-- The filters see the same edge after such a step. -/
theorem ratioRejects_step (h : InputStep n s t) (hn : n < 4) (stamp : Nat) : t.ratioRejects n stamp = s.ratioRejects n stamp := by
  have hratio : t.get (Fld.WHL_FILT_RATIO n) = s.get (Fld.WHL_FILT_RATIO n) :=
    inputStep_get h (by simp only [Fld.WHL_FILT_RATIO, Reg.WHL_FILT, Reg.WHL_STAT]; omega)
      (inIrqBlock_above (by simp only [Fld.WHL_FILT_RATIO, Reg.WHL_FILT]; omega))
  simp only [State.ratioRejects, hratio, h.count, h.stamp, h.int1, h.int2]

/-- The tracker's part in a delivery: the edge joins the queues that use the input (R43). -/
def State.edgeTo (n stamp : Nat) (falling : Bool) (simRev : Option Bool) (s : State) (x : Nat) : State :=
  let rev := simRev.getD (s.flag (Fld.WHL_STAT_DIR (s.get (Fld.WHL_WD_CFG_DIR_SRC x))))
  let e : WheelEdge := { stamp := stamp, reverse := rev, falling := falling, avail := s.edgeAvail n stamp, relabel := false
                         win := s.get (Fld.WHL_WIN_WIN n) }
  let s1 := if s.posRev x != 0 && s.get (Fld.WHL_WD_CFG_CRANK_IN x) == n then
      s.setTrk x { s.trk x with crankQ := (s.trk x).crankQ ++ [{ e with avail := s.edgeApplies n stamp }] } else s
  if s.posRev x != 0 && s.flag (Fld.WHL_WD_CFG_CAM_EN x) && s.get (Fld.WHL_WD_CFG_CAM_IN x) == n then
    s1.setTrk x { s1.trk x with camQ := (s1.trk x).camQ ++ [e] } else s1

theorem deliverEdge_eq (stamp : Nat) (falling : Bool) (simRev : Option Bool) : s.deliverEdge n stamp falling simRev =
    if !s.edgesPass then s else (s.edgeTo n stamp falling simRev 0).edgeTo n stamp falling simRev 1 := rfl

theorem edgeTo_kept (stamp : Nat) (falling : Bool) (simRev : Option Bool) (x : Nat) :
    (s.edgeTo n stamp falling simRev x).regs = s.regs ∧ (s.edgeTo n stamp falling simRev x).whls = s.whls ∧
    (s.edgeTo n stamp falling simRev x).sim = s.sim ∧ (s.edgeTo n stamp falling simRev x).mem = s.mem ∧
    (s.edgeTo n stamp falling simRev x).tclk = s.tclk := by
  unfold State.edgeTo
  dsimp only
  split <;> split <;> exact ⟨rfl, rfl, rfl, rfl, rfl⟩

theorem trk_edgeTo_other (stamp : Nat) (falling : Bool) (simRev : Option Bool) {x y : Nat} (h : y ≠ x) :
    (s.edgeTo n stamp falling simRev x).trk y = s.trk y := by
  have hset : ∀ (t : State) (w : Trk), (t.setTrk x w).trk y = t.trk y := fun t w => (trk_setTrk t y x w).trans (if_neg h)
  unfold State.edgeTo
  dsimp only
  split <;> split <;> simp only [hset]

/-- A crank edge joins the queue of each tracker that follows the input (R43). -/
theorem crankQ_edgeTo (stamp : Nat) (falling : Bool) (simRev : Option Bool) {x : Nat} (hp : s.posRev x ≠ 0)
    (hx : s.get (Fld.WHL_WD_CFG_CRANK_IN x) = n) : ∃ e : WheelEdge, ((s.edgeTo n stamp falling simRev x).trk x).crankQ = (s.trk x).crankQ ++ [e] ∧
      e.stamp = stamp ∧ e.relabel = false ∧ e.reverse = simRev.getD (s.flag (Fld.WHL_STAT_DIR (s.get (Fld.WHL_WD_CFG_DIR_SRC x)))) ∧
      e.win = s.get (Fld.WHL_WIN_WIN n) ∧ e.avail = s.edgeApplies n stamp := by
  have hcrank : (s.posRev x != 0 && s.get (Fld.WHL_WD_CFG_CRANK_IN x) == n) = true := by
    rw [Bool.and_eq_true, bne_iff_ne, beq_iff_eq]
    exact ⟨hp, hx⟩
  have hown : ∀ (t : State) (w : Trk), (t.setTrk x w).trk x = w := fun t w => (trk_setTrk t x x w).trans (if_pos rfl)
  unfold State.edgeTo
  dsimp only
  rw [if_pos hcrank]
  refine ⟨{ stamp := stamp, reverse := simRev.getD (s.flag (Fld.WHL_STAT_DIR (s.get (Fld.WHL_WD_CFG_DIR_SRC x)))), falling := falling
            avail := s.edgeApplies n stamp, relabel := false, win := s.get (Fld.WHL_WIN_WIN n) }, ?_, rfl, rfl, rfl, rfl, rfl⟩
  split <;> simp only [hown]

section delivery
variable (stamp : Nat) (falling : Bool) (simRev : Option Bool)

theorem deliverEdge_kept : (s.deliverEdge n stamp falling simRev).regs = s.regs ∧ (s.deliverEdge n stamp falling simRev).whls = s.whls ∧
    (s.deliverEdge n stamp falling simRev).sim = s.sim ∧ (s.deliverEdge n stamp falling simRev).mem = s.mem := by
  obtain ⟨r0, w0, i0, m0, -⟩ := edgeTo_kept (n := n) (s := s) stamp falling simRev 0
  obtain ⟨r1, w1, i1, m1, -⟩ := edgeTo_kept (n := n) (s := s.edgeTo n stamp falling simRev 0) stamp falling simRev 1
  rw [deliverEdge_eq]
  split
  · exact ⟨rfl, rfl, rfl, rfl⟩
  · exact ⟨r1.trans r0, w1.trans w0, i1.trans i0, m1.trans m0⟩

theorem crankQ_deliverEdge (hpass : s.edgesPass = true) (x : Fin 2) (hp : s.posRev x ≠ 0) (hx : s.get (Fld.WHL_WD_CFG_CRANK_IN x) = n) :
    ∃ e : WheelEdge, ((s.deliverEdge n stamp falling simRev).trk x).crankQ = (s.trk x).crankQ ++ [e] ∧
      e.stamp = stamp ∧ e.relabel = false ∧ e.reverse = simRev.getD (s.flag (Fld.WHL_STAT_DIR (s.get (Fld.WHL_WD_CFG_DIR_SRC x)))) ∧
      e.win = s.get (Fld.WHL_WIN_WIN n) ∧ e.avail = s.edgeApplies n stamp := by
  rw [deliverEdge_eq, if_neg (by rw [hpass]; decide)]
  match x with
  | 0 =>
    have hother : ((s.edgeTo n stamp falling simRev 0).edgeTo n stamp falling simRev 1).trk (0 : Fin 2) =
        (s.edgeTo n stamp falling simRev 0).trk 0 := trk_edgeTo_other _ _ _ (by decide)
    rw [hother]
    exact crankQ_edgeTo stamp falling simRev hp hx
  | 1 =>
    obtain ⟨hregs, -, -, -, -⟩ := edgeTo_kept (n := n) (s := s) stamp falling simRev 0
    obtain ⟨u, hu⟩ : ∃ u, s.edgeTo n stamp falling simRev 0 = u := ⟨_, rfl⟩
    have hother : u.trk (1 : Fin 2) = s.trk (1 : Fin 2) := by rw [← hu]; exact trk_edgeTo_other _ _ _ (by decide)
    rw [hu] at hregs ⊢
    have hget : ∀ f : FReg, u.get f = s.get f := fun f => by unfold State.get State.word; rw [hregs]
    have hedge := crankQ_edgeTo (s := u) (n := n) stamp falling simRev (x := 1) (by unfold State.posRev at hp ⊢; rw [hget]; exact hp)
      (by rw [hget]; exact hx)
    rw [show u.trk 1 = s.trk (1 : Fin 2) from hother] at hedge
    simp only [State.flag, State.edgeApplies, hget] at hedge
    exact hedge

end delivery

-- The direction (R40, R41)

theorem get_addWrap (s : State) (f : FReg) (k : Nat) (hw : f.lo + f.w ≤ 32) : (s.addWrap f k).get f = (s.get f + k) % 2 ^ f.w := by
  rw [State.addWrap, get_set s f _ hw, Nat.mod_mod]

theorem setDir_flags (hn : n < 4) (rev valid : Bool) : (s.setDir n rev valid).flag (Fld.WHL_STAT_DIR n) = rev ∧
    (s.setDir n rev valid).flag (Fld.WHL_STAT_DIR_VALID n) = (valid || s.flag (Fld.WHL_STAT_DIR_VALID n)) := by
  obtain ⟨b, hb⟩ : ∃ b, (valid || s.flag (Fld.WHL_STAT_DIR_VALID n)) = b := ⟨_, rfl⟩
  have hdir : ((s.setFlag (Fld.WHL_STAT_DIR n) rev).setFlag (Fld.WHL_STAT_DIR_VALID n) b).flag (Fld.WHL_STAT_DIR n) = rev :=
    (flag_set_apart _ _ (by simp [fieldsApart, Fld.WHL_STAT_DIR, Fld.WHL_STAT_DIR_VALID])).trans
      (flag_setFlag s _ rev (show 2 + 1 ≤ 32 by decide) Nat.one_pos)
  have hvalid : ((s.setFlag (Fld.WHL_STAT_DIR n) rev).setFlag (Fld.WHL_STAT_DIR_VALID n) b).flag (Fld.WHL_STAT_DIR_VALID n) = b :=
    flag_setFlag _ _ b (show 3 + 1 ≤ 32 by decide) Nat.one_pos
  unfold State.setDir
  dsimp only
  rw [hb]
  split
  · exact ⟨hdir, hvalid⟩
  · exact ⟨(flag_irq _ _ _ (whlStat_free hn rfl)).trans hdir, (flag_irq _ _ _ (whlStat_free hn rfl)).trans hvalid⟩

theorem setDir_kept (rev valid : Bool) : (s.setDir n rev valid).trks = s.trks ∧ (s.setDir n rev valid).whls = s.whls ∧
    (s.setDir n rev valid).clk = s.clk ∧ (s.setDir n rev valid).sim = s.sim ∧
    ∀ g : FReg, inIrqBlock g.addr = false → fieldsApart g (Fld.WHL_STAT_DIR n) = true → fieldsApart g (Fld.WHL_STAT_DIR_VALID n) = true →
      (s.setDir n rev valid).get g = s.get g := by
  obtain ⟨b, hb⟩ : ∃ b, (valid || s.flag (Fld.WHL_STAT_DIR_VALID n)) = b := ⟨_, rfl⟩
  have hget : ∀ g, fieldsApart g (Fld.WHL_STAT_DIR n) = true → fieldsApart g (Fld.WHL_STAT_DIR_VALID n) = true →
      ((s.setFlag (Fld.WHL_STAT_DIR n) rev).setFlag (Fld.WHL_STAT_DIR_VALID n) b).get g = s.get g := fun g h h' =>
    (get_set_apart _ _ h').trans (get_set_apart s _ h)
  unfold State.setDir
  dsimp only
  rw [hb]
  split
  · exact ⟨rfl, rfl, rfl, rfl, fun g _ h h' => hget g h h'⟩
  · refine ⟨?_, ?_, ?_, ?_, fun g hi h h' => (get_irq _ _ g hi).trans (hget g h h')⟩
    · rw [irq_trks]; rfl
    · rw [irq_whls]; rfl
    · rw [irq_clk]; rfl
    · rw [irq_sim]; rfl

-- The accepted edge: its stamp, its count, its direction, its delivery (R33, R36, R40–R43)

/-- The input takes the edge: stamp, intervals, count and time stamp register. -/
def State.takenEdge (s : State) (n stamp : Nat) (simRev : Option Bool) : State :=
  let w := s.whl n
  let quiet := w.count = 0 || decide (w.stamp + silence ≤ stamp)
  let w1 := if quiet then { w with count := 1, stamp := stamp, int1 := 0, int2 := 0 }
            else { w with count := Nat.min 3 (w.count + 1), stamp := stamp, int1 := stamp - w.stamp, int2 := w.int1 }
  let w2 := { w1 with measuring := decide (s.get (Fld.WHL_CFG_DIR_MODE n) = 2) && simRev.isNone, pw := s.word (Reg.WHL_PW n) }
  (((s.setWhl n w2).addWrap (Fld.WHL_CNT_ACCEPTED n) 1).setWord (Reg.WHL_TSL n) (BitVec.ofNat 32 stamp)).irq (16 + 4 * n)

/-- The level of the neighbour that gives the direction: in the tick of the edge it is the one before (R41). -/
def State.levelBeside (s : State) (n stamp : Nat) : Bool :=
  let odd := s.whl (n + 1)
  if odd.levelAt = stamp / 16 then odd.levelBefore else s.flag (Fld.WHL_STAT_LEVEL (n + 1))

/-- The direction that the edge brings, judged on `s` (R40). -/
def State.directed (s t : State) (n stamp : Nat) (simRev : Option Bool) : State :=
  match simRev with
  | some r => t.setDir n r true
  | none => if s.get (Fld.WHL_CFG_DIR_MODE n) = 0 then t.setDir n false false
            else if s.get (Fld.WHL_CFG_DIR_MODE n) = 1 then t.setDir n (!s.levelBeside n stamp != s.flag (Fld.WHL_CFG_DIR_INV n)) true
            else t

theorem activeEdge_eq (stamp : Nat) (falling : Bool) (simRev : Option Bool) : s.activeEdge n stamp falling simRev =
    if s.ratioRejects n stamp then (s.addWrap (Fld.WHL_CNT_RATIO n) 1).irq (17 + 4 * n)
    else (s.directed (s.takenEdge n stamp simRev) n stamp simRev).deliverEdge n stamp falling simRev := by
  cases simRev <;> rfl

theorem takenEdge_whl (stamp : Nat) (simRev : Option Bool) : ∃ c i1 i2 p, (s.takenEdge n stamp simRev).whl n = { s.whl n with
    count := c, stamp := stamp, int1 := i1, int2 := i2, measuring := decide (s.get (Fld.WHL_CFG_DIR_MODE n) = 2) && simRev.isNone, pw := p } := by
  have hown : ∀ (w : WhlInput) (v : Nat) (x : Word) (k : Nat), ((((s.setWhl n w).addWrap (Fld.WHL_CNT_ACCEPTED n) v).setWord (Reg.WHL_TSL n) x).irq k).whl n = w := by
    intro w v x k
    unfold State.whl
    rw [irq_whls]
    exact (whl_setWhl s n n w).trans (if_pos rfl)
  unfold State.takenEdge
  dsimp only
  rw [hown]
  split <;> exact ⟨_, _, _, _, rfl⟩

theorem takenEdge_kept (hn : n < 4) (stamp : Nat) (simRev : Option Bool) : (s.takenEdge n stamp simRev).trks = s.trks ∧
    (s.takenEdge n stamp simRev).clk = s.clk ∧ (s.takenEdge n stamp simRev).sim = s.sim ∧
    (s.takenEdge n stamp simRev).get (Fld.WHL_CNT_ACCEPTED n) = (s.get (Fld.WHL_CNT_ACCEPTED n) + 1) % 2 ^ (Fld.WHL_CNT_ACCEPTED n).w ∧
    s.sameBut (s.takenEdge n stamp simRev) [Reg.WHL_CNT n, Reg.WHL_TSL n] := by
  have hcnt : inIrqBlock (Fld.WHL_CNT_ACCEPTED n).addr = false :=
    inIrqBlock_above (by simp only [Fld.WHL_CNT_ACCEPTED, Reg.WHL_CNT]; omega)
  have hne : (Fld.WHL_CNT_ACCEPTED n).addr ≠ Reg.WHL_TSL n := by simp only [Fld.WHL_CNT_ACCEPTED, Reg.WHL_CNT, Reg.WHL_TSL]; omega
  unfold State.takenEdge
  extract_lets w quiet w1 w2
  clear_value w2
  refine ⟨by rw [irq_trks]; rfl, by rw [irq_clk]; rfl, by rw [irq_sim]; rfl, ?_, ?_⟩
  · rw [get_irq _ _ _ hcnt, State.get, word_setWord, if_neg hne]
    have hadd := get_addWrap (s.setWhl n w2) (Fld.WHL_CNT_ACCEPTED n) 1 (show 0 + 16 ≤ 32 by decide)
    rw [get_setWhl, State.get] at hadd
    exact hadd
  · have hset : s.sameBut (s.setWhl n w2) [Reg.WHL_CNT n, Reg.WHL_TSL n] := sameBut_of_regs (sameBut_refl s _) rfl rfl
    exact sameBut_irq (sameBut_setWord (sameBut_set hset (Fld.WHL_CNT_ACCEPTED n) List.mem_cons_self _) (by simp) _) _

theorem directed_kept (t : State) (stamp : Nat) (simRev : Option Bool) : (s.directed t n stamp simRev).trks = t.trks ∧
    (s.directed t n stamp simRev).whls = t.whls ∧ (s.directed t n stamp simRev).clk = t.clk ∧ (s.directed t n stamp simRev).sim = t.sim ∧
    ∀ g : FReg, inIrqBlock g.addr = false → fieldsApart g (Fld.WHL_STAT_DIR n) = true → fieldsApart g (Fld.WHL_STAT_DIR_VALID n) = true →
      (s.directed t n stamp simRev).get g = t.get g := by
  unfold State.directed
  split
  · exact setDir_kept _ _
  split
  · exact setDir_kept _ _
  split
  · exact setDir_kept _ _
  · exact ⟨rfl, rfl, rfl, rfl, fun _ _ _ _ => rfl⟩

theorem apart_of_addr {f g : FReg} (h : g.addr ≠ f.addr) (hw : f.lo + f.w ≤ 32) : fieldsApart g f = true := by
  simp [fieldsApart, h, hw]

section outcome
variable {stamp : Nat} (falling : Bool) (simRev : Option Bool)

theorem activeEdge_rejected (h : s.ratioRejects n stamp = true) :
    s.activeEdge n stamp falling simRev = (s.addWrap (Fld.WHL_CNT_RATIO n) 1).irq (17 + 4 * n) := by
  rw [activeEdge_eq, if_pos h]

theorem activeEdge_accepted (h : s.ratioRejects n stamp = false) : s.activeEdge n stamp falling simRev =
    (s.directed (s.takenEdge n stamp simRev) n stamp simRev).deliverEdge n stamp falling simRev := by
  rw [activeEdge_eq, if_neg (by rw [h]; decide)]

/-- An edge, accepted or not, leaves what other fields show of the inputs. -/
theorem get_activeEdge (hn : n < 4) {g : FReg} (hi : inIrqBlock g.addr = false) (hd : fieldsApart g (Fld.WHL_STAT_DIR n) = true)
    (hv : fieldsApart g (Fld.WHL_STAT_DIR_VALID n) = true) (hc : g.addr ≠ Reg.WHL_CNT n) (hs : g.addr ≠ Reg.WHL_TSL n) :
    (s.activeEdge n stamp falling simRev).get g = s.get g := by
  cases h : s.ratioRejects n stamp
  · obtain ⟨hregs, -⟩ := deliverEdge_kept (n := n) (s := s.directed (s.takenEdge n stamp simRev) n stamp simRev) stamp falling simRev
    obtain ⟨-, -, -, -, hdir⟩ := directed_kept (n := n) (s := s) (s.takenEdge n stamp simRev) stamp simRev
    obtain ⟨-, -, -, -, htaken⟩ := takenEdge_kept (s := s) hn stamp simRev
    rw [activeEdge_accepted falling simRev h, State.get, State.word, hregs]
    exact (hdir g hi hd hv).trans (sameBut_get htaken g (by simp [hc, hs]) hi)
  · rw [activeEdge_rejected falling simRev h, get_irq _ _ g hi]
    exact get_set_other s _ g _ hc

/-- The input's memory after an accepted edge. -/
theorem whl_activeEdge (h : s.ratioRejects n stamp = false) :
    (s.activeEdge n stamp falling simRev).whl n = (s.takenEdge n stamp simRev).whl n := by
  obtain ⟨-, hwhls, -⟩ := deliverEdge_kept (n := n) (s := s.directed (s.takenEdge n stamp simRev) n stamp simRev) stamp falling simRev
  obtain ⟨-, hdir, -⟩ := directed_kept (n := n) (s := s) (s.takenEdge n stamp simRev) stamp simRev
  rw [activeEdge_accepted falling simRev h, State.whl, hwhls, hdir]
  rfl

theorem prevPeak_activeEdge : ((s.activeEdge n stamp falling simRev).whl n).prevPeak = (s.whl n).prevPeak := by
  cases h : s.ratioRejects n stamp
  · obtain ⟨c, i1, i2, p, hw⟩ := takenEdge_whl (n := n) (s := s) stamp simRev
    rw [whl_activeEdge falling simRev h, hw]
  · rw [activeEdge_rejected falling simRev h, State.whl, irq_whls]
    rfl

/-- A rejected edge counts, and goes no further (R36). -/
theorem activeEdge_rejects (hn : n < 4) (h : s.ratioRejects n stamp = true) :
    (s.activeEdge n stamp falling simRev).get (Fld.WHL_CNT_RATIO n) = (s.get (Fld.WHL_CNT_RATIO n) + 1) % 2 ^ (Fld.WHL_CNT_RATIO n).w ∧
    ((s.activeEdge n stamp falling simRev).whl n).stamp = (s.whl n).stamp ∧ (s.activeEdge n stamp falling simRev).trks = s.trks := by
  have hi : inIrqBlock (Fld.WHL_CNT_RATIO n).addr = false := inIrqBlock_above (by simp only [Fld.WHL_CNT_RATIO, Reg.WHL_CNT]; omega)
  rw [activeEdge_rejected falling simRev h]
  refine ⟨?_, ?_, ?_⟩
  · rw [get_irq _ _ _ hi]
    exact get_addWrap s _ 1 (show 24 + 8 ≤ 32 by decide)
  · rw [State.whl, irq_whls]
    rfl
  · rw [irq_trks]
    rfl

/-- An accepted edge: its stamp, its count, its measured pulse; the simulator stands (R33, R42). -/
theorem activeEdge_takes (hn : n < 4) (h : s.ratioRejects n stamp = false) :
    ((s.activeEdge n stamp falling simRev).whl n).stamp = stamp ∧
    ((s.activeEdge n stamp falling simRev).whl n).measuring = (decide (s.get (Fld.WHL_CFG_DIR_MODE n) = 2) && simRev.isNone) ∧
    (s.activeEdge n stamp falling simRev).get (Fld.WHL_CNT_ACCEPTED n) =
      (s.get (Fld.WHL_CNT_ACCEPTED n) + 1) % 2 ^ (Fld.WHL_CNT_ACCEPTED n).w ∧
    (s.activeEdge n stamp falling simRev).sim = s.sim := by
  have hi : inIrqBlock (Fld.WHL_CNT_ACCEPTED n).addr = false := inIrqBlock_above (by simp only [Fld.WHL_CNT_ACCEPTED, Reg.WHL_CNT]; omega)
  have hne : (Fld.WHL_CNT_ACCEPTED n).addr ≠ Reg.WHL_STAT n := by simp only [Fld.WHL_CNT_ACCEPTED, Reg.WHL_CNT, Reg.WHL_STAT]; omega
  obtain ⟨hregs, -, hsim, -⟩ := deliverEdge_kept (n := n) (s := s.directed (s.takenEdge n stamp simRev) n stamp simRev) stamp falling simRev
  obtain ⟨-, -, -, hdsim, hdir⟩ := directed_kept (n := n) (s := s) (s.takenEdge n stamp simRev) stamp simRev
  obtain ⟨-, -, htsim, hcnt, -⟩ := takenEdge_kept (s := s) hn stamp simRev
  obtain ⟨c, i1, i2, p, hw⟩ := takenEdge_whl (n := n) (s := s) stamp simRev
  refine ⟨by rw [whl_activeEdge falling simRev h, hw], by rw [whl_activeEdge falling simRev h, hw], ?_, ?_⟩
  · rw [activeEdge_accepted falling simRev h, State.get, State.word, hregs]
    exact (hdir _ hi (apart_of_addr hne (show 2 + 1 ≤ 32 by decide)) (apart_of_addr hne (show 3 + 1 ≤ 32 by decide))).trans hcnt
  · rw [activeEdge_accepted falling simRev h, hsim, hdsim, htsim]

/-- The direction that an accepted edge leaves (R40, R41). -/
theorem dir_activeEdge (hn : n < 4) (h : s.ratioRejects n stamp = false) :
    (∀ r, simRev = some r → (s.activeEdge n stamp falling simRev).flag (Fld.WHL_STAT_DIR n) = r) ∧
    (simRev = none → s.get (Fld.WHL_CFG_DIR_MODE n) = 0 → (s.activeEdge n stamp falling simRev).flag (Fld.WHL_STAT_DIR n) = false) ∧
    (simRev = none → s.get (Fld.WHL_CFG_DIR_MODE n) = 1 → (s.activeEdge n stamp falling simRev).flag (Fld.WHL_STAT_DIR n) =
      (!s.levelBeside n stamp != s.flag (Fld.WHL_CFG_DIR_INV n))) ∧
    (simRev = none → s.get (Fld.WHL_CFG_DIR_MODE n) = 2 →
      (s.activeEdge n stamp falling simRev).flag (Fld.WHL_STAT_DIR n) = s.flag (Fld.WHL_STAT_DIR n)) := by
  obtain ⟨t, ht⟩ : ∃ t, s.takenEdge n stamp simRev = t := ⟨_, rfl⟩
  have hdir : (s.activeEdge n stamp falling simRev).flag (Fld.WHL_STAT_DIR n) = (s.directed t n stamp simRev).flag (Fld.WHL_STAT_DIR n) := by
    obtain ⟨hregs, -⟩ := deliverEdge_kept (n := n) (s := s.directed t n stamp simRev) stamp falling simRev
    rw [activeEdge_accepted falling simRev h, ht, State.flag, State.get, State.word, hregs]
    rfl
  rw [hdir]
  refine ⟨?_, ?_, ?_, ?_⟩
  · rintro r rfl
    exact (setDir_flags hn r true).1
  · rintro rfl h0
    rw [State.directed, if_pos h0]
    exact (setDir_flags hn false false).1
  · rintro rfl h1
    rw [State.directed, if_neg (by rw [h1]; decide), if_pos h1]
    exact (setDir_flags hn _ true).1
  · rintro rfl h2
    have htaken := (takenEdge_kept (s := s) hn stamp none).2.2.2.2
    rw [State.directed, if_neg (by rw [h2]; decide), if_neg (by rw [h2]; decide), ← ht, State.flag,
      sameBut_get htaken _ (by simp [Fld.WHL_STAT_DIR, Reg.WHL_STAT, Reg.WHL_CNT, Reg.WHL_TSL]) (whlStat_free hn rfl)]
    rfl

/-- An accepted edge joins the queue of each tracker that follows its input, with the direction shown by its DIR_SRC (R43). -/
theorem crankQ_activeEdge (hn : n < 4) (h : s.ratioRejects n stamp = false) (hpass : s.edgesPass = true) (x : Fin 2) (hp : s.posRev x ≠ 0)
    (hx : s.get (Fld.WHL_WD_CFG_CRANK_IN x) = n) :
    ∃ e : WheelEdge, ((s.activeEdge n stamp falling none).trk x).crankQ = (s.trk x).crankQ ++ [e] ∧ e.stamp = stamp ∧ e.relabel = false ∧
      e.reverse = (s.activeEdge n stamp falling none).flag (Fld.WHL_STAT_DIR (s.get (Fld.WHL_WD_CFG_DIR_SRC x))) ∧
      e.win = s.get (Fld.WHL_WIN_WIN n) ∧ e.avail = s.edgeApplies n stamp := by
  obtain ⟨u, hu⟩ : ∃ u, s.directed (s.takenEdge n stamp none) n stamp none = u := ⟨_, rfl⟩
  obtain ⟨hdtrks, -, hdclk, -, hdget⟩ := directed_kept (n := n) (s := s) (s.takenEdge n stamp none) stamp none
  obtain ⟨httrks, htclk, -, -, htaken⟩ := takenEdge_kept (s := s) hn stamp none
  have hget : ∀ g : FReg, inIrqBlock g.addr = false → g.addr ≠ Reg.WHL_STAT n → g.addr ≠ Reg.WHL_CNT n → g.addr ≠ Reg.WHL_TSL n →
      u.get g = s.get g := by
    intro g hi hstat hcnt htsl
    rw [← hu, hdget g hi (apart_of_addr hstat (show 2 + 1 ≤ 32 by decide)) (apart_of_addr hstat (show 3 + 1 ≤ 32 by decide)),
      sameBut_get htaken g (by simp [hcnt, htsl]) hi]
  have hcfg : ∀ (y lo w : Nat), u.get ⟨Reg.WHL_WD_CFG y, lo, w⟩ = s.get ⟨Reg.WHL_WD_CFG y, lo, w⟩ := by
    intro y lo w
    refine hget _ (inIrqBlock_above ?_) ?_ ?_ ?_ <;>
      simp only [Reg.WHL_WD_CFG, Reg.WHL_STAT, Reg.WHL_CNT, Reg.WHL_TSL] <;> omega
  have hfilt : u.get (Fld.WHL_FILT_MIN_TIME n) = s.get (Fld.WHL_FILT_MIN_TIME n) := by
    refine hget _ (inIrqBlock_above ?_) ?_ ?_ ?_ <;>
      simp only [Fld.WHL_FILT_MIN_TIME, Reg.WHL_FILT, Reg.WHL_STAT, Reg.WHL_CNT, Reg.WHL_TSL] <;> omega
  have hwin : u.get (Fld.WHL_WIN_WIN n) = s.get (Fld.WHL_WIN_WIN n) := by
    refine hget _ (inIrqBlock_above ?_) ?_ ?_ ?_ <;>
      simp only [Fld.WHL_WIN_WIN, Reg.WHL_WIN, Reg.WHL_STAT, Reg.WHL_CNT, Reg.WHL_TSL] <;> omega
  have hgate : u.get Fld.CLK_GATE0_TRK = s.get Fld.CLK_GATE0_TRK := by
    refine hget _ (by decide) ?_ ?_ ?_ <;>
      simp only [Fld.CLK_GATE0_TRK, Reg.CLK_GATE0, Reg.WHL_STAT, Reg.WHL_CNT, Reg.WHL_TSL] <;> omega
  have hclk : u.clk = s.clk := by rw [← hu, hdclk, htclk]
  have htrk : u.trk x = s.trk x := by unfold State.trk; rw [← hu, hdtrks, httrks]
  have hupass : u.edgesPass = true := by
    unfold State.edgesPass State.flag at hpass ⊢
    rw [hgate, hclk]
    exact hpass
  have hedge := crankQ_deliverEdge (s := u) (n := n) stamp falling none hupass x ((hcfg x 0 11).trans_ne hp) ((hcfg x 16 2).trans hx)
  obtain ⟨hregs, -⟩ := deliverEdge_kept (n := n) (s := u) stamp falling none
  have hflag : ∀ f, (u.deliverEdge n stamp falling none).flag f = u.flag f := fun f => by unfold State.flag State.get State.word; rw [hregs]
  have hsrc : u.get (Fld.WHL_WD_CFG_DIR_SRC x) = s.get (Fld.WHL_WD_CFG_DIR_SRC x) := hcfg x 24 2
  rw [activeEdge_accepted falling none h, hu]
  simp only [Option.getD_none, htrk, hwin, State.edgeApplies, hfilt, hsrc] at hedge
  simp only [hflag, State.edgeApplies]
  exact hedge

end outcome

end active
-- ── A change of level at the pins (R30, R32, R35) ─────────────────────────────────────────────────────────────────

section pins
variable {n : Nat} {s t v w : State}

/-- The level at the pins of an input is outside: nothing else changes with it. -/
theorem setWheelPin_eq (l : Bool) : ∃ h, s.setWheelPin n l = { s with hst := h } := by
  unfold State.setWheelPin
  split
  · exact ⟨s.hst, rfl⟩
  · exact ⟨_, rfl⟩

theorem wheelPin_setWheelPin (l : Bool) : (s.setWheelPin n l).wheelPin n = l := by
  unfold State.setWheelPin
  split
  · next h => exact h
  · next h =>
    have hflip : (s.hst.wheelExt ^^^ 2 ^ n).testBit n = !s.wheelPin n := by
      rw [Nat.testBit_xor, Nat.testBit_two_pow_self]
      exact Bool.xor_true _
    rw [show State.wheelPin { s with hst := { s.hst with wheelExt := s.hst.wheelExt ^^^ 2 ^ n } } n =
      (s.hst.wheelExt ^^^ 2 ^ n).testBit n from rfl, hflip]
    cases hp : s.wheelPin n <;> cases l <;> simp_all

/-- What reads the same once the level outside has changed. -/
theorem setWheelPin_same (l : Bool) : (∀ f, (s.setWheelPin n l).get f = s.get f) ∧ (∀ m, (s.setWheelPin n l).whl m = s.whl m) ∧
    InputStep n s (s.setWheelPin n l) := by
  obtain ⟨h, hw⟩ := setWheelPin_eq (s := s) (n := n) l
  rw [hw]
  exact ⟨fun _ => rfl, fun _ => rfl, ⟨rfl, rfl, rfl, rfl, fun _ _ => rfl, rfl, rfl, rfl, rfl, rfl, sameBut_of_regs (sameBut_refl s _) rfl rfl⟩⟩

/-- The filters judge the change as before it. -/
theorem setWheelPin_judges (l : Bool) : (s.setWheelPin n l).isReturn n = s.isReturn n ∧
    (∀ held, (s.setWheelPin n l).glitches n held = s.glitches n held) ∧ ∀ rise, (s.setWheelPin n l).isActive n rise = s.isActive n rise := by
  obtain ⟨h, hw⟩ := setWheelPin_eq (s := s) (n := n) l
  rw [hw]
  exact ⟨rfl, fun _ => rfl, fun _ => rfl⟩

section change
variable {k held peak : Nat} {l : Bool}

/-- A level that changes at an input that is on and not simulated (R29, R32, R55). -/
theorem pinChange_live (hpin : v.wheelPin n = !l) (hg : v.flag Fld.CLK_GATE0_WHL = true) (hsim : v.simulated n = false) (hfe : v.frontEnd n ≠ 0) :
    v.pinChange n k l held peak = if v.frontEnd n = 1
      then (v.setWheelPin n l).vrEdge n (16 * v.tclk + k) (l != v.flag (Fld.WHL_CFG_POL n)) held peak
      else (v.setWheelPin n l).digitalEdge n (16 * v.tclk + k) (l != v.flag (Fld.WHL_CFG_POL n)) held := by
  obtain ⟨h, hw⟩ := setWheelPin_eq (s := v) (n := n) l
  have hne : v.wheelPin n ≠ l := by rw [hpin]; cases l <;> decide
  have hlive : ¬ ((!v.flag Fld.CLK_GATE0_WHL || decide (v.frontEnd n = 0) || v.simulated n) = true) := by simp [hg, hfe, hsim]
  unfold State.pinChange
  rw [if_neg hne, hw]
  exact if_neg hlive

variable (hpin : v.wheelPin n = !l) (hg : v.flag Fld.CLK_GATE0_WHL = true) (hsim : v.simulated n = false)
include hpin hg hsim

/-- The return of a dropped change comes to nothing (R35). -/
theorem pinChange_return (hfe : v.frontEnd n ≠ 0) (hr : v.isReturn n = true) : InputStep n v (v.pinChange n k l held peak) := by
  obtain ⟨hget, hwhl, hstep⟩ := setWheelPin_same (s := v) (n := n) l
  have hret : (v.setWheelPin n l).isReturn n = true := (setWheelPin_judges l).1.trans hr
  have htake : ∀ lv, InputStep n v (((v.setWheelPin n l).setLevel n lv).takeReturn n) := fun lv =>
    inputStep_setWhl (inputStep_setLevel hstep lv) _ rfl rfl rfl rfl
  rw [pinChange_live hpin hg hsim hfe]
  unfold State.vrEdge State.digitalEdge
  simp only [hret, if_true]
  exact inputStep_ite (htake _) (htake _)

/-- A level that stands too short is dropped, and its return with it (R35). -/
theorem pinChange_glitch (hfe : v.frontEnd n ≠ 0) (hr : v.isReturn n = false) (hheld : held < 4 * Nat.max 1 (v.get (Fld.WHL_FILT_MIN_TIME n))) :
    ∃ t, InputStep n v t ∧ v.pinChange n k l held peak = t.glitch n := by
  obtain ⟨hget, hwhl, hstep⟩ := setWheelPin_same (s := v) (n := n) l
  obtain ⟨hret, hgl, -⟩ := setWheelPin_judges (s := v) (n := n) l
  replace hret := hret.trans hr
  replace hgl : (v.setWheelPin n l).glitches n held = true := (hgl held).trans (decide_eq_true hheld)
  obtain ⟨u, hu⟩ : ∃ u, (v.setWheelPin n l).setLevel n (l != v.flag (Fld.WHL_CFG_POL n)) = u := ⟨_, rfl⟩
  have hustep : InputStep n v u := by rw [← hu]; exact inputStep_setLevel hstep _
  refine ⟨u.setWhl n { u.whl n with returnBy := u.tclk + held + 1 }, inputStep_setWhl hustep _ rfl rfl rfl rfl, ?_⟩
  rw [pinChange_live hpin hg hsim hfe]
  unfold State.vrEdge State.digitalEdge
  simp only [hret, hgl, Bool.false_eq_true, if_false, if_true, hu, ite_self]
  rfl

/-- An edge that the filters may take: the active edge of a digital input, or the end of an armed half-wave (R30, R32). -/
theorem pinChange_active (hn : n < 4) (hr : v.isReturn n = false) (hheld : 4 * Nat.max 1 (v.get (Fld.WHL_FILT_MIN_TIME n)) ≤ held)
    (hedge : (2 ≤ v.frontEnd n ∧ v.isActive n (l != v.flag (Fld.WHL_CFG_POL n)) = true) ∨
      (v.frontEnd n = 1 ∧ (l != v.flag (Fld.WHL_CFG_POL n)) = false ∧ v.flag (Fld.WHL_STAT_ARMED n) = true)) :
    ∃ t falling, v.pinChange n k l held peak = t.activeEdge n (16 * v.tclk + k) falling none ∧ InputStep n v t ∧
      t.flag (Fld.WHL_STAT_LEVEL n) = (l != v.flag (Fld.WHL_CFG_POL n)) ∧
      (v.frontEnd n = 1 → t.flag (Fld.WHL_STAT_ARMED n) = false ∧ t.get (Fld.WHL_STAT_PEAK n) = Nat.min 65535 peak ∧ (t.whl n).prevPeak = peak) := by
  obtain ⟨hget, hwhl, hstep⟩ := setWheelPin_same (s := v) (n := n) l
  obtain ⟨hret, hgl, hactive⟩ := setWheelPin_judges (s := v) (n := n) l
  replace hret := hret.trans hr
  replace hgl : (v.setWheelPin n l).glitches n held = false := (hgl held).trans (decide_eq_false (Nat.not_lt.mpr hheld))
  obtain ⟨u, hu⟩ : ∃ u, (v.setWheelPin n l).setLevel n (l != v.flag (Fld.WHL_CFG_POL n)) = u := ⟨_, rfl⟩
  have hustep : InputStep n v u := by rw [← hu]; exact inputStep_setLevel hstep _
  have hlevel : u.flag (Fld.WHL_STAT_LEVEL n) = (l != v.flag (Fld.WHL_CFG_POL n)) := by rw [← hu]; exact level_setLevel _
  rcases hedge with ⟨hfe, hact⟩ | ⟨hfe, hdown, harmed⟩
  · have h1 : v.frontEnd n ≠ 1 := by omega
    have hactw : (v.setWheelPin n l).isActive n (l != v.flag (Fld.WHL_CFG_POL n)) = true := (hactive _).trans hact
    refine ⟨u, !(l != v.flag (Fld.WHL_CFG_POL n)), ?_, hustep, hlevel, fun h => absurd h h1⟩
    rw [pinChange_live hpin hg hsim (by omega), if_neg h1]
    unfold State.digitalEdge
    simp only [hret, hgl, hactw, Bool.false_eq_true, if_false, if_true, hu]
  · have harmedu : u.flag (Fld.WHL_STAT_ARMED n) = true := by
      unfold State.flag at harmed ⊢
      rw [← hu, get_setLevel (by simp [fieldsApart, Fld.WHL_STAT_ARMED, Fld.WHL_STAT_LEVEL]), hget]
      exact harmed
    obtain ⟨hpstep, hdis, hpeak, hprev, hlev⟩ := vrPeak_shows hustep hn peak
    refine ⟨u.vrPeak n peak, true, ?_, hpstep, hlev.trans hlevel, fun _ => ⟨hdis, hpeak, hprev⟩⟩
    rw [pinChange_live hpin hg hsim (by omega), if_pos hfe]
    rw [hdown] at hu ⊢
    unfold State.vrEdge
    simp only [hret, hgl, Bool.false_eq_true, if_false, hu, harmedu, if_true]

/-- A change of a digital input that is no active edge may end a pulse (R32, R42). -/
theorem pinChange_idle (hr : v.isReturn n = false) (hheld : 4 * Nat.max 1 (v.get (Fld.WHL_FILT_MIN_TIME n)) ≤ held) (hfe : 2 ≤ v.frontEnd n)
    (hact : v.isActive n (l != v.flag (Fld.WHL_CFG_POL n)) = false) :
    ∃ t, InputStep n v t ∧ (t.whl n).measuring = (v.whl n).measuring ∧ v.pinChange n k l held peak = t.pulseEnd n (16 * v.tclk + k) := by
  obtain ⟨-, hwhl, hstep⟩ := setWheelPin_same (s := v) (n := n) l
  obtain ⟨hret, hgl, hactive⟩ := setWheelPin_judges (s := v) (n := n) l
  replace hret := hret.trans hr
  replace hgl : (v.setWheelPin n l).glitches n held = false := (hgl held).trans (decide_eq_false (Nat.not_lt.mpr hheld))
  replace hactive := (hactive (l != v.flag (Fld.WHL_CFG_POL n))).trans hact
  obtain ⟨b, a, hw⟩ := whl_setLevel (t := v.setWheelPin n l) (n := n) (l != v.flag (Fld.WHL_CFG_POL n))
  refine ⟨_, inputStep_setLevel hstep _, by rw [hw, hwhl], ?_⟩
  rw [pinChange_live hpin hg hsim (by omega), if_neg (by omega)]
  unfold State.digitalEdge
  simp only [hret, hgl, hactive, Bool.false_eq_true, if_false]

end change

-- The pulse's end (R42)

-- What a step at an input leaves of the configuration

section reads
variable (h : InputStep n s t) (m lo w : Nat)
include h

theorem reads_cfg : t.get ⟨Reg.WHL_CFG m, lo, w⟩ = s.get ⟨Reg.WHL_CFG m, lo, w⟩ :=
  inputStep_get h (by simp only [Reg.WHL_CFG, Reg.WHL_STAT]; omega) (inIrqBlock_above (by simp only [Reg.WHL_CFG]; omega))

theorem reads_pw : t.get ⟨Reg.WHL_PW m, lo, w⟩ = s.get ⟨Reg.WHL_PW m, lo, w⟩ :=
  inputStep_get h (by simp only [Reg.WHL_PW, Reg.WHL_STAT]; omega) (inIrqBlock_above (by simp only [Reg.WHL_PW]; omega))

theorem reads_filt : t.get ⟨Reg.WHL_FILT m, lo, w⟩ = s.get ⟨Reg.WHL_FILT m, lo, w⟩ :=
  inputStep_get h (by simp only [Reg.WHL_FILT, Reg.WHL_STAT]; omega) (inIrqBlock_above (by simp only [Reg.WHL_FILT]; omega))

theorem reads_win : t.get ⟨Reg.WHL_WIN m, lo, w⟩ = s.get ⟨Reg.WHL_WIN m, lo, w⟩ :=
  inputStep_get h (by simp only [Reg.WHL_WIN, Reg.WHL_STAT]; omega) (inIrqBlock_above (by simp only [Reg.WHL_WIN]; omega))

/-- The descriptions, the simulator and all that lies above them. -/
theorem reads_above (hn : n < 4) {a : Nat} (ha : 0x40080200 ≤ a) : t.get ⟨a, lo, w⟩ = s.get ⟨a, lo, w⟩ :=
  inputStep_get h (by simp only [Reg.WHL_STAT]; omega) (inIrqBlock_above (by dsimp only; omega))

theorem reads_gate0 : t.get ⟨Reg.CLK_GATE0, lo, w⟩ = s.get ⟨Reg.CLK_GATE0, lo, w⟩ :=
  inputStep_get h (by simp only [Reg.CLK_GATE0, Reg.WHL_STAT]; omega) (by decide : inIrqBlock Reg.CLK_GATE0 = false)

end reads

theorem flag_gate0 (h : InputStep n s t) : t.flag Fld.CLK_GATE0_WHL = s.flag Fld.CLK_GATE0_WHL := congrArg (· != 0) (reads_gate0 h 0 1)

theorem simulated_step (h : InputStep n s t) (hn : n < 4) : t.simulated n = s.simulated n := by
  have hctrl : ∀ lo w, t.get ⟨Reg.WHL_SIM_CTRL, lo, w⟩ = s.get ⟨Reg.WHL_SIM_CTRL, lo, w⟩ := fun lo w => reads_above h lo w hn (by decide)
  have hwd : ∀ y lo w, t.get ⟨Reg.WHL_WD_CFG y, lo, w⟩ = s.get ⟨Reg.WHL_WD_CFG y, lo, w⟩ := fun y lo w =>
    reads_above h lo w hn (by unfold Reg.WHL_WD_CFG; omega)
  have hfe : ∀ m, t.get ⟨Reg.WHL_CFG m, 0, 3⟩ = s.get ⟨Reg.WHL_CFG m, 0, 3⟩ := fun m => reads_cfg h m 0 3
  simp only [State.simulated, State.flag, State.frontEnd, Fld.WHL_SIM_CTRL_DESC, Fld.WHL_SIM_CTRL_EN, Fld.WHL_SIM_CTRL_DEPTH, Fld.WHL_WD_CFG_CRANK_IN,
    Fld.WHL_WD_CFG_CAM_IN, Fld.WHL_CFG_FE, hctrl, hwd, hfe]

/-- A change that ends no measured pulse moves the comparator alone. -/
theorem pulseEnd_idle (h : InputStep n s t) (hm : (t.whl n).measuring = false) (stamp : Nat) : InputStep n s (t.pulseEnd n stamp) := by
  have hlevel := inputStep_setLevel h (t.get (Fld.WHL_CFG_EDGE n) == 1)
  obtain ⟨b, a, hw⟩ := whl_setLevel (t := t) (n := n) (t.get (Fld.WHL_CFG_EDGE n) == 1)
  have hidle : ((t.setLevel n (t.get (Fld.WHL_CFG_EDGE n) == 1)).whl n).measuring = false := by rw [hw]; exact hm
  unfold State.pulseEnd
  dsimp only
  rw [hidle]
  exact inputStep_ite h (by simpa using hlevel)

/-- A direction change reaches the trackers alone (R43). -/
theorem deliverTurn_kept (stamp : Nat) (rev : Bool) : (∀ f, (s.deliverTurn n stamp rev).flag f = s.flag f) ∧
    ∀ m, (s.deliverTurn n stamp rev).whl m = s.whl m := by
  unfold State.deliverTurn
  simp only [List.range_succ, List.range_zero, List.nil_append, List.cons_append, List.foldl_cons, List.foldl_nil]
  split
  · exact ⟨fun _ => rfl, fun _ => rfl⟩
  split <;> split <;> exact ⟨fun _ => rfl, fun _ => rfl⟩

/-- The end of a pulse that is being measured, at an input that is on: its width, judged by PW_MAX and PW_SPLIT (R42). -/
theorem pulseEnd_measured (h : InputStep n s t) (hn : n < 4) (hg : s.flag Fld.CLK_GATE0_WHL = true) (hfe : s.frontEnd n ≠ 0)
    (hsim : s.simulated n = false) (hm : (t.whl n).measuring = true) (hmode : s.get (Fld.WHL_CFG_DIR_MODE n) = 2) (stamp : Nat) :
    (stamp - (s.whl n).stamp ≤ 6400 * s.get (Fld.WHL_PW_PW_MAX n) →
      (t.pulseEnd n stamp).flag (Fld.WHL_STAT_DIR n) =
        (decide (6400 * s.get (Fld.WHL_PW_PW_SPLIT n) ≤ stamp - (s.whl n).stamp) != s.flag (Fld.WHL_CFG_DIR_INV n)) ∧
      (t.pulseEnd n stamp).flag (Fld.WHL_STAT_DIR_VALID n) = true ∧ ((t.pulseEnd n stamp).whl n).measuring = false) ∧
    (6400 * s.get (Fld.WHL_PW_PW_MAX n) < stamp - (s.whl n).stamp →
      (t.pulseEnd n stamp).flag (Fld.WHL_STAT_PW_INVALID n) = true ∧ ((t.pulseEnd n stamp).whl n).measuring = false ∧
      (t.pulseEnd n stamp).flag (Fld.WHL_STAT_DIR n) = s.flag (Fld.WHL_STAT_DIR n)) := by
  obtain ⟨u, hu⟩ : ∃ u, t.setLevel n (t.get (Fld.WHL_CFG_EDGE n) == 1) = u := ⟨_, rfl⟩
  have hstep : InputStep n s u := by rw [← hu]; exact inputStep_setLevel h _
  obtain ⟨b, a, hw⟩ := whl_setLevel (t := t) (n := n) (t.get (Fld.WHL_CFG_EDGE n) == 1)
  have hmu : (u.whl n).measuring = true := by rw [← hu, hw]; exact hm
  have hgate : u.flag Fld.CLK_GATE0_WHL = true := (flag_gate0 hstep).trans hg
  have hlive : ¬ ((!u.flag Fld.CLK_GATE0_WHL || decide (u.frontEnd n = 0) || u.simulated n) = true) := by
    rw [hgate, simulated_step hstep hn, hsim, show u.frontEnd n = s.frontEnd n from reads_cfg hstep n 0 3]
    simp [hfe]
  have hwide : ¬ ((!(u.whl n).measuring || u.get (Fld.WHL_CFG_DIR_MODE n) != 2) = true) := by
    rw [hmu, show u.get (Fld.WHL_CFG_DIR_MODE n) = s.get (Fld.WHL_CFG_DIR_MODE n) from reads_cfg hstep n 8 2, hmode]
    decide
  rw [← hstep.stamp]
  obtain ⟨rev, hrev⟩ : ∃ rev, (decide (6400 * s.get (Fld.WHL_PW_PW_SPLIT n) ≤ stamp - (u.whl n).stamp) != s.flag (Fld.WHL_CFG_DIR_INV n)) = rev := ⟨_, rfl⟩
  have hinv : u.flag (Fld.WHL_CFG_DIR_INV n) = s.flag (Fld.WHL_CFG_DIR_INV n) := congrArg (· != 0) (reads_cfg hstep n 10 1)
  have hmax : u.get (Fld.WHL_PW_PW_MAX n) = s.get (Fld.WHL_PW_PW_MAX n) := reads_pw hstep n 8 8
  have hsplit : u.get (Fld.WHL_PW_PW_SPLIT n) = s.get (Fld.WHL_PW_PW_SPLIT n) := reads_pw hstep n 0 8
  obtain ⟨y, hy⟩ : ∃ y, (u.setWhl n { u.whl n with measuring := false }).setDir n rev true = y := ⟨_, rfl⟩
  have heq : t.pulseEnd n stamp = if 6400 * s.get (Fld.WHL_PW_PW_MAX n) < stamp - (u.whl n).stamp then u.pwInvalid n
      else if u.flag (Fld.WHL_STAT_DIR n) = rev then y else y.deliverTurn n (u.whl n).stamp rev := by
    unfold State.pulseEnd
    dsimp only
    rw [hu, if_neg hlive, if_neg hwide, hmax, hsplit, hinv]
    unfold us16
    rw [hrev, hy]
  have hown : ∀ w : WhlInput, (u.setWhl n w).whl n = w := fun w => (whl_setWhl u n n w).trans (if_pos rfl)
  rw [heq]
  refine ⟨fun hle => ?_, fun hlt => ?_⟩
  · obtain ⟨hdir, hvalid⟩ := setDir_flags (s := u.setWhl n { u.whl n with measuring := false }) hn rev true
    obtain ⟨-, hwhls, -⟩ := setDir_kept (n := n) (s := u.setWhl n { u.whl n with measuring := false }) rev true
    obtain ⟨hflag, hturn⟩ := deliverTurn_kept (n := n) (s := y) (u.whl n).stamp rev
    rw [hy] at hdir hvalid hwhls
    rw [Bool.true_or] at hvalid
    have hmeas : (y.whl n).measuring = false := by
      rw [State.whl, hwhls]
      exact congrArg WhlInput.measuring (hown _)
    rw [if_neg (Nat.not_lt.mpr hle), hrev]
    split
    · exact ⟨hdir, hvalid, hmeas⟩
    · rw [hflag, hflag, hturn]
      exact ⟨hdir, hvalid, hmeas⟩
  · rw [if_pos hlt]
    unfold State.pwInvalid
    refine ⟨flag_whlDiag hn rfl (show 12 + 1 ≤ 32 by decide) Nat.one_pos, ?_, ?_⟩
    · unfold State.whlDiag State.whl
      rw [irq_whls]
      exact congrArg WhlInput.measuring (hown _)
    · have hclear : InputStep n s (u.setWhl n { u.whl n with measuring := false }) := inputStep_setWhl hstep _ rfl rfl rfl rfl
      exact (inputStep_whlDiag hclear hn rfl (by simp [fieldsApart, Fld.WHL_STAT_PW_INVALID, Fld.WHL_STAT_DIR])).dir

end pins

-- ── The rows of the inputs (R30–R43) ──────────────────────────────────────────────────────────────────────────────

section inputRows
variable {s v : State} {dt : Nat} {n : Fin 4} (hv : s.advance dt = v)
include hv

theorem does_inputEdge {k : Fin 16} {l : Bool} {held peak : Nat} {q : State → Prop} (hq : q (v.pinChange n k l held peak)) :
    s.does (.inputEdge dt n k l held peak) q := ⟨v.pinChange n k l held peak, by rw [← hv]; rfl, hq⟩

section edges
variable {k : Fin 16} {l : Bool} {held peak : Nat} (hpin : v.wheelPin n = !l) (hg : v.flag Fld.CLK_GATE0_WHL = true)
  (hsim : v.simulated n = false)
include hpin hg hsim

/-- A glitch is dropped with its return (R35). -/
theorem does_inputGlitch (hr : v.isReturn n = false) (hheld : held < 4 * Nat.max 1 (v.get (Fld.WHL_FILT_MIN_TIME n))) (hfe : v.frontEnd n ≠ 0) :
    s.does (.inputEdge dt n k l held peak) (fun u =>
      u.get (Fld.WHL_CNT_GLITCH n) = (v.get (Fld.WHL_CNT_GLITCH n) + 2) % 2 ^ (Fld.WHL_CNT_GLITCH n).w ∧
      (u.whl n).stamp = (v.whl n).stamp ∧ u.trks = v.trks) := by
  obtain ⟨t, hstep, ht⟩ := pinChange_glitch (k := k) (peak := peak) hpin hg hsim hfe hr hheld
  have hi : inIrqBlock (Fld.WHL_CNT_GLITCH n).addr = false := inIrqBlock_above (by simp only [Fld.WHL_CNT_GLITCH, Reg.WHL_CNT]; omega)
  have hcnt : t.get (Fld.WHL_CNT_GLITCH n) = v.get (Fld.WHL_CNT_GLITCH n) :=
    inputStep_get hstep (by simp only [Fld.WHL_CNT_GLITCH, Reg.WHL_CNT, Reg.WHL_STAT]; omega) hi
  refine does_inputEdge hv ?_
  rw [ht]
  unfold State.glitch
  refine ⟨?_, ?_, ?_⟩
  · rw [get_irq _ _ _ hi, ← hcnt]
    exact get_addWrap t _ 2 (show 16 + 8 ≤ 32 by decide)
  · rw [← hstep.stamp, State.whl, irq_whls]
    rfl
  · rw [← hstep.trks, irq_trks]
    rfl

/-- The return of a dropped change (R35). -/
theorem does_inputReturn (hfe : v.frontEnd n ≠ 0) (hr : v.isReturn n = true) :
    s.does (.inputEdge dt n k l held peak) (fun u => u.trks = v.trks ∧ v.sameBut u [Reg.WHL_STAT n]) := by
  have hstep := pinChange_return (k := k) (held := held) (peak := peak) hpin hg hsim hfe hr
  exact does_inputEdge hv ⟨hstep.trks, hstep.regs⟩

/-- A change that is no active edge (R32). -/
theorem does_inputIdle (hr : v.isReturn n = false) (hheld : 4 * Nat.max 1 (v.get (Fld.WHL_FILT_MIN_TIME n)) ≤ held) (hfe : 2 ≤ v.frontEnd n)
    (hm : (v.whl n).measuring = false) (hact : v.isActive n (l != v.flag (Fld.WHL_CFG_POL n)) = false) :
    s.does (.inputEdge dt n k l held peak) (fun u => (u.whl n).stamp = (v.whl n).stamp ∧ u.trks = v.trks ∧ v.sameBut u [Reg.WHL_STAT n]) := by
  obtain ⟨t, hstep, hmt, ht⟩ := pinChange_idle (k := k) (peak := peak) hpin hg hsim hr hheld hfe hact
  have hidle := pulseEnd_idle hstep (hmt.trans hm) (16 * v.tclk + k)
  refine does_inputEdge hv ?_
  rw [ht]
  exact ⟨hidle.stamp, hidle.trks, hidle.regs⟩

variable (hr : v.isReturn n = false) (hheld : 4 * Nat.max 1 (v.get (Fld.WHL_FILT_MIN_TIME n)) ≤ held)
  (hedge : (2 ≤ v.frontEnd n ∧ v.isActive n (l != v.flag (Fld.WHL_CFG_POL n)) = true) ∨
    (v.frontEnd n = 1 ∧ (l != v.flag (Fld.WHL_CFG_POL n)) = false ∧ v.flag (Fld.WHL_STAT_ARMED n) = true))
include hr hheld hedge

/-- The half-wave of a VR input ends (R30). -/
theorem does_inputCrossing (hfe : v.frontEnd n = 1) : s.does (.inputEdge dt n k l held peak) (fun u => u.flag (Fld.WHL_STAT_ARMED n) = false ∧
    u.get (Fld.WHL_STAT_PEAK n) = Nat.min 65535 peak ∧ (u.whl n).prevPeak = peak) := by
  obtain ⟨t, falling, ht, -, -, hvr⟩ := pinChange_active (k := k) (peak := peak) hpin hg hsim n.isLt hr hheld hedge
  obtain ⟨harmed, hpeak, hprev⟩ := hvr hfe
  have hget : ∀ g : FReg, g.addr = Reg.WHL_STAT n → fieldsApart g (Fld.WHL_STAT_DIR n) = true → fieldsApart g (Fld.WHL_STAT_DIR_VALID n) = true →
      (t.activeEdge n (16 * v.tclk + k) falling none).get g = t.get g := fun g ha hd hvalid =>
    get_activeEdge falling none n.isLt (whlStat_free n.isLt ha) hd hvalid (by rw [ha]; simp only [Reg.WHL_STAT, Reg.WHL_CNT]; omega)
      (by rw [ha]; simp only [Reg.WHL_STAT, Reg.WHL_TSL]; omega)
  refine does_inputEdge hv ?_
  rw [ht]
  refine ⟨?_, ?_, (prevPeak_activeEdge falling none).trans hprev⟩
  · unfold State.flag at harmed ⊢
    rw [hget _ rfl (by simp [fieldsApart, Fld.WHL_STAT_ARMED, Fld.WHL_STAT_DIR]) (by simp [fieldsApart, Fld.WHL_STAT_ARMED, Fld.WHL_STAT_DIR_VALID])]
    exact harmed
  · rw [hget _ rfl (by simp [fieldsApart, Fld.WHL_STAT_PEAK, Fld.WHL_STAT_DIR]) (by simp [fieldsApart, Fld.WHL_STAT_PEAK, Fld.WHL_STAT_DIR_VALID])]
    exact hpeak

/-- The ratio filter rejects the edge (R36). -/
theorem does_inputRejected (hrat : v.ratioRejects n (16 * v.tclk + k) = true) : s.does (.inputEdge dt n k l held peak) (fun u =>
    u.get (Fld.WHL_CNT_RATIO n) = (v.get (Fld.WHL_CNT_RATIO n) + 1) % 2 ^ (Fld.WHL_CNT_RATIO n).w ∧
    (u.whl n).stamp = (v.whl n).stamp ∧ u.trks = v.trks) := by
  obtain ⟨t, falling, ht, hstep, -, -⟩ := pinChange_active (k := k) (peak := peak) hpin hg hsim n.isLt hr hheld hedge
  have hcnt : t.get (Fld.WHL_CNT_RATIO n) = v.get (Fld.WHL_CNT_RATIO n) :=
    inputStep_get hstep (by simp only [Fld.WHL_CNT_RATIO, Reg.WHL_CNT, Reg.WHL_STAT]; omega)
      (inIrqBlock_above (by simp only [Fld.WHL_CNT_RATIO, Reg.WHL_CNT]; omega))
  obtain ⟨hcount, hstamp, htrks⟩ := activeEdge_rejects falling none n.isLt ((ratioRejects_step hstep n.isLt _).trans hrat)
  refine does_inputEdge hv ?_
  rw [ht]
  exact ⟨by rw [hcount, hcnt], hstamp.trans hstep.stamp, htrks.trans hstep.trks⟩

/-- The edge passes the filters: it is stamped, counted, given its direction and delivered (R33, R40–R43). -/
theorem does_inputAccepted (hrat : v.ratioRejects n (16 * v.tclk + k) = false) : s.does (.inputEdge dt n k l held peak) (fun u =>
    (u.whl n).stamp = 16 * v.tclk + k ∧
    u.get (Fld.WHL_CNT_ACCEPTED n) = (v.get (Fld.WHL_CNT_ACCEPTED n) + 1) % 2 ^ (Fld.WHL_CNT_ACCEPTED n).w ∧
    (v.get (Fld.WHL_CFG_DIR_MODE n) = 0 → u.flag (Fld.WHL_STAT_DIR n) = false) ∧
    (v.get (Fld.WHL_CFG_DIR_MODE n) = 1 → (n = 0 ∨ n = 2) → (v.whl (n.val + 1)).levelAt ≠ v.tclk →
      u.flag (Fld.WHL_STAT_DIR n) = (!v.flag (Fld.WHL_STAT_LEVEL (n.val + 1)) != v.flag (Fld.WHL_CFG_DIR_INV n))) ∧
    (v.get (Fld.WHL_CFG_DIR_MODE n) = 2 → u.flag (Fld.WHL_STAT_DIR n) = v.flag (Fld.WHL_STAT_DIR n) ∧ (u.whl n).measuring = true) ∧
    u.flag (Fld.WHL_STAT_LEVEL n) = (l != v.flag (Fld.WHL_CFG_POL n)) ∧
    ∀ x : Fin 2, v.edgesPass = true → v.posRev x ≠ 0 → v.get (Fld.WHL_WD_CFG_CRANK_IN x) = n →
      ∃ e : WheelEdge, (u.trk x).crankQ = (v.trk x).crankQ ++ [e] ∧ e.stamp = 16 * v.tclk + k ∧ e.relabel = false ∧
        e.reverse = u.flag (Fld.WHL_STAT_DIR (v.get (Fld.WHL_WD_CFG_DIR_SRC x))) ∧ e.win = v.get (Fld.WHL_WIN_WIN n) ∧
        e.avail = v.tclk + 64 + 4 * v.get (Fld.WHL_FILT_MIN_TIME n)) := by
  obtain ⟨t, falling, ht, hstep, hlevel, -⟩ := pinChange_active (k := k) (peak := peak) hpin hg hsim n.isLt hr hheld hedge
  have hratt : t.ratioRejects n (16 * v.tclk + k) = false := (ratioRejects_step hstep n.isLt _).trans hrat
  have hdiv : (16 * v.tclk + k.val) / 16 = v.tclk := by omega
  have hcnt : t.get (Fld.WHL_CNT_ACCEPTED n) = v.get (Fld.WHL_CNT_ACCEPTED n) :=
    inputStep_get hstep (by simp only [Fld.WHL_CNT_ACCEPTED, Reg.WHL_CNT, Reg.WHL_STAT]; omega)
      (inIrqBlock_above (by simp only [Fld.WHL_CNT_ACCEPTED, Reg.WHL_CNT]; omega))
  have hmode : t.get (Fld.WHL_CFG_DIR_MODE n) = v.get (Fld.WHL_CFG_DIR_MODE n) := reads_cfg hstep n 8 2
  obtain ⟨hstamp, hmeas, hcount, -⟩ := activeEdge_takes falling none n.isLt hratt
  obtain ⟨-, hdir0, hdir1, hdir2⟩ := dir_activeEdge falling none n.isLt hratt
  refine does_inputEdge hv ?_
  rw [ht]
  refine ⟨hstamp, by rw [hcount, hcnt], fun h0 => hdir0 rfl (hmode.trans h0), fun h1 _ hat => ?_, fun h2 => ⟨?_, ?_⟩, ?_, fun x hpass hp hx => ?_⟩
  · have hbeside : t.levelBeside n (16 * v.tclk + k) = v.flag (Fld.WHL_STAT_LEVEL (n.val + 1)) := by
      unfold State.levelBeside
      dsimp only
      rw [hstep.others (n.val + 1) (by omega), hdiv, if_neg hat]
      unfold State.flag
      rw [inputStep_get hstep (by simp only [Fld.WHL_STAT_LEVEL, Reg.WHL_STAT]; omega)
        (inIrqBlock_above (by simp only [Fld.WHL_STAT_LEVEL, Reg.WHL_STAT]; omega))]
    rw [hdir1 rfl (hmode.trans h1), hbeside, show t.flag (Fld.WHL_CFG_DIR_INV n) = v.flag (Fld.WHL_CFG_DIR_INV n) from
      congrArg (· != 0) (reads_cfg hstep n 10 1)]
  · exact (hdir2 rfl (hmode.trans h2)).trans hstep.dir
  · rw [hmeas, hmode, h2]
    rfl
  · rw [← hlevel]
    unfold State.flag
    rw [get_activeEdge falling none n.isLt (whlStat_free n.isLt rfl) (by simp [fieldsApart, Fld.WHL_STAT_LEVEL, Fld.WHL_STAT_DIR])
      (by simp [fieldsApart, Fld.WHL_STAT_LEVEL, Fld.WHL_STAT_DIR_VALID]) (by simp only [Fld.WHL_STAT_LEVEL, Reg.WHL_STAT, Reg.WHL_CNT]; omega)
      (by simp only [Fld.WHL_STAT_LEVEL, Reg.WHL_STAT, Reg.WHL_TSL]; omega)]
  · have hwd : ∀ lo w, t.get ⟨Reg.WHL_WD_CFG x, lo, w⟩ = v.get ⟨Reg.WHL_WD_CFG x, lo, w⟩ := fun lo w =>
      reads_above hstep lo w n.isLt (by unfold Reg.WHL_WD_CFG; omega)
    have htpass : t.edgesPass = true := by
      rw [← hpass]
      unfold State.edgesPass
      rw [hstep.clk, show t.flag Fld.CLK_GATE0_TRK = v.flag Fld.CLK_GATE0_TRK from congrArg (· != 0) (reads_gate0 hstep _ _)]
    have hsrc : t.get (Fld.WHL_WD_CFG_DIR_SRC x) = v.get (Fld.WHL_WD_CFG_DIR_SRC x) := hwd 24 2
    have htrk : t.trk x = v.trk x := by unfold State.trk; rw [hstep.trks]
    have hwin : t.get (Fld.WHL_WIN_WIN n) = v.get (Fld.WHL_WIN_WIN n) := reads_win hstep n 0 22
    have hfilt : t.get (Fld.WHL_FILT_MIN_TIME n) = v.get (Fld.WHL_FILT_MIN_TIME n) := reads_filt hstep n 0 8
    have hedge' := crankQ_activeEdge falling n.isLt hratt htpass x ((hwd 0 11).trans_ne hp) ((hwd 16 2).trans hx)
    rw [htrk, hsrc, hwin, State.edgeApplies, hfilt, hdiv] at hedge'
    exact hedge'

end edges
end inputRows

section otherRows
variable {s v : State} {dt : Nat} {n : Fin 4} (hv : s.advance dt = v)
include hv

/-- An input that is off delivers nothing: the level outside alone changes (R29, R351). -/
theorem does_inputOff {k : Fin 16} {l : Bool} {held peak : Nat} (hoff : v.flag Fld.CLK_GATE0_WHL = false ∨ v.frontEnd n = 0) :
    s.does (.inputEdge dt n k l held peak) (fun u => u.wheelPin n = l ∧ u.trks = v.trks ∧ u.regs = v.regs) := by
  refine does_inputEdge hv ?_
  unfold State.pinChange
  split
  · next hp =>
    have hstays : ¬ ((v.flag Fld.CLK_GATE0_WHL && v.frontEnd n == 1 && !v.simulated n && (l != v.flag (Fld.WHL_CFG_POL n)) &&
        !v.flag (Fld.WHL_STAT_ARMED n) && v.arms n peak) = true) := by
      rcases hoff with h | h <;> simp [h]
    rw [State.vrRise, if_neg hstays]
    exact ⟨hp, rfl, rfl⟩
  · obtain ⟨h, hw⟩ := setWheelPin_eq (s := v) (n := n) l
    have hpin := wheelPin_setWheelPin (s := v) (n := n) l
    dsimp only
    rw [hw] at hpin ⊢
    have hoff' : (!State.flag { v with hst := h } Fld.CLK_GATE0_WHL || decide (State.frontEnd { v with hst := h } n = 0) ||
        State.simulated { v with hst := h } n) = true := by
      rcases hoff with h0 | h0
      · rw [show State.flag { v with hst := h } Fld.CLK_GATE0_WHL = v.flag Fld.CLK_GATE0_WHL from rfl, h0]
        rfl
      · rw [show State.frontEnd { v with hst := h } n = v.frontEnd n from rfl, h0]
        simp
    rw [if_pos hoff']
    exact ⟨hpin, rfl, rfl⟩

/-- A level that stands has no effect on an input that is no VR input. -/
theorem does_inputStands {k : Fin 16} {l : Bool} {held peak : Nat} (hp : v.wheelPin n = l) (hfe : v.frontEnd n ≠ 1) :
    s.does (.inputEdge dt n k l held peak) (fun u => u = v) := by
  refine does_inputEdge hv ?_
  have hstays : ¬ ((v.flag Fld.CLK_GATE0_WHL && v.frontEnd n == 1 && !v.simulated n && (l != v.flag (Fld.WHL_CFG_POL n)) &&
      !v.flag (Fld.WHL_STAT_ARMED n) && v.arms n peak) = true) := by
    simp [hfe]
  rw [State.pinChange, if_pos hp, State.vrRise, if_neg hstays]

/-- A VR input arms where its half-wave reaches the threshold (R30). -/
theorem does_inputArms {k : Fin 16} {l : Bool} {held peak : Nat} (hp : v.wheelPin n = l) (hfe : v.frontEnd n = 1)
    (hg : v.flag Fld.CLK_GATE0_WHL = true) (hsim : v.simulated n = false) (hup : (l != v.flag (Fld.WHL_CFG_POL n)) = true)
    (harmed : v.flag (Fld.WHL_STAT_ARMED n) = false) (hmin : v.vrMin n < peak)
    (hthr : v.get (Fld.WHL_CFG_THR_PCT n) * (v.whl n).prevPeak < 100 * peak) :
    s.does (.inputEdge dt n k l held peak) (fun u => u.flag (Fld.WHL_STAT_ARMED n) = true ∧ (u.whl n).armedAt = v.now ∧
      u.trks = v.trks ∧ v.sameBut u [Reg.WHL_STAT n]) := by
  have hrises : (v.flag Fld.CLK_GATE0_WHL && v.frontEnd n == 1 && !v.simulated n && (l != v.flag (Fld.WHL_CFG_POL n)) &&
      !v.flag (Fld.WHL_STAT_ARMED n) && v.arms n peak) = true := by
    simp [hg, hfe, hsim, hup, harmed, State.arms, hmin, hthr]
  have hstep : InputStep n v (v.arm n) := inputStep_arm (inputStep_refl n v)
  refine does_inputEdge hv ?_
  rw [State.pinChange, if_pos hp, State.vrRise, if_pos hrises]
  refine ⟨?_, ?_, hstep.trks, hstep.regs⟩
  · exact flag_setFlag v (Fld.WHL_STAT_ARMED n) true (show 1 + 1 ≤ 32 by decide) Nat.one_pos
  · exact congrArg WhlInput.armedAt ((whl_setWhl _ n n _).trans (if_pos rfl))

/-- The pulse that an input measures ends at its pins (R42, R43). -/
theorem does_pulseEnd {k : Fin 16} (hpin : v.wheelPin n ≠ ((v.get (Fld.WHL_CFG_EDGE n) == 1) != v.flag (Fld.WHL_CFG_POL n)))
    (hg : v.flag Fld.CLK_GATE0_WHL = true) (hfe : v.frontEnd n ≠ 0) (hsim : v.simulated n = false) (hm : (v.whl n).measuring = true)
    (hmode : v.get (Fld.WHL_CFG_DIR_MODE n) = 2) :
    (16 * v.tclk + k - (v.whl n).stamp ≤ 6400 * v.get (Fld.WHL_PW_PW_MAX n) → s.does (.pulseTrailingEdge dt n k) (fun u =>
      u.flag (Fld.WHL_STAT_DIR n) = (decide (6400 * v.get (Fld.WHL_PW_PW_SPLIT n) ≤ 16 * v.tclk + k - (v.whl n).stamp) !=
        v.flag (Fld.WHL_CFG_DIR_INV n)) ∧ u.flag (Fld.WHL_STAT_DIR_VALID n) = true ∧ (u.whl n).measuring = false)) ∧
    (6400 * v.get (Fld.WHL_PW_PW_MAX n) < 16 * v.tclk + k - (v.whl n).stamp → s.does (.pulseTrailingEdge dt n k) (fun u =>
      u.flag (Fld.WHL_STAT_PW_INVALID n) = true ∧ (u.whl n).measuring = false ∧ u.flag (Fld.WHL_STAT_DIR n) = v.flag (Fld.WHL_STAT_DIR n))) := by
  obtain ⟨back, hback⟩ : ∃ b, ((v.get (Fld.WHL_CFG_EDGE n) == 1) != v.flag (Fld.WHL_CFG_POL n)) = b := ⟨_, rfl⟩
  rw [hback] at hpin
  obtain ⟨-, hwhl, hstep⟩ := setWheelPin_same (s := v) (n := n) back
  have hrow : ∀ q : State → Prop, q ((v.setWheelPin n back).pulseEnd n (16 * v.tclk + k)) → s.does (.pulseTrailingEdge dt n k) q := by
    refine fun q hq => ⟨v.pulseReturn n (16 * v.tclk + k), by rw [← hv]; rfl, ?_⟩
    rw [State.pulseReturn, hback, if_neg hpin]
    exact hq
  obtain ⟨hin, hover⟩ := pulseEnd_measured hstep n.isLt hg hfe hsim (by rw [hwhl]; exact hm) hmode (16 * v.tclk + k)
  exact ⟨fun h => hrow _ (hin h), fun h => hrow _ (hover h)⟩

/-- The trailing edge does not come within PW_MAX (R42). -/
theorem does_pulseTimeout (hg : v.flag Fld.CLK_GATE0_WHL = true) (hfe : v.frontEnd n ≠ 0) (hsim : v.simulated n = false)
    (hmode : v.get (Fld.WHL_CFG_DIR_MODE n) = 2) (hm : (v.whl n).measuring = true)
    (hlate : 6400 * fieldOf (Fld.WHL_PW_PW_MAX n) (v.whl n).pw < 16 * v.tclk - (v.whl n).stamp) :
    s.does (.pulseWidthTimeout dt n) (fun u => u.flag (Fld.WHL_STAT_PW_INVALID n) = true ∧ (u.whl n).measuring = false ∧
      v.sameBut u [Reg.WHL_STAT n]) := by
  have hover : v.pulseOverdue n = true := by
    simp [State.pulseOverdue, us16, hg, hfe, hsim, hmode, hm, hlate]
  have hclear : InputStep n v (v.setWhl n { v.whl n with measuring := false }) := inputStep_setWhl (inputStep_refl n v) _ rfl rfl rfl rfl
  refine ⟨v.pwInvalid n, ?_, ?_⟩
  · change Host.Outcome.next (if (s.advance dt).pulseOverdue n then _ else _) = _
    rw [hv, if_pos hover]
  · refine ⟨flag_whlDiag n.isLt rfl (show 12 + 1 ≤ 32 by decide) Nat.one_pos, ?_,
      (inputStep_whlDiag hclear n.isLt rfl (by simp [fieldsApart, Fld.WHL_STAT_PW_INVALID, Fld.WHL_STAT_DIR])).regs⟩
    unfold State.pwInvalid State.whlDiag State.whl
    rw [irq_whls]
    exact congrArg WhlInput.measuring ((whl_setWhl v n n _).trans (if_pos rfl))

/-- In Frost such a pulse shows NODIR (R87). -/
theorem leaves_frostTimeout (hst : v.st = 1) (hg : v.flag Fld.CLK_GATE0_WHL = false) (hen : v.flag Fld.TRK_FROST_EN = true)
    (hin : v.get Fld.TRK_FROST_IN = n) (hfe : fieldOf (Fld.WHL_CFG_FE 0) v.pwr.frostCfg ≠ 0)
    (hmode : fieldOf (Fld.WHL_CFG_DIR_MODE 0) v.pwr.frostCfg = 2) :
    s.leaves (.pulseWidthTimeout dt n) (fun u => u.flag Fld.TRK_FCNT_NODIR = true ∧ v.sameBut u [Reg.TRK_FCNT]) := by
  have hnot : v.pulseOverdue n = false := by simp [State.pulseOverdue, hg]
  have hfrost : v.frostTimeout n = v.set Fld.TRK_FCNT_NODIR 1 := by
    rw [State.frostTimeout, if_pos (by simp [hst, hen, hin, hfe, hmode])]
  refine ⟨v.frostTimeout n, ?_, ?_⟩
  · change Host.Outcome.next (if (s.advance dt).pulseOverdue n then _ else _) = _
    rw [hv, if_neg (by rw [hnot]; decide)]
  · rw [hfrost]
    exact ⟨flag_set_one v (by decide) (by decide), sameBut_set (sameBut_refl v _) _ (by decide) 1⟩

-- VR diagnostics (R31, R52)

section vr
variable (hfe : v.frontEnd n = 1) (hg : v.flag Fld.CLK_GATE0_WHL = true)
include hfe hg

theorem does_vrPeakReset (h : v.passed (v.whl n).armedAt (200 * msTicks) = true) :
    s.does (.vrPeakReset dt n) (fun u => (u.whl n).prevPeak = 0 ∧ u.regs = v.regs) := by
  refine ⟨v.setWhl n { v.whl n with prevPeak := 0 }, ?_, congrArg WhlInput.prevPeak ((whl_setWhl v n n _).trans (if_pos rfl)), rfl⟩
  change Host.Outcome.next (if decide ((s.advance dt).frontEnd n = 1) && _ && _ then _ else _) = _
  rw [hv, if_pos (by simp [hfe, hg, h])]

theorem does_vrShort (mv long : Nat) {q : State → Prop}
    (hq : q ((v.whlReport n 9 (Fld.WHL_STAT_SHORT_GND n) (decide (mv < 500) && decide (msTicks ≤ long))).whlReport n 10
      (Fld.WHL_STAT_SHORT_BAT n) (decide (3000 < mv) && decide (msTicks ≤ long)))) : s.does (.vrShortDetect dt n mv long) q := by
  refine ⟨_, ?_, hq⟩
  change Host.Outcome.next (if (s.advance dt).frontEnd n != 1 || !(s.advance dt).flag Fld.CLK_GATE0_WHL then _ else _) = _
  rw [hv, if_neg (by simp [hfe, hg])]

theorem does_vrShorts (mv long : Nat) :
    (msTicks ≤ long → mv < 500 → s.does (.vrShortDetect dt n mv long) (fun u => u.flag (Fld.WHL_STAT_SHORT_GND n) = true ∧
      v.sameBut u [Reg.WHL_STAT n])) ∧
    (msTicks ≤ long → 3000 < mv → s.does (.vrShortDetect dt n mv long) (fun u => u.flag (Fld.WHL_STAT_SHORT_BAT n) = true ∧
      v.sameBut u [Reg.WHL_STAT n])) ∧
    ((500 ≤ mv ∧ mv ≤ 3000) ∨ long < msTicks → s.does (.vrShortDetect dt n mv long) (fun u => u.regs = v.regs)) := by
  have hfirst : ∀ b, InputStep n v (v.whlReport n 9 (Fld.WHL_STAT_SHORT_GND n) b) := fun b =>
    inputStep_whlReport (inputStep_refl n v) n.isLt 9 b rfl (by simp [fieldsApart, Fld.WHL_STAT_SHORT_GND, Fld.WHL_STAT_DIR])
  have hboth : ∀ b c, InputStep n v ((v.whlReport n 9 (Fld.WHL_STAT_SHORT_GND n) b).whlReport n 10 (Fld.WHL_STAT_SHORT_BAT n) c) := fun b c =>
    inputStep_whlReport (hfirst b) n.isLt 10 c rfl (by simp [fieldsApart, Fld.WHL_STAT_SHORT_BAT, Fld.WHL_STAT_DIR])
  refine ⟨fun hl hm => does_vrShort hv hfe hg mv long ⟨?_, (hboth _ _).regs⟩, fun hl hm => does_vrShort hv hfe hg mv long ⟨?_, (hboth _ _).regs⟩,
    fun hno => does_vrShort hv hfe hg mv long ?_⟩
  · have hgnd : (decide (mv < 500) && decide (msTicks ≤ long)) = true := by simp [hl, hm]
    unfold State.flag
    rw [hgnd, get_whlReport n.isLt 10 _ rfl (by simp [fieldsApart, Fld.WHL_STAT_SHORT_BAT, Fld.WHL_STAT_SHORT_GND])]
    exact flag_whlReport n.isLt 9 rfl (show 9 + 1 ≤ 32 by decide) Nat.one_pos
  · have hbat : (decide (3000 < mv) && decide (msTicks ≤ long)) = true := by simp [hl, hm]
    rw [hbat]
    exact flag_whlReport n.isLt 10 rfl (show 10 + 1 ≤ 32 by decide) Nat.one_pos
  · have hgnd : (decide (mv < 500) && decide (msTicks ≤ long)) = false := by
      rw [Bool.and_eq_false_iff, decide_eq_false_iff_not, decide_eq_false_iff_not]
      omega
    have hbat : (decide (3000 < mv) && decide (msTicks ≤ long)) = false := by
      rw [Bool.and_eq_false_iff, decide_eq_false_iff_not, decide_eq_false_iff_not]
      omega
    rw [hgnd, hbat]
    rfl

theorem does_vrOpen {mv : Nat} (h : v.passed (v.whl n).crossedAt (200 * msTicks) = true) :
    (1500 < mv → s.does (.vrOpenTest dt n mv) (fun u => u.flag (Fld.WHL_STAT_VR_OPEN n) = true ∧ v.sameBut u [Reg.WHL_STAT n])) ∧
    (mv ≤ 1500 → s.does (.vrOpenTest dt n mv) (fun u => u.regs = v.regs)) := by
  have hrow : exec (.vrOpenTest dt n mv) s = .next (if 1500 < mv then (v.whlCause n 8 (decide (1500 < mv))).whlDiag n (Fld.WHL_STAT_VR_OPEN n)
      else v.whlCause n 8 (decide (1500 < mv))).settle := by
    change Host.Outcome.next (if (s.advance dt).frontEnd n != 1 || !(s.advance dt).flag Fld.CLK_GATE0_WHL || _ then _ else _) = _
    rw [hv, if_neg (by simp [hfe, hg, h])]
    by_cases hm : 1500 < mv <;> simp [hm]
  have hcause : InputStep n v (v.whlCause n 8 (decide (1500 < mv))) := inputStep_whlCause (inputStep_refl n v) 8 _
  refine ⟨fun hm => ⟨_, hrow, ?_⟩, fun hm => ⟨_, hrow, ?_⟩⟩
  · rw [if_pos hm]
    exact ⟨flag_whlDiag n.isLt rfl (show 8 + 1 ≤ 32 by decide) Nat.one_pos,
      (inputStep_whlDiag hcause n.isLt rfl (by simp [fieldsApart, Fld.WHL_STAT_VR_OPEN, Fld.WHL_STAT_DIR])).regs⟩
  · rw [if_neg (by omega)]
    rfl

end vr
end otherRows

-- ── The rows of the simulator (R54–R56) ───────────────────────────────────────────────────────────────────────────

section simulated
variable {s v w : State} {d n stamp : Nat} {falling : Bool}

/-- A simulated edge that the filters take, and its direction, which the simulator gives (R55). -/
theorem simPut_shows (hn : n < 4) (hsim : w.simulated n = true) (hfe : 2 ≤ w.frontEnd n) (hgl : w.glitches n w.simPulse = false)
    (hact : w.isActive n (!falling) = true) (hrat : w.ratioRejects n stamp = false) :
    (w.simPut n d stamp falling).sim.behind = w.sim.behind ∧
    (w.simPut n d stamp falling).get (Fld.WHL_CNT_ACCEPTED n) = (w.get (Fld.WHL_CNT_ACCEPTED n) + 1) % 2 ^ (Fld.WHL_CNT_ACCEPTED n).w ∧
    ((w.simPut n d stamp falling).whl n).stamp = stamp ∧ (w.simPut n d stamp falling).flag (Fld.WHL_STAT_DIR n) = w.simRev ∧
    ∀ f : FReg, f.addr = Reg.WHL_SIM_FLT → (w.simPut n d stamp falling).get f = w.get f := by
  obtain ⟨x, hx⟩ : ∃ x, w.simPulseFrom n d falling = x := ⟨_, rfl⟩
  have hget : ∀ f, x.get f = w.get f := fun f => by rw [← hx]; rfl
  have hbehind : x.sim.behind = w.sim.behind := by rw [← hx]; rfl
  have hratx : x.ratioRejects n stamp = false := by rw [← hrat, ← hx]; rfl
  obtain ⟨t, ht⟩ : ∃ t, x.setLevel n (!falling) = t := ⟨_, rfl⟩
  have hstep : InputStep n x t := by rw [← ht]; exact inputStep_setLevel (inputStep_refl n x) _
  have hrev : x.simRev = w.simRev := by rw [← hx]; rfl
  have hanalog : w.simAnalog n = false := by
    have h1 : (w.frontEnd n == 1) = false := beq_eq_false_iff_ne.mpr (by omega)
    rw [State.simAnalog, h1, Bool.and_false]
  have hput : w.simPut n d stamp falling = t.activeEdge n stamp falling (some w.simRev) := by
    have hactx : x.isActive n (!falling) = true := by rw [← hact, ← hx]; rfl
    have hfex : (x.frontEnd n == 1) = false := beq_eq_false_iff_ne.mpr (by unfold State.frontEnd; rw [hget]; unfold State.frontEnd at hfe; omega)
    unfold State.simPut
    rw [if_neg (by omega), hanalog, if_neg (by decide), hsim, if_neg (by decide), hgl, if_neg (by decide), hx, State.simLevel, hfex, ht, hrev]
    simp only [Bool.false_eq_true, if_false, hactx, if_true]
  have hratt : t.ratioRejects n stamp = false := (ratioRejects_step hstep hn stamp).trans hratx
  obtain ⟨hstamp, -, hcount, hsimk⟩ := activeEdge_takes falling (some w.simRev) hn hratt
  have hcnt : t.get (Fld.WHL_CNT_ACCEPTED n) = w.get (Fld.WHL_CNT_ACCEPTED n) :=
    (inputStep_get hstep (by simp only [Fld.WHL_CNT_ACCEPTED, Reg.WHL_CNT, Reg.WHL_STAT]; omega)
      (inIrqBlock_above (by simp only [Fld.WHL_CNT_ACCEPTED, Reg.WHL_CNT]; omega))).trans (hget _)
  rw [hput]
  refine ⟨by rw [hsimk, hstep.sim, hbehind], by rw [hcount, hcnt], hstamp, (dir_activeEdge falling _ hn hratt).1 _ rfl, fun f hf => ?_⟩
  have hne : ∀ a, a < 0x40080200 → f.addr ≠ a := fun a ha => by rw [hf]; unfold Reg.WHL_SIM_FLT; omega
  have hstat : f.addr ≠ Reg.WHL_STAT n := hne _ (by unfold Reg.WHL_STAT; omega)
  have hirq : inIrqBlock f.addr = false := inIrqBlock_above (by rw [hf]; decide)
  rw [get_activeEdge falling _ hn hirq (apart_of_addr hstat (show 2 + 1 ≤ 32 by decide)) (apart_of_addr hstat (show 3 + 1 ≤ 32 by decide))
    (hne _ (by unfold Reg.WHL_CNT; omega)) (hne _ (by unfold Reg.WHL_TSL; omega)), inputStep_get hstep hstat hirq, hget]

/-- The first thing that a passing tooth does: its edge, or the gap that DROP makes of it (R56). -/
def State.toothOrGap (s : State) (d stamp : Nat) : State :=
  let n := s.get (Fld.WHL_WD_CFG_CRANK_IN s.simX)
  let left := if s.sim.dropLeft = 0 then Nat.max 1 (s.get Fld.WHL_SIM_FLT_DROP_N) else s.sim.dropLeft
  if s.flag Fld.WHL_SIM_FLT_DROP then
    (let s0 := { s with sim := { s.sim with dropLeft := left - 1 } }
     if left = 1 then s0.simDone Fld.WHL_SIM_FLT_DROP else s0)
  else s.simPut n d stamp (s.crankFalls n)

/-- Where neither EXTRA nor FLIP stands, that is all that it does. -/
theorem simTooth_unturned (he : (w.toothOrGap d stamp).flag Fld.WHL_SIM_FLT_EXTRA = false)
    (hf : (w.toothOrGap d stamp).flag Fld.WHL_SIM_FLT_FLIP = false) (i : Nat) : w.simTooth i d stamp = w.toothOrGap d stamp := by
  unfold State.simTooth
  extract_lets x n drop left sim s0 s1 j span half here sim' s2
  have hs1 : s1 = w.toothOrGap d stamp := rfl
  have hs2 : s2 = w.toothOrGap d stamp := by
    rw [← hs1]
    exact if_neg (by rw [hs1, he]; simp)
  rw [hs2, if_neg (by rw [hf]; decide)]

/-- The crank edge is active at its input, by the polarity that EDGE gives it (R32). -/
theorem crankFalls_active (hfe : 2 ≤ w.frontEnd n) (he : w.get (Fld.WHL_CFG_EDGE n) ≤ 2) : w.isActive n (!w.crankFalls n) = true := by
  have h1 : (w.frontEnd n == 1) = false := beq_eq_false_iff_ne.mpr (by omega)
  rw [State.isActive, State.crankFalls, h1, Bool.false_or]
  obtain ⟨e, hee⟩ : ∃ e, w.get (Fld.WHL_CFG_EDGE n) = e := ⟨_, rfl⟩
  rw [hee] at he ⊢
  match e, he with
  | 0, _ => rfl
  | 1, _ => rfl
  | 2, _ => rfl

/-- The crossing that lies alone at its distance is passed. -/
theorem simEdge_one {m : SimMark} (hd : v.simNext = some d) (hm : v.simHere d = [m]) :
    v.simEdge = State.simMark { v with sim := { v.sim with behind := d } } d
      (16 * v.tclk - (if v.simRate = 0 then 0 else divRound (16 * d) v.simRate)) m := by
  unfold State.simEdge
  rw [hd]
  dsimp only
  rw [hm]
  rfl

theorem sameBut_trans {u : State} {l : List Nat} (h : s.sameBut w l) (k : w.sameBut u l) : s.sameBut u l :=
  ⟨fun a ha hi => (k.1 a ha hi).trans (h.1 a ha hi), fun a => (k.2 a).trans (h.2 a)⟩

/-- A request that is done leaves its register alone, and the inputs and trackers alone (R56). -/
theorem simDone_kept {f : FReg} (hf : f.addr = Reg.WHL_SIM_FLT) : (w.simDone f).sim.behind = w.sim.behind ∧ (w.simDone f).whls = w.whls ∧
    (w.simDone f).trks = w.trks ∧ w.sameBut (w.simDone f) [Reg.WHL_SIM_FLT] ∧ ∀ g, fieldsApart g f = true → (w.simDone f).flag g = w.flag g := by
  unfold State.simDone
  split
  · exact ⟨rfl, rfl, rfl, sameBut_of_regs (sameBut_refl w _) rfl rfl, fun _ _ => rfl⟩
  · exact ⟨rfl, rfl, rfl, sameBut_set (sameBut_refl w _) f (by rw [hf]; exact List.mem_singleton_self _) _, fun g hg => flag_set_apart w _ hg⟩

/-- The gap that DROP makes of a tooth (R56). -/
theorem gap_kept (hdrop : w.flag Fld.WHL_SIM_FLT_DROP = true) : (w.toothOrGap d stamp).sim.behind = w.sim.behind ∧
    (w.toothOrGap d stamp).whls = w.whls ∧ (w.toothOrGap d stamp).trks = w.trks ∧ w.sameBut (w.toothOrGap d stamp) [Reg.WHL_SIM_FLT] ∧
    ∀ g, fieldsApart g Fld.WHL_SIM_FLT_DROP = true → (w.toothOrGap d stamp).flag g = w.flag g := by
  unfold State.toothOrGap
  extract_lets n left sim s0
  have h0 : w.sameBut s0 [Reg.WHL_SIM_FLT] := sameBut_of_regs (sameBut_refl w _) rfl rfl
  rw [if_pos hdrop]
  split
  · obtain ⟨hb, hw, ht, hs, hg⟩ := simDone_kept (w := s0) (f := Fld.WHL_SIM_FLT_DROP) rfl
    exact ⟨hb, hw, ht, sameBut_trans h0 hs, hg⟩
  · exact ⟨rfl, rfl, rfl, h0, fun _ _ => rfl⟩

section rows
variable {dt : Nat} (hv : s.advance dt = v)
include hv

theorem does_simEdge {q : State → Prop} (hruns : v.simRuns = true) (hq : q v.simEdge) : s.does (.simEdge dt) q := by
  refine ⟨v.simEdge, ?_, hq⟩
  change Host.Outcome.next (if (s.advance dt).simRuns then _ else _) = _
  rw [hv, if_pos hruns]

theorem does_simNone (hruns : v.simRuns = true) (hnone : v.simNext = none) : s.does (.simEdge dt) (fun u => u = v) := by
  refine does_simEdge hv hruns ?_
  unfold State.simEdge
  rw [hnone]

/-- A crossing behind the simulated angle produces its edge (R54, R55). -/
theorem does_simPasses (hruns : v.simRuns = true) {m : SimMark} (hd : v.simNext = some d) (hm : v.simHere d = [m])
    (hmark : ((∃ i, m = .tooth i ∧ v.flag Fld.WHL_SIM_FLT_DROP = false ∧ v.flag Fld.WHL_SIM_FLT_EXTRA = false ∧ v.flag Fld.WHL_SIM_FLT_FLIP = false) ∨
        m = .extraTooth) ∧ n = v.get (Fld.WHL_WD_CFG_CRANK_IN v.simX) ∧ v.get (Fld.WHL_CFG_EDGE n) ≤ 2 ∨
      (∃ f, m = .cam f ∧ v.isActive n (!f) = true) ∧ n = v.get (Fld.WHL_WD_CFG_CAM_IN v.simX))
    (hsim : v.simulated n = true) (hfe : 2 ≤ v.frontEnd n) (hgl : v.glitches n v.simPulse = false)
    (hrat : v.ratioRejects n (16 * v.tclk - (if v.simRate = 0 then 0 else divRound (16 * d) v.simRate)) = false) :
    s.does (.simEdge dt) (fun u => u.sim.behind = d ∧
      u.get (Fld.WHL_CNT_ACCEPTED n) = (v.get (Fld.WHL_CNT_ACCEPTED n) + 1) % 2 ^ (Fld.WHL_CNT_ACCEPTED n).w ∧
      (u.whl n).stamp = 16 * v.tclk - (if v.simRate = 0 then 0 else divRound (16 * d) v.simRate) ∧
      u.flag (Fld.WHL_STAT_DIR n) = v.simRev) := by
  have hn : n < 4 := by
    rcases hmark with ⟨-, hcrank, -⟩ | ⟨-, hcam⟩
    · rw [hcrank]; exact fieldOf_lt _ _
    · rw [hcam]; exact fieldOf_lt _ _
  obtain ⟨w, hw⟩ : ∃ w, ({ v with sim := { v.sim with behind := d } } : State) = w := ⟨_, rfl⟩
  have hget : ∀ f, w.get f = v.get f := fun f => by rw [← hw]; rfl
  have hflag : ∀ f, w.flag f = v.flag f := fun f => by rw [← hw]; rfl
  have hfew : 2 ≤ w.frontEnd n := by unfold State.frontEnd; rw [hget]; exact hfe
  have hputs : ∀ (stamp : Nat) (falling : Bool), w.ratioRejects n stamp = false → w.isActive n (!falling) = true → _ := fun stamp falling hr hact =>
    simPut_shows (w := w) (d := d) (stamp := stamp) hn (by rw [← hw]; exact hsim) hfew (by rw [← hw]; exact hgl) hact hr
  have hx : w.simX = v.simX := hget _
  have hrev : w.simRev = v.simRev := hflag _
  have hbehind : w.sim.behind = d := by rw [← hw]
  refine does_simEdge hv hruns ?_
  rw [simEdge_one hd hm, hw]
  obtain ⟨stamp, hs⟩ : ∃ x, 16 * v.tclk - (if v.simRate = 0 then 0 else divRound (16 * d) v.simRate) = x := ⟨_, rfl⟩
  rw [hs] at hrat ⊢
  have hratw : w.ratioRejects n stamp = false := by rw [← hw]; exact hrat
  rcases hmark with ⟨htooth, hcrank, hedge⟩ | ⟨⟨f, rfl, hact⟩, hcam⟩
  · have hcrankw : w.get (Fld.WHL_WD_CFG_CRANK_IN w.simX) = n := by rw [hx, hget, hcrank]
    have hact : w.isActive n (!w.crankFalls n) = true := crankFalls_active hfew (by rw [hget]; exact hedge)
    obtain ⟨hb, hcount, hstamp, hdir, hflt⟩ := hputs stamp _ hratw hact
    rw [hbehind] at hb
    rw [hget] at hcount
    rw [hrev] at hdir
    have hmark : w.simMark d stamp m = w.simPut n d stamp (w.crankFalls n) := by
      rcases htooth with ⟨i, rfl, hdrop, hextra, hflip⟩ | rfl
      · have hput : w.toothOrGap d stamp = w.simPut n d stamp (w.crankFalls n) := by
          unfold State.toothOrGap
          dsimp only
          rw [hflag, hdrop, if_neg (by decide), hcrankw]
        have hkeep : ∀ g : FReg, g.addr = Reg.WHL_SIM_FLT → (w.toothOrGap d stamp).flag g = v.flag g := fun g hg => by
          rw [hput, ← hflag]
          exact congrArg (· != 0) (hflt g hg)
        exact (simTooth_unturned ((hkeep _ rfl).trans hextra) ((hkeep _ rfl).trans hflip) i).trans hput
      · unfold State.simMark
        dsimp only
        rw [hcrankw]
    rw [hmark]
    exact ⟨hb, hcount, hstamp, hdir⟩
  · have hcamw : w.get (Fld.WHL_WD_CFG_CAM_IN w.simX) = n := by rw [hx, hget, hcam]
    obtain ⟨hb, hcount, hstamp, hdir, -⟩ := hputs stamp f hratw (by rw [← hw]; exact hact)
    rw [hbehind] at hb
    rw [hget] at hcount
    rw [hrev] at hdir
    unfold State.simMark
    rw [hcamw]
    exact ⟨hb, hcount, hstamp, hdir⟩

/-- DROP omits the tooth (R56). -/
theorem does_simGap (hruns : v.simRuns = true) {i : Nat} (hd : v.simNext = some d) (hm : v.simHere d = [.tooth i])
    (hdrop : v.flag Fld.WHL_SIM_FLT_DROP = true) (hextra : v.flag Fld.WHL_SIM_FLT_EXTRA = false) (hflip : v.flag Fld.WHL_SIM_FLT_FLIP = false) :
    s.does (.simEdge dt) (fun u => u.sim.behind = d ∧ u.whls = v.whls ∧ u.trks = v.trks ∧ v.sameBut u [Reg.WHL_SIM_FLT]) := by
  obtain ⟨w, hw⟩ : ∃ w, ({ v with sim := { v.sim with behind := d } } : State) = w := ⟨_, rfl⟩
  have hflag : ∀ f, w.flag f = v.flag f := fun f => by rw [← hw]; rfl
  have hsame : v.sameBut w [Reg.WHL_SIM_FLT] := by rw [← hw]; exact sameBut_of_regs (sameBut_refl v _) rfl rfl
  have hparts : w.sim.behind = d ∧ w.whls = v.whls ∧ w.trks = v.trks := by rw [← hw]; exact ⟨rfl, rfl, rfl⟩
  obtain ⟨wb, ww, wt⟩ := hparts
  refine does_simEdge hv hruns ?_
  rw [simEdge_one hd hm, hw]
  obtain ⟨stamp, hs⟩ : ∃ x, 16 * v.tclk - (if v.simRate = 0 then 0 else divRound (16 * d) v.simRate) = x := ⟨_, rfl⟩
  rw [hs]
  obtain ⟨hb, hwhls, htrks, hregs, hflags⟩ := gap_kept (d := d) (stamp := stamp) ((hflag _).trans hdrop)
  have htooth : w.simMark d stamp (.tooth i) = w.toothOrGap d stamp :=
    simTooth_unturned (((hflags _ (by decide)).trans (hflag _)).trans hextra) (((hflags _ (by decide)).trans (hflag _)).trans hflip) i
  rw [htooth]
  exact ⟨hb.trans wb, hwhls.trans ww, htrks.trans wt, sameBut_trans hsame hregs⟩

/-- Every 2^16 ticks the rate moves by ACC toward TGT (R54). -/
theorem does_simRateStep (hon : v.simOn = true) (hat : v.sim.stepAt + 65536 ≤ v.tclk) :
    s.does (.simRateStep dt) (fun u => u.sim.stepAt = v.sim.stepAt + 65536 ∧
      u.get Fld.WHL_SIM_RATE_RATE = (if v.get Fld.WHL_SIM_RATE_RATE < v.get Fld.WHL_SIM_TGT_TGT
        then Nat.min (v.get Fld.WHL_SIM_TGT_TGT) (v.get Fld.WHL_SIM_RATE_RATE + v.get Fld.WHL_SIM_ACC_ACC)
        else Nat.max (v.get Fld.WHL_SIM_TGT_TGT) (v.get Fld.WHL_SIM_RATE_RATE - v.get Fld.WHL_SIM_ACC_ACC)) ∧
      v.sameBut u [Reg.WHL_SIM_RATE]) := by
  have hr : v.get Fld.WHL_SIM_RATE_RATE < 2 ^ 32 := fieldOf_lt _ _
  have htgt : v.get Fld.WHL_SIM_TGT_TGT < 2 ^ 32 := fieldOf_lt _ _
  obtain ⟨x, hx⟩ : ∃ x, (if v.get Fld.WHL_SIM_RATE_RATE < v.get Fld.WHL_SIM_TGT_TGT
      then Nat.min (v.get Fld.WHL_SIM_TGT_TGT) (v.get Fld.WHL_SIM_RATE_RATE + v.get Fld.WHL_SIM_ACC_ACC)
      else Nat.max (v.get Fld.WHL_SIM_TGT_TGT) (v.get Fld.WHL_SIM_RATE_RATE - v.get Fld.WHL_SIM_ACC_ACC)) = x := ⟨_, rfl⟩
  have hfits : x < 2 ^ 32 := by
    rw [← hx]
    split
    · exact Nat.lt_of_le_of_lt (Nat.min_le_left _ _) htgt
    · exact Nat.max_lt.mpr ⟨htgt, Nat.lt_of_le_of_lt (Nat.sub_le _ _) hr⟩
  obtain ⟨w, hw⟩ : ∃ w, ({ v with sim := { v.sim with stepAt := v.sim.stepAt + 65536 } } : State) = w := ⟨_, rfl⟩
  have hstep : v.simStep = w.set Fld.WHL_SIM_RATE_RATE x := by
    rw [State.simStep, if_pos (by simp [hon, hat])]
    dsimp only [State.simRate]
    rw [hx, hw]
  refine ⟨v.simStep, ?_, ?_⟩
  · change Host.Outcome.next (if (s.advance dt).simOn then _ else _) = _
    rw [hv, if_pos hon]
  · rw [hstep, hx]
    refine ⟨by rw [← hw]; rfl, ?_, sameBut_set (by rw [← hw]; exact sameBut_of_regs (sameBut_refl v _) rfl rfl) _ (by decide) x⟩
    rw [get_set w _ x (by decide)]
    exact Nat.mod_eq_of_lt hfits

end rows
end simulated

/-- Settles O46, row by row: the inputs' edges by what each step at an input leaves, the simulator by the mark that it passes. -/
theorem wheelRows : Obligations.WheelRows := by
  unfold Obligations.WheelRows
  refine ⟨fun s v dt n hv => ⟨fun k l held peak hpin hg hsim hr => ⟨?_, fun hheld hedge => ⟨?_, ?_, ?_⟩, ?_⟩, ?_, ?_, ?_, ?_, ?_, ?_, ?_⟩,
    fun s v dt hv hruns => ⟨?_, ?_, ?_⟩, fun s v dt hv hon hat => does_simRateStep hv hon hat⟩
  · exact does_inputGlitch hv hpin hg hsim hr
  · exact does_inputCrossing hv hpin hg hsim hr hheld hedge
  · exact does_inputRejected hv hpin hg hsim hr hheld hedge
  · exact does_inputAccepted hv hpin hg hsim hr hheld hedge
  · exact does_inputIdle hv hpin hg hsim hr
  · exact fun k l held peak hpin hg hfe hsim => does_inputReturn hv hpin hg hsim hfe
  · exact fun k l held peak => does_inputOff hv
  · exact fun k l held peak hp => ⟨does_inputStands hv hp, does_inputArms hv hp⟩
  · exact fun k => does_pulseEnd hv
  · exact does_pulseTimeout hv
  · exact leaves_frostTimeout hv
  · exact fun hfe hg => ⟨does_vrPeakReset hv hfe hg, fun mv long => does_vrShorts hv hfe hg mv long, fun mv => does_vrOpen hv hfe hg⟩
  · exact does_simNone hv hruns
  · exact fun d n m => does_simPasses hv hruns
  · exact fun d i => does_simGap hv hruns


end Sys2Proof.Machine

/-! PROOFS. Crank, cam and missing edges at a tracker, and its stop (O47). -/

namespace Sys2Proof.Machine

-- ── What a tracker's operations leave: its queues, and fields of a list ───────────────────────────────────────────

/-- Edges that wait at tracker `x` wait on, and the fields of `l` stand. -/
structure TrkKept (l : List FReg) (x : Nat) (s t : State) : Prop where
  crankQ : (t.trk x).crankQ = (s.trk x).crankQ
  camQ : (t.trk x).camQ = (s.trk x).camQ
  fields : ∀ g ∈ l, t.get g = s.get g

/-- Fields of a tracker that a change of its state leaves. -/
def edgeFields (x : Nat) : List FReg := [Fld.TRK_STAT_DIR x, Fld.TRK_POS_NEXT x, Fld.TRK_STAT_PRESET_MISS x, Fld.TRK_STAT_CAM_MISSING x,
  Fld.TRK_CNT_MISS x, Fld.TRK_CNT_CAMERR x]

/-- These and the state: what prediction, learning and the voter leave. -/
def stateFields (x : Nat) : List FReg := Fld.TRK_STAT_STATE x :: edgeFields x

theorem edgeFields_subset (x : Nat) : edgeFields x ⊆ stateFields x := List.subset_cons_self _ _

theorem stateFields_free : ∀ x : Fin 2, ∀ g ∈ stateFields x, inIrqBlock g.addr = false := by decide

section kept
variable {l m : List FReg} {x : Nat} {s t u : State}

theorem trkKept_refl (l : List FReg) (x : Nat) (s : State) : TrkKept l x s s := ⟨rfl, rfl, fun _ _ => rfl⟩

theorem trkKept_trans (h : TrkKept l x s t) (k : TrkKept l x t u) : TrkKept l x s u :=
  ⟨k.crankQ.trans h.crankQ, k.camQ.trans h.camQ, fun g hg => (k.fields g hg).trans (h.fields g hg)⟩

theorem trkKept_mono (h : TrkKept l x s t) (hm : m ⊆ l) : TrkKept m x s t := ⟨h.crankQ, h.camQ, fun g hg => h.fields g (hm hg)⟩

theorem trkKept_ite {c : Prop} [Decidable c] (ht : TrkKept l x s t) (hu : TrkKept l x s u) : TrkKept l x s (if c then t else u) := by
  split
  · exact ht
  · exact hu

theorem trkKept_of_eq (h : TrkKept l x s t) (ht : u.trks = t.trks) (hr : u.regs = t.regs) : TrkKept l x s u := by
  have htrk : u.trk x = t.trk x := by unfold State.trk; rw [ht]
  refine ⟨htrk ▸ h.crankQ, htrk ▸ h.camQ, fun g hg => ?_⟩
  rw [← h.fields g hg]
  unfold State.get State.word
  rw [hr]

theorem trkKept_set (h : TrkKept l x s t) (f : FReg) (hf : ∀ g ∈ l, fieldsApart g f = true) (v : Nat) : TrkKept l x s (t.set f v) :=
  ⟨h.crankQ, h.camQ, fun g hg => (get_set_apart t v (hf g hg)).trans (h.fields g hg)⟩

theorem trkKept_raiseFlag (h : TrkKept l x s t) (f : FReg) (hf : ∀ g ∈ l, fieldsApart g f = true) : TrkKept l x s (t.raiseFlag f) :=
  trkKept_of_eq (trkKept_set h f hf 1) rfl rfl

theorem trkKept_irq (h : TrkKept l x s t) (hl : ∀ g ∈ l, inIrqBlock g.addr = false) (k : Nat) : TrkKept l x s (t.irq k) := by
  have htrk : (t.irq k).trk x = t.trk x := by unfold State.trk; rw [irq_trks]
  exact ⟨htrk ▸ h.crankQ, htrk ▸ h.camQ, fun g hg => (get_irq t k g (hl g hg)).trans (h.fields g hg)⟩

/-- The tracker's own record changes beside its queues. -/
theorem trkKept_setTrk (h : TrkKept l x s t) (w : Trk) (hc : w.crankQ = (t.trk x).crankQ := by rfl)
    (hm : w.camQ = (t.trk x).camQ := by rfl) :
    TrkKept l x s (t.setTrk x w) := by
  have hown : (t.setTrk x w).trk x = w := (trk_setTrk t x x w).trans (if_pos rfl)
  exact ⟨(congrArg Trk.crankQ hown).trans (hc.trans h.crankQ), (congrArg Trk.camQ hown).trans (hm.trans h.camQ), h.fields⟩

theorem trkKept_withWit (h : TrkKept l x s t) (w : WitState) : TrkKept l x s (t.withWit w) := trkKept_of_eq h rfl rfl
theorem trkKept_withPwr (h : TrkKept l x s t) (w : PwrState) : TrkKept l x s (t.withPwr w) := trkKept_of_eq h rfl rfl

end kept

-- ── A change of state (R61, R76, R80, R86) ────────────────────────────────────────────────────────────────────────

theorem trks_trk {s t : State} (h : t.trks = s.trks) (x : Nat) : t.trk x = s.trk x := by unfold State.trk; rw [h]

theorem cycleSpeed_kept (s : State) (au : Nat) : (s.cycleSpeed au).2.trks = s.trks ∧ (s.cycleSpeed au).2.regs = s.regs := by
  unfold State.cycleSpeed
  dsimp only
  split <;> exact ⟨rfl, rfl⟩

section state
variable {l : List FReg} {x : Fin 2} {s t : State}

theorem trkKept_snapshot (h : TrkKept l x s t) (hl : l ⊆ stateFields x) (partial_ : Bool) : TrkKept l x s (t.snapshot partial_) := by
  have hfree : ∀ g ∈ l, inIrqBlock g.addr = false := fun g hg => stateFields_free x g (hl hg)
  have hmulti : ∀ g ∈ l, fieldsApart g Fld.WIT_STAT_MULTI = true := fun g hg =>
    (by decide : ∀ x : Fin 2, ∀ g ∈ stateFields x, fieldsApart g Fld.WIT_STAT_MULTI = true) x g (hl hg)
  unfold State.snapshot
  extract_lets w old c m wit s1 pwr s2
  have hw : w.2.trks = t.trks ∧ w.2.regs = t.regs := cycleSpeed_kept t _
  obtain ⟨hwt, hwr⟩ := hw
  have h0 : TrkKept l x s w.2 := trkKept_of_eq h hwt hwr
  have h2 : TrkKept l x s s2 := trkKept_irq (trkKept_withPwr (trkKept_withWit h0 _) _) hfree 148
  clear_value s2
  exact trkKept_ite (trkKept_irq (trkKept_raiseFlag h2 _ hmulti) hfree 149) h2

theorem trks_snapshot (s : State) (partial_ : Bool) : (s.snapshot partial_).trks = s.trks := by
  unfold State.snapshot
  extract_lets w old c m wit s1 pwr s2
  have h2 : s2.trks = s.trks := (irq_trks _ 148).trans (cycleSpeed_kept s _).1
  split
  · exact (irq_trks _ 149).trans h2
  · exact h2

theorem trks_saveStop (s : State) (old : Nat) : (s.saveStop old).trks = s.trks := by
  unfold State.saveStop
  extract_lets y z ok s1
  split
  · rfl
  · exact irq_trks _ _

theorem trkKept_saveStop (h : TrkKept l x s t) (hl : l ⊆ stateFields x) (old : Nat) : TrkKept l x s (t.saveStop old) := by
  have hstop : ∀ x : Fin 2, ∀ g ∈ stateFields x, g.addr ∉ [Reg.TRK_STOPA] := by decide
  have htrk := trks_trk (trks_saveStop t old) x
  exact ⟨(congrArg Trk.crankQ htrk).trans h.crankQ, (congrArg Trk.camQ htrk).trans h.camQ, fun g hg =>
    (sameBut_get (saveStop_kept t old).1 g (hstop x g (hl hg)) (stateFields_free x g (hl hg))).trans (h.fields g hg)⟩

theorem trk_showRate (s : State) (x y : Nat) : (s.showRate x).trk y = s.trk y := rfl

/-- The record of a tracker as the states leave it: every change ends the clean cycle, CYCLE_SYNC begins a count of the cam, and STOPPED
clears the rate and the search. -/
def Trk.unclean (t : Trk) : Trk := { t with cleanNow := false }
def Trk.cycleBegun (t : Trk) : Trk := { t with camRot := 0, flips := 0 }
def Trk.halted (t : Trk) : Trk := { freshSearch t 0 with rate := 0, wasReverse := false, cleanPrev := false, tModelDen := 0 }

/-- What the record of a tracker becomes where the tracker enters the state `n`. -/
def Trk.searched (t : Trk) (n : Nat) : Trk := if n = 2 ∨ n = 6 then freshSearch t.unclean 1 else t.unclean
def Trk.cycled (t : Trk) (n : Nat) : Trk := if n = 4 then (t.searched n).cycleBegun else t.searched n
def Trk.entering (t : Trk) (n : Nat) : Trk := if n = 0 then (t.cycled n).halted else t.cycled n

theorem entering_queues (t : Trk) (n : Nat) : (t.entering n).crankQ = t.crankQ ∧ (t.entering n).camQ = t.camQ ∧
    (t.entering n).wrapPend = t.wrapPend ∧ (t.entering n).preset = t.preset := by
  unfold Trk.entering Trk.cycled Trk.searched
  split <;> split <;> split <;> exact ⟨rfl, rfl, rfl, rfl⟩

theorem setTrkState_same {n : Nat} (h : s.trkState x = n) : s.setTrkState x n = s := by
  unfold State.setTrkState
  dsimp only
  rw [if_pos h]

/-- What a tracker's operations write beside the fields of an edge and the state. -/
def quietRegs (x : Nat) : List FReg := [Fld.TRK_CNT_RESYNC x, Fld.TRK_CNT_GAPFAIL x, Fld.TRK_POS_KNOWN x, Fld.TRK_STAT_HEALTH x, Fld.TRK_STAT_PRED x,
  Fld.TRK_STAT_CRAWL x, Fld.TRK_STAT_COAST_N x, Fld.TRK_STAT_PHASE_CLAMP x, Fld.TRK_STAT_CAM_CONFLICT x, Fld.TRK_SPEED_SPEED x, Fld.TRK_PERR_PERR x,
  Fld.TRK_TINT_TINT x, Fld.TRK_DIFF_DIFF, Fld.TRK_VSEL_DISAGREE, Fld.TRK_VSEL_DIS_SEEN, Fld.SYS_FAULT_TRK]

theorem quiet_apart : ∀ x : Fin 2, ∀ g ∈ stateFields x, ∀ f ∈ quietRegs x, fieldsApart g f = true := by decide

-- The steps of a change of state, one by one

/-- The state shows, with its sources and counts. -/
def State.showState (s : State) (x n : Nat) : State :=
  let s1 := (s.set (Fld.TRK_STAT_STATE x) n).irq (32 + 8 * x)
  let s2 := if n = 6 then s1.irq (34 + 8 * x) else if n = 5 then s1.anom 4 else s1
  let s3 := if (n = 2 ∨ n = 6) ∧ inSync (s.trkState x) then s2.addWrap (Fld.TRK_CNT_RESYNC x) 1 else s2
  let s4 := s3.set (Fld.TRK_POS_KNOWN x) (if n == 1 || inSync n then 1 else 0)
  if n = 4 ∨ n = 5 then s4.showHealth x (s4.trk x).health else s4.showHealth x 255

/-- The clean cycle ends; in SEEK and LOST the search begins. -/
def State.beginSearch (s : State) (x n : Nat) : State :=
  let s1 := s.setTrk x (s.trk x).unclean
  if n = 2 ∨ n = 6 then ((s1.setTrk x (freshSearch (s1.trk x) 1)).set (Fld.TRK_STAT_PRED x) 0).set (Fld.TRK_STAT_CRAWL x) 0 else s1

def State.beginCycle (s : State) (x n : Nat) : State := if n = 4 then s.setTrk x (s.trk x).cycleBegun else s

def State.haltRate (s : State) (x n : Nat) : State :=
  if n = 0 then ((((s.set (Fld.TRK_STAT_CRAWL x) 0).set (Fld.TRK_STAT_COAST_N x) 0).set (Fld.TRK_STAT_PRED x) 0).setTrk x
    (s.trk x).halted).showRate x else s

/-- The stop of the selected tracker, and the fault where both are lost. -/
def State.endState (s : State) (x n old : Nat) : State :=
  let s1 := if n = 0 ∧ s.sel = x then (s.saveStop old).snapshot true else s
  if n = 6 && s1.st == 6 && s1.trkState 0 == 6 && s1.trkState 1 == 6 then s1.raiseFault Fld.SYS_FAULT_TRK else s1

theorem setTrkState_eq (s : State) (x n : Nat) : s.setTrkState x n = if s.trkState x = n then s
    else ((((s.showState x n).beginSearch x n).beginCycle x n).haltRate x n).endState x n (s.trkState x) := rfl

section quiet
variable (hl : l ⊆ stateFields x) (k : TrkKept l x s t)
include hl k

theorem kept_quiet (f : FReg) (hf : f ∈ quietRegs x) (v : Nat) : TrkKept l x s (t.set f v) :=
  trkKept_set k f (fun g hg => quiet_apart x g (hl hg) f hf) v

theorem kept_quietFlag (f : FReg) (hf : f ∈ quietRegs x) : TrkKept l x s (t.raiseFlag f) :=
  trkKept_raiseFlag k f (fun g hg => quiet_apart x g (hl hg) f hf)

theorem kept_irq (n : Nat) : TrkKept l x s (t.irq n) := trkKept_irq k (fun g hg => stateFields_free x g (hl hg)) n

end quiet

section stages
variable {n : Nat} (k : TrkKept (stateFields x) x s t)
include k

theorem kept_stateReg (f : FReg) (hf : f ∈ quietRegs x) (v : Nat) : TrkKept (stateFields x) x s (t.set f v) :=
  kept_quiet (List.Subset.refl _) k f hf v

theorem kept_beginSearch : TrkKept (stateFields x) x s (t.beginSearch x n) := by
  have h1 : TrkKept (stateFields x) x s (t.setTrk x (t.trk x).unclean) := trkKept_setTrk k _ rfl rfl
  unfold State.beginSearch
  exact trkKept_ite (kept_stateReg (kept_stateReg (trkKept_setTrk h1 (freshSearch _ 1) rfl rfl) (Fld.TRK_STAT_PRED x) (by simp [quietRegs]) 0)
    (Fld.TRK_STAT_CRAWL x) (by simp [quietRegs]) 0) h1

theorem kept_beginCycle : TrkKept (stateFields x) x s (t.beginCycle x n) := trkKept_ite (trkKept_setTrk k _ rfl rfl) k

theorem kept_haltRate : TrkKept (stateFields x) x s (t.haltRate x n) := by
  have h3 := kept_stateReg (kept_stateReg
    (kept_stateReg k (Fld.TRK_STAT_CRAWL x) (by simp [quietRegs]) 0) (Fld.TRK_STAT_COAST_N x) (by simp [quietRegs]) 0)
    (Fld.TRK_STAT_PRED x) (by simp [quietRegs]) 0
  unfold State.haltRate
  exact trkKept_ite (kept_stateReg (trkKept_setTrk h3 (t.trk x).halted rfl rfl) (Fld.TRK_SPEED_SPEED x) (by simp [quietRegs]) _) k

theorem kept_endState (old : Nat) : TrkKept (stateFields x) x s (t.endState x n old) := by
  unfold State.endState
  extract_lets s1
  have h1 : TrkKept (stateFields x) x s s1 :=
    trkKept_ite (trkKept_snapshot (trkKept_saveStop k (List.Subset.refl _) old) (List.Subset.refl _) true) k
  clear_value s1
  have hfault : TrkKept (stateFields x) x s (s1.raiseFlag Fld.SYS_FAULT_TRK) := kept_quietFlag (List.Subset.refl _) h1 _ (by simp [quietRegs])
  unfold State.raiseFault
  exact trkKept_ite (trkKept_ite hfault (trkKept_irq hfault (stateFields_free x) 1)) h1

end stages

theorem kept_showState (s : State) (x : Fin 2) (n : Nat) : TrkKept (stateFields x) x (s.set (Fld.TRK_STAT_STATE x) n) (s.showState x n) := by
  unfold State.showState
  extract_lets s1 s2 s3 s4
  have h1 : TrkKept (stateFields x) x (s.set (Fld.TRK_STAT_STATE x) n) s1 := trkKept_irq (trkKept_refl _ x _) (stateFields_free x) _
  have h2 : TrkKept (stateFields x) x (s.set (Fld.TRK_STAT_STATE x) n) s2 :=
    trkKept_ite (trkKept_irq h1 (stateFields_free x) _) (trkKept_ite (trkKept_of_eq h1 rfl rfl) h1)
  have h3 : TrkKept (stateFields x) x (s.set (Fld.TRK_STAT_STATE x) n) s3 :=
    trkKept_ite (kept_stateReg h2 (Fld.TRK_CNT_RESYNC x) (by simp [quietRegs]) _) h2
  have h4 : TrkKept (stateFields x) x (s.set (Fld.TRK_STAT_STATE x) n) s4 := kept_stateReg h3 (Fld.TRK_POS_KNOWN x) (by simp [quietRegs]) _
  clear_value s4
  exact trkKept_ite (kept_stateReg h4 (Fld.TRK_STAT_HEALTH x) (by simp [quietRegs]) _) (kept_stateReg h4 (Fld.TRK_STAT_HEALTH x) (by simp [quietRegs]) _)

/-- A change of state shows the state, and leaves the fields of an edge and the edges that wait. -/
theorem kept_setTrkState (s : State) (x : Fin 2) {n : Nat} (h : s.trkState x ≠ n) :
    TrkKept (stateFields x) x (s.set (Fld.TRK_STAT_STATE x) n) (s.setTrkState x n) := by
  rw [setTrkState_eq, if_neg h]
  exact kept_endState (kept_haltRate (kept_beginCycle (kept_beginSearch (kept_showState s x n)))) _

theorem trk_irq (s : State) (k x : Nat) : (s.irq k).trk x = s.trk x := trks_trk (irq_trks s k) x

theorem trk_setTrk_own (s : State) (x : Nat) (w : Trk) : (s.setTrk x w).trk x = w := (trk_setTrk s x x w).trans (if_pos rfl)

section records
variable (s : State) (x n : Nat)

theorem trk_showState : (s.showState x n).trk x = s.trk x := by
  unfold State.showState
  extract_lets s1 s2 s3 s4
  have h1 : s1.trk x = s.trk x := trk_irq _ _ x
  have h2 : s2.trk x = s.trk x := by
    rw [← h1]
    unfold s2
    split
    · exact trk_irq _ _ x
    · split <;> rfl
  have h3 : s3.trk x = s.trk x := by
    rw [← h2]
    unfold s3
    split <;> rfl
  rw [← h3]
  split <;> rfl

theorem trk_beginSearch : (s.beginSearch x n).trk x = (s.trk x).searched n := by
  have hset : ∀ (t : State) (f g : FReg) (v w : Nat), ((t.set f v).set g w).trk x = t.trk x := fun _ _ _ _ _ => rfl
  unfold State.beginSearch Trk.searched
  dsimp only
  split
  · rw [hset, trk_setTrk_own, trk_setTrk_own]
  · exact trk_setTrk_own s x _

theorem trk_beginCycle : (s.beginCycle x n).trk x = if n = 4 then (s.trk x).cycleBegun else s.trk x := by
  unfold State.beginCycle
  split
  · exact trk_setTrk_own s x _
  · rfl

theorem trk_haltRate : (s.haltRate x n).trk x = if n = 0 then (s.trk x).halted else s.trk x := by
  unfold State.haltRate
  split
  · rw [trk_showRate, trk_setTrk_own]
  · rfl

theorem trk_endState (old : Nat) : (s.endState x n old).trk x = s.trk x := by
  unfold State.endState
  extract_lets s1
  have h1 : s1.trk x = s.trk x := by
    unfold s1
    split
    · exact trks_trk ((trks_snapshot _ true).trans (trks_saveStop s old)) x
    · rfl
  rw [← h1]
  unfold State.raiseFault
  split
  · split
    · rfl
    · exact trk_irq _ 1 x
  · rfl

/-- The record of a tracker that enters a state. -/
theorem trk_setTrkState (h : s.trkState x ≠ n) : (s.setTrkState x n).trk x = (s.trk x).entering n := by
  rw [setTrkState_eq, if_neg h, trk_endState, trk_haltRate, trk_beginCycle, trk_beginSearch, trk_showState]
  rfl

end records

/-- Whatever the state was, the edges that wait and the fields of an edge stand. -/
theorem kept_enter (s : State) (x : Fin 2) (n : Nat) : TrkKept (edgeFields x) x s (s.setTrkState x n) := by
  by_cases h : s.trkState x = n
  · rw [setTrkState_same h]
    exact trkKept_refl _ x s
  · have hset : TrkKept (edgeFields x) x s (s.set (Fld.TRK_STAT_STATE x) n) := trkKept_set (trkKept_refl _ x s) _
      ((by decide : ∀ x : Fin 2, ∀ g ∈ edgeFields x, fieldsApart g (Fld.TRK_STAT_STATE x) = true) x) n
    exact trkKept_trans hset (trkKept_mono (kept_setTrkState s x h) (edgeFields_subset x))

theorem trkState_setTrkState (s : State) (x : Fin 2) {n : Nat} (hn : n < 16) : (s.setTrkState x n).trkState x = n := by
  by_cases h : s.trkState x = n
  · rw [setTrkState_same h, h]
  · have hstate := (kept_setTrkState s x h).fields (Fld.TRK_STAT_STATE x) List.mem_cons_self
    rw [State.trkState, hstate, get_set s _ n (show 0 + 4 ≤ 32 by decide)]
    exact Nat.mod_eq_of_lt hn

-- ── The angle clock's operations (R71–R85) ────────────────────────────────────────────────────────────────────────

theorem kept_setRate (k : TrkKept l x s t) (r : Nat) : TrkKept l x s (t.setRate x r) := trkKept_setTrk k { t.trk x with rate := r } rfl rfl

section clock
variable (hl : l ⊆ stateFields x) (k : TrkKept l x s t)
include hl k

theorem kept_showRate : TrkKept l x s (t.showRate x) := kept_quiet hl k (Fld.TRK_SPEED_SPEED x) (by simp [quietRegs]) _

theorem kept_enterCrawl : TrkKept l x s (t.enterCrawl x) :=
  trkKept_setTrk (kept_quiet hl k (Fld.TRK_STAT_CRAWL x) (by simp [quietRegs]) 1) _ rfl rfl

theorem kept_judgeCrawl (num den : Nat) : TrkKept l x s (t.judgeCrawl x num den) := by
  unfold State.judgeCrawl
  exact trkKept_ite (kept_enterCrawl hl k) (trkKept_ite (kept_quiet hl k (Fld.TRK_STAT_CRAWL x) (by simp [quietRegs]) 0) k)

theorem kept_predict (tp j sN : Nat) : TrkKept l x s (t.predict x tp j sN) := by
  unfold State.predict
  extract_lets w lin mod useModel p s1 gone r s2 s3
  have h1 : TrkKept l x s s1 := trkKept_setTrk k { w with tModelNum := mod.1, tModelDen := mod.2 } rfl rfl
  have h2 : TrkKept l x s s2 := kept_quiet hl (kept_setRate h1 r.1) (Fld.TRK_STAT_PRED x) (by simp [quietRegs]) _
  have h3 : TrkKept l x s s3 := trkKept_ite (kept_quietFlag hl h2 (Fld.TRK_STAT_PHASE_CLAMP x) (by simp [quietRegs])) h2
  clear_value s1 s3
  exact trkKept_ite h1 (kept_showRate hl (kept_judgeCrawl hl h3 _ _))

theorem kept_voterSample : TrkKept l x s (t.voterSample x) := by
  unfold State.voterSample
  extract_lets d s1 n v s2 s3
  have h1 : TrkKept l x s s1 := kept_quiet hl k Fld.TRK_DIFF_DIFF (by simp [quietRegs]) _
  have h2 : TrkKept l x s s2 := trkKept_of_eq h1 rfl rfl
  have h3 : TrkKept l x s s3 := trkKept_of_eq h1 rfl rfl
  clear_value s2 s3
  have hdis : ∀ n, TrkKept l x s (s2.set Fld.TRK_VSEL_DISAGREE n) := fun n => kept_quiet hl h2 Fld.TRK_VSEL_DISAGREE (by simp [quietRegs]) n
  exact trkKept_ite k (trkKept_ite
    (trkKept_ite (kept_irq hl (kept_quietFlag hl (hdis 1) Fld.TRK_VSEL_DIS_SEEN (by simp [quietRegs])) 47) h2)
    (trkKept_ite (kept_quiet hl h3 Fld.TRK_VSEL_DISAGREE (by simp [quietRegs]) 0) h3))

end clock

theorem trks_voterSample (s : State) (x : Nat) : (s.voterSample x).trks = s.trks := by
  unfold State.voterSample
  extract_lets d s1 n v s2 s3
  have h2 : s2.trks = s.trks := rfl
  have h3 : s3.trks = s.trks := rfl
  clear_value s2 s3
  have hdis : (((s2.set Fld.TRK_VSEL_DISAGREE 1).raiseFlag Fld.TRK_VSEL_DIS_SEEN).irq 47).trks = s.trks := (irq_trks _ 47).trans h2
  split
  · rfl
  · split
    · split
      · exact hdis
      · exact h2
    · split
      · exact h3
      · exact h3

end state

-- ── The edges that wait, through every operation of an edge (R61–R90) ─────────────────────────────────────────────

theorem stepTo_queues (t : Trk) (a : Nat) : (t.stepTo a).crankQ = t.crankQ ∧ (t.stepTo a).camQ = t.camQ := by
  unfold Trk.stepTo
  exact ⟨rfl, rfl⟩

section queues
variable {x : Fin 2} {s t : State} (k : TrkKept [] x s t)
include k

theorem queues_set (f : FReg) (v : Nat) : TrkKept [] x s (t.set f v) := trkKept_set k f (fun _ h => absurd h List.not_mem_nil) v
theorem queues_raiseFlag (f : FReg) : TrkKept [] x s (t.raiseFlag f) := trkKept_raiseFlag k f (fun _ h => absurd h List.not_mem_nil)
theorem queues_irq (n : Nat) : TrkKept [] x s (t.irq n) := trkKept_irq k (fun _ h => absurd h List.not_mem_nil) n
theorem queues_setTrkState (n : Nat) : TrkKept [] x s (t.setTrkState x n) :=
  trkKept_trans k (trkKept_mono (kept_enter t x n) (List.nil_subset _))
theorem queues_predict (tp j sN : Nat) : TrkKept [] x s (t.predict x tp j sN) := kept_predict (List.nil_subset _) k tp j sN
theorem queues_judgeCrawl (num den : Nat) : TrkKept [] x s (t.judgeCrawl x num den) := kept_judgeCrawl (List.nil_subset _) k num den

theorem queues_takePosition (st i tp : Nat) : TrkKept [] x s (t.takePosition x st i tp) := by
  unfold State.takePosition
  extract_lets w s0 span w0 s1 s2 w2 s3
  have h0 : TrkKept [] x s s0 := queues_setTrkState k st
  clear_value s0
  have h1 : TrkKept [] x s s1 := trkKept_setTrk h0 _
  clear_value s1
  have h2 : TrkKept [] x s s2 := queues_set (queues_set (queues_set h1 (Fld.TRK_POS_NEXT x) _) (Fld.TRK_STAT_COAST_N x) 0) (Fld.TRK_STAT_DIR x) 0
  clear_value s2
  have h3 : TrkKept [] x s s3 := trkKept_setTrk h2 _
  clear_value s3
  exact queues_predict h3 _ _ _

theorem queues_camErr : TrkKept [] x s (t.camErr x) := by
  unfold State.camErr
  extract_lets s1 w
  have h1 : TrkKept [] x s s1 := queues_set k (Fld.TRK_CNT_CAMERR x) _
  clear_value s1
  exact trkKept_setTrk h1 _

theorem queues_camGood : TrkKept [] x s (t.camGood x) := by
  unfold State.camGood
  have h1 : TrkKept [] x s (t.setTrk x { t.trk x with flips := 0 }) := trkKept_setTrk k _
  exact queues_set h1 (Fld.TRK_STAT_CAM_MISSING x) 0

theorem queues_fixRevolution (r : Nat) : TrkKept [] x s (t.fixRevolution x r) := by
  unfold State.fixRevolution
  extract_lets s1 w
  have h1 : TrkKept [] x s s1 := queues_setTrkState k 4
  clear_value s1
  exact trkKept_ite h1 (queues_set (trkKept_setTrk h1 _) _ _)

theorem queues_toFirstRev : TrkKept [] x s (t.toFirstRev x) := by
  unfold State.toFirstRev
  exact trkKept_ite (queues_set (trkKept_setTrk k _) _ _) k

theorem queues_camConflict : TrkKept [] x s (t.camConflict x) := by
  unfold State.camConflict
  extract_lets s2
  have h2 : TrkKept [] x s s2 := queues_toFirstRev (queues_raiseFlag (queues_setTrkState k 3) _)
  clear_value s2
  exact queues_irq (trkKept_setTrk h2 _) _

theorem queues_camInCrank (a : Nat) (falling : Bool) : TrkKept [] x s (t.camInCrank x a falling) := by
  unfold State.camInCrank
  exact trkKept_ite k (trkKept_ite (trkKept_ite k (queues_camErr k)) (trkKept_ite (trkKept_setTrk k _) (queues_fixRevolution k _)))

theorem queues_camInCycle (a : Nat) (falling : Bool) : TrkKept [] x s (t.camInCycle x a falling) := by
  unfold State.camInCycle
  extract_lets w s1
  have h1 : TrkKept [] x s s1 := trkKept_setTrk k _
  clear_value s1
  exact trkKept_ite (queues_camGood k) (trkKept_ite (trkKept_ite (queues_camConflict h1) h1) (queues_camErr k))

theorem queues_camInPreset (a : Nat) (falling : Bool) : TrkKept [] x s (t.camInPreset x a falling) := by
  unfold State.camInPreset
  exact trkKept_ite k (trkKept_ite (queues_toFirstRev (queues_irq (queues_raiseFlag (queues_setTrkState k 3) _) _)) k)

theorem queues_judgeCam (a : Nat) (falling : Bool) : TrkKept [] x s (t.judgeCam x a falling) := by
  unfold State.judgeCam
  exact trkKept_ite (queues_camInCrank k a falling) (trkKept_ite (queues_camInCycle k a falling) (trkKept_ite (queues_camInPreset k a falling) k))

theorem queues_placeCams (cams : List CamSeen) (edges : Nat) : TrkKept [] x s (t.placeCams x cams edges) := by
  unfold State.placeCams
  refine trkKept_ite k ?_
  induction cams.filter (fun c => c.interval != 0) generalizing t with
  | nil => exact k
  | cons c r ih => exact ih (queues_judgeCam k _ _)

theorem queues_syncFromMark (i tp : Nat) : TrkKept [] x s (t.syncFromMark x i tp) := queues_placeCams (queues_takePosition k _ _ tp) _ _

theorem queues_tryMarks (ahead tp : Nat) : TrkKept [] x s (t.tryMarks x ahead tp) := by
  unfold State.tryMarks
  split
  · exact k
  · split
    · exact queues_syncFromMark k _ tp
    · exact k

theorem queues_seekEdge (tp ti : Nat) : TrkKept [] x s (t.seekEdge x tp ti) := by
  unfold State.seekEdge
  extract_lets w s0 l w1 t1
  have h0 : TrkKept [] x s s0 := queues_set k (Fld.TRK_STAT_NO_MARK x) _
  have hput : ∀ u : Trk, u.crankQ = w.crankQ → u.camQ = w.camQ → TrkKept [] x s (s0.setTrk x u) := fun u hc hm => trkKept_setTrk h0 u hc hm
  clear_value s0
  split
  · exact hput _ rfl rfl
  · split
    · exact queues_tryMarks (hput (w.takeExtra _ ti) rfl rfl) 0 tp
    · split
      · split
        · exact hput _ rfl rfl
        · split
          · exact queues_tryMarks (hput { t1 with cand := none, marks := w.marks ++ [.gap _ w.teeth] } rfl rfl) 1 tp
          · exact hput _ rfl rfl
      · exact hput _ rfl rfl

theorem queues_presetMiss : TrkKept [] x s (t.presetMiss x) := by
  unfold State.presetMiss
  exact queues_irq (queues_raiseFlag (queues_setTrkState k 2) _) _

theorem queues_turnForward (i ti : Nat) : TrkKept [] x s (t.turnForward x i ti) := by
  have hq := stepTo_queues (t.trk x) (t.theta x i)
  unfold State.turnForward
  extract_lets j rate w s1
  rw [show (t.trk x).stepTo (t.theta x i) = w from rfl] at hq
  clear_value j rate w
  have hput : ∀ u : Trk, u.crankQ = w.crankQ → u.camQ = w.camQ → TrkKept [] x s ((t.setTrk x u).set (Fld.TRK_POS_NEXT x) j) :=
    fun u hu hv => queues_set (trkKept_setTrk k u (hu.trans hq.1) (hv.trans hq.2)) (Fld.TRK_POS_NEXT x) j
  have h1 : TrkKept [] x s s1 := hput _ rfl rfl
  clear_value s1
  have h2 : TrkKept [] x s (s1.judgeCrawl x ti 1) := queues_judgeCrawl h1 ti 1
  exact kept_showRate (List.nil_subset _) (queues_set h2 (Fld.TRK_STAT_PRED x) 1)

theorem queues_standBack (n tp : Nat) : TrkKept [] x s (t.standBack x n tp) := by
  unfold State.standBack
  extract_lets a w s1 s2
  have hq := stepTo_queues (t.trk x) a
  rw [show (t.trk x).stepTo a = w from rfl] at hq
  clear_value w a
  have hput : ∀ u : Trk, u.crankQ = w.crankQ → u.camQ = w.camQ → TrkKept [] x s (t.setTrk x u) :=
    fun u hu hv => trkKept_setTrk k u (hu.trans hq.1) (hv.trans hq.2)
  have h1 : TrkKept [] x s s1 := hput _ rfl rfl
  clear_value s1
  have h2 : TrkKept [] x s s2 := kept_showRate (List.nil_subset _) (queues_set (queues_set h1 (Fld.TRK_POS_NEXT x) n) (Fld.TRK_STAT_DIR x) 1)
  clear_value s2
  exact trkKept_ite (queues_set (kept_enterCrawl (List.nil_subset _) h2) (Fld.TRK_STAT_PRED x) 1) h2

/-- PRESET takes the edge on a record with the same queues. -/
theorem queues_presetGo (w : Trk) (hc : w.crankQ = (t.trk x).crankQ) (hm : w.camQ = (t.trk x).camQ) (st i tp ti : Nat) (rev turned : Bool) :
    TrkKept [] x s (t.presetGo x w st i tp ti rev turned) := by
  unfold State.presetGo
  extract_lets s1 s2
  have h1 : TrkKept [] x s s1 := queues_setTrkState (trkKept_setTrk k w hc hm) st
  have h2 : TrkKept [] x s s2 := queues_set h1 _ _
  clear_value s2 s1
  exact trkKept_ite (queues_standBack h1 i tp) (trkKept_ite (queues_turnForward h2 i ti) (queues_predict h2 _ _ _))

theorem queues_presetOther (w : Trk) (hc : w.crankQ = (t.trk x).crankQ) (hm : w.camQ = (t.trk x).camQ) (ahead tp : Nat) (rev : Bool)
    {go : State} (hgo : TrkKept [] x s go) : TrkKept [] x s (t.presetOther x w ahead tp rev go) := by
  unfold State.presetOther
  split
  · extract_lets s1
    have h1 : TrkKept [] x s s1 := queues_syncFromMark (queues_irq (queues_raiseFlag (trkKept_setTrk k w hc hm) _) _) _ tp
    exact trkKept_ite (queues_standBack h1 _ tp) h1
  · exact hgo

theorem queues_presetEdge (tp ti : Nat) (rev : Bool) : TrkKept [] x s (t.presetEdge x tp ti rev) := by
  unfold State.presetEdge
  extract_lets t0 turned w old i s1 upper thr l before tested seen w1 t1 go fails
  have hw : w.crankQ = (t.trk x).crankQ ∧ w.camQ = (t.trk x).camQ := by
    unfold w
    split <;> exact ⟨rfl, rfl⟩
  have hw1 : w1.crankQ = w.crankQ ∧ w1.camQ = w.camQ := by
    unfold w1
    split <;> exact ⟨rfl, rfl⟩
  have h1 : TrkKept [] x s s1 := trkKept_ite k (queues_set k (Fld.TRK_PERR_PERR x) _)
  have hs1 : s1.trk x = t.trk x := by
    unfold s1
    split <;> rfl
  rw [← hs1] at hw
  have hput : ∀ u : Trk, u.crankQ = w.crankQ → u.camQ = w.camQ → TrkKept [] x s (s1.setTrk x u) :=
    fun u hc hm => trkKept_setTrk h1 u (hc.trans hw.1) (hm.trans hw.2)
  have hgo : ∀ (u : Trk) (st : Nat), u.crankQ = w.crankQ → u.camQ = w.camQ → TrkKept [] x s (go u st) :=
    fun u st hc hm => queues_presetGo h1 u (hc.trans hw.1) (hm.trans hw.2) st i tp ti rev turned
  have hother : ∀ (u : Trk) (ahead : Nat) (v : State), u.crankQ = w.crankQ → u.camQ = w.camQ → TrkKept [] x s v →
      TrkKept [] x s (s1.presetOther x u ahead tp rev v) :=
    fun u ahead v hc hm hv => queues_presetOther h1 u (hc.trans hw.1) (hm.trans hw.2) ahead tp rev hv
  have ht1 : t1.crankQ = w.crankQ ∧ t1.camQ = w.camQ := ⟨hw1.1, hw1.2⟩
  obtain ⟨hc, hm⟩ := ht1
  clear_value go t1 fails w1 seen tested s1 w
  have hmiss : TrkKept [] x s ((go t1 1).presetMiss x) := queues_presetMiss (hgo t1 1 hc hm)
  split
  · exact trkKept_ite (hgo t1 4 hc hm) hmiss
  · split
    · exact hother (w.takeExtra _ ti) 0 _ rfl rfl (hput _ rfl rfl)
    · split
      · split
        · split
          · exact hgo t1 4 hc hm
          · split
            · extract_lets t2
              have hgo2 : TrkKept [] x s (go t2 1) := hgo t2 1 hc hm
              exact hother t2 1 _ hc hm (trkKept_ite (queues_presetMiss hgo2) hgo2)
            · exact hmiss
        · exact trkKept_ite hmiss (hgo t1 1 hc hm)
      · exact trkKept_ite hmiss (hgo t1 1 hc hm)

end queues

-- ── A forward edge in synchronisation (R71–R75) ───────────────────────────────────────────────────────────────────

section sync
variable {x : Fin 2} {s t : State} (k : TrkKept (edgeFields x) x s t)
include k

theorem kept_gapCheck (l ti tl tp : Nat) : TrkKept (edgeFields x) x s (t.gapCheck x l ti tl tp) := by
  unfold State.gapCheck
  extract_lets w s1 w1 s2
  have h0 : TrkKept (edgeFields x) x s (t.setTrk x { w with failRun := 0 }) := trkKept_setTrk k _
  have h1 : TrkKept (edgeFields x) x s s1 :=
    kept_irq (edgeFields_subset x) (kept_quiet (edgeFields_subset x) k (Fld.TRK_CNT_GAPFAIL x) (by simp [quietRegs]) _) _
  clear_value s1
  have h2 : TrkKept (edgeFields x) x s s2 := trkKept_setTrk h1 _
  clear_value s2
  exact trkKept_ite k (trkKept_ite h0 (trkKept_ite (trkKept_trans h2 (kept_enter s2 x 6)) h2))

theorem kept_judgeModel (ti : Nat) : TrkKept (edgeFields x) x s (t.judgeModel x ti) := by
  unfold State.judgeModel
  extract_lets w err s1
  have hput : ∀ u : Trk, u.crankQ = w.crankQ → u.camQ = w.camQ → TrkKept (edgeFields x) x s (t.setTrk x u) := fun u hc hm => trkKept_setTrk k u hc hm
  have h1 : TrkKept (edgeFields x) x s s1 := hput _ rfl rfl
  clear_value s1
  exact trkKept_ite k (trkKept_ite (trkKept_ite h1 (kept_irq (edgeFields_subset x) h1 _)) (trkKept_ite (hput _ rfl rfl) (hput _ rfl rfl)))

theorem kept_learnK (i0 sN sL tA tL : Nat) : TrkKept (edgeFields x) x s (t.learnK x i0 sN sL tA tL) := by
  unfold State.learnK
  extract_lets w b
  have hput : ∀ u : Trk, u.crankQ = w.crankQ → u.camQ = w.camQ → TrkKept (edgeFields x) x s (t.setTrk x u) := fun u hc hm => trkKept_setTrk k u hc hm
  exact trkKept_ite (hput _ rfl rfl) (trkKept_ite k (hput _ rfl rfl))

end sync

theorem trk_set (s : State) (f : FReg) (v x : Nat) : (s.set f v).trk x = s.trk x := rfl

theorem trk_raiseFlag (s : State) (f : FReg) (x : Nat) : (s.raiseFlag f).trk x = s.trk x := rfl

theorem trk_setRate (s : State) (x r : Nat) : (s.setRate x r).trk x = { s.trk x with rate := r } := trk_setTrk_own s x { s.trk x with rate := r }

/-- The prediction leaves the place of the last edge. -/
theorem place_judgeCrawl (s : State) (x num den : Nat) : ((s.judgeCrawl x num den).trk x).stamp = (s.trk x).stamp ∧
    ((s.judgeCrawl x num den).trk x).lastIdx = (s.trk x).lastIdx := by
  unfold State.judgeCrawl State.enterCrawl
  dsimp only
  split
  · rw [trk_setTrk_own]
    exact ⟨rfl, rfl⟩
  · split <;> exact ⟨rfl, rfl⟩

theorem place_predict (s : State) (x tp j sN : Nat) : ((s.predict x tp j sN).trk x).stamp = (s.trk x).stamp ∧
    ((s.predict x tp j sN).trk x).lastIdx = (s.trk x).lastIdx := by
  unfold State.predict
  extract_lets w lin mod useModel p s1 gone r s2 s3
  have h1 : (s1.trk x).stamp = w.stamp ∧ (s1.trk x).lastIdx = w.lastIdx := by
    unfold s1
    rw [trk_setTrk_own]
    exact ⟨rfl, rfl⟩
  clear_value s1 p r useModel
  have h2 : (s2.trk x).stamp = w.stamp ∧ (s2.trk x).lastIdx = w.lastIdx := by
    unfold s2
    rw [trk_set, trk_setRate]
    exact h1
  clear_value s2
  have h3 : s3.trk x = s2.trk x := by
    unfold s3
    split
    · exact trk_raiseFlag s2 _ x
    · rfl
  obtain ⟨hs, hi⟩ := place_judgeCrawl s3 x p.1 p.2
  rw [h3] at hs hi
  clear_value s3
  split
  · exact h1
  · rw [trk_showRate]
    exact ⟨hs.trans h2.1, hi.trans h2.2⟩

theorem leaveCoast_sync {s : State} {x : Nat} (h : s.trkState x ≠ 5) : s.leaveCoast x = s := if_pos (bne_iff_ne.mpr h)

-- ── The teeth of a description, where a register of the trackers changes (R44, R46) ───────────────────────────────

/-- Every register below the trackers' stands: so do the descriptions of the wheels. -/
def wheelKept (s t : State) : Prop := ∀ g : FReg, g.addr < 0x40090000 → t.get g = s.get g

theorem wheelKept_set (s : State) {f : FReg} (hf : 0x40090000 ≤ f.addr) (v : Nat) : wheelKept s (s.set f v) :=
  fun g hg => get_set_other s f g v (by omega)

theorem coastN_high (x : Nat) : 0x40090000 ≤ (Fld.TRK_STAT_COAST_N x).addr := by
  simp only [Fld.TRK_STAT_COAST_N, Reg.TRK_STAT]
  omega

theorem wheelKept_setTrk {s t : State} (h : wheelKept s t) (x : Nat) (w : Trk) : wheelKept s (t.setTrk x w) := h

section teeth
variable {s t : State} (h : wheelKept s t) (x : Fin 2)
include h

theorem posRev_kept : t.posRev x = s.posRev x := h _ (by simp only [Fld.WHL_WD_CFG_POS_REV, Reg.WHL_WD_CFG]; omega)

theorem posCyc_kept : t.posCyc x = s.posCyc x := by
  have hstroke : t.flag (Fld.WHL_WD_CFG_STROKE x) = s.flag (Fld.WHL_WD_CFG_STROKE x) :=
    congrArg (· != 0) (h _ (by simp only [Fld.WHL_WD_CFG_STROKE, Reg.WHL_WD_CFG]; omega))
  unfold State.posCyc State.revs
  rw [posRev_kept h x, hstroke]

theorem gaps_kept : t.gaps x = s.gaps x := by
  have hmode : t.ring x = s.ring x := congrArg (· != 0) (h _ (by simp only [Fld.WHL_WD_CFG_MODE, Reg.WHL_WD_CFG]; omega))
  have hgap : ∀ g ∈ List.range 4, ∀ lo w, t.get ⟨Reg.WHL_WD_GAP x g, lo, w⟩ = s.get ⟨Reg.WHL_WD_GAP x g, lo, w⟩ := by
    intro g hg lo w
    have hg4 : g < 4 := List.mem_range.mp hg
    exact h _ (by simp only [Reg.WHL_WD_GAP]; omega)
  have hen : (List.range 4).filter (fun g => t.flag (Fld.WHL_WD_GAP_EN x g)) = (List.range 4).filter (fun g => s.flag (Fld.WHL_WD_GAP_EN x g)) :=
    List.filter_congr (fun g hg => congrArg (· != 0) (hgap g hg 31 1))
  unfold State.gaps
  rw [hmode, hen]
  refine congrArg (fun l => if s.ring x then [] else l) (List.map_congr_left (fun g hg => ?_))
  have hr : g ∈ List.range 4 := (List.mem_filter.mp hg).1
  exact congrArg₂ Prod.mk (hgap g hr 0 10) (hgap g hr 16 3)

theorem isTooth_kept (i : Nat) : t.isTooth x i = s.isTooth x i := by
  unfold State.isTooth State.inGap
  rw [posRev_kept h x, gaps_kept h x]

theorem nextTooth_kept (i : Nat) : t.nextTooth x i = s.nextTooth x i := by
  have hfrom : ∀ n i, t.toothFrom x n i = s.toothFrom x n i := by
    intro n
    induction n with
    | zero => exact fun _ => rfl
    | succ n ih =>
      intro i
      unfold State.toothFrom
      rw [posCyc_kept h x, isTooth_kept h x, ih]
  exact hfrom 9 (i + 1)

theorem prevTooth_kept (i : Nat) : t.prevTooth x i = s.prevTooth x i := by
  have hback : ∀ n i, t.toothBack x n i = s.toothBack x n i := by
    intro n
    induction n with
    | zero => exact fun _ => rfl
    | succ n ih =>
      intro i
      unfold State.toothBack
      rw [posCyc_kept h x, isTooth_kept h x, ih]
  unfold State.prevTooth
  rw [posCyc_kept h x, hback]

end teeth

/-- What a forward edge of stamp `tp` at tooth N leaves: N is the last tooth, and the next one is expected. -/
structure TookTooth (x tp : Nat) (s u : State) : Prop where
  crankQ : (u.trk x).crankQ = (s.trk x).crankQ
  stamp : (u.trk x).stamp = tp
  lastIdx : (u.trk x).lastIdx = s.nextN x
  next : u.nextN x = s.nextTooth x (s.nextN x) % 1024
  forward : u.trkReverse x = false

theorem tookTooth_kept {x tp : Nat} {s t u : State} (h : TookTooth x tp s t) (k : TrkKept (edgeFields x) x t u)
    (hs : (u.trk x).stamp = (t.trk x).stamp) (hl : (u.trk x).lastIdx = (t.trk x).lastIdx) : TookTooth x tp s u where
  crankQ := k.crankQ.trans h.crankQ
  stamp := hs.trans h.stamp
  lastIdx := hl.trans h.lastIdx
  next := (k.fields (Fld.TRK_POS_NEXT x) (by simp [edgeFields])).trans h.next
  forward := h.forward ▸ congrArg (· != 0) (k.fields (Fld.TRK_STAT_DIR x) (by simp [edgeFields]))

theorem tookTooth_predict {x : Fin 2} {tp : Nat} {s t : State} (h : TookTooth x tp s t) (tq j sN : Nat) : TookTooth x tp s (t.predict x tq j sN) := by
  obtain ⟨ps, pl⟩ := place_predict t x tq j sN
  have k : TrkKept (edgeFields x) x t (t.predict x tq j sN) := kept_predict (edgeFields_subset x) (trkKept_refl _ x t) tq j sN
  exact tookTooth_kept h k ps pl

theorem pushed_queue (p : Bool) (t : Trk) (span ti : Nat) : (if p then t.pushInterval span ti else t).crankQ = t.crankQ := by
  cases p <;> rfl

theorem syncEdge_forward (s : State) (x : Fin 2) (tp : Nat) (hst : s.trkState x = 3 ∨ s.trkState x = 4) (hrev : (s.trk x).wasReverse = false) :
    TookTooth x tp s (s.syncEdge x tp) := by
  unfold State.syncEdge
  extract_lets c w i wasRev ti span j s2 follows missed w2 s3 s4 s5 s5k w6 s6 s7
  have hc : c = s.set (Fld.TRK_STAT_COAST_N x) 0 := by
    refine leaveCoast_sync ?_
    rw [State.trkState, get_set_apart s 0 ((by decide : ∀ x : Fin 2, fieldsApart (Fld.TRK_STAT_STATE x) (Fld.TRK_STAT_COAST_N x) = true) x)]
    rcases hst with h | h <;> rw [State.trkState] at h <;> omega
  have hw : w = s.trk x := by
    unfold w
    rw [hc, trk_set]
  have hi : i = s.nextN x := by
    unfold i State.nextN
    rw [hc, get_set_apart s 0 ((by decide : ∀ x : Fin 2, fieldsApart (Fld.TRK_POS_NEXT x) (Fld.TRK_STAT_COAST_N x) = true) x)]
  have hj : j = s.nextTooth x i := by
    unfold j
    rw [hc, nextTooth_kept (wheelKept_set s (coastN_high x) 0) x]
  have hw2 : s2.trk x = w := rfl
  have hd2 : s2.trkReverse x = false := flag_set_zero _ (show 7 + 1 ≤ 32 by decide)
  have hf : wasRev = false := (congrArg Trk.wasReverse hw).trans hrev
  clear_value s2 follows missed ti span
  have h3 : TrkKept (edgeFields x) x s2 s3 := trkKept_ite (trkKept_setTrk (trkKept_refl _ x s2) _) (trkKept_refl _ x s2)
  clear_value s3
  have h4 : TrkKept (edgeFields x) x s2 s4 := trkKept_ite (kept_gapCheck h3 _ _ _ _) h3
  clear_value s4
  have h5 : TrkKept (edgeFields x) x s2 s5 := kept_judgeModel h4 ti
  clear_value s5
  have h5k : TrkKept (edgeFields x) x s2 s5k := trkKept_ite (kept_learnK h5 _ _ _ _ _) h5
  clear_value s5k
  have hq6 : w6.crankQ = (s5k.trk x).crankQ := pushed_queue _ _ span ti
  clear_value w6
  have h6 : (s6.trk x).crankQ = w6.crankQ ∧ (s6.trk x).stamp = tp ∧ (s6.trk x).lastIdx = i := by
    unfold s6
    rw [trk_setTrk_own]
    exact ⟨rfl, rfl, rfl⟩
  have hd6 : s6.trkReverse x = false := hd2 ▸ congrArg (· != 0) (h5k.fields (Fld.TRK_STAT_DIR x) (by simp [edgeFields]))
  clear_value s6
  obtain ⟨hq, hs, hl⟩ := h6
  have hn7 : s7.nextN x = j % 1024 := get_set s6 (Fld.TRK_POS_NEXT x) j (show 0 + 10 ≤ 32 by decide)
  have hd7 : s7.trkReverse x = false := by
    unfold s7 State.trkReverse
    rw [flag_set_apart s6 j ((by decide : ∀ x : Fin 2, fieldsApart (Fld.TRK_STAT_DIR x) (Fld.TRK_POS_NEXT x) = true) x)]
    exact hd6
  have h7 : TookTooth x tp s s7 := {
    crankQ := hq.trans (hq6.trans (h5k.crankQ.trans (congrArg Trk.crankQ (hw2.trans hw))))
    stamp := hs
    lastIdx := hl.trans hi
    next := by rw [hn7, hj, hi]
    forward := hd7 }
  clear_value s7
  rw [if_neg (by rw [hf]; decide)]
  split
  · exact tookTooth_predict h7 tp j _
  · exact h7

-- ── A crank edge by the state of its tracker (R38, R61, R89) ──────────────────────────────────────────────────────

/-- The interval that a crank edge closes; none at the first edge of a tracker that stood. -/
def State.interval (s : State) (x : Nat) (e : WheelEdge) : Nat :=
  if (s.trk x).edges = 0 && s.trkState x = 0 then 0 else e.stamp - (s.trk x).stamp

/-- The edge's interval shows, and its time is noted. -/
def State.timed (s : State) (x : Nat) (e : WheelEdge) : State :=
  (s.set (Fld.TRK_TINT_TINT x) (if s.interval x e = 0 then 0xFFFFFFFF else Nat.min 0xFFFFFFFF (s.interval x e / 16))).setTrk x
    { s.trk x with edgeAt := s.now, prevStamp := (s.trk x).stamp }

/-- A stopped tracker without a preset goes to SEEK with its first edge. -/
def State.firstEdge (s : State) (x : Nat) (e : WheelEdge) : State :=
  let s3 := (s.setTrkState x 2).setFlag (Fld.TRK_STAT_DIR x) e.reverse
  s3.setTrk x { s3.trk x with
    stamp := e.stamp, edges := if e.reverse then 0 else 1, teeth := if e.reverse then 0 else 1, wasReverse := e.reverse }

/-- An edge while searching, with the interval `ti` that the search may use. -/
def State.searchEdge (s : State) (x : Nat) (e : WheelEdge) (ti : Nat) : State :=
  let s1 := (s.set (Fld.TRK_STAT_COAST_N x) 0).setFlag (Fld.TRK_STAT_DIR x) e.reverse
  if e.reverse then s1.setTrk x { freshSearch (s1.trk x) 0 with stamp := e.stamp, wasReverse := true }
  else
    let s3 := s1.seekEdge x e.stamp ti
    s3.setTrk x { s3.trk x with stamp := e.stamp, wasReverse := false }

/-- An edge in PRESET that is no extra tooth. -/
def State.presetStep (s : State) (x : Nat) (e : WheelEdge) (ti : Nat) : State :=
  let s3 := (s.setFlag (Fld.TRK_STAT_DIR x) e.reverse).presetEdge x e.stamp ti e.reverse
  s3.setTrk x { s3.trk x with stamp := e.stamp, wasReverse := e.reverse }

/-- What an edge that is no extra tooth does, by the state. -/
def State.edgeActs (s : State) (x : Nat) (e : WheelEdge) : State :=
  if s.trkState x = 0 then
    (if s.presetApplies x then (s.timed x e).presetFirst x e.stamp e.reverse else (s.timed x e).firstEdge x e)
  else if s.trkState x = 2 || s.trkState x = 6 then
    (s.timed x e).searchEdge x e (if (s.trk x).edges = 0 || (s.trk x).wasReverse then 0 else s.interval x e)
  else if s.trkState x = 1 then (s.timed x e).presetStep x e (s.interval x e)
  else if e.reverse then (s.timed x e).reverseEdge x e.stamp
  else (s.timed x e).syncEdge x e.stamp

/-- In synchronisation the edge of an extra tooth moves no position. -/
def State.extraTooth (s : State) (x : Nat) : State :=
  let s1 := ((s.set (Fld.TRK_STAT_COAST_N x) 0).leaveCoast x).set (Fld.TRK_STAT_DIR x) 0
  s1.setTrk x { s1.trk x with extras := (s1.trk x).extras + 1 }

/-- The edge counts as accepted; the voter takes its sample. -/
def State.edgeTaken (s t : State) (x : Nat) (e : WheelEdge) : State :=
  (t.setTrk x { t.trk x with lastStamp := e.stamp, edgeAt := s.now }).voterSample x

theorem edgeNow_eq (s : State) (x : Nat) (e : WheelEdge) : s.edgeNow x e =
    if !s.windowOpen x e then s.windowReject x
    else if inSync (s.trkState x) && !e.reverse && (if (s.trk x).wasReverse then (s.nextExtra x).isSome else s.isExtraEdge x e.stamp) then
      s.edgeTaken (s.extraTooth x) x e
    else if s.trkState x = 1 && !e.reverse && (s.nextExtra x).isSome then s.edgeTaken ((s.set (Fld.TRK_STAT_DIR x) 0).presetExtra x e.stamp) x e
    else if s.trkState x = 1 && e.reverse && (s.trk x).extras != 0 then s.edgeTaken ((s.set (Fld.TRK_STAT_DIR x) 1).presetExtraBack x e.stamp) x e
    else s.edgeTaken (s.edgeActs x e) x e := rfl

section edge
variable {s : State} {x : Fin 2} {e : WheelEdge}

theorem edgeNow_acts (hw : s.windowOpen x e = true)
    (h1 : (inSync (s.trkState x) && !e.reverse && (if (s.trk x).wasReverse then (s.nextExtra x).isSome else s.isExtraEdge x e.stamp)) = false)
    (h2 : (s.trkState x = 1 && !e.reverse && (s.nextExtra x).isSome) = false)
    (h3 : (s.trkState x = 1 && e.reverse && (s.trk x).extras != 0) = false) :
    s.edgeNow x e = s.edgeTaken (s.edgeActs x e) x e := by
  rw [edgeNow_eq, hw, h1, h2, h3, if_neg (by decide), if_neg (by decide), if_neg (by decide), if_neg (by decide)]

theorem windowOpen_unsynced (h : inSync (s.trkState x) = false) : s.windowOpen x e = true := by
  unfold State.windowOpen
  dsimp only
  rw [h]
  rfl

/-- Outside synchronisation and PRESET every edge acts. -/
theorem edgeNow_unsynced (h : inSync (s.trkState x) = false) (hp : s.trkState x ≠ 1) : s.edgeNow x e = s.edgeTaken (s.edgeActs x e) x e := by
  refine edgeNow_acts (windowOpen_unsynced h) ?_ ?_ ?_
  · rw [h]
    rfl
  · rw [decide_eq_false hp]
    rfl
  · rw [decide_eq_false hp]
    rfl

theorem edgeNow_preset (h : s.trkState x = 1) (hn : (s.nextExtra x).isSome = false) (he : (s.trk x).extras = 0) :
    s.edgeNow x e = s.edgeTaken (s.edgeActs x e) x e := by
  have hsync : inSync (s.trkState x) = false := by
    rw [h]
    rfl
  refine edgeNow_acts (windowOpen_unsynced hsync) ?_ ?_ ?_
  · rw [hsync]
    rfl
  · rw [hn, Bool.and_false]
  · rw [he]
    exact Bool.and_false _

theorem edgeNow_synced (h : s.trkState x = 3 ∨ s.trkState x = 4) (hw : s.windowOpen x e = true)
    (hx : e.reverse = true ∨ ((s.trk x).wasReverse = false ∧ s.isExtraEdge x e.stamp = false)) :
    s.edgeNow x e = s.edgeTaken (s.edgeActs x e) x e := by
  have hp : s.trkState x ≠ 1 := by omega
  refine edgeNow_acts hw ?_ ?_ ?_
  · rcases hx with hr | ⟨hr, hx⟩
    · rw [hr, Bool.not_true, Bool.and_false, Bool.false_and]
    · rw [hr, if_neg Bool.false_ne_true, hx, Bool.and_false]
  · rw [decide_eq_false hp]
    rfl
  · rw [decide_eq_false hp]
    rfl

end edge

section outcome
variable {l : List FReg} {s t : State} {x : Fin 2} {e : WheelEdge}

theorem kept_timed (s : State) (x : Fin 2) (e : WheelEdge) : TrkKept (stateFields x) x s (s.timed x e) := by
  have h1 : ∀ v, TrkKept (stateFields x) x s (s.set (Fld.TRK_TINT_TINT x) v) :=
    fun v => kept_stateReg (trkKept_refl _ x s) (Fld.TRK_TINT_TINT x) (by simp [quietRegs]) v
  exact trkKept_setTrk (h1 _) _

theorem trk_timed (s : State) (x : Nat) (e : WheelEdge) : (s.timed x e).trk x = { s.trk x with edgeAt := s.now, prevStamp := (s.trk x).stamp } :=
  trk_setTrk_own _ x _

theorem wheelKept_timed (s : State) (x : Nat) (e : WheelEdge) : wheelKept s (s.timed x e) := by
  have hset := wheelKept_set s (show 0x40090000 ≤ (Fld.TRK_TINT_TINT x).addr by simp only [Fld.TRK_TINT_TINT, Reg.TRK_TINT]; omega)
    (if s.interval x e = 0 then 0xFFFFFFFF else Nat.min 0xFFFFFFFF (s.interval x e / 16))
  exact wheelKept_setTrk hset x _

theorem trkState_kept (k : TrkKept (stateFields x) x s t) : t.trkState x = s.trkState x := k.fields (Fld.TRK_STAT_STATE x) (by simp [stateFields])

theorem trkReverse_kept (k : TrkKept (stateFields x) x s t) : t.trkReverse x = s.trkReverse x :=
  congrArg (· != 0) (k.fields (Fld.TRK_STAT_DIR x) (by simp [stateFields, edgeFields]))

theorem nextN_kept (k : TrkKept (stateFields x) x s t) : t.nextN x = s.nextN x := k.fields (Fld.TRK_POS_NEXT x) (by simp [stateFields, edgeFields])

theorem kept_edgeTaken (hl : l ⊆ stateFields x) (k : TrkKept l x s t) (v : State) (e : WheelEdge) : TrkKept l x s (v.edgeTaken t x e) := by
  have h1 : TrkKept l x s (t.setTrk x { t.trk x with lastStamp := e.stamp, edgeAt := v.now }) := trkKept_setTrk k _
  exact kept_voterSample hl h1

theorem trk_edgeTaken (v t : State) (x : Nat) (e : WheelEdge) : (v.edgeTaken t x e).trk x = { t.trk x with lastStamp := e.stamp, edgeAt := v.now } :=
  (trks_trk (trks_voterSample _ x) x).trans (trk_setTrk_own t x _)

-- The first edge of a stopped tracker

theorem firstEdge_shows (s : State) (x : Fin 2) (e : WheelEdge) : (s.firstEdge x e).trkState x = 2 ∧ (s.firstEdge x e).trkReverse x = e.reverse ∧
    (s.firstEdge x e).get (Fld.TRK_STAT_PRESET_MISS x) = s.get (Fld.TRK_STAT_PRESET_MISS x) := by
  have hset : ∀ (u : State) (w : Trk) (f : FReg), (u.setTrk x w).get f = u.get f := fun _ _ _ => rfl
  have hapart := (by decide : ∀ x : Fin 2, fieldsApart (Fld.TRK_STAT_STATE x) (Fld.TRK_STAT_DIR x) = true ∧
    fieldsApart (Fld.TRK_STAT_PRESET_MISS x) (Fld.TRK_STAT_DIR x) = true) x
  obtain ⟨hs, hm⟩ := hapart
  unfold State.firstEdge
  refine ⟨?_, ?_, ?_⟩
  · rw [State.trkState, hset, State.setFlag, get_set_apart _ _ hs]
    exact trkState_setTrkState s x (by decide)
  · exact flag_setFlag _ (Fld.TRK_STAT_DIR x) e.reverse (show 7 + 1 ≤ 32 by decide) Nat.one_pos
  · rw [hset, State.setFlag, get_set_apart _ _ hm]
    exact (kept_enter s x 2).fields _ (by simp [edgeFields])

theorem trk_firstEdge (h : s.trkState x = 0) : ((s.firstEdge x e).trk x).stamp = e.stamp ∧
    ((s.firstEdge x e).trk x).edges = (if e.reverse then 0 else 1) ∧ ((s.firstEdge x e).trk x).crankQ = (s.trk x).crankQ ∧
    ((s.firstEdge x e).trk x).wrapPend = (s.trk x).wrapPend := by
  have hrec : ((s.setTrkState x 2).setFlag (Fld.TRK_STAT_DIR x) e.reverse).trk x = (s.trk x).entering 2 :=
    trk_setTrkState s x 2 (by rw [h]; decide)
  obtain ⟨hq, -, hwp, -⟩ := entering_queues (s.trk x) 2
  unfold State.firstEdge
  dsimp only
  rw [trk_setTrk_own, hrec]
  exact ⟨rfl, rfl, hq, hwp⟩

-- The first edge of a tracker that takes its preset

theorem presetFirst_shows (s : State) (x : Fin 2) (tp : Nat) (rev : Bool) : (s.presetFirst x tp rev).trkState x = 1 ∧
    (s.presetFirst x tp rev).trkReverse x = rev := by
  have hset : ∀ (u : State) (w : Trk) (f : FReg), (u.setTrk x w).get f = u.get f := fun _ _ _ => rfl
  have hapart := (by decide : ∀ x : Fin 2, fieldsApart (Fld.TRK_STAT_STATE x) (Fld.TRK_SPEED_SPEED x) = true ∧
    fieldsApart (Fld.TRK_STAT_STATE x) (Fld.TRK_POS_NEXT x) = true ∧ fieldsApart (Fld.TRK_STAT_STATE x) (Fld.TRK_STAT_DIR x) = true ∧
    fieldsApart (Fld.TRK_STAT_DIR x) (Fld.TRK_SPEED_SPEED x) = true ∧ fieldsApart (Fld.TRK_STAT_DIR x) (Fld.TRK_POS_NEXT x) = true) x
  obtain ⟨hs, hp, hd, hds, hdp⟩ := hapart
  unfold State.presetFirst State.showRate
  extract_lets n i s1 rate a w s2
  refine ⟨?_, ?_⟩
  · have h2 : s2.get (Fld.TRK_STAT_STATE x) = 1 := by
      unfold s2
      rw [hset]
      unfold s1
      rw [get_set_apart _ _ hd]
      exact trkState_setTrkState s x (by decide)
    clear_value s2
    rw [State.trkState, get_set_apart _ _ hs, get_set_apart _ _ hp, h2]
  · have h2 : s2.trkReverse x = rev := flag_setFlag (s.setTrkState x 1) (Fld.TRK_STAT_DIR x) rev (show 7 + 1 ≤ 32 by decide) Nat.one_pos
    clear_value s2
    rw [State.trkReverse, flag_set_apart _ _ hds, flag_set_apart _ _ hdp]
    exact h2

theorem trk_presetFirst (h : s.trkState x = 0) (tp : Nat) (rev : Bool) : ((s.presetFirst x tp rev).trk x).stamp = tp ∧
    ((s.presetFirst x tp rev).trk x).crankQ = (s.trk x).crankQ ∧ ((s.presetFirst x tp rev).trk x).preset = false ∧
    ((s.presetFirst x tp rev).trk x).lastIdx = (if rev then s.prevTooth x (s.nextN x) else s.nextN x) ∧
    ((s.presetFirst x tp rev).trk x).wrapPend = (s.trk x).wrapPend := by
  unfold State.presetFirst
  extract_lets n i s1 rate a w s2
  have hrec : s1.trk x = (s.trk x).entering 1 := trk_setTrkState s x 1 (by rw [h]; decide)
  obtain ⟨hq, -, hwp, -⟩ := entering_queues (s.trk x) 1
  rw [← hrec] at hq hwp
  have hi : i = if rev then s.prevTooth x (s.nextN x) else s.nextN x := rfl
  rw [trk_showRate, trk_set]
  clear_value s1 rate a i
  unfold s2
  rw [trk_setTrk_own]
  exact ⟨rfl, hq, rfl, hi, hwp⟩

end outcome

-- ── What an edge does in SEEK, LOST and PRESET, and backward (R70, R84, R85, R89) ─────────────────────────────────

section acts
variable (s : State) (x : Fin 2) (e : WheelEdge) (ti : Nat)

theorem searchEdge_shows : ((s.searchEdge x e ti).trk x).stamp = e.stamp ∧ ((s.searchEdge x e ti).trk x).crankQ = (s.trk x).crankQ ∧
    ((s.searchEdge x e ti).trk x).wasReverse = e.reverse ∧ (e.reverse = true → ((s.searchEdge x e ti).trk x).edges = 0 ∧
      ((s.searchEdge x e ti).trk x).marks = [] ∧ ((s.searchEdge x e ti).trk x).cams = []) := by
  unfold State.searchEdge
  extract_lets s1 w s3 w3
  have h1 : TrkKept [] x s s1 := queues_set (queues_set (trkKept_refl _ x s) (Fld.TRK_STAT_COAST_N x) 0) (Fld.TRK_STAT_DIR x) _
  clear_value s1
  have h3 : TrkKept [] x s s3 := queues_seekEdge h1 e.stamp ti
  clear_value s3
  cases hr : e.reverse
  case true =>
    rw [if_pos rfl, trk_setTrk_own]
    exact ⟨rfl, h1.crankQ, rfl, fun _ => ⟨rfl, rfl, rfl⟩⟩
  case false =>
    rw [if_neg Bool.false_ne_true, trk_setTrk_own]
    exact ⟨rfl, h3.crankQ, rfl, fun h => absurd h Bool.false_ne_true⟩

theorem presetStep_shows : ((s.presetStep x e ti).trk x).stamp = e.stamp ∧ ((s.presetStep x e ti).trk x).crankQ = (s.trk x).crankQ ∧
    ((s.presetStep x e ti).trk x).wasReverse = e.reverse := by
  unfold State.presetStep
  extract_lets s3 w3
  have h1 : TrkKept [] x s (s.setFlag (Fld.TRK_STAT_DIR x) e.reverse) := queues_set (trkKept_refl _ x s) (Fld.TRK_STAT_DIR x) _
  have h3 : TrkKept [] x s s3 := queues_presetEdge h1 e.stamp ti e.reverse
  clear_value s3
  rw [trk_setTrk_own]
  exact ⟨rfl, h3.crankQ, rfl⟩

end acts

/-- What a reverse edge of tooth `n` leaves: the angle stops at it, in crawl. -/
structure SteppedBack (x n : Nat) (s u : State) : Prop where
  crankQ : (u.trk x).crankQ = (s.trk x).crankQ
  wasReverse : (u.trk x).wasReverse = true
  rate : (u.trk x).rate = 0
  next : u.nextN x = n % 1024
  reverse : u.trkReverse x = true
  crawl : u.flag (Fld.TRK_STAT_CRAWL x) = true

theorem trk_enterCrawl (s : State) (x : Nat) : (s.enterCrawl x).trk x = { s.trk x with cleanNow := false } := trk_setTrk_own _ x _

theorem crawl_enterCrawl (s : State) (x : Nat) : (s.enterCrawl x).flag (Fld.TRK_STAT_CRAWL x) = true :=
  flag_set_one s (show 8 + 1 ≤ 32 by decide) Nat.one_pos

theorem standBack_shows (s : State) (x : Fin 2) (n tp : Nat) (hst : s.trkState x = 3 ∨ s.trkState x = 4) : SteppedBack x n s (s.standBack x n tp) := by
  have hapart := (by decide : ∀ x : Fin 2, fieldsApart (Fld.TRK_STAT_STATE x) (Fld.TRK_POS_NEXT x) = true ∧
    fieldsApart (Fld.TRK_STAT_STATE x) (Fld.TRK_STAT_DIR x) = true ∧ fieldsApart (Fld.TRK_POS_NEXT x) (Fld.TRK_STAT_DIR x) = true ∧
    fieldsApart (Fld.TRK_STAT_CRAWL x) (Fld.TRK_STAT_PRED x) = true) x
  obtain ⟨hsp, hsd, hnd, hcp⟩ := hapart
  unfold State.standBack
  extract_lets a w s1 s2
  have hq := stepTo_queues (s.trk x) a
  rw [show (s.trk x).stepTo a = w from rfl] at hq
  clear_value w a
  have h1 : (s1.trk x).crankQ = w.crankQ ∧ (s1.trk x).wasReverse = true ∧ (s1.trk x).rate = 0 := by
    unfold s1
    rw [trk_setTrk_own]
    exact ⟨rfl, rfl, rfl⟩
  have hs1 : s1.trkState x = s.trkState x := rfl
  clear_value s1
  obtain ⟨hcq, hwr, hrate⟩ := h1
  -- N and the direction, before the rate and crawl show
  obtain ⟨t, ht⟩ : ∃ t, t = (s1.set (Fld.TRK_POS_NEXT x) n).set (Fld.TRK_STAT_DIR x) 1 := ⟨_, rfl⟩
  have htrk : t.trk x = s1.trk x := by rw [ht, trk_set, trk_set]
  have hnext : t.nextN x = n % 1024 := by
    rw [ht, State.nextN, get_set_apart _ _ hnd]
    exact get_set s1 (Fld.TRK_POS_NEXT x) n (show 0 + 10 ≤ 32 by decide)
  have hdir : t.trkReverse x = true := ht ▸ flag_set_one _ (show 7 + 1 ≤ 32 by decide) Nat.one_pos
  have hstate : t.trkState x = s.trkState x := by rw [ht, State.trkState, get_set_apart _ _ hsd, get_set_apart _ _ hsp, ← hs1]; rfl
  have h2 : TrkKept (stateFields x) x t s2 := ht ▸ kept_showRate (List.Subset.refl _) (trkKept_refl _ x _)
  have ht2 : s2.trk x = t.trk x := by
    rw [ht]
    exact trk_showRate _ x x
  clear_value s2
  rw [if_pos (by rw [trkState_kept h2, hstate]; exact hst)]
  have h3 : TrkKept (stateFields x) x t (s2.enterCrawl x) := kept_enterCrawl (List.Subset.refl _) h2
  have h4 : TrkKept (stateFields x) x t ((s2.enterCrawl x).set (Fld.TRK_STAT_PRED x) 1) :=
    kept_stateReg h3 (Fld.TRK_STAT_PRED x) (by simp [quietRegs]) 1
  have hrec : ((s2.enterCrawl x).set (Fld.TRK_STAT_PRED x) 1).trk x = { s1.trk x with cleanNow := false } := by
    rw [trk_set, trk_enterCrawl, ht2, htrk]
  exact {
    crankQ := by rw [h4.crankQ, htrk, hcq, hq.1]
    wasReverse := by rw [hrec, ← hwr]
    rate := by rw [hrec, ← hrate]
    next := (nextN_kept h4).trans hnext
    reverse := (trkReverse_kept h4).trans hdir
    crawl := (flag_set_apart _ 1 hcp).trans (crawl_enterCrawl s2 x) }

theorem reverseEdge_shows (s : State) (x : Fin 2) (tp : Nat) (hst : s.trkState x = 3 ∨ s.trkState x = 4) (hx : (s.trk x).extras = 0) :
    SteppedBack x (s.prevTooth x (s.nextN x)) s (s.reverseEdge x tp) := by
  have hapart := (by decide : ∀ x : Fin 2, fieldsApart (Fld.TRK_STAT_STATE x) (Fld.TRK_STAT_COAST_N x) = true ∧
    fieldsApart (Fld.TRK_POS_NEXT x) (Fld.TRK_STAT_COAST_N x) = true) x
  unfold State.reverseEdge
  extract_lets c w n extras w1 s1 w2
  have hcst : (s.set (Fld.TRK_STAT_COAST_N x) 0).trkState x = s.trkState x := get_set_apart s 0 hapart.1
  have hc : c = s.set (Fld.TRK_STAT_COAST_N x) 0 := leaveCoast_sync (by omega)
  have hw : w = s.trk x := by
    unfold w
    rw [hc, trk_set]
  have hn : n = s.prevTooth x (s.nextN x) := by
    unfold n
    rw [hw, if_pos hx, hc, State.nextN, get_set_apart s 0 hapart.2,
      prevTooth_kept (wheelKept_set s (coastN_high x) 0) x]
    rfl
  rw [if_pos (by rw [hw]; exact hx), ← hn]
  have hput : ∀ u : Trk, u.crankQ = w.crankQ → SteppedBack x n s ((c.setTrk x u).standBack x n tp) := by
    intro u hu
    have hstand := standBack_shows (c.setTrk x u) x n tp (by rw [← hcst, ← hc] at hst; exact hst)
    exact { hstand with crankQ := by rw [hstand.crankQ, trk_setTrk_own, hu, hw] }
  exact hput _ rfl

-- ── The row of a crank edge (R33, R61–R89) ────────────────────────────────────────────────────────────────────────

/-- The outcome `u` of an edge that tracker `x` of `w` has acted on: what the voter and R15 make of it. -/
def State.edgeOutcome (w u : State) (x : Nat) (accepted : Bool) : State :=
  u.afterTracker w x (x == w.sel && (u.trk x).wrapPend && !(w.trk x).wrapPend)
    (resynced (w.trkState x) (u.trkState x) (w.get (Fld.TRK_STAT_PRESET_MISS x) == 0 && u.get (Fld.TRK_STAT_PRESET_MISS x) == 1)) accepted

theorem edgeOutcome_unwrapped {w u : State} {x : Nat} (hp : (u.trk x).wrapPend = (w.trk x).wrapPend) (accepted : Bool) :
    w.edgeOutcome u x accepted = u.afterTracker w x false
      (resynced (w.trkState x) (u.trkState x) (w.get (Fld.TRK_STAT_PRESET_MISS x) == 0 && u.get (Fld.TRK_STAT_PRESET_MISS x) == 1)) accepted := by
  have hw : (x == w.sel && (u.trk x).wrapPend && !(w.trk x).wrapPend) = false := by
    rw [hp, Bool.and_assoc, Bool.and_not_self, Bool.and_false]
  unfold State.edgeOutcome
  rw [hw]

theorem missed_same {w u : State} {f : FReg} (h : u.get f = w.get f) : (w.get f == 0 && u.get f == 1) = false := by
  rw [h]
  rcases Nat.eq_zero_or_pos (w.get f) with h0 | h0
  · rw [h0]
    rfl
  · rw [beq_eq_false_iff_ne.mpr (Nat.ne_of_gt h0)]
    rfl

section row
variable {s v w : State} {dt : Nat} {x : Fin 2} {e : WheelEdge} {r : List WheelEdge} (hv : s.advance dt = v)
  (hq : (v.trk x).crankQ = e :: r) (ha : e.avail ≤ v.tclk) (hpass : v.edgesPass = true) (hw : w = v.setTrk x { v.trk x with crankQ := r })
include hv hq ha hpass hw

theorem exec_crankEdge : exec (.crankEdgeAccepted dt x) s = .next (w.edgeOutcome (w.crankEdge x e) x (w.takesEdge x e)) := by
  have htake : v.takeCrank x = some (e, w) := by
    unfold State.takeCrank
    rw [hq, hw]
    dsimp only
    rw [if_pos (by rw [hpass, decide_eq_true ha]; rfl)]
  have hexec : exec (.crankEdgeAccepted dt x) s = execCrankEdgeAccepted dt x s := rfl
  rw [hexec]
  unfold execCrankEdgeAccepted
  dsimp only
  rw [hv, htake]
  rfl

section now
variable (hp : v.posRev x ≠ 0) (hsrc : v.get (Fld.TRK_CTRL_SRC x) = 0) (hrel : e.relabel = false)
include hp hsrc hrel

/-- An edge that is no direction change acts on the tracker as it stands. -/
theorem exec_edgeNow : exec (.crankEdgeAccepted dt x) s = .next (w.edgeOutcome ((w.edgeNow x e).noteBefore w x e) x (w.windowOpen x e)) := by
  have hwp : w.posRev x ≠ 0 := by rw [hw]; exact hp
  have hws : w.get (Fld.TRK_CTRL_SRC x) = 0 := by rw [hw]; exact hsrc
  have hstale : w.staleLabel x e = false := by
    unfold State.staleLabel
    rw [hrel]
    rfl
  have hedge : w.crankEdge x e = (w.edgeNow x e).noteBefore w x e := by
    unfold State.crankEdge
    rw [hstale, hws, hrel, decide_eq_false hwp]
    rfl
  have htakes : w.takesEdge x e = w.windowOpen x e := by
    unfold State.takesEdge
    rw [hws, hrel, bne_iff_ne.mpr hwp]
    rfl
  rw [exec_crankEdge hv hq ha hpass hw, hedge, htakes]

end now
end row

-- ── The outcome of an edge by the state of its tracker ────────────────────────────────────────────────────────────

/-- Tracker `x` of `w` has acted on the edge `e`, no direction change: the state before the voter. -/
def State.edgeDone (w : State) (x : Nat) (e : WheelEdge) : State := (w.edgeNow x e).noteBefore w x e

theorem voterSample_sameBut (s : State) (x : Nat) : s.sameBut (s.voterSample x) [Reg.TRK_DIFF, Reg.TRK_VSEL] := by
  unfold State.voterSample
  extract_lets d s1 n v s2 s3
  have h1 : s.sameBut s1 [Reg.TRK_DIFF, Reg.TRK_VSEL] := sameBut_set (sameBut_refl s _) Fld.TRK_DIFF_DIFF (by simp [Fld.TRK_DIFF_DIFF]) _
  have h2 : s.sameBut s2 [Reg.TRK_DIFF, Reg.TRK_VSEL] := sameBut_of_regs h1 rfl rfl
  have h3 : s.sameBut s3 [Reg.TRK_DIFF, Reg.TRK_VSEL] := sameBut_of_regs h1 rfl rfl
  clear_value s2 s3
  have hin : Reg.TRK_VSEL ∈ [Reg.TRK_DIFF, Reg.TRK_VSEL] := by simp
  have hd : ∀ n, s.sameBut (s2.set Fld.TRK_VSEL_DISAGREE n) [Reg.TRK_DIFF, Reg.TRK_VSEL] := fun n => sameBut_set h2 Fld.TRK_VSEL_DISAGREE hin n
  exact sameBut_ite (sameBut_refl s _) (sameBut_ite
    (sameBut_ite (sameBut_irq (sameBut_raiseFlag (hd 1) Fld.TRK_VSEL_DIS_SEEN hin) 47) h2)
    (sameBut_ite (sameBut_set h3 Fld.TRK_VSEL_DISAGREE hin 0) h3))

section outcome
variable {w t : State} {x : Fin 2} {e : WheelEdge}

/-- The acceptance of an edge and the note of it change little of the state `t` that the edge has made. -/
theorem edgeDone_taken (h : w.edgeNow x e = w.edgeTaken t x e) : (w.edgeDone x e).trk x = { t.trk x with lastStamp := e.stamp, edgeAt := w.now } ∧
    TrkKept (stateFields x) x t (w.edgeDone x e) ∧ t.sameBut (w.edgeDone x e) [Reg.TRK_DIFF, Reg.TRK_VSEL] := by
  have k : TrkKept (stateFields x) x t (w.edgeTaken t x e) := kept_edgeTaken (List.Subset.refl _) (trkKept_refl _ x t) w e
  have hb : t.sameBut (w.edgeTaken t x e) [Reg.TRK_DIFF, Reg.TRK_VSEL] :=
    voterSample_sameBut (t.setTrk x { t.trk x with lastStamp := e.stamp, edgeAt := w.now }) x
  have hrec := trk_edgeTaken w t x e
  unfold State.edgeDone
  rw [h]
  exact ⟨hrec, trkKept_of_eq k rfl rfl, sameBut_of_regs hb rfl rfl⟩

/-- A stopped tracker without a preset goes to SEEK with its first edge. -/
theorem outcome_first (hst : w.trkState x = 0) (hpre : (w.trk x).preset = false) : ∃ u : State,
    w.edgeOutcome (w.edgeDone x e) x (w.windowOpen x e) = u.afterTracker w x false false true ∧
    u.trkState x = 2 ∧ (u.trk x).stamp = e.stamp ∧ (u.trk x).crankQ = (w.trk x).crankQ ∧ (u.trk x).edges = (if e.reverse then 0 else 1) ∧
    u.trkReverse x = e.reverse := by
  have hsync : inSync (w.trkState x) = false := by rw [hst]; rfl
  have happ : w.presetApplies x = false := by
    unfold State.presetApplies
    rw [hpre]
    rfl
  have hacts : w.edgeActs x e = (w.timed x e).firstEdge x e := by
    unfold State.edgeActs
    rw [if_pos hst, happ]
    rfl
  obtain ⟨hrec, k, -⟩ := edgeDone_taken (hacts ▸ edgeNow_unsynced (e := e) hsync (by omega))
  obtain ⟨hs2, hdir, hmiss⟩ := firstEdge_shows (w.timed x e) x e
  obtain ⟨hstamp, hedges, hq, hwp⟩ := trk_firstEdge (e := e) ((trkState_kept (kept_timed w x e)).trans hst)
  have ht := trk_timed w x e
  have hm := (kept_timed w x e).fields (Fld.TRK_STAT_PRESET_MISS x) (by simp [stateFields, edgeFields])
  generalize w.edgeDone x e = u at *
  have hwrap : (u.trk x).wrapPend = (w.trk x).wrapPend := by rw [hrec, hwp, ht]
  have hstate : u.trkState x = 2 := (trkState_kept k).trans hs2
  have hpm : u.get (Fld.TRK_STAT_PRESET_MISS x) = w.get (Fld.TRK_STAT_PRESET_MISS x) :=
    (k.fields _ (by simp [stateFields, edgeFields])).trans (hmiss.trans hm)
  refine ⟨u, ?_, hstate, ?_, ?_, ?_, (trkReverse_kept k).trans hdir⟩
  · rw [edgeOutcome_unwrapped hwrap, missed_same hpm, hst, hstate, windowOpen_unsynced hsync]
    rfl
  · rw [hrec, hstamp]
  · rw [hrec, hq, ht]
  · rw [hrec, hedges]

/-- A stopped tracker takes its preset with its first edge. -/
theorem outcome_preset (hst : w.trkState x = 0) (hpre : w.presetApplies x = true) : ∃ u : State,
    w.edgeOutcome (w.edgeDone x e) x (w.windowOpen x e) = u.afterTracker w x false true true ∧
    u.trkState x = 1 ∧ (u.trk x).stamp = e.stamp ∧ (u.trk x).crankQ = (w.trk x).crankQ ∧ (u.trk x).preset = false ∧
    (u.trk x).lastIdx = (if e.reverse then w.prevTooth x (w.nextN x) else w.nextN x) ∧ u.trkReverse x = e.reverse := by
  have hsync : inSync (w.trkState x) = false := by rw [hst]; rfl
  have hacts : w.edgeActs x e = (w.timed x e).presetFirst x e.stamp e.reverse := by
    unfold State.edgeActs
    rw [if_pos hst, if_pos hpre]
  obtain ⟨hrec, k, -⟩ := edgeDone_taken (hacts ▸ edgeNow_unsynced (e := e) hsync (by omega))
  obtain ⟨hs1, hdir⟩ := presetFirst_shows (w.timed x e) x e.stamp e.reverse
  obtain ⟨hstamp, hq, hp, hi, hwp⟩ := trk_presetFirst ((trkState_kept (kept_timed w x e)).trans hst) e.stamp e.reverse
  rw [nextN_kept (kept_timed w x e), prevTooth_kept (wheelKept_timed w x e)] at hi
  have ht := trk_timed w x e
  generalize w.edgeDone x e = u at *
  have hwrap : (u.trk x).wrapPend = (w.trk x).wrapPend := by rw [hrec, hwp, ht]
  have hstate : u.trkState x = 1 := (trkState_kept k).trans hs1
  refine ⟨u, ?_, hstate, ?_, ?_, ?_, ?_, (trkReverse_kept k).trans hdir⟩
  · rw [edgeOutcome_unwrapped hwrap, hst, hstate, windowOpen_unsynced hsync]
    generalize (w.get (Fld.TRK_STAT_PRESET_MISS x) == 0 && u.get (Fld.TRK_STAT_PRESET_MISS x) == 1) = b
    cases b <;> rfl
  · rw [hrec, hstamp]
  · rw [hrec, hq, ht]
  · rw [hrec, hp]
  · rw [hrec, hi]

/-- In PRESET an edge beside the extra teeth is the last edge. -/
theorem outcome_presetStep (hst : w.trkState x = 1) (hn : (w.nextExtra x).isSome = false) (hx : (w.trk x).extras = 0) : ∃ (u : State) (a b : Bool),
    w.edgeOutcome (w.edgeDone x e) x (w.windowOpen x e) = u.afterTracker w x a b true ∧ (u.trk x).stamp = e.stamp ∧
    (u.trk x).crankQ = (w.trk x).crankQ ∧ (u.trk x).wasReverse = e.reverse := by
  have hsync : inSync (w.trkState x) = false := by rw [hst]; rfl
  have hacts : w.edgeActs x e = (w.timed x e).presetStep x e (w.interval x e) := by
    unfold State.edgeActs
    rw [hst]
    rfl
  obtain ⟨hrec, -, -⟩ := edgeDone_taken (hacts ▸ edgeNow_preset (e := e) hst hn hx)
  obtain ⟨hstamp, hq, hwr⟩ := presetStep_shows (w.timed x e) x e (w.interval x e)
  have ht := trk_timed w x e
  rw [windowOpen_unsynced hsync]
  generalize w.edgeDone x e = u at *
  exact ⟨u, _, _, rfl, by rw [hrec, hstamp], by rw [hrec, hq, ht], by rw [hrec, hwr]⟩

/-- While searching an edge is the last edge; a reverse one drops the search. -/
theorem outcome_search (hst : w.trkState x = 2 ∨ w.trkState x = 6) : ∃ (u : State) (a b : Bool),
    w.edgeOutcome (w.edgeDone x e) x (w.windowOpen x e) = u.afterTracker w x a b true ∧ (u.trk x).stamp = e.stamp ∧
    (u.trk x).crankQ = (w.trk x).crankQ ∧ (u.trk x).wasReverse = e.reverse ∧
    (e.reverse = true → (u.trk x).edges = 0 ∧ (u.trk x).marks = [] ∧ (u.trk x).cams = []) := by
  have hsync : inSync (w.trkState x) = false := by rcases hst with h | h <;> rw [h] <;> rfl
  obtain ⟨ti, hacts⟩ : ∃ ti, w.edgeActs x e = (w.timed x e).searchEdge x e ti := by
    refine ⟨if (w.trk x).edges = 0 || (w.trk x).wasReverse then 0 else w.interval x e, ?_⟩
    unfold State.edgeActs
    rw [if_neg (by omega), if_pos (by rcases hst with h | h <;> rw [h] <;> rfl)]
  obtain ⟨hrec, -, -⟩ := edgeDone_taken (hacts ▸ edgeNow_unsynced (e := e) hsync (by omega))
  obtain ⟨hstamp, hq, hwr, hback⟩ := searchEdge_shows (w.timed x e) x e ti
  have ht := trk_timed w x e
  rw [windowOpen_unsynced hsync]
  generalize w.edgeDone x e = u at *
  generalize (w.timed x e).searchEdge x e ti = t at *
  exact ⟨u, _, _, rfl, by rw [hrec, hstamp], by rw [hrec, hq, ht], by rw [hrec, hwr], fun hr => by rw [hrec]; exact hback hr⟩

/-- In synchronisation a forward edge is tooth N, and N moves on. -/
theorem outcome_forward (hst : w.trkState x = 3 ∨ w.trkState x = 4) (hr : e.reverse = false) (hwr : (w.trk x).wasReverse = false)
    (hwin : w.windowOpen x e = true) (hx : w.isExtraEdge x e.stamp = false) : ∃ (u : State) (a b : Bool),
    w.edgeOutcome (w.edgeDone x e) x (w.windowOpen x e) = u.afterTracker w x a b true ∧ (u.trk x).stamp = e.stamp ∧
    (u.trk x).crankQ = (w.trk x).crankQ ∧ (u.trk x).lastIdx = w.nextN x ∧ u.nextN x = w.nextTooth x (w.nextN x) % 1024 ∧
    u.trkReverse x = false := by
  have hacts : w.edgeActs x e = (w.timed x e).syncEdge x e.stamp := by
    unfold State.edgeActs
    rw [if_neg (by omega), if_neg (by rcases hst with h | h <;> rw [h] <;> decide), if_neg (by omega), hr]
    rfl
  obtain ⟨hrec, k, -⟩ := edgeDone_taken (hacts ▸ edgeNow_synced (e := e) hst hwin (Or.inr ⟨hwr, hx⟩))
  have ht := trk_timed w x e
  obtain ⟨hq, hstamp, hi, hnext, hdir⟩ := syncEdge_forward (w.timed x e) x e.stamp (by rw [trkState_kept (kept_timed w x e)]; exact hst)
    (by rw [ht]; exact hwr)
  rw [nextN_kept (kept_timed w x e)] at hi hnext
  rw [nextTooth_kept (wheelKept_timed w x e)] at hnext
  rw [hwin]
  generalize w.edgeDone x e = u at *
  generalize (w.timed x e).syncEdge x e.stamp = t at *
  exact ⟨u, _, _, rfl, by rw [hrec, hstamp], by rw [hrec, hq, ht], by rw [hrec, hi], (nextN_kept k).trans hnext, (trkReverse_kept k).trans hdir⟩

/-- In synchronisation a reverse edge steps N back and stops the angle. -/
theorem outcome_reverse (hst : w.trkState x = 3 ∨ w.trkState x = 4) (hr : e.reverse = true) (hx : (w.trk x).extras = 0)
    (hwin : w.windowOpen x e = true) : ∃ (u : State) (a b : Bool),
    w.edgeOutcome (w.edgeDone x e) x (w.windowOpen x e) = u.afterTracker w x a b true ∧ (u.trk x).wasReverse = true ∧
    (u.trk x).crankQ = (w.trk x).crankQ ∧ (u.trk x).rate = 0 ∧ u.nextN x = w.prevTooth x (w.nextN x) % 1024 ∧
    u.trkReverse x = true ∧ u.flag (Fld.TRK_STAT_CRAWL x) = true := by
  have hacts : w.edgeActs x e = (w.timed x e).reverseEdge x e.stamp := by
    unfold State.edgeActs
    rw [if_neg (by omega), if_neg (by rcases hst with h | h <;> rw [h] <;> decide), if_neg (by omega), if_pos hr]
  obtain ⟨hrec, k, hbut⟩ := edgeDone_taken (hacts ▸ edgeNow_synced (e := e) hst hwin (Or.inl hr))
  have ht := trk_timed w x e
  obtain ⟨hq, hwr, hrate, hnext, hdir, hcrawl⟩ := reverseEdge_shows (w.timed x e) x e.stamp (by rw [trkState_kept (kept_timed w x e)]; exact hst)
    (by rw [ht]; exact hx)
  rw [nextN_kept (kept_timed w x e), prevTooth_kept (wheelKept_timed w x e)] at hnext
  rw [hwin]
  have haddr := (by decide : ∀ x : Fin 2, (Fld.TRK_STAT_CRAWL x).addr ∉ [Reg.TRK_DIFF, Reg.TRK_VSEL] ∧
    inIrqBlock (Fld.TRK_STAT_CRAWL x).addr = false) x
  generalize w.edgeDone x e = u at *
  generalize (w.timed x e).reverseEdge x e.stamp = t at *
  exact ⟨u, _, _, rfl, by rw [hrec, hwr], by rw [hrec, hq, ht], by rw [hrec, hrate], (nextN_kept k).trans hnext, (trkReverse_kept k).trans hdir,
    (congrArg (· != 0) (sameBut_get hbut _ haddr.1 haddr.2)).trans hcrawl⟩

/-- An edge outside the window is counted and dropped. -/
theorem outcome_rejected (hwin : w.windowOpen x e = false) : ∃ (u : State) (a b : Bool),
    w.edgeOutcome (w.edgeDone x e) x (w.windowOpen x e) = u.afterTracker w x a b false ∧ (u.trk x).crankQ = (w.trk x).crankQ ∧
    u.nextN x = w.nextN x ∧ (u.trk x).healthNow = (w.trk x).healthNow + 1 := by
  have hnow : w.edgeNow x e = w.windowReject x := by
    rw [edgeNow_eq, hwin]
    rfl
  have hpos := (by decide : ∀ x : Fin 2, inIrqBlock (Fld.TRK_POS_NEXT x).addr = false ∧
    fieldsApart (Fld.TRK_POS_NEXT x) (if x.val = 0 then Fld.WHL_WREJ_TRK_A else Fld.WHL_WREJ_TRK_B) = true) x
  have hshow : (w.windowReject x).nextN x = w.nextN x ∧
      (w.windowReject x).trk x = { w.trk x with healthNow := (w.trk x).healthNow + 1, cleanNow := false } := by
    unfold State.windowReject
    extract_lets s1 w1
    have hrec : s1.trk x = w.trk x := trk_irq _ _ x
    have hn : s1.nextN x = w.nextN x := (get_irq _ _ _ hpos.1).trans (get_set_apart w _ hpos.2)
    unfold w1
    clear_value s1
    refine ⟨hn, ?_⟩
    rw [trk_setTrk_own, hrec]
  obtain ⟨hn, hrec⟩ := hshow
  unfold State.edgeDone
  rw [hnow, hwin]
  have hnote : ((w.windowReject x).noteBefore w x e).trk x = (w.windowReject x).trk x ∧
    ((w.windowReject x).noteBefore w x e).nextN x = (w.windowReject x).nextN x := ⟨rfl, rfl⟩
  generalize (w.windowReject x).noteBefore w x e = u at *
  obtain ⟨htrk, hnext⟩ := hnote
  exact ⟨u, _, _, rfl, by rw [htrk, hrec], hnext.trans hn, by rw [htrk, hrec]⟩

end outcome

-- ── A direction change of the last edge (R43, R85) ────────────────────────────────────────────────────────────────

section relabel
variable {w : State} {x : Fin 2} {e : WheelEdge}

/-- A direction change that names no edge of the tracker's, or one taken so already, is dropped. -/
theorem outcome_stale (hrel : e.relabel = true) (hs : w.staleLabel x e = true) :
    w.edgeOutcome (w.crankEdge x e) x (w.takesEdge x e) = w.afterTracker w x false false false := by
  have hedge : w.crankEdge x e = w := by
    unfold State.crankEdge
    rw [hs, Bool.or_true]
    rfl
  have htakes : w.takesEdge x e = false := by
    unfold State.takesEdge
    rw [hrel, hs]
    exact Bool.and_false _
  have hres : resynced (w.trkState x) (w.trkState x) false = false := by
    unfold resynced inSync
    grind
  rw [hedge, htakes, edgeOutcome_unwrapped rfl, missed_same rfl, hres]

/-- The last edge acts again as it should have come. -/
theorem outcome_relabel {b : TrkBefore} {y : State} (hp : w.posRev x ≠ 0) (hsrc : w.get (Fld.TRK_CTRL_SRC x) = 0) (hrel : e.relabel = true)
    (hs : w.staleLabel x e = false) (hb : w.before x = some b) (hbr : b.edge.relabel = false) (hy : y = w.undoEdge x b) (hyp : y.posRev x ≠ 0)
    (hys : y.get (Fld.TRK_CTRL_SRC x) = 0) : ∃ a c : Bool, w.edgeOutcome (w.crankEdge x e) x (w.takesEdge x e) =
      (y.crankEdge x { b.edge with reverse := e.reverse }).afterTracker w x a c true := by
  have hstale : y.staleLabel x { b.edge with reverse := e.reverse } = false := by
    unfold State.staleLabel
    rw [hbr]
    rfl
  have hagain : y.crankEdge x { b.edge with reverse := e.reverse } = y.edgeDone x { b.edge with reverse := e.reverse } := by
    unfold State.crankEdge
    rw [hstale, hys, hbr, decide_eq_false hyp]
    rfl
  have hedge : w.crankEdge x e = y.edgeDone x { b.edge with reverse := e.reverse } := by
    unfold State.crankEdge
    rw [hs, hsrc, hrel, decide_eq_false hp, hb, hy]
    rfl
  have htakes : w.takesEdge x e = true := by
    unfold State.takesEdge
    rw [hsrc, hrel, hs, bne_iff_ne.mpr hp]
    rfl
  rw [hedge, htakes, hagain]
  exact ⟨_, _, rfl⟩

end relabel

-- ── Cam edges (R66–R69) ───────────────────────────────────────────────────────────────────────────────────────────

theorem get_of_regs {s t : State} (h : t.regs = s.regs) (f : FReg) : t.get f = s.get f := by
  unfold State.get State.word
  rw [h]

theorem getLast_pushed (l : List CamSeen) (c : CamSeen) : ((l ++ [c]).drop (l.length + 1 - 8)).getLast? = some c := by
  rw [List.drop_append_of_le_length (by omega), List.getLast?_append]
  rfl

theorem camMatches_same {s t : State} (h : t.regs = s.regs) (x a : Nat) (falling : Bool) : t.camMatches x a falling = s.camMatches x a falling := by
  unfold State.camMatches State.camEntries State.flag
  simp only [get_of_regs h]

theorem resynced_synced {old : Nat} (h : old = 2 ∨ old = 3 ∨ old = 4) {new : Nat} (hn : old = 2 → new = 2) : resynced old new false = false := by
  rcases h with h | h | h
  · rw [hn h, h]
    rfl
  · rw [h]
    rfl
  · rw [h]
    rfl

section judged
variable {s : State} {x : Fin 2} {a : Nat} {falling : Bool}

theorem fixRevolution_shows (s : State) (x : Fin 2) (r : Nat) : (s.fixRevolution x r).trkState x = 4 ∧
    ((s.fixRevolution x r).trk x).camQ = (s.trk x).camQ ∧
    (s.fixRevolution x r).nextN x = if r = 0 then s.nextN x else (s.nextN x + s.posRev x) % s.posCyc x % 1024 := by
  have hsn := (by decide : ∀ x : Fin 2, fieldsApart (Fld.TRK_STAT_STATE x) (Fld.TRK_POS_NEXT x) = true) x
  have hstate : (s.setTrkState x 4).trkState x = 4 := trkState_setTrkState s x (by decide)
  have k : TrkKept (edgeFields x) x s (s.setTrkState x 4) := kept_enter s x 4
  have hnext : (s.setTrkState x 4).nextN x = s.nextN x := k.fields (Fld.TRK_POS_NEXT x) (by simp [edgeFields])
  unfold State.fixRevolution
  extract_lets s1 w
  by_cases hr : r = 0
  · rw [if_pos hr, if_pos hr]
    exact ⟨hstate, k.camQ, hnext⟩
  · rw [if_neg hr, if_neg hr]
    refine ⟨(get_set_apart _ _ hsn).trans hstate, ?_, ?_⟩
    · rw [trk_set, trk_setTrk_own]
      exact k.camQ
    · rw [← hnext]
      exact get_set _ (Fld.TRK_POS_NEXT x) _ (show 0 + 10 ≤ 32 by decide)

/-- In CRANK_SYNC an edge that fits one revolution alone fixes it. -/
theorem judgeCam_fixes (hst : s.trkState x = 3) (hr : s.revs x = 2) (hm : s.camMatches x a falling = !s.camMatches x (a + 8388608) falling) :
    s.judgeCam x a falling = s.fixRevolution x (if s.camMatches x a falling then 0 else 1) := by
  have hjudge : s.judgeCam x a falling = s.camInCrank x a falling := by
    unfold State.judgeCam
    rw [hst]
    rfl
  have hne : (s.camMatches x a falling == s.camMatches x (a + 8388608) falling) = false := by
    rw [hm]
    cases s.camMatches x (a + 8388608) falling <;> rfl
  rw [hjudge]
  unfold State.camInCrank
  dsimp only
  rw [hr, hne, hst]
  rfl

theorem judgeCam_cycle (hst : s.trkState x = 4) : s.judgeCam x a falling = s.camInCycle x a falling := by
  unfold State.judgeCam
  rw [hst]
  rfl

/-- In CYCLE_SYNC an edge that fits is good. -/
theorem judgeCam_good (hst : s.trkState x = 4) (hm : s.camMatches x a falling = true) : s.judgeCam x a falling = s.camGood x := by
  rw [judgeCam_cycle hst]
  unfold State.camInCycle
  exact if_pos hm

/-- In CYCLE_SYNC an edge that fits neither revolution counts as an error. -/
theorem judgeCam_error (hst : s.trkState x = 4) (hm : s.camMatches x a falling = false)
    (ho : s.revs x ≠ 2 ∨ s.camMatches x (a + 8388608) falling = false) : s.judgeCam x a falling = s.camErr x := by
  have hother : ¬ (decide (s.revs x = 2) && s.camMatches x (a + 8388608) falling) = true := by
    rcases ho with h | h
    · rw [decide_eq_false h]
      exact Bool.false_ne_true
    · rw [h, Bool.and_false]
      exact Bool.false_ne_true
  rw [judgeCam_cycle hst]
  unfold State.camInCycle
  rw [if_neg (by rw [hm]; exact Bool.false_ne_true)]
  exact if_neg hother

theorem camGood_shows (s : State) (x : Fin 2) : ((s.camGood x).trk x).camQ = (s.trk x).camQ ∧ ((s.camGood x).trk x).flips = 0 ∧
    (s.camGood x).flag (Fld.TRK_STAT_CAM_MISSING x) = false ∧ (s.camGood x).trkState x = s.trkState x := by
  have hsc := (by decide : ∀ x : Fin 2, fieldsApart (Fld.TRK_STAT_STATE x) (Fld.TRK_STAT_CAM_MISSING x) = true) x
  unfold State.camGood
  rw [trk_set, trk_setTrk_own]
  exact ⟨rfl, rfl, flag_set_zero _ (show 10 + 1 ≤ 32 by decide), get_set_apart _ 0 hsc⟩

theorem camErr_shows (s : State) (x : Fin 2) : ((s.camErr x).trk x).camQ = (s.trk x).camQ ∧ (s.camErr x).trkState x = s.trkState x ∧
    (s.camErr x).get (Fld.TRK_CNT_CAMERR x) = (s.get (Fld.TRK_CNT_CAMERR x) + 1) % 2 ^ (Fld.TRK_CNT_CAMERR x).w := by
  have hsc := (by decide : ∀ x : Fin 2, fieldsApart (Fld.TRK_STAT_STATE x) (Fld.TRK_CNT_CAMERR x) = true ∧
    (Fld.TRK_CNT_CAMERR x).lo + (Fld.TRK_CNT_CAMERR x).w ≤ 32) x
  obtain ⟨hapart, hfits⟩ := hsc
  unfold State.camErr
  dsimp only
  rw [trk_setTrk_own]
  exact ⟨rfl, get_set_apart s _ hapart, get_addWrap s _ 1 hfits⟩

end judged

section cam
variable {w : State} {x : Fin 2} {e : WheelEdge} (hp : w.posRev x ≠ 0) (hsrc : w.get (Fld.TRK_CTRL_SRC x) = 0)
  (hcam : w.flag (Fld.WHL_WD_CFG_CAM_EN x) = true)
include hp hsrc hcam

/-- In SEEK, where the marks give the position, a cam edge is recorded. -/
theorem camEdge_seek (hst : w.trkState x = 2) (hby : w.byCam x = false) : (w.camEdge x e).trkState x = 2 ∧
    ((w.camEdge x e).trk x).camQ = (w.trk x).camQ ∧ ((w.camEdge x e).trk x).camRot = 0 ∧ ((w.camEdge x e).trk x).cams.getLast? =
      some { edges := (w.trk x).edges, since := e.stamp - (w.trk x).stamp, falling := e.falling, interval := 0 } := by
  unfold State.camEdge
  rw [hcam, hsrc, decide_eq_false hp]
  extract_lets s t st aAt seen cams seq s1
  have hst2 : (decide (st = 2) || decide (st = 6)) = true := by
    rw [show st = 2 from hst]
    rfl
  have hby2 : (!s.byCam x || decide (t.tLast = 0)) = true := by
    rw [show s.byCam x = false from hby]
    rfl
  rw [if_neg (by decide), if_pos hst2, if_pos hby2]
  have hs1 : s1.trkState x = 2 := hst
  refine ⟨hs1, ?_⟩
  unfold s1
  rw [trk_setTrk_own]
  exact ⟨rfl, rfl, getLast_pushed _ _⟩

/-- Elsewhere it is judged at its angle. -/
theorem camEdge_judged (hst : w.trkState x = 3 ∨ w.trkState x = 4) : ∃ t : State, t.regs = w.regs ∧ (t.trk x).camQ = (w.trk x).camQ ∧
    w.camEdge x e = t.judgeCam x (w.angleAt x e.stamp / fracOne) e.falling := by
  unfold State.camEdge
  rw [hcam, hsrc, decide_eq_false hp]
  extract_lets s t st aAt seen cams seq s1 s2
  have hst2 : ¬ (decide (st = 2) || decide (st = 6)) = true := by
    have hw : st = w.trkState x := rfl
    rw [hw]
    rcases hst with h | h <;> rw [h] <;> decide
  rw [if_neg (by decide), if_neg hst2]
  refine ⟨s2, rfl, ?_, rfl⟩
  unfold s2
  rw [trk_setTrk_own]
  rfl

end cam

/-- The outcome of a cam edge at tracker `x` of `w`. -/
def State.camOutcome (w : State) (x : Nat) (e : WheelEdge) : State :=
  (w.camEdge x e).afterTracker w x false (resynced (w.trkState x) ((w.camEdge x e).trkState x) false) false

section camOutcome
variable {w : State} {x : Fin 2} {e : WheelEdge} {a : Nat} (hp : w.posRev x ≠ 0) (hsrc : w.get (Fld.TRK_CTRL_SRC x) = 0)
  (hcam : w.flag (Fld.WHL_WD_CFG_CAM_EN x) = true)
include hp hsrc hcam

theorem outcome_camSeek (hst : w.trkState x = 2) (hby : w.byCam x = false) : ∃ u : State, w.camOutcome x e = u.afterTracker w x false false false ∧
    (u.trk x).camQ = (w.trk x).camQ ∧ (u.trk x).camRot = 0 ∧ (u.trk x).cams.getLast? =
      some { edges := (w.trk x).edges, since := e.stamp - (w.trk x).stamp, falling := e.falling, interval := 0 } := by
  obtain ⟨hu, hrest⟩ := camEdge_seek (e := e) hp hsrc hcam hst hby
  refine ⟨w.camEdge x e, ?_, hrest⟩
  unfold State.camOutcome
  rw [resynced_synced (Or.inl hst) (fun _ => hu)]

/-- In synchronisation the outcome is what the judgement of the edge makes of a state with the same registers. -/
theorem outcome_camJudged (hst : w.trkState x = 3 ∨ w.trkState x = 4) (hang : a = w.angleAt x e.stamp / fracOne) : ∃ t : State, t.regs = w.regs ∧
    (t.trk x).camQ = (w.trk x).camQ ∧ w.camOutcome x e = (t.judgeCam x a e.falling).afterTracker w x false false false := by
  obtain ⟨t, hregs, hq, hjudge⟩ := camEdge_judged (e := e) hp hsrc hcam hst
  refine ⟨t, hregs, hq, ?_⟩
  unfold State.camOutcome
  rw [resynced_synced (Or.inr hst) (fun h => by omega), hjudge, hang]

/-- In CRANK_SYNC an edge that fits one revolution alone fixes it. -/
theorem outcome_camFixes (hst : w.trkState x = 3) (hr : w.revs x = 2) (hang : a = w.angleAt x e.stamp / fracOne)
    (hm : w.camMatches x a e.falling = !w.camMatches x (a + 8388608) e.falling) : ∃ u : State,
    w.camOutcome x e = u.afterTracker w x false false false ∧ u.trkState x = 4 ∧ (u.trk x).camQ = (w.trk x).camQ ∧
    u.nextN x = (if w.camMatches x a e.falling then w.nextN x else (w.nextN x + w.posRev x) % w.posCyc x % 1024) := by
  obtain ⟨t, hregs, hq, hout⟩ := outcome_camJudged hp hsrc hcam (Or.inl hst) hang
  have hget := get_of_regs hregs
  have hwheel : wheelKept w t := fun g _ => hget g
  have hrevs : t.revs x = w.revs x := by
    unfold State.revs State.flag
    rw [hget]
  have hm0 := camMatches_same hregs x a e.falling
  have hm1 := camMatches_same hregs x (a + 8388608) e.falling
  have hfix := judgeCam_fixes (s := t) (x := x) (a := a) (falling := e.falling) ((hget _).trans hst) (hrevs.trans hr) (by rw [hm0, hm1, hm])
  obtain ⟨hstate, hcq, hnext⟩ := fixRevolution_shows t x (if t.camMatches x a e.falling then 0 else 1)
  rw [← hfix] at hstate hcq hnext
  refine ⟨t.judgeCam x a e.falling, hout, hstate, hcq.trans hq, hnext.trans ?_⟩
  rw [hm0, posRev_kept hwheel, posCyc_kept hwheel, show t.nextN x = w.nextN x from hget _]
  cases w.camMatches x a e.falling <;> rfl

/-- In CYCLE_SYNC an edge that fits is good. -/
theorem outcome_camGood (hst : w.trkState x = 4) (hang : a = w.angleAt x e.stamp / fracOne) (hm : w.camMatches x a e.falling = true) :
    ∃ u : State, w.camOutcome x e = u.afterTracker w x false false false ∧ (u.trk x).camQ = (w.trk x).camQ ∧ (u.trk x).flips = 0 ∧
    u.flag (Fld.TRK_STAT_CAM_MISSING x) = false ∧ u.trkState x = 4 := by
  obtain ⟨t, hregs, hq, hout⟩ := outcome_camJudged hp hsrc hcam (Or.inr hst) hang
  have htst : t.trkState x = 4 := (get_of_regs hregs _).trans hst
  obtain ⟨hcq, hflips, hmiss, hstate⟩ := camGood_shows t x
  rw [judgeCam_good htst ((camMatches_same hregs x a e.falling).trans hm)] at hout
  exact ⟨t.camGood x, hout, hcq.trans hq, hflips, hmiss, hstate.trans htst⟩

/-- In CYCLE_SYNC an edge that fits neither revolution counts as an error. -/
theorem outcome_camError (hst : w.trkState x = 4) (hang : a = w.angleAt x e.stamp / fracOne) (hm : w.camMatches x a e.falling = false)
    (ho : w.revs x ≠ 2 ∨ w.camMatches x (a + 8388608) e.falling = false) :
    ∃ u : State, w.camOutcome x e = u.afterTracker w x false false false ∧ (u.trk x).camQ = (w.trk x).camQ ∧ u.trkState x = 4 ∧
    u.get (Fld.TRK_CNT_CAMERR x) = (w.get (Fld.TRK_CNT_CAMERR x) + 1) % 2 ^ (Fld.TRK_CNT_CAMERR x).w := by
  obtain ⟨t, hregs, hq, hout⟩ := outcome_camJudged hp hsrc hcam (Or.inr hst) hang
  have hget := get_of_regs hregs
  have htst : t.trkState x = 4 := (hget _).trans hst
  have hrevs : t.revs x = w.revs x := by
    unfold State.revs State.flag
    rw [hget]
  obtain ⟨hcq, hstate, hcount⟩ := camErr_shows t x
  rw [judgeCam_error htst ((camMatches_same hregs x a e.falling).trans hm) (by rw [hrevs, camMatches_same hregs]; exact ho)] at hout
  rw [hget] at hcount
  exact ⟨t.camErr x, hout, hcq.trans hq, hstate.trans htst, hcount⟩

end camOutcome

section camRow
variable {s v w : State} {dt : Nat} {x : Fin 2} {e : WheelEdge} {r : List WheelEdge} (hv : s.advance dt = v)
  (hq : (v.trk x).camQ = e :: r) (ha : e.avail ≤ v.tclk) (hpass : v.edgesPass = true) (hfirst : v.crankFirst x e = false)
  (hw : w = v.setTrk x { v.trk x with camQ := r })
include hv hq ha hpass hfirst hw

theorem exec_camEdge : exec (.camEdge dt x) s = .next (w.camOutcome x e) := by
  have htake : v.takeCam x = some (e, w) := by
    unfold State.takeCam
    rw [hq, hw]
    dsimp only
    rw [if_pos (by rw [hpass, hfirst, decide_eq_true ha]; rfl)]
  have hexec : exec (.camEdge dt x) s = execCamEdge dt x s := rfl
  rw [hexec]
  unfold execCamEdge
  dsimp only
  rw [hv, htake]
  rfl

end camRow

-- ── Missing edges, and the stop (R61, R69, R74) ───────────────────────────────────────────────────────────────────

/-- What a missing edge leaves where the tracker then stands in the state `n`. -/
structure Missed (x : Nat) (s : State) (n : Nat) (u : State) : Prop where
  count : u.get (Fld.TRK_CNT_MISS x) = (s.get (Fld.TRK_CNT_MISS x) + 1) % 2 ^ (Fld.TRK_CNT_MISS x).w
  next : u.nextN x = s.nextTooth x (s.nextN x) % 1024
  state : u.trkState x = n

section missed
variable {s t : State} {x : Fin 2} {m : Nat} (h : Missed x s m t)
include h

theorem missed_setTrk (w : Trk) : Missed x s m (t.setTrk x w) := ⟨h.count, h.next, h.state⟩

theorem missed_set (f : FReg) (hf : f ∈ quietRegs x) (v : Nat) : Missed x s m (t.set f v) :=
  have k : TrkKept (stateFields x) x t (t.set f v) := kept_stateReg (trkKept_refl _ x t) f hf v
  ⟨(k.fields _ (by simp [stateFields, edgeFields])).trans h.count, (nextN_kept k).trans h.next, (trkState_kept k).trans h.state⟩

theorem missed_setTrkState {n : Nat} (hn : n < 16) : Missed x s n (t.setTrkState x n) :=
  have k : TrkKept (edgeFields x) x t (t.setTrkState x n) := kept_enter t x n
  ⟨(k.fields _ (by simp [edgeFields])).trans h.count, (k.fields (Fld.TRK_POS_NEXT x) (by simp [edgeFields])).trans h.next, trkState_setTrkState t x hn⟩

end missed

theorem missEdge_shows (s : State) (x : Fin 2) : Missed x s
    (if s.trkState x = 5 then (if s.get (Fld.TRK_SYNC_COAST_LIM x) < s.get (Fld.TRK_STAT_COAST_N x) + 1 then 6 else 5)
      else if s.get (Fld.TRK_SYNC_COAST_LIM x) = 0 then 6 else 5) (s.missEdge x) := by
  have hapart := (by decide : ∀ x : Fin 2, (Fld.TRK_CNT_MISS x).lo + (Fld.TRK_CNT_MISS x).w ≤ 32 ∧
    fieldsApart (Fld.TRK_CNT_MISS x) (Fld.TRK_POS_NEXT x) = true ∧ fieldsApart (Fld.TRK_CNT_MISS x) (Fld.TRK_STAT_COAST_N x) = true ∧ fieldsApart (Fld.TRK_STAT_STATE x) (Fld.TRK_CNT_MISS x) = true ∧
    fieldsApart (Fld.TRK_STAT_STATE x) (Fld.TRK_STAT_COAST_N x) = true ∧ fieldsApart (Fld.TRK_STAT_STATE x) (Fld.TRK_POS_NEXT x) = true ∧
    inIrqBlock (Fld.TRK_CNT_MISS x).addr = false ∧ inIrqBlock (Fld.TRK_STAT_STATE x).addr = false) x
  obtain ⟨hfits, hcp, hcc, hsc, hsn, hsp, hic, his⟩ := hapart
  unfold State.missEdge State.restartSearch
  extract_lets c old lim n s1 t lost w s2 s3 w4
  have hold : old = s.trkState x := rfl
  have hlim : lim = s.get (Fld.TRK_SYNC_COAST_LIM x) := rfl
  have hcoast : c.get (Fld.TRK_STAT_COAST_N x) = s.get (Fld.TRK_STAT_COAST_N x) := rfl
  have hnext : c.nextTooth x (c.nextN x) = s.nextTooth x (s.nextN x) := nextTooth_kept (s := s) (t := c) (fun _ _ => rfl) x _
  have h1c : s1.get (Fld.TRK_CNT_MISS x) = (s.get (Fld.TRK_CNT_MISS x) + 1) % 2 ^ (Fld.TRK_CNT_MISS x).w :=
    (get_irq _ _ _ hic).trans ((get_set_apart _ n hcc).trans (get_addWrap c _ 1 hfits))
  have h1s : s1.trkState x = s.trkState x := (get_irq _ _ _ his).trans ((get_set_apart _ n hsn).trans (get_set_apart c _ hsc))
  have hw : Missed x s (s.trkState x) w := {
    count := (get_set_apart _ _ hcp).trans h1c
    next := by
      rw [← hnext]
      exact get_set _ (Fld.TRK_POS_NEXT x) _ (show 0 + 10 ≤ 32 by decide)
    state := (get_set_apart _ _ hsp).trans h1s }
  clear_value w c old lim
  have hlost : Missed x s 6 ((w.setTrkState x 6).setTrk x (freshSearch ((w.setTrkState x 6).trk x) 0)) :=
    missed_setTrk (missed_setTrkState hw (by decide)) _
  have h3 : Missed x s 5 (s3.setTrkState x 5) := missed_setTrkState (missed_setTrk hw _) (by decide)
  clear_value s3
  rw [hold, hlim, hcoast]
  split
  next h5 =>
    split
    · exact hlost
    · exact h5 ▸ hw
  next =>
    split
    · exact hlost
    · exact missed_set (missed_setTrk h3 _) (Fld.TRK_STAT_PRED x) (by simp [quietRegs]) 1

section rows
variable {s v : State} {dt : Nat} {x : Fin 2} (hv : s.advance dt = v)
include hv

theorem exec_crankEdgeMissing (hm : v.edgeMissing x = true) :
    exec (.crankEdgeMissing dt x) s = .next ((v.missEdge x).afterTracker v x false false true) := by
  have hexec : exec (.crankEdgeMissing dt x) s = execCrankEdgeMissing dt x s := rfl
  rw [hexec]
  unfold execCrankEdgeMissing
  dsimp only
  rw [hv, if_pos hm]

/-- Two cycles without a cam edge set CAM_MISSING (R69). -/
theorem does_camMissing (hst : v.trkState x = 4 ∨ (v.trkState x = 5 ∧ (v.trk x).coastFrom = 4)) (hcam : v.flag (Fld.WHL_WD_CFG_CAM_EN x) = true)
    (hsrc : v.get (Fld.TRK_CTRL_SRC x) = 0) (hrot : 2 * cycleAu * fracOne ≤ (v.trk x).camRot) (hm : v.flag (Fld.TRK_STAT_CAM_MISSING x) = false) :
    s.does (.camMissing dt x) (fun u => u.flag (Fld.TRK_STAT_CAM_MISSING x) = true ∧ v.sameBut u [Reg.TRK_STAT x]) := by
  have hfree := (by decide : ∀ x : Fin 2, inIrqBlock (Fld.TRK_STAT_CAM_MISSING x).addr = false) x
  have hst2 : (v.trkState x == 4 || (v.trkState x == 5 && (v.trk x).coastFrom == 4)) = true := by
    rcases hst with h | ⟨h, hf⟩
    · rw [h]
      rfl
    · rw [h, hf]
      rfl
  have hau : (2 * cycleAu * fracOne : Nat) = 144115188075855872 := by decide
  have hrot2 : (144115188075855872 : Int) ≤ (v.trk x).camRot := by
    have hcast : ((2 * cycleAu * fracOne : Nat) : Int) ≤ (v.trk x).camRot := by exact_mod_cast hrot
    rw [hau] at hcast
    exact_mod_cast hcast
  have hexec : exec (.camMissing dt x) s = execCamMissing dt x s := rfl
  refine ⟨(v.raiseFlag (Fld.TRK_STAT_CAM_MISSING x)).irq (36 + 8 * x), ?_, ?_, ?_⟩
  · rw [hexec]
    unfold execCamMissing
    dsimp only
    rw [hv, hst2, hcam, hsrc, hm, decide_eq_true hrot2]
    rfl
  · exact (flag_irq _ _ _ hfree).trans (flag_raiseFlag v (Fld.TRK_STAT_CAM_MISSING x) (show 10 + 1 ≤ 32 by decide) Nat.one_pos)
  · exact sameBut_irq (sameBut_raiseFlag (sameBut_refl v _) (Fld.TRK_STAT_CAM_MISSING x) List.mem_cons_self) _

end rows

-- ── The stop (R61, R86) ───────────────────────────────────────────────────────────────────────────────────────────

theorem snapshot_sameBut (s : State) (partial_ : Bool) : s.sameBut (s.snapshot partial_) [Reg.WIT_STAT] := by
  unfold State.snapshot
  extract_lets w old c m wit s1 pwr s2
  have hw : w.2.trks = s.trks ∧ w.2.regs = s.regs := cycleSpeed_kept s _
  have hmem : w.2.mem = s.mem := by
    unfold w State.cycleSpeed
    dsimp only
    split <;> rfl
  have h0 : s.sameBut w.2 [Reg.WIT_STAT] := sameBut_of_regs (sameBut_refl s _) hw.2 hmem
  clear_value w old c m wit pwr
  have h1 : ∀ p, s.sameBut (s1.withPwr p) [Reg.WIT_STAT] := fun p => sameBut_of_regs h0 rfl rfl
  clear_value s1
  have h2 : s.sameBut s2 [Reg.WIT_STAT] := sameBut_irq (h1 _) 148
  clear_value s2
  exact sameBut_ite (sameBut_irq (sameBut_raiseFlag h2 Fld.WIT_STAT_MULTI List.mem_cons_self) 149) h2

theorem speed_endState (s : State) (x : Fin 2) (n old : Nat) : (s.endState x n old).get (Fld.TRK_SPEED_SPEED x) = s.get (Fld.TRK_SPEED_SPEED x) := by
  have haddr := (by decide : ∀ x : Fin 2, Reg.TRK_SPEED x ∉ [Reg.WIT_STAT] ∧ Reg.TRK_SPEED x ∉ [Reg.TRK_STOPA] ∧
    Reg.TRK_SPEED x ≠ Fld.SYS_FAULT_TRK.addr ∧ inIrqBlock (Reg.TRK_SPEED x) = false) x
  obtain ⟨hwit, hstop, hfault, hfree⟩ := haddr
  unfold State.endState
  extract_lets s1
  have h1 : s1.get (Fld.TRK_SPEED_SPEED x) = s.get (Fld.TRK_SPEED_SPEED x) := by
    unfold s1
    split
    · exact (sameBut_get (snapshot_sameBut _ true) _ hwit hfree).trans (sameBut_get (saveStop_kept s old).1 _ hstop hfree)
    · rfl
  clear_value s1
  split
  · exact (congrArg (fieldOf (Fld.TRK_SPEED_SPEED x)) (word_raiseFault s1 _ _ hfault hfree)).trans h1
  · exact h1

theorem speedOf_zero (s : State) (x : Nat) : s.speedOf x 0 = 0 := by
  have hround : divRound 0 (fracOne * cycleAu) = 0 := by decide
  unfold State.speedOf
  simp only [Nat.zero_mul, hround]
  rfl

theorem speed_haltRate (s : State) (x : Fin 2) : (s.haltRate x 0).get (Fld.TRK_SPEED_SPEED x) = 0 := by
  unfold State.haltRate State.showRate
  rw [if_pos rfl, get_set _ _ _ ((by decide : ∀ x : Fin 2, (Fld.TRK_SPEED_SPEED x).lo + (Fld.TRK_SPEED_SPEED x).w ≤ 32) x), trk_setTrk_own]
  have hrate : (s.trk x).halted.rate = 0 := rfl
  rw [hrate, speedOf_zero]
  rfl

/-- The stop clears the rate, and the speed with it. -/
theorem stop_shows (s : State) (x : Fin 2) (h : s.trkState x ≠ 0) : (s.setTrkState x 0).trkState x = 0 ∧ ((s.setTrkState x 0).trk x).rate = 0 ∧
    (s.setTrkState x 0).get (Fld.TRK_SPEED_SPEED x) = 0 := by
  refine ⟨trkState_setTrkState s x (by decide), ?_, ?_⟩
  · rw [trk_setTrkState s x 0 h]
    rfl
  · rw [setTrkState_eq, if_neg h, speed_endState]
    exact speed_haltRate _ x

theorem exec_trackerStop {s v : State} {dt : Nat} {x : Fin 2} (hv : s.advance dt = v) (hst : v.trkState x ≠ 0) (hsrc : v.get (Fld.TRK_CTRL_SRC x) = 0)
    (hg : v.flag Fld.CLK_GATE0_TRK = true) (ht : v.passed (v.trk x).edgeAt (Nat.max 1 (v.get (Fld.TRK_STOP_STOP_MS x)) * msTicks) = true) :
    exec (.trackerStop dt x) s = .next ((v.setTrkState x 0).afterTracker v x false false false) := by
  have hexec : exec (.trackerStop dt x) s = execTrackerStop dt x s := rfl
  rw [hexec]
  unfold execTrackerStop
  dsimp only
  rw [hv, ht, hg, hsrc, bne_iff_ne.mpr hst]
  rfl

-- ── The rows together ─────────────────────────────────────────────────────────────────────────────────────────────

/-- Settles O47, by the state of the tracker for each edge: its record and fields are followed through the edge to the state before the voter. -/
theorem trackerEdges : Obligations.TrackerEdges := by
  intro s v w dt x hv
  refine ⟨?_, ?_, ?_, ?_, ?_, ?_⟩
  · intro e r hq ha hpass hp hsrc hw hrel
    have hexec := exec_edgeNow hv hq ha hpass hw hp hsrc hrel
    have hst : w.trkState x = v.trkState x := by rw [hw]; rfl
    have hnext : w.nextN x = v.nextN x := by rw [hw]; rfl
    have hwheel : wheelKept v w := by rw [hw]; exact wheelKept_setTrk (fun _ _ => rfl) x _
    have hrec : w.trk x = { v.trk x with crankQ := r } := by rw [hw]; exact trk_setTrk_own v x _
    have hcq : (w.trk x).crankQ = r := by rw [hrec]
    have hpre : (w.trk x).preset = (v.trk x).preset := by rw [hrec]
    have hx : (w.trk x).extras = (v.trk x).extras := by rw [hrec]
    have hwr : (w.trk x).wasReverse = (v.trk x).wasReverse := by rw [hrec]
    have hh : (w.trk x).healthNow = (v.trk x).healthNow := by rw [hrec]
    rw [hexec, ← hst, ← hnext, ← hpre, ← hx, ← hwr, ← hh, ← hcq, ← prevTooth_kept hwheel, ← nextTooth_kept hwheel]
    refine ⟨fun hs hp0 => ?_, fun hs happ => ?_, fun hs hn hx0 => ?_, fun hs => ?_, fun hr hwr0 hs hwin hext => ?_, fun hr hs hx0 hwin => ?_,
      fun hwin => ?_⟩
    · obtain ⟨u, h, hu⟩ := outcome_first (e := e) hs hp0
      exact ⟨u, congrArg Host.Outcome.next h, hu⟩
    · obtain ⟨u, h, hu⟩ := outcome_preset (e := e) hs happ
      exact ⟨u, congrArg Host.Outcome.next h, hu⟩
    · obtain ⟨u, a, b, h, hu⟩ := outcome_presetStep (e := e) hs hn hx0
      exact ⟨u, a, b, congrArg Host.Outcome.next h, hu⟩
    · obtain ⟨u, a, b, h, hu⟩ := outcome_search (e := e) hs
      exact ⟨u, a, b, congrArg Host.Outcome.next h, hu⟩
    · obtain ⟨u, a, b, h, hu⟩ := outcome_forward hs hr hwr0 hwin hext
      exact ⟨u, a, b, congrArg Host.Outcome.next h, hu⟩
    · obtain ⟨u, a, b, h, hu⟩ := outcome_reverse hs hr hx0 hwin
      exact ⟨u, a, b, congrArg Host.Outcome.next h, hu⟩
    · obtain ⟨u, a, b, h, hu⟩ := outcome_rejected hwin
      exact ⟨u, a, b, congrArg Host.Outcome.next h, hu⟩
  · intro e r hq ha hpass hp hsrc hw hrel
    have hexec := exec_crankEdge hv hq ha hpass hw
    have hwp : w.posRev x ≠ 0 := by rw [hw]; exact hp
    have hws : w.get (Fld.TRK_CTRL_SRC x) = 0 := by rw [hw]; exact hsrc
    rw [hexec]
    refine ⟨fun hs => congrArg Host.Outcome.next (outcome_stale hrel hs), fun b y hs hb hbr hy hyp hys => ?_⟩
    have hbw : w.before x = some b := by rw [hw]; exact hb
    obtain ⟨a, c, h⟩ := outcome_relabel hwp hws hrel hs hbw hbr hy hyp hys
    exact ⟨a, c, congrArg Host.Outcome.next h⟩
  · intro e r a hq ha hpass hfirst hp hsrc hcam hw hang
    have hexec := exec_camEdge hv hq ha hpass hfirst hw
    have hst : w.trkState x = v.trkState x := by rw [hw]; rfl
    have hnext : w.nextN x = v.nextN x := by rw [hw]; rfl
    have hrevs : w.revs x = v.revs x := by rw [hw]; rfl
    have hby : w.byCam x = v.byCam x := by rw [hw]; rfl
    have hpos : w.posRev x = v.posRev x := by rw [hw]; rfl
    have hcyc : w.posCyc x = v.posCyc x := by rw [hw]; rfl
    have herr : w.get (Fld.TRK_CNT_CAMERR x) = v.get (Fld.TRK_CNT_CAMERR x) := by rw [hw]; rfl
    have hws : w.get (Fld.TRK_CTRL_SRC x) = 0 := by rw [hw]; exact hsrc
    have hwc : w.flag (Fld.WHL_WD_CFG_CAM_EN x) = true := by rw [hw]; exact hcam
    have hrec : w.trk x = { v.trk x with camQ := r } := by rw [hw]; exact trk_setTrk_own v x _
    have hcq : (w.trk x).camQ = r := by rw [hrec]
    have hed : (w.trk x).edges = (v.trk x).edges := by rw [hrec]
    have hsp : (w.trk x).stamp = (v.trk x).stamp := by rw [hrec]
    rw [hexec, ← hst, ← hnext, ← hrevs, ← hby, ← hpos, ← hcyc, ← herr, ← hcq, ← hed, ← hsp]
    rw [← hpos] at hp
    refine ⟨fun hs hbc => ?_, fun hs hr hm => ?_, fun hs hm => ?_, fun hs hm ho => ?_⟩
    · obtain ⟨u, h, hu⟩ := outcome_camSeek hp hws hwc hs hbc
      exact ⟨u, congrArg Host.Outcome.next h, hu⟩
    · obtain ⟨u, h, hu⟩ := outcome_camFixes hp hws hwc hs hr hang hm
      exact ⟨u, congrArg Host.Outcome.next h, hu⟩
    · obtain ⟨u, h, hu⟩ := outcome_camGood hp hws hwc hs hang hm
      exact ⟨u, congrArg Host.Outcome.next h, hu⟩
    · obtain ⟨u, h, hu⟩ := outcome_camError hp hws hwc hs hang hm ho
      exact ⟨u, congrArg Host.Outcome.next h, hu⟩
  · intro hm
    obtain ⟨hc, hn, hs⟩ := missEdge_shows v x
    exact ⟨v.missEdge x, exec_crankEdgeMissing hv hm, hc, hn, hs⟩
  · intro hst hcam hsrc hrot hm
    exact does_camMissing hv hst hcam hsrc hrot hm
  · intro hst hsrc hg ht
    exact ⟨v.setTrkState x 0, exec_trackerStop hv hst hsrc hg ht, stop_shows v x hst⟩

end Sys2Proof.Machine

/-! PROOFS. What the system store keeps of the trackers, and the tooth count of Frost (O48). -/

namespace Sys2Proof.Machine

-- ── Copies of registers in the system store (R81, R86, R420) ──────────────────────────────────────────────────────

section copies
variable (s : State)

theorem saved_saveReg (a b : Nat) :
    spGet (fun _ => 0) (s.saveReg a).sec.saved b = if b = a then s.word a else spGet (fun _ => 0) s.sec.saved b := spGet_spPut _ _ _ _

theorem mem_savedKeys_saveReg (a : Nat) : a ∈ (s.saveReg a).sec.savedKeys := by
  change a ∈ if s.sec.savedKeys.contains a then s.sec.savedKeys else s.sec.savedKeys ++ [a]
  split
  next h => exact List.contains_iff_mem.mp h
  next => exact List.mem_append_right _ (List.mem_singleton_self a)

/-- Copies of several registers change the store alone. -/
theorem saveRegs_eq (f : Nat → Nat) (l : List Nat) :
    ∀ s : State, ∃ x : SecState, l.foldl (fun s n => s.saveReg (f n)) s = s.withSec x := by
  induction l with
  | nil => exact fun s => ⟨s.sec, rfl⟩
  | cons n l ih =>
    intro s
    obtain ⟨x, hx⟩ := ih (s.saveReg (f n))
    exact ⟨x, hx⟩

/-- A register that is copied, or whose copy was already up to date, stands in the store as it reads. -/
theorem saved_saveRegs (f : Nat → Nat) {b : Nat} (l : List Nat) :
    ∀ s : State, b ∈ l.map f ∨ spGet (fun _ => 0) s.sec.saved b = s.word b →
      spGet (fun _ => 0) (l.foldl (fun s n => s.saveReg (f n)) s).sec.saved b = s.word b := by
  induction l with
  | nil => exact fun s h => h.resolve_left List.not_mem_nil
  | cons n l ih =>
    intro s h
    refine ih (s.saveReg (f n)) ?_
    have hread : (s.saveReg (f n)).word b = s.word b := rfl
    rw [saved_saveReg, hread]
    split
    next hb => exact .inr (by rw [hb])
    next hb =>
      rw [List.map_cons, List.mem_cons] at h
      exact h.imp_left (Or.resolve_left · hb)

/-- The tables and the corrections are stored as they stand, and nothing but the store changes (R81). -/
theorem storeTables_shows :
    s.storeTables.sec.kSaved = tagKeys 0 (s.trk 0).kTab ++ tagKeys 1 (s.trk 1).kTab ∧
    s.storeTables.sec.profSaved = tagKeys 0 (s.trk 0).profile ++ tagKeys 1 (s.trk 1).profile ∧
    s.storeTables.sec.trainSaved = [(0, s.get (Fld.TRK_LOAD_TRAINED 0)), (1, s.get (Fld.TRK_LOAD_TRAINED 1))] ∧
    (∀ n : Fin 48, spGet (fun _ => 0) s.storeTables.sec.saved (Reg.WIT_CH_CORR n) = s.word (Reg.WIT_CH_CORR n)) ∧
    s.storeTables.regs = s.regs ∧ s.storeTables.mem = s.mem := by
  obtain ⟨x, hx⟩ := saveRegs_eq Reg.WIT_CH_CORR (List.range 48) s
  have hsaved : ∀ n : Fin 48, spGet (fun _ => 0) (s.withSec x).sec.saved (Reg.WIT_CH_CORR n) = s.word (Reg.WIT_CH_CORR n) := by
    intro n
    rw [← hx]
    exact saved_saveRegs _ _ s (.inl (List.mem_map_of_mem (List.mem_range.mpr n.isLt)))
  unfold State.storeTables
  rw [hx]
  exact ⟨rfl, rfl, rfl, hsaved, rfl, rfl⟩

end copies

-- ── The tooth count of Frost (R87) ────────────────────────────────────────────────────────────────────────────────

/-- A number of 16 bits, written to a field of 16 bits and read back. -/
theorem toSigned_ofSigned {c : Int} (hlo : -32768 ≤ c) (hhi : c ≤ 32767) : toSigned 16 (ofSigned 16 c % 2 ^ 16) = c := by
  unfold toSigned ofSigned
  split <;> omega

/-- The count one tooth further, up or down. -/
def State.frostNext (s : State) (reverse : Bool) : Int := toSigned 16 (s.get Fld.TRK_FCNT_COUNT) + (if reverse then -1 else 1)

/-- The direction that DIR_MODE gives a tooth, and whether it leaves it unmeasured; an over-long pulse has none. -/
def State.frostDirection (s : State) (partner : Bool) (width : Nat) (reverse nodir : Bool) : Prop :=
  let mode := fieldOf (Fld.WHL_CFG_DIR_MODE 0) s.pwr.frostCfg
  let inv := fieldOf (Fld.WHL_CFG_DIR_INV 0) s.pwr.frostCfg == 1
  (mode = 0 ∧ reverse = false ∧ nodir = true) ∨ (mode = 1 ∧ reverse = (!partner != inv) ∧ nodir = false) ∨
    (mode = 2 ∧ width ≤ 2 * fieldOf (Fld.WHL_PW_PW_MAX 0) s.pwr.frostPw ∧
      reverse = (decide (2 * fieldOf (Fld.WHL_PW_PW_SPLIT 0) s.pwr.frostPw ≤ width) != inv) ∧ nodir = false)

/-- NODIR is set where the direction of a tooth is not measured. -/
def State.markNodir (s : State) (nodir : Bool) : State := if nodir then s.set Fld.TRK_FCNT_NODIR 1 else s

section count
variable (s : State) {reverse : Bool} (nodir : Bool)

theorem flag_markNodir : (s.markNodir nodir).flag Fld.TRK_FCNT_NODIR = (nodir || s.flag Fld.TRK_FCNT_NODIR) := by
  cases nodir
  · rfl
  · exact flag_set_one s (by decide) (by decide)

theorem count_markNodir : (s.markNodir nodir).get Fld.TRK_FCNT_COUNT = s.get Fld.TRK_FCNT_COUNT := by
  cases nodir
  · rfl
  · exact get_set_apart s 1 (by decide)

theorem sameBut_markNodir : s.sameBut (s.markNodir nodir) [Reg.TRK_FCNT] :=
  sameBut_ite (sameBut_set (sameBut_refl s _) _ (by decide) 1) (sameBut_refl s _)

/-- Within its limits the count takes the tooth. -/
theorem frostCount_within (hlo : -32767 ≤ s.frostNext reverse) (hhi : s.frostNext reverse ≤ 32767) :
    toSigned 16 ((s.frostCount reverse nodir).get Fld.TRK_FCNT_COUNT) = s.frostNext reverse ∧
    (s.frostCount reverse nodir).flag Fld.TRK_FCNT_NODIR = (nodir || s.flag Fld.TRK_FCNT_NODIR) ∧
    s.sameBut (s.frostCount reverse nodir) [Reg.TRK_FCNT] := by
  have hcounted : s.frostCount reverse nodir =
      ((s.markNodir nodir).set Fld.TRK_FCNT_COUNT (ofSigned 16 (s.frostNext reverse))).set Fld.TRK_FCNT_ACTIVE 1 :=
    if_neg (show ¬ 32767 < (s.frostNext reverse).natAbs by omega)
  rw [hcounted]
  refine ⟨?_, ?_, ?_⟩
  · rw [get_set_apart _ 1 (by decide), get_set _ _ _ (by decide)]
    exact toSigned_ofSigned (by omega) hhi
  · rw [flag_set_apart _ 1 (by decide), flag_set_apart _ _ (by decide), flag_markNodir]
  · exact sameBut_set (sameBut_set (sameBut_markNodir s nodir) _ (by decide) _) _ (by decide) 1

/-- At its limits the count is held, with OVF. -/
theorem frostCount_beyond (h : s.frostNext reverse < -32767 ∨ 32767 < s.frostNext reverse) :
    (s.frostCount reverse nodir).get Fld.TRK_FCNT_COUNT = s.get Fld.TRK_FCNT_COUNT ∧
    (s.frostCount reverse nodir).flag Fld.TRK_FCNT_OVF = true ∧ s.sameBut (s.frostCount reverse nodir) [Reg.TRK_FCNT] := by
  have hheld : s.frostCount reverse nodir = (s.markNodir nodir).set Fld.TRK_FCNT_OVF 1 :=
    if_pos (show 32767 < (s.frostNext reverse).natAbs by omega)
  rw [hheld]
  refine ⟨?_, flag_set_one _ (by decide) (by decide), sameBut_set (sameBut_markNodir s nodir) _ (by decide) 1⟩
  rw [get_set_apart _ 1 (by decide), count_markNodir]

end count

section tooth
variable {s : State} {partner : Bool} {width : Nat} (hfe : fieldOf (Fld.WHL_CFG_FE 0) s.pwr.frostCfg ≠ 0)
include hfe

theorem frostTooth_counted {reverse nodir : Bool} (h : s.frostDirection partner width reverse nodir) :
    s.frostTooth partner width = s.frostCount reverse nodir := by
  unfold State.frostTooth
  dsimp only
  rw [if_neg hfe]
  obtain ⟨hmode, rfl, rfl⟩ | ⟨hmode, rfl, rfl⟩ | ⟨hmode, hshort, rfl, rfl⟩ := h
  · rw [if_pos hmode]
  · rw [if_neg (by omega), if_pos hmode, Bool.not_bne]
  · rw [if_neg (by omega), if_neg (by omega), if_neg (by omega)]

theorem frostTooth_overlong (hmode : fieldOf (Fld.WHL_CFG_DIR_MODE 0) s.pwr.frostCfg = 2)
    (hlong : 2 * fieldOf (Fld.WHL_PW_PW_MAX 0) s.pwr.frostPw < width) : s.frostTooth partner width = s.set Fld.TRK_FCNT_NODIR 1 := by
  unfold State.frostTooth
  dsimp only
  rw [if_neg hfe, if_neg (by omega), if_neg (by omega), if_pos hlong]

end tooth

-- ── The rows ──────────────────────────────────────────────────────────────────────────────────────────────────────

section rows
variable {s v : State} {dt : Nat} (hv : s.advance dt = v)
include hv

theorem leaves_stopAngleCopy : s.leaves (.stopAngleCopy dt) (fun u => spGet (fun _ => 0) u.sec.saved Reg.TRK_STOPA = v.word Reg.TRK_STOPA ∧
    Reg.TRK_STOPA ∈ u.sec.savedKeys ∧ u.regs = v.regs ∧ u.mem = v.mem) :=
  ⟨v.saveReg Reg.TRK_STOPA, by rw [← hv]; rfl, (saved_saveReg v _ _).trans (if_pos rfl), mem_savedKeys_saveReg v _, rfl, rfl⟩

theorem exec_tableStore (hst : v.st = 6 ∨ v.st = 7) : exec (.tableStore dt) s = .next v.storeTables := by
  have hexec : exec (.tableStore dt) s = execTableStore dt s := rfl
  rw [hexec]
  unfold execTableStore
  dsimp only
  rw [hv, if_pos (by simpa using hst)]

theorem exec_frostTooth (hst : v.st = 1) (hen : v.flag Fld.TRK_FROST_EN = true) (partner : Bool) (width : Nat) :
    exec (.frostTooth dt partner width) s = .next (v.frostTooth partner width) := by
  have hexec : exec (.frostTooth dt partner width) s = execFrostTooth dt partner width s := rfl
  rw [hexec]
  unfold execFrostTooth
  dsimp only
  rw [hv, if_pos (by rw [hst, hen]; rfl)]

end rows

/-- Settles O48: the copies are read back from the store; a tooth is counted by the direction that DIR_MODE gives it, within the limits of the
count or held there. -/
theorem trackerStores : Obligations.TrackerStores := by
  intro s v dt hv
  refine ⟨leaves_stopAngleCopy hv, fun hst => ?_, fun partner width hst hen hfe => ⟨?_, fun hmode hlong => ?_⟩⟩
  · exact ⟨v.storeTables, exec_tableStore hv hst, storeTables_shows v⟩
  · rintro mode inv reverse nodir c rfl rfl hdir rfl
    have hexec := exec_frostTooth hv hst hen partner width
    rw [frostTooth_counted hfe hdir] at hexec
    exact ⟨fun hlo hhi => ⟨_, hexec, frostCount_within v nodir hlo hhi⟩, fun hout => ⟨_, hexec, frostCount_beyond v nodir hout⟩⟩
  · have hexec := exec_frostTooth hv hst hen partner width
    rw [frostTooth_overlong hfe hmode hlong] at hexec
    exact ⟨_, hexec, flag_set_one v (by decide) (by decide), get_set_apart v 1 (by decide),
      sameBut_set (sameBut_refl v _) _ (by decide) 1⟩

end Sys2Proof.Machine

/-! PROOFS. What the mirror of a pair changes, and transactions (R109, R110, R243). -/

namespace Sys2Proof.Machine

-- ── Bits of a mask (R4) ───────────────────────────────────────────────────────────────────────────────────────────

/-- Taking one bit away leaves the others. -/
theorem testBit_sub_other (x : Nat) {j k : Nat} (h : j ≠ k) : (x - if x.testBit k then 2 ^ k else 0).testBit j = x.testBit j := by
  by_cases hx : x.testBit k = true
  · obtain ⟨q, hq⟩ : ∃ q, x / 2 ^ (k + 1) = q := ⟨_, rfl⟩
    obtain ⟨r, hr⟩ : ∃ r, x % 2 ^ k = r := ⟨_, rfl⟩
    have hodd : x / 2 ^ k % 2 = 1 := by simpa [Nat.testBit_eq_decide_div_mod_eq] using hx
    have hr_lt : r < 2 ^ k := hr ▸ Nat.mod_lt _ (Nat.two_pow_pos k)
    have hpow : 2 ^ (k + 1) = 2 ^ k * 2 := Nat.pow_succ 2 k
    have hparts : x = 2 ^ (k + 1) * q + (2 ^ k + r) := by
      have h1 := Nat.div_add_mod x (2 ^ (k + 1))
      have h2 : x % 2 ^ (k + 1) = 2 ^ k + r := by
        rw [hpow, Nat.mod_mul, hr, hodd, Nat.mul_one, Nat.add_comm]
      rw [hq, h2] at h1
      exact h1.symm
    rw [if_pos hx, show x - 2 ^ k = 2 ^ (k + 1) * q + r by omega, Nat.testBit_two_pow_mul_add q (by omega)]
    conv_rhs => rw [hparts, Nat.testBit_two_pow_mul_add q (by omega)]
    by_cases hj : j < k + 1
    · rw [if_pos hj, if_pos hj, Nat.testBit_two_pow_add_gt (by omega)]
    · rw [if_neg hj, if_neg hj]
  · simp [hx]

section bits
variable (s : State) {f : FReg}

theorem get_lt (f : FReg) : s.get f < 2 ^ f.w := fieldOf_lt f _

theorem bit_beyond (f : FReg) {k : Nat} (hk : f.w ≤ k) : s.bit f k = false :=
  Nat.testBit_lt_two_pow (Nat.lt_of_lt_of_le (get_lt s f) (Nat.pow_le_pow_right (by decide) hk))

theorem bit_setBit_other {j k : Nat} (b : Bool) (hw : f.lo + f.w ≤ 32) (h : j ≠ k) : (s.setBit f k b).bit f j = s.bit f j := by
  by_cases hj : j < f.w
  · unfold State.bit State.setBit
    rw [get_set s f _ hw, Nat.testBit_mod_two_pow, decide_eq_true hj, Bool.true_and]
    cases b
    · rw [if_neg (by decide), Nat.one_shiftLeft, testBit_sub_other _ h]
    · rw [if_pos rfl, Nat.one_shiftLeft, Nat.testBit_or, Nat.testBit_two_pow_of_ne h.symm, Bool.or_false]
  · rw [bit_beyond _ f (by omega), bit_beyond _ f (by omega)]

theorem get_setBit_other (f : FReg) (k : Nat) (b : Bool) {g : FReg} (h : g.addr ≠ f.addr) : (s.setBit f k b).get g = s.get g := by
  unfold State.get; rw [word_setBit_other s f k b h]

end bits

-- ── Deliveries that pend (R356) ───────────────────────────────────────────────────────────────────────────────────

section pending
variable {s t u : State}

/-- A delivery that is pending in `s` is so in `t`. -/
def staysPend (s t : State) : Prop := ∀ host n, n < 256 → s.isPend host n = true → t.isPend host n = true

theorem staysPend_trans (h : staysPend s t) (k : staysPend t u) : staysPend s u := fun host n hn e => k host n hn (h host n hn e)

theorem pendWord_addr (host : Bool) (n : Nat) : (pendWord host n).addr = (if host then 0x40030120 else 0x40030100) + 4 * (n / 32) := by
  cases host <;> rfl

/-- The pending bits stand in registers of their own. -/
theorem staysPend_of_words (h : ∀ a, 0x40030100 ≤ a → a < 0x40030140 → t.word a = s.word a) : staysPend s t := by
  intro host n hn hp
  have hword : t.word (pendWord host n).addr = s.word (pendWord host n).addr := by
    have haddr := pendWord_addr host n
    split at haddr <;> exact h _ (by omega) (by omega)
  rw [← hp]
  unfold State.isPend State.bit State.get
  rw [hword]

theorem staysPend_of_regs (h : t.regs = s.regs) : staysPend s t :=
  staysPend_of_words fun a _ _ => by unfold State.word; rw [h]

theorem staysPend_refl (s : State) : staysPend s s := staysPend_of_regs rfl

theorem staysPend_set (s : State) {f : FReg} (hf : 0x40030140 ≤ f.addr) (v : Nat) : staysPend s (s.set f v) :=
  staysPend_of_words fun a _ ha => by rw [State.set, word_setWord, if_neg (by omega)]

/-- Setting one pending bit takes none away. -/
theorem staysPend_setBit (s : State) (side : Bool) (m : Nat) (hm : m < 256) : staysPend s (s.setBit (pendWord side m) (m % 32) true) := by
  intro host n hn hp
  by_cases hreg : (pendWord host n).addr = (pendWord side m).addr
  · have hsame : pendWord host n = pendWord side m := by
      rw [pendWord_addr, pendWord_addr] at hreg
      have hside : host = side ∧ n / 32 = m / 32 := by
        cases host <;> cases side <;> simp only [Bool.false_eq_true, if_false, if_true] at hreg <;> simp <;> omega
      rw [pendWord, pendWord, hside.1, hside.2]
    have hwidth : (pendWord side m).lo = 0 ∧ (pendWord side m).w = 32 := by cases side <;> exact ⟨rfl, rfl⟩
    unfold State.isPend at hp ⊢
    rw [hsame] at hp ⊢
    by_cases hbit : n % 32 = m % 32
    · rw [hbit]
      exact bit_setBit s _ true (by omega) (by omega)
    · rwa [bit_setBit_other s true (by omega) hbit]
  · unfold State.isPend State.bit at hp ⊢
    rwa [get_setBit_other s _ _ _ hreg]

theorem staysPend_pendSource (s : State) (side : Bool) (m : Nat) : staysPend s (s.pendSource side m) := by
  unfold State.pendSource
  split
  · exact staysPend_refl s
  · next hm =>
    extract_lets s1 s2 t
    have h1 : staysPend s s2 := staysPend_trans (staysPend_setBit s side m (by omega)) (staysPend_of_regs rfl)
    split
    · exact staysPend_trans h1 (staysPend_of_regs rfl)
    · exact h1

theorem staysPend_irq (s : State) (m : Nat) : staysPend s (s.irq m) := by
  have hdeliver : ∀ (t : State) (side : Bool), staysPend t (t.deliverSource side m) := fun t side => by
    unfold State.deliverSource
    extract_lets g
    split
    · exact staysPend_pendSource t side m
    · have hg : g - 1 < 32 := by have := srcCgrp_lt t side m; omega
      exact staysPend_of_words fun a ha _ => word_holdEvent t (g - 1) m hg ha
  refine staysPend_trans (staysPend_trans (hdeliver s false) (hdeliver _ true)) ?_
  unfold State.irq State.watch
  split
  · exact staysPend_of_regs rfl
  · exact staysPend_refl _

end pending

-- ── Cells that the cope sends (R223, R224, R243) ──────────────────────────────────────────────────────────────────

/-- `t` differs from `s` in the Floe block's queues, its count of dropped cells and their source; in nothing else. -/
def floOnly (s t : State) : Prop :=
  t = { s with regs := t.regs, irqs := t.irqs, fresh := t.fresh, pwr := t.pwr, flo := t.flo } ∧
  (∀ a, a ≠ Reg.FLO_DROP → inIrqBlock a = false → t.word a = s.word a) ∧ staysPend s t

section mirror
variable {s t u : State}

theorem floOnly_refl (s : State) : floOnly s s := ⟨rfl, fun _ _ _ => rfl, staysPend_refl s⟩

theorem floOnly_trans (h : floOnly s t) (k : floOnly t u) : floOnly s u := by
  obtain ⟨h1, h2, h3⟩ := h
  obtain ⟨k1, k2, k3⟩ := k
  exact ⟨by rw [k1, h1], fun a ha hi => (k2 a ha hi).trans (h2 a ha hi), staysPend_trans h3 k3⟩

theorem floOnly_flo (s : State) (x : FloState) : floOnly s { s with flo := x } := ⟨rfl, fun _ _ _ => rfl, staysPend_of_regs rfl⟩

theorem floOnly_irq (s : State) (n : Nat) : floOnly s (s.irq n) := by
  obtain ⟨heq, -, hword⟩ := irqOnly_irq s n
  have hflo : (s.irq n).flo = s.flo := irq_flo s n
  exact ⟨by rw [hflo]; exact heq, fun a _ hi => hword a hi, staysPend_irq s n⟩

theorem floOnly_foldl {α : Type} (f : State → α → State) (hf : ∀ t x, floOnly t (f t x)) (l : List α) :
    ∀ s, floOnly s (l.foldl f s) := by
  induction l with
  | nil => exact floOnly_refl
  | cons x l ih => exact fun s => floOnly_trans (hf s x) (ih _)

theorem floOnly_dropCell (s : State) (f : FReg) (hf : f.addr = Reg.FLO_DROP) : floOnly s (s.dropCell f) := by
  refine floOnly_trans (t := s.addWrap f 1) ⟨rfl, fun a ha _ => ?_, staysPend_set s (by rw [hf]; decide) _⟩ (floOnly_irq _ 228)
  rw [State.addWrap, State.set, word_setWord, if_neg (by rw [hf]; exact ha)]

theorem floOnly_enqueue (s : State) (p : Nat) (c : Cell) : floOnly s (s.enqueue p c) := by
  unfold State.enqueue
  dsimp only
  split
  · exact floOnly_flo s _
  split
  · split
    · exact floOnly_trans (floOnly_flo s _) (floOnly_dropCell _ Fld.FLO_DROP_QFULL rfl)
    · exact floOnly_dropCell s Fld.FLO_DROP_QFULL rfl
  · exact floOnly_dropCell s Fld.FLO_DROP_QFULL rfl

theorem floOnly_sendUnicast (s : State) (c : Cell) : floOnly s (s.sendUnicast c) := by
  unfold State.sendUnicast
  split
  · split
    · exact floOnly_flo s _
    · exact floOnly_refl s
  split
  · exact floOnly_enqueue s _ c
  · exact floOnly_dropCell s Fld.FLO_DROP_ROUTE rfl

theorem floOnly_sendMask (s : State) (mask skip : Nat) (c : Cell) : floOnly s (s.sendMask mask skip c) := by
  refine floOnly_foldl _ (fun t p => ?_) _ s
  split
  · exact floOnly_enqueue t p c
  · exact floOnly_refl t

theorem floOnly_sendCell (s : State) (skip : Nat) (c : Cell) : floOnly s (s.sendCell skip c) := by
  unfold State.sendCell
  split
  · exact floOnly_sendMask s 15 skip c
  split
  · exact floOnly_sendMask s _ skip c
  · exact floOnly_sendUnicast s c

theorem floOnly_emitCell (s : State) (typ dst : Nat) (mc bc : Bool) (payload : List Byte) :
    floOnly s (s.emitCell typ dst mc bc payload) := by
  unfold State.emitCell
  split
  · exact floOnly_refl s
  · exact floOnly_trans (floOnly_flo s _) (floOnly_sendCell _ 4 _)

/-- All that a mirrored change does on the cope itself (R243). -/
theorem floOnly_mirrorIf (s : State) (payload : List Byte) : floOnly s (s.mirrorIf payload) := by
  unfold State.mirrorIf State.mirror
  split
  · refine floOnly_trans ?_ (floOnly_emitCell _ 2 _ false false payload)
    split
    · exact floOnly_flo s _
    · exact floOnly_refl s
  · exact floOnly_refl s

theorem floOnly_mirrorDem (s : State) : floOnly s s.mirrorDem := floOnly_mirrorIf s _
theorem floOnly_mirrorCommit (s : State) (c : Nat) (restart : Bool) : floOnly s (s.mirrorCommit c restart) := floOnly_mirrorIf s _

theorem floOnly_mirrorSlots (s : State) (c first n : Nat) : floOnly s (s.mirrorSlots c first n) :=
  floOnly_foldl _ floOnly_mirrorIf _ s

theorem floOnly_mirrorSlot (s : State) (n : Nat) : floOnly s (s.mirrorSlot n) := by
  unfold State.mirrorSlot
  split
  · exact floOnly_mirrorSlots s _ _ 1
  · exact floOnly_refl s

theorem word_of_floOnly (h : floOnly s t) {a : Nat} (ha : a ≠ Reg.FLO_DROP) (hi : inIrqBlock a = false) : t.word a = s.word a :=
  h.2.1 a ha hi
theorem get_of_floOnly (h : floOnly s t) (f : FReg) (ha : f.addr ≠ Reg.FLO_DROP) (hi : inIrqBlock f.addr = false) :
    t.get f = s.get f := by
  unfold State.get; rw [h.2.1 _ ha hi]
theorem bit_of_floOnly (h : floOnly s t) (f : FReg) (k : Nat) (ha : f.addr ≠ Reg.FLO_DROP) (hi : inIrqBlock f.addr = false) :
    t.bit f k = s.bit f k := by
  unfold State.bit; rw [get_of_floOnly h f ha hi]

theorem sameBut_mono {l m : List Nat} (h : s.sameBut t l) (hl : l ⊆ m) : s.sameBut t m :=
  ⟨fun a ha hi => h.1 a (fun e => ha (hl e)) hi, h.2⟩

theorem sameBut_mirrored {l : List Nat} (h : s.sameBut t l) (k : floOnly t u) (hl : Reg.FLO_DROP ∈ l) : s.sameBut u l := by
  refine ⟨fun a ha hi => ?_, fun a => ?_⟩
  · exact (k.2.1 a (fun e => ha (e ▸ hl)) hi).trans (h.1 a ha hi)
  · have hmem : u.mem = t.mem := by have e := congrArg State.mem k.1; exact e
    rw [← h.2 a, State.byte, hmem, State.byte]

end mirror

-- ── Transactions (R109, R110) ─────────────────────────────────────────────────────────────────────────────────────

section transactions
variable {s t : State} {l : List Nat}

theorem txnOpen_of_floOnly (h : floOnly s t) (d : Nat) : t.txnOpen d = s.txnOpen d :=
  bit_of_floOnly h Fld.SCH_TXN_OPEN d (by decide) (by decide)

theorem txnOpen_of_word (h : t.word Reg.SCH_TXN = s.word Reg.SCH_TXN) (d : Nat) : t.txnOpen d = s.txnOpen d := by
  unfold State.txnOpen State.bit State.get Fld.SCH_TXN_OPEN
  rw [h]

/-- Opening takes in the cylinders of the mask, and closes none (R109). -/
theorem txnOpen_openTxns (s : State) (mask : Nat) {d : Nat} (hd : d < 24) :
    (s.openTxns mask).txnOpen d = (s.txnOpen d || mask.testBit d) := by
  unfold State.openTxns
  split
  · next h => rw [h, Nat.zero_testBit, Bool.or_false]
  · refine (txnOpen_of_floOnly (floOnly_mirrorIf _ _) d).trans ?_
    unfold State.txnOpen State.bit
    rw [get_set s Fld.SCH_TXN_OPEN _ (by decide), Nat.testBit_mod_two_pow, Nat.testBit_or,
      decide_eq_true (show d < Fld.SCH_TXN_OPEN.w from hd), Bool.true_and]

theorem sameBut_openTxns (h : s.sameBut t l) (ht : Reg.SCH_TXN ∈ l) (hf : Reg.FLO_DROP ∈ l) (mask : Nat) :
    s.sameBut (t.openTxns mask) l :=
  sameBut_ite h (sameBut_mirrored (sameBut_set h Fld.SCH_TXN_OPEN ht _) (floOnly_mirrorIf _ _) hf)

/-- Clearing a cylinder's OPEN bit and telling the drag (R110, R243). -/
def State.clearTxn (s : State) (op c : Nat) : State := (s.setBit Fld.SCH_TXN_OPEN c false).mirrorTxn op (2 ^ c)

theorem txnOpen_clearTxn (s : State) (op : Nat) {c : Nat} (hc : c < 24) (d : Nat) :
    (s.clearTxn op c).txnOpen d = (s.txnOpen d && d != c) := by
  refine (txnOpen_of_floOnly (floOnly_mirrorIf _ _) d).trans ?_
  by_cases h : d = c
  · subst h
    rw [bne_self_eq_false, Bool.and_false]
    exact bit_setBit s Fld.SCH_TXN_OPEN false (by decide) hc
  · rw [bne_iff_ne.mpr h, Bool.and_true]
    exact bit_setBit_other s false (by decide) h

theorem word_clearTxn (s : State) (op c : Nat) {a : Nat} (ha : a ≠ Reg.SCH_TXN) (hf : a ≠ Reg.FLO_DROP) (hi : inIrqBlock a = false) :
    (s.clearTxn op c).word a = s.word a :=
  (word_of_floOnly (floOnly_mirrorIf _ _) hf hi).trans (word_setBit_other s Fld.SCH_TXN_OPEN c false ha)

theorem sameBut_clearTxn (h : s.sameBut t l) (ht : Reg.SCH_TXN ∈ l) (hf : Reg.FLO_DROP ∈ l) (op c : Nat) :
    s.sameBut (t.clearTxn op c) l :=
  sameBut_mirrored (sameBut_set h Fld.SCH_TXN_OPEN ht _) (floOnly_mirrorIf _ _) hf

theorem closeTxn_idle {c : Nat} (h : s.txnOpen c = false) : s.closeTxn c = s := by
  unfold State.closeTxn; rw [h]; rfl
theorem closeTxn_passes {c : Nat} (h : s.txnOpen c = true) (hok : s.setOk c = true) : s.closeTxn c = s.clearTxn 1 c := by
  unfold State.closeTxn; rw [h, hok]; rfl
theorem closeTxn_refused {c : Nat} (h : s.txnOpen c = true) (hok : s.setOk c = false) :
    s.closeTxn c = (s.raiseFlag Fld.SCH_STAT_CLOSE_REFUSED).addWrap Fld.SCH_CNT_CLOSE_REF 1 := by
  unfold State.closeTxn; rw [h, hok]; rfl

theorem cylsOf_one : ∀ c : Fin 24, cylsOf (2 ^ c.val) = [c.val] := by decide

end transactions

-- ── Shadow and active descriptors (R98, R109) ─────────────────────────────────────────────────────────────────────

section descriptors
variable (s : State)

theorem mem_slotsOf {c n : Nat} : n ∈ s.slotsOf c ↔ s.slotBase c ≤ n ∧ n < s.slotBase c + s.slotCnt c := by
  unfold State.slotsOf
  simp only [List.mem_map, List.mem_range]
  constructor
  · rintro ⟨i, hi, rfl⟩; omega
  · exact fun ⟨hlo, hhi⟩ => ⟨n - s.slotBase c, by omega, by omega⟩

theorem lt_of_mem_slotsOf {c n : Nat} (hfit : s.slotBase c + s.slotCnt c ≤ 2048) (h : n ∈ s.slotsOf c) : n < 2048 := by
  rw [mem_slotsOf] at h; omega

/-- A state that differs in other words alone gives the cylinder the same range. -/
theorem slotsOf_of_word {s t : State} {c : Nat} (h : t.word (Reg.SCH_CYL_C c) = s.word (Reg.SCH_CYL_C c)) : t.slotsOf c = s.slotsOf c := by
  simp only [State.slotsOf, State.slotCnt, State.slotBase, State.get, Fld.SCH_CYL_C_SLOT_CNT, Fld.SCH_CYL_C_SLOT_BASE, h]

theorem shadowDesc_of_words {s t : State} {n : Nat} (h : ∀ k, k < 4 → t.word (Reg.SCH_SHADOW n k) = s.word (Reg.SCH_SHADOW n k)) :
    t.shadowDesc n = s.shadowDesc n := by
  unfold State.shadowDesc
  rw [h 0 (by decide), h 1 (by decide), h 2 (by decide), h 3 (by decide)]

theorem activeDesc_of_words {s t : State} {n : Nat} (h : ∀ k, k < 4 → t.word (Reg.SCH_ACTIVE n k) = s.word (Reg.SCH_ACTIVE n k)) :
    t.activeDesc n = s.activeDesc n := by
  unfold State.activeDesc
  rw [h 0 (by decide), h 1 (by decide), h 2 (by decide), h 3 (by decide)]

theorem word_putDesc_other {n a : Nat} (d : Desc) (h : ∀ k, k < 4 → a ≠ Reg.SCH_SHADOW n k) : (s.putDesc n d).word a = s.word a := by
  unfold State.putDesc
  rw [word_setWord, if_neg (h 3 (by decide)), word_setWord, if_neg (h 2 (by decide)), word_setWord, if_neg (h 1 (by decide)), word_setWord,
    if_neg (h 0 (by decide))]

/-- A word of the descriptor, by its place. -/
def Desc.word (d : Desc) (k : Nat) : Nat := if k = 0 then d.w0 else if k = 1 then d.w1 else if k = 2 then d.w2 else d.w3

theorem word_putDesc_same (n : Nat) (d : Desc) {k : Nat} (hk : k < 4) :
    (s.putDesc n d).word (Reg.SCH_SHADOW n k) = BitVec.ofNat 32 (d.word k) := by
  have hne : ∀ i j : Nat, i ≠ j → Reg.SCH_SHADOW n i ≠ Reg.SCH_SHADOW n j := fun i j h => by simp only [Reg.SCH_SHADOW]; omega
  unfold State.putDesc
  match k, hk with
  | 0, _ => rw [word_setWord, if_neg (hne 0 3 (by decide)), word_setWord, if_neg (hne 0 2 (by decide)), word_setWord,
      if_neg (hne 0 1 (by decide)), word_setWord, if_pos rfl]; rfl
  | 1, _ => rw [word_setWord, if_neg (hne 1 3 (by decide)), word_setWord, if_neg (hne 1 2 (by decide)), word_setWord, if_pos rfl]; rfl
  | 2, _ => rw [word_setWord, if_neg (hne 2 3 (by decide)), word_setWord, if_pos rfl]; rfl
  | 3, _ => rw [word_setWord, if_pos rfl]; rfl

theorem word_activeDesc (n : Nat) {k : Nat} (hk : k < 4) : BitVec.ofNat 32 ((s.activeDesc n).word k) = s.word (Reg.SCH_ACTIVE n k) := by
  match k, hk with
  | 0, _ | 1, _ | 2, _ | 3, _ => exact (BitVec.ofNat_toNat _ _).trans (BitVec.setWidth_eq _)

end descriptors

-- The active range copied back (R109)

section abort
variable {l : List Nat}

/-- The copies leave what stands before the shadow slots. -/
theorem word_copiedBack_low {a : Nat} (ha : a < 0x400A8000) :
    ∀ s : State, (l.foldl (fun s n => s.putDesc n (s.activeDesc n)) s).word a = s.word a := by
  induction l with
  | nil => exact fun s => rfl
  | cons n l ih =>
    intro s
    rw [List.foldl_cons, ih]
    exact word_putDesc_other s _ (fun k hk => by unfold Reg.SCH_SHADOW; omega)

theorem word_copiedBack (hl : ∀ n ∈ l, n < 2048) {m k : Nat} (hm : m < 2048) (hk : k < 4) :
    ∀ s : State, (l.foldl (fun s n => s.putDesc n (s.activeDesc n)) s).word (Reg.SCH_SHADOW m k) =
      if m ∈ l then s.word (Reg.SCH_ACTIVE m k) else s.word (Reg.SCH_SHADOW m k) := by
  induction l with
  | nil => exact fun s => rfl
  | cons n l ih =>
    intro s
    have hn := hl n List.mem_cons_self
    rw [List.foldl_cons, ih (fun j hj => hl j (List.mem_cons_of_mem n hj)),
      word_putDesc_other s _ (a := Reg.SCH_ACTIVE m k) (fun j hj => by unfold Reg.SCH_ACTIVE Reg.SCH_SHADOW; omega)]
    by_cases hmn : m = n
    · rw [if_pos (show m ∈ n :: l from hmn ▸ List.mem_cons_self), hmn, word_putDesc_same s n _ hk, word_activeDesc s n hk, ite_self]
    · rw [word_putDesc_other s _ (fun j hj => by unfold Reg.SCH_SHADOW; omega)]
      simp only [List.mem_cons, hmn, false_or]

end abort

section abort
variable {s : State} {c : Nat}

theorem abortTxn_eq : s.abortTxn c = ((s.slotsOf c).foldl (fun s n => s.putDesc n (s.activeDesc n)) s).clearTxn 2 c := rfl

theorem txnOpen_abortTxn (hc : c < 24) (d : Nat) : (s.abortTxn c).txnOpen d = (s.txnOpen d && d != c) := by
  rw [abortTxn_eq, txnOpen_clearTxn _ 2 hc]
  congr 1
  exact txnOpen_of_word (word_copiedBack_low (by decide) s) d

variable (hfit : s.slotBase c + s.slotCnt c ≤ 2048)
include hfit

theorem word_abortTxn_shadow {m k : Nat} (hm : m < 2048) (hk : k < 4) : (s.abortTxn c).word (Reg.SCH_SHADOW m k) =
    if m ∈ s.slotsOf c then s.word (Reg.SCH_ACTIVE m k) else s.word (Reg.SCH_SHADOW m k) := by
  have hlo : 0x400A8000 ≤ Reg.SCH_SHADOW m k := by unfold Reg.SCH_SHADOW; omega
  have hhi : Reg.SCH_SHADOW m k < 0x400B0000 := by unfold Reg.SCH_SHADOW; omega
  rw [abortTxn_eq, word_clearTxn _ 2 c (Nat.ne_of_gt (Nat.lt_of_lt_of_le (by decide) hlo)) (Nat.ne_of_lt (Nat.lt_trans hhi (by decide)))
    (inIrqBlock_above (by omega))]
  exact word_copiedBack (fun n => lt_of_mem_slotsOf s hfit) hm hk s

theorem shadowDesc_abortTxn {m : Nat} (hm : m < 2048) :
    (s.abortTxn c).shadowDesc m = if m ∈ s.slotsOf c then s.activeDesc m else s.shadowDesc m := by
  unfold State.shadowDesc
  rw [word_abortTxn_shadow hfit hm (by decide : 0 < 4), word_abortTxn_shadow hfit hm (by decide : 1 < 4),
    word_abortTxn_shadow hfit hm (by decide : 2 < 4), word_abortTxn_shadow hfit hm (by decide : 3 < 4)]
  split <;> rfl

end abort

end Sys2Proof.Machine

/-! PROOFS. Rows that write one register of the scheduler, the profiles, the output stage and the witness (O33). -/

namespace Sys2Proof.Machine

-- ── Transactions and the refresh (R109, R110, R135) ───────────────────────────────────────────────────────────────

section scheduler
variable {s : State} {c : Fin 24} {q : State → Prop}

theorem txnOpen_answer (t : State) (d : Word) (k : Nat) : (t.answer d).txnOpen k = t.txnOpen k := txnOpen_of_word (answer_word t d _) k

theorem mask_one : ∀ c : Fin 24, (BitVec.ofNat 32 (2 ^ c.val)).toNat % 16777216 = 2 ^ c.val := by decide

theorem regEffect_txn (s : State) (v : Word) : s.regEffect Reg.SCH_TXN v = s.openTxns (v.toNat % 16777216) := rfl
theorem regEffect_txnClose (s : State) (c : Fin 24) : s.regEffect Reg.SCH_TXN_CLOSE (BitVec.ofNat 32 (2 ^ c.val)) = s.closeTxn c := by
  have h : ∀ v, s.regEffect Reg.SCH_TXN_CLOSE v = s.closeTxns (v.toNat % 16777216) := fun _ => rfl
  rw [h, mask_one, State.closeTxns, cylsOf_one]
  rfl
theorem regEffect_txnAbort (s : State) (c : Fin 24) : s.regEffect Reg.SCH_TXN_ABORT (BitVec.ofNat 32 (2 ^ c.val)) = s.abortTxn c := by
  have h : ∀ v, s.regEffect Reg.SCH_TXN_ABORT v = s.abortTxns (v.toNat % 16777216) := fun _ => rfl
  rw [h, mask_one, State.abortTxns, cylsOf_one]
  rfl

variable (hg : s.flag Fld.CLK_GATE0_SCH = true)
include hg

theorem does_txnOpen : s.does (.txnOpen c) (fun u => u.txnOpen c = true ∧ (∀ d : Fin 24, d ≠ c → u.txnOpen d = s.txnOpen d) ∧
    s.sameBut u [Reg.SCH_TXN, Reg.FLO_DROP]) := by
  refine does_gatedWrite s (a := Reg.SCH_TXN) (by decide) hg rfl rfl ?_
  rw [regEffect_txn, mask_one]
  refine ⟨?_, fun d hd => ?_, sameBut_answer (sameBut_openTxns (sameBut_refl s _) (by simp) (by simp) _) 0⟩
  · rw [txnOpen_answer, txnOpen_openTxns s _ c.isLt, Nat.testBit_two_pow_self, Bool.or_true]
  · rw [txnOpen_answer, txnOpen_openTxns s _ d.isLt, Nat.testBit_two_pow_of_ne (fun e => hd (Fin.ext e.symm)), Bool.or_false]

/-- The other transactions stand where one closes. -/
theorem does_txnClose {q : State → Prop} (hq : q ((s.closeTxn c).answer 0)) : s.does (.txnClose c) q :=
  does_gatedWrite s (a := Reg.SCH_TXN_CLOSE) (by decide) hg rfl rfl (regEffect_txnClose s c ▸ hq)

theorem does_txnCloses (ho : s.txnOpen c = true) (hok : s.setOk c = true) : s.does (.txnClose c) (fun u => u.txnOpen c = false ∧
    (∀ d : Fin 24, d ≠ c → u.txnOpen d = s.txnOpen d) ∧ s.sameBut u [Reg.SCH_TXN, Reg.FLO_DROP]) := by
  refine does_txnClose hg ?_
  rw [closeTxn_passes ho hok]
  refine ⟨?_, fun d hd => ?_, sameBut_answer (sameBut_clearTxn (sameBut_refl s _) (by simp) (by simp) 1 c) 0⟩
  · rw [txnOpen_answer, txnOpen_clearTxn s 1 c.isLt, bne_self_eq_false, Bool.and_false]
  · rw [txnOpen_answer, txnOpen_clearTxn s 1 c.isLt, bne_iff_ne.mpr (fun e => hd (Fin.ext e)), Bool.and_true]

theorem does_txnCloseRefused (ho : s.txnOpen c = true) (hok : s.setOk c = false) : s.does (.txnClose c) (fun u => u.txnOpen c = true ∧
    u.flag Fld.SCH_STAT_CLOSE_REFUSED = true ∧ s.sameBut u [Reg.SCH_STAT, Reg.SCH_CNT]) := by
  refine does_txnClose hg ?_
  rw [closeTxn_refused ho hok]
  have hsame : s.sameBut ((s.raiseFlag Fld.SCH_STAT_CLOSE_REFUSED).addWrap Fld.SCH_CNT_CLOSE_REF 1) [Reg.SCH_STAT, Reg.SCH_CNT] :=
    sameBut_set (sameBut_raiseFlag (sameBut_refl s _) _ (by decide)) _ (by decide) _
  refine ⟨?_, ?_, sameBut_answer hsame 0⟩
  · rw [txnOpen_answer, txnOpen_of_word (hsame.1 _ (by decide) (by decide)), ho]
  · rw [answer_flag]
    exact (flag_set_apart _ _ (by decide)).trans (flag_raiseFlag s _ (by decide) (by decide))

theorem does_txnAbort (hfit : s.slotBase c + s.slotCnt c ≤ 2048) : s.does (.txnAbort c) (fun u => u.txnOpen c = false ∧
    (∀ d : Fin 24, d ≠ c → u.txnOpen d = s.txnOpen d) ∧ (∀ n ∈ s.slotsOf c, u.shadowDesc n = s.activeDesc n) ∧
    ∀ n, n < 2048 → n ∉ s.slotsOf c → u.shadowDesc n = s.shadowDesc n) := by
  refine does_gatedWrite s (a := Reg.SCH_TXN_ABORT) (by decide) hg rfl rfl ?_
  rw [regEffect_txnAbort]
  have hdesc : ∀ n, ((s.abortTxn c).answer 0).shadowDesc n = (s.abortTxn c).shadowDesc n := fun n =>
    shadowDesc_of_words (fun _ _ => answer_word _ _ _)
  refine ⟨?_, fun d hd => ?_, fun n hn => ?_, fun n hn hout => ?_⟩
  · rw [txnOpen_answer, txnOpen_abortTxn c.isLt, bne_self_eq_false, Bool.and_false]
  · rw [txnOpen_answer, txnOpen_abortTxn c.isLt, bne_iff_ne.mpr (fun e => hd (Fin.ext e)), Bool.and_true]
  · rw [hdesc, shadowDesc_abortTxn hfit (lt_of_mem_slotsOf s hfit hn), if_pos hn]
  · rw [hdesc, shadowDesc_abortTxn hfit hn, if_neg hout]

theorem does_refresh : s.does .refresh (fun u => u.get Fld.SCH_STAT_AUTO_CNT = 0 ∧ u.sch.refreshed = true ∧ s.sameBut u [Reg.SCH_STAT]) := by
  refine does_gatedWrite s (a := Reg.SCH_REFRESH) (v := 1) (by decide) hg rfl rfl
    ⟨?_, rfl, sameBut_answer (t := s.refresh) (sameBut_set (sameBut_refl s _) Fld.SCH_STAT_AUTO_CNT (by decide) 0) 0⟩
  exact get_set s Fld.SCH_STAT_AUTO_CNT 0 (by decide)

end scheduler

-- ── A direct write of a shadow slot (R103, R425) ──────────────────────────────────────────────────────────────────

section shadow
variable (s : State) {a : Nat} (hlo : 0x400A8000 ≤ a) (hhi : a < 0x400B0000) (halign : a % 4 = 0)

theorem regIndex_none {f : Nat → Nat} {count a : Nat} (h : ∀ i, i < count → f i ≠ a) : regIndex f count a = none := by
  unfold regIndex
  rw [List.find?_eq_none]
  intro i hi
  rw [beq_iff_eq]
  exact h i (List.mem_range.mp hi)

include hlo hhi in
/-- The host owns no register of the scheduler (R422). -/
theorem hostOwned_shadow : hostOwned a = false := by
  have hack : regIndex Reg.IRQ_HACK 2 a = none := regIndex_none (fun i hi => by unfold Reg.IRQ_HACK; omega)
  have hcfg : regIndex Reg.IRQ_HCFG 2 a = none := regIndex_none (fun i hi => by unfold Reg.IRQ_HCFG; omega)
  have hpend : regIndex Reg.IRQ_HPEND 8 a = none := regIndex_none (fun i hi => by unfold Reg.IRQ_HPEND; omega)
  have hsrc : regIndex Reg.IRQ_HSRC 256 a = none := regIndex_none (fun i hi => by unfold Reg.IRQ_HSRC; omega)
  have hgrp : (List.range 8).any (fun g => a == Reg.IRQ_GRP (8 + g)) = false := by
    rw [List.any_eq_false]
    intro g hg
    have := List.mem_range.mp hg
    rw [beq_iff_eq]
    unfold Reg.IRQ_GRP
    omega
  unfold hostOwned
  rw [hack, hcfg, hpend, hsrc, hgrp]
  simp only [inRange, Option.isSome_none, Bool.or_false, Bool.or_eq_false_iff, Bool.and_eq_false_iff, decide_eq_false_iff_not]
  omega

include hlo hhi in
/-- The host writes the scheduler's registers in BENCH alone (R425). -/
theorem hostMay_shadow (v : Word) : s.hostMay a v = if s.st = 9 then stOk else stForbids := by
  have hclear : clearable a = false := by
    simp only [clearable, inRange, Bool.or_eq_false_iff, Bool.and_eq_false_iff, decide_eq_false_iff_not]
    omega
  have harea : inHostArea a = false := by
    simp only [inHostArea, inRange, Bool.and_eq_false_iff, decide_eq_false_iff_not]
    omega
  have h0 : a ≠ Reg.CLK_GATE0 := Nat.ne_of_gt (Nat.lt_of_lt_of_le (by decide) hlo)
  have h1 : a ≠ Reg.CLK_GATE1 := Nat.ne_of_gt (Nat.lt_of_lt_of_le (by decide) hlo)
  unfold State.hostMay
  simp only [h0, h1, hclear, harea, hostOwned_shadow hlo hhi, decide_false, Bool.or_false, Bool.false_and, Bool.false_eq_true, if_false,
    decide_eq_true_eq]

include hlo hhi halign in
/-- The row of the shadow slots: every bit takes what is written. -/
theorem regRow_shadow : regRow a = some ⟨0x400A8000, 4, 8192, 0x0, 0xFFFFFFFF, 0x0, 0x0, 0x0, 0x0, 0x0, 0x0⟩ := by
  have hblock : rowsAt a = rowsSCH := by
    unfold rowsAt
    repeat rw [if_neg (by omega)]
    rw [if_pos (by omega)]
  have hbefore : ∀ r ∈ rowsSCH.take 21, 0 < r.stride ∧ r.base + r.stride * r.count ≤ 0x400A8000 := by decide
  unfold regRow
  rw [hblock, List.find?_eq_some_iff_append]
  refine ⟨?_, rowsSCH.take 21, rowsSCH.drop 22, rfl, fun r hr => ?_⟩
  · simp only [rowCovers, Bool.and_eq_true, decide_eq_true_eq, beq_iff_eq]
    omega
  · obtain ⟨hpos, hend⟩ := hbefore r hr
    have hover : ¬ (a - r.base) / r.stride < r.count := by
      rw [Nat.not_lt, Nat.le_div_iff_mul_le hpos, Nat.mul_comm]
      omega
    simp [rowCovers, hover]

include hlo hhi halign in
theorem word_plainWrite_shadow (v : Word) : (s.plainWrite a v).word a = v := by
  have hrow := regRow_shadow hlo hhi halign
  have hopen : s.rwhOpen a = true := by
    have hsim : a ≠ Reg.WHL_SIM_ANG := Nat.ne_of_gt (Nat.lt_of_lt_of_le (by decide) hlo)
    unfold State.rwhOpen
    rw [if_neg (by omega), if_neg (by omega), if_neg (by omega), if_neg hsim]
  apply BitVec.eq_of_getLsbD_eq
  intro k hk
  rw [getLsbD_plainWrite s v hrow hopen hk]
  have hall : (0xFFFFFFFF : Nat).testBit k = true := by
    rw [show (0xFFFFFFFF : Nat) = 2 ^ 32 - 1 by decide, Nat.testBit_two_pow_sub_one]
    exact decide_eq_true hk
  simp [hall]

include hlo hhi halign in
theorem regEffect_shadow (v : Word) : s.regEffect a v = (s.plainWrite a v).mirrorSlot ((a - Reg.SCH_SHADOW 0 0) / 16) := by
  have hne : ∀ n, n < 0x400A8000 → a ≠ n := fun n h => by omega
  have hrange : Reg.SCH_SHADOW 0 0 ≤ a ∧ a ≤ Reg.SCH_SHADOW 2047 3 := by unfold Reg.SCH_SHADOW; omega
  unfold State.regEffect State.writeSCH
  repeat rw [if_neg (by omega)]
  rw [if_pos (by omega), if_neg (hne _ (by decide)), if_neg (hne _ (by decide)), if_neg (hne _ (by decide)), if_neg (hne _ (by decide)),
    if_neg (hne _ (by decide)), if_pos hrange]

include hlo hhi in
theorem writeStatus_shadow (v : Word) (host : Bool) : s.writeStatus a v host = 0 := by
  have hne : ∀ n, n < 0x400A8000 ∨ 0x400B0000 ≤ n → a ≠ n := fun n h => by omega
  have hrange : regIndex Reg.SCH_CYL_C 24 a = none := regIndex_none (fun i hi => by unfold Reg.SCH_CYL_C; omega)
  have hcyl : regIndex Reg.SCH_CYL_A 24 a = none := regIndex_none (fun i hi => by unfold Reg.SCH_CYL_A; omega)
  unfold State.writeStatus State.checkReg State.checkSCH
  rw [if_neg (hne _ (by decide)), if_neg (hne _ (by decide)), if_neg (by simp [hne Reg.FLO_PAIR (by decide)])]
  repeat rw [if_neg (by omega)]
  rw [if_pos (by omega), if_neg (hne _ (by decide)), hrange, hcyl]
  rfl

end shadow

section shadowWrite
variable {s : State} (n : Fin 2048) (k : Fin 4) (v : Word) (hg : s.flag Fld.CLK_GATE0_SCH = true)

theorem shadow_range : 0x400A8000 ≤ Reg.SCH_SHADOW n k ∧ Reg.SCH_SHADOW n k < 0x400B0000 ∧ Reg.SCH_SHADOW n k % 4 = 0 := by
  unfold Reg.SCH_SHADOW; omega

include hg in
/-- The host's write of a shadow slot on the bus, in BENCH and outside it. -/
theorem busWrite_shadow : s.busWrite .host 4 (Reg.SCH_SHADOW n k) v =
    if s.st = 9 then (((s.plainWrite (Reg.SCH_SHADOW n k) v).mirrorSlot ((Reg.SCH_SHADOW n k - Reg.SCH_SHADOW 0 0) / 16)).answer 0)
    else { s with bus := { status := stForbids } } := by
  obtain ⟨hlo, hhi, halign⟩ := shadow_range n k
  have hregs : inRegs (Reg.SCH_SHADOW n k) = true := by
    simp only [inRegs, inRange, Bool.and_eq_true, decide_eq_true_eq]
    omega
  have hgate : gatesOf (Reg.SCH_SHADOW n k) = [Fld.CLK_GATE0_SCH] := by
    unfold gatesOf
    repeat rw [if_neg (by omega)]
    rw [if_pos (by omega)]
  have hup : s.regUp (Reg.SCH_SHADOW n k) = true :=
    regUp_of_gate s (by rw [regRow_shadow hlo hhi halign]; exact Option.some_ne_none _) hgate hg
  by_cases hst : s.st = 9
  · simp [State.busWrite, mayWrite, hregs, halign, hup, hostMay_shadow s hlo hhi, hst, stOk, writeStatus_shadow s hlo hhi,
      regEffect_shadow s hlo hhi halign]
  · simp [State.busWrite, mayWrite, hregs, halign, hup, hostMay_shadow s hlo hhi, hst, stForbids]

include hg in
theorem does_shadowWrite (hst : s.st = 9) : s.does (.shadowSlotWrite n k v) (fun u => u.word (Reg.SCH_SHADOW n k) = v ∧
    s.sameBut u [Reg.SCH_SHADOW n k, Reg.FLO_DROP]) := by
  obtain ⟨hlo, hhi, halign⟩ := shadow_range n k
  have hsame : s.sameBut (s.plainWrite (Reg.SCH_SHADOW n k) v) [Reg.SCH_SHADOW n k, Reg.FLO_DROP] :=
    sameBut_mono (sameBut_plainWrite s v) (by simp)
  refine ⟨_, rfl, ?_⟩
  rw [busWrite_shadow n k v hg, if_pos hst]
  refine ⟨?_, sameBut_answer (sameBut_mirrored hsame (floOnly_mirrorSlot _ _) (by simp)) 0⟩
  rw [answer_word, word_of_floOnly (floOnly_mirrorSlot _ _) (Nat.ne_of_lt (Nat.lt_trans hhi (by decide))) (inIrqBlock_above (by omega))]
  exact word_plainWrite_shadow s hlo hhi halign v

include hg in
theorem does_shadowForbidden (hst : s.st ≠ 9) : s.does (.shadowSlotWrite n k v) (fun u => u.bus.status = stForbids ∧ s.sameBut u []) := by
  refine ⟨_, rfl, ?_⟩
  rw [busWrite_shadow n k v hg, if_neg hst]
  exact ⟨rfl, fun _ _ _ => rfl, fun _ => rfl⟩

end shadowWrite

-- ── Applying a profile (R193) ─────────────────────────────────────────────────────────────────────────────────────

section profile
variable (s : State) (p : Fin 16)

/-- An apply of one profile alone. -/
theorem regEffect_apply : s.regEffect Reg.PRF_APPLY (BitVec.ofNat 32 (2 ^ p.val)) = s.applyProfile p := by
  have hmask : ∀ p : Fin 16, (List.range 16).filter (fun k => (BitVec.ofNat 32 (2 ^ p.val)).toNat.testBit k) = [p.val] := by decide
  have h : s.regEffect Reg.PRF_APPLY (BitVec.ofNat 32 (2 ^ p.val)) =
      (List.range 16).foldl (fun s k => if (BitVec.ofNat 32 (2 ^ p.val)).toNat.testBit k then s.applyProfile k else s) s := rfl
  rw [h, ← List.foldl_filter, hmask]
  rfl

/-- The registers of a profile's active copy. -/
def activeRegs (p : Nat) : List Nat := [Reg.PRF_ACT_CFG p, Reg.PRF_ACT_REG p, Reg.PRF_ACT_BOOST p, Reg.PRF_ACT_PEAK p, Reg.PRF_ACT_DROP p,
  Reg.PRF_ACT_HOLD p, Reg.PRF_ACT_END p, Reg.PRF_ACT_BATT p]

theorem sameBut_putActive (p : Nat) (f : Profile) : s.sameBut (s.putActive p f) (activeRegs p) := by
  unfold State.putActive
  iterate 8 refine sameBut_setWord ?_ (by simp [activeRegs]) _
  exact sameBut_refl s _

theorem word_putActive (p : Nat) (f : Profile) : (s.putActive p f).activeProfile p = f := by
  simp [State.putActive, State.activeProfile, word_setWord, Reg.PRF_ACT_CFG, Reg.PRF_ACT_REG, Reg.PRF_ACT_BOOST, Reg.PRF_ACT_PEAK,
    Reg.PRF_ACT_DROP, Reg.PRF_ACT_HOLD, Reg.PRF_ACT_END, Reg.PRF_ACT_BATT]

variable {s p} (hg : s.flag Fld.CLK_GATE0_PRF = true)
include hg

theorem does_apply {q : State → Prop} (hq : q ((s.applyProfile p).answer 0)) : s.does (.prfApply p) q :=
  does_gatedWrite s (a := Reg.PRF_APPLY) (by decide) hg rfl rfl (regEffect_apply s p ▸ hq)

theorem does_applies (hok : (s.shadowProfile p).ok = true) :
    s.does (.prfApply p) (fun u => u.activeProfile p = s.shadowProfile p ∧ s.sameBut u (activeRegs p)) := by
  refine does_apply hg ?_
  unfold State.applyProfile
  rw [if_pos hok]
  have hact := word_putActive s p (s.shadowProfile p)
  have hsame := sameBut_putActive s p (s.shadowProfile p)
  generalize s.putActive p (s.shadowProfile p) = t at hact hsame ⊢
  exact ⟨hact, sameBut_of_regs hsame rfl rfl⟩

theorem does_applyRefused (hok : (s.shadowProfile p).ok = false) :
    s.does (.prfApply p) (fun u => u.bit Fld.PRF_STAT_APPLY_REF p = true ∧ s.sameBut u [Reg.PRF_STAT]) := by
  refine does_apply hg ?_
  unfold State.applyProfile
  rw [if_neg (by rw [hok]; decide)]
  exact ⟨bit_raiseBit s Fld.PRF_STAT_APPLY_REF p (by decide) p.isLt (Or.inl rfl),
    sameBut_of_regs (sameBut_set (sameBut_refl s _) Fld.PRF_STAT_APPLY_REF (by decide) _) rfl rfl⟩

end profile

-- ── The witness: a channel's correction and the waveform capture (R204, R211) ─────────────────────────────────────

section witness
variable {s : State} (n : Fin 48) (hg : s.flag Fld.CLK_GATE0_WIT = true)

theorem corr_facts : ∀ n : Fin 48, gatedBy Fld.CLK_GATE0_WIT (Reg.WIT_CH_CORR n) = true ∧ regIndex Reg.WIT_CH_CORR 48 (Reg.WIT_CH_CORR n) = some n.val ∧
    rwField (Fld.WIT_CH_CORR_D n) = true := by decide

theorem corr_range : 0x400E0200 ≤ Reg.WIT_CH_CORR n ∧ Reg.WIT_CH_CORR n < 0x400F0000 := by unfold Reg.WIT_CH_CORR; omega

theorem regEffect_corr (v : Word) : s.regEffect (Reg.WIT_CH_CORR n) v = s.writeCorr n v := by
  obtain ⟨hlo, hhi⟩ := corr_range n
  have hne : ∀ m, m < 0x400E0200 → Reg.WIT_CH_CORR n ≠ m := fun m h => by omega
  unfold State.regEffect State.writeWIT
  repeat rw [if_neg (by omega)]
  rw [if_pos (by omega), if_neg (hne _ (by decide)), if_neg (hne _ (by decide)), (corr_facts n).2.1]

theorem rwhOpen_above {a : Nat} (h : 0x40090000 ≤ a) : s.rwhOpen a = true := rwhOpen_trk s h

theorem writeStatus_wit {a : Nat} (hlo : 0x400E0200 ≤ a) (hhi : a < 0x400F0000) (v : Word) (host : Bool) : s.writeStatus a v host = 0 := by
  have hne : ∀ m, m < 0x400E0200 ∨ 0x400F0000 ≤ m → a ≠ m := fun m h => by omega
  have hop : regIndex Reg.WIT_DET_OP 16 a = none := regIndex_none (fun i hi => by unfold Reg.WIT_DET_OP; omega)
  have hcp : regIndex Reg.WIT_DET_CP 16 a = none := regIndex_none (fun i hi => by unfold Reg.WIT_DET_CP; omega)
  unfold State.writeStatus State.checkReg State.checkWIT
  rw [if_neg (hne _ (by decide)), if_neg (hne _ (by decide)), if_neg (by simp [hne Reg.FLO_PAIR (by decide)])]
  repeat rw [if_neg (by omega)]
  rw [if_pos (by omega), hop, hcp]
  rfl

include hg in
theorem does_corrWrite (v : BitVec 16) : s.does (.witCorrWrite n v) (fun u => u.get (Fld.WIT_CH_CORR_D n) = v.toNat ∧
    s.sameBut u [Reg.WIT_CH_CORR n, Reg.FLO_DROP]) := by
  obtain ⟨hlo, hhi⟩ := corr_range n
  obtain ⟨hgate, -, hrw⟩ := corr_facts n
  refine does_gatedWrite s (a := Reg.WIT_CH_CORR n) hgate hg (writeStatus_wit hlo hhi _ _) rfl ?_
  rw [regEffect_corr]
  have hfield : fieldOf (Fld.WIT_CH_CORR_D n) (v.zeroExtend 32) = v.toNat := by
    have hv := v.isLt
    simp only [fieldOf, Fld.WIT_CH_CORR_D, BitVec.truncate_eq_setWidth, BitVec.toNat_setWidth, Nat.shiftRight_zero]
    omega
  have hput := fieldOf_putRw s (f := Fld.WIT_CH_CORR_D n) (v.zeroExtend 32) hrw (rwhOpen_above (Nat.le_trans (by decide) hlo))
  have hsame : s.sameBut (s.putRw (Reg.WIT_CH_CORR n) (v.zeroExtend 32)) [Reg.WIT_CH_CORR n, Reg.FLO_DROP] :=
    ⟨fun a ha _ => word_putRw_other s _ (fun e => ha (by simp [e])), fun a => putRw_byte s _ _ _⟩
  change (s.putRw (Reg.WIT_CH_CORR n) (v.zeroExtend 32)).get (Fld.WIT_CH_CORR_D n) = _ at hput
  unfold State.writeCorr
  generalize s.putRw (Reg.WIT_CH_CORR n) (v.zeroExtend 32) = w at hput hsame ⊢
  have hmirror : floOnly w (w.mirrorCorr n) := floOnly_mirrorIf w _
  generalize w.mirrorCorr n = t at hmirror ⊢
  refine ⟨?_, sameBut_of_regs (sameBut_mirrored hsame hmirror (by simp)) rfl rfl⟩
  exact (get_of_floOnly hmirror (Fld.WIT_CH_CORR_D n) (Nat.ne_of_lt (Nat.lt_trans hhi (by decide)))
    (inIrqBlock_above (Nat.le_trans (by decide) hlo))).trans (hput.trans hfield)

include hg in
theorem does_waveArm (h : s.wit.capturing = none ∨ s.wit.waveCut.isSome = true) : s.does (.witWaveArm n) (fun u =>
    u.flag Fld.WIT_WAVE_ARM = true ∧ u.get Fld.WIT_WAVE_CH = n.val ∧ s.sameBut u [Reg.WIT_WAVE]) := by
  have hfree : ¬ (s.wit.capturing.isSome && s.wit.waveCut.isNone) = true := by
    rcases h with h | h
    · simp [h]
    · simp only [Option.isSome_iff_ne_none] at h
      simp [h]
  have hword : ∀ n : Fin 48, fieldOf Fld.WIT_WAVE_CH (BitVec.ofNat 32 n.val ||| 0x40000000) = n.val ∧
      fieldOf Fld.WIT_WAVE_ARM (BitVec.ofNat 32 n.val ||| 0x40000000) = 1 := by decide
  refine does_gatedWrite s (a := Reg.WIT_WAVE) (by decide) hg rfl rfl ?_
  have heffect : s.regEffect Reg.WIT_WAVE (BitVec.ofNat 32 n.val ||| 0x40000000) =
      s.plainWrite Reg.WIT_WAVE (BitVec.ofNat 32 n.val ||| 0x40000000) := if_neg hfree
  rw [heffect]
  refine ⟨?_, ?_, sameBut_answer (sameBut_plainWrite s _) 0⟩
  · rw [answer_flag]
    have harm := flag_write_w1s s (f := Fld.WIT_WAVE_ARM) (BitVec.ofNat 32 n.val ||| 0x40000000) rfl (by decide) (by decide) rfl (by decide)
      (by decide)
    rw [(hword n).2, show ((1 : Nat) != 0) = true from rfl, Bool.or_true] at harm
    exact harm
  · rw [answer_get]
    exact (fieldOf_write s (f := Fld.WIT_WAVE_CH) _ (by decide) rfl).trans (hword n).1

include hg in
theorem does_waveHeld (hrun : s.wit.capturing.isSome = true) (hcut : s.wit.waveCut = none) :
    s.does (.witWaveArm n) (fun u => s.sameBut u []) := by
  have hword : ∀ n : Fin 48, (BitVec.ofNat 32 n.val ||| 0x40000000) &&& (0x80000000 : Word) = 0#32 := by decide
  refine does_gatedWrite s (a := Reg.WIT_WAVE) (by decide) hg rfl rfl ?_
  have hheld : (s.wit.capturing.isSome && s.wit.waveCut.isNone) = true := by rw [hrun, hcut]; rfl
  have heffect : s.regEffect Reg.WIT_WAVE (BitVec.ofNat 32 n.val ||| 0x40000000) =
      s.clearBits Reg.WIT_WAVE ((BitVec.ofNat 32 n.val ||| 0x40000000) &&& 0x80000000) := if_pos hheld
  rw [heffect, hword]
  refine ⟨fun a _ _ => ?_, fun a => by rw [answer_byte, clearBits_byte]⟩
  rw [answer_word, word_clearBits]
  split
  · next h => rw [h, BitVec.zero_and, BitVec.not_zero, BitVec.and_allOnes]
  · rfl

end witness

-- ── Ends and standby entries, channel by channel (R158, R173) ─────────────────────────────────────────────────────

/-- From `s` to `t` the self-test stands, and every register below the witness but the status of channel `n` and of its bank. -/
def driveKept (n : Nat) (s t : State) : Prop :=
  (∀ a, a < 0x400E0000 → a ≠ Reg.DRV_CH_STAT n → a ≠ Reg.DRV_BANKSTAT (bankOf n) → inIrqBlock a = false → t.word a = s.word a) ∧
  t.tst = s.tst

section drive
variable {s t u : State} {n m : Nat}

theorem driveKept_refl (n : Nat) (s : State) : driveKept n s s := ⟨fun _ _ _ _ _ => rfl, rfl⟩

theorem driveKept_of_regs (h : driveKept n s t) (hr : u.regs = t.regs) (ht : u.tst = t.tst) : driveKept n s u := by
  refine ⟨fun a ha h1 h2 hi => ?_, ht.trans h.2⟩
  rw [← h.1 a ha h1 h2 hi, State.word, hr, State.word]

theorem driveKept_kept (h : driveKept n s t) (k : keptBelow 0x400E0000 t u) (ht : u.tst = t.tst) : driveKept n s u :=
  ⟨fun a ha h1 h2 hi => (k.1 a ha hi).trans (h.1 a ha h1 h2 hi), ht.trans h.2⟩

theorem driveKept_irq (h : driveKept n s t) (k : Nat) : driveKept n s (t.irq k) :=
  driveKept_kept h (keptBelow_irq (keptBelow_refl _ _) k) (irq_tst t k)

theorem driveKept_ite {c : Prop} [Decidable c] (ht : driveKept n s t) (hu : driveKept n s u) : driveKept n s (if c then t else u) := by
  split
  · exact ht
  · exact hu

theorem driveKept_phase (h : driveKept n s t) (ph : Nat) : driveKept n s (t.set (Fld.DRV_CH_STAT_PHASE n) ph) :=
  ⟨fun a ha h1 h2 hi => by
    rw [State.set, word_setWord, if_neg (show a ≠ (Fld.DRV_CH_STAT_PHASE n).addr from h1)]
    exact h.1 a ha h1 h2 hi, h.2⟩

theorem modRec_tst (s : State) (ch : Nat) (f : OpenRec → OpenRec) : (s.modRec ch f).tst = s.tst :=
  (testKept_modRec (testKept_refl s) ch f).1

theorem driveKept_modRec (h : driveKept n s t) (ch : Nat) (f : OpenRec → OpenRec) : driveKept n s (t.modRec ch f) :=
  driveKept_of_regs h (modRec_regs t ch f) (modRec_tst t ch f)

theorem driveKept_setLow (h : driveKept n s t) (ch : Nat) (on fast : Bool) : driveKept n s (t.setLow ch on fast) :=
  driveKept_of_regs h (setLow_regs t ch on fast) (testKept_setLow (testKept_refl t) ch on fast).1

theorem mirrorShot_regs (s : State) (n : Nat) : (s.mirrorShot n).regs = s.regs := by
  unfold State.mirrorShot
  split <;> rfl

theorem driveKept_mirrorShot (h : driveKept n s t) (ch : Nat) : driveKept n s (t.mirrorShot ch) :=
  driveKept_ite (driveKept_of_regs h rfl rfl) h

/-- The event line that a shot names, where it names one. -/
theorem driveKept_shotLine (h : driveKept n s t) (o : Option Shot) (p : Shot → Bool) :
    driveKept n s (match o with | some sh => if p sh then t.irq (48 + sh.line) else t | none => t) := by
  cases o with
  | none => exact h
  | some sh => exact driveKept_ite (driveKept_irq h _) h

/-- Another channel's phase stands, and so does `n`'s own from the point where only records and lines follow. -/
theorem phase_of_driveKept (h : driveKept n s t) (hm : m < 48) (hn : n < 48) (hne : m ≠ n) : t.phase m = s.phase m := by
  unfold State.phase State.get
  have hword : t.word (Fld.DRV_CH_STAT_PHASE m).addr = s.word (Fld.DRV_CH_STAT_PHASE m).addr :=
    h.1 _ (by simp only [Fld.DRV_CH_STAT_PHASE, Reg.DRV_CH_STAT]; omega) (by simp only [Fld.DRV_CH_STAT_PHASE, Reg.DRV_CH_STAT]; omega)
      (by simp only [Fld.DRV_CH_STAT_PHASE, Reg.DRV_CH_STAT, Reg.DRV_BANKSTAT, bankOf]; omega)
      (inIrqBlock_above (by simp only [Fld.DRV_CH_STAT_PHASE, Reg.DRV_CH_STAT]; omega))
  rw [hword]

theorem phase_set (s : State) (n ph : Nat) : (s.set (Fld.DRV_CH_STAT_PHASE n) ph).phase n = ph % 16 :=
  get_set s (Fld.DRV_CH_STAT_PHASE n) ph (by decide : 8 + 4 ≤ 32)

theorem phase_of_regs (h : t.regs = s.regs) (m : Nat) : t.phase m = s.phase m := by
  unfold State.phase State.get State.word; rw [h]

-- A refused shot and its record leave the self-test alone.

theorem ringWrite_tst (s : State) (o : Nat) (bytes : List Byte) : (s.ringWrite o bytes).tst = s.tst := by
  unfold State.ringWrite
  extract_lets seq gone lost w s1 s2 s3
  have h2 : s2.tst = s.tst := by
    unfold s2
    split
    · rfl
    · exact irq_tst _ 147
  have h3 : s3.tst = s.tst := by
    unfold s3
    split
    · exact h2
    · exact h2
  exact h3

theorem countRecord_tst (s : State) (r : OpenRec) (m : Measured) (n : Nat) : (s.countRecord r m n).tst = s.tst := by
  unfold State.countRecord
  split
  · split <;> rfl
  · rfl

theorem refuseShot_tst (s : State) (sh : Shot) (outcome fault : Nat) : (s.refuseShot sh outcome fault).tst = s.tst := by
  unfold State.refuseShot State.recordRefused State.closeRecord
  extract_lets r0 r seq s1 s2 s3
  have h2 : s2.tst = s.tst := by
    unfold s2
    rw [irq_tst, countRecord_tst, ringWrite_tst]
    rfl
  have h3 : s3.tst = s.tst := by
    unfold s3
    split
    · rw [irq_tst, h2]
    · exact h2
  rw [irq_tst]
  split
  · rw [irq_tst, h3]
  · exact h3

theorem foldl_tst {α : Type} (f : State → α → State) (hf : ∀ t x, (f t x).tst = t.tst) (l : List α) : ∀ s, (l.foldl f s).tst = s.tst := by
  induction l with
  | nil => exact fun s => rfl
  | cons x l ih => exact fun s => (ih _).trans (hf s x)

theorem refuseWaiting_tst (s : State) (p : Shot → Bool) : (s.refuseWaiting p).tst = s.tst := by
  refine foldl_tst _ (fun t k => ?_) _ s
  have hrefuse : ∀ (u : State) (w : Shot), (u.refuseShot w 0xD (u.faultClass w.ch)).tst = u.tst := fun u w => refuseShot_tst u w 0xD _
  exact foldl_tst _ hrefuse _ _

-- END (R176)

theorem driveKept_enterEnd (s : State) (n : Nat) : driveKept n s (s.enterEnd n) := by
  unfold State.enterEnd
  extract_lets c s1 s2 s3 s4 s5
  have h1 : driveKept n s s1 := driveKept_of_regs (driveKept_phase (driveKept_refl n s) 5) rfl rfl
  have h2 : driveKept n s s2 := driveKept_setLow h1 n _ _
  have h3 : driveKept n s s3 := driveKept_modRec h2 n _
  have h4 : driveKept n s s4 := driveKept_modRec h3 n _
  have h5 : driveKept n s s5 := driveKept_shotLine h4 c.shot (·.irqEnd)
  exact driveKept_ite (driveKept_refl n s) (driveKept_mirrorShot h5 n)

theorem phase_irq (s : State) (k m : Nat) : (s.irq k).phase m = s.phase m :=
  get_irq s k _ (inIrqBlock_above (by simp only [Fld.DRV_CH_STAT_PHASE, Reg.DRV_CH_STAT]; omega))

/-- A channel that runs is in END after it; an idle one stays so. -/
theorem phase_enterEnd (s : State) (n : Nat) : (s.enterEnd n).phase n = if s.phase n = 0 then 0 else 5 := by
  unfold State.enterEnd
  extract_lets c s1 s2 s3 s4 s5
  have h1 : s1.phase n = 5 := phase_set s n 5
  clear_value s1
  have h4 : s4.phase n = 5 := by
    rw [← h1]
    refine phase_of_regs ?_ n
    exact (modRec_regs _ _ _).trans ((modRec_regs _ _ _).trans (setLow_regs _ _ _ _))
  clear_value s4
  have h5 : s5.phase n = 5 := by
    unfold s5
    split
    · split
      · rw [phase_irq, h4]
      · exact h4
    · exact h4
  clear_value s5
  by_cases h : s.phase n = 0 ∨ s.phase n = 5
  · rw [if_pos h]
    rcases h with h | h <;> rw [h] <;> rfl
  · rw [if_neg h, if_neg (fun e => h (Or.inl e)), ← h5]
    exact phase_of_regs (mirrorShot_regs s5 n) n

-- The entry to standby (R158)

theorem goIdle_shows (h : driveKept n s t) : driveKept n s (t.goIdle n) ∧ (t.goIdle n).phase n = 0 := by
  unfold State.goIdle
  extract_lets c
  have hset := driveKept_phase h 0
  have hzero := phase_set t n 0
  generalize t.set (Fld.DRV_CH_STAT_PHASE n) 0 = u at hset hzero ⊢
  refine ⟨driveKept_mirrorShot (t := u.setChan n _) (driveKept_of_regs hset rfl rfl) n, (phase_of_regs ?_ n).trans hzero⟩
  exact (mirrorShot_regs _ n).trans rfl

theorem standbyEntry_shows (s : State) (hn : n < 48) : driveKept n s (s.standbyEntry n) ∧ (s.standbyEntry n).phase n = 0 := by
  unfold State.standbyEntry
  extract_lets c run s2 s3 s1
  have h2 : driveKept n s s2 := driveKept_modRec (driveKept_refl n s) n _
  have h3 : driveKept n s s3 := driveKept_shotLine h2 c.shot (fun sh => sh.irqEnd && s.phase n != 5)
  clear_value s3
  obtain ⟨hidle, hzero⟩ := goIdle_shows h3
  have h1 : driveKept n s s1 ∧ s1.phase n = 0 := by
    unfold s1
    split
    · exact ⟨hidle, hzero⟩
    · next h => exact ⟨driveKept_refl n s, Decidable.not_not.mp h⟩
  clear_value s1
  have hwait : driveKept n s (s1.refuseWaiting (fun w => w.ch == n)) ∧ (s1.refuseWaiting (fun w => w.ch == n)).phase n = 0 := by
    have hk : keptBelow 0x400E0000 s1 (s1.refuseWaiting (fun w => w.ch == n)) :=
      keptBelow_refuseWaiting (keptBelow_refl _ _) (Nat.le_refl _) _
    exact ⟨driveKept_kept h1.1 hk (refuseWaiting_tst _ _), (phase_of_kept hn hk).trans h1.2⟩
  generalize s1.refuseWaiting (fun w => w.ch == n) = t at hwait ⊢
  obtain ⟨hkept, hphase⟩ := hwait
  unfold State.abortOffTest
  split
  · exact ⟨hkept, hphase⟩
  · refine ⟨⟨fun a ha hs hb hi => ?_, hkept.2⟩, ?_⟩
    · rw [State.set, word_setWord, if_neg (show a ≠ (Fld.DRV_BANKSTAT_DIAG_RUN (bankOf n)).addr from hb)]
      exact hkept.1 a ha hs hb hi
    · exact (get_set_other _ _ _ 0 (bankStat_ne_phase n)).trans hphase

-- A change of the standby settings (R158)

theorem inPair_of_word (h : t.word (Reg.DRV_BANK (bankOf m)) = s.word (Reg.DRV_BANK (bankOf m))) : t.inPair m = s.inPair m := by
  unfold State.inPair State.bit State.get Fld.DRV_BANK_PAIR
  rw [h]

theorem underTest_of_word (h : t.word (Reg.DRV_BANK (bankOf m)) = s.word (Reg.DRV_BANK (bankOf m))) (htst : t.tst = s.tst) :
    t.underTest m = s.underTest m := by
  unfold State.underTest
  rw [inPair_of_word h, htst]

theorem stbySet_of_words (hctrl : t.get Fld.DRV_CTRL_STBY = s.get Fld.DRV_CTRL_STBY)
    (hcfg : t.word (Reg.DRV_CH_CFG m) = s.word (Reg.DRV_CH_CFG m)) : t.stbySet m = s.stbySet m := by
  have hchan : t.get (Fld.DRV_CH_CFG_STBY m) = s.get (Fld.DRV_CH_CFG_STBY m) := by
    unfold State.get Fld.DRV_CH_CFG_STBY
    rw [hcfg]
  unfold State.stbySet State.flag
  rw [hctrl, hchan]

theorem word_bank_of_driveKept (h : driveKept n s t) (hm : m < 48) : t.word (Reg.DRV_BANK (bankOf m)) = s.word (Reg.DRV_BANK (bankOf m)) :=
  h.1 _ (by unfold Reg.DRV_BANK bankOf; omega) (by unfold Reg.DRV_BANK bankOf Reg.DRV_CH_STAT; omega)
    (by unfold Reg.DRV_BANK bankOf Reg.DRV_BANKSTAT; omega) (inIrqBlock_above (by unfold Reg.DRV_BANK; omega))

theorem get_ctrl_of_driveKept (h : driveKept n s t) (f : FReg) (hf : f.addr = Reg.DRV_CTRL) : t.get f = s.get f := by
  unfold State.get
  rw [hf, h.1 Reg.DRV_CTRL (by decide) (by unfold Reg.DRV_CTRL Reg.DRV_CH_STAT; omega) (by unfold Reg.DRV_CTRL Reg.DRV_BANKSTAT; omega) (by decide)]

theorem word_cfg_of_driveKept (h : driveKept n s t) (hn : n < 48) (hm : m < 48) : t.word (Reg.DRV_CH_CFG m) = s.word (Reg.DRV_CH_CFG m) :=
  h.1 _ (by unfold Reg.DRV_CH_CFG; omega) (by unfold Reg.DRV_CH_CFG Reg.DRV_CH_STAT; omega)
    (by unfold Reg.DRV_CH_CFG Reg.DRV_BANKSTAT bankOf; omega) (inIrqBlock_above (by unfold Reg.DRV_CH_CFG; omega))

theorem inStandby_of_driveKept (h : driveKept n s t) (hn : n < 48) (hm : m < 48) : t.inStandby m = s.inStandby m := by
  unfold State.inStandby
  rw [stbySet_of_words (get_ctrl_of_driveKept h _ rfl) (word_cfg_of_driveKept h hn hm), underTest_of_word (word_bank_of_driveKept h hm) h.2]

theorem standbyChange_same {was : Bool} (h : was = s.inStandby n) : s.standbyChange was n = s := if_pos h

theorem driveKept_maskForeign (h : driveKept n s t) (k : Nat) : driveKept n s (t.maskForeign k) :=
  driveKept_of_regs h (maskForeign_regs t k) rfl

theorem phase_maskForeign (s : State) (k m : Nat) : (s.maskForeign k).phase m = s.phase m := phase_of_regs (maskForeign_regs s k) m

/-- A channel that comes into standby is idle after it. -/
theorem standbyChange_shows (s : State) (was : Bool) (hn : n < 48) : driveKept n s (s.standbyChange was n) ∧
    (s.standbyChange was n).phase n = if was = false ∧ s.inStandby n = true then 0 else s.phase n := by
  obtain ⟨hentry, hzero⟩ := standbyEntry_shows s hn
  have hleave := driveKept_maskForeign (driveKept_refl n s) (bankOf n)
  have henter := driveKept_maskForeign hentry (bankOf n)
  unfold State.standbyChange
  cases was <;> cases hin : s.inStandby n <;> simp only [reduceCtorEq, if_false, if_true, and_true, and_false, and_self]
  · exact driveKept_refl n s
  · exact ⟨henter, (phase_maskForeign _ _ n).trans hzero⟩
  · exact ⟨hleave, phase_maskForeign s _ n⟩
  · exact driveKept_refl n s

/-- What steps on single channels leave of a channel's phase, where a second step on it would change no more. -/
theorem phase_foldl (f : State → Nat → State) (g : Nat → Bool → Nat → Nat) (hkept : ∀ t n, n < 48 → driveKept n t (f t n))
    (hphase : ∀ t n, n < 48 → (f t n).phase n = g n (t.inStandby n) (t.phase n)) (hidem : ∀ n b p, g n b (g n b p) = g n b p)
    {l : List Nat} (hl : ∀ n ∈ l, n < 48) {m : Nat} (hm : m < 48) :
    ∀ s, (l.foldl f s).phase m = if m ∈ l then g m (s.inStandby m) (s.phase m) else s.phase m := by
  induction l with
  | nil => exact fun s => rfl
  | cons n l ih =>
    intro s
    have hn := hl n List.mem_cons_self
    rw [List.foldl_cons, ih (fun k hk => hl k (List.mem_cons_of_mem n hk)), inStandby_of_driveKept (hkept s n hn) hn hm]
    by_cases hmn : m = n
    · subst hmn
      rw [hphase s m hm, hidem, ite_self, if_pos List.mem_cons_self]
    · rw [phase_of_driveKept (hkept s n hn) hm hn hmn]
      simp only [List.mem_cons, hmn, false_or]

theorem phase_quench (s : State) (hm : m < 48) : s.quench.phase m = if s.phase m = 0 then 0 else 5 := by
  have h := phase_foldl (fun s n => s.enterEnd n) (fun _ _ p => if p = 0 then 0 else 5) (fun t n _ => driveKept_enterEnd t n)
    (fun t n _ => phase_enterEnd t n) (fun _ _ p => by split <;> simp_all) (l := List.range 48) (fun n => List.mem_range.mp) hm s
  rw [if_pos (List.mem_range.mpr hm)] at h
  exact h

theorem phase_standbyAll (t s0 : State) (hm : m < 48) :
    (t.standbyAll s0).phase m = if s0.inStandby m = false ∧ t.inStandby m = true then 0 else t.phase m := by
  have h := phase_foldl (fun s n => s.standbyChange (s0.inStandby n) n) (fun n b p => if s0.inStandby n = false ∧ b = true then 0 else p)
    (fun t n hn => (standbyChange_shows t _ hn).1) (fun t n hn => (standbyChange_shows t _ hn).2)
    (fun _ _ p => by split <;> simp_all) (l := List.range 48) (fun n => List.mem_range.mp) hm t
  rw [if_pos (List.mem_range.mpr hm)] at h
  exact h

/-- Where no channel's standby has changed, nothing follows. -/
theorem standbyAll_same {t s0 : State} (h : ∀ n, s0.inStandby n = t.inStandby n) : t.standbyAll s0 = t :=
  List.foldl_fixed' (fun n => standbyChange_same (h n)) _

end drive

-- ── DRV_CTRL (R157, R158, R173) ───────────────────────────────────────────────────────────────────────────────────

section ctrl
variable {s s0 : State} {v w : Word}

theorem ctrl_fields : rwField Fld.DRV_CTRL_EN = true ∧ rwField Fld.DRV_CTRL_STBY = true ∧ rwField Fld.DRV_CTRL_BOOST_EN = true ∧
    rwField Fld.DRV_CTRL_PAIR_MODE = true := by decide

theorem get_putCtrl (f : FReg) (ha : f.addr = Reg.DRV_CTRL) (hf : rwField f = true) : (s.putRw Reg.DRV_CTRL w).get f = fieldOf f w := by
  rw [← ha]
  exact fieldOf_putRw s w hf (by rw [ha]; exact rwhOpen_above (by decide))

theorem get_standbyAll (t s0 : State) (f : FReg) (hf : f.addr = Reg.DRV_CTRL) : (t.standbyAll s0).get f = t.get f :=
  keptBelow_get (keptBelow_standbyAll (keptBelow_refl 0x400C0004 t) (Nat.le_refl _) s0) f (by rw [hf]; decide) (by rw [hf]; decide)

/-- A write that leaves EN, PAIR_MODE and BOOST_EN as they stand changes the standby settings alone. -/
theorem writeDrvCtrl_standby (hs0 : (if fieldOf Fld.DRV_CTRL_QUENCH v = 1 then s.quench else s) = s0)
    (hw : (if s.st = 9 then v ||| 4 else if s.paired then withField Fld.DRV_CTRL_STBY v (s0.get Fld.DRV_CTRL_STBY) else v) = w)
    (hen : fieldOf Fld.DRV_CTRL_EN w = s0.get Fld.DRV_CTRL_EN) (hpair : fieldOf Fld.DRV_CTRL_PAIR_MODE w = s0.get Fld.DRV_CTRL_PAIR_MODE)
    (hboost : fieldOf Fld.DRV_CTRL_BOOST_EN w = s0.get Fld.DRV_CTRL_BOOST_EN) :
    s.writeDrvCtrl v = (s0.putRw Reg.DRV_CTRL w).standbyAll s0 := by
  obtain ⟨hrwEn, -, hrwBoost, hrwPair⟩ := ctrl_fields
  obtain ⟨t, ht⟩ : ∃ t, s0.putRw Reg.DRV_CTRL w = t := ⟨_, rfl⟩
  have hten : t.flag Fld.DRV_CTRL_EN = s0.flag Fld.DRV_CTRL_EN := by
    rw [← ht, State.flag, get_putCtrl _ rfl hrwEn, hen, State.flag]
  have hkept : ∀ f : FReg, f.addr = Reg.DRV_CTRL → rwField f = true → fieldOf f w = s0.get f → (t.standbyAll s0).flag f = s0.flag f := by
    intro f ha hf hfw
    rw [State.flag, get_standbyAll t s0 f ha, ← ht, get_putCtrl f ha hf, hfw, State.flag]
  have hform : (!s0.flag Fld.DRV_CTRL_PAIR_MODE && (t.standbyAll s0).mayForm) = false := by
    unfold State.mayForm
    rw [hkept _ rfl hrwPair hpair]
    cases s0.flag Fld.DRV_CTRL_PAIR_MODE <;> simp
  have hconv := hkept _ rfl hrwBoost hboost
  unfold State.writeDrvCtrl
  simp only [hs0, hw, ht, hten, Bool.and_not_self, Bool.false_eq_true, if_false, hform, hconv, Bool.not_and_self]

/-- The RW fields as they stand, with a bit that is none of theirs. -/
theorem fieldOf_rwWord_or {f : FReg} {m : Word} (ha : f.addr = Reg.DRV_CTRL) (hf : rwField f = true) (hm : fieldOf f m = 0) :
    fieldOf f (s.rwWord Reg.DRV_CTRL ||| m) = s.get f := by
  rw [fieldOf_or _ hm, ← ha]
  exact fieldOf_rwWord s hf

theorem inStandby_putCtrl (hstby : fieldOf Fld.DRV_CTRL_STBY w = s.get Fld.DRV_CTRL_STBY) (n : Nat) :
    (s.putRw Reg.DRV_CTRL w).inStandby n = s.inStandby n := by
  have htst : (s.putRw Reg.DRV_CTRL w).tst = s.tst := by
    unfold State.putRw
    split <;> rfl
  unfold State.inStandby
  rw [stbySet_of_words ((get_putCtrl _ rfl ctrl_fields.2.1).trans hstby)
      (word_putRw_other s w (by unfold Reg.DRV_CH_CFG Reg.DRV_CTRL; omega)),
    underTest_of_word (word_putRw_other s w (by unfold Reg.DRV_BANK Reg.DRV_CTRL; omega)) htst]

theorem phase_putCtrl (s : State) (w : Word) (n : Nat) : (s.putRw Reg.DRV_CTRL w).phase n = s.phase n := by
  unfold State.phase State.get
  rw [word_putRw_other s w (by simp only [Fld.DRV_CH_STAT_PHASE, Reg.DRV_CH_STAT, Reg.DRV_CTRL]; omega)]

theorem get_quench (s : State) (f : FReg) (ha : f.addr = Reg.DRV_CTRL) : s.quench.get f = s.get f :=
  keptBelow_get (keptBelow_quench (keptBelow_refl 0x400C0004 s) (Nat.le_refl _)) f (by rw [ha]; decide) (by rw [ha]; decide)

/-- The word that QUENCH writes back: STBY as BENCH and the pair logic have it (R236, R395). -/
def State.quenchWord (s : State) : Word :=
  if s.st = 9 then s.rwWord Reg.DRV_CTRL ||| 0x100 ||| 4
  else if s.paired then withField Fld.DRV_CTRL_STBY (s.rwWord Reg.DRV_CTRL ||| 0x100) (s.quench.get Fld.DRV_CTRL_STBY)
  else s.rwWord Reg.DRV_CTRL ||| 0x100

theorem fieldOf_quenchWord (f : FReg) (ha : f.addr = Reg.DRV_CTRL) (hf : rwField f = true) (h0 : fieldOf f (0x100 : Word) = 0)
    (h4 : fieldOf f (4 : Word) = 0) (hd : f.lo + f.w ≤ Fld.DRV_CTRL_STBY.lo ∨ Fld.DRV_CTRL_STBY.lo + Fld.DRV_CTRL_STBY.w ≤ f.lo) :
    fieldOf f s.quenchWord = s.get f := by
  unfold State.quenchWord
  split
  · rw [fieldOf_or _ h4, fieldOf_rwWord_or ha hf h0]
  split
  · rw [fieldOf_withField_other _ _ _ _ (by decide) hd, fieldOf_rwWord_or ha hf h0]
  · exact fieldOf_rwWord_or ha hf h0

theorem stby_quenchWord (h9 : s.st = 9 → s.flag Fld.DRV_CTRL_STBY = true) : fieldOf Fld.DRV_CTRL_STBY s.quenchWord = s.get Fld.DRV_CTRL_STBY := by
  have hlt : s.get Fld.DRV_CTRL_STBY < 2 := get_lt s Fld.DRV_CTRL_STBY
  unfold State.quenchWord
  split
  · next h =>
    have hset := h9 h
    have hone : (fieldOf Fld.DRV_CTRL_STBY (s.rwWord Reg.DRV_CTRL ||| 0x100 ||| 4) != 0) = true := by
      rw [fieldOf_bit rfl, BitVec.getLsbD_or, show (4 : Word).getLsbD Fld.DRV_CTRL_STBY.lo = true by decide, Bool.or_true]
    have hw : fieldOf Fld.DRV_CTRL_STBY (s.rwWord Reg.DRV_CTRL ||| 0x100 ||| 4) < 2 := fieldOf_lt Fld.DRV_CTRL_STBY _
    simp only [State.flag, bne_iff_ne] at hset hone
    omega
  split
  · rw [fieldOf_withField _ _ _ (by decide), get_quench s _ rfl]
    exact Nat.mod_eq_of_lt hlt
  · exact fieldOf_rwWord_or rfl ctrl_fields.2.1 (by decide)

theorem does_quench (hg : s.flag Fld.CLK_GATE0_DRV = true) (h9 : s.st = 9 → s.flag Fld.DRV_CTRL_STBY = true) : s.does .quench (fun u =>
    (∀ n : Fin 48, s.phase n ≠ 0 → u.phase n = 5) ∧ (∀ n : Fin 48, s.phase n = 0 → u.phase n = 0) ∧
    u.get Fld.DRV_CTRL_EN = s.get Fld.DRV_CTRL_EN ∧ u.get Fld.DRV_CTRL_STBY = s.get Fld.DRV_CTRL_STBY ∧
    u.get Fld.DRV_CTRL_BOOST_EN = s.get Fld.DRV_CTRL_BOOST_EN) := by
  obtain ⟨hrwEn, hrwStby, hrwBoost, hrwPair⟩ := ctrl_fields
  have hquench : fieldOf Fld.DRV_CTRL_QUENCH (s.rwWord Reg.DRV_CTRL ||| 0x100) = 1 := by
    have hone : (fieldOf Fld.DRV_CTRL_QUENCH (s.rwWord Reg.DRV_CTRL ||| 0x100) != 0) = true := by
      rw [fieldOf_bit rfl, BitVec.getLsbD_or, show (0x100 : Word).getLsbD Fld.DRV_CTRL_QUENCH.lo = true by decide, Bool.or_true]
    have hlt : fieldOf Fld.DRV_CTRL_QUENCH (s.rwWord Reg.DRV_CTRL ||| 0x100) < 2 := fieldOf_lt Fld.DRV_CTRL_QUENCH _
    simp only [bne_iff_ne] at hone
    omega
  have hen : fieldOf Fld.DRV_CTRL_EN s.quenchWord = s.get Fld.DRV_CTRL_EN := fieldOf_quenchWord _ rfl hrwEn (by decide) (by decide) (by decide)
  have hboost : fieldOf Fld.DRV_CTRL_BOOST_EN s.quenchWord = s.get Fld.DRV_CTRL_BOOST_EN :=
    fieldOf_quenchWord _ rfl hrwBoost (by decide) (by decide) (by decide)
  have hpair : fieldOf Fld.DRV_CTRL_PAIR_MODE s.quenchWord = s.get Fld.DRV_CTRL_PAIR_MODE :=
    fieldOf_quenchWord _ rfl hrwPair (by decide) (by decide) (by decide)
  have hstby := stby_quenchWord h9
  have heffect : s.writeDrvCtrl (s.rwWord Reg.DRV_CTRL ||| 0x100) = s.quench.putRw Reg.DRV_CTRL s.quenchWord := by
    rw [writeDrvCtrl_standby (if_pos hquench) rfl (hen.trans (get_quench s _ rfl).symm) (hpair.trans (get_quench s _ rfl).symm)
      (hboost.trans (get_quench s _ rfl).symm)]
    exact standbyAll_same (fun n => (inStandby_putCtrl (hstby.trans (get_quench s _ rfl).symm) n).symm)
  refine does_gatedWrite s (a := Reg.DRV_CTRL) (by decide) hg rfl rfl ?_
  have hreg : s.regEffect Reg.DRV_CTRL (s.rwWord Reg.DRV_CTRL ||| 0x100) = s.writeDrvCtrl (s.rwWord Reg.DRV_CTRL ||| 0x100) := rfl
  rw [hreg, heffect]
  have hphase : ∀ n : Fin 48, ((s.quench.putRw Reg.DRV_CTRL s.quenchWord).answer 0).phase n = if s.phase n = 0 then 0 else 5 := fun n =>
    (phase_putCtrl s.quench _ n).trans (phase_quench s n.isLt)
  refine ⟨fun n hn => (hphase n).trans (if_neg hn), fun n hn => (hphase n).trans (if_pos hn), ?_, ?_, ?_⟩
  · exact (get_putCtrl _ rfl hrwEn).trans hen
  · exact (get_putCtrl _ rfl hrwStby).trans hstby
  · exact (get_putCtrl _ rfl hrwBoost).trans hboost

end ctrl
-- ── Standby of one channel, and of all (R148, R158) ───────────────────────────────────────────────────────────────

section standby
variable {s : State} (n : Fin 48) (b : Bool)

theorem cfg_facts : ∀ n : Fin 48, gatedBy Fld.CLK_GATE0_DRV (Reg.DRV_CH_CFG n) = true ∧ regIndex Reg.DRV_CH_CFG 48 (Reg.DRV_CH_CFG n) = some n.val ∧
    rwField (Fld.DRV_CH_CFG_STBY n) = true ∧ rwField (Fld.DRV_CH_CFG_ICLAIM n) = true := by decide

theorem cfg_range : 0x400C0100 ≤ Reg.DRV_CH_CFG n ∧ Reg.DRV_CH_CFG n < 0x400C0400 := by unfold Reg.DRV_CH_CFG; omega

/-- The write of a channel's standby bit, the other RW fields as they stand. -/
def State.stbyWord (s : State) (n : Nat) (b : Bool) : Word :=
  withField (Fld.DRV_CH_CFG_STBY n) (s.rwWord (Reg.DRV_CH_CFG n)) (if b then 1 else 0)

theorem stby_stbyWord : fieldOf (Fld.DRV_CH_CFG_STBY n) (s.stbyWord n b) = if b then 1 else 0 := by
  rw [State.stbyWord, fieldOf_withField _ _ _ (by decide : 4 + 1 ≤ 32)]
  cases b <;> rfl

theorem iclaim_stbyWord : fieldOf (Fld.DRV_CH_CFG_ICLAIM n) (s.stbyWord n b) = s.get (Fld.DRV_CH_CFG_ICLAIM n) := by
  rw [State.stbyWord, fieldOf_withField_other _ _ _ _ (by decide : 4 + 1 ≤ 32) (by simp only [Fld.DRV_CH_CFG_ICLAIM, Fld.DRV_CH_CFG_STBY]; omega)]
  exact fieldOf_rwWord s (cfg_facts n).2.2.2

theorem regEffect_cfg (v : Word) : s.regEffect (Reg.DRV_CH_CFG n) v =
    (let s1 := (s.plainWrite (Reg.DRV_CH_CFG n) v).standbyChange (s.inStandby n) n
     if s1.canDrive n then s1 else s1.refuseWaiting (fun w => w.ch == n.val)) := by
  obtain ⟨hlo, hhi⟩ := cfg_range n
  have hne : ∀ m, m < 0x400C0100 → Reg.DRV_CH_CFG n ≠ m := fun m h => by omega
  unfold State.regEffect State.writeDRV
  repeat rw [if_neg (by omega)]
  rw [if_pos (by omega), if_neg (hne _ (by decide)), if_neg (hne _ (by decide)), (cfg_facts n).2.1]

theorem writeStatus_cfg {v : Word} (h : (s.putRw (Reg.DRV_CH_CFG n) v).get (Fld.DRV_CH_CFG_ICLAIM n) ≤ 80) (host : Bool) :
    s.writeStatus (Reg.DRV_CH_CFG n) v host = 0 := by
  obtain ⟨hlo, hhi⟩ := cfg_range n
  have hne : ∀ m, m < 0x400C0100 ∨ 0x400C0400 ≤ m → Reg.DRV_CH_CFG n ≠ m := fun m h => by omega
  have hbank : regIndex Reg.DRV_BANK 8 (Reg.DRV_CH_CFG n) = none := regIndex_none (fun i hi => by unfold Reg.DRV_BANK; omega)
  unfold State.writeStatus State.checkReg State.checkDRV
  rw [if_neg (hne _ (by decide)), if_neg (hne _ (by decide)), if_neg (by simp [hne Reg.FLO_PAIR (by decide)])]
  repeat rw [if_neg (by omega)]
  rw [if_pos (by omega)]
  dsimp only
  rw [if_neg (by simp [hne Reg.DRV_BCFG (by decide), hne Reg.DRV_BLIM (by decide), hne Reg.DRV_VBOOSTMIN (by decide)]),
    if_neg (hne _ (by decide)), if_neg (by omega), hbank, (cfg_facts n).2.1]
  dsimp only
  rw [decide_eq_true h]
  rfl

theorem plainWrite_tst (s : State) (a : Nat) (v : Word) : (s.plainWrite a v).tst = s.tst := by
  unfold State.plainWrite State.putRw
  split <;> rfl

theorem does_standbyOne (hg : s.flag Fld.CLK_GATE0_DRV = true) (hclaim : s.get (Fld.DRV_CH_CFG_ICLAIM n) ≤ 80) :
    s.does (.standbyChange (some n) b) (fun u => u.flag (Fld.DRV_CH_CFG_STBY n) = b ∧
      u.get (Fld.DRV_CH_CFG_ICLAIM n) = s.get (Fld.DRV_CH_CFG_ICLAIM n) ∧
      (b = true → s.inStandby n = false → s.underTest n = false → u.phase n = 0)) := by
  obtain ⟨hgate, -, hrwStby, hrwClaim⟩ := cfg_facts n
  have hlo : 0x40090000 ≤ Reg.DRV_CH_CFG n := Nat.le_trans (by decide) (cfg_range n).1
  have hopen := rwhOpen_above (s := s) hlo
  have hstatus : s.writeStatus (Reg.DRV_CH_CFG n) (s.stbyWord n b) false = 0 := by
    refine writeStatus_cfg n ?_ false
    have hput := fieldOf_putRw s (f := Fld.DRV_CH_CFG_ICLAIM n) (s.stbyWord n b) hrwClaim hopen
    exact Nat.le_trans (Nat.le_of_eq (hput.trans (iclaim_stbyWord n b))) hclaim
  refine does_gatedWrite s hgate hg hstatus rfl ?_
  rw [regEffect_cfg]
  have hstby := (fieldOf_write s (f := Fld.DRV_CH_CFG_STBY n) (s.stbyWord n b) hrwStby hopen).trans (stby_stbyWord n b)
  have hiclaim := (fieldOf_write s (f := Fld.DRV_CH_CFG_ICLAIM n) (s.stbyWord n b) hrwClaim hopen).trans (iclaim_stbyWord n b)
  have hpair : (s.plainWrite (Reg.DRV_CH_CFG n) (s.stbyWord n b)).underTest n = s.underTest n :=
    underTest_of_word (word_plainWrite_other s _ (by unfold Reg.DRV_BANK Reg.DRV_CH_CFG bankOf; omega)) (plainWrite_tst s _ _)
  change (s.plainWrite (Reg.DRV_CH_CFG n) (s.stbyWord n b)).get (Fld.DRV_CH_CFG_STBY n) = _ at hstby
  change (s.plainWrite (Reg.DRV_CH_CFG n) (s.stbyWord n b)).get (Fld.DRV_CH_CFG_ICLAIM n) = _ at hiclaim
  generalize s.plainWrite (Reg.DRV_CH_CFG n) (s.stbyWord n b) = w at hstby hiclaim hpair ⊢
  obtain ⟨hkept, hphase⟩ := standbyChange_shows w (s.inStandby n) n.isLt
  have hcfg : (w.standbyChange (s.inStandby n) n).word (Reg.DRV_CH_CFG n) = w.word (Reg.DRV_CH_CFG n) :=
    word_cfg_of_driveKept hkept n.isLt n.isLt
  generalize w.standbyChange (s.inStandby n) n = t at hcfg hphase ⊢
  have hk : keptBelow 0x400E0000 t (if t.canDrive n then t else t.refuseWaiting (fun w => w.ch == n.val)) :=
    keptBelow_ite (keptBelow_refl _ _) (keptBelow_refuseWaiting (keptBelow_refl _ _) (Nat.le_refl _) _)
  dsimp only
  generalize (if t.canDrive n then t else t.refuseWaiting (fun w => w.ch == n.val)) = x at hk ⊢
  have hget : ∀ f : FReg, f.addr = Reg.DRV_CH_CFG n → x.get f = w.get f := by
    intro f hf
    have hhi := (cfg_range n).2
    rw [keptBelow_get hk f (by omega) (inIrqBlock_above (by omega)), State.get, hf, hcfg, ← hf, State.get]
  refine ⟨?_, (hget _ rfl).trans hiclaim, fun hb hin htest => ?_⟩
  · rw [answer_flag, State.flag, hget _ rfl, hstby]
    cases b <;> rfl
  · have hset : w.stbySet n = true := by
      rw [State.stbySet, State.flag, State.flag, hstby, hb]
      simp
    have hnow : w.inStandby n = true := by rw [State.inStandby, hset, hpair, htest]; rfl
    rw [if_pos ⟨hin, hnow⟩] at hphase
    exact (phase_of_kept n.isLt hk).trans hphase

theorem does_standbyAll (hg : s.flag Fld.CLK_GATE0_DRV = true) (h9 : s.st ≠ 9) (hsingle : s.paired = false) :
    s.does (.standbyChange none b) (fun u => u.flag Fld.DRV_CTRL_STBY = b ∧ u.get Fld.DRV_CTRL_EN = s.get Fld.DRV_CTRL_EN ∧
      u.get Fld.DRV_CTRL_BOOST_EN = s.get Fld.DRV_CTRL_BOOST_EN ∧
      (b = true → ∀ n : Fin 48, s.inStandby n = false → s.underTest n = false → u.phase n = 0)) := by
  obtain ⟨hrwEn, hrwStby, hrwBoost, hrwPair⟩ := ctrl_fields
  obtain ⟨v, hv⟩ : ∃ v, withField Fld.DRV_CTRL_STBY (s.rwWord Reg.DRV_CTRL) (if b then 1 else 0) = v := ⟨_, rfl⟩
  have hother : ∀ f : FReg, f.addr = Reg.DRV_CTRL → rwField f = true →
      (f.lo + f.w ≤ Fld.DRV_CTRL_STBY.lo ∨ Fld.DRV_CTRL_STBY.lo + Fld.DRV_CTRL_STBY.w ≤ f.lo) → fieldOf f v = s.get f := by
    intro f ha hf hd
    rw [← hv, fieldOf_withField_other _ _ _ _ (by decide) hd, ← ha]
    exact fieldOf_rwWord s hf
  have hstby : fieldOf Fld.DRV_CTRL_STBY v = if b then 1 else 0 := by
    rw [← hv, fieldOf_withField _ _ _ (by decide)]
    cases b <;> rfl
  have hquench : fieldOf Fld.DRV_CTRL_QUENCH v ≠ 1 := by
    have hzero : fieldOf Fld.DRV_CTRL_QUENCH v = 0 := by
      apply Nat.eq_of_testBit_eq
      intro i
      rw [← hv, fieldOf_withField_other _ _ _ _ (by decide) (by decide), testBit_field, Nat.zero_testBit, Bool.and_eq_false_iff]
      by_cases hi : i < 1
      · right
        have hbit := getLsbD_rwWord s (a := Reg.DRV_CTRL) (k := 8) (by decide)
        rw [show rwBit Reg.DRV_CTRL 8 = false by decide, Bool.false_and] at hbit
        rw [show i = 0 by omega]
        exact hbit
      · exact Or.inl (decide_eq_false hi)
    rw [hzero]
    decide
  have heffect : s.writeDrvCtrl v = (s.putRw Reg.DRV_CTRL v).standbyAll s :=
    writeDrvCtrl_standby (if_neg hquench) (by rw [if_neg h9, if_neg (by rw [hsingle]; decide)]) (hother _ rfl hrwEn (by decide))
      (hother _ rfl hrwPair (by decide)) (hother _ rfl hrwBoost (by decide))
  refine does_gatedWrite s (a := Reg.DRV_CTRL) (v := v) (by decide) hg rfl (by rw [← hv]; rfl) ?_
  have hreg : s.regEffect Reg.DRV_CTRL v = s.writeDrvCtrl v := rfl
  rw [hreg, heffect]
  have hget : ∀ f : FReg, f.addr = Reg.DRV_CTRL → rwField f = true →
      (((s.putRw Reg.DRV_CTRL v).standbyAll s).answer 0).get f = fieldOf f v := fun f ha hf =>
    (get_standbyAll _ s f ha).trans (get_putCtrl f ha hf)
  refine ⟨?_, (hget _ rfl hrwEn).trans (hother _ rfl hrwEn (by decide)), (hget _ rfl hrwBoost).trans (hother _ rfl hrwBoost (by decide)),
    fun hb n hin htest => ?_⟩
  · rw [State.flag, hget _ rfl hrwStby, hstby]
    cases b <;> rfl
  · have hset : (s.putRw Reg.DRV_CTRL v).stbySet n = true := by
      rw [State.stbySet, State.flag, get_putCtrl _ rfl hrwStby, hstby, hb]
      simp
    have htest' : (s.putRw Reg.DRV_CTRL v).underTest n = s.underTest n := by
      refine underTest_of_word (word_putRw_other s v (by unfold Reg.DRV_BANK Reg.DRV_CTRL; omega)) ?_
      unfold State.putRw
      split <;> rfl
    have hnow : (s.putRw Reg.DRV_CTRL v).inStandby n = true := by rw [State.inStandby, hset, htest', htest]; rfl
    exact (phase_standbyAll _ s n.isLt).trans (if_pos ⟨hin, hnow⟩)

end standby

/-- Settles O33: each row is one write, and the effect of that write gives it. -/
theorem shotRegisterRows : Obligations.ShotRegisterRows := by
  intro s
  refine ⟨fun c hg => ⟨does_txnOpen hg, does_txnCloses hg, does_txnCloseRefused hg, fun ho => ?_, does_txnAbort hg⟩, does_refresh,
    fun n k v hg => ⟨does_shadowWrite n k v hg, does_shadowForbidden n k v hg⟩, fun p hg => ⟨fun hok => ?_, does_applyRefused hg⟩,
    does_quench, fun n b => does_standbyOne n b, fun b => does_standbyAll b, fun n v hg => does_corrWrite n hg v,
    fun n hg => ⟨does_waveArm n hg, does_waveHeld n hg⟩⟩
  · refine does_txnClose hg ?_
    rw [closeTxn_idle ho]
    exact sameBut_answer (sameBut_refl s []) 0
  · refine does_mono (does_applies hg hok) (fun u hu => ?_)
    obtain ⟨hact, hsame⟩ := hu
    exact ⟨congrArg Profile.cfg hact, congrArg Profile.reg hact, congrArg Profile.boost hact, congrArg Profile.peak hact,
      congrArg Profile.drop hact, congrArg Profile.hold hact, congrArg Profile.fin hact, congrArg Profile.batt hact, hsame⟩

end Sys2Proof.Machine

/-! PROOFS. The fast path: sets, transactions, cancels and demand (O27). -/

namespace Sys2Proof.Machine

-- ── A packet that the fast path handles (R18, R124) ───────────────────────────────────────────────────────────────

section handling
variable {s : State} {op port : Nat} {p : Packet} {c : Instr} {f : Packet → State → Answer} {a : Answer} {q : State → Prop}

theorem answersFast_of_head (hhead : s.hst.fpq.head? = some (port, p)) (hop : p.opcode = op) (hc : exec c s = .next (s.handleFast op f))
    (ha : (if s.fastTaken.st = 8 || !s.fastTaken.sys.verified then s.fastTaken.no stForbids else f p s.fastTaken) = a) (hq : q a.state) :
    s.answersFast c port p a.status a.rest q := by
  obtain ⟨r, hr⟩ : ∃ r, s.hst.fpq = (port, p) :: r := List.head?_eq_some_iff.mp hhead
  have htaken : s.withHst { s.hst with fpq := r } = s.fastTaken := by rw [State.fastTaken, hr]; rfl
  refine ⟨_, ?_, a.state, rfl, hq⟩
  rw [hc, State.handleFast, hr]
  dsimp only
  rw [if_neg (not_not.mpr hop), htaken, ha]

/-- In SAFE every packet is refused (R18). -/
theorem answersFast_safe (hhead : s.hst.fpq.head? = some (port, p)) (hop : p.opcode = op) (hc : exec c s = .next (s.handleFast op f))
    (hst : s.st = 8) : s.answersFast c port p stForbids [] (fun u => u = s.fastTaken) := by
  have hsafe : s.fastTaken.st = 8 := hst
  exact answersFast_of_head (a := s.fastTaken.no stForbids) hhead hop hc (by rw [hsafe]; rfl) rfl

theorem answersFast_of_takes (h : s.fastTakes op port p) (hc : exec c s = .next (s.handleFast op f)) (ha : f p s.fastTaken = a)
    (hq : q a.state) : s.answersFast c port p a.status a.rest q := by
  obtain ⟨hhead, hop, hst, himage⟩ := h
  have hst' : s.fastTaken.st ≠ 8 := hst
  have himage' : s.fastTaken.sys.verified = true := himage
  refine answersFast_of_head hhead hop hc ?_ hq
  rw [himage', decide_eq_false hst']
  exact ha

theorem answersFast_forbidden (h : s.fastTakes op port p) (hc : exec c s = .next (s.handleFast op f))
    (ha : f p s.fastTaken = s.fastTaken.no stForbids) : s.answersFast c port p stForbids [] (fun u => u = s.fastTaken) :=
  answersFast_of_takes h hc ha rfl

theorem setsForbidden_fastTaken : s.fastTaken.setsForbidden = s.setsForbidden := rfl

/-- Where sets may not be written, the four opcodes that write them are refused (R124, R246). -/
theorem fastPath_refuses {op : Nat} {c : Instr}
    (hmem : (op, c) ∈ [(0x3F0, Instr.setWrite), (0x3F1, .setClose), (0x3F2, .setAbort), (0x3F3, .shotCancel), (0x3F4, .demand)]) :
    (s.hst.fpq.head? = some (port, p) → p.opcode = op → s.st = 8 → s.answersFast c port p stForbids [] (fun u => u = s.fastTaken)) ∧
    (op ≠ 0x3F4 → s.fastTakes op port p → s.setsForbidden = true → s.answersFast c port p stForbids [] (fun u => u = s.fastTaken)) := by
  simp only [List.mem_cons, Prod.mk.injEq, List.not_mem_nil, or_false] at hmem
  obtain ⟨rfl, rfl⟩ | ⟨rfl, rfl⟩ | ⟨rfl, rfl⟩ | ⟨rfl, rfl⟩ | ⟨rfl, rfl⟩ := hmem
  · exact ⟨fun hh ho hst => answersFast_safe hh ho rfl hst, fun _ h hf => answersFast_forbidden h rfl (if_pos hf)⟩
  · exact ⟨fun hh ho hst => answersFast_safe hh ho rfl hst, fun _ h hf => answersFast_forbidden h rfl (if_pos hf)⟩
  · exact ⟨fun hh ho hst => answersFast_safe hh ho rfl hst, fun _ h hf => answersFast_forbidden h rfl (if_pos hf)⟩
  · exact ⟨fun hh ho hst => answersFast_safe hh ho rfl hst, fun _ h hf => answersFast_forbidden h rfl (if_pos hf)⟩
  · exact ⟨fun hh ho hst => answersFast_safe hh ho rfl hst, fun hne => absurd rfl hne⟩

end handling

-- ── Words and masks in a payload (R6, R125) ───────────────────────────────────────────────────────────────────────

theorem leAt_wordBytes (l : List Word) : ∀ k, leAt (wordBytes l) (4 * k) 4 = (l.getD k 0).toNat := by
  induction l with
  | nil => intro k; simp [leAt, wordBytes, leNat]
  | cons w l ih =>
    intro k
    rw [wordBytes_cons]
    cases k with
    | zero => exact leAt_leBytes _ 4 _ w.isLt
    | succ k => rw [show 4 * (k + 1) = 4 + 4 * k by omega, leAt_behind _ _ _ 4 4 (leBytes_length 4 _), ih, List.getD_cons_succ]

/-- The `k`-th descriptor that a list of words spells. -/
def wordsDesc (l : List Word) (k : Nat) : Desc :=
  ⟨(l.getD (4 * k) 0).toNat, (l.getD (4 * k + 1) 0).toNat, (l.getD (4 * k + 2) 0).toNat, (l.getD (4 * k + 3) 0).toNat⟩

theorem descAt_words {head : List Byte} (hh : head.length = 4) (l : List Word) (k : Nat) : descAt (head ++ wordBytes l) (4 + 16 * k) = wordsDesc l k := by
  have hword : ∀ j, leAt (head ++ wordBytes l) (4 + 4 * j) 4 = (l.getD j 0).toNat := fun j => by
    rw [leAt_behind _ _ _ 4 4 hh, leAt_wordBytes]
  unfold descAt wordsDesc
  rw [← hword, ← hword, ← hword, ← hword]
  congr 2 <;> omega

theorem word_wordsDesc (l : List Word) (k : Nat) {w : Nat} (hw : w < 4) : BitVec.ofNat 32 ((wordsDesc l k).word w) = l.getD (4 * k + w) 0 := by
  match w, hw with
  | 0, _ | 1, _ | 2, _ | 3, _ => exact (BitVec.ofNat_toNat _ _).trans (BitVec.setWidth_eq _)

/-- A mask of 24 bits in four bytes: three that hold it, and a reserved one. -/
theorem mask_payload {m : Nat} (hm : m < 2 ^ 24) : leAt (leBytes 4 m) 0 3 = m ∧ byteAt (leBytes 4 m) 3 = 0 := by
  have hsplit : leBytes 4 m = leBytes 3 m ++ [BitVec.ofNat 8 (m / 256 / 256 / 256)] := rfl
  refine ⟨?_, ?_⟩
  · rw [hsplit]
    exact leAt_leBytes m 3 _ hm
  · have hhigh : m / 256 / 256 / 256 = 0 := by omega
    rw [hsplit, hhigh]
    rfl

-- ── SET_CLOSE and SET_ABORT (R126) ────────────────────────────────────────────────────────────────────────────────

section ends
variable {s : State} {port : Nat} {p : Packet} {m : Nat}

theorem mem_cylsOf {mask c : Nat} : c ∈ cylsOf mask ↔ c < 24 ∧ mask.testBit c = true := by
  rw [cylsOf, List.mem_filter, List.mem_range]

theorem answers_setClose (h : s.fastTakes 0x3F1 port p) (hsets : s.setsForbidden = false) (hm : m < 2 ^ 24) (hp : p.payload = leBytes 4 m) :
    (m &&& (s.fastTaken.closeTxns m).get Fld.SCH_TXN_OPEN = 0 →
      s.answersFast .setClose port p 0 [] (fun u => u = s.fastTaken.closeTxns m ∧
        ∀ c : Fin 24, m.testBit c.val = true → u.txnOpen c.val = false)) ∧
    (m &&& (s.fastTaken.closeTxns m).get Fld.SCH_TXN_OPEN ≠ 0 →
      s.answersFast .setClose port p stOutOfRange (leBytes 3 (m &&& (s.fastTaken.closeTxns m).get Fld.SCH_TXN_OPEN))
        (fun u => u = s.fastTaken.closeTxns m)) := by
  obtain ⟨hmask, hreserved⟩ := mask_payload hm
  have hlen : ¬ p.payload.length ≠ 4 := by rw [hp, leBytes_length]; decide
  rw [← hp] at hmask hreserved
  have hsets' : ¬ s.fastTaken.setsForbidden = true := by rw [setsForbidden_fastTaken, hsets]; decide
  constructor
  · intro hleft
    refine answersFast_of_takes (a := (s.fastTaken.closeTxns m).done) h rfl ?_ ⟨rfl, fun c hc => ?_⟩
    · dsimp only
      rw [if_neg hsets', if_neg hlen, if_neg (not_not.mpr hreserved), hmask, if_pos hleft]
    · have hbit : (m &&& (s.fastTaken.closeTxns m).get Fld.SCH_TXN_OPEN).testBit c = false := by rw [hleft, Nat.zero_testBit]
      rw [Nat.testBit_and, hc, Bool.true_and] at hbit
      exact hbit
  · intro hleft
    refine answersFast_of_takes (a := { status := stOutOfRange, rest := leBytes 3 (m &&& (s.fastTaken.closeTxns m).get Fld.SCH_TXN_OPEN)
                                        state := s.fastTaken.closeTxns m }) h rfl ?_ rfl
    dsimp only
    rw [if_neg hsets', if_neg hlen, if_neg (not_not.mpr hreserved), hmask, if_neg hleft]

/-- After aborts of several cylinders none of them is open. -/
theorem txnOpen_abortAll {l : List Nat} (hl : ∀ c ∈ l, c < 24) (d : Nat) : ∀ s : State, (l.foldl State.abortTxn s).txnOpen d = true →
    s.txnOpen d = true ∧ d ∉ l := by
  induction l with
  | nil => exact fun s h => ⟨h, List.not_mem_nil⟩
  | cons c l ih =>
    intro s h
    obtain ⟨hopen, hnot⟩ := ih (fun k hk => hl k (List.mem_cons_of_mem c hk)) _ h
    rw [txnOpen_abortTxn (hl c List.mem_cons_self), Bool.and_eq_true, bne_iff_ne] at hopen
    exact ⟨hopen.1, by simp only [List.mem_cons, not_or]; exact ⟨hopen.2, hnot⟩⟩

theorem answers_setAbort (h : s.fastTakes 0x3F2 port p) (hsets : s.setsForbidden = false) (hm : m < 2 ^ 24) (hp : p.payload = leBytes 4 m) :
    s.answersFast .setAbort port p 0 [] (fun u => ∀ c : Fin 24, m.testBit c.val = true → u.txnOpen c.val = false) := by
  obtain ⟨hmask, hreserved⟩ := mask_payload hm
  have hlen : ¬ p.payload.length ≠ 4 := by rw [hp, leBytes_length]; decide
  rw [← hp] at hmask hreserved
  have hsets' : ¬ s.fastTaken.setsForbidden = true := by rw [setsForbidden_fastTaken, hsets]; decide
  refine answersFast_of_takes (a := (s.fastTaken.abortTxns m).done) h rfl ?_ (fun c hc => ?_)
  · rw [if_neg hsets', if_neg hlen, if_neg (not_not.mpr hreserved), hmask]
  · rw [← Bool.not_eq_true]
    intro hopen
    exact (txnOpen_abortAll (fun k hk => (mem_cylsOf.mp hk).1) c s.fastTaken hopen).2 (mem_cylsOf.mpr ⟨c.isLt, hc⟩)

end ends

-- ── SHOT_CANCEL (R127) ────────────────────────────────────────────────────────────────────────────────────────────

section cancel
variable {s t u : State} {n j : Nat}

/-- From `s` to `t` slots have at most been cancelled: none becomes armed, what has fired stays so, and a slot that is armed no more has fired. -/
def onlyCancelled (s t : State) : Prop := ∀ j, j < 2048 → (t.armed j = true → s.armed j = true) ∧ (s.fired j = true → t.fired j = true) ∧
  (s.armed j = true → t.armed j = false → t.fired j = true)

theorem onlyCancelled_refl (s : State) : onlyCancelled s s := fun _ _ =>
  ⟨id, id, fun h h' => absurd (h.symm.trans h') (by decide)⟩

theorem onlyCancelled_trans (h : onlyCancelled s t) (k : onlyCancelled t u) : onlyCancelled s u := by
  intro j hj
  obtain ⟨harm, hfire, hgone⟩ := h j hj
  obtain ⟨harm', hfire', hgone'⟩ := k j hj
  refine ⟨fun e => harm (harm' e), fun e => hfire' (hfire e), fun e e' => ?_⟩
  cases hmid : t.armed j with
  | true => exact hgone' hmid e'
  | false => exact hfire' (hgone e hmid)

/-- Two slots share neither a word nor a bit of it. -/
theorem bit_slot_other (f : Nat → FReg) (hinj : ∀ i k, (f i).addr = (f k).addr → i = k) (hw : ∀ i, (f i).lo + (f i).w ≤ 32) (s : State) (b : Bool)
    (h : j ≠ n) : (s.setBit (f (n / 32)) (n % 32) b).bit (f (j / 32)) (j % 32) = s.bit (f (j / 32)) (j % 32) := by
  by_cases hword : j / 32 = n / 32
  · rw [hword]
    exact bit_setBit_other s b (hw _) (by omega)
  · unfold State.bit
    rw [get_setBit_other s _ _ b (fun e => hword (hinj _ _ e))]

theorem armed_spent_other (s : State) (hn : n < 2048) (h : j ≠ n) : (s.spent n).armed j = s.armed j := by
  have hne : (Fld.SCH_ARMED_ARMED (j / 32)).addr ≠ (Fld.SCH_FIRED_FIRED (n / 32)).addr := by
    simp only [Fld.SCH_ARMED_ARMED, Fld.SCH_FIRED_FIRED, Reg.SCH_ARMED, Reg.SCH_FIRED]; omega
  have hfire : (s.spent n).armed j = (s.setArmed n false).armed j := by
    unfold State.spent State.setFired State.armed State.bit
    rw [get_setBit_other _ _ _ _ hne]
  rw [hfire]
  exact bit_slot_other Fld.SCH_ARMED_ARMED (fun i k e => by simp only [Fld.SCH_ARMED_ARMED, Reg.SCH_ARMED] at e; omega)
    (fun _ => Nat.le_refl 32) s false h

theorem fired_spent_other (s : State) (hj : j < 2048) (h : j ≠ n) : (s.spent n).fired j = s.fired j := by
  have hne : (Fld.SCH_FIRED_FIRED (j / 32)).addr ≠ (Fld.SCH_ARMED_ARMED (n / 32)).addr := by
    simp only [Fld.SCH_ARMED_ARMED, Fld.SCH_FIRED_FIRED, Reg.SCH_ARMED, Reg.SCH_FIRED]; omega
  have harm : (s.setArmed n false).fired j = s.fired j := by
    change (s.setBit (Fld.SCH_ARMED_ARMED (n / 32)) (n % 32) false).fired j = s.fired j
    unfold State.fired State.bit
    rw [get_setBit_other _ _ _ _ hne]
  rw [← harm]
  exact bit_slot_other Fld.SCH_FIRED_FIRED (fun i k e => by simp only [Fld.SCH_FIRED_FIRED, Reg.SCH_FIRED] at e; omega)
    (fun _ => Nat.le_refl 32) (s.setArmed n false) true h

/-- A cancelled slot has fired and is armed no more; the others stand, and so does what is outside the slots' flags and the witness (R127). -/
theorem cancelSlot_kept (s : State) (c : Nat) : keptBelow 0x400E0000 (s.spent n) (s.cancelSlot c n) := by
  have hspent : keptBelow 0x400E0000 (s.spent n) ((s.spent n).unhold n) := keptBelow_of_regs (keptBelow_refl _ _) rfl rfl
  unfold State.cancelSlot
  exact keptBelow_ite hspent (keptBelow_recordRefused hspent (Nat.le_refl _) _ 0xF 0)

theorem cancelSlot_shows (s : State) (c : Nat) (hn : n < 2048) (hj : j < 2048) :
    (s.cancelSlot c n).armed j = (s.armed j && j != n) ∧ (s.cancelSlot c n).fired j = (s.fired j || j == n) := by
  have hkept := keptBelow_mono (cancelSlot_kept (n := n) s c) (d := 0x400C0004) (by decide)
  rw [armed_of_kept hj hkept, fired_of_kept hj hkept]
  by_cases h : j = n
  · subst h
    rw [armed_spent s, fired_spent s]
    simp
  · rw [armed_spent_other s hn h, fired_spent_other s hj h]
    simp [h]

theorem onlyCancelled_cancelSlot (s : State) (c : Nat) (hn : n < 2048) : onlyCancelled s (s.cancelSlot c n) := by
  intro j hj
  obtain ⟨harm, hfire⟩ := cancelSlot_shows s c hn hj
  rw [harm, hfire]
  by_cases h : j = n
  · simp [h]
  · simp only [bne_iff_ne.mpr h, Bool.and_true, beq_false_of_ne h, Bool.or_false]
    exact onlyCancelled_refl s j hj

/-- The range of a cylinder does not follow the slots' flags. -/
theorem word_cylC_cancelSlot (s : State) {c : Nat} (hc : c < 24) (hn : n < 2048) :
    (s.cancelSlot c n).word (Reg.SCH_CYL_C c) = s.word (Reg.SCH_CYL_C c) := by
  have hlo : 0x40040000 ≤ Reg.SCH_CYL_C c := by unfold Reg.SCH_CYL_C; omega
  have hhi : Reg.SCH_CYL_C c < 0x400A0400 := by unfold Reg.SCH_CYL_C; omega
  rw [(cancelSlot_kept s c).1 _ (by omega) (inIrqBlock_above hlo), word_spent s hn (Or.inl hhi)]

theorem range_of_word {c : Nat} (h : t.word (Reg.SCH_CYL_C c) = s.word (Reg.SCH_CYL_C c)) : t.slotBase c = s.slotBase c ∧ t.slotCnt c = s.slotCnt c := by
  simp only [State.slotCnt, State.slotBase, State.get, Fld.SCH_CYL_C_SLOT_CNT, Fld.SCH_CYL_C_SLOT_BASE, h, and_self]

/-- One place of SHOT_CANCEL's mask. -/
def State.cancelAt (s : State) (c first mask k : Nat) : State :=
  if mask.testBit k && first + k < s.slotCnt c && s.armed (s.slotBase c + first + k) then s.cancelSlot c (s.slotBase c + first + k) else s

theorem cancelAt_shows (s : State) {c first mask k : Nat} (hc : c < 24) (hfit : s.slotBase c + s.slotCnt c ≤ 2048) :
    onlyCancelled s (s.cancelAt c first mask k) ∧ (s.cancelAt c first mask k).word (Reg.SCH_CYL_C c) = s.word (Reg.SCH_CYL_C c) ∧
    (mask.testBit k = true → first + k < s.slotCnt c → (s.cancelAt c first mask k).armed (s.slotBase c + first + k) = false) := by
  unfold State.cancelAt
  split
  · next h =>
    simp only [Bool.and_eq_true, decide_eq_true_eq] at h
    obtain ⟨⟨-, hin⟩, -⟩ := h
    have hn : s.slotBase c + first + k < 2048 := by omega
    refine ⟨onlyCancelled_cancelSlot s c hn, word_cylC_cancelSlot s hc hn, fun _ _ => ?_⟩
    rw [(cancelSlot_shows s c hn hn).1, bne_self_eq_false, Bool.and_false]
  · next h =>
    refine ⟨onlyCancelled_refl s, rfl, fun hbit hin => ?_⟩
    rw [hbit, decide_eq_true hin] at h
    simpa using h

theorem cancelMask_shows {c first mask : Nat} (hc : c < 24) (l : List Nat) : ∀ s : State, s.slotBase c + s.slotCnt c ≤ 2048 →
    onlyCancelled s (l.foldl (fun s k => s.cancelAt c first mask k) s) ∧
    ∀ k ∈ l, mask.testBit k = true → first + k < s.slotCnt c →
      (l.foldl (fun s k => s.cancelAt c first mask k) s).armed (s.slotBase c + first + k) = false := by
  induction l with
  | nil => exact fun s _ => ⟨onlyCancelled_refl s, fun k hk => absurd hk List.not_mem_nil⟩
  | cons i l ih =>
    intro s hfit
    obtain ⟨hstep, hword, hgone⟩ := cancelAt_shows s (first := first) (mask := mask) (k := i) hc hfit
    obtain ⟨hbase, hcnt⟩ := range_of_word hword
    obtain ⟨hrest, hall⟩ := ih (s.cancelAt c first mask i) (by rw [hbase, hcnt]; exact hfit)
    rw [List.foldl_cons]
    refine ⟨onlyCancelled_trans hstep hrest, fun k hk hbit hin => ?_⟩
    rcases List.mem_cons.mp hk with rfl | hk
    · have hfirst := hgone hbit hin
      rw [← Bool.not_eq_true] at hfirst ⊢
      exact fun e => hfirst ((hrest _ (by omega)).1 e)
    · rw [← hbase]
      exact hall k hk hbit (by rw [hcnt]; exact hin)

theorem answers_shotCancel {port : Nat} {p : Packet} (h : s.fastTakes 0x3F3 port p) (hsets : s.setsForbidden = false) (cyl : Fin 24) {first m : Nat}
    (hfirst : first < 65536) (hm : m < 2 ^ 32) (hfit : s.slotBase cyl.val + s.slotCnt cyl.val ≤ 2048)
    (hp : p.payload = [BitVec.ofNat 8 (cyl.val + 1), 0] ++ leBytes 2 first ++ leBytes 4 m) :
    s.answersFast .shotCancel port p 0 [] (fun u => ∀ k, k < 32 → m.testBit k = true → first + k < s.slotCnt cyl.val →
      u.armed (s.slotBase cyl.val + first + k) = false ∧
      (s.armed (s.slotBase cyl.val + first + k) = true → u.fired (s.slotBase cyl.val + first + k) = true)) := by
  have hcyl : byteAt p.payload 0 = cyl.val + 1 := by
    have hb : ∀ c : Fin 24, (BitVec.ofNat 8 (c.val + 1)).toNat = c.val + 1 := by decide
    rw [hp]
    exact hb cyl
  have hflags : byteAt p.payload 1 = 0 := by rw [hp]; rfl
  have hat : leAt p.payload 2 2 = first := by
    rw [hp, List.append_assoc, leAt_behind _ _ 0 2 2 rfl]
    exact leAt_leBytes first 2 _ hfirst
  have hmask : leAt p.payload 4 4 = m := by
    rw [hp, leAt_behind _ _ 0 4 4 rfl, ← List.append_nil (leBytes 4 m)]
    exact leAt_leBytes m 4 _ hm
  have hlen : ¬ p.payload.length ≠ 8 := by rw [hp]; exact not_not.mpr rfl
  have hsets' : ¬ s.fastTaken.setsForbidden = true := by rw [setsForbidden_fastTaken, hsets]; decide
  have hc := cyl.isLt
  have hrange : ¬ (byteAt p.payload 0 = 0 || 24 < byteAt p.payload 0 || byteAt p.payload 1 != 0) = true := by
    rw [hcyl, hflags]
    simp
  refine answersFast_of_takes (a := (s.fastTaken.cancelMask cyl first m).done) h rfl ?_ (fun k hk hbit hin => ?_)
  · dsimp only
    rw [if_neg hsets', if_neg hlen, if_neg hrange, hcyl, hat, hmask]
    rfl
  · have hn : s.slotBase cyl + first + k < 2048 := by omega
    obtain ⟨honly, hall⟩ := cancelMask_shows (first := first) (mask := m) hc (List.range 32) s.fastTaken hfit
    have hmaskEq : s.fastTaken.cancelMask cyl first m = (List.range 32).foldl (fun s k => s.cancelAt cyl first m k) s.fastTaken := rfl
    have hgone := hall k (List.mem_range.mpr hk) hbit hin
    rw [← hmaskEq] at honly hgone
    generalize s.fastTaken.cancelMask cyl first m = t at honly hgone ⊢
    exact ⟨hgone, fun harm => (honly _ hn).2.2 harm hgone⟩

end cancel

-- ── DEMAND (R128, R133) ───────────────────────────────────────────────────────────────────────────────────────────

section demand
variable {s : State} {port : Nat} {p : Packet}

theorem takeDemand_shows (s : State) (l : List Byte) : (s.takeDemand l).word Reg.SCH_DEM0 = BitVec.ofNat 32 (leAt l 0 4) ∧
    (s.takeDemand l).word Reg.SCH_DEM1 = BitVec.ofNat 32 (leAt l 4 4) ∧ (s.takeDemand l).word Reg.SCH_DEM2 = BitVec.ofNat 32 (leAt l 8 4) ∧
    (s.takeDemand l).get Fld.SCH_DEM3_CYL_OFF = leAt l 12 3 % 2 ^ 24 ∧
    (s.takeDemand l).get Fld.SCH_DEM3_UPD = (s.get Fld.SCH_DEM3_UPD + 1) % 256 := by
  unfold State.takeDemand
  extract_lets upd s1
  have hword : ∀ a, a = Reg.SCH_DEM0 ∨ a = Reg.SCH_DEM1 ∨ a = Reg.SCH_DEM2 →
      ((((s1.set Fld.SCH_DEM3_CYL_OFF (leAt l 12 3)).set Fld.SCH_DEM3_UPD upd).irq 73).mirrorDem).word a = s1.word a := by
    intro a ha
    have hne : a ≠ Reg.SCH_DEM3 := by rcases ha with rfl | rfl | rfl <;> decide
    have hi : inIrqBlock a = false := by rcases ha with rfl | rfl | rfl <;> decide
    have hf : a ≠ Reg.FLO_DROP := by rcases ha with rfl | rfl | rfl <;> decide
    rw [word_of_floOnly (floOnly_mirrorDem _) hf hi, word_irq _ _ _ hi, State.set, word_setWord, if_neg (show a ≠ Fld.SCH_DEM3_UPD.addr from hne),
      State.set, word_setWord, if_neg (show a ≠ Fld.SCH_DEM3_CYL_OFF.addr from hne)]
  have hget : ∀ f : FReg, f.addr = Reg.SCH_DEM3 →
      ((((s1.set Fld.SCH_DEM3_CYL_OFF (leAt l 12 3)).set Fld.SCH_DEM3_UPD upd).irq 73).mirrorDem).get f =
        ((s1.set Fld.SCH_DEM3_CYL_OFF (leAt l 12 3)).set Fld.SCH_DEM3_UPD upd).get f := by
    intro f hf
    rw [get_of_floOnly (floOnly_mirrorDem _) f (by rw [hf]; decide) (by rw [hf]; decide), get_irq _ _ f (by rw [hf]; decide)]
  refine ⟨?_, ?_, ?_, ?_, ?_⟩
  · rw [hword _ (Or.inl rfl)]
    simp [s1, word_setWord, Reg.SCH_DEM0, Reg.SCH_DEM1, Reg.SCH_DEM2]
  · rw [hword _ (Or.inr (Or.inl rfl))]
    simp [s1, word_setWord, Reg.SCH_DEM1, Reg.SCH_DEM2]
  · rw [hword _ (Or.inr (Or.inr rfl))]
    simp [s1, word_setWord]
  · rw [hget _ rfl, get_set_apart _ _ (by decide), get_set _ _ _ (by decide)]
    rfl
  · rw [hget _ rfl, get_set _ _ _ (by decide)]
    exact Nat.mod_mod _ _

/-- The fields of a DEMAND payload. -/
theorem demand_fields (w0 w1 w2 : Word) {off : Nat} (hoff : off < 2 ^ 24) {l : List Byte} (hl : l = wordBytes [w0, w1, w2] ++ leBytes 3 off ++ [0]) :
    (BitVec.ofNat 32 (leAt l 0 4) = w0 ∧ BitVec.ofNat 32 (leAt l 4 4) = w1 ∧ BitVec.ofNat 32 (leAt l 8 4) = w2) ∧ leAt l 12 3 = off ∧
    byteAt l 0 = w0.toNat % 256 ∧ byteAt l 1 = w0.toNat / 256 % 256 ∧ leAt l 10 2 = w2.toNat / 65536 ∧ byteAt l 15 = 0 := by
  have hw2 := w2.isLt
  have hword : ∀ w : Word, BitVec.ofNat 32 w.toNat = w := fun w => (BitVec.ofNat_toNat _ _).trans (BitVec.setWidth_eq _)
  have hl' : l = leBytes 4 w0.toNat ++ (leBytes 4 w1.toNat ++ (leBytes 4 w2.toNat ++ (leBytes 3 off ++ [0]))) := by
    rw [hl]
    simp only [wordBytes, List.flatMap_cons, List.flatMap_nil, List.append_nil, List.append_assoc]
  subst hl'
  refine ⟨⟨?_, ?_, ?_⟩, ?_, ?_, ?_, ?_, ?_⟩
  · rw [leAt_leBytes _ 4 _ w0.isLt, hword]
  · rw [leAt_behind _ _ 0 4 4 (leBytes_length 4 _), leAt_leBytes _ 4 _ w1.isLt, hword]
  · rw [leAt_behind _ _ 4 4 4 (leBytes_length 4 _), leAt_behind _ _ 0 4 4 (leBytes_length 4 _), leAt_leBytes _ 4 _ w2.isLt, hword]
  · rw [leAt_behind _ _ 8 3 4 (leBytes_length 4 _), leAt_behind _ _ 4 3 4 (leBytes_length 4 _), leAt_behind _ _ 0 3 4 (leBytes_length 4 _),
      leAt_leBytes _ 3 _ hoff]
  · exact BitVec.toNat_ofNat _ _
  · exact BitVec.toNat_ofNat _ _
  · rw [leAt_behind _ _ 6 2 4 (leBytes_length 4 _), leAt_behind _ _ 2 2 4 (leBytes_length 4 _)]
    have hhigh : leAt (leBytes 4 w2.toNat ++ (leBytes 3 off ++ [0])) 2 2 = leNat (leBytes 2 (w2.toNat / 256 / 256)) := rfl
    rw [hhigh, leNat_leBytes]
    omega
  · rfl

theorem answers_demand (h : s.fastTakes 0x3F4 port p) (hdrag : s.isDrag = false) (w0 w1 w2 : Word) {off : Nat} (hoff : off < 2 ^ 24)
    (hp : p.payload = wordBytes [w0, w1, w2] ++ leBytes 3 off ++ [0]) (h0 : w0.toNat % 256 ≤ 1) (h1 : w0.toNat / 256 % 256 ≤ 1)
    (hrail : w2.toNat / 65536 ≠ 0xFFFF ∨ ∃ e, e ∈ s.cal.press ∧ e.1 = 1) :
    s.answersFast .demand port p 0 [] (fun u => u.word Reg.SCH_DEM0 = w0 ∧ u.word Reg.SCH_DEM1 = w1 ∧ u.word Reg.SCH_DEM2 = w2 ∧
      u.get Fld.SCH_DEM3_CYL_OFF = off ∧ u.get Fld.SCH_DEM3_UPD = (s.get Fld.SCH_DEM3_UPD + 1) % 256) := by
  obtain ⟨⟨hd0, hd1, hd2⟩, hcyl, hb0, hb1, hpress, hb15⟩ := demand_fields w0 w1 w2 hoff hp
  have hdrag' : ¬ s.fastTaken.isDrag = true := by rw [show s.fastTaken.isDrag = s.isDrag from rfl, hdrag]; decide
  have hlen : ¬ p.payload.length ≠ 16 := by rw [hp]; exact not_not.mpr rfl
  have hknown : s.fastTaken.railUnknown p.payload = false := by
    unfold State.railUnknown
    rw [hpress]
    rcases hrail with hne | ⟨e, he, he1⟩
    · rw [beq_false_of_ne hne, Bool.false_and]
    · have hany : s.fastTaken.cal.press.any (fun e => e.1 == 1) = true := List.any_eq_true.mpr ⟨e, he, by rw [he1]; rfl⟩
      rw [hany, Bool.not_true, Bool.and_false]
  have hrange : ¬ (1 < byteAt p.payload 0 || 1 < byteAt p.payload 1 || byteAt p.payload 15 != 0 || s.fastTaken.railUnknown p.payload) = true := by
    rw [hb0, hb1, hb15, hknown]
    simp
    omega
  obtain ⟨hs0, hs1, hs2, hsc, hsu⟩ := takeDemand_shows s.fastTaken p.payload
  refine answersFast_of_takes (a := (s.fastTaken.takeDemand p.payload).done) h rfl ?_
    ⟨hs0.trans hd0, hs1.trans hd1, hs2.trans hd2, hsc.trans ?_, hsu⟩
  · dsimp only
    rw [if_neg hdrag', if_neg hlen, if_neg hrange]
  · rw [hcyl]
    exact Nat.mod_eq_of_lt hoff

end demand

-- ── SET_WRITE (R125) ──────────────────────────────────────────────────────────────────────────────────────────────

section write
variable {s t : State} {c first len : Nat}

/-- REPLACE at one slot: outside the descriptors that are written EN falls. -/
def State.clearOther (s : State) (c first len n : Nat) : State :=
  if s.slotBase c + first ≤ n && n < s.slotBase c + first + len then s
  else s.setWord (Reg.SCH_SHADOW n 0) (s.word (Reg.SCH_SHADOW n 0) &&& 0x7FFFFFFF)

theorem word_clearOther_low (s : State) {n a : Nat} (ha : a < 0x400A8000) : (s.clearOther c first len n).word a = s.word a := by
  unfold State.clearOther
  split
  · rfl
  · rw [word_setWord, if_neg (by unfold Reg.SCH_SHADOW; omega)]

theorem cylC_low (c : Fin 24) : Reg.SCH_CYL_C c < 0x400A8000 := by unfold Reg.SCH_CYL_C; omega

/-- What REPLACE leaves of the shadow slots (R125). -/
theorem word_clearedOthers (c : Fin 24) {m w : Nat} (hw : w < 4) (l : List Nat) : ∀ s : State,
    (∀ a, a < 0x400A8000 → (l.foldl (fun s n => s.clearOther c first len n) s).word a = s.word a) ∧
    (l.foldl (fun s n => s.clearOther c first len n) s).word (Reg.SCH_SHADOW m w) =
      if m ∈ l ∧ w = 0 ∧ ¬ (s.slotBase c + first ≤ m ∧ m < s.slotBase c + first + len) then s.word (Reg.SCH_SHADOW m w) &&& 0x7FFFFFFF
      else s.word (Reg.SCH_SHADOW m w) := by
  induction l with
  | nil => exact fun s => ⟨fun _ _ => rfl, by rw [if_neg (fun h => List.not_mem_nil h.1)]; rfl⟩
  | cons n l ih =>
    intro s
    obtain ⟨hlow, hshadow⟩ := ih (s.clearOther c first len n)
    obtain ⟨hbase, -⟩ := range_of_word (word_clearOther_low s (c := c) (first := first) (len := len) (n := n) (cylC_low c))
    refine ⟨fun a ha => (hlow a ha).trans (word_clearOther_low s ha), ?_⟩
    rw [List.foldl_cons, hshadow, hbase]
    have hstep : (s.clearOther c first len n).word (Reg.SCH_SHADOW m w) =
        if m = n ∧ w = 0 ∧ ¬ (s.slotBase c + first ≤ m ∧ m < s.slotBase c + first + len) then s.word (Reg.SCH_SHADOW m w) &&& 0x7FFFFFFF
        else s.word (Reg.SCH_SHADOW m w) := by
      unfold State.clearOther
      by_cases hin : s.slotBase c + first ≤ n ∧ n < s.slotBase c + first + len
      · rw [if_pos (by simpa using hin), if_neg (by rintro ⟨rfl, -, hout⟩; exact hout hin)]
      · rw [if_neg (by simpa using hin), word_setWord]
        by_cases hmn : m = n ∧ w = 0
        · obtain ⟨rfl, rfl⟩ := hmn
          rw [if_pos rfl, if_pos ⟨rfl, rfl, hin⟩]
        · rw [if_neg (by unfold Reg.SCH_SHADOW; omega), if_neg (fun h => hmn ⟨h.1, h.2.1⟩)]
    rw [hstep]
    by_cases hout : w = 0 ∧ ¬ (s.slotBase c + first ≤ m ∧ m < s.slotBase c + first + len)
    · by_cases hmn : m = n
      · by_cases hml : m ∈ l <;> simp only [List.mem_cons, eq_true hout.1, eq_true hout.2, eq_true hmn, hml, and_self, true_or, if_true,
          false_and, if_false, BitVec.and_assoc, BitVec.and_self]
      · simp only [List.mem_cons, hmn, false_or, false_and, if_false]
    · rw [if_neg (fun h => hout h.2), if_neg (fun h => hout h.2), if_neg (fun h => hout h.2)]

/-- The descriptors in their slots, from the `i`-th on. -/
theorem word_putDescs (c : Fin 24) {m w : Nat} (hw : w < 4) (ds : List Desc) : ∀ (i : Nat) (s : State),
    s.slotBase c + first + i + ds.length ≤ 2048 →
    (∀ a, a < 0x400A8000 → ((ds.zipIdx i).foldl (fun s e => s.putDesc (s.slotBase c + first + e.2) e.1) s).word a = s.word a) ∧
    (∀ j, j < ds.length → m = s.slotBase c + first + i + j →
      ((ds.zipIdx i).foldl (fun s e => s.putDesc (s.slotBase c + first + e.2) e.1) s).word (Reg.SCH_SHADOW m w) =
        BitVec.ofNat 32 ((ds.map (·.word w)).getD j 0)) ∧
    ((m < s.slotBase c + first + i ∨ s.slotBase c + first + i + ds.length ≤ m) →
      ((ds.zipIdx i).foldl (fun s e => s.putDesc (s.slotBase c + first + e.2) e.1) s).word (Reg.SCH_SHADOW m w) =
        s.word (Reg.SCH_SHADOW m w)) := by
  induction ds with
  | nil => exact fun i s _ => ⟨fun _ _ => rfl, fun j hj => absurd hj (Nat.not_lt_zero j), fun _ => rfl⟩
  | cons d ds ih =>
    intro i s hfit
    rw [List.length_cons] at hfit
    have hlow : ∀ a, a < 0x400A8000 → (s.putDesc (s.slotBase c + first + i) d).word a = s.word a := fun a ha =>
      word_putDesc_other s d (fun k hk => by unfold Reg.SCH_SHADOW; omega)
    obtain ⟨hbase, -⟩ := range_of_word (hlow _ (cylC_low c))
    obtain ⟨hlow', hin, hout⟩ := ih (i + 1) (s.putDesc (s.slotBase c + first + i) d) (by rw [hbase]; omega)
    rw [hbase] at hin hout
    rw [List.zipIdx_cons, List.foldl_cons]
    have hother : m ≠ s.slotBase c + first + i →
        (s.putDesc (s.slotBase c + first + i) d).word (Reg.SCH_SHADOW m w) = s.word (Reg.SCH_SHADOW m w) := fun hne =>
      word_putDesc_other s d (fun k hk => by unfold Reg.SCH_SHADOW; omega)
    refine ⟨fun a ha => (hlow' a ha).trans (hlow a ha), fun j hj he => ?_, fun hm' => ?_⟩
    · cases j with
      | zero =>
        rw [hout (by omega), he]
        exact word_putDesc_same s _ d hw
      | succ j =>
        rw [List.length_cons] at hj
        exact hin j (by omega) (by omega)
    · rw [List.length_cons] at hm'
      rw [hout (by omega), hother (by omega)]

/-- The transaction of the cylinder opens, where it was not open; nothing of its slots changes (R125). -/
def State.ensureOpen (s : State) (c : Nat) : State := if s.txnOpen c then s else s.openTxns (2 ^ c)

theorem ensureOpen_shows (s : State) (c : Fin 24) : (s.ensureOpen c).txnOpen c = true ∧ s.sameBut (s.ensureOpen c) [Reg.SCH_TXN, Reg.FLO_DROP] := by
  unfold State.ensureOpen
  split
  · next h => exact ⟨h, sameBut_refl s _⟩
  · refine ⟨?_, sameBut_openTxns (sameBut_refl s _) (by simp) (by simp) _⟩
    rw [txnOpen_openTxns s _ c.isLt, Nat.testBit_two_pow_self, Bool.or_true]

theorem shadow_outside {m w : Nat} (hm : m < 2048) (hw : w < 4) : Reg.SCH_SHADOW m w ∉ [Reg.SCH_TXN, Reg.FLO_DROP] ∧
    inIrqBlock (Reg.SCH_SHADOW m w) = false := by
  refine ⟨?_, inIrqBlock_above (by unfold Reg.SCH_SHADOW; omega)⟩
  simp only [Reg.SCH_SHADOW, Reg.SCH_TXN, Reg.FLO_DROP, List.mem_cons, List.not_mem_nil, or_false]
  omega

/-- With REPLACE the other slots of the cylinder's range lose EN (R125). -/
def State.clearOthers (s : State) (c first len : Nat) (replace : Bool) : State :=
  if !replace then s else (s.slotsOf c).foldl (fun s n => s.clearOther c first len n) s

theorem clearOthers_shows (s : State) (c : Fin 24) (replace : Bool) :
    (∀ a, a < 0x400A8000 → (s.clearOthers c first len replace).word a = s.word a) ∧
    ∀ m w, w < 4 → (m < s.slotBase c + first ∨ s.slotBase c + first + len ≤ m) → (s.clearOthers c first len replace).word (Reg.SCH_SHADOW m w) =
      if replace && w == 0 && decide (m ∈ s.slotsOf c) then s.word (Reg.SCH_SHADOW m w) &&& 0x7FFFFFFF else s.word (Reg.SCH_SHADOW m w) := by
  unfold State.clearOthers
  cases replace with
  | false => exact ⟨fun _ _ => rfl, fun _ _ _ _ => rfl⟩
  | true =>
    refine ⟨fun a => (word_clearedOthers c (m := 0) (w := 0) (by decide) (s.slotsOf c) s).1 a, fun m w hw hout => ?_⟩
    refine (word_clearedOthers c hw (s.slotsOf c) s).2.trans ?_
    have hout' : ¬ (s.slotBase c + first ≤ m ∧ m < s.slotBase c + first + len) := by omega
    by_cases hm : m ∈ s.slotsOf c <;> by_cases hw0 : w = 0 <;> simp [hm, hw0, hout']

theorem writeSlots_eq (s : State) (c first : Nat) (replace : Bool) (ds : List Desc) : ∃ k n, s.writeSlots c first replace ds =
    (ds.zipIdx.foldl (fun s e => s.putDesc (s.slotBase c + first + e.2) e.1) ((s.ensureOpen c).clearOthers c first ds.length replace)).mirrorSlots
      c k n := by
  cases replace with
  | false => exact ⟨first, ds.length, rfl⟩
  | true => exact ⟨0, _, rfl⟩

theorem writeSlots_shows (s : State) (c : Fin 24) (replace : Bool) (ds : List Desc) (hfit : s.slotBase c + first + ds.length ≤ 2048) :
    (s.writeSlots c first replace ds).txnOpen c = true ∧
    (∀ j w, j < ds.length → w < 4 → (s.writeSlots c first replace ds).word (Reg.SCH_SHADOW (s.slotBase c + first + j) w) =
      BitVec.ofNat 32 ((ds.map (·.word w)).getD j 0)) ∧
    ∀ m w, m < 2048 → w < 4 → (m < s.slotBase c + first ∨ s.slotBase c + first + ds.length ≤ m) →
      (s.writeSlots c first replace ds).word (Reg.SCH_SHADOW m w) =
        if replace && w == 0 && decide (m ∈ s.slotsOf c) then s.word (Reg.SCH_SHADOW m w) &&& 0x7FFFFFFF else s.word (Reg.SCH_SHADOW m w) := by
  obtain ⟨k, n, heq⟩ := writeSlots_eq s c first replace ds
  obtain ⟨hopen, hsame⟩ := ensureOpen_shows s c
  have hcyl : (s.ensureOpen c).word (Reg.SCH_CYL_C c) = s.word (Reg.SCH_CYL_C c) := by
    refine hsame.1 _ ?_ (inIrqBlock_above (by unfold Reg.SCH_CYL_C; omega))
    simp only [Reg.SCH_CYL_C, Reg.SCH_TXN, Reg.FLO_DROP, List.mem_cons, List.not_mem_nil, or_false]
    omega
  have hold : ∀ m w, m < 2048 → w < 4 → (s.ensureOpen c).word (Reg.SCH_SHADOW m w) = s.word (Reg.SCH_SHADOW m w) := fun m w hm hw =>
    hsame.1 _ (shadow_outside hm hw).1 (shadow_outside hm hw).2
  have hslots := slotsOf_of_word hcyl
  obtain ⟨hbase, -⟩ := range_of_word hcyl
  rw [heq]
  generalize s.ensureOpen c = t at hopen hcyl hold hslots hbase ⊢
  obtain ⟨hlow, hother⟩ := clearOthers_shows (first := first) (len := ds.length) t c replace
  obtain ⟨hbase', -⟩ := range_of_word (hlow _ (cylC_low c))
  rw [hbase, hslots] at hother
  rw [hbase] at hbase'
  generalize t.clearOthers c first ds.length replace = v at hlow hother hbase' ⊢
  have hput := fun m w hw => word_putDescs (first := first) c (m := m) (w := w) hw ds 0 v (by omega)
  rw [hbase'] at hput
  generalize ds.zipIdx.foldl (fun s e => s.putDesc (s.slotBase c + first + e.2) e.1) v = x at hput ⊢
  have hmirror := floOnly_mirrorSlots x c k n
  have hshadow : ∀ m w, m < 2048 → w < 4 → (x.mirrorSlots c k n).word (Reg.SCH_SHADOW m w) = x.word (Reg.SCH_SHADOW m w) := fun m w hm hw =>
    word_of_floOnly hmirror (fun e => (shadow_outside hm hw).1 (by simp [e])) (shadow_outside hm hw).2
  refine ⟨?_, fun j w hj hw => ?_, fun m w hm hw hout => ?_⟩
  · rw [txnOpen_of_floOnly hmirror, txnOpen_of_word ((hput 0 0 (by decide)).1 _ (by decide)), txnOpen_of_word (hlow _ (by decide)), hopen]
  · rw [hshadow _ w (by omega) hw]
    exact (hput _ w hw).2.1 j hj (by omega)
  · rw [hshadow m w hm hw, (hput m w hw).2.2 (by omega), hother m w hw hout, hold m w hm hw]

/-- A close writes no shadow slot (R110). -/
theorem word_closeTxn_shadow (s : State) (c : Nat) {m w : Nat} (hm : m < 2048) (hw : w < 4) :
    (s.closeTxn c).word (Reg.SCH_SHADOW m w) = s.word (Reg.SCH_SHADOW m w) := by
  obtain ⟨hout, hi⟩ := shadow_outside hm hw
  simp only [List.mem_cons, List.not_mem_nil, or_false, not_or] at hout
  cases ho : s.txnOpen c with
  | false => rw [closeTxn_idle ho]
  | true =>
    cases hok : s.setOk c with
    | true => rw [closeTxn_passes ho hok, word_clearTxn s 1 c hout.1 hout.2 hi]
    | false =>
      rw [closeTxn_refused ho hok, State.addWrap, State.set, word_setWord, if_neg (by simp only [Fld.SCH_CNT_CLOSE_REF, Reg.SCH_CNT, Reg.SCH_SHADOW]; omega)]
      exact word_raiseFlag s _ _ (by simp only [Fld.SCH_STAT_CLOSE_REFUSED, Reg.SCH_STAT, Reg.SCH_SHADOW]; omega)

variable {port : Nat} {p : Packet}

/-- The fields of a SET_WRITE payload. -/
theorem setWrite_fields (cyl : Fin 24) (close replace : Bool) {n : Nat} {l : List Word} (hfirst : first < 65536) (hl : l.length = 4 * n) {b : List Byte}
    (hb : b = [BitVec.ofNat 8 (cyl.val + 1), (if close then 1 else 0) + (if replace then 2 else 0)] ++ leBytes 2 first ++ wordBytes l) :
    byteAt b 0 = cyl.val + 1 ∧ byteAt b 1 ≤ 3 ∧ (byteAt b 1).testBit 0 = close ∧ (byteAt b 1).testBit 1 = replace ∧ leAt b 2 2 = first ∧
    b.length = 4 + 16 * n ∧ ∀ k, descAt b (4 + 16 * k) = wordsDesc l k := by
  subst hb
  have hcyl : ∀ c : Fin 24, (BitVec.ofNat 8 (c.val + 1)).toNat = c.val + 1 := by decide
  have hflags : byteAt ([BitVec.ofNat 8 (cyl.val + 1), (if close then 1 else 0) + (if replace then 2 else 0)] ++ leBytes 2 first ++ wordBytes l) 1 =
      ((if close then 1 else 0) + (if replace then 2 else 0) : Byte).toNat := rfl
  rw [hflags]
  refine ⟨hcyl cyl, ?_, ?_, ?_, ?_, ?_, fun k => descAt_words rfl l k⟩
  · cases close <;> cases replace <;> exact (by decide)
  · cases close <;> cases replace <;> rfl
  · cases close <;> cases replace <;> rfl
  · rw [List.append_assoc, leAt_behind _ _ 0 2 2 rfl]
    exact leAt_leBytes first 2 _ hfirst
  · rw [List.length_append, wordBytes_length, hl]
    change 4 + _ = _
    omega

/-- What a SET_WRITE leaves after its writes, and its answer (R125). -/
def State.setWritten (s : State) (c : Nat) (close : Bool) : Answer :=
  if !close then s.done else if (s.closeTxn c).txnOpen c then (s.closeTxn c).no stOutOfRange else (s.closeTxn c).done

/-- A SET_WRITE whose descriptors pass, and for which there is room, writes its slots (R125). -/
theorem setWrite_accepted (h : s.fastTakes 0x3F0 port p) (hsets : s.setsForbidden = false) (cyl : Fin 24) (close replace : Bool) {n : Nat} {l : List Word}
    (hn : 0 < n) (hn63 : n ≤ 63) (hl : l.length = 4 * n)
    (hp : p.payload = [BitVec.ofNat 8 (cyl.val + 1), (if close then 1 else 0) + (if replace then 2 else 0)] ++ leBytes 2 first ++ wordBytes l)
    (hok : ∀ k, k < n → s.testOutside (wordsDesc l k) = false ∧ s.descOk (wordsDesc l k) = true ∧
      ((wordsDesc l k).en = true → (wordsDesc l k).reserved = false))
    (hcap : first + n ≤ s.slotCnt cyl.val) (hfirst : first < 65536) {a : Answer}
    (ha : (s.fastTaken.writeSlots cyl first replace ((List.range n).map (wordsDesc l))).setWritten cyl close = a) {q : State → Prop} (hq : q a.state) :
    s.answersFast .setWrite port p a.status a.rest q := by
  obtain ⟨hcyl, hflags, hbit0, hbit1, hat, hsize, hdesc⟩ := setWrite_fields cyl close replace hfirst hl hp
  have hcount : (p.payload.length - 4) / 16 = n := by rw [hsize]; omega
  have hds : ((List.range n).map fun k => descAt p.payload (4 + 16 * k)) = (List.range n).map (wordsDesc l) := by simp only [hdesc]
  have hall : ∀ d ∈ (List.range n).map (wordsDesc l), s.testOutside d = false ∧ s.descOk d = true ∧ (d.en = true → d.reserved = false) := by
    simpa using hok
  generalize (List.range n).map (wordsDesc l) = ds at hds hall ha
  have hsets' : ¬ s.fastTaken.setsForbidden = true := by rw [setsForbidden_fastTaken, hsets]; decide
  have hsize' : ¬ (p.payload.length % 16 != 4 || n = 0 || 63 < n) = true := by
    simp only [hsize, Bool.or_eq_true, bne_iff_ne, decide_eq_true_eq]
    omega
  have htest : ¬ ds.any s.fastTaken.testOutside = true := by
    rw [List.any_eq_true]
    rintro ⟨d, hd, h'⟩
    exact absurd (h'.symm.trans (hall d hd).1) (by decide)
  have hrange : ¬ (byteAt p.payload 0 = 0 || 24 < byteAt p.payload 0 || 3 < byteAt p.payload 1 ||
      ds.any (fun d => !s.fastTaken.descOk d || (d.en && d.reserved))) = true := by
    have hbad : ds.any (fun d => !s.fastTaken.descOk d || (d.en && d.reserved)) = false := by
      rw [List.any_eq_false]
      intro d hd
      obtain ⟨-, hokd, hres⟩ := hall d hd
      rw [show s.fastTaken.descOk d = s.descOk d from rfl, hokd]
      cases he : d.en with
      | true => rw [hres he]; decide
      | false => simp
    have hc := cyl.isLt
    rw [hbad, hcyl]
    simp only [Bool.or_false, Bool.or_eq_true, decide_eq_true_eq]
    omega
  have hcap' : ¬ s.fastTaken.slotCnt cyl < first + n := by
    rw [show s.fastTaken.slotCnt cyl = s.slotCnt cyl from rfl]
    omega
  refine answersFast_of_takes (a := a) h rfl ?_ hq
  dsimp only
  rw [if_neg hsets', hcount, if_neg hsize', hds, if_neg htest, if_neg hrange, hcyl, hat, hbit0, hbit1, Nat.add_sub_cancel, if_neg hcap']
  exact ha

theorem answers_setWrite (h : s.fastTakes 0x3F0 port p) (hsets : s.setsForbidden = false) (cyl : Fin 24) (close replace : Bool) {n : Nat} {l : List Word}
    (hn : 0 < n) (hn63 : n ≤ 63) (hl : l.length = 4 * n)
    (hp : p.payload = [BitVec.ofNat 8 (cyl.val + 1), (if close then 1 else 0) + (if replace then 2 else 0)] ++ leBytes 2 first ++ wordBytes l)
    (hok : ∀ k, k < n → s.testOutside (wordsDesc l k) = false ∧ s.descOk (wordsDesc l k) = true ∧
      ((wordsDesc l k).en = true → (wordsDesc l k).reserved = false))
    (hcap : first + n ≤ s.slotCnt cyl.val) (hfit : s.slotBase cyl.val + s.slotCnt cyl.val ≤ 2048) (hfirst : first < 65536) :
    ∃ st, (st = 0 ∨ (close = true ∧ st = stOutOfRange)) ∧ s.answersFast .setWrite port p st [] (fun u =>
      (u.txnOpen cyl.val = true ↔ close = false ∨ st ≠ 0) ∧
      (∀ k, k < 4 * n → u.word (Reg.SCH_SHADOW (s.slotBase cyl.val + first + k / 4) (k % 4)) = l.getD k 0) ∧
      (∀ m w, m < 2048 → w < 4 → (m < s.slotBase cyl.val + first ∨ s.slotBase cyl.val + first + n ≤ m) →
        u.word (Reg.SCH_SHADOW m w) = (if replace && w == 0 && decide (m ∈ s.slotsOf cyl.val) then s.word (Reg.SCH_SHADOW m w) &&& 0x7FFFFFFF
          else s.word (Reg.SCH_SHADOW m w)))) := by
  have htakes := fun a ha q hq => setWrite_accepted (a := a) (q := q) h hsets cyl close replace hn hn63 hl hp hok hcap hfirst ha hq
  have hlen : ((List.range n).map (wordsDesc l)).length = n := by simp
  have hword : ∀ k, k < 4 * n → BitVec.ofNat 32 ((((List.range n).map (wordsDesc l)).map (·.word (k % 4))).getD (k / 4) 0) = l.getD k 0 := fun k hk => by
    have hk4 : k / 4 < n := by omega
    rw [← Nat.div_add_mod k 4, List.map_map, ← word_wordsDesc l _ (Nat.mod_lt k (by decide))]
    simp [List.getD_eq_getElem?_getD, hk4, Nat.div_add_mod]
  generalize (List.range n).map (wordsDesc l) = ds at hlen hword htakes
  obtain ⟨hopen, hin, hout⟩ := writeSlots_shows (first := first) s.fastTaken cyl replace ds (by
    rw [show s.fastTaken.slotBase cyl = s.slotBase cyl from rfl, hlen]; omega)
  rw [hlen] at hin hout
  have hshadow : ∀ u : State, (∀ m w, m < 2048 → w < 4 → u.word (Reg.SCH_SHADOW m w) =
      (s.fastTaken.writeSlots cyl first replace ds).word (Reg.SCH_SHADOW m w)) →
      (∀ k, k < 4 * n → u.word (Reg.SCH_SHADOW (s.slotBase cyl.val + first + k / 4) (k % 4)) = l.getD k 0) ∧
      (∀ m w, m < 2048 → w < 4 → (m < s.slotBase cyl.val + first ∨ s.slotBase cyl.val + first + n ≤ m) →
        u.word (Reg.SCH_SHADOW m w) = (if replace && w == 0 && decide (m ∈ s.slotsOf cyl.val) then s.word (Reg.SCH_SHADOW m w) &&& 0x7FFFFFFF
          else s.word (Reg.SCH_SHADOW m w))) := fun u hu => by
    refine ⟨fun k hk => ?_, fun m w hm hw ho => (hu m w hm hw).trans (hout m w hm hw ho)⟩
    rw [hu _ _ (by omega) (by omega), ← hword k hk]
    exact hin _ _ (by omega) (by omega)
  generalize s.fastTaken.writeSlots cyl first replace ds = v at hopen hshadow htakes
  cases close with
  | false => exact ⟨0, Or.inl rfl, htakes v.done rfl _ ⟨iff_of_true hopen (Or.inl rfl), hshadow v fun _ _ _ _ => rfl⟩⟩
  | true =>
    have hclosed := hshadow (v.closeTxn cyl) fun m w hm hw => word_closeTxn_shadow v cyl hm hw
    cases hend : (v.closeTxn cyl).txnOpen cyl with
    | true =>
      refine ⟨stOutOfRange, Or.inr ⟨rfl, rfl⟩, htakes ((v.closeTxn cyl).no stOutOfRange) ?_ _ ⟨?_, hclosed⟩⟩
      · rw [State.setWritten, hend]
        rfl
      · exact iff_of_true hend (Or.inr (by decide))
    | false =>
      refine ⟨0, Or.inl rfl, htakes (v.closeTxn cyl).done ?_ _ ⟨?_, hclosed⟩⟩
      · rw [State.setWritten, hend]
        rfl
      · refine iff_of_false (fun e => absurd (e.symm.trans hend) (by decide)) ?_
        simp

end write

/-- Settles O27: what refuses a packet, then each opcode by what it leaves: the slots of a SET_WRITE, the transactions that end, the slots
that SHOT_CANCEL cancels and the words of DEMAND. -/
theorem fastPathOpcodes : Obligations.FastPathOpcodes := by
  unfold Obligations.FastPathOpcodes
  intro s port p
  refine ⟨fun c op hmem => fastPath_refuses hmem, ?_, fun h hsets m hm hp => answers_setClose h hsets hm hp,
    fun h hsets m hm hp => answers_setAbort h hsets hm hp,
    fun h hsets cyl first m hfirst hm hfit hp => answers_shotCancel h hsets cyl hfirst hm hfit hp,
    fun h hdrag w0 w1 w2 off hoff hp h0 h1 hrail => answers_demand h hdrag w0 w1 w2 hoff hp h0 h1 hrail⟩
  intro h hsets cyl close replace first n l hn hn63 hl hp hok hcap hfit hfirst
  exact answers_setWrite h hsets cyl close replace hn hn63 hl hp (fun k hk => hok k _ hk rfl) hcap hfit hfirst

end Sys2Proof.Machine

/-! PROOFS. The scheduler's events and the converters (O49). -/

namespace Sys2Proof.Machine

-- ── A result enters a converter's FIFO (R138) ─────────────────────────────────────────────────────────────────────

section fifo
variable {s t : State} {a ain code : Nat}

theorem adc_setAdc_own (s : State) (a : Nat) (x : AdcState) : (s.setAdc a x).adc a = x := by
  rw [adc_setAdc, if_pos rfl]

theorem adc_of_adcs (h : t.adcs = s.adcs) (a : Nat) : t.adc a = s.adc a := by
  unfold State.adc; rw [h]

theorem refreshLevels_adcs (s : State) : s.refreshLevels.adcs = s.adcs := by
  rw [(irqOnly_refreshLevels s).1]

theorem adc_refreshLevels (s : State) (a : Nat) : s.refreshLevels.adc a = s.adc a := adc_of_adcs (refreshLevels_adcs s) a

theorem adc_irq (s : State) (n a : Nat) : (s.irq n).adc a = s.adc a := adc_of_adcs (irq_adcs s n) a

theorem sameBut_irqOnly {l : List Nat} (h : s.sameBut t l) {u : State} (k : irqOnly t u) : s.sameBut u l := by
  obtain ⟨heq, -, hword⟩ := k
  refine ⟨fun b hb hi => (hword b hi).trans (h.1 b hb hi), fun b => ?_⟩
  rw [← h.2 b, State.byte, congrArg State.mem heq, State.byte]

/-- With room in the FIFO a result is stored, and no register changes but the controller's (R138). -/
theorem pushResult_room (hroom : (s.adc a).fifo.length < 64) (hovr : (s.adc a).ovrNext = false) (w : Word) :
    (s.pushResult a w).adc a = { s.adc a with fifo := (s.adc a).fifo ++ [w], ovrNext := false, newer := (s.adc a).newer.map (· + 1) } ∧
    s.sameBut (s.pushResult a w) [] := by
  unfold State.pushResult
  extract_lets x
  have hroom' : ¬ 64 ≤ x.fifo.length := Nat.not_le.mpr hroom
  have hovr' : x.ovrNext = false := hovr
  rw [if_neg hroom', hovr', if_neg Bool.false_ne_true]
  refine ⟨?_, sameBut_irqOnly (sameBut_setAdc (sameBut_refl s []) a _) (irqOnly_refreshLevels _)⟩
  rw [adc_refreshLevels, adc_setAdc_own]

/-- With a full FIFO a result is lost: OVR, and the next one is marked (R138). -/
theorem pushResult_full {a : Fin 4} (hfull : 64 ≤ (s.adc a).fifo.length) (w : Word) :
    (s.pushResult a w).adc a = { s.adc a with ovrNext := true } ∧ s.sameBut (s.pushResult a w) [Reg.ADC_STAT a] ∧
    (s.pushResult a w).flag (Fld.ADC_STAT_OVR a) = true ∧ (s.pushResult a w).get (Fld.ADC_STAT_SKIP a) = s.get (Fld.ADC_STAT_SKIP a) := by
  have hi : inIrqBlock (Reg.ADC_STAT a) = false := inIrqBlock_above (by unfold Reg.ADC_STAT; omega)
  unfold State.pushResult
  extract_lets x
  rw [if_pos hfull]
  refine ⟨?_, ?_, ?_, ?_⟩
  · rw [adc_irq]
    exact adc_setAdc_own s a _
  · exact sameBut_irq (sameBut_raiseFlag (sameBut_setAdc (sameBut_refl s _) a _) _ List.mem_cons_self) _
  · rw [flag_irq _ _ _ hi]
    exact flag_raiseFlag _ _ (show 24 + 1 ≤ 32 by decide) Nat.one_pos
  · rw [get_irq _ _ _ hi]
    exact get_set_field _ (Fld.ADC_STAT_OVR a) _ _ (show 24 + 1 ≤ 32 by decide) (show 8 + 8 ≤ 24 ∨ _ from Or.inl (by decide))

/-- In both cases the burst and the SAMPLEs that wait stand, and so does the count of conversions that a burst has given up. -/
theorem pushResult_kept (s : State) (a : Fin 4) (hovr : (s.adc a).ovrNext = false) (w : Word) :
    ((s.pushResult a w).adc a).samples = (s.adc a).samples ∧ ((s.pushResult a w).adc a).burst = (s.adc a).burst ∧
    (s.pushResult a w).get (Fld.ADC_STAT_SKIP a) = s.get (Fld.ADC_STAT_SKIP a) := by
  rcases Nat.lt_or_ge (s.adc a).fifo.length 64 with hroom | hfull
  · obtain ⟨hadc, hsame⟩ := pushResult_room hroom hovr w
    refine ⟨by rw [hadc], by rw [hadc], sameBut_get hsame _ List.not_mem_nil (inIrqBlock_above ?_)⟩
    unfold Fld.ADC_STAT_SKIP Reg.ADC_STAT
    exact Nat.le_add_right_of_le (by decide)
  · obtain ⟨hadc, -, -, hskip⟩ := pushResult_full hfull w
    exact ⟨by rw [hadc], by rw [hadc], hskip⟩

/-- ADC_LAST shows a conversion's code (R137). -/
theorem word_setLast (s : State) (ain : Nat) (code : BitVec 12) :
    (s.setLast ain code.toNat).word (Reg.ADC_LAST (ain / 4) (ain % 4)) = BitVec.ofNat 32 (2 ^ 15 + code.toNat) := by
  unfold State.setLast
  rw [word_setWord, if_pos rfl, Nat.mod_eq_of_lt (show code.toNat < 4096 from code.isLt)]

theorem last_ne_stat (x : Nat) (a : Fin 4) : Reg.ADC_STAT a ≠ Reg.ADC_LAST (x / 4) (x % 4) := by
  unfold Reg.ADC_STAT Reg.ADC_LAST; omega

/-- ADC_LAST and the converter's status stand apart. -/
theorem get_setLast (s : State) (ain code : Nat) {f : FReg} {a : Fin 4} (hf : f.addr = Reg.ADC_STAT a) : (s.setLast ain code).get f = s.get f := by
  unfold State.get State.setLast
  rw [word_setWord, if_neg (by rw [hf]; exact last_ne_stat ain a)]

end fifo

-- ── A SAMPLE's conversion (R136, R137) ────────────────────────────────────────────────────────────────────────────

section sample
variable {v : State} {a : Fin 4} {ain : Nat} {r : List Nat} {code : BitVec 12}

/-- The word of a result: its code and its input. -/
theorem result_word (code : BitVec 12) (ain : Nat) : code.toNat % 4096 + ain * 4096 = code.toNat + 4096 * ain := by
  rw [Nat.mod_eq_of_lt (show code.toNat < 4096 from code.isLt), Nat.mul_comm]

theorem shedSamples_served (h : ∀ i, i ∈ (v.adc a).samples → v.inputServed i = true) : v.shedSamples a = v := by
  unfold State.shedSamples
  extract_lets x l
  have hl : l = x.samples := List.filter_eq_self.mpr h
  rw [hl, if_pos rfl]

/-- The state once a SAMPLE's result has entered the FIFO. -/
def State.takenSample (v : State) (a ain : Nat) (code : BitVec 12) : State :=
  ((v.setAdc a { v.adc a with samples := (v.adc a).samples.drop 1 }).pushResult a (BitVec.ofNat 32 (code.toNat + 4096 * ain))).setLast ain code.toNat

theorem sampleConvert_eq (v : State) (a ain : Nat) (code : BitVec 12) : v.sampleConvert a ain code.toNat =
    if (v.adc a).burst.isNone then v.takenSample a ain code
    else ((v.takenSample a ain code).setAdc a { (v.takenSample a ain code).adc a with
      burstAt := (v.adc a).burstAt + ((v.adc a).burst.elim 0 (·.2.2.1)), begun := true, skipNext := true }).addWrap (Fld.ADC_STAT_SKIP a) 1 := by
  unfold State.sampleConvert State.takenSample
  rw [result_word]

/-- Without a burst a SAMPLE's conversion is its result alone. -/
theorem sampleConvert_alone (h : (v.adc a).burst = none) : v.sampleConvert a ain code.toNat = v.takenSample a ain code := by
  rw [sampleConvert_eq, h]
  rfl

variable (hs : (v.adc a).samples = ain :: r) (hovr : (v.adc a).ovrNext = false)
include hs

/-- The oldest SAMPLE takes the conversion. -/
theorem sampleNext_first : v.sampleNext a code.toNat = v.sampleConvert a ain code.toNat := by
  unfold State.sampleNext
  rw [hs]
  rfl

theorem takenSample_full (hfull : 64 ≤ (v.adcFifo a).length) :
    (v.takenSample a ain code).adcFifo a = v.adcFifo a ∧ (v.takenSample a ain code).flag (Fld.ADC_STAT_OVR a) = true ∧
    ((v.takenSample a ain code).adc a).ovrNext = true ∧ ((v.takenSample a ain code).adc a).samples = r := by
  unfold State.takenSample
  rw [hs]
  have hadc := adc_setAdc_own v a { v.adc a with samples := (ain :: r).drop 1 }
  obtain ⟨hpush, -, hflag, -⟩ := pushResult_full (a := a) (by rw [hadc]; exact hfull) (BitVec.ofNat 32 (code.toNat + 4096 * ain))
  rw [hadc] at hpush
  refine ⟨(congrArg AdcState.fifo hpush :), ?_, congrArg AdcState.ovrNext hpush, congrArg AdcState.samples hpush⟩
  rw [← hflag, State.flag, get_setLast _ _ _ (a := a) rfl, State.flag]

include hovr

theorem takenSample_room (hroom : (v.adcFifo a).length < 64) :
    (v.takenSample a ain code).adcFifo a = v.adcFifo a ++ [BitVec.ofNat 32 (code.toNat + 4096 * ain)] ∧ ((v.takenSample a ain code).adc a).samples = r ∧
    (v.takenSample a ain code).word (Reg.ADC_LAST (ain / 4) (ain % 4)) = BitVec.ofNat 32 (2 ^ 15 + code.toNat) ∧
    v.sameBut (v.takenSample a ain code) [Reg.ADC_LAST (ain / 4) (ain % 4)] := by
  unfold State.takenSample
  rw [hs]
  have hadc := adc_setAdc_own v a { v.adc a with samples := (ain :: r).drop 1 }
  obtain ⟨hpush, hsame⟩ := pushResult_room (a := a) (by rw [hadc]; exact hroom) (by rw [hadc]; exact hovr) (BitVec.ofNat 32 (code.toNat + 4096 * ain))
  rw [hadc] at hpush
  refine ⟨congrArg AdcState.fifo hpush, congrArg AdcState.samples hpush, word_setLast _ ain code, ?_⟩
  exact sameBut_setWord (sameBut_mono hsame (List.nil_subset _)) List.mem_cons_self _

theorem takenSample_kept : ((v.takenSample a ain code).adc a).samples = r ∧ ((v.takenSample a ain code).adc a).burst = (v.adc a).burst ∧
    (v.takenSample a ain code).get (Fld.ADC_STAT_SKIP a) = v.get (Fld.ADC_STAT_SKIP a) ∧
    (v.takenSample a ain code).word (Reg.ADC_LAST (ain / 4) (ain % 4)) = BitVec.ofNat 32 (2 ^ 15 + code.toNat) := by
  unfold State.takenSample
  rw [hs]
  have hadc := adc_setAdc_own v a { v.adc a with samples := (ain :: r).drop 1 }
  obtain ⟨hsamples, hburst, hskip⟩ := pushResult_kept _ a (by rw [hadc]; exact hovr) (BitVec.ofNat 32 (code.toNat + 4096 * ain))
  rw [hadc] at hsamples hburst
  exact ⟨hsamples, hburst, (get_setLast _ ain code.toNat (a := a) rfl).trans hskip, word_setLast _ ain code⟩

/-- During a burst the SAMPLE takes a conversion's place: the burst's next one comes a period later (R136). -/
theorem sampleConvert_inBurst {b wend period n : Nat} (hb : (v.adc a).burst = some (b, wend, period, n)) :
    ((v.sampleConvert a ain code.toNat).adc a).samples = r ∧ ((v.sampleConvert a ain code.toNat).adc a).burst = some (b, wend, period, n) ∧
    ((v.sampleConvert a ain code.toNat).adc a).burstAt = (v.adc a).burstAt + period ∧
    (v.sampleConvert a ain code.toNat).get (Fld.ADC_STAT_SKIP a) = (v.get (Fld.ADC_STAT_SKIP a) + 1) % 2 ^ (Fld.ADC_STAT_SKIP a).w ∧
    (v.sampleConvert a ain code.toNat).word (Reg.ADC_LAST (ain / 4) (ain % 4)) = BitVec.ofNat 32 (2 ^ 15 + code.toNat) := by
  rw [sampleConvert_eq, hb, if_neg (by simp)]
  obtain ⟨hsamples, hburst, hskip, hlast⟩ := takenSample_kept (code := code) hs hovr
  generalize v.takenSample a ain code = t at hsamples hburst hskip hlast ⊢
  have hadc := adc_setAdc_own t a { t.adc a with burstAt := (v.adc a).burstAt + period, begun := true, skipNext := true }
  refine ⟨(congrArg AdcState.samples hadc).trans hsamples, (congrArg AdcState.burst hadc).trans (hburst.trans hb), congrArg AdcState.burstAt hadc, ?_, ?_⟩
  · rw [get_addWrap _ _ 1 (show 8 + 8 ≤ 32 by decide), ← hskip]
    rfl
  · rw [← hlast, State.addWrap, State.set, word_setWord,
      if_neg (show Reg.ADC_LAST (ain / 4) (ain % 4) ≠ (Fld.ADC_STAT_SKIP a).addr from Ne.symm (last_ne_stat ain a))]
    rfl

end sample

-- ── A burst's conversion and its end (R136, R138, R139) ───────────────────────────────────────────────────────────

section burst
variable {v : State} {a : Fin 4} {ain : Nat} {code : BitVec 12}

/-- LAST goes to the newest result. -/
theorem markNewest (l : List Word) (w m : Word) :
    (l ++ [w]).zipIdx.map (fun e => if e.2 + 0 + 1 = (l ++ [w]).length then e.1 ||| m else e.1) = l ++ [w ||| m] := by
  have hold : l.zipIdx.map (fun e => if e.2 + 0 + 1 = (l ++ [w]).length then e.1 ||| m else e.1) = l := by
    refine Eq.trans (List.map_congr_left fun e he => ?_) (List.zipIdx_map_fst 0 l)
    have hlt := List.snd_lt_of_mem_zipIdx he
    rw [if_neg (by rw [List.length_append, List.length_singleton]; omega)]
  rw [List.zipIdx_append, List.map_append, hold]
  simp

/-- A result that carries LAST carries it once. -/
theorem last_marked (code : BitVec 12) {ain : Nat} (h : ain < 16) :
    BitVec.ofNat 32 (code.toNat + 4096 * ain + 2 ^ 16) ||| 0x10000 = BitVec.ofNat 32 (code.toNat + 4096 * ain + 2 ^ 16) := by
  have hc : code.toNat < 4096 := code.isLt
  have hsum : code.toNat + 4096 * ain + 2 ^ 16 = 2 ^ 16 ||| (code.toNat + 4096 * ain) := by
    have hor := Nat.two_pow_add_eq_or_of_lt (i := 16) (b := code.toNat + 4096 * ain) (by omega) 1
    rw [Nat.mul_one] at hor
    rw [Nat.add_comm, hor]
  rw [hsum, BitVec.ofNat_or]
  exact (BitVec.or_comm _ _).trans (by rw [← BitVec.or_assoc]; exact congrArg (· ||| _) (BitVec.or_self))

theorem burstEnd_shows (s : State) (a : Fin 4) :
    (s.burstEnd a).adc a = { (s.adc a).markLast with burst := none, skipNext := false } ∧ (s.burstEnd a).flag (Fld.ADC_STAT_BURST a) = false ∧
    s.sameBut (s.burstEnd a) [Reg.ADC_STAT a] := by
  have hi : inIrqBlock (Reg.ADC_STAT a) = false := inIrqBlock_above (by unfold Reg.ADC_STAT; omega)
  unfold State.burstEnd
  refine ⟨?_, ?_, ?_⟩
  · rw [adc_irq]
    exact adc_setAdc_own s a _
  · rw [flag_irq _ _ _ hi]
    exact flag_set_zero _ (show 7 + 1 ≤ 32 by decide)
  · exact sameBut_irq (sameBut_set (sameBut_setAdc (sameBut_refl s _) a _) _ List.mem_cons_self 0) _

theorem length_markLast (x : AdcState) : x.markLast.fifo.length = x.fifo.length := by
  unfold AdcState.markLast
  cases x.newer with
  | none => rfl
  | some k => simp

variable {wend period n : Nat} (hserved : v.inputServed ain = true) (hskip : (v.adc a).skipNext = false) (hovr : (v.adc a).ovrNext = false)
  (hroom : (v.adcFifo a).length < 64)
include hserved hskip hovr hroom

theorem burstConvert_shows {last : Bool} (hlast : (decide (angDist ((v.outAcc + v.outRate * period) / fracOne % cycleAu) wend ≤ 0) ||
      decide (Nat.max 1 (v.get (Fld.ADC_CFG_BURST_MAX a)) ≤ n + 1)) = last) :
    ∃ t : State, v.burstConvert a ain wend period n code.toNat = (if last then t.burstEnd a else t) ∧
      t.adcFifo a = v.adcFifo a ++ [BitVec.ofNat 32 (code.toNat + 4096 * ain + if last then 2 ^ 16 else 0)] ∧ (t.adc a).newer = some 0 ∧
      (t.adc a).burst = some (ain, wend, period, n + 1) ∧ (t.adc a).burstAt = (v.adc a).burstAt + period ∧
      t.word (Reg.ADC_LAST (ain / 4) (ain % 4)) = BitVec.ofNat 32 (2 ^ 15 + code.toNat) := by
  unfold State.burstConvert
  extract_lets x next runs last' w p y s1 z s2
  have hlast' : last' = last := by rw [← hlast]; simp only [last', runs, hserved, Bool.true_and, next]
  have hadc := adc_setAdc_own v a { x with skipNext := false }
  have hroom' : x.fifo.length < 64 := hroom
  have hw : w = code.toNat + 4096 * ain + if last then 2 ^ 16 else 0 := by
    have hx : x.skipNext = false := hskip
    simp only [w, hx, hlast', result_word, Bool.false_eq_true, if_false, Nat.add_zero]
  obtain ⟨hpush, -⟩ := pushResult_room (a := a) (by rw [hadc]; exact hroom) (by rw [hadc]; exact hovr) (BitVec.ofNat 32 w)
  rw [hadc] at hpush
  have hp : p.adc a = { x with skipNext := false, fifo := x.fifo ++ [BitVec.ofNat 32 w], ovrNext := false, newer := x.newer.map (· + 1) } := hpush
  have hword : p.word (Reg.ADC_LAST (ain / 4) (ain % 4)) = BitVec.ofNat 32 (2 ^ 15 + code.toNat) := word_setLast _ ain code
  have hs1 : s1 = p.setAdc a { p.adc a with newer := some 0 } := by
    simp only [s1, y, runs, hserved, Bool.not_true, Bool.false_eq_true, if_false, hroom', if_true]
  have hz : z = { p.adc a with newer := some 0 } := by
    simp only [z, hs1, adc_setAdc_own]
  have hs2 : s2.adc a = { z with burst := some (ain, wend, period, if runs then n + 1 else n), burstAt := x.burstAt + period, begun := true } :=
    adc_setAdc_own s1 a _
  rw [hz, hp] at hs2
  refine ⟨s2, by rw [hlast'], ?_, by rw [hs2], ?_, by rw [hs2], ?_⟩
  · rw [State.adcFifo, hs2, ← hw]
    rfl
  · rw [hs2]
    simp only [runs, hserved, if_true]
  · rw [← hword]
    simp only [s2, hs1]
    rfl

/-- The last conversion of a burst carries LAST, and the burst ends. -/
theorem burstConvert_last (hain : ain < 16)
    (h : Nat.max 1 (v.get (Fld.ADC_CFG_BURST_MAX a)) ≤ n + 1 ∨ angDist ((v.outAcc + v.outRate * period) / fracOne % cycleAu) wend ≤ 0) :
    (v.burstConvert a ain wend period n code.toNat).adcFifo a = v.adcFifo a ++ [BitVec.ofNat 32 (code.toNat + 4096 * ain + 2 ^ 16)] ∧
    ((v.burstConvert a ain wend period n code.toNat).adc a).burst = none ∧
    (v.burstConvert a ain wend period n code.toNat).flag (Fld.ADC_STAT_BURST a) = false ∧
    (v.burstConvert a ain wend period n code.toNat).word (Reg.ADC_LAST (ain / 4) (ain % 4)) = BitVec.ofNat 32 (2 ^ 15 + code.toNat) := by
  obtain ⟨t, heq, hfifo, hnewer, -, -, hword⟩ := burstConvert_shows (code := code) (n := n) (period := period) (wend := wend) hserved hskip hovr hroom
    (last := true) (by simpa using h.symm)
  rw [if_pos rfl] at heq hfifo
  obtain ⟨hadc, hflag, hsame⟩ := burstEnd_shows t a
  have hi : inIrqBlock (Reg.ADC_LAST (ain / 4) (ain % 4)) = false := inIrqBlock_above (by unfold Reg.ADC_LAST; omega)
  rw [heq]
  refine ⟨?_, by rw [hadc], hflag, (hsame.1 _ (by simpa using Ne.symm (last_ne_stat ain a)) hi).trans hword⟩
  rw [State.adcFifo, hadc]
  have hmark : (t.adc a).markLast.fifo = v.adcFifo a ++ [BitVec.ofNat 32 (code.toNat + 4096 * ain + 2 ^ 16) ||| 0x10000] := by
    unfold AdcState.markLast
    rw [hnewer]
    dsimp only
    rw [show (t.adc a).fifo = _ from hfifo, markNewest]
  rw [last_marked code hain] at hmark
  exact hmark

theorem burstConvert_next (h1 : n + 1 < Nat.max 1 (v.get (Fld.ADC_CFG_BURST_MAX a)))
    (h2 : 0 < angDist ((v.outAcc + v.outRate * period) / fracOne % cycleAu) wend) :
    (v.burstConvert a ain wend period n code.toNat).adcFifo a = v.adcFifo a ++ [BitVec.ofNat 32 (code.toNat + 4096 * ain)] ∧
    ((v.burstConvert a ain wend period n code.toNat).adc a).burst = some (ain, wend, period, n + 1) ∧
    ((v.burstConvert a ain wend period n code.toNat).adc a).burstAt = (v.adc a).burstAt + period ∧
    (v.burstConvert a ain wend period n code.toNat).word (Reg.ADC_LAST (ain / 4) (ain % 4)) = BitVec.ofNat 32 (2 ^ 15 + code.toNat) := by
  obtain ⟨t, heq, hfifo, -, hburst, hat, hword⟩ := burstConvert_shows (code := code) (n := n) (period := period) (wend := wend) hserved hskip hovr hroom
    (last := false) (by simp only [Bool.or_eq_false_iff, decide_eq_false_iff_not]; omega)
  rw [if_neg Bool.false_ne_true] at heq hfifo
  rw [heq]
  exact ⟨hfifo, hburst, hat, hword⟩

end burst

-- ── The rows of the converters (R136–R139) ────────────────────────────────────────────────────────────────────────

theorem scanInput_lt {v : State} {a i : Nat} {first : Bool} (hi : v.scanInput a = some (i, first)) : i < 4 := by
  unfold State.scanInput at hi
  extract_lets x on p at hi
  split at hi
  · cases hi
  · split at hi
    · next h =>
      cases hi
      exact List.mem_range.mp (List.mem_of_find?_eq_some h)
    · split at hi
      · obtain ⟨k, hk, he⟩ := Option.map_eq_some_iff.mp hi
        cases he
        exact List.mem_range.mp (List.mem_of_find?_eq_some hk)
      · cases hi

section converters
variable {s v : State} {dt : Nat} {a : Fin 4} {code : BitVec 12} (hv : s.advance dt = v) (hg : v.flag Fld.CLK_GATE0_ADC = true)
include hv hg

/-- What a conversion of an event slot does with the clock on, once the inputs that are not served have been shed. -/
theorem does_conversion {q : State → Prop} (hshed : v.shedSamples a = v) (hq : q (match (v.adc a).burst with
      | none => v.sampleNext a code.toNat
      | some (ain, wend, period, n) =>
        if v.now < (v.adc a).burstAt then v
        else if (v.adc a).begun && v.atOrBeyond wend then (v.burstEnd a).sampleNext a code.toNat
        else if (v.adc a).samples = [] then v.burstConvert a ain wend period n code.toNat
        else v.sampleNext a code.toNat)) : s.does (.adcBurstConversion dt a code) q := by
  refine ⟨_, ?_, hq⟩
  change execAdcBurstConversion dt a code s = _
  unfold execAdcBurstConversion
  rw [hv]
  dsimp only
  rw [hg, hshed]
  rfl

/-- What a scan does in idle time. -/
theorem does_scan {q : State → Prop} {i : Nat} {first : Bool} (hs : (v.adc a).samples = []) (hb : (v.adc a).burst = none)
    (hi : v.scanInput a = some (i, first)) (hq : ∀ t : State, t = v.setAdc a { v.adc a with
      scanNext := (i + 1) % 4, scanAt := if first then v.now else (v.adc a).scanAt } →
      q (if t.inputServed (4 * a + i) then t.setLast (4 * a + i) code.toNat else t.addWrap (Fld.ADC_STAT_CALV_SKIP a) 1)) :
    s.does (.adcScan dt a code) q := by
  refine ⟨_, ?_, hq _ rfl⟩
  change execAdcScan dt a code s = _
  unfold execAdcScan
  rw [hv]
  dsimp only
  rw [hg, hs, hb, hi]
  rfl

theorem does_sample_room {ain : Nat} {r : List Nat} (hovr : (v.adc a).ovrNext = false) (hs : (v.adc a).samples = ain :: r)
    (hserved : ∀ i, i ∈ ain :: r → v.inputServed i = true) (hb : (v.adc a).burst = none) (hroom : (v.adcFifo a).length < 64) :
    s.does (.adcBurstConversion dt a code) (fun u =>
      u.adcFifo a = v.adcFifo a ++ [BitVec.ofNat 32 (code.toNat + 4096 * ain)] ∧ (u.adc a).samples = r ∧
      u.word (Reg.ADC_LAST (ain / 4) (ain % 4)) = BitVec.ofNat 32 (2 ^ 15 + code.toNat) ∧
      v.sameBut u [Reg.ADC_LAST (ain / 4) (ain % 4)]) := by
  refine does_conversion hv hg (shedSamples_served (by rw [hs]; exact hserved)) ?_
  rw [hb]
  dsimp only
  rw [sampleNext_first hs, sampleConvert_alone hb]
  exact takenSample_room hs hovr hroom

theorem does_sample_full {ain : Nat} {r : List Nat} (hs : (v.adc a).samples = ain :: r)
    (hserved : ∀ i, i ∈ ain :: r → v.inputServed i = true) (hb : (v.adc a).burst = none) (hfull : 64 ≤ (v.adcFifo a).length) :
    s.does (.adcBurstConversion dt a code) (fun u => u.adcFifo a = v.adcFifo a ∧ u.flag (Fld.ADC_STAT_OVR a) = true ∧
      (u.adc a).ovrNext = true ∧ (u.adc a).samples = r) := by
  refine does_conversion hv hg (shedSamples_served (by rw [hs]; exact hserved)) ?_
  rw [hb]
  dsimp only
  rw [sampleNext_first hs, sampleConvert_alone hb]
  exact takenSample_full hs hfull

section burst
variable {b wend period n : Nat} (hb : (v.adc a).burst = some (b, wend, period, n)) (hdue : (v.adc a).burstAt ≤ v.now)
include hb hdue

/-- A conversion that falls due in a burst that goes on: a SAMPLE's, or the burst's own (R136). -/
theorem does_burst {q : State → Prop} (hshed : v.shedSamples a = v) (hon : (v.adc a).begun = false ∨ v.atOrBeyond wend = false)
    (hq : q (if (v.adc a).samples = [] then v.burstConvert a b wend period n code.toNat else v.sampleNext a code.toNat)) :
    s.does (.adcBurstConversion dt a code) q := by
  have hgoes : ¬ ((v.adc a).begun && v.atOrBeyond wend) = true := by
    rcases hon with h | h <;> simp [h]
  refine does_conversion hv hg hshed ?_
  rw [hb]
  dsimp only
  rw [if_neg (Nat.not_lt.mpr hdue), if_neg hgoes]
  exact hq

theorem does_burstSample {ain : Nat} {r : List Nat} (hovr : (v.adc a).ovrNext = false) (hs : (v.adc a).samples = ain :: r)
    (hserved : ∀ i, i ∈ ain :: r → v.inputServed i = true) (hon : (v.adc a).begun = false ∨ v.atOrBeyond wend = false) :
    s.does (.adcBurstConversion dt a code) (fun u => (u.adc a).samples = r ∧ (u.adc a).burst = some (b, wend, period, n) ∧
      (u.adc a).burstAt = (v.adc a).burstAt + period ∧
      u.get (Fld.ADC_STAT_SKIP a) = (v.get (Fld.ADC_STAT_SKIP a) + 1) % 2 ^ (Fld.ADC_STAT_SKIP a).w ∧
      u.word (Reg.ADC_LAST (ain / 4) (ain % 4)) = BitVec.ofNat 32 (2 ^ 15 + code.toNat)) := by
  refine does_burst hv hg hb hdue (shedSamples_served (by rw [hs]; exact hserved)) hon ?_
  rw [if_neg (by rw [hs]; exact List.cons_ne_nil _ _), sampleNext_first hs]
  exact sampleConvert_inBurst hs hovr hb

variable (hs : (v.adc a).samples = [])
include hs

theorem does_burstEnds (hbegun : (v.adc a).begun = true) (hend : v.atOrBeyond wend = true) : s.does (.adcBurstConversion dt a code) (fun u =>
    (u.adc a).burst = none ∧ u.flag (Fld.ADC_STAT_BURST a) = false ∧ (u.adcFifo a).length = (v.adcFifo a).length) := by
  obtain ⟨hadc, hflag, -⟩ := burstEnd_shows v a
  refine does_conversion hv hg (shedSamples_served (by rw [hs]; exact fun i hi => absurd hi List.not_mem_nil)) ?_
  rw [hb]
  dsimp only
  rw [if_neg (Nat.not_lt.mpr hdue), hbegun, hend, if_pos (by rfl)]
  have hnone : (v.burstEnd a).sampleNext a code.toNat = v.burstEnd a := by
    have hempty : ((v.burstEnd a).adc a).samples = [] := by
      rw [hadc, ← hs]
      unfold AdcState.markLast
      cases (v.adc a).newer <;> rfl
    unfold State.sampleNext
    rw [hempty]
    rfl
  rw [hnone]
  refine ⟨by rw [hadc], hflag, ?_⟩
  rw [State.adcFifo, hadc]
  exact length_markLast _

variable (hovr : (v.adc a).ovrNext = false) (hain : b < 16) (hon : (v.adc a).begun = false ∨ v.atOrBeyond wend = false)
  (hserved : v.inputServed b = true) (hskip : (v.adc a).skipNext = false) (hroom : (v.adcFifo a).length < 64)
include hovr hon hserved hskip hroom

theorem does_burstNext (h1 : n + 1 < Nat.max 1 (v.get (Fld.ADC_CFG_BURST_MAX a)))
    (h2 : 0 < angDist ((v.outAcc + v.outRate * period) / fracOne % cycleAu) wend) : s.does (.adcBurstConversion dt a code) (fun u =>
    u.adcFifo a = v.adcFifo a ++ [BitVec.ofNat 32 (code.toNat + 4096 * b)] ∧ (u.adc a).burst = some (b, wend, period, n + 1) ∧
    (u.adc a).burstAt = (v.adc a).burstAt + period ∧ u.word (Reg.ADC_LAST (b / 4) (b % 4)) = BitVec.ofNat 32 (2 ^ 15 + code.toNat)) := by
  refine does_burst hv hg hb hdue (shedSamples_served (by rw [hs]; exact fun i hi => absurd hi List.not_mem_nil)) hon ?_
  rw [if_pos hs]
  exact burstConvert_next hserved hskip hovr hroom h1 h2

include hain

theorem does_burstLast
    (h : Nat.max 1 (v.get (Fld.ADC_CFG_BURST_MAX a)) ≤ n + 1 ∨ angDist ((v.outAcc + v.outRate * period) / fracOne % cycleAu) wend ≤ 0) :
    s.does (.adcBurstConversion dt a code) (fun u =>
      u.adcFifo a = v.adcFifo a ++ [BitVec.ofNat 32 (code.toNat + 4096 * b + 2 ^ 16)] ∧ (u.adc a).burst = none ∧
      u.flag (Fld.ADC_STAT_BURST a) = false ∧ u.word (Reg.ADC_LAST (b / 4) (b % 4)) = BitVec.ofNat 32 (2 ^ 15 + code.toNat)) := by
  refine does_burst hv hg hb hdue (shedSamples_served (by rw [hs]; exact fun i hi => absurd hi List.not_mem_nil)) hon ?_
  rw [if_pos hs]
  exact burstConvert_last hserved hskip hovr hroom hain h

end burst

section scan
variable {i : Nat} {first : Bool} (hs : (v.adc a).samples = []) (hb : (v.adc a).burst = none) (hi : v.scanInput a = some (i, first))
include hs hb hi

theorem does_scanServed (hserved : v.inputServed (4 * a.val + i) = true) : s.does (.adcScan dt a code) (fun u =>
    u.word (Reg.ADC_LAST a i) = BitVec.ofNat 32 (2 ^ 15 + code.toNat) ∧ u.adcFifo a = v.adcFifo a ∧ v.sameBut u [Reg.ADC_LAST a i]) := by
  have hlt := scanInput_lt hi
  refine does_scan hv hg hs hb hi fun t ht => ?_
  have hfifo : t.adcFifo a = v.adcFifo a := by rw [State.adcFifo, ht, adc_setAdc_own]; rfl
  have hsame : v.sameBut t [Reg.ADC_LAST a i] := by rw [ht]; exact sameBut_setAdc (sameBut_refl v _) a _
  have hins : t.inputServed (4 * a + i) = true := by rw [ht]; exact hserved
  have hlast := word_setLast t (4 * a + i) code
  have hkept := sameBut_setWord hsame (a := Reg.ADC_LAST ((4 * a + i) / 4) ((4 * a + i) % 4)) (by
    rw [show (4 * a.val + i) / 4 = a by omega, show (4 * a.val + i) % 4 = i by omega]; exact List.mem_cons_self)
    (BitVec.ofNat 32 (2 ^ 15 + code.toNat % 4096))
  rw [if_pos hins]
  rw [show (4 * a.val + i) / 4 = a by omega, show (4 * a.val + i) % 4 = i by omega] at hlast
  exact ⟨hlast, hfifo, hkept⟩

theorem does_scanShed (hserved : v.inputServed (4 * a.val + i) = false) : s.does (.adcScan dt a code) (fun u => u.adcFifo a = v.adcFifo a ∧
    u.get (Fld.ADC_STAT_CALV_SKIP a) = (v.get (Fld.ADC_STAT_CALV_SKIP a) + 1) % 2 ^ (Fld.ADC_STAT_CALV_SKIP a).w) := by
  refine does_scan hv hg hs hb hi fun t ht => ?_
  have hfifo : t.adcFifo a = v.adcFifo a := by rw [State.adcFifo, ht, adc_setAdc_own]; rfl
  have hget : t.get (Fld.ADC_STAT_CALV_SKIP a) = v.get (Fld.ADC_STAT_CALV_SKIP a) := by rw [ht]; rfl
  have hins : ¬ t.inputServed (4 * a + i) = true := by
    rw [show t.inputServed (4 * a + i) = v.inputServed (4 * a + i) by rw [ht]; rfl, hserved]; decide
  rw [if_neg hins]
  refine ⟨hfifo, ?_⟩
  rw [get_addWrap _ _ 1 (show 16 + 8 ≤ 32 by decide), hget]

end scan

end converters

-- ── A cycle wrap of a tracker (R79, R81, R82, R92) ────────────────────────────────────────────────────────────────

section theta
variable {s t : State} {x : Nat}

/-- Corrected angles follow the wheel's description, PROF_EN and the profile alone (R71). -/
theorem theta_of_words (hcfg : t.word (Reg.WHL_WD_CFG x) = s.word (Reg.WHL_WD_CFG x)) (href : t.word (Reg.WHL_WD_REF x) = s.word (Reg.WHL_WD_REF x))
    (hctrl : t.word (Reg.TRK_CTRL x) = s.word (Reg.TRK_CTRL x)) (hprof : (t.trk x).profile = (s.trk x).profile) (i : Nat) :
    t.theta x i = s.theta x i := by
  have hnominal : t.nominal x i = s.nominal x i := by
    unfold State.nominal State.posCyc State.revs State.posRev State.flag State.get Fld.WHL_WD_REF_REF_ANGLE Fld.WHL_WD_CFG_STROKE
      Fld.WHL_WD_CFG_POS_REV
    rw [hcfg, href]
  have hen : t.flag (Fld.TRK_CTRL_PROF_EN x) = s.flag (Fld.TRK_CTRL_PROF_EN x) := by
    simp only [State.flag, State.get, Fld.TRK_CTRL_PROF_EN, hctrl]
  unfold State.theta Trk.profileOf
  rw [hnominal, hen, hprof]

theorem partStamps_of_theta (h : ∀ i, t.theta x i = s.theta x i) : ∀ l, t.partStamps x l = s.partStamps x l
  | [] => rfl
  | [_] => rfl
  | a :: b :: r => by
    rw [State.partStamps, State.partStamps, h, h, partStamps_of_theta h (b :: r)]

theorem splitCycle_of_theta (h : ∀ i, t.theta x i = s.theta x i) (l : List (Nat × Nat)) : t.splitCycle x l = s.splitCycle x l := by
  unfold State.splitCycle
  rw [partStamps_of_theta h]

end theta

/-- A step of the wrap of tracker `x`: it leaves the other tracker, the voter and the time as they were, and all registers but two. -/
structure WrapStep (x : Nat) (s t : State) : Prop where
  others : ∀ y, y ≠ x → t.trk y = s.trk y
  voter : t.voter = s.voter
  tclk : t.tclk = s.tclk
  words : s.sameBut t [Reg.TRK_LOAD x, Reg.TRK_STAT x]

section steps
variable {x : Nat} {s t u : State}

theorem wrapStep_refl (x : Nat) (s : State) : WrapStep x s s := ⟨fun _ _ => rfl, rfl, rfl, sameBut_refl s _⟩

theorem wrapStep_trans (h : WrapStep x s t) (k : WrapStep x t u) : WrapStep x s u where
  others := fun y hy => (k.others y hy).trans (h.others y hy)
  voter := k.voter.trans h.voter
  tclk := k.tclk.trans h.tclk
  words := sameBut_trans h.words k.words

theorem wrapStep_setTrk (h : WrapStep x s t) (w : Trk) : WrapStep x s (t.setTrk x w) where
  others := fun y hy => (trk_setTrk t y x w).trans ((if_neg hy).trans (h.others y hy))
  voter := h.voter
  tclk := h.tclk
  words := sameBut_of_regs h.words rfl rfl

theorem wrapStep_irq (h : WrapStep x s t) (n : Nat) : WrapStep x s (t.irq n) where
  others := fun y hy => (trk_irq t n y).trans (h.others y hy)
  voter := (irq_voter t n).trans h.voter
  tclk := (irq_tclk t n).trans h.tclk
  words := sameBut_irq h.words n

theorem wrapStep_set (h : WrapStep x s t) (f : FReg) (hf : f.addr ∈ [Reg.TRK_LOAD x, Reg.TRK_STAT x]) (v : Nat) : WrapStep x s (t.set f v) where
  others := h.others
  voter := h.voter
  tclk := h.tclk
  words := sameBut_set h.words f hf v

theorem wrapStep_raiseBit (h : WrapStep x s t) (f : FReg) (hf : f.addr ∈ [Reg.TRK_LOAD x, Reg.TRK_STAT x]) (k : Nat) :
    WrapStep x s (t.raiseBit f k) where
  others := h.others
  voter := h.voter
  tclk := h.tclk
  words := sameBut_set h.words f hf _

theorem wrapStep_withSch (h : WrapStep x s t) (y : SchState) : WrapStep x s (t.withSch y) := ⟨h.others, h.voter, h.tclk, h.words⟩

theorem wrapStep_setBefore (h : WrapStep x s t) (y : Nat) (b : Option TrkBefore) : WrapStep x s (t.setBefore y b) :=
  ⟨h.others, h.voter, h.tclk, h.words⟩

end steps

section wrap

variable (s : State) (x : Fin 2)

/-- Training counts the cycle in the tracker, and may mark the bucket as trained (R81). -/
theorem trainCycle_shows : ∃ c, (s.trainCycle x).trk x = { s.trk x with trainCnt := c } ∧ WrapStep x s (s.trainCycle x) ∧
    (s.trainCycle x).get (Fld.TRK_LOAD_BUCKET x) = s.get (Fld.TRK_LOAD_BUCKET x) := by
  unfold State.trainCycle
  extract_lets t b c s1
  split
  · exact ⟨(s.trk x).trainCnt, rfl, wrapStep_refl x s, rfl⟩
  have hs1 : s1.trk x = { t with trainCnt := spPut (fun _ => 0) t.trainCnt b c } := trk_setTrk_own s x _
  have hstep : WrapStep x s s1 := wrapStep_setTrk (wrapStep_refl x s) _
  split
  · refine ⟨_, hs1, wrapStep_raiseBit hstep _ List.mem_cons_self b, ?_⟩
    exact get_set_apart s1 _ ((by decide : ∀ x : Fin 2, fieldsApart (Fld.TRK_LOAD_BUCKET x) (Fld.TRK_LOAD_TRAINED x) = true) x)
  · exact ⟨_, hs1, hstep, rfl⟩

/-- Learning changes the profile alone (R82). -/
theorem learnProfile_shows (dur : Nat) (l : List (Nat × Nat)) : ∃ p, (s.learnProfile x dur l).trk x = { s.trk x with profile := p } ∧
    WrapStep x s (s.learnProfile x dur l) ∧ (s.learnProfile x dur l).regs = s.regs := by
  unfold State.learnProfile
  cases l with
  | nil => exact ⟨(s.trk x).profile, rfl, wrapStep_refl x s, rfl⟩
  | cons e l => exact ⟨_, trk_setTrk_own s x _, wrapStep_setTrk (wrapStep_refl x s) _, rfl⟩

/-- What a wrap leaves in a tracker, given the state `v` in which it comes (R79, R82, R92). -/
structure Wrapped (x : Nat) (v w : State) : Prop where
  wrapPend : (w.trk x).wrapPend = false
  wrapAt : (w.trk x).wrapAt = 16 * v.tclk
  prevDur : (w.trk x).prevDur = 16 * v.tclk - (v.trk x).wrapAt
  stamps : (w.trk x).stamps = (v.splitCycle x (v.trk x).stamps).1
  healthNow : (w.trk x).healthNow = 0
  health : (w.trk x).health = Nat.min 255 (v.trk x).healthNow
  bucket : w.get (Fld.TRK_LOAD_ACTIVE x) = v.get (Fld.TRK_LOAD_BUCKET x)

/-- A step of a wrap leaves the corrected angles, but for what the profile gives. -/
theorem theta_of_wrapStep {s t : State} {x y : Fin 2} (h : WrapStep y s t) (hprof : (t.trk x).profile = (s.trk x).profile) (i : Nat) :
    t.theta x i = s.theta x i := by
  have hword : ∀ a, (0x40080200 ≤ a ∧ a < 0x40080308) ∨ a = Reg.TRK_CTRL x → t.word a = s.word a := fun a ha => by
    refine h.words.1 a ?_ (inIrqBlock_above ?_) <;> simp only [Reg.TRK_CTRL, Reg.TRK_LOAD, Reg.TRK_STAT, List.mem_cons, List.not_mem_nil, or_false] at *
    · omega
    · omega
  have hx := x.isLt
  refine theta_of_words (hword _ (Or.inl ?_)) (hword _ (Or.inl ?_)) (hword _ (Or.inr rfl)) hprof i
  · unfold Reg.WHL_WD_CFG; omega
  · unfold Reg.WHL_WD_REF; omega

theorem trackerWrap_shows : Wrapped x s (s.trackerWrap x) ∧ WrapStep x s (s.trackerWrap x) := by
  unfold State.trackerWrap
  extract_lets b dur y s1 s2 cut s3 t st h s4 s5 src s6
  have hi : inIrqBlock (Fld.TRK_LOAD_BUCKET x).addr = false := inIrqBlock_above (by simp only [Fld.TRK_LOAD_BUCKET, Reg.TRK_LOAD]; omega)
  have h1 : WrapStep x s s1 := wrapStep_irq (wrapStep_setTrk (wrapStep_setBefore (wrapStep_refl x s) x none) _) _
  have ht1 : s1.trk x = { s.trk x with wrapPend := false } := (trk_irq _ _ _).trans (trk_setTrk_own b x _)
  have hb1 : s1.get (Fld.TRK_LOAD_BUCKET x) = s.get (Fld.TRK_LOAD_BUCKET x) := get_irq _ _ _ hi
  have hdur : dur = 16 * s.tclk - (s.trk x).wrapAt := rfl
  clear_value s1 dur
  obtain ⟨c, ht2, h12, hb2⟩ := trainCycle_shows s1 x
  change s2.trk x = _ at ht2
  change WrapStep x s1 s2 at h12
  change s2.get _ = _ at hb2
  clear_value s2
  have h2 : WrapStep x s s2 := wrapStep_trans h1 h12
  have hcut : cut.1 = (s.splitCycle x (s.trk x).stamps).1 := by
    have hstamps : (s2.trk x).stamps = (s.trk x).stamps := by rw [ht2, ht1]
    have hprof : (s2.trk x).profile = (s.trk x).profile := by rw [ht2, ht1]
    simp only [cut, hstamps, splitCycle_of_theta (theta_of_wrapStep h2 hprof)]
  have h3 : ∃ p, s3.trk x = { s2.trk x with profile := p } ∧ WrapStep x s s3 ∧ s3.get (Fld.TRK_LOAD_BUCKET x) = s2.get (Fld.TRK_LOAD_BUCKET x) := by
    simp only [s3]
    split
    · obtain ⟨p, hp, hl, hr⟩ := learnProfile_shows s2 x dur cut.2.reverse
      exact ⟨p, hp, wrapStep_trans h2 hl, by unfold State.get State.word; rw [hr]⟩
    · exact ⟨(s2.trk x).profile, rfl, h2, rfl⟩
  obtain ⟨p, ht3, h3, hb3⟩ := h3
  clear_value s3 cut
  have hbucket : s4.get (Fld.TRK_LOAD_BUCKET x) = s.get (Fld.TRK_LOAD_BUCKET x) := by
    refine (get_set_apart s3 _ ((by decide : ∀ x : Fin 2, fieldsApart (Fld.TRK_LOAD_BUCKET x) (Fld.TRK_STAT_HEALTH x) = true) x)).trans ?_
    rw [hb3, hb2, hb1]
  have h4 : WrapStep x s s4 := wrapStep_set h3 _ (List.mem_cons_of_mem _ List.mem_cons_self) _
  clear_value s4
  have h5 : WrapStep x s s5 := wrapStep_set h4 _ List.mem_cons_self _
  have h6 : WrapStep x s s6 := wrapStep_withSch h5 _
  have hactive : s6.get (Fld.TRK_LOAD_ACTIVE x) = s.get (Fld.TRK_LOAD_BUCKET x) := by
    have hregs : s6.regs = s5.regs := rfl
    rw [get_of_regs hregs, get_set s4 (Fld.TRK_LOAD_ACTIVE x) _ (show 8 + 3 ≤ 32 by decide), hbucket]
    exact Nat.mod_eq_of_lt (get_lt s _)
  have ht : t = { s.trk x with wrapPend := false, trainCnt := c, profile := p } := by
    simp only [t, ht3, ht2, ht1]
  have htclk : s6.tclk = s.tclk := h6.tclk
  clear_value s6
  refine ⟨?_, wrapStep_setTrk h6 _⟩
  have hown := fun w => trk_setTrk_own s6 x w
  constructor
  · rw [hown, ht]
  · rw [hown, htclk]
  · rw [hown, hdur]
  · rw [hown, hcut]
  · rw [hown]
  · rw [hown]
    simp only [h, ht]
  · rw [get_of_regs (State.setTrk_regs s6 x _)]
    exact hactive

end wrap

-- ── The row of the wraps (R79, R92) ───────────────────────────────────────────────────────────────────────────────

section cycleWrap
variable {s v w : State} {x y : Fin 2}

/-- The wrap of one tracker leaves what the other's will read. -/
theorem wrapped_before (h : WrapStep y v s) (hne : x ≠ y) (k : Wrapped x s w) : Wrapped x v w := by
  have hne' : (x : Nat) ≠ y := fun e => hne (Fin.ext e)
  have htrk : s.trk x = v.trk x := h.others x hne'
  have hload : s.get (Fld.TRK_LOAD_BUCKET x) = v.get (Fld.TRK_LOAD_BUCKET x) := by
    refine sameBut_get h.words _ ?_ (inIrqBlock_above ?_) <;>
      simp only [Fld.TRK_LOAD_BUCKET, Reg.TRK_LOAD, Reg.TRK_STAT, List.mem_cons, List.not_mem_nil, or_false]
    · omega
    · omega
  obtain ⟨hpend, hat, hdur, hstamps, hnow, hhealth, hbucket⟩ := k
  refine ⟨hpend, hat.trans (by rw [h.tclk]), hdur.trans (by rw [h.tclk, htrk]), hstamps.trans ?_, hnow, hhealth.trans (by rw [htrk]),
    hbucket.trans hload⟩
  rw [htrk, splitCycle_of_theta (theta_of_wrapStep h (by rw [htrk]))]

/-- The wrap of one tracker leaves what the other's has shown. -/
theorem wrapped_after (h : Wrapped x v s) (hne : x ≠ y) (k : WrapStep y s w) : Wrapped x v w := by
  have hne' : (x : Nat) ≠ y := fun e => hne (Fin.ext e)
  have htrk : w.trk x = s.trk x := k.others x hne'
  have hload : w.get (Fld.TRK_LOAD_ACTIVE x) = s.get (Fld.TRK_LOAD_ACTIVE x) := by
    refine sameBut_get k.words _ ?_ (inIrqBlock_above ?_) <;>
      simp only [Fld.TRK_LOAD_ACTIVE, Reg.TRK_LOAD, Reg.TRK_STAT, List.mem_cons, List.not_mem_nil, or_false]
    · omega
    · omega
  obtain ⟨hpend, hat, hdur, hstamps, hnow, hhealth, hbucket⟩ := h
  exact ⟨htrk ▸ hpend, htrk ▸ hat, htrk ▸ hdur, htrk ▸ hstamps, htrk ▸ hnow, htrk ▸ hhealth, hload.trans hbucket⟩

/-- A tracker whose wrap has taken place is wrapped; the other's stands. -/
def State.wrapIfDue (s v : State) (x : Nat) : State := if (v.trk x).wrapPend then s.trackerWrap x else s

theorem wrapIfDue_step (s v : State) (x : Fin 2) : WrapStep x s (s.wrapIfDue v x) := by
  unfold State.wrapIfDue
  split
  · exact (trackerWrap_shows s x).2
  · exact wrapStep_refl x s

theorem wrapIfDue_wraps {s v : State} {x : Fin 2} (h : (v.trk x).wrapPend = true) : Wrapped x s (s.wrapIfDue v x) := by
  unfold State.wrapIfDue
  rw [if_pos h]
  exact (trackerWrap_shows s x).1

/-- Both trackers' wraps, one after the other. -/
def State.wrapTrackers (v : State) : State := (v.wrapIfDue v 0).wrapIfDue v 1

theorem wrapTrackers_wraps (v : State) (x : Fin 2) (h : (v.trk x).wrapPend = true) : Wrapped x v v.wrapTrackers := by
  have h0 := wrapIfDue_step v v 0
  have h1 := wrapIfDue_step (v.wrapIfDue v 0) v 1
  match x, h with
  | 0, h => exact wrapped_after (wrapIfDue_wraps h) (by decide) h1
  | 1, h => exact wrapped_before h0 (by decide) (wrapIfDue_wraps h)

theorem voter_wrapTrackers (v : State) : v.wrapTrackers.voter = v.voter :=
  (wrapIfDue_step (v.wrapIfDue v 0) v 1).voter.trans (wrapIfDue_step v v 0).voter

theorem exec_cycleWrap_trackers {dt : Nat} (hv : s.advance dt = v) (hw : (v.trk 0).wrapPend = true ∨ (v.trk 1).wrapPend = true)
    (hout : v.voter.outWrap = false) : exec (.cycleWrap dt) s = .next (v.wrapTrackers.afterTracker v v.wrapTrackers.sel
      (if v.wrapTrackers.sel = 0 then (v.trk 0).wrapPend else (v.trk 1).wrapPend) false false) := by
  have hstill : v.wrapTrackers.voter.outWrap = false := by rw [voter_wrapTrackers, hout]
  change execCycleWrap dt s = _
  unfold execCycleWrap
  rw [hv]
  extract_lets s1 w0 w1 s2 s3 s4
  have hs3 : s3 = v.wrapTrackers := rfl
  have hs4 : s4 = v.wrapTrackers := by
    simp only [s4, hs3, hstill, Bool.false_eq_true, if_false]
  have hany : (w0 || w1) = true := by simpa [w0, w1, s1] using hw
  rw [if_pos hany, hs4]

/-- Every wrap of a tracker that has taken place is acted on. -/
theorem cycleWrap_trackers {dt : Nat} (hv : s.advance dt = v) (hw : (v.trk 0).wrapPend = true ∨ (v.trk 1).wrapPend = true)
    (hout : v.voter.outWrap = false) : ∃ (w : State) (b : Bool), exec (.cycleWrap dt) s = .next (w.afterTracker v w.sel b false false) ∧
      ∀ x : Fin 2, (v.trk x).wrapPend = true → Wrapped x v w :=
  ⟨_, _, exec_cycleWrap_trackers hv hw hout, wrapTrackers_wraps v⟩

end cycleWrap

-- ── A forward wrap of TRK_OUT (R23, R116, R135) ───────────────────────────────────────────────────────────────────

/-- Registers outside the ARMED block stand, and so do the trackers, the voter, the slots held back, the refresh and the latches that wait. -/
structure ArmStep (s t : State) : Prop where
  words : ∀ a, a < 0x400A0500 ∨ 0x400A0600 ≤ a → t.word a = s.word a
  trks : t.trks = s.trks
  voter : t.voter = s.voter
  heldBack : t.sch.heldBack = s.sch.heldBack
  refreshed : t.sch.refreshed = s.sch.refreshed
  latchPend : t.sch.latchPend = s.sch.latchPend

section output
variable {s t u v : State} {n : Nat}

-- What the slots' flags and the output angle follow

theorem armed_of_words (h : t.word (Reg.SCH_ARMED (n / 32)) = s.word (Reg.SCH_ARMED (n / 32))) : t.armed n = s.armed n :=
  congrArg (fun w => (fieldOf (Fld.SCH_ARMED_ARMED (n / 32)) w).testBit (n % 32)) h

theorem fired_of_words (h : t.word (Reg.SCH_FIRED (n / 32)) = s.word (Reg.SCH_FIRED (n / 32))) : t.fired n = s.fired n :=
  congrArg (fun w => (fieldOf (Fld.SCH_FIRED_FIRED (n / 32)) w).testBit (n % 32)) h

theorem out_of_vsel (h : t.word Reg.TRK_VSEL = s.word Reg.TRK_VSEL) (htrks : t.trks = s.trks) (hvoter : t.voter = s.voter) : t.out = s.out := by
  have hsel : t.sel = s.sel := congrArg (fieldOf Fld.TRK_VSEL_SEL) h
  unfold State.out State.outAcc State.trk
  rw [hsel, htrks, hvoter]

theorem armStep_refl (s : State) : ArmStep s s := ⟨fun _ _ => rfl, rfl, rfl, rfl, rfl, rfl⟩

theorem armStep_trans (h : ArmStep s t) (k : ArmStep t u) : ArmStep s u where
  words := fun a ha => (k.words a ha).trans (h.words a ha)
  trks := k.trks.trans h.trks
  voter := k.voter.trans h.voter
  heldBack := k.heldBack.trans h.heldBack
  refreshed := k.refreshed.trans h.refreshed
  latchPend := k.latchPend.trans h.latchPend

theorem armStep_setArmed (s : State) (hn : n < 2048) (b : Bool) : ArmStep s (s.setArmed n b) where
  words := fun a ha => word_setBit_other s (Fld.SCH_ARMED_ARMED (n / 32)) (n % 32) b (by simp only [Fld.SCH_ARMED_ARMED, Reg.SCH_ARMED]; omega)
  trks := rfl
  voter := rfl
  heldBack := rfl
  refreshed := rfl
  latchPend := rfl

theorem armStep_armHeld (s : State) (hn : n < 2048) : ArmStep s (s.armHeld n) := by
  unfold State.armHeld
  extract_lets d s1
  have h : ArmStep s s1 := armStep_setArmed s hn true
  split
  · split
    · exact armStep_refl s
    · split
      · exact ⟨h.words, h.trks, h.voter, h.heldBack, h.refreshed, h.latchPend⟩
      · exact h
  · exact armStep_refl s

theorem armStep_armAll {l : List Nat} (hl : ∀ n ∈ l, n < 2048) : ∀ s : State, ArmStep s (l.foldl State.armHeld s) := by
  induction l with
  | nil => exact armStep_refl
  | cons n l ih =>
    exact fun s => armStep_trans (armStep_armHeld s (hl n List.mem_cons_self)) (ih (fun m hm => hl m (List.mem_cons_of_mem n hm)) _)

/-- The fired bits after a wrap. -/
def State.clearFired (s : State) : State := (List.range 64).foldl (fun s w => s.setWord (Reg.SCH_FIRED w) 0) s

theorem word_clearWords (l : List Nat) (a : Nat) : ∀ s : State, (l.foldl (fun s w => s.setWord (Reg.SCH_FIRED w) 0) s).word a =
    if ∃ w ∈ l, a = Reg.SCH_FIRED w then 0 else s.word a := by
  induction l with
  | nil => exact fun s => (if_neg (fun ⟨_, h, _⟩ => List.not_mem_nil h)).symm
  | cons w l ih =>
    intro s
    rw [List.foldl_cons, ih, word_setWord]
    by_cases h : ∃ w ∈ l, a = Reg.SCH_FIRED w <;> by_cases ha : a = Reg.SCH_FIRED w <;> simp [h, ha]

theorem fired_of_word_zero {n : Nat} (h : s.word (Reg.SCH_FIRED (n / 32)) = 0) : s.fired n = false := by
  unfold State.fired State.bit State.get
  rw [show (Fld.SCH_FIRED_FIRED (n / 32)).addr = Reg.SCH_FIRED (n / 32) from rfl, h]
  simp [fieldOf]

/-- The voter's mark of the wrap taken, no slot fired, and those held back armed (R116). -/
def State.wrapSlots (v : State) : State :=
  let s1 := ({ v with voter := { v.voter with outWrap := false } } : State).clearFired
  s1.sch.heldBack.foldl State.armHeld (s1.withSch { s1.sch with heldBack := [] })

theorem clearFired_sch (s : State) : s.clearFired.sch = s.sch := by
  unfold State.clearFired
  exact List.foldlRecOn (motive := fun t : State => t.sch = s.sch) (List.range 64) _ rfl (fun t h _ _ => h)
theorem clearFired_voter (s : State) : s.clearFired.voter = s.voter := by
  unfold State.clearFired
  exact List.foldlRecOn (motive := fun t : State => t.voter = s.voter) (List.range 64) _ rfl (fun t h _ _ => h)

theorem wrapSlots_shows (hl : ∀ n ∈ v.sch.heldBack, n < 2048) : (∀ n, n < 2048 → v.wrapSlots.fired n = false) ∧
    v.wrapSlots.sch.heldBack = [] ∧ v.wrapSlots.voter.outWrap = false ∧ v.wrapSlots.sch.refreshed = v.sch.refreshed ∧
    (∀ a, 0x400A0600 ≤ a → v.wrapSlots.word a = v.word a) := by
  obtain ⟨s0, hs0⟩ : ∃ s0, ({ v with voter := { v.voter with outWrap := false } } : State) = s0 := ⟨_, rfl⟩
  have hsch : s0.sch = v.sch := by rw [← hs0]
  have hvoter : s0.voter.outWrap = false := by rw [← hs0]
  have hword : ∀ a, s0.word a = v.word a := fun a => by rw [← hs0]; rfl
  unfold State.wrapSlots
  rw [hs0]
  dsimp only
  have hfired : ∀ a, s0.clearFired.word a = if ∃ w ∈ List.range 64, a = Reg.SCH_FIRED w then 0 else v.word a := fun a => by
    rw [← hword]
    exact word_clearWords _ a s0
  have hsch1 : s0.clearFired.sch = v.sch := (clearFired_sch s0).trans hsch
  have hvoter1 : s0.clearFired.voter.outWrap = false := (congrArg Voter.outWrap (clearFired_voter s0)).trans hvoter
  generalize s0.clearFired = s1 at hfired hsch1 hvoter1 ⊢
  rw [hsch1]
  obtain ⟨hwords, -, hv, hheld, href, -⟩ := armStep_armAll hl (s1.withSch { v.sch with heldBack := [] })
  generalize v.sch.heldBack.foldl State.armHeld (s1.withSch { v.sch with heldBack := [] }) = t at hwords hv hheld href ⊢
  refine ⟨fun n hn => fired_of_word_zero ?_, hheld, ?_, href, fun a ha => ?_⟩
  · refine (hwords _ (Or.inl (by unfold Reg.SCH_FIRED; omega))).trans ((hfired _).trans (if_pos ?_))
    exact ⟨n / 32, List.mem_range.mpr (by omega), rfl⟩
  · rw [hv]
    exact hvoter1
  · refine (hwords a (Or.inr ha)).trans ((hfired a).trans (if_neg ?_))
    rintro ⟨w, hw, rfl⟩
    have := List.mem_range.mp hw
    unfold Reg.SCH_FIRED at ha
    omega

/-- A wrap counts against AUTONOMY, or takes the refresh that has come (R135). -/
theorem countAutonomy_shows (s : State) : (∀ a, a ≠ Reg.SCH_STAT → inIrqBlock a = false → s.countAutonomy.word a = s.word a) ∧
    s.countAutonomy.voter = s.voter ∧ s.countAutonomy.sch.heldBack = s.sch.heldBack ∧ s.countAutonomy.sch.refreshed = false ∧
    (s.sch.refreshed = true → s.countAutonomy.get Fld.SCH_STAT_AUTO_CNT = 0) := by
  have hset : ∀ n a, a ≠ Reg.SCH_STAT → (s.set Fld.SCH_STAT_AUTO_CNT n).word a = s.word a := fun n a ha => by
    rw [State.set, word_setWord, if_neg (show a ≠ Fld.SCH_STAT_AUTO_CNT.addr from ha)]
  unfold State.countAutonomy
  cases href : s.sch.refreshed with
  | true => exact ⟨fun a ha _ => hset 0 a ha, rfl, rfl, rfl, fun _ => get_set s Fld.SCH_STAT_AUTO_CNT 0 (by decide)⟩
  | false =>
    rw [if_neg Bool.false_ne_true]
    extract_lets n s1
    have h1 : s1.voter = s.voter ∧ s1.sch.heldBack = s.sch.heldBack ∧ s1.sch.refreshed = false := ⟨rfl, rfl, href⟩
    have hword : ∀ a, a ≠ Reg.SCH_STAT → s1.word a = s.word a := hset n
    clear_value s1
    obtain ⟨hvoter, hheld, href1⟩ := h1
    split
    · refine ⟨fun a ha hi => (word_irq s1 68 a hi).trans (hword a ha), ?_, ?_, ?_, fun h => absurd h Bool.false_ne_true⟩
      · rw [irq_voter, hvoter]
      · rw [irq_sch, hheld]
      · rw [irq_sch, href1]
    · exact ⟨fun a ha _ => hword a ha, hvoter, hheld, href1, fun h => absurd h Bool.false_ne_true⟩

/-- A wrap counts in the loss-of-host ramp (R23). -/
def State.countRampCycle (s : State) : State :=
  if s.flag Fld.SYS_STAT_HOST_RAMP then s.withSys { s.sys with rampCycles := s.sys.rampCycles + 1 } else s

theorem countRampCycle_eq (s : State) : ∃ x, s.countRampCycle = s.withSys x := by
  unfold State.countRampCycle
  split
  · exact ⟨_, rfl⟩
  · exact ⟨s.sys, rfl⟩

/-- What a wrap of TRK_OUT does, with no adopted values that wait (R116, R212). -/
theorem outputWrap_eq {w : State} (hw : v.wrapSlots.countAutonomy.countRampCycle = w) (h : w.flag Fld.FLO_SYSSTAT_ADOPT_PEND = false) :
    v.outputWrap = w.checkRamp.snapshot false := by
  have heq : v.outputWrap = (if v.wrapSlots.countAutonomy.countRampCycle.flag Fld.FLO_SYSSTAT_ADOPT_PEND
    then v.wrapSlots.countAutonomy.countRampCycle.adoptNow else v.wrapSlots.countAutonomy.countRampCycle).checkRamp.snapshot false := rfl
  rw [heq, hw, h, if_neg Bool.false_ne_true]

theorem does_outputWrap {dt : Nat} (hv : s.advance dt = v) (h0 : (v.trk 0).wrapPend = false) (h1 : (v.trk 1).wrapPend = false)
    (hout : v.voter.outWrap = true) (hadopt : v.flag Fld.FLO_SYSSTAT_ADOPT_PEND = false) (hl : ∀ n, n ∈ v.sch.heldBack → n < 2048) :
    s.does (.cycleWrap dt) (fun u => ∃ w : State, u = w.checkRamp.snapshot false ∧
      (∀ n, n < 2048 → w.fired n = false) ∧ w.sch.heldBack = [] ∧ w.voter.outWrap = false ∧ w.sch.refreshed = false ∧
      (v.sch.refreshed = true → w.get Fld.SCH_STAT_AUTO_CNT = 0)) := by
  obtain ⟨hfired, hheld, hvoter, href, hword⟩ := wrapSlots_shows hl
  obtain ⟨hword', hvoter', hheld', href', hcnt⟩ := countAutonomy_shows v.wrapSlots
  obtain ⟨x, hx⟩ := countRampCycle_eq v.wrapSlots.countAutonomy
  have hflag : v.wrapSlots.countAutonomy.flag Fld.FLO_SYSSTAT_ADOPT_PEND = false := by
    have hsys : v.wrapSlots.countAutonomy.word Reg.FLO_SYSSTAT = v.word Reg.FLO_SYSSTAT :=
      (hword' _ (by decide) (by decide)).trans (hword _ (by decide))
    rw [← hadopt]
    exact congrArg (fun w => fieldOf Fld.FLO_SYSSTAT_ADOPT_PEND w != 0) hsys
  refine ⟨v.outputWrap, ?_, v.wrapSlots.countAutonomy.countRampCycle, outputWrap_eq rfl (by rw [hx]; exact hflag), ?_⟩
  · change execCycleWrap dt s = _
    unfold execCycleWrap
    rw [hv]
    dsimp only
    rw [h0, h1]
    simp only [Bool.false_eq_true, if_false, Bool.or_self, hout, if_true]
  · rw [hx]
    generalize v.wrapSlots.countAutonomy = t at hword' hvoter' hheld' href' hcnt ⊢
    refine ⟨fun n hn => ?_, hheld'.trans hheld, (congrArg Voter.outWrap hvoter').trans hvoter, href', fun h => hcnt (href.trans h)⟩
    have hreg : t.word (Reg.SCH_FIRED (n / 32)) = v.wrapSlots.word (Reg.SCH_FIRED (n / 32)) :=
      hword' _ (by unfold Reg.SCH_FIRED Reg.SCH_STAT; omega) (inIrqBlock_above (by unfold Reg.SCH_FIRED; omega))
    rw [← hfired n hn]
    exact fired_of_words hreg

end output

-- ── What a prepare event keeps while SUP builds a set (R129, R132) ────────────────────────────────────────────────

/-- A step of a prepare event: time, the output angle, the prepare events that wait and those that are marked stand, and source 64 stays
pending. -/
structure PrepStep (s t : State) : Prop where
  now : t.now = s.now
  trks : t.trks = s.trks
  voter : t.voter = s.voter
  prepPend : t.sch.prepPend = s.sch.prepPend
  vsel : t.word Reg.TRK_VSEL = s.word Reg.TRK_VSEL
  mark : t.word Reg.SCH_PREPPEND = s.word Reg.SCH_PREPPEND
  pend : staysPend s t

section steps
variable {s t u : State}

theorem prepStep_refl (s : State) : PrepStep s s := ⟨rfl, rfl, rfl, rfl, rfl, rfl, staysPend_refl s⟩

theorem prepStep_trans (h : PrepStep s t) (k : PrepStep t u) : PrepStep s u where
  now := k.now.trans h.now
  trks := k.trks.trans h.trks
  voter := k.voter.trans h.voter
  prepPend := k.prepPend.trans h.prepPend
  vsel := k.vsel.trans h.vsel
  mark := k.mark.trans h.mark
  pend := staysPend_trans h.pend k.pend

theorem prepStep_ite {c : Prop} [Decidable c] (ht : PrepStep s t) (hu : PrepStep s u) : PrepStep s (if c then t else u) := by
  split
  · exact ht
  · exact hu

theorem prepStep_foldl {α : Type} (f : State → α → State) (hf : ∀ t x, PrepStep t (f t x)) (l : List α) : ∀ s, PrepStep s (l.foldl f s) := by
  induction l with
  | nil => exact prepStep_refl
  | cons x l ih => exact fun s => prepStep_trans (hf s x) (ih _)

/-- A fold that carries a value along with the state. -/
theorem prepStep_fold {α β : Type} (f : β × State → α → β × State) (hf : ∀ p x, PrepStep p.2 (f p x).2) (l : List α) :
    ∀ p, PrepStep p.2 (l.foldl f p).2 := by
  induction l with
  | nil => exact fun p => prepStep_refl p.2
  | cons x l ih => exact fun p => prepStep_trans (hf p x) (ih _)

theorem prepStep_setWord (s : State) {a : Nat} (ha : 0x40030140 ≤ a) (hv : a ≠ Reg.TRK_VSEL) (hm : a ≠ Reg.SCH_PREPPEND) (w : Word) :
    PrepStep s (s.setWord a w) where
  now := rfl
  trks := rfl
  voter := rfl
  prepPend := rfl
  vsel := by rw [word_setWord, if_neg hv.symm]
  mark := by rw [word_setWord, if_neg hm.symm]
  pend := staysPend_of_words fun b _ hb => by rw [word_setWord, if_neg (by omega)]

theorem prepStep_set (s : State) {f : FReg} (ha : 0x40030140 ≤ f.addr) (hv : f.addr ≠ Reg.TRK_VSEL) (hm : f.addr ≠ Reg.SCH_PREPPEND) (v : Nat) :
    PrepStep s (s.set f v) := prepStep_setWord s ha hv hm _

theorem prepStep_raiseFlag (s : State) {f : FReg} (ha : 0x40030140 ≤ f.addr) (hv : f.addr ≠ Reg.TRK_VSEL) (hm : f.addr ≠ Reg.SCH_PREPPEND) :
    PrepStep s (s.raiseFlag f) :=
  prepStep_trans (prepStep_set s ha hv hm 1) ⟨rfl, rfl, rfl, rfl, rfl, rfl, staysPend_of_regs rfl⟩

theorem prepStep_irq (s : State) (n : Nat) : PrepStep s (s.irq n) where
  now := irq_now s n
  trks := irq_trks s n
  voter := irq_voter s n
  prepPend := by rw [irq_sch]
  vsel := word_irq s n _ (by decide)
  mark := word_irq s n _ (by decide)
  pend := staysPend_irq s n

theorem prepStep_floOnly (h : floOnly s t) : PrepStep s t where
  now := by rw [h.1]
  trks := by rw [h.1]
  voter := by rw [h.1]
  prepPend := by rw [h.1]
  vsel := word_of_floOnly h (by decide) (by decide)
  mark := word_of_floOnly h (by decide) (by decide)
  pend := h.2.2

theorem prepStep_takeFree (s : State) : PrepStep s s.takeFree.2 := ⟨rfl, rfl, rfl, rfl, rfl, rfl, staysPend_of_regs rfl⟩

end steps

section inputs
variable (s : State)

theorem prepStep_mapOr (m : Option (List Byte)) (x y : Frac) : PrepStep s (s.mapOr m x y).2 := by
  unfold State.mapOr
  cases m with
  | none => exact prepStep_takeFree s
  | some l => exact prepStep_refl s

theorem prepStep_pressure (kind : Nat) : PrepStep s (s.pressure kind).2 := by
  unfold State.pressure
  split
  · exact prepStep_takeFree s
  · dsimp only
    split
    · exact prepStep_refl s
    · exact prepStep_trans (prepStep_raiseFlag s (by decide) (by decide) (by decide)) (prepStep_irq _ 75)

theorem prepStep_readIfNamed (kind : Nat) : PrepStep s (s.readIfNamed kind).2 := by
  unfold State.readIfNamed
  split
  · exact prepStep_pressure s kind
  · exact prepStep_refl s

theorem prepStep_rail : PrepStep s s.rail.2 := by
  unfold State.rail
  split
  · exact prepStep_pressure s 1
  · exact prepStep_readIfNamed s 1

theorem prepStep_meanSpeed : PrepStep s s.meanSpeed.2 := by
  unfold State.meanSpeed
  dsimp only
  split
  · exact prepStep_takeFree s
  · exact prepStep_refl s

theorem prepStep_govern (n : Frac) (t : Nat) : PrepStep s (s.govern n t) := ⟨rfl, rfl, rfl, rfl, rfl, rfl, staysPend_of_regs rfl⟩

theorem prepStep_writeBucket (q : Nat) : PrepStep s (s.writeBucket q) :=
  prepStep_trans (prepStep_set s (f := Fld.TRK_LOAD_BUCKET 0) (by decide) (by decide) (by decide) _)
    (prepStep_set _ (f := Fld.TRK_LOAD_BUCKET 1) (by decide) (by decide) (by decide) _)

end inputs

-- The plan's rows (R131, R132)

section rows
variable (s : State) (d : DemandIn)

theorem prepStep_rowShare (r : List Byte) : PrepStep s (s.rowShare d r).2 := prepStep_mapOr s _ _ _

theorem prepStep_sharedSum : PrepStep s (s.sharedSum d).2 :=
  prepStep_fold (fun (a : Int × State) r => let v := a.2.rowShare d r; (a.1 + v.1, v.2)) (fun p r => prepStep_rowShare p.2 d r) _ (0, s)

theorem prepStep_rowQuantity (r : List Byte) : PrepStep s (s.rowQuantity d r).2 := by
  unfold State.rowQuantity
  split
  · exact prepStep_refl s
  · split
    · exact prepStep_rowShare s d r
    · exact prepStep_sharedSum s d

theorem prepStep_setSat (ch : Nat) (b : Bool) : PrepStep s (s.setFlag (Fld.WIT_CH_STAT_SAT ch) b) :=
  prepStep_set s (f := Fld.WIT_CH_STAT_SAT ch) (by simp only [Fld.WIT_CH_STAT_SAT, Reg.WIT_CH_STAT]; omega)
    (by simp only [Fld.WIT_CH_STAT_SAT, Reg.WIT_CH_STAT, Reg.TRK_VSEL]; omega)
    (by simp only [Fld.WIT_CH_STAT_SAT, Reg.WIT_CH_STAT, Reg.SCH_PREPPEND]; omega) _

theorem prepStep_rowTime (c ch : Nat) (r : List Byte) (q : Frac) : PrepStep s (s.rowTime d c ch r q).2 := by
  unfold State.rowTime
  split
  · exact prepStep_mapOr s _ _ _
  · extract_lets v t skip a
    have hv : PrepStep s v.2 := prepStep_mapOr s _ _ _
    split
    · exact hv
    · refine prepStep_trans hv (prepStep_ite ?_ (prepStep_setSat v.2 ch false))
      exact prepStep_trans (prepStep_setSat v.2 ch true) (prepStep_irq _ 153)

theorem prepStep_rowDesc (c : Nat) (r : List Byte) : PrepStep s (s.rowDesc d c r).2 := by
  unfold State.rowDesc
  extract_lets valve on ch q t m start
  have hq : PrepStep s q.2 := prepStep_rowQuantity s d r
  split
  · exact hq
  · exact prepStep_trans hq (prepStep_trans (prepStep_rowTime q.2 d c ch r q.1) (prepStep_mapOr t.2 _ _ _))

theorem prepStep_planDescs (c : Nat) : PrepStep s (s.planDescs d c).2 := by
  refine prepStep_fold _ (fun p r => ?_) _ ([], s)
  have hrow := prepStep_rowDesc p.2 d c r
  dsimp only
  split
  · exact hrow
  · exact hrow

theorem prepStep_putDesc (n : Nat) (x : Desc) : PrepStep s (s.putDesc n x) := by
  have hset : ∀ (t : State) (k : Nat) (w : Word), PrepStep t (t.setWord (Reg.SCH_SHADOW n k) w) := fun t k w =>
    prepStep_setWord t (by unfold Reg.SCH_SHADOW; omega) (by unfold Reg.SCH_SHADOW Reg.TRK_VSEL; omega)
      (by unfold Reg.SCH_SHADOW Reg.SCH_PREPPEND; omega) w
  exact prepStep_trans (prepStep_trans (prepStep_trans (hset _ 0 _) (hset _ 1 _)) (hset _ 2 _)) (hset _ 3 _)

theorem prepStep_putSet (c : Nat) (ds : List Desc) : PrepStep s (s.putSet c ds) := by
  refine prepStep_foldl _ (fun t p => ?_) _ s
  split
  · exact prepStep_ite (prepStep_putDesc t _ _) (prepStep_putDesc t _ _)
  · exact prepStep_putDesc t _ _

theorem prepStep_openTxns (mask : Nat) : PrepStep s (s.openTxns mask) := by
  unfold State.openTxns
  split
  · exact prepStep_refl s
  · exact prepStep_trans (prepStep_set s (f := Fld.SCH_TXN_OPEN) (by decide) (by decide) (by decide) _) (prepStep_floOnly (floOnly_mirrorIf _ _))

theorem prepStep_closeTxn (c : Nat) : PrepStep s (s.closeTxn c) := by
  unfold State.closeTxn
  split
  · exact prepStep_refl s
  split
  · exact prepStep_trans (prepStep_set s (f := Fld.SCH_TXN_OPEN) (by decide) (by decide) (by decide) _) (prepStep_floOnly (floOnly_mirrorIf _ _))
  · exact prepStep_trans (prepStep_raiseFlag s (f := Fld.SCH_STAT_CLOSE_REFUSED) (by decide) (by decide) (by decide))
      (prepStep_set _ (f := Fld.SCH_CNT_CLOSE_REF) (by decide) (by decide) (by decide) _)

/-- SUP's work at a prepare event leaves the event marked and its angle as it was (R129). -/
theorem prepStep_buildSet (c : Nat) : PrepStep s (s.buildSet c) := by
  unfold State.buildSet
  extract_lets n s1 q s2 r g d p s3
  have h1 : PrepStep s s1 := prepStep_trans (prepStep_meanSpeed s) (prepStep_ite (prepStep_govern n.2 _ _) (prepStep_refl n.2))
  have h2 : PrepStep s s2 := prepStep_trans h1 (prepStep_writeBucket s1 q)
  have hr : PrepStep s r.2 := prepStep_trans h2 (prepStep_rail s2)
  have hg : PrepStep s g.2 := by
    refine prepStep_trans hr ?_
    unfold g
    split
    · exact prepStep_pressure r.2 2
    · exact prepStep_readIfNamed r.2 2
  have hp : PrepStep s p.2 := by
    refine prepStep_trans hg ?_
    unfold p
    split
    · exact prepStep_refl g.2
    · exact prepStep_planDescs g.2 d c
  have h3 : PrepStep s s3 := prepStep_trans hp (prepStep_trans (prepStep_openTxns p.2 _) (prepStep_putSet _ c p.1))
  exact prepStep_trans h3 (prepStep_trans (prepStep_floOnly (floOnly_mirrorSlots s3 c 0 _)) (prepStep_closeTxn _ c))

end rows

-- ── The prepare event (R129) ──────────────────────────────────────────────────────────────────────────────────────

section prepare
variable {s t v : State}

theorem isPend_pendSource_side (s : State) (host : Bool) {n : Nat} (hn : n < 256) : (s.pendSource host n).isPend host n = true := by
  have hbit : (s.setBit (pendWord host n) (n % 32) true).isPend host n = true := by
    cases host
    · exact bit_setBit s _ true (Nat.le_refl 32) (Nat.mod_lt n (by decide))
    · exact bit_setBit s _ true (Nat.le_refl 32) (Nat.mod_lt n (by decide))
  unfold State.pendSource
  rw [if_neg (by omega)]
  extract_lets s1 s2 t
  split
  · exact hbit
  · exact hbit

theorem staysPend_redeliver (s : State) (n : Nat) : staysPend s (s.redeliver n) := by
  unfold State.redeliver
  split
  · exact staysPend_trans (staysPend_pendSource s false n) (staysPend_pendSource _ true n)
  · exact staysPend_refl s

theorem staysPend_redelivers (l : List Nat) : ∀ s : State, staysPend s (l.foldl State.redeliver s) := by
  induction l with
  | nil => exact staysPend_refl
  | cons n l ih => exact fun s => staysPend_trans (staysPend_redeliver s n) (ih _)

/-- A marked prepare event pends for both sides (R357). -/
theorem isPend_prepare (h : s.word Reg.SCH_PREPPEND ≠ 0) (host : Bool) : s.refreshLevels.isPend host 64 = true := by
  have hfold : s.refreshLevels = [64, 160, 164, 168, 172, 240, 248].foldl State.redeliver s := rfl
  have hholds : s.levelHolds 64 = true := bne_iff_ne.mpr h
  have hfirst : (s.redeliver 64).isPend host 64 = true := by
    unfold State.redeliver
    rw [if_pos hholds]
    cases host with
    | false => exact staysPend_pendSource _ true 64 false 64 (by decide) (isPend_pendSource_side s false (by decide))
    | true => exact isPend_pendSource_side _ true (by decide)
  rw [hfold, List.foldl_cons]
  exact staysPend_redelivers _ _ host 64 (by decide) hfirst

theorem prepStep_refreshLevels (s : State) : PrepStep s s.refreshLevels where
  now := by rw [(irqOnly_refreshLevels s).1]
  trks := by rw [(irqOnly_refreshLevels s).1]
  voter := by rw [(irqOnly_refreshLevels s).1]
  prepPend := by rw [(irqOnly_refreshLevels s).1]
  vsel := (irqOnly_refreshLevels s).2.2 _ (by decide)
  mark := (irqOnly_refreshLevels s).2.2 _ (by decide)
  pend := staysPend_redelivers [64, 160, 164, 168, 172, 240, 248] s

theorem out_of_prepStep (h : PrepStep s t) : t.out = s.out := out_of_vsel h.vsel h.trks h.voter

theorem prepPend_takePrep (v : State) (c : Nat) (h : v.sch.prepPend.testBit c = true) : (v.takePrep c).sch.prepPend.testBit c = false := by
  change (v.sch.prepPend ^^^ 2 ^ c).testBit c = false
  rw [Nat.testBit_xor, h, Nat.testBit_two_pow_self]
  rfl

/-- The mark of a prepare event, with its source (R129). -/
def State.markPrep (s : State) (c : Nat) : State := (s.raiseBit Fld.SCH_PREPPEND_PEND c).refreshLevels

theorem markPrep_shows (s : State) (c : Fin 24) : (s.markPrep c).bit Fld.SCH_PREPPEND_PEND c = true ∧
    (∀ host, (s.markPrep c).isPend host 64 = true) ∧ (s.markPrep c).now = s.now ∧ (s.markPrep c).out = s.out ∧
    (s.markPrep c).sch.prepPend = s.sch.prepPend ∧ s.sameBut (s.markPrep c) [Reg.SCH_PREPPEND] ∧
    (s.markPrep c).flag Fld.SCH_CTRL_DEMAND = s.flag Fld.SCH_CTRL_DEMAND := by
  obtain ⟨t, ht⟩ : ∃ t, s.raiseBit Fld.SCH_PREPPEND_PEND c = t := ⟨_, rfl⟩
  have hbit : t.bit Fld.SCH_PREPPEND_PEND c = true := by
    rw [← ht]
    exact bit_setBit s Fld.SCH_PREPPEND_PEND true (by decide) c.isLt
  have hsame : s.sameBut t [Reg.SCH_PREPPEND] := by
    rw [← ht]
    exact sameBut_set (sameBut_refl s _) Fld.SCH_PREPPEND_PEND List.mem_cons_self _
  have hvsel : t.word Reg.TRK_VSEL = s.word Reg.TRK_VSEL := hsame.1 _ (by decide) (by decide)
  have hkept : t.now = s.now ∧ t.trks = s.trks ∧ t.voter = s.voter ∧ t.sch = s.sch := by
    rw [← ht]
    exact ⟨rfl, rfl, rfl, rfl⟩
  obtain ⟨hnow, htrks, hvoter, hsch⟩ := hkept
  have hne : t.word Reg.SCH_PREPPEND ≠ 0 := by
    intro h0
    unfold State.bit State.get at hbit
    rw [show Fld.SCH_PREPPEND_PEND.addr = Reg.SCH_PREPPEND from rfl, h0] at hbit
    simp [fieldOf] at hbit
  have hstep := prepStep_refreshLevels t
  have hall : s.sameBut t.refreshLevels [Reg.SCH_PREPPEND] := sameBut_irqOnly hsame (irqOnly_refreshLevels t)
  unfold State.markPrep
  rw [ht]
  refine ⟨?_, isPend_prepare hne, hstep.now.trans hnow, ?_, hstep.prepPend.trans (congrArg SchState.prepPend hsch), hall,
    congrArg (· != 0) (sameBut_get hall Fld.SCH_CTRL_DEMAND (by decide) (by decide))⟩
  · rw [← hbit]
    exact congrArg (fun w => (fieldOf Fld.SCH_PREPPEND_PEND w).testBit c) hstep.mark
  · rw [out_of_prepStep hstep]
    exact out_of_vsel hvsel htrks hvoter

/-- The set that SUP builds at the event, where it builds one. -/
def State.buildIfDue (s : State) (c : Nat) : State :=
  if s.flag Fld.SCH_CTRL_DEMAND && s.cylEn c && !s.isDrag && !s.sys.supDown then s.buildSet c else s

theorem prepStep_buildIfDue (s : State) (c : Nat) : PrepStep s (s.buildIfDue c) := prepStep_ite (prepStep_buildSet s c) (prepStep_refl s)

/-- The event noted: its time, its angle and its meter (R129). -/
def State.notePrep (s : State) : State :=
  s.withSch { s.sch with prepAt := s.now, prepAngle := s.out, prepMeter := s.voter.meter }

theorem prepare_eq (s : State) (c : Nat) : s.prepare c = ((s.markPrep c).buildIfDue c).notePrep.mirrorDem.checkRamp := by
  unfold State.prepare State.notePrep State.buildIfDue State.markPrep
  rfl

theorem does_prepareEvent {dt : Nat} (hv : s.advance dt = v) (c : Fin 24) (hon : v.schOn = true) (hen : v.cylEn c = true)
    (hp : v.sch.prepPend.testBit c = true) : s.does (.prepareEvent dt c) (fun u => ∃ w : State, u = w.checkRamp ∧
      w.bit Fld.SCH_PREPPEND_PEND c = true ∧ w.isPend false 64 = true ∧
      w.isPend true 64 = true ∧ w.sch.prepPend.testBit c = false ∧ w.sch.prepAt = v.now ∧ w.sch.prepAngle = v.out ∧
      (v.flag Fld.SCH_CTRL_DEMAND = false → v.sameBut w [Reg.SCH_PREPPEND, Reg.FLO_DROP])) := by
  have hwatched : v.cylWatched c = true := by
    unfold State.cylWatched
    rw [show v.flag (Fld.SCH_CYL_A_EN c) = true from hen, Bool.true_or]
  refine ⟨(v.takePrep c).prepare c, ?_, (((v.takePrep c).markPrep c).buildIfDue c).notePrep.mirrorDem, prepare_eq _ _, ?_⟩
  · change execPrepareEvent dt c s = _
    unfold execPrepareEvent
    rw [hv]
    dsimp only
    rw [hon, hwatched, hp]
    rfl
  obtain ⟨hbit, hpend, hnow, hout, hprep, hsame, hdemand⟩ := markPrep_shows (v.takePrep c) c
  have hnow' : (v.takePrep c).now = v.now := rfl
  have hout' : (v.takePrep c).out = v.out := rfl
  have hsame' : v.sameBut (v.takePrep c) [Reg.SCH_PREPPEND] := sameBut_of_regs (sameBut_refl v _) rfl rfl
  have hdemand' : (v.takePrep c).flag Fld.SCH_CTRL_DEMAND = v.flag Fld.SCH_CTRL_DEMAND := rfl
  have htaken := prepPend_takePrep v c hp
  generalize v.takePrep c = x at hbit hpend hnow hout hprep hsame hdemand hnow' hout' hsame' hdemand' htaken ⊢
  have hstep := prepStep_buildIfDue (x.markPrep c) c
  have hidle : (x.markPrep c).flag Fld.SCH_CTRL_DEMAND = false → (x.markPrep c).buildIfDue c = x.markPrep c := fun h => by
    unfold State.buildIfDue
    rw [h]
    rfl
  generalize x.markPrep c = y at hbit hpend hnow hout hprep hsame hdemand hstep hidle ⊢
  have hangle := out_of_prepStep hstep
  have hmirror := prepStep_floOnly (floOnly_mirrorDem (y.buildIfDue c).notePrep)
  have hflo := floOnly_mirrorDem (y.buildIfDue c).notePrep
  generalize y.buildIfDue c = z at hstep hidle hangle hmirror hflo ⊢
  have hsch : z.notePrep.mirrorDem.sch = z.notePrep.sch := by rw [hflo.1]
  refine ⟨?_, ?_, ?_, ?_, ?_, ?_, fun h => ?_⟩
  · rw [← hbit]
    exact congrArg (fun w => (fieldOf Fld.SCH_PREPPEND_PEND w).testBit c) (hmirror.mark.trans hstep.mark)
  · exact hmirror.pend false 64 (by decide) (hstep.pend false 64 (by decide) (hpend false))
  · exact hmirror.pend true 64 (by decide) (hstep.pend true 64 (by decide) (hpend true))
  · rw [hsch, ← htaken, ← hprep, ← hstep.prepPend]
    rfl
  · rw [hsch, ← hnow', ← hnow, ← hstep.now]
    rfl
  · rw [hsch, ← hout', ← hout, ← hangle]
    rfl
  · have hz := hidle (by rw [hdemand, hdemand', h])
    subst hz
    have hnote : v.sameBut z.notePrep [Reg.SCH_PREPPEND, Reg.FLO_DROP] :=
      sameBut_of_regs (sameBut_mono (sameBut_trans hsame' hsame) (by simp)) rfl rfl
    exact sameBut_mirrored hnote hflo (by simp)

end prepare

-- ── A commit decides the slots of a cylinder (R107, R108) ─────────────────────────────────────────────────────────

section order

theorem mem_putBefore {α : Type} {before : α → α → Bool} {a x : α} (l : List α) : x ∈ putBefore before a l ↔ x = a ∨ x ∈ l := by
  induction l with
  | nil => simp [putBefore]
  | cons b r ih =>
    unfold putBefore
    split
    · simp
    · rw [List.mem_cons, ih, List.mem_cons, or_left_comm]

theorem mem_inOrder {α : Type} {before : α → α → Bool} {x : α} (l : List α) : x ∈ inOrder before l ↔ x ∈ l := by
  have hfold : ∀ r, x ∈ l.foldl (fun r a => putBefore before a r) r ↔ x ∈ l ∨ x ∈ r := by
    induction l with
    | nil => simp
    | cons a l ih =>
      intro r
      rw [List.foldl_cons, ih, mem_putBefore, List.mem_cons, or_left_comm, or_assoc]
  unfold inOrder
  rw [hfold]
  simp

/-- The slots that a commit decides are the enabled ones of the range. -/
theorem mem_decideOrder {s : State} {c n : Nat} : n ∈ s.decideOrder c ↔ n ∈ s.slotsOf c ∧ (s.activeDesc n).en = true := by
  unfold State.decideOrder
  simp only [List.mem_append, mem_inOrder, List.mem_filter]
  cases (s.activeDesc n).isEvent <;> simp

end order

section decide
variable {s t : State} {c n m : Nat}

theorem out_of_armStep (h : ArmStep s t) : t.out = s.out :=
  out_of_vsel (h.words Reg.TRK_VSEL (Or.inl (by decide))) h.trks h.voter

theorem activeDesc_of_armStep (h : ArmStep s t) (n : Nat) : t.activeDesc n = s.activeDesc n :=
  activeDesc_of_words fun k _ => h.words _ (Or.inr (by unfold Reg.SCH_ACTIVE; omega))

theorem fired_of_armStep (h : ArmStep s t) (hn : n < 2048) : t.fired n = s.fired n :=
  fired_of_words (h.words (Reg.SCH_FIRED (n / 32)) (Or.inl (by unfold Reg.SCH_FIRED; omega)))

theorem armed_setArmed (s : State) (n m : Nat) : (s.setArmed n true).armed m = (s.armed m || m == n) := by
  by_cases h : m = n
  · subst h
    rw [beq_self_eq_true, Bool.or_true]
    exact bit_setBit s (Fld.SCH_ARMED_ARMED (m / 32)) true (Nat.le_refl 32) (Nat.mod_lt m (by decide))
  · rw [beq_false_of_ne h, Bool.or_false]
    exact bit_slot_other Fld.SCH_ARMED_ARMED (fun i k e => by simp only [Fld.SCH_ARMED_ARMED, Reg.SCH_ARMED] at e; omega)
      (fun _ => Nat.le_refl 32) s true h

/-- A slot that a commit arms: enabled, not fired, its start ahead (R108). -/
def State.willArm (s : State) (n : Nat) : Prop := (s.activeDesc n).en = true ∧ s.fired n = false ∧ 0 < angDist s.out (s.activeDesc n).start

theorem decideSlot_arms (h : s.willArm n) (hn : n < 2048) : ArmStep s (s.decideSlot c false false false n) ∧
    ∀ m, (s.decideSlot c false false false n).armed m = (s.armed m || m == n) := by
  obtain ⟨hen, hfired, hahead⟩ := h
  unfold State.decideSlot
  extract_lets d
  have hen' : ¬ (!d.en) = true := by rw [show d.en = true from hen]; decide
  have hahead' : 0 < angDist s.out d.start := hahead
  rw [if_neg hen']
  cases harm : s.armed n with
  | true =>
    rw [if_pos rfl, Bool.false_and, if_neg Bool.false_ne_true]
    refine ⟨armStep_refl s, fun m => ?_⟩
    by_cases hm : m = n
    · rw [hm, harm, Bool.true_or]
    · rw [beq_false_of_ne hm, Bool.or_false]
  | false =>
    rw [if_neg Bool.false_ne_true, ite_self, if_neg Bool.false_ne_true, hfired, if_neg Bool.false_ne_true, if_pos hahead']
    exact ⟨armStep_setArmed s hn true, armed_setArmed s n⟩

theorem decideAll_arms {l : List Nat} (hl : ∀ n ∈ l, n < 2048) : ∀ s : State, (∀ n ∈ l, s.willArm n) →
    ArmStep s (l.foldl (fun s n => s.decideSlot c false false false n) s) ∧
    ∀ m, (l.foldl (fun s n => s.decideSlot c false false false n) s).armed m = (s.armed m || decide (m ∈ l)) := by
  induction l with
  | nil => exact fun s _ => ⟨armStep_refl s, fun m => by simp⟩
  | cons n l ih =>
    intro s hall
    have hn := hl n List.mem_cons_self
    have hl' : ∀ k ∈ l, k < 2048 := fun k hk => hl k (List.mem_cons_of_mem n hk)
    obtain ⟨hstep, harmed⟩ := decideSlot_arms (c := c) (hall n List.mem_cons_self) hn
    obtain ⟨hrest, hrestArmed⟩ := ih hl' (s.decideSlot c false false false n) (fun k hk => by
      obtain ⟨hen, hfired, hahead⟩ := hall k (List.mem_cons_of_mem n hk)
      unfold State.willArm
      rw [activeDesc_of_armStep hstep, fired_of_armStep hstep (hl' k hk), out_of_armStep hstep]
      exact ⟨hen, hfired, hahead⟩)
    refine ⟨armStep_trans hstep hrest, fun m => ?_⟩
    rw [List.foldl_cons, hrestArmed, harmed]
    simp only [List.mem_cons, Bool.decide_or, Bool.or_assoc]
    rfl

end decide

-- The set that a commit makes active (R107)

section copy
variable {s t : State} {c : Nat}

/-- One slot's active descriptor takes the shadow's. -/
def State.copySlot (s : State) (n : Nat) : State :=
  (List.range 4).foldl (fun s w => s.setWord (Reg.SCH_ACTIVE n w) (s.word (Reg.SCH_SHADOW n w))) s

theorem copySlot_words (s : State) (n : Nat) : (∀ a, (∀ k, k < 4 → a ≠ Reg.SCH_ACTIVE n k) → (s.copySlot n).word a = s.word a) ∧
    ∀ k, k < 4 → (s.copySlot n).word (Reg.SCH_ACTIVE n k) = s.word (Reg.SCH_SHADOW n k) := by
  have hne : ∀ i j : Nat, i ≠ j → Reg.SCH_ACTIVE n i ≠ Reg.SCH_ACTIVE n j := fun i j h => by simp only [Reg.SCH_ACTIVE]; omega
  have hsh : ∀ i j : Nat, i < 4 → Reg.SCH_SHADOW n i ≠ Reg.SCH_ACTIVE n j := fun i j h => by simp only [Reg.SCH_SHADOW, Reg.SCH_ACTIVE]; omega
  have hlist : List.range 4 = [0, 1, 2, 3] := by decide
  unfold State.copySlot
  rw [hlist]
  simp only [List.foldl_cons, List.foldl_nil]
  refine ⟨fun a ha => ?_, fun k hk => ?_⟩
  · rw [word_setWord, if_neg (ha 3 (by decide)), word_setWord, if_neg (ha 2 (by decide)), word_setWord, if_neg (ha 1 (by decide)),
      word_setWord, if_neg (ha 0 (by decide))]
  · match k, hk with
    | 0, _ => rw [word_setWord, if_neg (hne 0 3 (by decide)), word_setWord, if_neg (hne 0 2 (by decide)), word_setWord,
        if_neg (hne 0 1 (by decide)), word_setWord, if_pos rfl]
    | 1, _ => rw [word_setWord, if_neg (hne 1 3 (by decide)), word_setWord, if_neg (hne 1 2 (by decide)), word_setWord, if_pos rfl,
        word_setWord, if_neg (hsh 1 0 (by decide))]
    | 2, _ => rw [word_setWord, if_neg (hne 2 3 (by decide)), word_setWord, if_pos rfl, word_setWord, if_neg (hsh 2 1 (by decide)),
        word_setWord, if_neg (hsh 2 0 (by decide))]
    | 3, _ => rw [word_setWord, if_pos rfl, word_setWord, if_neg (hsh 3 2 (by decide)), word_setWord, if_neg (hsh 3 1 (by decide)),
        word_setWord, if_neg (hsh 3 0 (by decide))]

theorem copySlots_words {l : List Nat} (hl : ∀ n ∈ l, n < 2048) : ∀ s : State,
    (∀ a, a < 0x400B0000 ∨ 0x400B8000 ≤ a → (l.foldl State.copySlot s).word a = s.word a) ∧
    ∀ n k, n < 2048 → k < 4 → (l.foldl State.copySlot s).word (Reg.SCH_ACTIVE n k) =
      if n ∈ l then s.word (Reg.SCH_SHADOW n k) else s.word (Reg.SCH_ACTIVE n k) := by
  induction l with
  | nil => exact fun s => ⟨fun _ _ => rfl, fun n k _ _ => (if_neg List.not_mem_nil).symm⟩
  | cons m l ih =>
    intro s
    have hm := hl m List.mem_cons_self
    obtain ⟨hother, hown⟩ := copySlot_words s m
    obtain ⟨hrest, hall⟩ := ih (fun k hk => hl k (List.mem_cons_of_mem m hk)) (s.copySlot m)
    refine ⟨fun a ha => (hrest a ha).trans (hother a fun k hk => by unfold Reg.SCH_ACTIVE; omega), fun n k hn hk => ?_⟩
    have hshadow : (s.copySlot m).word (Reg.SCH_SHADOW n k) = s.word (Reg.SCH_SHADOW n k) :=
      hother _ fun j hj => by unfold Reg.SCH_SHADOW Reg.SCH_ACTIVE; omega
    rw [List.foldl_cons, hall n k hn hk, hshadow]
    by_cases hnl : n ∈ l
    · rw [if_pos hnl, if_pos (List.mem_cons_of_mem m hnl)]
    · rw [if_neg hnl]
      by_cases hnm : n = m
      · rw [hnm, hown k hk, if_pos List.mem_cons_self]
      · rw [if_neg (by simp [hnm, hnl])]
        exact hother _ fun j hj => by unfold Reg.SCH_ACTIVE; omega

theorem copySlots_kept (l : List Nat) : ∀ s : State, (l.foldl State.copySlot s).sch = s.sch ∧ (l.foldl State.copySlot s).trks = s.trks ∧
    (l.foldl State.copySlot s).voter = s.voter := by
  induction l with
  | nil => exact fun s => ⟨rfl, rfl, rfl⟩
  | cons m l ih => exact fun s => ih (s.copySlot m)

end copy

-- The steps of a commit, one by one

section stages
variable {s t : State} {c : Nat}

/-- What a commit takes out of the slots before it decides them: with a new set every slot, with the old one those withdrawn. -/
def State.clearSlots (s : State) (c : Nat) (copy noEvent noShot : Bool) : State :=
  (s.commitSlots c).foldl (fun s n =>
    if copy || (if (s.activeDesc n).isEvent then noEvent else noShot) then (if s.armed n then s.cancelSlot c n else s.unhold n) else s) s

/-- The end of a commit: its latch, its count, its source and its cell (R107, R244). -/
def State.finishCommit (s : State) (c : Nat) : State :=
  (((s.set (Fld.SCH_CYL_E_LATCH c) (s.latchFor c)).addWrap Fld.SCH_CNT_COMMITS 1).irq 74).mirrorCommit c false

/-- The decisions on the slots of an enabled cylinder while nothing is withdrawn (R108). -/
def State.decideSet (s : State) (c : Nat) : State := (s.decideOrder c).foldl (fun s n => s.decideSlot c false false false n) s

theorem commitCyl_eq {s1 : State} {copy : Bool} (hen : s.cylEn c = true)
    (hs1 : (if s.txnOpen c then ((s.addWrap Fld.SCH_STAT_STALE_COMMITS 1).irq 65).anom 6
      else if !s.setOk c then ((s.raiseFlag Fld.SCH_STAT_CLOSE_REFUSED).addWrap Fld.SCH_CNT_CLOSE_REF 1).irq 65 else s) = s1)
    (hcopy : (!s.txnOpen c && s.setOk c) = copy) (hout : s1.autonomyOut = false) (hw : s1.withdrawing = false) :
    ∃ y, s.commitCyl false c = ((if copy then (s1.clearSlots c copy false false).copySet c
        else s1.clearSlots c copy false false).decideSet c |>.withSch y).finishCommit c ∧
      y.latchPend = ((if copy then (s1.clearSlots c copy false false).copySet c else s1.clearSlots c copy false false).decideSet c).sch.latchPend := by
  unfold State.commitCyl
  extract_lets stale bad copy' s1' out noEvent noShot s2 s3 s4 x5 s5 x6 s6 x7 s7
  have hs1' : s1' = s1 := by
    rw [← hs1]
    simp only [s1', hen, Bool.not_true, Bool.false_eq_true, if_false]
    by_cases h : s.txnOpen c = true
    · rw [if_pos (show stale = true from h), if_pos h]
    · have hbad : bad = !s.setOk c := by
        simp only [bad, stale, Bool.eq_false_iff.mpr h, Bool.not_false, Bool.true_and]
      rw [if_neg (show ¬ stale = true from h), if_neg h]
      simp only [hbad]
  have hcopy' : copy' = copy := by
    rw [← hcopy]
    simp only [copy', stale, bad, hen]
    cases s.txnOpen c <;> cases s.setOk c <;> rfl
  have hout' : out = false := by simp only [out, hs1', hout]
  have hno : noEvent = false ∧ noShot = false := by
    refine ⟨hout', ?_⟩
    simp only [noShot, hout', hs1', hw, Bool.or_self]
  have hs2 : s2 = s1.clearSlots c copy false false := by
    simp only [s2, hs1', hcopy', hno.1, hno.2]
    rfl
  have hs3 : s3 = if copy then (s1.clearSlots c copy false false).copySet c else s1.clearSlots c copy false false := by
    simp only [s3, hcopy', hs2]
  have hs4 : s4 = s3.decideSet c := by
    simp only [s4, hen, if_true, hno.1, hno.2]
    rfl
  rw [← hs3, ← hs4]
  have h5 : ∃ y, s5 = s4.withSch y ∧ y.latchPend = s4.sch.latchPend := by
    simp only [s5, hout', Bool.not_false, if_true]
    exact ⟨_, rfl, rfl⟩
  clear_value s4
  obtain ⟨y5, hs5, hl5⟩ := h5
  have h6 : ∃ y, s6 = s4.withSch y ∧ y.latchPend = s4.sch.latchPend := by
    simp only [s6, x6, hs5]
    split
    · exact ⟨_, rfl, hl5⟩
    · exact ⟨y5, rfl, hl5⟩
  clear_value s6
  obtain ⟨y6, hs6, hl6⟩ := h6
  have h7 : ∃ y, s7 = s4.withSch y ∧ y.latchPend = s4.sch.latchPend := by
    simp only [s7, x7, hs6]
    exact ⟨_, rfl, hl6⟩
  obtain ⟨y7, hs7, hl7⟩ := h7
  exact ⟨y7, by rw [hs7]; rfl, hl7⟩

/-- The slots of a set that a commit replaces, none of them armed, are at most let go (R113). -/
theorem clearSlots_copies (hl : ∀ n ∈ s.slotsOf c, s.armed n = false) (hen : s.cylEn c = true) :
    ∃ x, s.clearSlots c true false false = s.withSch x ∧ x.latchPend = s.sch.latchPend := by
  have hfold : ∀ (l : List Nat) (t : State), (∀ n ∈ l, t.armed n = false) → ∃ x,
      l.foldl (fun s n => if (true || (if (s.activeDesc n).isEvent then false else false)) = true then
        (if s.armed n then s.cancelSlot c n else s.unhold n) else s) t = t.withSch x ∧ x.latchPend = t.sch.latchPend := by
    intro l
    induction l with
    | nil => exact fun t _ => ⟨t.sch, rfl, rfl⟩
    | cons n l ih =>
      intro t ht
      rw [List.foldl_cons, Bool.true_or, if_pos rfl, ht n List.mem_cons_self, if_neg Bool.false_ne_true]
      obtain ⟨x, hx, hpend⟩ := ih (t.unhold n) (fun m hm => ht m (List.mem_cons_of_mem n hm))
      exact ⟨x, hx, hpend⟩
  unfold State.clearSlots State.commitSlots
  rw [hen, if_pos rfl]
  exact hfold _ s hl

/-- A set that is reused, with nothing withdrawn, keeps its slots (R109). -/
theorem clearSlots_reuses (s : State) (c : Nat) : s.clearSlots c false false false = s := by
  unfold State.clearSlots
  exact List.foldlRecOn (motive := fun t : State => t = s) _ _ rfl (fun t h n _ => by
    rw [Bool.false_or, ite_self, if_neg Bool.false_ne_true, h])

/-- The latch follows the cylinder's registers and the active set of its range (R107). -/
theorem latchFor_of_words (hl : ∀ n ∈ s.slotsOf c, n < 2048) (h : ∀ a, a = Reg.SCH_CYL_A c ∨ a = Reg.SCH_CYL_C c ∨ a = Reg.SCH_CYL_D c ∨
    (0x400B0000 ≤ a ∧ a < 0x400B8000) → t.word a = s.word a) : t.latchFor c = s.latchFor c := by
  have hslots : t.slotsOf c = s.slotsOf c := slotsOf_of_word (h _ (Or.inr (Or.inl rfl)))
  have hen : t.cylEn c = s.cylEn c := congrArg (fun w => fieldOf (Fld.SCH_CYL_A_EN c) w != 0) (h _ (Or.inl rfl))
  have htdc : t.tdc c = s.tdc c := congrArg (fieldOf (Fld.SCH_CYL_A_TDC c)) (h _ (Or.inl rfl))
  have hlead : t.latchLead c = s.latchLead c := congrArg (fieldOf (Fld.SCH_CYL_D_LATCH_LEAD c)) (h _ (Or.inr (Or.inr (Or.inl rfl))))
  have hdescs : (t.slotsOf c).map t.activeDesc = (s.slotsOf c).map s.activeDesc := by
    rw [hslots]
    refine List.map_congr_left fun n hn => activeDesc_of_words fun k hk => h _ (Or.inr (Or.inr (Or.inr ?_)))
    have := hl n hn
    unfold Reg.SCH_ACTIVE
    omega
  unfold State.latchFor State.dists
  rw [hen, htdc, hlead, hdescs]

theorem angAdd_lt (a : Nat) (d : Int) : angAdd a d < 16777216 := by
  unfold angAdd
  omega

theorem finishCommit_shows (s : State) (c : Fin 24) (hl : ∀ n ∈ s.slotsOf c, n < 2048) :
    (∀ a, a ≠ Reg.SCH_CYL_E c → a ≠ Reg.SCH_CNT → a ≠ Reg.FLO_DROP → inIrqBlock a = false → (s.finishCommit c).word a = s.word a) ∧
    (s.finishCommit c).sch = s.sch ∧
    (s.finishCommit c).get Fld.SCH_CNT_COMMITS = (s.get Fld.SCH_CNT_COMMITS + 1) % 2 ^ Fld.SCH_CNT_COMMITS.w ∧
    (s.finishCommit c).get (Fld.SCH_CYL_E_LATCH c) = (s.finishCommit c).latchFor c := by
  obtain ⟨t, ht⟩ : ∃ t, s.set (Fld.SCH_CYL_E_LATCH c) (s.latchFor c) = t := ⟨_, rfl⟩
  have haddr : (Fld.SCH_CYL_E_LATCH c).addr = Reg.SCH_CYL_E c := rfl
  have hlow : Reg.SCH_CYL_E c < 0x400A0500 := by unfold Reg.SCH_CYL_E; omega
  have hhigh : 0x400A0100 ≤ Reg.SCH_CYL_E c := by unfold Reg.SCH_CYL_E; omega
  have htword : ∀ a, a ≠ Reg.SCH_CYL_E c → t.word a = s.word a := fun a ha => by
    rw [← ht, State.set, word_setWord, if_neg (by rw [haddr]; exact ha)]
  have hlatch : t.get (Fld.SCH_CYL_E_LATCH c) = s.latchFor c := by
    rw [← ht, get_set _ _ _ (show 0 + 24 ≤ 32 by decide)]
    exact Nat.mod_eq_of_lt (angAdd_lt _ _)
  have hsch : t.sch = s.sch := by rw [← ht]; rfl
  have hflo := floOnly_mirrorCommit ((t.addWrap Fld.SCH_CNT_COMMITS 1).irq 74) c false
  have hw : s.finishCommit c = ((t.addWrap Fld.SCH_CNT_COMMITS 1).irq 74).mirrorCommit c false := by rw [← ht]; rfl
  rw [hw]
  generalize ((t.addWrap Fld.SCH_CNT_COMMITS 1).irq 74).mirrorCommit c false = w at hflo
  have hcount : ∀ f : FReg, f.addr ≠ Reg.FLO_DROP → inIrqBlock f.addr = false → w.get f = (t.addWrap Fld.SCH_CNT_COMMITS 1).get f := fun f hf hi => by
    rw [get_of_floOnly hflo f hf hi, get_irq _ _ f hi]
  have hword : ∀ a, a ≠ Reg.SCH_CNT → a ≠ Reg.FLO_DROP → inIrqBlock a = false → w.word a = t.word a := fun a ha hf hi => by
    rw [word_of_floOnly hflo hf hi, word_irq _ _ _ hi, State.addWrap, State.set, word_setWord,
      if_neg (show a ≠ Fld.SCH_CNT_COMMITS.addr from ha)]
  have hall : ∀ a, a ≠ Reg.SCH_CYL_E c → a ≠ Reg.SCH_CNT → a ≠ Reg.FLO_DROP → inIrqBlock a = false → w.word a = s.word a :=
    fun a he ha hf hi => (hword a ha hf hi).trans (htword a he)
  refine ⟨hall, ?_, ?_, ?_⟩
  · rw [hflo.1]
    exact (irq_sch _ 74).trans hsch
  · rw [hcount _ (by decide) (by decide), get_addWrap _ _ 1 (by decide)]
    have hcnt : t.get Fld.SCH_CNT_COMMITS = s.get Fld.SCH_CNT_COMMITS :=
      congrArg (fieldOf Fld.SCH_CNT_COMMITS) (htword Reg.SCH_CNT (by unfold Reg.SCH_CNT; omega))
    rw [hcnt]
  · have hsame : w.latchFor c = s.latchFor c := latchFor_of_words hl fun a ha => by
      have hrange : (0x400A0100 ≤ a ∧ a < 0x400A0500 ∨ 0x400B0000 ≤ a ∧ a < 0x400B8000) ∧ a ≠ Reg.SCH_CYL_E c := by
        unfold Reg.SCH_CYL_A Reg.SCH_CYL_C Reg.SCH_CYL_D at ha
        unfold Reg.SCH_CYL_E
        omega
      exact hall a hrange.2 (by unfold Reg.SCH_CNT; omega) (by unfold Reg.FLO_DROP; omega) (inIrqBlock_above (by omega))
    rw [hsame, ← hlatch]
    exact congrArg (fieldOf (Fld.SCH_CYL_E_LATCH c)) (hword (Reg.SCH_CYL_E c) (by unfold Reg.SCH_CNT; omega) (by unfold Reg.FLO_DROP; omega)
      (inIrqBlock_above (by omega)))

end stages

section commit
variable {s v : State} {c : Fin 24}

/-- What a commit leaves of a cylinder's slots, given the state `x` whose active set it decides (R107, R108). -/
theorem committed_shows {x : State} (hl : ∀ n ∈ x.slotsOf c, n < 2048) (harm : ∀ n ∈ x.slotsOf c, x.armed n = false)
    (hset : ∀ n ∈ x.slotsOf c, x.fired n = false ∧ 0 < angDist x.out (x.activeDesc n).start) {y : SchState}
    (hy : y.latchPend = (x.decideSet c).sch.latchPend) {w : State} (hw : ((x.decideSet c).withSch y).finishCommit c = w) :
    (∀ n ∈ x.slotsOf c, (∀ k, k < 4 → w.word (Reg.SCH_ACTIVE n k) = x.word (Reg.SCH_ACTIVE n k)) ∧
      w.armed n = (x.activeDesc n).en ∧ w.fired n = false) ∧
    w.get Fld.SCH_CNT_COMMITS = (x.get Fld.SCH_CNT_COMMITS + 1) % 2 ^ Fld.SCH_CNT_COMMITS.w ∧
    w.get (Fld.SCH_CYL_E_LATCH c) = w.latchFor c ∧ w.sch.latchPend = x.sch.latchPend ∧
    w.word Reg.SCH_STAT = x.word Reg.SCH_STAT ∧ w.word Reg.SCH_TXN = x.word Reg.SCH_TXN := by
  have horder : ∀ n ∈ x.decideOrder c, n < 2048 := fun n hn => hl n (mem_decideOrder.mp hn).1
  obtain ⟨hstep, harmed⟩ := decideAll_arms (c := c) horder x fun n hn => by
    obtain ⟨hn', hen⟩ := mem_decideOrder.mp hn
    exact ⟨hen, hset n hn'⟩
  change ArmStep x (x.decideSet c) at hstep
  change ∀ m, (x.decideSet c).armed m = _ at harmed
  generalize x.decideSet c = d at hstep harmed hy hw
  have hslots : (d.withSch y).slotsOf c = x.slotsOf c :=
    slotsOf_of_word (hstep.words _ (Or.inl (by unfold Reg.SCH_CYL_C; omega)))
  obtain ⟨hword, hsch, hcount, hlatch⟩ := finishCommit_shows (d.withSch y) c (by rw [hslots]; exact hl)
  rw [hw] at hword hsch hcount hlatch
  have hcyl : Reg.SCH_CYL_E c < 0x400A0400 ∧ 0x400A0100 ≤ Reg.SCH_CYL_E c := by unfold Reg.SCH_CYL_E; omega
  have hkept : ∀ a, 0x400A0400 ≤ a → a < 0x400B8000 → w.word a = d.word a := fun a ha hb =>
    hword a (by omega) (by unfold Reg.SCH_CNT; omega) (by unfold Reg.FLO_DROP; omega) (inIrqBlock_above (by omega))
  have hlow : ∀ a, a = Reg.SCH_STAT ∨ a = Reg.SCH_TXN → w.word a = x.word a := fun a ha => by
    have hrange : a < 0x400A0010 ∧ 0x40040000 ≤ a := by unfold Reg.SCH_STAT Reg.SCH_TXN at ha; omega
    refine (hword a (by omega) (by unfold Reg.SCH_CNT; omega) (by unfold Reg.FLO_DROP; omega) (inIrqBlock_above hrange.2)).trans ?_
    exact hstep.words a (Or.inl (by omega))
  refine ⟨fun n hn => ⟨fun k hk => ?_, ?_, ?_⟩, hcount.trans ?_, hlatch, ?_, hlow _ (Or.inl rfl), hlow _ (Or.inr rfl)⟩
  · have hn' := hl n hn
    exact (hkept _ (by unfold Reg.SCH_ACTIVE; omega) (by unfold Reg.SCH_ACTIVE; omega)).trans
      (hstep.words _ (Or.inr (by unfold Reg.SCH_ACTIVE; omega)))
  · have hn' := hl n hn
    have hsame : w.armed n = d.armed n := armed_of_words (hkept (Reg.SCH_ARMED (n / 32)) (by unfold Reg.SCH_ARMED; omega) (by unfold Reg.SCH_ARMED; omega))
    rw [hsame, harmed, harm n hn, Bool.false_or]
    exact Bool.decide_congr (by rw [mem_decideOrder]; simp [hn]) |>.trans (Bool.decide_eq_true)
  · have hn' := hl n hn
    have hsame : w.fired n = d.fired n := fired_of_words (hkept (Reg.SCH_FIRED (n / 32)) (by unfold Reg.SCH_FIRED; omega) (by unfold Reg.SCH_FIRED; omega))
    rw [hsame, fired_of_armStep hstep hn']
    exact (hset n hn).1
  · have hcnt : (d.withSch y).get Fld.SCH_CNT_COMMITS = x.get Fld.SCH_CNT_COMMITS :=
      congrArg (fieldOf Fld.SCH_CNT_COMMITS) (hstep.words Reg.SCH_CNT (Or.inl (by decide)))
    rw [hcnt]
  · rw [hsch]
    exact hy.trans hstep.latchPend

/-- The state whose slots a commit decides when it makes the shadow set active (R107). -/
theorem copied_shows (hen : s.cylEn c = true) (hl : ∀ n ∈ s.slotsOf c, n < 2048) (harm : ∀ n ∈ s.slotsOf c, s.armed n = false) {x : State}
    (hx : (s.clearSlots c true false false).copySet c = x) : x.slotsOf c = s.slotsOf c ∧ (∀ n, x.armed n = s.armed n ∨ 2048 ≤ n) ∧
    (∀ n, x.fired n = s.fired n ∨ 2048 ≤ n) ∧ x.out = s.out ∧ x.sch.latchPend = s.sch.latchPend ∧
    (∀ a, a < 0x400B0000 → x.word a = s.word a) ∧
    ∀ n ∈ s.slotsOf c, (∀ k, k < 4 → x.word (Reg.SCH_ACTIVE n k) = s.word (Reg.SCH_SHADOW n k)) ∧ x.activeDesc n = s.shadowDesc n := by
  obtain ⟨y, hy, hpend⟩ := clearSlots_copies harm hen
  rw [hy] at hx
  have hen' : (s.withSch y).cylEn c = true := hen
  have hslots : (s.withSch y).slotsOf c = s.slotsOf c := rfl
  have hcopy : (s.withSch y).copySet c = (s.slotsOf c).foldl State.copySlot (s.withSch y) := by
    unfold State.copySet
    rw [if_pos hen', hslots]
    rfl
  obtain ⟨hwords, hactive⟩ := copySlots_words hl (s.withSch y)
  obtain ⟨hsch, htrks, hvoter⟩ := copySlots_kept (s.slotsOf c) (s.withSch y)
  rw [← hcopy, hx] at hwords hactive hsch htrks hvoter
  have hlow : ∀ a, a < 0x400B0000 → x.word a = s.word a := fun a ha => hwords a (Or.inl ha)
  have hown : ∀ n ∈ s.slotsOf c, ∀ k, k < 4 → x.word (Reg.SCH_ACTIVE n k) = s.word (Reg.SCH_SHADOW n k) := fun n hn k hk =>
    (hactive n k (hl n hn) hk).trans (if_pos hn)
  refine ⟨slotsOf_of_word (hlow _ (by unfold Reg.SCH_CYL_C; omega)), fun n => ?_, fun n => ?_, ?_, (congrArg SchState.latchPend hsch).trans hpend,
    hlow, fun n hn => ⟨hown n hn, ?_⟩⟩
  · refine (Nat.lt_or_ge n 2048).imp_left fun hn => armed_of_words ?_
    exact hlow (Reg.SCH_ARMED (n / 32)) (by unfold Reg.SCH_ARMED; omega)
  · refine (Nat.lt_or_ge n 2048).imp_left fun hn => fired_of_words ?_
    exact hlow (Reg.SCH_FIRED (n / 32)) (by unfold Reg.SCH_FIRED; omega)
  · exact out_of_vsel (hlow Reg.TRK_VSEL (by decide)) htrks hvoter
  · unfold State.activeDesc State.shadowDesc
    rw [hown n hn 0 (by decide), hown n hn 1 (by decide), hown n hn 2 (by decide), hown n hn 3 (by decide)]

variable (hen : s.cylEn c = true) (hout : s.autonomyOut = false) (hwd : s.withdrawing = false) (hl : ∀ n ∈ s.slotsOf c, n < 2048)
include hen hout hwd hl

/-- A commit of a new set (R107, R108). -/
theorem commitCyl_copies (hrest : ∀ n ∈ s.slotsOf c, s.armed n = false ∧ s.fired n = false ∧ 0 < angDist s.out (s.shadowDesc n).start)
    (hopen : s.txnOpen c = false) (hok : s.setOk c = true) {w : State} (hw : s.commitCyl false c = w) :
    (∀ n ∈ s.slotsOf c, (∀ k, k < 4 → w.word (Reg.SCH_ACTIVE n k) = s.word (Reg.SCH_SHADOW n k)) ∧
      w.armed n = (s.shadowDesc n).en ∧ w.fired n = false) ∧
    w.get Fld.SCH_CNT_COMMITS = (s.get Fld.SCH_CNT_COMMITS + 1) % 2 ^ Fld.SCH_CNT_COMMITS.w ∧
    w.get (Fld.SCH_CYL_E_LATCH c) = w.latchFor c ∧ w.sch.latchPend = s.sch.latchPend := by
  obtain ⟨y, heq, hy⟩ := commitCyl_eq (s1 := s) (copy := true) hen (by rw [hopen, hok]; rfl) (by rw [hopen, hok]; rfl) hout hwd
  rw [if_pos rfl] at heq hy
  obtain ⟨x, hx⟩ : ∃ x, (s.clearSlots c true false false).copySet c = x := ⟨_, rfl⟩
  rw [hx] at heq hy
  obtain ⟨hslots, harmed, hfired, hangle, hpend, hlow, hset⟩ := copied_shows hen hl (fun n hn => (hrest n hn).1) hx
  have hnot : ∀ n ∈ s.slotsOf c, ¬ 2048 ≤ n := fun n hn => Nat.not_le.mpr (hl n hn)
  obtain ⟨hcommitted, hcount, hlatch, hlp, -, -⟩ := committed_shows (x := x) (c := c) (by rw [hslots]; exact hl)
    (by rw [hslots]; exact fun n hn => ((harmed n).resolve_right (hnot n hn)).trans (hrest n hn).1)
    (by
      rw [hslots]
      intro n hn
      rw [hangle, (hset n hn).2]
      exact ⟨((hfired n).resolve_right (hnot n hn)).trans (hrest n hn).2.1, (hrest n hn).2.2⟩)
    hy (heq.symm.trans hw)
  refine ⟨fun n hn => ?_, hcount.trans ?_, hlatch, hlp.trans hpend⟩
  · obtain ⟨hwords, harm, hfire⟩ := hcommitted n (by rw [hslots]; exact hn)
    obtain ⟨hactive, hdesc⟩ := hset n hn
    exact ⟨fun k hk => (hwords k hk).trans (hactive k hk), by rw [harm, hdesc], hfire⟩
  · have hcnt : x.get Fld.SCH_CNT_COMMITS = s.get Fld.SCH_CNT_COMMITS := congrArg (fieldOf Fld.SCH_CNT_COMMITS) (hlow Reg.SCH_CNT (by decide))
    rw [hcnt]

/-- A commit while a transaction is open reuses the set, and counts as stale (R109). -/
theorem commitCyl_reuses (hrest : ∀ n ∈ s.slotsOf c, s.armed n = false ∧ s.fired n = false ∧ 0 < angDist s.out (s.activeDesc n).start)
    (hopen : s.txnOpen c = true) {w : State} (hw : s.commitCyl false c = w) :
    (∀ n ∈ s.slotsOf c, (∀ k, k < 4 → w.word (Reg.SCH_ACTIVE n k) = s.word (Reg.SCH_ACTIVE n k)) ∧ w.armed n = (s.activeDesc n).en) ∧
    w.get Fld.SCH_STAT_STALE_COMMITS = (s.get Fld.SCH_STAT_STALE_COMMITS + 1) % 2 ^ Fld.SCH_STAT_STALE_COMMITS.w ∧ w.txnOpen c = true := by
  obtain ⟨x, hx⟩ : ∃ x, ((s.addWrap Fld.SCH_STAT_STALE_COMMITS 1).irq 65).anom 6 = x := ⟨_, rfl⟩
  have hword : ∀ a, a ≠ Reg.SCH_STAT → inIrqBlock a = false → x.word a = s.word a := fun a ha hi => by
    rw [← hx]
    refine (word_irq _ 65 a hi).trans ?_
    rw [State.addWrap, State.set, word_setWord, if_neg (show a ≠ Fld.SCH_STAT_STALE_COMMITS.addr from ha)]
  have hget : ∀ f : FReg, f.addr = Reg.SCH_STAT → x.get f = (s.addWrap Fld.SCH_STAT_STALE_COMMITS 1).get f := fun f hf => by
    rw [← hx]
    exact get_irq _ 65 f (by rw [hf]; decide)
  have hkept : x.trks = s.trks ∧ x.voter = s.voter ∧ x.sys = s.sys := by
    rw [← hx]
    exact ⟨irq_trks _ 65, irq_voter _ 65, irq_sys _ 65⟩
  obtain ⟨htrks, hvoter, hsys⟩ := hkept
  have hout' : x.autonomyOut = false := by
    rw [← hout]
    unfold State.autonomyOut
    rw [hget Fld.SCH_STAT_AUTO_CNT rfl, State.addWrap, get_set_apart s _ (by decide),
      show x.get Fld.SCH_CTRL_AUTONOMY = s.get Fld.SCH_CTRL_AUTONOMY from congrArg (fieldOf _) (hword Reg.SCH_CTRL (by decide) (by decide))]
  have hwd' : x.withdrawing = false := by
    rw [← hwd]
    unfold State.withdrawing
    rw [hsys, show x.flag Fld.SYS_STAT_HOST_RAMP = s.flag Fld.SYS_STAT_HOST_RAMP from
        congrArg (fun w => fieldOf Fld.SYS_STAT_HOST_RAMP w != 0) (hword Reg.SYS_STAT (by decide) (by decide)),
      show x.flag Fld.SCH_CTRL_DEMAND = s.flag Fld.SCH_CTRL_DEMAND from
        congrArg (fun w => fieldOf Fld.SCH_CTRL_DEMAND w != 0) (hword Reg.SCH_CTRL (by decide) (by decide))]
  obtain ⟨y, heq, hy⟩ := commitCyl_eq (s1 := x) (copy := false) hen (by rw [hopen, if_pos rfl, hx]) (by rw [hopen]; rfl) hout' hwd'
  rw [if_neg Bool.false_ne_true, clearSlots_reuses] at heq hy
  have hhigh : ∀ a, 0x400A0010 ≤ a → x.word a = s.word a := fun a ha =>
    hword a (by unfold Reg.SCH_STAT; omega) (inIrqBlock_above (by omega))
  have hslots : x.slotsOf c = s.slotsOf c := slotsOf_of_word (hhigh _ (by unfold Reg.SCH_CYL_C; omega))
  have hdesc : ∀ n, x.activeDesc n = s.activeDesc n := fun n => activeDesc_of_words fun k _ => hhigh _ (by unfold Reg.SCH_ACTIVE; omega)
  have harmed : ∀ n, x.armed n = s.armed n := fun n =>
    armed_of_words (hhigh (Reg.SCH_ARMED (n / 32)) (by unfold Reg.SCH_ARMED; omega))
  have hfired : ∀ n, x.fired n = s.fired n := fun n =>
    fired_of_words (hhigh (Reg.SCH_FIRED (n / 32)) (by unfold Reg.SCH_FIRED; omega))
  have hangle : x.out = s.out := out_of_vsel (hword Reg.TRK_VSEL (by decide) (by decide)) htrks hvoter
  obtain ⟨hcommitted, -, -, -, hstat, htxn⟩ := committed_shows (x := x) (c := c) (by rw [hslots]; exact hl)
    (by rw [hslots]; exact fun n hn => (harmed n).trans (hrest n hn).1)
    (by
      rw [hslots]
      intro n hn
      rw [hangle, hdesc]
      exact ⟨(hfired n).trans (hrest n hn).2.1, (hrest n hn).2.2⟩)
    hy (heq.symm.trans hw)
  refine ⟨fun n hn => ?_, ?_, ?_⟩
  · obtain ⟨hwords, harm, -⟩ := hcommitted n (by rw [hslots]; exact hn)
    exact ⟨fun k hk => (hwords k hk).trans (hhigh _ (by unfold Reg.SCH_ACTIVE; omega)), by rw [harm, hdesc]⟩
  · exact (congrArg (fieldOf Fld.SCH_STAT_STALE_COMMITS) hstat).trans ((hget Fld.SCH_STAT_STALE_COMMITS rfl).trans (get_addWrap s _ 1 (by decide)))
  · rw [← hopen]
    exact (txnOpen_of_word htxn c).trans (txnOpen_of_word (hword Reg.SCH_TXN (by decide) (by decide)) c)

end commit

-- ── The commit's row (R107, R112) ─────────────────────────────────────────────────────────────────────────────────

theorem latchPend_takeLatch (v : State) (c : Nat) (h : v.sch.latchPend.testBit c = true) : (v.takeLatch c).sch.latchPend.testBit c = false := by
  change (v.sch.latchPend ^^^ 2 ^ c).testBit c = false
  rw [Nat.testBit_xor, h, Nat.testBit_two_pow_self]
  rfl

section commitRow
variable {s v : State} {dt : Nat} {c : Fin 24} (hv : s.advance dt = v) (hon : v.schOn = true) (hen : v.cylEn c = true)
  (hp : v.sch.latchPend.testBit c = true) (hdrag : v.isDrag = false)
include hv hon hen hp hdrag

theorem does_commit {q : State → Prop} (hq : q ((v.takeLatch c).commitCyl false c).checkRamp) : s.does (.commit dt c) q := by
  have hwatched : v.cylWatched c = true := by
    unfold State.cylWatched
    rw [show v.flag (Fld.SCH_CYL_A_EN c) = true from hen, Bool.true_or]
  have hdrag' : (v.takeLatch c).isDrag = false := hdrag
  have hcell : (v.takeLatch c).commitsByCell = false := by
    unfold State.commitsByCell
    rw [hdrag', Bool.false_and, Bool.false_and]
  refine ⟨_, ?_, hq⟩
  change execCommit dt c s = _
  unfold execCommit
  rw [hv]
  dsimp only
  rw [hon, hwatched, hp, hcell, hdrag']
  rfl

variable (hout : v.autonomyOut = false) (hwd : v.withdrawing = false) (hfit : v.slotBase c + v.slotCnt c ≤ 2048)
  (hrest : ∀ n, n ∈ v.slotsOf c → v.armed n = false ∧ v.fired n = false ∧ 0 < angDist v.out (v.shadowDesc n).start ∧
    0 < angDist v.out (v.activeDesc n).start)
include hout hwd hfit hrest

theorem does_commitCopies (hopen : v.txnOpen c = false) (hok : v.setOk c = true) : s.does (.commit dt c) (fun u => ∃ w : State, u = w.checkRamp ∧
    (∀ n k, n ∈ v.slotsOf c → k < 4 → w.word (Reg.SCH_ACTIVE n k) = v.word (Reg.SCH_SHADOW n k)) ∧
    (∀ n, n ∈ v.slotsOf c → w.armed n = (v.shadowDesc n).en ∧ w.fired n = false) ∧
    w.get Fld.SCH_CNT_COMMITS = (v.get Fld.SCH_CNT_COMMITS + 1) % 2 ^ Fld.SCH_CNT_COMMITS.w ∧
    w.get (Fld.SCH_CYL_E_LATCH c) = w.latchFor c ∧ w.sch.latchPend.testBit c = false) := by
  refine does_commit hv hon hen hp hdrag ⟨_, rfl, ?_⟩
  obtain ⟨hslots, hcount, hlatch, hpend⟩ := commitCyl_copies (s := v.takeLatch c) hen hout hwd (fun n => lt_of_mem_slotsOf v hfit)
    (fun n hn => by
      obtain ⟨harm, hfire, hahead, -⟩ := hrest n hn
      exact ⟨harm, hfire, hahead⟩) hopen hok rfl
  refine ⟨fun n k hn hk => (hslots n hn).1 k hk, fun n hn => (hslots n hn).2, hcount, hlatch, ?_⟩
  rw [hpend, latchPend_takeLatch v c hp]

theorem does_commitReuses (hopen : v.txnOpen c = true) : s.does (.commit dt c) (fun u => ∃ w : State, u = w.checkRamp ∧
    (∀ n k, n ∈ v.slotsOf c → k < 4 → w.word (Reg.SCH_ACTIVE n k) = v.word (Reg.SCH_ACTIVE n k)) ∧
    (∀ n, n ∈ v.slotsOf c → w.armed n = (v.activeDesc n).en) ∧
    w.get Fld.SCH_STAT_STALE_COMMITS = (v.get Fld.SCH_STAT_STALE_COMMITS + 1) % 2 ^ Fld.SCH_STAT_STALE_COMMITS.w ∧
    w.txnOpen c = true) := by
  refine does_commit hv hon hen hp hdrag ⟨_, rfl, ?_⟩
  obtain ⟨hslots, hstale, htxn⟩ := commitCyl_reuses (s := v.takeLatch c) hen hout hwd (fun n => lt_of_mem_slotsOf v hfit)
    (fun n hn => by
      obtain ⟨harm, hfire, -, hahead⟩ := hrest n hn
      exact ⟨harm, hfire, hahead⟩) hopen rfl
  exact ⟨fun n k hn hk => (hslots n hn).1 k hk, fun n hn => (hslots n hn).2, hstale, htxn⟩

end commitRow

-- ── The rows together ─────────────────────────────────────────────────────────────────────────────────────────────

/-- Settles O49, row by row: the prepare event by what SUP's set leaves, the commit by the slots that it decides, the wraps by the trackers
and TRK_OUT, and the conversions by their results. -/
theorem schedulerEvents : Obligations.SchedulerEvents := by
  unfold Obligations.SchedulerEvents
  intro s v dt hv
  refine ⟨fun c hon hen hp => does_prepareEvent hv c hon hen hp, ?_, ?_, ?_, fun a code hg hovr => ⟨?_, ?_, ?_⟩⟩
  · intro c hon hen hp hdrag hout hwd hfit hrest
    exact ⟨fun hopen hok => does_commitCopies hv hon hen hp hdrag hout hwd hfit hrest hopen hok,
      fun hopen => does_commitReuses hv hon hen hp hdrag hout hwd hfit hrest hopen⟩
  · intro hw hout
    obtain ⟨w, b, hexec, hwraps⟩ := cycleWrap_trackers hv hw hout
    refine ⟨w, b, hexec, fun x hx => ?_⟩
    obtain ⟨hpend, hat, hdur, hstamps, hnow, hhealth, hbucket⟩ := hwraps x hx
    exact ⟨hpend, hat, hdur, hstamps, hnow, hhealth, hbucket⟩
  · exact fun h0 h1 hout hadopt hl => does_outputWrap hv h0 h1 hout hadopt hl
  · exact fun ain r hain hs hserved => ⟨fun hb hroom => does_sample_room hv hg hovr hs hserved hb hroom,
      fun hb hfull => does_sample_full hv hg hs hserved hb hfull,
      fun b wend period n hb hdue hgoes => does_burstSample hv hg hb hdue hovr hs hserved hgoes⟩
  · intro ain wend period n next hain hs hb hdue hnext
    subst hnext
    exact ⟨fun hgoes hserved hskip hroom => ⟨fun h => does_burstLast hv hg hb hdue hs hovr hain hgoes hserved hskip hroom h,
        fun h1 h2 => does_burstNext hv hg hb hdue hs hovr hgoes hserved hskip hroom h1 h2⟩,
      fun hbegun hend => does_burstEnds hv hg hb hdue hs hbegun hend⟩
  · exact fun i first hs hb hi => ⟨fun hserved => does_scanServed hv hg hs hb hi hserved, fun hserved => does_scanShed hv hg hs hb hi hserved⟩

end Sys2Proof.Machine
